-- ==== Sys2Proof/Word.lean ====
section
/-! DEFINITION. Widths and their plainest arithmetic: bit fields, two's complement and bounded numbers. -/

namespace Sys2Proof

/-- The `w` bits of `x` from bit `lo` upward. -/
def bitsAt (x lo w : Nat) : Nat := (x >>> lo) % 2 ^ w

/-- `x` with its `w` bits from `lo` replaced by those of `v`. -/
def putBits (x lo w v : Nat) : Nat := x - (bitsAt x lo w <<< lo) + ((v % 2 ^ w) <<< lo)

/-- Two's complement reading of a `w`-bit number. -/
def toS (w x : Nat) : Int :=
  if x % 2 ^ w < 2 ^ (w - 1) then (x % 2 ^ w : Nat) else ((x % 2 ^ w : Nat) : Int) - (2 ^ w : Nat)

/-- The `w`-bit two's complement form of `i`. -/
def ofS (w : Nat) (i : Int) : Nat := (i % ((2 ^ w : Nat) : Int)).toNat

/-- One bit. -/
def b2n (b : Bool) : Nat := if b then 1 else 0

/-- `a / b` rounded to the nearest integer, halves upward. -/
def rdivUp (a : Int) (b : Nat) : Int := (2 * a + b) / (2 * (b : Int))

/-- `a` held in the closed range from `lo` to `hi`. -/
def clampI (lo hi a : Int) : Int := max lo (min hi a)

/-- Little-endian bytes of `x`, `n` of them (R6). -/
def leBytes : Nat → Nat → List Nat
  | 0, _ => []
  | n + 1, x => x % 256 :: leBytes n (x / 256)

/-- The number that little-endian bytes spell (R6). -/
def ofLe : List Nat → Nat
  | [] => 0
  | b :: bs => b + 256 * ofLe bs

end Sys2Proof
end

