-- ==== Sys2Proof/Syntax.lean ====
section
/-! DEFINITION. The commands of the block: the rows of the command table with their operands. Physical samples, pin events and the
contents of host memory reach the block only as operands. Instants are sub-tick counts: tick · 64 + sub-tick (R4). -/

namespace Sys2Proof

/-- One entry of a Catalogue directory (R93). `crcOk`: the section bytes match the entry's CRC-32. -/
structure CatSection where
  type : Nat
  version : Nat
  offset : Nat
  length : Nat
  crcOk : Bool
  deriving DecidableEq, Repr, Inhabited

/-- What the Lanes section declares of one lane beyond the RWC fields (R94). -/
structure LaneDecl where
  lane : Nat
  string : Nat
  position : Nat
  holdBeats : Nat
  cellClass : Nat
  serial : Option Nat
  deriving DecidableEq, Repr, Inhabited

/-- Declarations of a Catalogue that no RWC field holds (R94, R105, R253, R286, R287, R430). (DESIGN CHOICE: note 7.) -/
structure CatDecl where
  threePhase : Bool
  strings : Nat
  lanes : List LaneDecl
  applyPhase : Nat
  vdlMv : Nat
  vcMv : Nat
  importKw : Nat
  exportKw : Nat
  hopBeats : Nat
  hopFixed : Nat
  balRank : List Bool
  trunc : List Nat
  preOrder : List Nat
  passiveMinMv : Nat
  holdTolMv : Nat
  passiveTmaxMs : Nat
  activeTmaxMs : Nat
  linkTmaxMs : Nat
  holdTmaxMs : Nat
  holdMs : Nat
  activeSlew : Nat
  linkSlew : Nat
  bMin : Nat
  vdlSlot : Nat
  capSlot : List Nat
  curSlot : List Nat
  balSlot : List Nat
  psSlot : List Nat
  fluxSlot : List Nat
  preds : List (Nat × Nat)
  syncCh : List (Option Nat)
  deriving DecidableEq, Repr, Inhabited

/-- A Catalogue as it lies in host memory or in MRAM (R93): its bytes, the public key its signature is offered with (R95: a key slot holds only the
digest), and what its sections give, which the spec lays out for the Safety section alone: the RWC field values (key of the field, value) and the
other declarations. (DESIGN CHOICE: note 7.) -/
structure CatFile where
  bytes : List Nat
  key : List Nat
  settings : List (Nat × Nat)
  decl : CatDecl
  deriving DecidableEq, Repr, Inhabited

/-- A Catalogue as read (R93): its header, its directory, the outcome of the signature check, the RWC field values its sections give
(key of the field, value), the bytes of its Safety section and its other declarations. (DESIGN CHOICE: note 7.) -/
structure CatImage where
  magic : Nat
  format : Nat
  device : Nat
  reservedZero : Bool
  length : Nat
  sections : Nat
  catId : Nat
  revision : Nat
  keySlot : Nat
  keyDigest : Nat
  sigOk : Bool
  dir : List CatSection
  settings : List (Nat × Nat)
  safety : List Nat
  decl : CatDecl
  deriving DecidableEq, Repr, Inhabited

/-- A firmware image (R89): versions, whether its signature verifies and whether its key digest matches the ROM. (DESIGN CHOICE: note 7.) -/
structure FwImage where
  version : Nat
  security : Nat
  sigOk : Bool
  keyOk : Bool
  deriving DecidableEq, Repr, Inhabited

/-- The data a command fetches between admission and its effect beat (R577). (DESIGN CHOICE: note 7.) -/
inductive Payload where
  | none
  | fetchError
  | firmware (x : FwImage)
  | key (point : List Nat)
  | keyChange (signer : Option Nat) (enrol : Option (Nat × Nat)) (revoke : Option Nat)
  | catalogue (x : CatFile)
  | bytes (x : List Nat)
  | words (x : List Nat)
  deriving DecidableEq, Repr, Inhabited

/-- An admitted command (R120, R125): where it came from, its admission sequence, and its parameters. -/
structure HostCmd where
  seq : Nat
  q : Nat
  func : Nat
  index : Nat
  tag : Nat
  beat : Nat
  noIrq : Bool
  target : Nat
  p : List Nat
  payload : Payload
  deriving DecidableEq, Repr, Inhabited

/-- The result of fetching one descriptor (R125, R142): its 16 words, or an error; with the data the command fetches later (R577). (DESIGN CHOICE: note 7.) -/
structure Fetch where
  error : Bool
  words : List Nat
  payload : Payload
  deriving DecidableEq, Repr, Inhabited

/-- What the host has set in a function's configuration space (R109, R143): Bus Master Enable, the power state D3hot, MSI-X Enable and Function Mask, the
programmed payload and read request sizes in bytes. -/
structure PcieFn where
  busMaster : Bool
  d3hot : Bool
  msixOn : Bool
  msixMask : Bool
  payload : Nat
  readReq : Nat
  deriving DecidableEq, Repr, Inhabited

/-- Where a host write goes (R110, R143): the register window, the doorbells and MSI-X structures, or a function's configuration space, with the settings
it leaves there. -/
inductive Target
  | bar0
  | bar2
  | config (x : PcieFn)
  deriving DecidableEq, Repr, Inhabited

/-- A write from a function: its target, offset, bytes and value (R110, R111). -/
structure RegWrite where
  f : Fin 2
  target : Target
  offset : Nat
  bytes : Nat
  v : Nat
  deriving DecidableEq, Repr, Inhabited

/-- Where a host read goes (R109, R110): a function's register window, its doorbells and MSI-X structures, or its configuration space. -/
inductive Space | bar0 | bar2 | config
  deriving DecidableEq, Repr, Inhabited

/-- A host read (R8, R110): the space, the offset and the number of bytes. -/
structure ReadAt where
  space : Space
  offset : Nat
  bytes : Nat
  deriving DecidableEq, Repr, Inhabited

/-- R43, R44: which supplies are there when the Reserve domain starts: VIN, a usable VKEEP, and VSDO. -/
structure Supplies where
  vin : Bool
  vkeep : Bool
  vsdo : Bool
  deriving DecidableEq, Repr, Inhabited

/-- R44, R56, R85: the inputs whose level the Reserve domain watches: WAKE0 and WAKE1, CATP, VIN at VWARN and at VWARN + 0.5 V, VKEEP at 2.7 V, VSDO. -/
inductive ReserveInput | wake0 | wake1 | catp | vwarn | vinGood | vkeep | vsdo
  deriving DecidableEq, Repr, Inhabited

/-- R56: the level of such an input and for how many Reserve cycles it has had it; CATP counts as high until it is 30 mV below its threshold. -/
structure WakeLevel where
  input : ReserveInput
  high : Bool
  cycles : Nat
  deriving DecidableEq, Repr, Inhabited

/-- R56: the level of CANn_RXD and for how many Reserve cycles it has had it. -/
structure CanLevel where
  n : Fin 2
  low : Bool
  cycles : Nat
  deriving DecidableEq, Repr, Inhabited

/-- R188: a header under test: whether it is valid, and the tick by which it has ended. -/
structure HeaderTest where
  valid : Bool
  end_ : Nat
  deriving DecidableEq, Repr, Inhabited

/-- R195, R199: bit errors found in TP2, and the UI since the last. -/
structure Tp2Check where
  errors : Nat
  clean : Nat
  deriving DecidableEq, Repr, Inhabited

/-- R214, R216: how an upstream message arrived (`bad` as in `Instr`) and its BEAT. -/
structure UpHead where
  bad : Fin 4
  beat : Nat
  deriving DecidableEq, Repr, Inhabited

/-- R192, R201: FB_REQ of the IDLE blocks received, and how many they are. -/
structure IdleRun where
  fbReq : Bool
  count : Nat
  deriving DecidableEq, Repr, Inhabited

/-- R370: a trip input turns active, or inactive, at an instant. -/
structure Edge where
  active : Bool
  instant : Nat
  deriving DecidableEq, Repr, Inhabited

/-- R382: the high time of a status-carrier frame in ticks, and the tick at which the frame ended. -/
structure FrameHigh where
  ticks : Nat
  end_ : Nat
  deriving DecidableEq, Repr, Inhabited

/-- R388: a Hall state and in how many consecutive output-stage ticks it was sampled. -/
structure HallRun where
  state : Fin 8
  samples : Nat
  deriving DecidableEq, Repr, Inhabited

/-- R504: a level and in how many consecutive samples it was read. -/
structure LevelRun where
  high : Bool
  samples : Nat
  deriving DecidableEq, Repr, Inhabited

/-- CAP_UP (R238), field by field; `reservedZero` for its reserved bits. -/
structure CapUp where
  beat : Nat
  protoMajor : Nat
  protoMinor : Nat
  cellClass : Nat
  holdBeats : Nat
  string : Nat
  position : Nat
  dnSlots : Nat
  prepTicks : Nat
  serial : Nat
  deadtime : Nat
  minPulse : Nat
  dabDeadtime : Nat
  sampleDelay : Nat
  bypassKind : Nat
  autoBypass : Bool
  fs : List Nat
  prbsErr : Nat
  deriving DecidableEq, Repr, Inhabited

/-- An ECHO (R205, R206): identifier, turnaround, and the time from the MARK's departure to the ECHO's arrival, in sub-ticks. -/
structure Echo where
  id : Nat
  turnaround : Nat
  elapsed : Nat
  deriving DecidableEq, Repr, Inhabited

/-- What the line layer counted since its last report, up to the end of a quality window (R200): corrected bytes and frames, uncorrectable frames,
invalid headers, stuffing violations and unknown control blocks (R210). -/
structure FrameCounts where
  corrBytes : Nat
  corrFrames : Nat
  uncorr : Nat
  invalid : Nat
  stuffing : Nat
  unknown : Nat
  deriving DecidableEq, Repr, Inhabited

/-- An intact upstream SAMPLE (R222): sequence number, beat, part, clip flag and 24 codes, sample by sample, channel by channel. -/
structure SampleMsg where
  seq : Nat
  beat : Nat
  part : Nat
  sat : Bool
  codes : List Int
  deriving DecidableEq, Repr, Inhabited

/-- An intact upstream STATUS (R225): its words from 0x08 to 0x18. -/
structure StatusMsg where
  seq : Nat
  beat : Nat
  w08 : Nat
  applied : Nat
  tripMask : Nat
  lastCtrlSeq : Nat
  lateCnt : Nat
  discardCnt : Nat
  unsentCnt : Nat
  deriving DecidableEq, Repr, Inhabited

/-- An intact CAPTURE_PAGE (R227). -/
structure PageMsg where
  seq : Nat
  beat : Nat
  page : Nat
  frozen : Bool
  data : List Nat
  deriving DecidableEq, Repr, Inhabited

/-- Raw codes converted on the sense inputs during the beat that ends, and the DC-link and metering values latched with them (R330, R331, R429). -/
structure SensedBeat where
  sense : List (List Nat)
  deriving DecidableEq, Repr, Inhabited

/-- Latest phase, over the lanes, at which a burst's last part was delivered (R328). -/
structure SensedLink where
  upLatest : Nat
  deriving DecidableEq, Repr, Inhabited

/-- The raw phase-current codes of the period that ends at a boundary (R331). -/
structure PhaseMean where
  codes : List Nat
  deriving DecidableEq, Repr, Inhabited

/-- A modulator bit stream over the MCLK periods since the sample before (R421): the input's level at each rising and each falling edge, oldest first. -/
structure MbWave where
  rise : List Bool
  fall : List Bool
  deriving DecidableEq, Repr, Inhabited

/-- ENC2_A over an SSI frame (R404): its level at the frame start, and the ticks after that at which it changes. -/
structure SsiFrame where
  high : Bool
  turns : List Nat
  deriving DecidableEq, Repr, Inhabited

/-- The fields of an Announce that the default best master clock algorithm compares (R463, IEEE 1588-2019). -/
structure Announce where
  domain : Nat
  priority1 : Nat
  clockClass : Nat
  accuracy : Nat
  variance : Nat
  priority2 : Nat
  identity : Nat
  stepsRemoved : Nat
  sender : Nat
  logInterval : Int
  /-- It comes over UDP rather than in a Layer 2 frame (R459). -/
  udp : Bool
  deriving DecidableEq, Repr, Inhabited

/-- A Sync, Follow_Up or Pdelay_Req (R459, R463): over UDP or in Layer 2, sender, domain, sequence, one or two step, the instant at which the receiver inside
the module finds it and the block and bit position it measures (sub-ticks), the origin time in ns and the correction in 2^-16 ns. -/
structure PtpSync where
  udp : Bool
  domain : Nat
  sender : Nat
  seq : Nat
  twoStep : Bool
  rx : Nat
  pos : Nat
  origin : Nat
  correction : Int
  deriving DecidableEq, Repr, Inhabited

/-- A Delay_Resp, or a Pdelay_Resp with its follow-up (R463): the sequence number of the request it answers, the instant and position of its receipt as in a
Sync, the receipt and answer times of the peer in ns, and the correction in 2^-16 ns. -/
structure PtpDelay where
  udp : Bool
  domain : Nat
  sender : Nat
  seq : Nat
  rx : Nat
  pos : Nat
  peerRx : Int
  peerTx : Int
  correction : Int
  deriving DecidableEq, Repr, Inhabited

/-- A frame arriving on a port (R459, R461, R462): its bytes without the frame check sequence, the instant and position of its receipt as in a Sync, and the
instant at which the other port's transmitter takes it. -/
structure EthFrame where
  bytes : List Nat
  rx : Nat
  pos : Nat
  tx : Nat
  deriving DecidableEq, Repr, Inhabited

/-- The pins of a port's small-form-factor module (R458, R191), and for how many ticks they have read so without a break. -/
structure EthModule where
  port : Fin 2
  absent : Bool
  los : Bool
  ticks : Nat
  deriving DecidableEq, Repr, Inhabited

/-- A periodic transmit frame, and whether the bus has taken the one it sent before (R473). -/
structure CanSlot where
  frame : Fin 4
  taken : Bool
  deriving DecidableEq, Repr, Inhabited

/-- What a CAN controller has met on the bus (R471): errors as a transmitter and as a receiver, or 128 occurrences of 11 recessive bits. -/
structure CanErrors where
  tx : Nat
  rx : Nat
  recovered : Bool
  deriving DecidableEq, Repr, Inhabited

/-- An intact CAN frame (R472). -/
structure CanFrame where
  id : Nat
  ide : Bool
  fdf : Bool
  data : List Nat
  deriving DecidableEq, Repr, Inhabited

/-- A failure that a diagnostic of R513 detects, with what its event carries. -/
inductive Diag where
  | lockstep
  | permit
  | clock
  | disagree (pair : Fin 8)
  | readback (output : Fin 2) (tenthV : Nat)
  | loop
  | paramCrc (part : Fin 2) (found : Nat)
  deriving DecidableEq, Repr, Inhabited

/-- The readings of a housekeeping round (R525, R526): the sum of the 64 codes of each AN input, the value of each on-die point 32 to 39, VIN and VKEEP as binary32 words. Cell items come from the bursts. -/
structure HkRound where
  an : List Nat
  die : List Nat
  vin : Nat
  vkeep : Nat
  deriving DecidableEq, Repr, Inhabited


/-- The commands: one constructor per row of spec/opcode_table.json, in the table's order. `bad` of an upstream message (R214): 0 intact, 1 its CRC
fails, 2 invalid otherwise, 3 it touches an errored block. (DESIGN CHOICE: notes 7, 121.) -/
inductive Instr where
  /-- R43. -/
  | reserveStart (testEn : Bool) (supplies : Supplies)
  /-- R43. -/
  | reserveReset
  /-- R45. -/
  | vinBelowVwarn
  /-- R45. -/
  | saveWindowEnd
  /-- R43. -/
  | vinBelow4v4
  /-- R44. -/
  | vsdoLost
  /-- R42. -/
  | mrstNLow
  /-- R42. -/
  | perstNLow
  /-- R143. -/
  | pcieLinkLoss
  /-- R143. -/
  | functionLevelReset (f : Fin 2)
  /-- R90. -/
  | mainResetRelease (selfTest : Bool)
  /-- R88. -/
  | keeperWdExpiry (core : Fin 2)
  /-- R88. -/
  | keeperWdReset
  /-- R54. -/
  | xkeepRcSwitch
  /-- R54. -/
  | xkeepRetry (good : Nat)
  /-- R56. -/
  | wakePin (x : WakeLevel)
  /-- R56. -/
  | catpWake
  /-- R56. -/
  | safetyInputWake (n : Fin 8)
  /-- R57. -/
  | canWake (x : CanLevel)
  /-- R56. -/
  | alarm
  /-- R56. -/
  | vinReturn
  /-- R63. -/
  | wakeSequence
  /-- R62. -/
  | sleepRestartDelay
  /-- R60. -/
  | idleSleepTimeout
  /-- R55. -/
  | tickRecordWrite
  /-- R64. -/
  | pllLock (p : Fin 4)
  /-- R65. -/
  | pllStopTimeout (p : Fin 4)
  /-- R69. -/
  | pllLockLost (p : Fin 4)
  /-- R69. -/
  | refclkLost
  /-- R69. -/
  | pllLossReset
  /-- R71. -/
  | pllsHopFreqWrite (f : Fin 2) (h : Fin 16) (v : Nat)
  /-- R71. -/
  | pllsHopSearchDone (h : Fin 16)
  /-- R72. -/
  | pllsSelWrite (f : Fin 2) (v : Nat)
  /-- R72. -/
  | pllsHopSwitch
  /-- R73. -/
  | syncInEdge (instant : Nat)
  /-- R74. -/
  | syncInLost
  /-- R75. -/
  | pllsPstepWrite (f : Fin 2) (v : Nat)
  /-- R75. -/
  | pllsPstepDone
  /-- R76. -/
  | loanChipBudgetWrite (f : Fin 2) (v : Nat)
  /-- R76. -/
  | loanSiteBudgetWrite (f : Fin 2) (v : Nat)
  /-- R78. -/
  | loanGrant (b : Fin 2)
  /-- R79. -/
  | loanRefusedWait (op : Fin 11) (inst : Nat)
  /-- R77. -/
  | lpddr5SelfRefreshEntry
  /-- R77. -/
  | lpddr5AccessAfterRefresh
  /-- R10. -/
  | registerWrite (w : RegWrite)
  /-- R160. -/
  | anchorTimed
  /-- R12. -/
  | glbSatclrWrite (f : Fin 2) (v : Nat)
  /-- R488. -/
  | regForceWrite (f : Fin 2) (w : Fin 8) (v : Nat)
  /-- R454. -/
  | chrSnapTake (f : Fin 2) (v : Nat)
  /-- R457. -/
  | chrSetAtWrite (f : Fin 2) (v : Nat)
  /-- R457. -/
  | chrSetApply
  /-- R186. -/
  | laneSlipWrite (f : Fin 2) (k : Fin 96) (v : Nat)
  /-- R199. -/
  | laneTestHoldWrite (f : Fin 2) (k : Fin 96) (v : Nat)
  /-- R368. -/
  | pwForceWrite (f : Fin 2) (c : Fin 32) (v : Nat)
  /-- R116. -/
  | ringCtrlWrite (f : Fin 2) (r : Fin 44) (v : Nat)
  /-- R118. -/
  | cmdqTailDoorbell (f : Fin 2) (q : Fin 16) (v : Nat)
  /-- R118. -/
  | cplqHeadDoorbell (f : Fin 2) (q : Fin 16) (v : Nat)
  /-- R118. -/
  | evqHeadDoorbell (f : Fin 2) (e : Fin 4) (v : Nat)
  /-- R118. -/
  | strmHeadDoorbell (f : Fin 2) (s : Fin 8) (v : Nat)
  /-- R125. -/
  | descriptorAdmission (q : Fin 16) (x : Fetch)
  /-- R142. -/
  | ringHostError (r : Fin 44) (write : Bool)
  /-- R145. -/
  | hostWdExpiry
  /-- R138. -/
  | msixHoldoffExpiry (f : Fin 2) (v : Fin 64)
  /-- R140. -/
  | streamRecord (s : Fin 8)
  /-- R140. -/
  | streamPageAge (s : Fin 8)
  /-- R122. -/
  | nop (c : HostCmd)
  /-- R60. -/
  | sleep (c : HostCmd)
  /-- R87. -/
  | deviceReset (c : HostCmd)
  /-- R89. -/
  | fwUpdate (c : HostCmd)
  /-- R95. -/
  | keyEnrol (c : HostCmd)
  /-- R95. -/
  | keyChange (c : HostCmd)
  /-- R96. -/
  | catLoad (c : HostCmd)
  /-- R103. -/
  | catUnload (c : HostCmd)
  /-- R97. -/
  | setFloor (c : HostCmd)
  /-- R101. -/
  | stageRetry (c : HostCmd)
  /-- R152. -/
  | safetyCommitStage (c : HostCmd)
  /-- R152. -/
  | safetyCrcDone (faultC faultD : Nat)
  /-- R154. -/
  | safetyCommitConfirm (c : HostCmd)
  /-- R155. -/
  | safetyCommitDiscard (c : HostCmd)
  /-- R104. -/
  | start (c : HostCmd)
  /-- R279. -/
  | stop (c : HostCmd)
  /-- R103. -/
  | release (c : HostCmd)
  /-- R516. -/
  | lockoutReset (c : HostCmd)
  /-- R282. -/
  | arraySetVdl (c : HostCmd)
  /-- R282. -/
  | arraySetLimits (c : HostCmd)
  /-- R282. -/
  | arraySetVc (c : HostCmd)
  /-- R282. -/
  | arraySetIq (c : HostCmd)
  /-- R261. -/
  | arraySetBalMode (c : HostCmd)
  /-- R282. -/
  | arraySetHopping (c : HostCmd)
  /-- R282. -/
  | arraySetApplyPhase (c : HostCmd)
  /-- R283. -/
  | cellBypass (c : HostCmd)
  /-- R272. -/
  | cellRestore (c : HostCmd)
  /-- R302. -/
  | slotWriteCoefficients (c : HostCmd)
  /-- R302. -/
  | slotWriteLimits (c : HostCmd)
  /-- R302. -/
  | slotWriteInputs (c : HostCmd)
  /-- R302. -/
  | slotWriteFeedForward (c : HostCmd)
  /-- R302. -/
  | slotWriteHistoryPreset (c : HostCmd)
  /-- R303. -/
  | slotWriteConfiguration (c : HostCmd)
  /-- R302. -/
  | slotWriteInputScale (c : HostCmd)
  /-- R304. -/
  | tableWrite (c : HostCmd)
  /-- R354. -/
  | outputSetVSet (c : HostCmd)
  /-- R354. -/
  | outputSetIset (c : HostCmd)
  /-- R354. -/
  | outputSetEnables (c : HostCmd)
  /-- R354. -/
  | outputSetTrunc (c : HostCmd)
  /-- R348. -/
  | groupEnable (c : HostCmd)
  /-- R349. -/
  | groupDisable (c : HostCmd)
  /-- R412. -/
  | moveTo (c : HostCmd)
  /-- R412. -/
  | track (c : HostCmd)
  /-- R412. -/
  | hold (c : HostCmd)
  /-- R409. -/
  | driveOff (c : HostCmd)
  /-- R412. -/
  | home (c : HostCmd)
  /-- R412. -/
  | park (c : HostCmd)
  /-- R497. -/
  | archiveTrigger (c : HostCmd)
  /-- R497. -/
  | archiveDump (c : HostCmd)
  /-- R497. -/
  | archiveRelease (c : HostCmd)
  /-- R163. -/
  | logRead (c : HostCmd)
  /-- R163. -/
  | logReadDone
  /-- R164. -/
  | logAck (c : HostCmd)
  /-- R100. -/
  | xcvrCheckTimeout (k : Fin 96)
  /-- R101. -/
  | enterLinked
  /-- R104. -/
  | enterPrecharge
  /-- R104. -/
  | startLockTimeout
  /-- R105. -/
  | prechargePhaseEnd (s : Fin 6)
  /-- R107. -/
  | prechargeTimeout (s : Fin 6)
  /-- R279. -/
  | arrayZeroPower
  /-- R191. -/
  | lanePrsLost (k : Fin 96)
  /-- R192. -/
  | laneDetectEntry (k : Fin 96)
  /-- R192. -/
  | laneTrainStart (k : Fin 96)
  /-- R191. -/
  | laneLos (k : Fin 96)
  /-- R195: bit errors on upstream TP2 since the last report, and the UI since the last of them. -/
  | laneSymbolLock (k : Fin 96) (x : Tp2Check)
  /-- R188: the headers tested since the last report, the oldest first: whether each was valid. -/
  | laneBlockLock (k : Fin 96) (first : HeaderTest) (rest : List HeaderTest)
  /-- R189: the frames decoded since the last report, the oldest first: the bytes corrected in each; more than 4 stand for uncorrectable. -/
  | laneFrameLock (k : Fin 96) (frames : List Nat)
  /-- R195. -/
  | laneLockEntry (k : Fin 96)
  /-- R195. -/
  | laneAttemptTimeout (k : Fin 96)
  /-- R192. -/
  | laneLockTimeout (k : Fin 96)
  /-- R195. -/
  | laneRetryGapEnd (k : Fin 96)
  /-- R192. -/
  | laneExchangeEntry (k : Fin 96)
  /-- R238. -/
  | capUp (k : Fin 96) (bad : Fin 4) (c : CapUp)
  /-- R206. -/
  | echo (k : Fin 96) (e : Echo)
  /-- R206. -/
  | echoTimeout (k : Fin 96) (id : Fin 16)
  /-- R236. -/
  | tsyncReport (k : Fin 96) (h : UpHead) (index : Nat) (e : Int)
  /-- R192. -/
  | laneExchangeTimeout (k : Fin 96)
  /-- R209. -/
  | laneRttRepeat (k : Fin 96)
  /-- R200. -/
  | laneQualityWindowEnd (k : Fin 96) (c : FrameCounts)
  /-- R195, R201: consecutive IDLE blocks that say the same. -/
  | idle (k : Fin 96) (rxLocked : Bool) (x : IdleRun)
  /-- R202. -/
  | shift (k : Fin 96) (count : Nat)
  /-- R202. -/
  | shiftTimeout (k : Fin 96)
  /-- R222. -/
  | sample (k : Fin 96) (bad : Fin 4) (m : SampleMsg)
  /-- R225. -/
  | status (k : Fin 96) (bad : Fin 4) (m : StatusMsg)
  /-- R227. -/
  | capturePage (k : Fin 96) (bad : Fin 4) (m : PageMsg)
  /-- R230. -/
  | credit (k : Fin 96) (h : UpHead) (rcvd freed : Nat)
  /-- R226. -/
  | bypassRepeat (k : Fin 96)
  /-- R243. -/
  | captureRepeat (k : Fin 96)
  /-- R128. -/
  | beatStart (i : SensedBeat)
  /-- R249. -/
  | arrayLatch (i : SensedLink)
  /-- R295. -/
  | slotRelease (k : Fin 1024) (late : Option Nat)
  /-- R247. -/
  | escapement (miss : List (Nat × Nat)) (dnLatest : Nat)
  /-- R269. -/
  | bypassTimeout (i : Fin 96)
  /-- R271. -/
  | retrainTimeout (i : Fin 96)
  /-- R275. -/
  | capEstimatePeriodEnd
  /-- R276. -/
  | closureWindowEnd
  /-- R278. -/
  | derateRiseStep
  /-- R336. -/
  | osShadowWrite (g : Fin 2)
  /-- R363. -/
  | pwmPeriodBoundary (c : Fin 32) (i : PhaseMean)
  /-- R339. -/
  | osTruncation (g : Fin 2) (code : Nat)
  /-- R352. -/
  | brakeDecision (code : Nat)
  /-- R343. -/
  | osBurstWake (g : Fin 2) (code : Nat)
  /-- R348. -/
  | osSsTimeout (g : Fin 2)
  /-- R370. -/
  | gdTrip (x : Fin 32) (e : Edge)
  /-- R371. -/
  | blankingEnd (x : Fin 32) (active : Bool)
  /-- R370. -/
  | xtrip (n : Fin 4) (e : Edge)
  /-- R374. -/
  | softOffStep (c : Fin 32)
  /-- R382. -/
  | statusCarrierFrame (x : Fin 32) (period : Nat) (f : FrameHigh)
  /-- R383. -/
  | carrierLost (x : Fin 32)
  /-- R386. -/
  | bootstrapProofTimeout (x : Fin 32)
  /-- R390. -/
  | hallChange (x : HallRun)
  /-- R398. -/
  | encoderEdge (n : Fin 2) (a b : Bool) (instant : Nat)
  /-- R400. -/
  | encoderIndex (n : Fin 2) (z : Bool)
  /-- R402. -/
  | colReversal (n : Fin 2)
  /-- R405. -/
  | ssiFrame (x : SsiFrame)
  /-- R409. -/
  | colBrakeEnd
  /-- R433. -/
  | meterSample (x : List MbWave)
  /-- R428. -/
  | zcTimeout (m : Fin 16)
  /-- R436. -/
  | harmonicBurstDone
  /-- R439. -/
  | meterIntervalClose (e : Fin 8)
  /-- R447. -/
  | meterClosureWindow
  /-- R463. -/
  | ptpAnnounce (n : Fin 2) (a : Announce)
  /-- R463. -/
  | ptpMasterLost (n : Fin 2)
  /-- R465. -/
  | ptpSync (n : Fin 2) (m : PtpSync)
  /-- R463. -/
  | ptpDelayResp (n : Fin 2) (m : PtpDelay)
  /-- R461. -/
  | ptpPdelayReq (n : Fin 2) (m : PtpSync)
  /-- R462. -/
  | ethFrameForward (n : Fin 2) (x : EthFrame)
  /-- R474. -/
  | ethLinkDown (x : EthModule)
  /-- R467. -/
  | holdoverStart
  /-- R467. -/
  | holdoverExpiry
  /-- R469. -/
  | ppsInEdge (instant : Nat)
  /-- R469. -/
  | ppsInTimeout
  /-- R468. -/
  | ppsOutPulse (rise : Bool)
  /-- R472. -/
  | canFrameRx (c : Fin 2) (x : CanFrame)
  /-- R473. -/
  | canTxPeriod (c : Fin 2) (f : CanSlot)
  /-- R471. -/
  | canBusoff (c : Fin 2) (x : CanErrors)
  /-- R484. -/
  | incidentEndC2
  /-- R490. -/
  | registrarHeartbeatLost
  /-- R494. -/
  | archiveFreeze
  /-- R498. -/
  | arcDumpDone (outcome : Fin 4)
  /-- R499. -/
  | arcMem (ring : Fin 2) (segment : Nat)
  /-- R504. -/
  | safetyInputChange (part : Fin 2) (n : Fin 8) (ch : Fin 2) (r : LevelRun)
  /-- R510. -/
  | discrepancyTimeout (part : Fin 2) (n : Fin 8)
  /-- R502. -/
  | delayedOffExpiry (part : Fin 2) (n : Fin 8)
  /-- R511. -/
  | safetyFaultClear (n : Fin 8)
  /-- R506. -/
  | sdoEnergise
  /-- R513. -/
  | safetyDiagFail (x : Diag)
  /-- R513. -/
  | sdoOffPulseTest (o : Fin 2) (volts : Nat) (tenths : Fin 10)
  /-- R516. -/
  | lorPress (apart : Nat)
  /-- R516. -/
  | lorRelease (held : Nat)
  /-- R516. -/
  | lorHoldTimeout (levels : Fin 4)
  /-- R516. -/
  | resetWindowExpiry
  /-- R533. -/
  | hkRoundEnd (x : HkRound)
  /-- R8. -/
  | lowWordRead (f : Fin 2) (x : ReadAt)
  /-- R77. -/
  | selfRefreshExitDone
  /-- R77. -/
  | loopEngineLoanReduction
  /-- R362. -/
  | pwmCompare (c : Fin 32)
  /-- R365. -/
  | deadTimeEnd (c : Fin 32)
  /-- R195. -/
  | laneTp1Lock (k : Fin 96) (mode1 mode2 : Nat)
  /-- R195. -/
  | laneTp1End (k : Fin 96)
  /-- R423. -/
  | metChannelLost (m : Fin 16) (density : Nat)
  /-- R458. -/
  | ethLinkUp (x : EthModule)
  /-- R463. -/
  | ptpFollowUp (n : Fin 2) (m : PtpSync)
  /-- R463. -/
  | ptpPdelayResp (n : Fin 2) (m : PtpDelay)
  /-- R109. -/
  | pcieLinkUp
  /-- R489. -/
  | errFaultHoldEnd
  /-- R490. -/
  | registrarMemoryError
  /-- R508. -/
  | safeLoopEdge (readback : Bool)
  /-- R409. -/
  | collectorDriveHandover
  deriving DecidableEq, Repr

end Sys2Proof
end

