-- ==== Sys2Proof/Decode.lean ====
section
/-! DEFINITION. The command that a word of the command table spells. No row of the table gives bits (every row's fields are empty): a host reaches
the block through register writes, doorbells and descriptors, which are commands with operands. -/

namespace Sys2Proof

/-- The table gives no row any bits, so no word spells a command. (DESIGN CHOICE: note 8.) -/
def decodeTableWord (_nbits _w : Nat) : Option Instr := none

end Sys2Proof
end

