-- ==== Sys2Proof/Config.lean ====
section
/-! DEFINITION. What a module fixes at manufacture, and the free values: constants without a body, about which nothing can be proved. -/

namespace Sys2Proof.Config

/-- R575: identity values fixed at manufacture; the spec lists none. Field 0 STEP, 1 DETENT_STEP, 2 ROM version, 3 VARIANT. (DESIGN CHOICE: note 12.) -/
opaque identity : Nat → Nat
/-- R575: the serial number, which is this value plus 1 (it is never 0). (DESIGN CHOICE: note 12.) -/
opaque serialLess1 : Nat
/-- R71, R72: band and capacitor codes that a PLL-S search finds; the manual gives the search, not its result. (DESIGN CHOICE: note 17.) -/
opaque bandCode : Nat → Nat
/-- R71: the capacitor code found with the band code. (DESIGN CHOICE: note 17.) -/
opaque capCode : Nat → Nat
/-- R69, R54: times and measurements the manual leaves to the module, drawn from the free counter. (DESIGN CHOICE: note 6.) -/
opaque freeNat : Nat → Nat
/-- R463: order of two masters under the default best master clock algorithm where every compared field is equal. (DESIGN CHOICE: note 106.) -/
opaque bmcaTie : Nat → Bool
/-- R422: the 384 taps of the polyphase FIR filter; the manual gives its pass band and its rejection, no coefficients. (DESIGN CHOICE: note 102.) -/
opaque firTap : Nat → Rat
/-- R422, R424: samples from before the Metering Engine started, which the first interpolations reach: the manual states none. Drawn from the free counter. (DESIGN CHOICE: note 102.) -/
opaque sampleBefore : Nat → Int

/-- R275, R336, R337, R403: a quotient whose divisor is 0: the manual states no result. Drawn from the free counter. (DESIGN CHOICE: note 15.) -/
opaque overZero : Nat → Rat

/-- R253: the mean of the primary current over the whole primary periods in a burst, of which there is none (R264): the manual states no value.
Drawn from the free counter. (DESIGN CHOICE: note 73.) -/
opaque fluxMean : Nat → Rat

end Sys2Proof.Config
end

