-- ==== Sys2Proof/Machine/Arith.lean ====
section
/-! DEFINITION. binary32 arithmetic of R288 on 32-bit words: exact over the rationals, then rounded once to nearest, ties to even, with
subnormal operands and results flushed to zero of the same sign. -/

namespace Sys2Proof.Machine

/-- A binary32 word is a NaN or an infinity. -/
def fBad (x : Nat) : Bool := bitsAt x 23 8 == 255

/-- A binary32 word is subnormal. -/
def fSub (x : Nat) : Bool := bitsAt x 23 8 == 0 && bitsAt x 0 23 != 0

/-- 2 to an integer power. -/
def pow2 (e : Int) : Rat := if e < 0 then 1 / (2 ^ e.natAbs : Nat) else ((2 ^ e.natAbs : Nat) : Rat)

/-- The number a finite binary32 word stands for; subnormals stand for 0. -/
def fRat (x : Nat) : Rat :=
  if bitsAt x 23 8 = 0 then 0
  else (if x.testBit 31 then (-1 : Rat) else 1) * ((2 ^ 23 + bitsAt x 0 23 : Nat) : Rat) * pow2 ((bitsAt x 23 8 : Nat) - 150)

/-- ⌊log2 (n/d)⌋ for positive n and d. -/
def log2q (n d : Nat) : Int :=
  let e : Int := (Nat.log2 n : Int) - (Nat.log2 d : Int)
  if (if e < 0 then n * 2 ^ e.natAbs < d else n < d * 2 ^ e.natAbs) then e - 1 else e

/-- n/d rounded to the nearest integer, ties to even. -/
def rne (n d : Nat) : Nat :=
  let q := n / d
  let r := 2 * (n % d)
  if r < d then q else if d < r then q + 1 else if q % 2 = 0 then q else q + 1

/-- A rational rounded to binary32 (R288). (DESIGN CHOICE: note 14.) -/
def fRnd (q : Rat) : Nat :=
  if q.num = 0 then 0 else
  let sgn := if q.num < 0 then 2 ^ 31 else 0
  let n := q.num.natAbs
  let e := log2q n q.den
  let k : Int := 23 - e
  let m := if k < 0 then rne n (q.den * 2 ^ k.natAbs) else rne (n * 2 ^ k.natAbs) q.den
  let e := if m = 2 ^ 24 then e + 1 else e
  let m := if m = 2 ^ 24 then 2 ^ 23 else m
  if e < -126 then sgn else if 127 < e then sgn + 0x7F800000 else sgn + (e + 127).toNat * 2 ^ 23 + (m - 2 ^ 23)

/-- The quiet NaN that a non-finite operand leaves. -/
def fNaN : Nat := 0x7FC00000

/-- The sign of a zero (R288): a word with its sign bit `n` and nothing else. -/
def fZero (n : Bool) : Nat := if n then 2 ^ 31 else 0

/-- Product: an exact zero takes the sign of R288. -/
def fMul (x y : Nat) : Nat :=
  if fBad x || fBad y then fNaN
  else if fRat x * fRat y = 0 then fZero (x.testBit 31 != y.testBit 31) else fRnd (fRat x * fRat y)

/-- Sum: an exact zero is +0 unless both operands are -0. -/
def fAdd (x y : Nat) : Nat :=
  if fBad x || fBad y then fNaN
  else if fRat x = 0 ∧ fRat y = 0 then fZero (x.testBit 31 && y.testBit 31) else fRnd (fRat x + fRat y)

/-- Difference. -/
def fSubt (x y : Nat) : Nat := fAdd x (y ^^^ 2 ^ 31)

/-- Fused multiply-add, rounded once. -/
def fFma (x y z : Nat) : Nat :=
  if fBad x || fBad y || fBad z then fNaN
  else if fRat x * fRat y = 0 ∧ fRat z = 0 then fZero ((x.testBit 31 != y.testBit 31) && z.testBit 31)
  else fRnd (fRat x * fRat y + fRat z)

/-- Comparisons of finite words. -/
def fLt (x y : Nat) : Bool := fRat x < fRat y
def fLe (x y : Nat) : Bool := fRat x ≤ fRat y

/-- min and max of step 7 of R289. -/
def fMin (x y : Nat) : Nat := if fLt y x then y else x
def fMax (x y : Nat) : Nat := if fLt x y then y else x

/-- The integer nearest to a rational, halves upward. -/
def rRound (q : Rat) : Int := (q + 1 / 2).floor

/-- The integer nearest to a rational, ties away from zero. -/
def rAway (q : Rat) : Int := if q < 0 then -((-q + 1 / 2).floor) else (q + 1 / 2).floor

/-- The integer nearest to a rational, halves toward zero. -/
def rToward (q : Rat) : Int := if q < 0 then -(((-q) * 2 - 1) / 2).ceil else ((q * 2 - 1) / 2).ceil

/-- The non-negative square root of a rational to 2^-40 relative to its integer scale, for a value that is rounded once afterwards. -/
def rSqrt (q : Rat) : Rat := if q ≤ 0 then 0 else (((q * ((2 ^ 120 : Nat) : Rat)).floor.toNat.sqrt : Nat) : Rat) / ((2 ^ 60 : Nat) : Rat)

/-- π, and cos and sin of a right angle's `r` / 2^30, in units of 2^-80 by their series: exact to beyond 2^-70. (DESIGN CHOICE: note 16.) -/
def pi80 : Nat := 3797952473636338580787994
def cosQuarter (r : Nat) : Int :=
  let x : Int := (pi80 * r / 2 ^ 31 : Nat)
  let sq := x * x / 2 ^ 80
  (List.range 14).foldl (fun a j => let n : Int := 28 - 2 * (j : Int); 2 ^ 80 - sq * a / 2 ^ 80 / (n * (n - 1))) (2 ^ 80)
def sinQuarter (r : Nat) : Int := cosQuarter (2 ^ 30 - r)

/-- R254, R437: cos and sin of an angle in units of 2^-32 turns. -/
def cosOf (i : Nat) : Rat :=
  let r := i % 2 ^ 30
  let v := match i / 2 ^ 30 % 4 with | 0 => cosQuarter r | 1 => -sinQuarter r | 2 => -cosQuarter r | _ => sinQuarter r
  (v : Rat) / ((2 ^ 80 : Nat) : Rat)
def sinOf (i : Nat) : Rat := cosOf (i + 3 * 2 ^ 30)

/-- A rational held in a range. -/
def rClamp (lo hi q : Rat) : Rat := max lo (min hi q)

/-- Piecewise linear interpolation between equally spaced points over [lo, hi], held at the boundary points outside (R263, R332, R426). -/
def rInterp (pts : List Rat) (lo hi x : Rat) : Rat :=
  let n := pts.length - 1
  if hi ≤ lo ∨ x ≤ lo then pts.headD 0
  else if hi ≤ x then pts.getLastD 0
  else
    let u := (x - lo) * (n : Rat) / (hi - lo)
    let j := u.floor.toNat
    let a := pts.getD j 0
    a + (pts.getD (j + 1) a - a) * (u - (j : Rat))

end Sys2Proof.Machine
end

