-- ==== Sys2Proof/Machine/Hash.lean ====
section
/-! DEFINITION. The checks and digests of the manual: CRC-32 (R121), CRC-32C (R213) and SHA-256 (R159, FIPS 180-4). -/

namespace Sys2Proof.Machine

/-- One bit of a reflected CRC with polynomial `p`. -/
def crcBit (p c : Nat) : Nat := if c % 2 = 1 then (c >>> 1) ^^^ p else c >>> 1

/-- One byte of a reflected CRC. -/
def crcByte (p c b : Nat) : Nat :=
  let c := c ^^^ (b % 256)
  crcBit p (crcBit p (crcBit p (crcBit p (crcBit p (crcBit p (crcBit p (crcBit p c)))))))

/-- A reflected CRC over bytes in ascending order, initial value and final exclusive-or all ones. -/
def crcOf (p : Nat) (bs : List Nat) : Nat := (bs.foldl (crcByte p) 0xFFFFFFFF) ^^^ 0xFFFFFFFF

/-- R121: CRC-32 of IEEE 802.3. -/
def crc32 (bs : List Nat) : Nat := crcOf 0xEDB88320 bs

/-- R213: CRC-32C. -/
def crc32c (bs : List Nat) : Nat := crcOf 0x82F63B78 bs

/-- Rotation and addition of 32-bit words. -/
def rotr (x n : Nat) : Nat := (x >>> n) ||| ((x <<< (32 - n)) % 2 ^ 32)
def add32 (x y : Nat) : Nat := (x + y) % 2 ^ 32

/-- The 32-bit words of a 256-bit number, most significant first. -/
def wordsBE (x : Nat) : List Nat := (List.range 8).map (fun i => bitsAt x (224 - 32 * i) 32)

/-- FIPS 180-4: the round constants, eight to a row. -/
def shaK : List Nat := List.flatMap wordsBE
  [0x428a2f9871374491b5c0fbcfe9b5dba53956c25b59f111f1923f82a4ab1c5ed5,
   0xd807aa9812835b01243185be550c7dc372be5d7480deb1fe9bdc06a7c19bf174,
   0xe49b69c1efbe47860fc19dc6240ca1cc2de92c6f4a7484aa5cb0a9dc76f988da,
   0x983e5152a831c66db00327c8bf597fc7c6e00bf3d5a7914706ca635114292967,
   0x27b70a852e1b21384d2c6dfc53380d13650a7354766a0abb81c2c92e92722c85,
   0xa2bfe8a1a81a664bc24b8b70c76c51a3d192e819d6990624f40e3585106aa070,
   0x19a4c1161e376c082748774c34b0bcb5391c0cb34ed8aa4a5b9cca4f682e6ff3,
   0x748f82ee78a5636f84c878148cc7020890befffaa4506cebbef9a3f7c67178f2]

/-- FIPS 180-4: the initial hash value. -/
def shaH : List Nat := wordsBE 0x6a09e667bb67ae853c6ef372a54ff53a510e527f9b05688c1f83d9ab5be0cd19

/-- The message schedule, newest word first, grown by `n` words. -/
def shaGrow : Nat → List Nat → List Nat
  | 0, w => w
  | n + 1, w =>
    let x := w.getD 14 0
    let y := w.getD 1 0
    let s0 := rotr x 7 ^^^ rotr x 18 ^^^ (x >>> 3)
    let s1 := rotr y 17 ^^^ rotr y 19 ^^^ (y >>> 10)
    shaGrow n (add32 (add32 (w.getD 15 0) s0) (add32 (w.getD 6 0) s1) :: w)

/-- One round of the compression function on the eight working words. -/
def shaRound (st : List Nat) (kw : Nat) : List Nat :=
  match st with
  | [a, b, c, d, e, f, g, h] =>
    let s1 := rotr e 6 ^^^ rotr e 11 ^^^ rotr e 25
    let ch := (e &&& f) ^^^ ((0xFFFFFFFF - e) &&& g)
    let t1 := add32 (add32 h s1) (add32 ch kw)
    let s0 := rotr a 2 ^^^ rotr a 13 ^^^ rotr a 22
    let mj := (a &&& b) ^^^ (a &&& c) ^^^ (b &&& c)
    [add32 t1 (add32 s0 mj), a, b, c, add32 d t1, e, f, g]
  | st => st

/-- One 16-word block. -/
def shaBlock (h ws : List Nat) : List Nat :=
  let w := (shaGrow 48 ws.reverse).reverse
  List.zipWith add32 h ((List.zipWith add32 shaK w).foldl shaRound h)

/-- Big-endian words of bytes. -/
def beWords : List Nat → List Nat
  | a :: b :: c :: d :: r => (((a * 256 + b) * 256 + c) * 256 + d) :: beWords r
  | _ => []

/-- Whole blocks of 16 words. -/
def shaBlocks : Nat → List Nat → List Nat → List Nat
  | 0, h, _ => h
  | n + 1, h, ws => shaBlocks n (shaBlock h (ws.take 16)) (ws.drop 16)

/-- SHA-256 of bytes, as a 256-bit number. -/
def sha256 (bs : List Nat) : Nat :=
  let n := bs.length
  let z := (119 - n % 64) % 64
  let ws := beWords (bs ++ [128] ++ List.replicate z 0 ++ (leBytes 8 (n * 8)).reverse)
  (shaBlocks ((n + 9 + z) / 64) shaH ws).foldl (fun a w => a * 2 ^ 32 + w) 0

/-- The 32 bytes of a chain value, most significant first. -/
def chainBytes (h : Nat) : List Nat := (leBytes 32 h).reverse

end Sys2Proof.Machine
end

