-- ==== Sys2Proof/Machine/State.lean ====
section
/-! DEFINITION. The state of the CX96 as plain data. Every field of every register table is held in `Dev.regs`, a sparse list of
(key, value exclusive-or Reset column) pairs in canonical form; what no register table holds stands in the structures below. -/

namespace Sys2Proof.Machine

/-- Reasons a step can stop with a fault. The block has none: every command of the table has an effect in every state (safe). (DESIGN CHOICE: note 13.) -/
inductive Fault
  deriving DecidableEq, Repr

/-- Reasons a command has no meaning. (DESIGN CHOICE: note 13.) -/
inductive Refusal where
  /-- Raised by Dispatch for a row that has no meaning yet (safe: nothing is proved of it). -/
  | notModelled (mnemonic : String)
  deriving DecidableEq, Repr

/-- Power of the main domain (R36, R59). -/
inductive Main | off | held | running
  deriving DecidableEq, Repr, Inhabited

/-- Deadlines the block counts to. The argument is the object. -/
inductive Timer
  | keeperReset | pllReset | saveEnd | sleepOff | sleepRestart | idleSleep
  | pllStop (p : Nat) | startLock | hopSearch (h : Nat) | hopLock | pstep
  | lpddrIdle | refreshExit | loopLoan | hostWd | holdoff (v : Nat) | pageAge (s : Nat)
  | xcvr (k : Nat) | prechPhase (s : Nat) | losClear (k : Nat)
  | attempt (k : Nat) | tp1 (k : Nat) | gap (k : Nat) | lockState (k : Nat) | exchange (k : Nat)
  | shift (k : Nat) | rtt (k : Nat) | echo (k id : Nat) | qwin (k : Nat) | loopEdge | bypRep (k : Nat) | capRep (k : Nat)
  | bypassMax (i : Nat) | retrain (i : Nat) | ssMax (g : Nat) | softOff (c : Nat) | blank (x : Nat)
  | carrier (x : Nat) | proof (x : Nat) | dead (c : Nat) | reversal (n : Nat) | brake
  | zc (m : Nat) | harm | announce (n : Nat) | measure | holdover | ppsIn | ppsFall
  | canTx (c f : Nat) | c2Hold | errHold | freeze
  | disc (part n : Nat) | delayOff (part n : Nat) | safeClear (n : Nat) | resetWin | lor | offPulse (o : Nat)
  | safeCrc | set | anchor | heartbeat | tickRec
  deriving DecidableEq, Repr, Inhabited

/-- A loan held (R77): operation, instance, amount outstanding. -/
structure Loan where
  op : Nat
  inst : Nat
  amount : Nat
  deriving DecidableEq, Repr, Inhabited

/-- A loan request that waits (R78): operation, instance, cost, filing tick. -/
structure LoanReq where
  op : Nat
  inst : Nat
  cost : Nat
  filed : Nat
  deriving DecidableEq, Repr, Inhabited

/-- An MRAM key slot (R95). -/
inductive KeySlot | empty | revoked | digest (d : Nat)
  deriving DecidableEq, Repr, Inhabited

/-- One of two alternating MRAM slots (R91): valid mark, CRC-32 of its contents, sequence number, contents. -/
structure MramSlot (α : Type) where
  valid : Bool
  crc : Nat
  seq : Nat
  body : α
  deriving DecidableEq, Repr, Inhabited

/-- A tick-count record (R55). -/
structure TickRec where
  tick : Nat
  sec : Nat
  ns : Nat
  ntValid : Bool
  deriving DecidableEq, Repr, Inhabited

/-- An anchor (R160): last SEQ covered, tick, chain value, boot number, TYPE. -/
structure Anchor where
  seq : Nat
  tick : Nat
  h : Nat
  boot : Nat
  type : Nat
  deriving DecidableEq, Repr, Inhabited

/-- The open interval of a metering element (R439, R444): its bounds at full resolution, accumulators in 2^-32 mJ, counts and flags. -/
structure Interval where
  start : Nat
  stop : Nat
  imp : Nat
  exp : Nat
  q : List Nat
  nImp : Nat
  nExp : Nat
  nNoload : Nat
  nGap : Nat
  flags : Nat
  gapStart : Nat
  lastTick : Nat
  deriving DecidableEq, Repr, Inhabited

/-- An interval record as written (R440). -/
structure MetRec where
  element : Nat
  seq : Nat
  interval : Interval
  imp : Nat
  exp : Nat
  q : List Nat
  deriving DecidableEq, Repr, Inhabited

/-- A save slot (R91, R325, R326): the registers saved (metering totals, ledger summaries), open intervals, log anchor, Catalogue identity, writing boot, tick. -/
structure Save where
  valid : Bool
  crc : Nat
  seq : Nat
  boot : Nat
  tick : Nat
  regs : List (Nat × Nat)
  intervals : List (Option Interval)
  /-- R441, R446: elements whose first record after SAVE_STALE has not been written. -/
  stale : List Nat
  anchor : Anchor
  catId : Nat
  catRev : Nat
  deriving DecidableEq, Repr, Inhabited

/-- The non-volatile memory (R55, R89, R91, R95, R97, R154, R160, R162, R515). -/
structure Mram where
  /-- R95: four key slots; empty as delivered. -/
  keys : List KeySlot
  /-- R89: firmware slots A and B. -/
  fw : List (Option FwImage)
  /-- R89: security floor. -/
  secFloor : Nat
  /-- R97: lowest admissible Catalogue revision. -/
  catFloor : Nat
  /-- R97: two Catalogue copies. -/
  cats : List (Option CatFile)
  /-- R97: the copy marked active. -/
  active : Nat
  /-- R91: the two save slots. -/
  saves : List (Option Save)
  /-- R162: the two slots of the boot count. -/
  bootRecs : List (Option (MramSlot Nat))
  /-- R515: lock-out latch copy: source, object, tick. -/
  latch : Option (Nat × Nat × Nat)
  /-- R55: the two slots of the tick-count record. -/
  tickRecs : List (Option (MramSlot TickRec))
  /-- R154: the two slots of the committed safety parameters. -/
  safety : List (Option (MramSlot (List Nat)))
  /-- R160: block ring, newest first, at most 1,024. -/
  blockRing : List Anchor
  /-- R160: event ring, newest first, at most 64. -/
  eventRing : List Anchor
  /-- R165: next place in each ring. -/
  blockAt : Nat
  eventAt : Nat
  deriving DecidableEq, Repr, Inhabited

/-- Supplies, resets and pins of the supervision logic (R25, R41 to R45, R56 to R63, R86 to R90). -/
structure Pwr where
  /-- R43: Reserve domain and Detent running. -/
  reserveOn : Bool
  /-- R36: main domain off, held in reset or running. -/
  main : Main
  /-- R45, R58: VIN has been above VWARN + 0.5 V for 10 ms, and not below VWARN since. -/
  vinOk : Bool
  /-- R56: VIN has been below 4.4 V since the last VIN return. -/
  vinFell : Bool
  /-- R44: VSDO in its range. -/
  vsdoOk : Bool
  /-- R41: TEST_EN as sampled at Reserve start. -/
  testEn : Bool
  /-- R45: save window open. -/
  saveWin : Bool
  /-- R86: cause bits of the reset in progress. -/
  cause : Nat
  /-- R61: SLEEP entry under way. -/
  sleepEntry : Bool
  /-- R59: in SLEEP. -/
  asleep : Bool
  /-- R37: firmware signature or self-test failed. -/
  bootFailed : Bool
  /-- R42: MRST_N low. -/
  mrstLow : Bool
  /-- R57: CAN0_STB, CAN1_STB levels. -/
  canStb : List Bool
  /-- R54: a switch to the internal oscillator not yet reported; the Reserve count of the next try of the crystal. -/
  xkeepEvent : Bool
  xkeepAt : Nat
  /-- R56: WAKE0 and WAKE1 high, CAN0_RXD and CAN1_RXD low, as last reported. -/
  wakeHigh : List Bool
  canLow : List Bool
  /-- R57, R471: CAN0_STB, CAN1_STB held low from a CAN wake until CAT_LOAD applies CAN_CFG. -/
  canHeld : List Bool
  /-- R109, R42: PCIe link up. -/
  linkUp : Bool
  /-- R42: PERST_N low. -/
  perstLow : Bool
  /-- R25, R421: modulator clocks running. -/
  mclk : Bool
  /-- R378: SYNC_OUT high until this tick. -/
  syncOutUntil : Nat
  /-- R468: PPS_OUT level. -/
  ppsOut : Bool
  /-- R468: instant of its last rise, in sub-ticks. -/
  ppsAt : Nat
  /-- R508: level the Detent drives on SAFE_LOOP. -/
  loopLevel : Bool
  /-- R53: thousand-millionths of a Reserve cycle gathered. -/
  rsvAcc : Nat
  /-- R490: the Registrar has failed; REG_SELF to be recorded once it can. -/
  regSelf : Option Nat
  deriving DecidableEq, Repr, Inhabited

/-- Clocks (R65 to R75). -/
structure Clk where
  /-- R65: users demanding each PLL, as names by number. -/
  demand : List (List Nat)
  /-- R70: ticks of the last losses of each PLL. -/
  losses : List (List Nat)
  /-- R70: PLL stopped until the next main-domain reset. -/
  dead : List Bool
  /-- R65: PLL starting, its loan granted. -/
  starting : List Bool
  /-- R72: hop entry whose frequency the active core runs at. -/
  hopFrom : Nat
  /-- R72: the idle core has locked for the pending hop. -/
  hopReady : Bool
  /-- R75: sub-ticks of a phase move still to spread, and the tick up to which it has been. -/
  pstep : Int
  pstepAt : Nat
  /-- R73: present output-stage tick frequency in Hz. -/
  freq : Nat
  /-- R74: instant of the last valid SYNC_IN edge. -/
  syncLast : Option Nat
  /-- R73: consecutive periods within lock tolerance. -/
  syncGood : Nat
  /-- R74: SYNC_IN lost: valid edges returned since. -/
  syncBack : Nat
  /-- R77: LPDDR5 out of self-refresh, and whether an exit is in progress. -/
  lpddrAwake : Bool
  lpddrExiting : Bool
  /-- R77: LPDDR5 accesses that wait for the exit. -/
  lpddrWait : Nat
  deriving DecidableEq, Repr, Inhabited

/-- A completion record (R131) decided; `slot` once written. -/
structure Completion where
  q : Nat
  tag : Nat
  index : Nat
  opcode : Nat
  status : Nat
  held : Bool
  beat : Nat
  reason : Nat
  result : Nat
  noIrq : Bool
  deriving DecidableEq, Repr, Inhabited

/-- An event as latched (R135, R476). -/
structure Event where
  tick : Nat
  sub : Nat
  source : Nat
  cls : Nat
  merged : Bool
  forced : Bool
  object : Nat
  data : List Nat
  deriving DecidableEq, Repr, Inhabited

/-- A provenance log entry (R157). -/
structure LogEntry where
  seq : Nat
  tick : Nat
  kind : Nat
  origin : Nat
  func : Nat
  ring : Nat
  result : Nat
  desc : Nat
  object : Nat
  aux : Nat
  old : Nat
  new : Nat
  detail : Nat
  deriving DecidableEq, Repr, Inhabited

/-- What the block has put on the bus, the lanes and its pins, newest first. (DESIGN CHOICE: note 5.) -/
inductive Out
  | completion (r : Nat) (slot : Nat) (phase : Nat) (c : Completion)
  | event (e : Nat) (slot : Nat) (phase : Nat) (seq : Nat) (x : Event)
  | lossRecord (e : Nat) (slot : Nat) (phase : Nat) (seq : Nat) (lost : Nat)
  | writeBack (r : Nat) (index : Nat) (fault stall : Bool)
  | page (s : Nat) (slot : Nat) (phase : Nat) (seq firstBeat lost : Nat) (records : List (List Nat))
  | msix (f v : Nat)
  | unsupported (f : Nat)
  | aer (f : Nat)
  | cellCmd (k seq beat : Nat) (words : List Nat)
  | bypass (k seq beat action phase : Nat)
  | captureReq (k seq action first last : Nat)
  | tsync (k index : Nat) (init : Bool) (oneWay instant : Nat)
  | capDn (k : Nat) (holdBeats string position catId : Nat)
  | credit (k rcvd freed : Nat)
  | mark (k id block : Nat)
  | shift (k count instant : Nat)
  | readData (f value : Nat)
  | logCopy (f addr first count : Nat)
  | dump (addr first count image : Nat)
  /-- R461: sequence number, correctionField, requestReceiptTimestamp, and the UDP checksum where it goes over UDP. -/
  | pdelayResp (port seq : Nat) (correction : Int) (receipt : Nat) (udp : Option Nat)
  /-- R461, R462: a frame's bytes and its frame check sequence. -/
  | forward (port : Nat) (bytes : List Nat) (fcs : Nat)
  /-- R471, R473: a frame enters arbitration: with bit-rate switching and delay compensation or not, and the 80 MHz cycles of a nominal and of a data bit. -/
  | canTx (c f : Nat) (x : CanFrame) (brs tdc : Bool) (nominal data : Nat)
  /-- R461, R463: a Delay_Req (`peer` false) or Pdelay_Req: sequence number, originTimestamp in ns (0 in a Pdelay_Req), and the UDP checksum where it goes over UDP. -/
  | delayReq (peer : Bool) (port seq : Nat) (origin : Int) (udp : Option Nat)
  deriving DecidableEq, Repr, Inhabited

/-- A stream page under construction (R139, R140). -/
structure StrmPage where
  first : Nat
  firstTick : Nat
  records : List (List Nat)
  lost : Nat
  seq : Nat
  deriving DecidableEq, Repr, Inhabited

/-- An admitted command waiting in the pending store (R125), with its opcode. -/
structure Pend where
  op : Nat
  c : HostCmd
  deriving DecidableEq, Repr, Inhabited

/-- The host interface beyond its registers (R117 to R145, R8, R541). -/
structure Rings where
  /-- R125: admitted commands in admission order. -/
  pend : List Pend
  /-- R144: completions held. -/
  held : List Completion
  /-- R123: completion slots reserved, per CMDQ. -/
  reserved : List Nat
  /-- R322: descriptors taken and completed, per CMDQ. -/
  taken : List Nat
  completed : List Nat
  /-- R124: accepted CMDQ_TAIL doorbells (value, tick), newest first, per CMDQ. -/
  tails : List (List (Nat × Nat))
  /-- R124: accepted CPLQ_HEAD doorbells (value, tick), newest first, per CPLQ. -/
  heads : List (List (Nat × Nat))
  /-- R137: records in the hold of each EVQ, oldest first, and those lost since. -/
  evHold : List (List Event)
  evLost : List Nat
  /-- R138: masked vectors and pending bits, by 64·f + v. -/
  masked : List Nat
  msixPend : List Nat
  /-- R138: vectors in holdoff with a cause collected. -/
  collected : List Nat
  /-- R110: MSI-X table words written, (64·f·16 + byte offset, value). -/
  msixTable : List (Nat × Nat)
  /-- R139: the page under construction of each STRM. -/
  pages : List StrmPage
  /-- R8: latched high word per function: (offset of its register, value). -/
  latch : List (Option (Nat × Nat))
  /-- R541: the low words each function holds, one per register: (offset, value). -/
  lowHold : List (List (Nat × Nat))
  /-- R60: tick of the last command submitted. -/
  lastCmd : Nat
  /-- R109: what the host has set in each function's configuration space. -/
  fn : List PcieFn
  deriving DecidableEq, Repr, Inhabited

/-- The log writer (R156 to R164) and the safety commit in progress (R152). -/
structure Prov where
  /-- R158: entries, newest first. -/
  entries : List LogEntry
  /-- R159: chain value of the newest entry. -/
  chain : Nat
  /-- R160: tick of the last anchor, and whether an entry has been written since. -/
  anchorTick : Nat
  dirty : Bool
  /-- R161: PF0 register writes held, and attempts counted while holding. -/
  holdWrites : List RegWrite
  attempts : Nat
  /-- R152: staged safety image, and the command that staged it (func, ring, desc, tag). -/
  staged : Option (List Nat)
  /-- R518: safety parameters in force. -/
  inForce : List Nat
  /-- R154: parameters being written to MRAM, with the instant by which they stand there. -/
  safeWrite : Option (Nat × List Nat)
  /-- R160: the anchor being written before a reset of cause 4 or 5, with the instant at which its write is complete. -/
  anchorWrite : Option (Nat × Anchor)
  /-- R94: declarations of the loaded Catalogue. -/
  decl : Option CatDecl
  /-- R97: CRC of the loaded Catalogue's Safety section. -/
  catSafetyCrc : Nat
  /-- R154, R518: the parameters in force have been committed. -/
  committed : Bool
  /-- R163: log copies in progress: function, address, first entry and entries. -/
  reads : List (Nat × Nat × Nat × Nat)
  deriving DecidableEq, Repr, Inhabited

/-- An accession entry (R486). -/
structure AqEntry where
  event : Event
  opened : Bool
  repeats : Nat
  incident : Nat
  deriving DecidableEq, Repr, Inhabited

/-- An Archive record (R492). -/
structure ArcRec where
  type : Nat
  flags : Nat
  object : Nat
  time : Nat
  aux : Nat
  body : List Int
  len : Nat
  deriving DecidableEq, Repr, Inhabited

/-- The Registrar and the Archive beyond their registers (R476 to R499). -/
structure Reg where
  /-- R485: the 32 slots of the accession queue. -/
  aq : List (Option AqEntry)
  /-- R485: slot of the pinned entry, and the slot last written. -/
  pinned : Option Nat
  newest : Option Nat
  /-- R485: next slot. -/
  next : Nat
  /-- R483: the events of a tick outside any incident, (source, object, slot of its entry), and that tick. -/
  early : List (Nat × Nat × Option Nat)
  earlyTick : Nat
  /-- R484: the incident opened or escalated in an energy state. -/
  energy : Bool
  /-- R484: (source, object) of conditions that last. -/
  active : List (Nat × Nat)
  /-- R484: sources merged into the running incident that last. -/
  merged : List (Nat × Nat)
  /-- R484: tick of the last merge. -/
  lastMerge : Nat
  /-- R278: derate factors of the C2 reactions in force, (source, factor). -/
  derates : List (Nat × Nat)
  /-- R278: beats since F last rose. -/
  rise : Nat
  /-- R322: promise 3 has failed; the Loan Desk grants nothing further. -/
  loanStop : Bool
  /-- R489: tick at which the pair went to fault. -/
  errSince : Option Nat
  /-- R491, R492: sample ring and marker ring, newest first. -/
  samples : List ArcRec
  markers : List ArcRec
  /-- R492: bytes written to each ring since recording began. -/
  sampleBytes : Nat
  markerBytes : Nat
  /-- R496: bytes at which the trigger's beat began, in each ring. -/
  trigSample : Nat
  trigMarker : Nat
  /-- R492: bytes at which the present beat began. -/
  beatBytes : Nat
  /-- R498: dump waiting or running: (address, first, count, image). -/
  dump : Option (Nat × Nat × Nat × Nat)
  /-- R498: tick at which the running dump began to copy. -/
  dumpAt : Nat
  /-- R499: (ring, segment) that holds a record whose CRC fails. -/
  badSegs : List (Nat × Nat)
  deriving DecidableEq, Repr, Inhabited

/-- R188: the block aligner of a lane: block lock, consecutive valid headers at the candidate position, the last 64 headers under lock (newest first),
and the position. -/
structure Aligner where
  lock : Bool
  run : Nat
  last : List Bool
  pos : Nat
  deriving DecidableEq, Repr, Inhabited

/-- R189: the frame hunter: frame lock, consecutive good frames at the candidate, whether each of the last 64 frames under lock was correctable
(newest first), and the candidate block. -/
structure Framer where
  lock : Bool
  run : Nat
  last : List Bool
  pos : Nat
  deriving DecidableEq, Repr, Inhabited

/-- A BYPASS message (R226): action, the beats of its hand-over and of its apply instant, whether it has been handed over, its SEQ where it took
one, and the repeats made. -/
structure Byp where
  action : Nat
  send : Nat
  apply : Nat
  sent : Bool
  seq : Option Nat
  reps : Nat
  deriving DecidableEq, Repr, Inhabited

/-- The window a node reports in force (R252): beat of its command, times it has been repeated, the node blocked, its bypass switch closed. -/
structure Force where
  beat : Nat
  held : Nat
  blocked : Bool
  closed : Bool
  deriving DecidableEq, Repr, Inhabited

/-- R174: a block: a control (or parity) block or a data block, with its 8 payload bytes. -/
structure Block where
  ctl : Bool
  payload : List Nat
  deriving DecidableEq, Repr, Inhabited

/-- R175: the control blocks. -/
inductive Ctl
  | idle (rxLocked fbReq : Bool)
  | mark (id : Nat)
  | echo (id turnaround : Nat)
  | shift (count : Nat)
  deriving DecidableEq, Repr, Inhabited

/-- R175, R202, R217: what a lane's transmitter is given, with the sub-tick from which it counts: a message or control block that is ready, with its place
in the order of sending; the RX_LOCKED of its IDLE blocks; two-level mode. -/
inductive TxEvent
  | ready (from_ place : Nat) (x : List Nat ⊕ Ctl)
  | idle (from_ : Nat) (rx : Bool)
  | two (from_ : Nat)
  deriving DecidableEq, Repr, Inhabited

/-- R167, R194 to R203: a lane's transmitter: the mode of its training attempt, the sub-ticks at which TP1, TP2 and TP3 began, and what it has been given
since TP3, newest first. They fix every symbol it sends, with its precoder, scrambler, frames and stuffing (`LineTx.levelAt`, `LineTx.txAt`).
(DESIGN CHOICE: note 123.) -/
structure LineTx where
  two : Bool
  tp1 : Option Nat
  tp2 : Option Nat
  tp3 : Option Nat
  events : List TxEvent
  deriving DecidableEq, Repr, Inhabited

/-- One lane beyond its registers (R186 to R245). -/
structure Lane where
  /-- R191: TXDIS driven high; PRS_N high; LOS high; LOS clear for 1 ms in DETECT. -/
  txdis : Bool
  prsHigh : Bool
  los : Bool
  ready : Bool
  /-- R197, R202: two-level until the lane next goes to OFF. -/
  twoLevel : Bool
  /-- R186: tick of the last slip's effect. -/
  slipTick : Option Nat
  /-- R188, R189: the aligner and the frame hunter. -/
  align : Aligner
  framer : Framer
  /-- R195: upstream TP1 locked with the mode word of the attempt; consecutive IDLE blocks received with RX_LOCKED at 1 in TRAIN or in LOCK. -/
  tp1 : Bool
  idleRun : Nat
  /-- R200: corrected bytes and uncorrectable frames of the running quality window. -/
  qCorr : Nat
  qUncorr : Nat
  /-- R198: ticks of recent retrains; R102: the lane has left ACTIVE, so its check passes at ACTIVE. -/
  retrains : List Nat
  lost : Bool
  /-- R202: a shift runs; its receiver has switched. -/
  shifting : Bool
  shiftRx : Bool
  /-- R167, R171, R178, R185, R202: the transmitter. -/
  tx : LineTx
  /-- R239: the tick of the last CAP_DN, while CAP_UP has not arrived. -/
  capAt : Option Nat
  /-- R239: CAP_UP accepted, latency accepted. -/
  capOk : Bool
  rttOk : Bool
  /-- R204, R206: MARKs whose ECHO is awaited and the samples of the run; in ACTIVE, the repeat of R209. -/
  waiting : List Nat
  run : List Int
  /-- R236: index and INIT of the last TSYNC. -/
  tsyncIdx : Nat
  tsyncInit : Bool
  /-- R201: the degraded-lane event of the running quality window has been raised. -/
  degraded : Bool
  /-- R238: fields of CAP_UP that no register shows. -/
  deadtime : Nat
  minPulse : Nat
  dabDeadtime : Nat
  sampleDelay : Nat
  fs : List Nat
  prbsErr : Nat
  /-- R209: beat of the entry to ACTIVE. -/
  since : Nat
  /-- R228: downstream SENT, RCVD, FREED; upstream next SEQ expected, RCVD, FREED. -/
  sent : Nat
  dnRcvd : Nat
  dnFreed : Nat
  upNext : Nat
  upRcvd : Nat
  upFreed : Nat
  /-- R231: beat of the last intact CREDIT; a failure seen between audits. -/
  creditBeat : Nat
  auditBad : Bool
  /-- R245: reference counts. -/
  base : Option (Nat × Nat × Nat)
  /-- R222, R225: parts held as (beat, part, codes); the STATUS held; R241: block causes of the latest STATUS since the entry to ACTIVE. -/
  parts : List (Nat × Nat × List Int)
  status : Option StatusMsg
  prevCause : Option Nat
  /-- R250: last sample of the previous burst per channel. -/
  lastSample : List Int
  /-- R226: the BYPASS in progress. -/
  byp : Option Byp
  /-- R227, R243: capture pages awaited; requested a second time; the SEQ of the last request, none where it took none, and whether it was acted on. -/
  capWait : List Nat
  capAgain : Bool
  capReq : Option Nat
  capAcked : Bool
  /-- R252: commands kept, newest first: (beat, words), and BYPASS messages (beat sent, action); the windows reported in force, newest first, at most 6. -/
  cmds : List (Nat × List Nat)
  byps : List (Nat × Nat)
  force : List Force
  deriving DecidableEq, Repr, Inhabited

/-- Auxiliary items of a cell (R526): sums of items 0 to 11, occurrence counts of items 0 to 15, and the last non-zero item 15. -/
structure Aux where
  sum : List Nat
  cnt : List Nat
  node : Nat
  deriving DecidableEq, Repr, Inhabited

/-- One cell of the Array Engine beyond its registers (R246 to R277). -/
structure Cell where
  /-- R251: binary32 means of channels 0 to 4, end value of channel 1 now and at the last posting; a burst has been estimated. -/
  mean : List Nat
  vEnd : Nat
  vPrev : Option Nat
  seen : Bool
  /-- R253: mean of −s̄_S·x_3 and mean of x_2 over whole primary periods, binary32. -/
  i2 : Nat
  flux : Nat
  /-- R249, R250: consecutive void bursts; the last burst was void. -/
  voids : Nat
  void : Bool
  /-- R255, R270: the carrier period in progress (start and length in sub-ticks), and the delays of the next two windows. -/
  car : Option (Nat × Nat)
  move1 : Nat
  move2 : Nat
  /-- R271: 0 no return, 1 the first STATUS is awaited, 2 RESUME is to be sent, 3 it has been sent. -/
  rejoin : Nat
  /-- R272: beat of the OPEN's apply instant of a restore; the STATUS has met its conditions. -/
  restoreAt : Option Nat
  restored : Bool
  /-- R272: restored before, so never resumed automatically. -/
  noAuto : Bool
  /-- R281: the last command was switched; R269: MODE BLOCK from this beat. -/
  running : Bool
  blockFrom : Nat
  /-- R258: last transition of each leg at or before the latest apply instant. -/
  lastX : Option Nat
  lastY : Option Nat
  /-- R275: Σ Q·ΔV and Σ ΔV² of the period, the lowest and highest end value (binary32), and the level already reported. -/
  capA : Rat
  capB : Rat
  vLo : Option Nat
  vHi : Option Nat
  capLevel : Nat
  /-- R263: beats back inside the ranges. -/
  dtBack : Nat
  /-- R276: own closure difference of the window, in µJ. -/
  closeDiff : Rat
  /-- R260: place in the order of the previous beat. -/
  place : Nat
  /-- R526: the auxiliary items of the round, and of bursts of the round after it. -/
  aux : Aux
  auxNext : Aux
  deriving DecidableEq, Repr, Inhabited

/-- The array beyond its registers (R247 to R283). -/
structure Arr where
  /-- R264: array schedule: instant of a boundary in sub-ticks, the polarity from there (negative), half-period, hop entry; beat of the last hop. -/
  dabAt : Nat
  dabNeg : Bool
  dabHalf : Nat
  hop : Nat
  hopBeat : Option Nat
  /-- R279: present import and export limits of a stop ramp in mW; beats below ZERO_KW; zero power reached. -/
  ramp : Option (Int × Int)
  zeroBeats : Nat
  zeroPower : Bool
  /-- R280: fast stop in force from this beat. -/
  fastFrom : Option Nat
  /-- R276, R447: closure sums of each string in µJ: Σ(W_L − W_M) and Σ|W_M| of the window; Σ W_M of the metering window. -/
  closeD : List Rat
  closeM : List Rat
  metM : List Rat
  /-- R447: number of the metering window that metM sums, and the window before it with its sums. -/
  metK : Nat
  metPrev : Option (Nat × List Rat)
  /-- R105: start tick of each string's phase, the voltage it began at in µV, and the tick since which its end condition holds. -/
  preAt : List Nat
  preV : List Int
  preMet : List (Option Nat)
  /-- R102: checks failing: (check, object); R104: START waits. -/
  fails : List (Nat × Nat)
  starting : Bool
  /-- R128, R249: beat whose start has been processed, and the beat last latched. -/
  beat : Option Nat
  latched : Option Nat
  /-- R321: the beat's commands have been handed over. -/
  handed : Option Nat
  deriving DecidableEq, Repr, Inhabited

/-- A Loop Engine slot beyond its registers (R287 to R300). -/
structure Slot where
  /-- R287: output of the previous beat. -/
  prev : Nat
  /-- R290: y_c of the previous beat. -/
  yc : Nat
  /-- R300: frozen for the beat; R298: released in the beat. -/
  frozen : Bool
  /-- R576: the owner's limits in force. -/
  lo : Option Nat
  hi : Option Nat
  /-- R253, R254: a scale the owner gives the table value, and a feed-forward value it gives in place of one (binary32). -/
  ffScale : Option Nat
  ffVal : Option Nat
  /-- R291, R308: the beat of its last numeric fault. -/
  numAt : Option Nat
  deriving DecidableEq, Repr, Inhabited

/-- A phase of the output stage beyond its registers (R329 to R346). -/
structure Phase where
  /-- R344: consecutive periods with the share error; R343: burst periods left. -/
  openCnt : Nat
  burst : Nat
  /-- R338: moves still to make in the next two periods. -/
  move : List Int
  /-- R341: shed, with its running period still to finish. -/
  ending : Bool
  /-- R317, R354: TRUNC (0.1 V) in force for the phase. -/
  trunc : Nat
  /-- R331, R336: the period mean and the trim t_k as formed, in A and as a fraction. -/
  iavg : Rat
  trim : Rat
  deriving DecidableEq, Repr, Inhabited

/-- A phase group beyond its registers (R334 to R350). -/
structure Group where
  /-- R348: V_ref in V, soft-start start tick, beats within 1 %. -/
  vref : Rat
  ssTick : Nat
  within : Nat
  /-- R349: stop ceiling in A; none while no stop runs. -/
  cStop : Option Rat
  quiet : Nat
  /-- R349: the beat in which the stop began. -/
  stopBeat : Nat
  /-- R341 to R343: previous I_ref (A), beats below the shed and burst limits, beats since a change, beats asleep. -/
  iref : Rat
  shedBelow : Nat
  holdOff : Nat
  burstBelow : Nat
  sleepBeats : Nat
  /-- R294, R334: the output current of the beat's input set (A). -/
  iout : Rat
  /-- R339: tick of the last crossing of the truncation threshold, with V_ref's excess over it in 0.1 V. -/
  cross : Option (Nat × Rat)
  deriving DecidableEq, Repr, Inhabited

/-- A PWM channel beyond its registers (R361 to R386). -/
structure Pwm where
  /-- R361: start of the running period in sub-ticks of the Chronometer, and its length in output-stage sub-ticks; 0 while the counter stands. -/
  start : Nat
  length : Nat
  /-- R365, R374: level commanded: 0 OFF, 1 MID, 3 ON; a channel waiting for dead time to turn on. -/
  wait : Option Nat
  /-- R365: sub-tick at which its wait ends. -/
  waitAt : Nat
  /-- R374: sub-tick of the OFF step scheduled. -/
  offAt : Option Nat
  /-- R360: sub-tick of the last change of level. -/
  edge : Nat
  /-- R363: shadow period and offset. -/
  shPeriod : Nat
  shOffset : Nat
  /-- R378: prescaler counts of zero, period and compare. -/
  presc : List Nat
  /-- R339: no further pulse in this period; R362: the compare of this period has passed. -/
  cut : Bool
  cmpDone : Bool
  /-- R338, R343: both switches OFF until the next period starts. -/
  hold : Bool
  deriving DecidableEq, Repr, Inhabited

/-- A gate channel beyond its registers (R370 to R386). -/
structure Gate where
  /-- R371: end of the blanking window; first assertion of the pending episode. -/
  blankEnd : Nat
  pendTick : Nat
  /-- R382, R383: band of the last frame (0 none, 1 P, 2 N), ticks of the last valid frames, valid frames in a row. -/
  band : Nat
  lastP : Option Nat
  lastN : Option Nat
  good : Nat
  /-- R383, R384: conditions that last. -/
  lowPos : Bool
  lowNeg : Bool
  lostNow : Bool
  /-- R386: refresh made since UV_POS was set; the tick from which a P frame proves the supply, none before the complement has turned on. -/
  refreshed : Bool
  compOn : Option Nat
  /-- R386: the channel's bridge is locked out by its bootstrap supply. -/
  bridge : Bool
  deriving DecidableEq, Repr, Inhabited

/-- The output stage, PWM and gates as a whole. -/
structure Os where
  /-- R353: brake energy per beat in µJ over the last 97,657 beats, newest first, and its sum. -/
  brakeJ : List Rat
  brakeSum : Rat
  brakeOver : Bool
  /-- R333: consecutive beats at the rail, and beats back inside the calibration range, per input. -/
  rail : List Nat
  calBack : List Nat
  /-- R374: last OFF step scheduled, in sub-ticks. -/
  lastOff : Nat
  /-- R360: the sub-tick, within the present tick, of the edge that is being made. -/
  sub : Nat
  /-- R389, R390: the compare of the actuator's running period. -/
  driveCmp : Nat
  /-- R388, R394: tick of the last Hall change. -/
  hallTick : Nat
  /-- R389: drive u handed over, × 100,000. -/
  drive : Int
  /-- R100: carriers seen on undeclared channels, with the tick of the last frame. -/
  undeclared : List (Nat × Nat)
  /-- R337: OS_LINK.I_LINK until tick 8 of the beat that began at tick `linkAt`. -/
  linkWas : Nat
  linkAt : Nat
  deriving DecidableEq, Repr, Inhabited

/-- An encoder beyond its registers (R398 to R403). -/
structure Enc where
  /-- R399, R403: instants of the last edge of A and B, and of the last edge before this and the previous latch with their counts. -/
  edgeA : Nat
  edgeB : Nat
  lastEdge : Nat
  lastCount : Nat
  latchEdge : Nat
  latchCount : Nat
  /-- R399: EDGE_OVR since the last latch. -/
  ovr : Bool
  /-- R402: direction known; reversals collected; instant of the last event. -/
  moved : Bool
  revs : Nat
  revAt : Option Nat
  /-- R403: count and last edge before an edge in the sample at tick 0 of a beat whose latch has not been taken. -/
  held : Option (Nat × Nat × Nat)
  /-- R404: instants of the counted edges with the count before each, newest first, over the longest read span. -/
  trail : List (Nat × Nat)
  deriving DecidableEq, Repr, Inhabited

/-- The collector servo beyond its registers (R403 to R418). -/
structure Col where
  /-- R410: profile reference and speed in 2^-16 counts and counts/s, target, limits. -/
  r : Int
  v : Int
  speed : Nat
  accel : Nat
  peak : Nat
  item : Nat
  stopping : Bool
  /-- R414, R415: within-band beats, stall beats, beats without edge. -/
  band : Nat
  stall : Nat
  quiet : Nat
  /-- R405: invalid SSI frames in a row; a valid frame seen. -/
  badSsi : Nat
  ssiSeen : Bool
  /-- R404: tick at which the last SSI frame started. -/
  ssiAt : Option Nat
  /-- R406: ENC2 zero for mode 1. -/
  home : Nat
  /-- R415: the position has become invalid since the last latch. -/
  fell : Bool
  /-- R416: inside the zone since PRECHARGE; excursion reported. -/
  inZone : Bool
  lostZone : Bool
  /-- R408: FRIC output of the previous beat; u as formed. -/
  fric : Nat
  u : Rat
  /-- R417: a stop that asks for a move to SAFE_POS has not had it; a pair of GUARD demanded at the last latch. -/
  parkDue : Bool
  guard : Bool
  deriving DecidableEq, Repr, Inhabited

/-- A metering channel beyond its registers (R422 to R429). Values are exact; only registers are rounded. (DESIGN CHOICE: note 102.) -/
structure MetCh where
  /-- R421, R422: the latest bits of the modulator, newest first. -/
  bits : List Bool
  /-- R424: the latest raw samples, newest first. -/
  hist : List Int
  /-- R427: armed; previous corrected value; last valid crossing; valid periods in sub-ticks, newest first; valid crossings in a row; no valid
crossing since a timeout. -/
  armed : Bool
  prevV : Rat
  zcAt : Option Nat
  periods : List Nat
  valid : Nat
  fresh : Bool
  /-- R428: the timeout lasts; the last nominal period counted in it. -/
  zcOut : Bool
  nomAt : Nat
  /-- R423: the episodes, and the samples back inside the limits. -/
  lostNow : Bool
  lostBack : Nat
  ovrNow : Bool
  ovrBack : Nat
  /-- R424 to R426: µ of the last window, 0 until the first has ended; outside the validity range, and back inside at the last window's end. -/
  mu : Rat
  calOut : Bool
  calBack : Bool
  /-- R425, R435: window sums of v and v² and their number; R429: the latest v², newest first, and the RMS of the last whole period (binary32). -/
  sum : Rat
  sumSq : Rat
  n : Nat
  sq : List Rat
  perRms : Nat
  /-- R425: v_R of the newest sample; R429: values latched at tick 0: crossing, period, peak or v_R (binary32). -/
  vr : Rat
  latchZc : Nat
  latchT : Rat
  latchV : Nat
  deriving DecidableEq, Repr, Inhabited

/-- R436, R437: a closed window of an AC element: its ends and the instant of the newest sample (sub-ticks), and the corrected voltages and currents up
to that sample, newest first. -/
structure MetWin where
  start : Nat
  stop : Nat
  last : Nat
  v : List Rat
  i : List Rat
  deriving DecidableEq, Repr, Inhabited

/-- A metering element beyond its registers (R432 to R447). (DESIGN CHOICE: note 102.) -/
structure MetEl where
  /-- R432: products p and q, newest first. -/
  p : List Rat
  q : List Rat
  /-- R435: window sums of P, Q, v², i² and the number of samples; crossings counted in the window. -/
  sumP : Rat
  sumQ : Rat
  sumV : Rat
  sumI : Rat
  n : Nat
  crossings : Nat
  /-- R439: the open interval, or the one kept at a stop (R444). -/
  open_ : Option Interval
  /-- R438: START, END and tick alignment of the interval that follows the open one, where the relation it was fixed by no longer stands. -/
  next : Option (Nat × Nat × Bool)
  /-- R437: start of the running window, its corrected voltages and currents, newest first; the latest closed window, and the one a burst analyses. -/
  winFrom : Nat
  wv : List Rat
  wi : List Rat
  closed : Option MetWin
  burst : Option MetWin
  /-- R447: number of the closure window, Σ P·Δt and Σ|P·Δt| of its samples in 2^-32 mJ, and those of the window before, until they are checked. -/
  winK : Nat
  met : Int
  metAbs : Nat
  prev : Option (Nat × Int × Nat)
  deriving DecidableEq, Repr, Inhabited

/-- Metering as a whole (R435 to R450). -/
structure Met where
  /-- R444: the Catalogue in force has a Metering section. -/
  declared : Bool
  /-- R438: instant (sub-ticks) of the last step of network time. -/
  stepAt : Option Nat
  /-- R422: next sample number. -/
  k : Nat
  /-- R436: reporting windows of element 0 counted, the window awaiting its burst. -/
  windows : Nat
  waiting : Option Nat
  bursting : Option Nat
  /-- R442: records of each element, newest first, at most 256. -/
  records : List (List MetRec)
  /-- R450: harmonic results in force: (element, order, voltage, current). -/
  harmonics : List (Nat × Nat × Nat × Nat)
  /-- R441, R446: elements whose next record is the first after SAVE_STALE. -/
  stale : List Nat
  /-- R447: the closure window of the running beat, whether RUN has lasted through it so far, and the same of the window before. -/
  runK : Nat
  runWhole : Bool
  runPrev : Option (Nat × Bool)
  deriving DecidableEq, Repr, Inhabited

/-- One Ethernet port beyond its registers (R458 to R463). -/
structure Port where
  /-- R463: the masters heard, each with the tick of its last Announce, and the best of them. -/
  masters : List (Announce × Nat)
  /-- R463: senders whose Announces qualify them. -/
  qualified : List Nat
  best : Option Announce
  /-- R463: a two-step Sync that awaits its Follow_Up, with its receive stamp in network time, ns. -/
  syncRx : Option (PtpSync × Int)
  /-- R463: the last measurement: receive stamp in network time with EXT_RX, and the master's origin time with the corrections, in ns. -/
  last : Option (Rat × Rat)
  /-- R463: mean path or link delay in ns. -/
  delay : Rat
  /-- R463: the request that awaits its answer: its sequence number and its departure in network time at the medium; the next sequence number. -/
  req : Option (Nat × Rat)
  seq : Nat
  /-- R458, R191: the module is absent; its loss of signal has not been clear for 1 ms. -/
  absent : Bool
  los : Bool
  /-- R462: departure instants (sub-ticks) of the frames queued to the other port. -/
  queue : List Nat
  deriving DecidableEq, Repr, Inhabited

/-- The Chronometer beyond its registers (R453 to R473). -/
structure Chr where
  /-- R453: network time: seconds, and nanoseconds in 2^-32 ns. -/
  sec : Nat
  frac : Nat
  /-- R66: the tick count at the main domain's start, on a REFCLK edge; later edges come every 4 ticks. -/
  edge0 : Nat
  /-- R465: integrator I and rate r in ppb; counts of the step and lock rules. -/
  i : Rat
  r : Rat
  steps : Nat
  locks : Nat
  unlocks : Nat
  /-- R465: a servo step put off to the next tick, in 2^-32 ns. -/
  pendStep : Option Int
  /-- R465: the tick at whose start the last host set was applied. -/
  setAt : Option Nat
  /-- R469: instant of the last PPS_IN edge (sub-ticks), and whether it was rejected. -/
  ppsAt : Option Nat
  ppsBad : Bool
  /-- R469: the measurement of the last edge, in ns, until no second edge can reject it. -/
  ppsHold : Option Rat
  /-- R473: periodic frames waiting for arbitration, by 4·c + f, with their data. -/
  canPend : List (Nat × List Nat)
  deriving DecidableEq, Repr, Inhabited

/-- One safety pair as one part sees it (R503 to R511). -/
structure Pair where
  /-- R504: channel A and B recognised at no demand. -/
  a : Bool
  b : Bool
  demand : Bool
  /-- R510: window end and the channel that moved first with its old level. -/
  window : Option Nat
  first : Nat
  /-- R510: ticks of recent transitions. -/
  trans : List Nat
  fault : Bool
  chatter : Bool
  /-- R502, R506: a kind-1 demand begun while energised. -/
  delayed : Bool
  /-- R517: tick since which both channels read no demand. -/
  clearSince : Option Nat
  /-- R511: the fault condition lasts; the fault was of class C5. -/
  cond : Bool
  c5 : Bool
  deriving DecidableEq, Repr, Inhabited

/-- Who made a change (R157). -/
structure Orig where
  code : Nat
  func : Nat
  ring : Nat
  desc : Nat
  tag : Nat
  deriving DecidableEq, Repr, Inhabited

/-- The safety island beyond its registers (R502 to R517). -/
structure Saf where
  /-- R504: pairs as the Curator core (0) and the Detent (1) see them. -/
  pairs : List (List Pair)
  /-- R515: lock-out latch in the Detent's Reserve-powered logic: source, object, tick. -/
  latch : Option (Nat × Nat × Nat)
  /-- R508: the loop has been silenced since entry to PRECHARGE. -/
  silenced : Bool
  /-- R508: Curator core's permit present. -/
  permit : Bool
  /-- R516: tick of the press; the command that opened the window (func, ring, desc, tag). -/
  pressAt : Option Nat
  cmd : Nat × Nat × Nat × Nat
  /-- R514: the Curator core's DELAY of a kind-1 demand has run out before the Detent's. -/
  dropped : Bool
  /-- R513: ticks at which the Curator core (0) and the Detent (1) are healthy again, where their first intervals still run. -/
  health : List (Option Nat)
  /-- R513: for each pair, the tick since which the parts differ on its demand. -/
  diffAt : List (Option Nat)
  /-- R515: tick at which the latch's write to MRAM is complete. -/
  latchAt : Option Nat
  /-- R350: a safe-off whose soft-off still runs: LOCKOUT follows it. -/
  lockDue : Option Orig
  deriving DecidableEq, Repr, Inhabited

/-- One housekeeping point (R525 to R534). -/
structure HkPoint where
  /-- R532: values of the rounds the rate is fitted over, newest first. -/
  hist : List Nat
  /-- R530: rounds in a row within VOTE_TOL of the median. -/
  within : Nat
  outvoted : Bool
  /-- R529: invalid; a value has been evaluated. -/
  invalid : Bool
  seen : Bool
  /-- R533: the episodes: WARN, DERATE_AT, STOP_AT or RATE_MAX, LIMIT. -/
  warn : Bool
  derate : Bool
  stop : Bool
  limit : Bool
  deriving DecidableEq, Repr, Inhabited

/-- An event of a housekeeping round (R538): source, class, OBJECT, DATA, derate factor. -/
structure HkEvent where
  src : Nat
  cls : Nat
  obj : Nat
  data : List Nat
  factor : Option Nat
  deriving DecidableEq, Repr, Inhabited

/-- Housekeeping beyond its registers (R524 to R537): points 0 to 47, then 48 + 12·cell + item. -/
structure Hk where
  points : List HkPoint
  /-- R530: groups whose vote failed, R526: cells in a NODE_CHECK episode. -/
  voteBad : List Nat
  nodeBad : List Nat
  /-- R536: a Housekeeping stop of class C3 runs. -/
  soft : Bool
  /-- R524: the round that is evaluated next. -/
  round : Nat
  /-- R476, R533: events of the round being evaluated; none between commands. -/
  events : List HkEvent
  deriving DecidableEq, Repr, Inhabited

/-- The whole block but its queue. -/
structure Dev where
  /-- R540, R543: every register field, as its difference from the Reset column, by key (BAR0 byte offset · 64 + lowest bit). -/
  regs : List (Nat × Nat)
  /-- R2, R55: tick count; 0 before the first boot. -/
  tick : Nat
  /-- The model's own counter of free values drawn. -/
  freeCtr : Nat
  /-- Deadlines running. -/
  timers : List (Timer × Nat)
  out : List Out
  pwr : Pwr
  clk : Clk
  loans : List Loan
  loanWait : List LoanReq
  mram : Mram
  rings : Rings
  prov : Prov
  reg : Reg
  lanes : List Lane
  cells : List Cell
  arr : Arr
  slots : List Slot
  /-- R305: (table, beat, 0): the beat in which a table last exchanged its banks. -/
  bank2 : List (Nat × Nat × Nat)
  phases : List Phase
  groups : List Group
  pwm : List Pwm
  gates : List Gate
  os : Os
  enc : List Enc
  col : Col
  metCh : List MetCh
  metEl : List MetEl
  met : Met
  ports : List Port
  chr : Chr
  saf : Saf
  hk : Hk
  deriving DecidableEq, Repr, Inhabited

/-- The state: the block and the queue of commands that wait, first in, first out. -/
structure State where
  dev : Dev
  pending : List Instr
  deriving DecidableEq, Repr, Inhabited

/-- A lane right after a main-domain reset: OFF and dark (R92). Until its signal has first been there the lane counts it as lost, while LANE_STATUS.LOS reads
its reset value 0, which the spec gives without saying what it means before the first loss. (DESIGN CHOICE: note 62.) -/
def Lane.init : Lane := { (default : Lane) with txdis := true, prsHigh := true, los := true, lastSample := List.replicate 6 0, fs := List.replicate 5 0 }

/-- No auxiliary item seen. -/
def Aux.init : Aux := ⟨List.replicate 12 0, List.replicate 16 0, 0⟩

/-- A cell right after a reset. -/
def Cell.init : Cell := { (default : Cell) with mean := List.replicate 5 0, aux := Aux.init, auxNext := Aux.init }

/-- Both channels unrecognised, which reads as demand (R503, R40). -/
def Pair.init : Pair := { (default : Pair) with demand := true }

/-- Non-volatile memory as delivered (R574, R89): one firmware image in slot A, no Catalogue, no key, no anchor, boot count 0. (DESIGN CHOICE: note 10.) -/
def Mram.delivered : Mram :=
  { keys := List.replicate 4 .empty, fw := [some ⟨1, 0, true, true⟩, none], secFloor := 0, catFloor := 0, cats := [none, none], active := 0
    saves := [none, none], bootRecs := [none, none], latch := none, tickRecs := [none, none], safety := [none, none], blockRing := [], eventRing := [], blockAt := 0, eventAt := 0 }

/-- R518, R523: the safety image a device that has never committed holds: the reset values of the Safety-commit fields. (DESIGN CHOICE: note 25.) -/
def Prov.neverCommitted : List Nat :=
  leBytes 4 1 ++ leBytes 4 0x1E01 ++ List.replicate 56 0 ++ (List.replicate 8 (leBytes 4 0x6408 ++ leBytes 4 0x03E80000)).flatten

/-- A function right after its reset: no bus mastering, D0, MSI-X off, 128-byte payloads and 512-byte reads. (PRESUMED: note 11.) -/
def PcieFn.start : PcieFn := ⟨false, false, false, false, 128, 512⟩

/-- Host rings right after a main-domain reset: all disabled, nothing pending (R92); every vector masked as the PCI Express reset leaves it. (PRESUMED: note 11.) -/
def Rings.init : Rings :=
  { (default : Rings) with reserved := List.replicate 16 0, taken := List.replicate 16 0, completed := List.replicate 16 0
                           tails := List.replicate 16 [], heads := List.replicate 16 [], evHold := List.replicate 4 [], evLost := List.replicate 4 0
                           masked := List.range 128, pages := List.replicate 8 default, latch := [none, none], lowHold := [[], []], fn := [PcieFn.start, PcieFn.start] }

/-- The main domain's state right after its reset (R92), over what survives it: the Reserve registers, the supplies, the non-volatile
memory, the Detent's latch and the trace of outputs. (DESIGN CHOICE: note 9.) -/
def Dev.mainReset (keep : List (Nat × Nat)) (tick free : Nat) (out : List Out) (pwr : Pwr) (mram : Mram) (latch : Option (Nat × Nat × Nat)) : Dev :=
  { regs := keep, tick := tick, freeCtr := free, timers := [], out := out, pwr := pwr
    clk := { (default : Clk) with demand := List.replicate 4 [], losses := List.replicate 4 [], dead := List.replicate 4 false
                                  starting := List.replicate 4 false, freq := 100000000 }
    loans := [], loanWait := [], mram := mram, rings := Rings.init, prov := { (default : Prov) with inForce := Prov.neverCommitted }
    reg := { (default : Reg) with aq := List.replicate 32 none }
    lanes := List.replicate 96 Lane.init, cells := List.replicate 96 Cell.init
    arr := { (default : Arr) with dabHalf := 80000, closeD := List.replicate 6 0, closeM := List.replicate 6 0, metM := List.replicate 6 0
                                  preAt := List.replicate 6 0, preV := List.replicate 6 0, preMet := List.replicate 6 none }
    slots := List.replicate 1024 default, bank2 := []
    phases := List.replicate 12 default, groups := List.replicate 2 default
    pwm := List.replicate 32 { (default : Pwm) with presc := [0, 0, 0] }, gates := List.replicate 32 default
    os := { (default : Os) with rail := List.replicate 16 0, calBack := List.replicate 16 0 }
    enc := List.replicate 2 default, col := default
    metCh := List.replicate 16 default, metEl := List.replicate 8 default, met := { (default : Met) with records := List.replicate 8 [] }
    ports := List.replicate 2 { (default : Port) with absent := true, los := true }, chr := default
    saf := { (default : Saf) with pairs := List.replicate 2 (List.replicate 8 Pair.init), latch := latch, health := [none, none], diffAt := List.replicate 8 none }
    hk := { (default : Hk) with points := List.replicate 1200 default } }

/-- The supplies while the Reserve domain does not run (R36, R43). -/
def Pwr.none : Pwr := { (default : Pwr) with main := .off, canStb := [true, true], canHeld := [false, false], wakeHigh := [false, false], canLow := [false, false] }

/-- The supplies right after the first application of VIN and VKEEP: the Reserve domain runs and holds the main domain in reset (R43, R86). (DESIGN CHOICE: note 9.) -/
def Pwr.first : Pwr := { Pwr.none with reserveOn := true, main := .held, vinOk := true, vinFell := true, vsdoOk := true, cause := 1 }

/-- R85: RSV_STATUS.VKEEP_OK and VIN_OK read 1: both supplies are present. (DESIGN CHOICE: note 9.) -/
def Pwr.present : List (Nat × Nat) := [(0x100024 * 64 + 1, 1), (0x100024 * 64 + 2, 1)]

/-- The block right after reset (R92, R543, R574). (DESIGN CHOICE: notes 8, 9, 27.) -/
def State.reset : State :=
  { dev := Dev.mainReset Pwr.present 0 0 [] Pwr.first Mram.delivered none, pending := [] }

end Sys2Proof.Machine
end

