-- ==== Sys2Proof/Machine/Fld.lean ====
section
/-! DEFINITION. Register fields: where a field lives, and reading and writing it in the sparse store. The one operation that reads or
writes registers is here. -/

namespace Sys2Proof.Machine

/-- Access codes of R9. -/
inductive Acc | ro | rw | rwc | w1c | wo
  deriving DecidableEq, Repr, Inhabited

/-- A field of the register map: base BAR0 offset, three array dimensions (count, stride), whether its register is 64 bits wide, its
lowest bit, its width, its access code and Reset column by first index (the last entry of each list holds for every later index). -/
structure Fld where
  base : Nat
  n1 : Nat
  s1 : Nat
  n2 : Nat
  s2 : Nat
  n3 : Nat
  s3 : Nat
  wide : Bool
  lo : Nat
  w : Nat
  acc : List Acc
  rst : List Nat
  deriving DecidableEq, Repr, Inhabited

/-- Element `i` of a list whose last entry holds for every later index. -/
def atOrLast {α : Type} [Inhabited α] (l : List α) (i : Nat) : α := l.getD i (l.getLastD default)

/-- Access codes of the threshold-set fields: RO for the on-die sets 32 to 47 (R539). -/
def hkAcc : List Acc := List.replicate 32 .rwc ++ List.replicate 16 .ro ++ [.rwc]

/-- BAR0 byte offset of the register that holds element (a, b, c) of a field (R547). -/
def Fld.off (f : Fld) (a b c : Nat) : Nat := f.base + f.s1 * a + f.s2 * b + f.s3 * c

/-- Key of element (a, b, c) of a field in the store. -/
def Fld.key (f : Fld) (a b c : Nat) : Nat := f.off a b c * 64 + f.lo

/-- R543: the Reset column of a field's element. (DESIGN CHOICE: note 4.) -/
def Fld.reset (f : Fld) (a : Nat) : Nat := atOrLast f.rst a

/-- R9: the access code of a field's element. -/
def Fld.code (f : Fld) (a : Nat) : Acc := atOrLast f.acc a

/-- The number stored under a key; 0 where none is listed. (DESIGN CHOICE: note 4.) -/
def regGet : List (Nat × Nat) → Nat → Nat
  | [], _ => 0
  | (k, v) :: r, x => if k = x then v else regGet r x

/-- The store without a key. -/
def regDel (l : List (Nat × Nat)) (x : Nat) : List (Nat × Nat) := l.filter (fun p => p.1 != x)

/-- The store with a pair put before the first higher key. -/
def regIns : List (Nat × Nat) → Nat → Nat → List (Nat × Nat)
  | [], x, v => [(x, v)]
  | (k, u) :: r, x, v => if x < k then (x, v) :: (k, u) :: r else (k, u) :: regIns r x v

/-- Store `v` under key `x` and keep the canonical form: keys rising, no 0 listed. (DESIGN CHOICE: note 4.) -/
def regPut (l : List (Nat × Nat)) (x v : Nat) : List (Nat × Nat) := if v = 0 then regDel l x else regIns (regDel l x) x v

/-- The canonical form of the store: keys strictly rising and no 0 listed. -/
def regWf (l : List (Nat × Nat)) : Bool :=
  match l with
  | [] => true
  | (k, v) :: r => v != 0 && (match r with | [] => true | (k', _) :: _ => k < k') && regWf r

/-- The value of a field's element: what is stored, exclusive-or its Reset column. (DESIGN CHOICE: note 4.) -/
def Dev.get (d : Dev) (f : Fld) (a : Nat := 0) (b : Nat := 0) (c : Nat := 0) : Nat :=
  (regGet d.regs (f.key a b c)) ^^^ f.reset a

/-- Write a field's element, kept to its width; an element outside the array changes nothing. (DESIGN CHOICE: note 4.) -/
def Dev.set (d : Dev) (f : Fld) (v : Nat) (a : Nat := 0) (b : Nat := 0) (c : Nat := 0) : Dev :=
  if a < f.n1 ∧ b < f.n2 ∧ c < f.n3 then
    { d with regs := regPut d.regs (f.key a b c) ((v % 2 ^ f.w) ^^^ f.reset a) } else d

/-- A one-bit field as a truth value. -/
def Dev.bit (d : Dev) (f : Fld) (a : Nat := 0) (b : Nat := 0) (c : Nat := 0) : Bool := d.get f a b c == 1

/-- Write a truth value into a one-bit field. -/
def Dev.setB (d : Dev) (f : Fld) (v : Bool) (a : Nat := 0) (b : Nat := 0) (c : Nat := 0) : Dev := d.set f (b2n v) a b c

/-- A field read as a signed number. -/
def Dev.getS (d : Dev) (f : Fld) (a : Nat := 0) (b : Nat := 0) (c : Nat := 0) : Int := toS f.w (d.get f a b c)

/-- Write a signed number, held to the field's range. -/
def Dev.setS (d : Dev) (f : Fld) (v : Int) (a : Nat := 0) (b : Nat := 0) (c : Nat := 0) : Dev := d.set f (ofS f.w v) a b c

/-- Advance a counter that never wraps in the life of the product (R12). -/
def Dev.inc (d : Dev) (f : Fld) (n : Nat) (a : Nat := 0) (b : Nat := 0) (c : Nat := 0) : Dev := d.set f (d.get f a b c + n) a b c

/-- Advance a saturating counter: it stops at all ones (R12). -/
def Dev.incSat (d : Dev) (f : Fld) (n : Nat) (a : Nat := 0) (b : Nat := 0) (c : Nat := 0) : Dev :=
  d.set f (min (2 ^ f.w - 1) (d.get f a b c + n)) a b c

/-- One bit `i` of a field. -/
def Dev.flag (d : Dev) (f : Fld) (i : Nat) : Bool := (d.get f).testBit i

/-- Write bit `i` of a field. -/
def Dev.setFlag (d : Dev) (f : Fld) (i : Nat) (v : Bool) : Dev := d.set f (putBits (d.get f) i 1 (b2n v))

/-- The element of a list of units, or the default unit outside it. -/
def unit {α : Type} [Inhabited α] (l : List α) (i : Nat) : α := l.getD i default

/-- Fold a transformation over a list of objects. -/
def Dev.each {α : Type} (d : Dev) (l : List α) (g : Dev → α → Dev) : Dev := l.foldl g d

/-- Apply a transformation under a condition. -/
def Dev.cond (d : Dev) (c : Bool) (g : Dev → Dev) : Dev := if c then g d else d

/-- The beat number and the beat phase (R3). -/
def Dev.beat (d : Dev) : Nat := d.tick / 1024
def Dev.phase (d : Dev) : Nat := d.tick % 1024

/-- Start or restart a deadline `n` ticks from now. -/
def Dev.arm (d : Dev) (t : Timer) (n : Nat) : Dev :=
  { d with timers := (t, d.tick + n) :: d.timers.filter (fun x => x.1 != t) }

/-- Stop a deadline. -/
def Dev.disarm (d : Dev) (t : Timer) : Dev := { d with timers := d.timers.filter (fun x => x.1 != t) }

/-- The instant of a running deadline. -/
def Dev.due (d : Dev) (t : Timer) : Option Nat := (d.timers.find? (fun x => x.1 == t)).map (·.2)

/-- Record something put on the bus, the lanes or the pins. (DESIGN CHOICE: note 5.) -/
def Dev.emit (d : Dev) (o : Out) : Dev := { d with out := o :: d.out }

/-- Draw the index of a free value. (DESIGN CHOICE: note 6.) -/
def Dev.free (d : Dev) : Dev := { d with freeCtr := d.freeCtr + 1 }

/-- Change one unit of a list. -/
def Dev.lane (d : Dev) (k : Nat) (g : Lane → Lane) : Dev := { d with lanes := d.lanes.modify k g }
def Dev.cell (d : Dev) (k : Nat) (g : Cell → Cell) : Dev := { d with cells := d.cells.modify k g }
def Dev.slot (d : Dev) (k : Nat) (g : Slot → Slot) : Dev := { d with slots := d.slots.modify k g }
def Dev.grp (d : Dev) (k : Nat) (g : Group → Group) : Dev := { d with groups := d.groups.modify k g }
def Dev.phs (d : Dev) (k : Nat) (g : Phase → Phase) : Dev := { d with phases := d.phases.modify k g }
def Dev.pw (d : Dev) (k : Nat) (g : Pwm → Pwm) : Dev := { d with pwm := d.pwm.modify k g }
def Dev.gd (d : Dev) (k : Nat) (g : Gate → Gate) : Dev := { d with gates := d.gates.modify k g }
def Dev.en (d : Dev) (k : Nat) (g : Enc → Enc) : Dev := { d with enc := d.enc.modify k g }
def Dev.mch (d : Dev) (k : Nat) (g : MetCh → MetCh) : Dev := { d with metCh := d.metCh.modify k g }
def Dev.mel (d : Dev) (k : Nat) (g : MetEl → MetEl) : Dev := { d with metEl := d.metEl.modify k g }
def Dev.port (d : Dev) (k : Nat) (g : Port → Port) : Dev := { d with ports := d.ports.modify k g }
def Dev.pair (d : Dev) (part n : Nat) (g : Pair → Pair) : Dev :=
  { d with saf := { d.saf with pairs := d.saf.pairs.modify part (fun l => l.modify n g) } }
def Dev.hkp (d : Dev) (k : Nat) (g : HkPoint → HkPoint) : Dev := { d with hk := { d.hk with points := d.hk.points.modify k g } }

/-- R15, R108, R473: device states by their GLB_STATE.DEVICE code; 0 stands for SLEEP, which no host read can see. -/
abbrev QUIET := 1
abbrev STAGED := 2
abbrev LINKED := 3
abbrev PRECHARGE := 4
abbrev RUN := 5
abbrev STOP := 6
abbrev LOCKOUT := 7

end Sys2Proof.Machine
end

