-- ==== Sys2Proof/Machine/RegMap.lean ====
section
/-! DEFINITION. The register map: one constant per field of every register table of the spec (R85, R108, R146, R165, R210, R245,
R285, R307, R308, R328, R357, R396, R420, R449, R475, R501, R523, R539, R545), named REGISTER.FIELD as the tables name it, with its BAR0 byte
offset, its array dimensions and strides (R547, R548), width, access code (R9) and Reset column (R543). The xQ registers of R146 are one array of 44
rings: CMDQ q is ring q, CPLQ q ring 16 + q, EVQ e ring 32 + e, STRM s ring 36 + s. -/

namespace Sys2Proof.Machine

def F.GLB_ID.VENDOR : Fld := .mk 0x0 1 0x0 1 0x0 1 0x0 false 0 16 [.ro] [7578]
def F.GLB_ID.DEVICE : Fld := .mk 0x0 1 0x0 1 0x0 1 0x0 false 16 16 [.ro] [2400]
def F.GLB_STEP.STEP : Fld := .mk 0x4 1 0x0 1 0x0 1 0x0 false 0 8 [.ro] [0]
def F.GLB_STEP.DETENT_STEP : Fld := .mk 0x4 1 0x0 1 0x0 1 0x0 false 8 8 [.ro] [0]
def F.GLB_VARIANT.VARIANT : Fld := .mk 0x8 1 0x0 1 0x0 1 0x0 false 0 2 [.ro] [0]
def F.GLB_MAP.VERSION : Fld := .mk 0xC 1 0x0 1 0x0 1 0x0 false 0 16 [.ro] [1]
def F.GLB_SERIAL.SERIAL : Fld := .mk 0x10 1 0x0 1 0x0 1 0x0 true 0 64 [.ro] [0]
def F.GLB_ROM.VERSION : Fld := .mk 0x18 1 0x0 1 0x0 1 0x0 false 0 32 [.ro] [0]
def F.GLB_CAPS.LANES : Fld := .mk 0x20 1 0x0 1 0x0 1 0x0 false 0 7 [.ro] [96]
def F.GLB_CAPS.GATES : Fld := .mk 0x20 1 0x0 1 0x0 1 0x0 false 8 6 [.ro] [32]
def F.GLB_CAPS.SLOTS : Fld := .mk 0x20 1 0x0 1 0x0 1 0x0 false 16 11 [.ro] [1024]
def F.GLB_MEM.LPDDR_GIB : Fld := .mk 0x24 1 0x0 1 0x0 1 0x0 false 0 8 [.ro] [16]
def F.GLB_MEM.MRAM_MBIT : Fld := .mk 0x24 1 0x0 1 0x0 1 0x0 false 8 8 [.ro] [32]
def F.GLB_STATE.DEVICE : Fld := .mk 0x100 1 0x0 1 0x0 1 0x0 false 0 4 [.ro] [1]
def F.GLB_STATE_SINCE.BEAT : Fld := .mk 0x108 1 0x0 1 0x0 1 0x0 true 0 48 [.ro] [0]
def F.GLB_RESET_CAUSE.CAUSE : Fld := .mk 0x110 1 0x0 1 0x0 1 0x0 false 0 8 [.ro] [0]
def F.GLB_BOOT.IMAGE : Fld := .mk 0x114 1 0x0 1 0x0 1 0x0 false 0 1 [.ro] [0]
def F.GLB_BOOT.SIG_OK : Fld := .mk 0x114 1 0x0 1 0x0 1 0x0 false 1 1 [.ro] [0]
def F.GLB_BOOT.SELFTEST_OK : Fld := .mk 0x114 1 0x0 1 0x0 1 0x0 false 2 1 [.ro] [0]
def F.GLB_BOOT.SAVE_OK : Fld := .mk 0x114 1 0x0 1 0x0 1 0x0 false 3 1 [.ro] [0]
def F.GLB_BOOT.SECFLOOR : Fld := .mk 0x114 1 0x0 1 0x0 1 0x0 false 8 8 [.ro] [0]
def F.GLB_FW_VERSION.VERSION : Fld := .mk 0x118 1 0x0 1 0x0 1 0x0 false 0 32 [.ro] [0]
def F.GLB_CAT.LOADED : Fld := .mk 0x120 1 0x0 1 0x0 1 0x0 false 0 1 [.ro] [0]
def F.GLB_CAT.SAFETY_MATCH : Fld := .mk 0x120 1 0x0 1 0x0 1 0x0 false 1 1 [.ro] [0]
def F.GLB_CAT_ID.ID : Fld := .mk 0x124 1 0x0 1 0x0 1 0x0 false 0 32 [.ro] [0]
def F.GLB_CAT_REV.REVISION : Fld := .mk 0x128 1 0x0 1 0x0 1 0x0 false 0 32 [.ro] [0]
def F.GLB_CAT_FLOOR.FLOOR : Fld := .mk 0x12C 1 0x0 1 0x0 1 0x0 false 0 32 [.ro] [0]
def F.GLB_STAGE_FAIL.CODE : Fld := .mk 0x130 1 0x0 1 0x0 1 0x0 false 0 8 [.ro] [0]
def F.GLB_STAGE_FAIL.COUNT : Fld := .mk 0x130 1 0x0 1 0x0 1 0x0 false 8 8 [.ro] [0]
def F.GLB_STAGE_FAIL.OBJECT : Fld := .mk 0x130 1 0x0 1 0x0 1 0x0 false 16 16 [.ro] [0]
def F.GLB_STAGE_LANES.FAILED : Fld := .mk 0x140 3 0x4 1 0x0 1 0x0 false 0 32 [.ro] [0]
def F.GLB_ESAP.TICKS : Fld := .mk 0x150 1 0x0 1 0x0 1 0x0 false 0 10 [.ro] [0]
def F.GLB_PRECHARGE.PHASE : Fld := .mk 0x160 6 0x4 1 0x0 1 0x0 false 0 3 [.ro] [0]
def F.GLB_PRECHARGE.LINK : Fld := .mk 0x160 6 0x4 1 0x0 1 0x0 false 3 1 [.ro] [0]
def F.GLB_PRECHARGE.ELAPSED : Fld := .mk 0x160 6 0x4 1 0x0 1 0x0 false 16 16 [.ro] [0]
def F.GLB_CONSERVE.FAULT : Fld := .mk 0x180 1 0x0 1 0x0 1 0x0 false 0 8 [.w1c] [0]
def F.GLB_TIMING.UP_LATEST : Fld := .mk 0x184 1 0x0 1 0x0 1 0x0 false 0 10 [.ro] [0]
def F.GLB_TIMING.DN_LATEST : Fld := .mk 0x184 1 0x0 1 0x0 1 0x0 false 16 10 [.ro] [0]
def F.GLB_TIMING_MISS.COUNT : Fld := .mk 0x188 1 0x0 1 0x0 1 0x0 true 0 64 [.ro] [0]
def F.GLB_SATCLR.CLEAR : Fld := .mk 0x190 1 0x0 1 0x0 1 0x0 false 0 1 [.wo] [0]
def F.LANE_BUDGET.ESAP_K : Fld := .mk 0x400020 96 0x1000 1 0x0 1 0x0 false 0 10 [.ro] [0]
def F.LANE_BUDGET.UP_SLACK : Fld := .mk 0x400020 96 0x1000 1 0x0 1 0x0 false 16 11 [.ro] [0]
def F.RSV_CTRL.IDLE_SLEEP : Fld := .mk 0x100000 1 0x0 1 0x0 1 0x0 false 0 8 [.rw] [0]
def F.RSV_CTRL.PLLC_REF : Fld := .mk 0x100000 1 0x0 1 0x0 1 0x0 false 8 2 [.rw] [0]
def F.RSV_WAKE_EN.WAKE0 : Fld := .mk 0x100010 1 0x0 1 0x0 1 0x0 false 0 1 [.rw] [1]
def F.RSV_WAKE_EN.WAKE1 : Fld := .mk 0x100010 1 0x0 1 0x0 1 0x0 false 1 1 [.rw] [1]
def F.RSV_WAKE_EN.CATP : Fld := .mk 0x100010 1 0x0 1 0x0 1 0x0 false 2 1 [.rw] [0]
def F.RSV_WAKE_EN.CAN0 : Fld := .mk 0x100010 1 0x0 1 0x0 1 0x0 false 3 1 [.rw] [0]
def F.RSV_WAKE_EN.CAN1 : Fld := .mk 0x100010 1 0x0 1 0x0 1 0x0 false 4 1 [.rw] [0]
def F.RSV_WAKE_EN.ALARM : Fld := .mk 0x100010 1 0x0 1 0x0 1 0x0 false 5 1 [.rw] [0]
def F.RSV_WAKE_EN.SI : Fld := .mk 0x100010 1 0x0 1 0x0 1 0x0 false 8 8 [.rw] [255]
def F.RSV_WAKE_CAUSE.WAKE0 : Fld := .mk 0x100014 1 0x0 1 0x0 1 0x0 false 0 1 [.w1c] [0]
def F.RSV_WAKE_CAUSE.WAKE1 : Fld := .mk 0x100014 1 0x0 1 0x0 1 0x0 false 1 1 [.w1c] [0]
def F.RSV_WAKE_CAUSE.CATP : Fld := .mk 0x100014 1 0x0 1 0x0 1 0x0 false 2 1 [.w1c] [0]
def F.RSV_WAKE_CAUSE.CAN0 : Fld := .mk 0x100014 1 0x0 1 0x0 1 0x0 false 3 1 [.w1c] [0]
def F.RSV_WAKE_CAUSE.CAN1 : Fld := .mk 0x100014 1 0x0 1 0x0 1 0x0 false 4 1 [.w1c] [0]
def F.RSV_WAKE_CAUSE.ALARM : Fld := .mk 0x100014 1 0x0 1 0x0 1 0x0 false 5 1 [.w1c] [0]
def F.RSV_WAKE_CAUSE.SI : Fld := .mk 0x100014 1 0x0 1 0x0 1 0x0 false 8 8 [.w1c] [0]
def F.RSV_WAKE_CAUSE.VIN : Fld := .mk 0x100014 1 0x0 1 0x0 1 0x0 false 16 1 [.w1c] [1]
def F.RSV_WAKE_FILT.WAKE_FILT : Fld := .mk 0x100018 1 0x0 1 0x0 1 0x0 false 0 8 [.rw] [3]
def F.RSV_WAKE_FILT.CAN_FILT : Fld := .mk 0x100018 1 0x0 1 0x0 1 0x0 false 8 8 [.rw] [2]
def F.RSV_WAKE_FILT.CATP_FILT : Fld := .mk 0x100018 1 0x0 1 0x0 1 0x0 false 16 8 [.rw] [33]
def F.RSV_CATP.THRESH : Fld := .mk 0x10001C 1 0x0 1 0x0 1 0x0 false 0 8 [.rw] [80]
def F.RSV_CATP.LEVEL : Fld := .mk 0x10001C 1 0x0 1 0x0 1 0x0 false 8 1 [.ro] [0]
def F.RSV_VWARN.CODE : Fld := .mk 0x100020 1 0x0 1 0x0 1 0x0 false 0 8 [.rw] [0]
def F.RSV_VWARN.BELOW : Fld := .mk 0x100020 1 0x0 1 0x0 1 0x0 false 8 1 [.ro] [0]
def F.RSV_STATUS.XKEEP_RC : Fld := .mk 0x100024 1 0x0 1 0x0 1 0x0 false 0 1 [.ro] [0]
def F.RSV_STATUS.VKEEP_OK : Fld := .mk 0x100024 1 0x0 1 0x0 1 0x0 false 1 1 [.ro] [0]
def F.RSV_STATUS.VIN_OK : Fld := .mk 0x100024 1 0x0 1 0x0 1 0x0 false 2 1 [.ro] [0]
def F.RSV_STATUS.REFCLK_OK : Fld := .mk 0x100024 1 0x0 1 0x0 1 0x0 false 3 1 [.ro] [0]
def F.RSV_TIME.COUNT : Fld := .mk 0x100028 1 0x0 1 0x0 1 0x0 true 0 48 [.ro] [0]
def F.RSV_ALARM.AT : Fld := .mk 0x100030 1 0x0 1 0x0 1 0x0 true 0 48 [.rw] [0]
def F.PLL_CTRL.FORCE_ON : Fld := .mk 0x101000 4 0x40 1 0x0 1 0x0 false 0 1 [.ro, .rw] [1, 0]
def F.PLL_CTRL.REF_MODE : Fld := .mk 0x101000 4 0x40 1 0x0 1 0x0 false 1 2 [.ro, .rw] [0]
def F.PLL_STATUS.LOCKED : Fld := .mk 0x101004 4 0x40 1 0x0 1 0x0 false 0 1 [.ro] [0]
def F.PLL_STATUS.DEMAND : Fld := .mk 0x101004 4 0x40 1 0x0 1 0x0 false 1 1 [.ro] [0]
def F.PLL_STATUS.LOAN_WAIT : Fld := .mk 0x101004 4 0x40 1 0x0 1 0x0 false 2 1 [.ro] [0]
def F.PLL_STATUS.LOCK_LOST : Fld := .mk 0x101004 4 0x40 1 0x0 1 0x0 false 3 1 [.w1c] [0]
def F.PLL_STATUS.REF_LOST : Fld := .mk 0x101004 4 0x40 1 0x0 1 0x0 false 4 1 [.w1c] [0]
def F.PLL_LOSS_COUNT.COUNT : Fld := .mk 0x101008 4 0x40 1 0x0 1 0x0 true 0 64 [.ro] [0]
def F.PLLS_SEL.ENTRY : Fld := .mk 0x101100 1 0x0 1 0x0 1 0x0 false 0 4 [.rw] [0]
def F.PLLS_SEL.HOP_BUSY : Fld := .mk 0x101100 1 0x0 1 0x0 1 0x0 false 4 1 [.ro] [0]
def F.PLLS_SYNC.EN : Fld := .mk 0x101104 1 0x0 1 0x0 1 0x0 false 0 1 [.rw] [0]
def F.PLLS_SYNC.LOCKED : Fld := .mk 0x101104 1 0x0 1 0x0 1 0x0 false 1 1 [.ro] [0]
def F.PLLS_SYNC.LOST : Fld := .mk 0x101104 1 0x0 1 0x0 1 0x0 false 2 1 [.w1c] [0]
def F.PLLS_SYNC.OFFSET : Fld := .mk 0x101104 1 0x0 1 0x0 1 0x0 false 16 16 [.rw] [0]
def F.PLLS_PSTEP.STEPS : Fld := .mk 0x101108 1 0x0 1 0x0 1 0x0 false 0 16 [.wo] [0]
def F.PLLS_PSTEP.BUSY : Fld := .mk 0x101108 1 0x0 1 0x0 1 0x0 false 16 1 [.ro] [0]
def F.PLLS_HOP.FREQ : Fld := .mk 0x101200 16 0x8 1 0x0 1 0x0 true 0 32 [.rw] [100000000, 0]
def F.PLLS_HOP.BAND : Fld := .mk 0x101200 16 0x8 1 0x0 1 0x0 true 32 3 [.ro] [0]
def F.PLLS_HOP.CAP : Fld := .mk 0x101200 16 0x8 1 0x0 1 0x0 true 35 8 [.ro] [0]
def F.PLLS_HOP.VALID : Fld := .mk 0x101200 16 0x8 1 0x0 1 0x0 true 63 1 [.ro] [1, 0]
def F.LOAN_CHIP.BUDGET : Fld := .mk 0x102000 1 0x0 1 0x0 1 0x0 false 0 16 [.rwc] [24000]
def F.LOAN_CHIP_STATE.OUT : Fld := .mk 0x102004 1 0x0 1 0x0 1 0x0 false 0 16 [.ro] [3000]
def F.LOAN_CHIP_STATE.AVAIL : Fld := .mk 0x102004 1 0x0 1 0x0 1 0x0 false 16 16 [.ro] [21000]
def F.LOAN_SITE.BUDGET : Fld := .mk 0x102008 1 0x0 1 0x0 1 0x0 false 0 16 [.rwc] [0]
def F.LOAN_SITE_STATE.OUT : Fld := .mk 0x10200C 1 0x0 1 0x0 1 0x0 false 0 16 [.ro] [0]
def F.LOAN_SITE_STATE.AVAIL : Fld := .mk 0x10200C 1 0x0 1 0x0 1 0x0 false 16 16 [.ro] [0]
def F.LOAN_OP_COST.COST : Fld := .mk 0x102100 11 0x20 1 0x0 1 0x0 false 0 16 [.ro, .ro, .ro, .ro, .ro, .ro, .ro, .ro, .rwc] [1900, 400, 300, 250, 3200, 1100, 1800, 600, 0]
def F.LOAN_OP_COST.STANDING : Fld := .mk 0x102100 11 0x20 1 0x0 1 0x0 false 16 16 [.ro] [1500, 250, 120, 100, 2000, 800, 0]
def F.LOAN_OP_WAIT.WAIT_MS : Fld := .mk 0x102104 11 0x20 1 0x0 1 0x0 false 0 16 [.rwc] [100, 100, 100, 100, 1000, 10000, 60000, 1000, 5000, 5000, 2000]
def F.LOAN_OP_WAIT.PRIO : Fld := .mk 0x102104 11 0x20 1 0x0 1 0x0 false 16 3 [.ro] [0, 1, 1, 1, 2, 3, 4, 5, 0, 1, 2]
def F.LOAN_OP_WAIT.WAITING : Fld := .mk 0x102104 11 0x20 1 0x0 1 0x0 false 24 8 [.ro] [0]
def F.LOAN_OP_GRANTED.COUNT : Fld := .mk 0x102108 11 0x20 1 0x0 1 0x0 true 0 64 [.ro] [0]
def F.LOAN_OP_REFUSED.COUNT : Fld := .mk 0x102110 11 0x20 1 0x0 1 0x0 true 0 64 [.ro] [0]
def F.RING_PENDING.COUNT : Fld := .mk 0x200000 1 0x0 1 0x0 1 0x0 false 0 13 [.ro] [0]
def F.RING_HELD.COUNT : Fld := .mk 0x200004 1 0x0 1 0x0 1 0x0 false 0 13 [.ro] [0]
def F.RING_ADMIT_SEQ.COUNT : Fld := .mk 0x200008 1 0x0 1 0x0 1 0x0 true 0 64 [.ro] [0]
def F.RING_STRAY.COUNT : Fld := .mk 0x200010 1 0x0 1 0x0 1 0x0 true 0 64 [.ro] [0]
def F.HOST_WD.TIMEOUT_MS : Fld := .mk 0x200018 1 0x0 1 0x0 1 0x0 false 0 16 [.rw] [0]
def F.HOST_WD.CLASS : Fld := .mk 0x200018 1 0x0 1 0x0 1 0x0 false 16 3 [.rw] [3]
def F.HOST_WD.EXPIRED : Fld := .mk 0x200018 1 0x0 1 0x0 1 0x0 false 19 1 [.w1c] [0]
def F.xQ_BASE.ADDR : Fld := .mk 0x201000 44 0x40 1 0x0 1 0x0 true 12 52 [.rw] [0]
def F.xQ_WB.ADDR : Fld := .mk 0x201008 44 0x40 1 0x0 1 0x0 true 3 61 [.rw] [0]
def F.xQ_CTRL.LOG2SIZE : Fld := .mk 0x201010 44 0x40 1 0x0 1 0x0 false 0 5 [.rw] [6]
def F.xQ_CTRL.OWNER : Fld := .mk 0x201010 44 0x40 1 0x0 1 0x0 false 5 1 [.rw] [0]
def F.xQ_CTRL.EN : Fld := .mk 0x201010 44 0x40 1 0x0 1 0x0 false 6 1 [.rw] [0]
def F.xQ_CTRL.VECTOR : Fld := .mk 0x201010 44 0x40 1 0x0 1 0x0 false 7 6 [.rw] [0]
def F.xQ_CTRL.IRQ_EN : Fld := .mk 0x201010 44 0x40 1 0x0 1 0x0 false 13 1 [.rw] [0]
def F.xQ_STATUS.ACTIVE : Fld := .mk 0x201014 44 0x40 1 0x0 1 0x0 false 0 1 [.ro] [0]
def F.xQ_STATUS.FAULT : Fld := .mk 0x201014 44 0x40 1 0x0 1 0x0 false 1 1 [.w1c] [0]
def F.xQ_STATUS.STALL : Fld := .mk 0x201014 44 0x40 1 0x0 1 0x0 false 2 1 [.ro] [0]
def F.xQ_STATUS.FAULT_CODE : Fld := .mk 0x201014 44 0x40 1 0x0 1 0x0 false 8 4 [.ro] [0]
def F.xQ_STATUS.PENDING : Fld := .mk 0x201014 44 0x40 1 0x0 1 0x0 false 16 13 [.ro] [0]
def F.xQ_PROD.INDEX : Fld := .mk 0x201018 44 0x40 1 0x0 1 0x0 false 0 32 [.ro] [0]
def F.xQ_CONS.INDEX : Fld := .mk 0x20101C 44 0x40 1 0x0 1 0x0 false 0 32 [.ro] [0]
def F.xQ_COUNT.COUNT : Fld := .mk 0x201020 44 0x40 1 0x0 1 0x0 true 0 64 [.ro] [0]
def F.xQ_LOST.COUNT : Fld := .mk 0x201028 44 0x40 1 0x0 1 0x0 true 0 64 [.ro] [0]
def F.STRM_DEC.DECIM : Fld := .mk 0x201930 8 0x40 1 0x0 1 0x0 false 0 16 [.rw] [1]
def F.STRM_DEC.NSIG : Fld := .mk 0x201930 8 0x40 1 0x0 1 0x0 false 16 5 [.rw] [0]
def F.STRM_SIG.OFFSET : Fld := .mk 0x201C00 8 0x80 32 0x4 1 0x0 false 0 26 [.rw] [0]
def F.EV_ROUTE.MASK : Fld := .mk 0x202000 256 0x4 1 0x0 1 0x0 false 0 4 [.rw] [1]
def F.EV_ROUTE.VECTOR : Fld := .mk 0x202000 256 0x4 1 0x0 1 0x0 false 4 6 [.rw] [0]
def F.EV_ROUTE.IRQ : Fld := .mk 0x202000 256 0x4 1 0x0 1 0x0 false 10 1 [.rw] [1]
def F.MSIX_MOD.HOLDOFF : Fld := .mk 0x202400 2 0x100 64 0x4 1 0x0 false 0 10 [.rw] [0]
def F.VP_LOG_HEAD.SEQ : Fld := .mk 0x300000 1 0x0 1 0x0 1 0x0 true 0 64 [.ro] [0]
def F.VP_LOG_ACKED.SEQ : Fld := .mk 0x300008 1 0x0 1 0x0 1 0x0 true 0 64 [.ro] [0]
def F.VP_LOG_STATUS.FREE : Fld := .mk 0x300010 1 0x0 1 0x0 1 0x0 false 0 23 [.ro] [4194304]
def F.VP_LOG_STATUS.LOW : Fld := .mk 0x300010 1 0x0 1 0x0 1 0x0 false 23 1 [.ro] [0]
def F.VP_LOG_STATUS.HOLDING : Fld := .mk 0x300010 1 0x0 1 0x0 1 0x0 false 24 1 [.ro] [0]
def F.VP_LOG_STATUS.FULL : Fld := .mk 0x300010 1 0x0 1 0x0 1 0x0 false 25 1 [.ro] [0]
def F.VP_ATTEMPTS.COUNT : Fld := .mk 0x300018 1 0x0 1 0x0 1 0x0 true 0 64 [.ro] [0]
def F.VP_ANCHOR_NEWEST.INDEX : Fld := .mk 0x300020 1 0x0 1 0x0 1 0x0 false 0 10 [.ro] [0]
def F.VP_ANCHOR_NEWEST.T_INDEX : Fld := .mk 0x300020 1 0x0 1 0x0 1 0x0 false 16 6 [.ro] [0]
def F.VP_SAFE_STAGE.STAGED : Fld := .mk 0x300040 1 0x0 1 0x0 1 0x0 false 0 1 [.ro] [0]
def F.VP_SAFE_STAGE.CRC_DONE : Fld := .mk 0x300040 1 0x0 1 0x0 1 0x0 false 1 1 [.ro] [0]
def F.VP_SAFE_CRC_C.CRC : Fld := .mk 0x300044 1 0x0 1 0x0 1 0x0 false 0 32 [.ro] [0]
def F.VP_SAFE_CRC_D.CRC : Fld := .mk 0x300048 1 0x0 1 0x0 1 0x0 false 0 32 [.ro] [0]
def F.VP_SAFE_IN_FORCE.CRC : Fld := .mk 0x30004C 1 0x0 1 0x0 1 0x0 false 0 32 [.ro] [0]
def F.LANE_CTRL.FIBRE_CLASS : Fld := .mk 0x400000 96 0x1000 1 0x0 1 0x0 false 0 2 [.rwc] [0]
def F.LANE_CTRL.XCVR_CLASS : Fld := .mk 0x400000 96 0x1000 1 0x0 1 0x0 false 2 2 [.rwc] [0]
def F.LANE_CTRL.FB_ALLOWED : Fld := .mk 0x400000 96 0x1000 1 0x0 1 0x0 false 4 1 [.rwc] [0]
def F.LANE_CTRL.DECLARED : Fld := .mk 0x400000 96 0x1000 1 0x0 1 0x0 false 5 1 [.rwc] [0]
def F.LANE_CTRL.TEST_HOLD : Fld := .mk 0x400000 96 0x1000 1 0x0 1 0x0 false 8 1 [.rw] [0]
def F.LANE_CTRL.MANUAL_ALIGN : Fld := .mk 0x400000 96 0x1000 1 0x0 1 0x0 false 9 1 [.rw] [0]
def F.LANE_STATUS.STATE : Fld := .mk 0x400004 96 0x1000 1 0x0 1 0x0 false 0 3 [.ro] [0]
def F.LANE_STATUS.MODE : Fld := .mk 0x400004 96 0x1000 1 0x0 1 0x0 false 3 1 [.ro] [0]
def F.LANE_STATUS.STEP : Fld := .mk 0x400004 96 0x1000 1 0x0 1 0x0 false 4 2 [.ro] [0]
def F.LANE_STATUS.PRS : Fld := .mk 0x400004 96 0x1000 1 0x0 1 0x0 false 6 1 [.ro] [0]
def F.LANE_STATUS.LOS : Fld := .mk 0x400004 96 0x1000 1 0x0 1 0x0 false 7 1 [.ro] [0]
def F.LANE_STATUS.SYM_LOCK : Fld := .mk 0x400004 96 0x1000 1 0x0 1 0x0 false 8 1 [.ro] [0]
def F.LANE_STATUS.BLK_LOCK : Fld := .mk 0x400004 96 0x1000 1 0x0 1 0x0 false 9 1 [.ro] [0]
def F.LANE_STATUS.FRM_LOCK : Fld := .mk 0x400004 96 0x1000 1 0x0 1 0x0 false 10 1 [.ro] [0]
def F.LANE_STATUS.PEER_LOCKED : Fld := .mk 0x400004 96 0x1000 1 0x0 1 0x0 false 11 1 [.ro] [0]
def F.LANE_STATUS.ATTEMPT : Fld := .mk 0x400004 96 0x1000 1 0x0 1 0x0 false 12 4 [.ro] [0]
def F.LANE_STATUS.FAIL : Fld := .mk 0x400004 96 0x1000 1 0x0 1 0x0 false 16 8 [.ro] [0]
def F.LANE_STATUS.HELD : Fld := .mk 0x400004 96 0x1000 1 0x0 1 0x0 false 24 1 [.ro] [0]
def F.LANE_SLIP.SLIP : Fld := .mk 0x400008 96 0x1000 1 0x0 1 0x0 false 0 1 [.wo] [0]
def F.LANE_SLIP.DONE : Fld := .mk 0x400008 96 0x1000 1 0x0 1 0x0 false 1 1 [.ro] [0]
def F.LANE_FB.CORR_LIM : Fld := .mk 0x40000C 96 0x1000 1 0x0 1 0x0 false 0 16 [.rw] [16384]
def F.LANE_FB.UNCORR_LIM : Fld := .mk 0x40000C 96 0x1000 1 0x0 1 0x0 false 16 8 [.rw] [4]
def F.LANE_RTT.RTT : Fld := .mk 0x400010 96 0x1000 1 0x0 1 0x0 false 0 20 [.ro] [0]
def F.LANE_RTT.RUNS : Fld := .mk 0x400010 96 0x1000 1 0x0 1 0x0 false 20 4 [.ro] [0]
def F.LANE_RTT.SPREAD : Fld := .mk 0x400010 96 0x1000 1 0x0 1 0x0 false 24 4 [.ro] [0]
def F.LANE_RTT.VALID : Fld := .mk 0x400010 96 0x1000 1 0x0 1 0x0 false 31 1 [.ro] [0]
def F.LANE_DNODE.TURNAROUND : Fld := .mk 0x400014 96 0x1000 1 0x0 1 0x0 false 0 32 [.ro] [0]
def F.LANE_LAT.ONE_WAY : Fld := .mk 0x400018 96 0x1000 1 0x0 1 0x0 false 0 19 [.ro] [0]
def F.LANE_QWIN.CORR : Fld := .mk 0x40001C 96 0x1000 1 0x0 1 0x0 false 0 16 [.ro] [0]
def F.LANE_QWIN.UNCORR : Fld := .mk 0x40001C 96 0x1000 1 0x0 1 0x0 false 16 8 [.ro] [0]
def F.LANE_CNT.COUNT : Fld := .mk 0x400100 96 0x1000 14 0x8 1 0x0 true 0 64 [.ro] [0]
def F.LANE_NODE.STATE : Fld := .mk 0x400200 96 0x1000 1 0x0 1 0x0 false 0 32 [.ro] [0]
def F.LANE_NODE_BEAT.APPLIED_BEAT : Fld := .mk 0x400204 96 0x1000 1 0x0 1 0x0 false 0 32 [.ro] [0]
def F.LANE_NODE_TRIP.TRIP_MASK : Fld := .mk 0x400208 96 0x1000 1 0x0 1 0x0 false 0 16 [.ro] [0]
def F.LANE_NODE_TRIP.LAST_CTRL_SEQ : Fld := .mk 0x400208 96 0x1000 1 0x0 1 0x0 false 16 16 [.ro] [0]
def F.LANE_CREDIT.DN_AVAIL : Fld := .mk 0x40020C 96 0x1000 1 0x0 1 0x0 false 0 8 [.ro] [0]
def F.LANE_CREDIT.DN_SLOTS : Fld := .mk 0x40020C 96 0x1000 1 0x0 1 0x0 false 8 8 [.ro] [0]
def F.LANE_CREDIT.UP_OUT : Fld := .mk 0x40020C 96 0x1000 1 0x0 1 0x0 false 16 8 [.ro] [0]
def F.LANE_CREDIT.UP_SLOTS : Fld := .mk 0x40020C 96 0x1000 1 0x0 1 0x0 false 24 8 [.ro] [64]
def F.LANE_TSYNC.ERR : Fld := .mk 0x400210 96 0x1000 1 0x0 1 0x0 false 0 32 [.ro] [0]
def F.LANE_SERIAL.SERIAL : Fld := .mk 0x400218 96 0x1000 1 0x0 1 0x0 true 0 64 [.ro] [0]
def F.LANE_CAP.PREP_TICKS : Fld := .mk 0x400220 96 0x1000 1 0x0 1 0x0 false 0 8 [.ro] [0]
def F.LANE_CAP.CELL_CLASS : Fld := .mk 0x400220 96 0x1000 1 0x0 1 0x0 false 8 2 [.ro] [0]
def F.LANE_CAP.BYPASS_KIND : Fld := .mk 0x400220 96 0x1000 1 0x0 1 0x0 false 10 2 [.ro] [0]
def F.LANE_CAP.AUTO_BYPASS : Fld := .mk 0x400220 96 0x1000 1 0x0 1 0x0 false 12 1 [.ro] [0]
def F.LANE_CAP.HOLD_BEATS : Fld := .mk 0x400220 96 0x1000 1 0x0 1 0x0 false 16 5 [.ro] [0]
def F.LANE_CAP.PROTO_MINOR : Fld := .mk 0x400220 96 0x1000 1 0x0 1 0x0 false 24 8 [.ro] [0]
def F.LANE_MCNT.COUNT : Fld := .mk 0x400300 96 0x1000 10 0x8 1 0x0 true 0 64 [.ro] [0]
def F.ARR_CTRL.CARRIER_BEATS : Fld := .mk 0x500000 1 0x0 1 0x0 1 0x0 false 0 4 [.rwc] [1]
def F.ARR_CTRL.HOP_LAST : Fld := .mk 0x500000 1 0x0 1 0x0 1 0x0 false 4 4 [.rwc] [0]
def F.ARR_CTRL.HOP_BEATS : Fld := .mk 0x500000 1 0x0 1 0x0 1 0x0 false 8 8 [.ro] [0]
def F.ARR_CTRL.HOP_FIXED : Fld := .mk 0x500000 1 0x0 1 0x0 1 0x0 false 16 4 [.ro] [0]
def F.ARR_APPLY.PHASE : Fld := .mk 0x500004 1 0x0 1 0x0 1 0x0 false 0 10 [.ro] [640]
def F.ARR_HOP_LFSR.STATE : Fld := .mk 0x500008 1 0x0 1 0x0 1 0x0 false 0 16 [.rwc] [44257]
def F.ARR_STATE.MODE : Fld := .mk 0x50000C 1 0x0 1 0x0 1 0x0 false 0 3 [.ro] [0]
def F.ARR_DAB_HALF.HALF : Fld := .mk 0x500040 16 0x4 1 0x0 1 0x0 false 0 20 [.rwc] [80000, 0]
def F.ARR_VREF.VDL : Fld := .mk 0x500080 1 0x0 1 0x0 1 0x0 false 0 32 [.ro] [0]
def F.ARR_VCREF.VC : Fld := .mk 0x500084 1 0x0 1 0x0 1 0x0 false 0 32 [.ro] [0]
def F.ARR_LIMIT.IMPORT : Fld := .mk 0x500088 1 0x0 1 0x0 1 0x0 false 0 16 [.ro] [0]
def F.ARR_LIMIT.EXPORT : Fld := .mk 0x500088 1 0x0 1 0x0 1 0x0 false 16 16 [.ro] [0]
def F.ARR_DERATE.FACTOR : Fld := .mk 0x50008C 1 0x0 1 0x0 1 0x0 false 0 11 [.ro] [1024]
def F.ARR_MOD.M_MAX : Fld := .mk 0x500090 1 0x0 1 0x0 1 0x0 false 0 10 [.rwc] [983]
def F.ARR_MOD.DELTA_MAX : Fld := .mk 0x500090 1 0x0 1 0x0 1 0x0 false 10 10 [.rwc] [50]
def F.ARR_MOD.I_ARM_NOM : Fld := .mk 0x500090 1 0x0 1 0x0 1 0x0 false 20 12 [.rwc] [100]
def F.ARR_DAB_LIM.PS_MAX : Fld := .mk 0x500094 1 0x0 1 0x0 1 0x0 false 0 10 [.rwc] [350]
def F.ARR_DAB_LIM.FLUX_MAX : Fld := .mk 0x500094 1 0x0 1 0x0 1 0x0 false 16 12 [.rwc] [64]
def F.ARR_LEDGER.RESID_K : Fld := .mk 0x500098 1 0x0 1 0x0 1 0x0 false 0 5 [.rwc] [12]
def F.ARR_LEDGER.C_WARN : Fld := .mk 0x500098 1 0x0 1 0x0 1 0x0 false 8 8 [.rwc] [90]
def F.ARR_LEDGER.C_FAIL : Fld := .mk 0x500098 1 0x0 1 0x0 1 0x0 false 16 8 [.rwc] [80]
def F.ARR_RESID_LIM.LIM : Fld := .mk 0x5000A0 1 0x0 1 0x0 1 0x0 true 0 64 [.rwc] [0]
def F.ARR_STOP.STOP_RAMP : Fld := .mk 0x5000A8 1 0x0 1 0x0 1 0x0 false 0 16 [.rwc] [100]
def F.ARR_STOP.ZERO_KW : Fld := .mk 0x5000A8 1 0x0 1 0x0 1 0x0 false 16 16 [.rwc] [10]
def F.ARR_BYPASS.BYPASS_TMAX : Fld := .mk 0x5000AC 1 0x0 1 0x0 1 0x0 false 0 16 [.rwc] [50]
def F.ARR_BYPASS.RETRAIN_MS : Fld := .mk 0x5000AC 1 0x0 1 0x0 1 0x0 false 16 16 [.rwc] [100]
def F.ARR_STRING_CFG.CELLS : Fld := .mk 0x500100 6 0x20 1 0x0 1 0x0 false 0 6 [.rwc] [0]
def F.ARR_STRING_CFG.K : Fld := .mk 0x500100 6 0x20 1 0x0 1 0x0 false 8 5 [.rwc] [0]
def F.ARR_STRING_CFG.BAL_MODE : Fld := .mk 0x500100 6 0x20 1 0x0 1 0x0 false 16 1 [.ro] [0]
def F.ARR_STRING_PHASE.STR_PHASE : Fld := .mk 0x500104 6 0x20 1 0x0 1 0x0 false 0 19 [.rwc] [0]
def F.ARR_STRING_STATUS.ACTIVE : Fld := .mk 0x500108 6 0x20 1 0x0 1 0x0 false 0 6 [.ro] [0]
def F.ARR_STRING_STATUS.BYPASSED : Fld := .mk 0x500108 6 0x20 1 0x0 1 0x0 false 8 6 [.ro] [0]
def F.ARR_STRING_STATUS.ABSENT : Fld := .mk 0x500108 6 0x20 1 0x0 1 0x0 false 16 6 [.ro] [0]
def F.ARR_STRING_STATUS.SAT : Fld := .mk 0x500108 6 0x20 1 0x0 1 0x0 false 24 1 [.ro] [0]
def F.ARR_STRING_STATUS.RESPREAD : Fld := .mk 0x500108 6 0x20 1 0x0 1 0x0 false 25 1 [.ro] [0]
def F.ARR_STRING_CLOSE.D : Fld := .mk 0x50010C 6 0x20 1 0x0 1 0x0 false 0 32 [.ro] [0]
def F.ARR_STRING_CLIM.CLOSE_PERMIL : Fld := .mk 0x500110 6 0x20 1 0x0 1 0x0 false 0 16 [.rwc] [20]
def F.ARR_STRING_CLIM.CLOSE_FLOOR : Fld := .mk 0x500110 6 0x20 1 0x0 1 0x0 false 16 16 [.rwc] [100]
def F.ARR_STRING_RANK.RANK_HYST : Fld := .mk 0x500114 6 0x20 1 0x0 1 0x0 false 0 16 [.rwc] [50]
def F.ARR_STRING_RANK.I_Q : Fld := .mk 0x500114 6 0x20 1 0x0 1 0x0 false 16 16 [.ro] [0]
def F.CELL_STATUS.ROLE : Fld := .mk 0x510000 96 0x400 1 0x0 1 0x0 false 0 3 [.ro] [0]
def F.CELL_STATUS.VOID : Fld := .mk 0x510000 96 0x400 1 0x0 1 0x0 false 3 1 [.ro] [0]
def F.CELL_STATUS.FILLED : Fld := .mk 0x510000 96 0x400 1 0x0 1 0x0 false 4 1 [.ro] [0]
def F.CELL_STATUS.CLAMPED : Fld := .mk 0x510000 96 0x400 1 0x0 1 0x0 false 5 1 [.ro] [0]
def F.CELL_STATUS.DT_RANGE : Fld := .mk 0x510000 96 0x400 1 0x0 1 0x0 false 6 1 [.ro] [0]
def F.CELL_STATUS.C_RANGE : Fld := .mk 0x510000 96 0x400 1 0x0 1 0x0 false 7 1 [.ro] [0]
def F.CELL_STATUS.RANK : Fld := .mk 0x510000 96 0x400 1 0x0 1 0x0 false 8 8 [.ro] [0]
def F.CELL_CARRIER.PHASE : Fld := .mk 0x510004 96 0x400 1 0x0 1 0x0 false 0 19 [.ro] [0]
def F.LEDGER_ACCOUNT.NC : Fld := .mk 0x510010 96 0x400 1 0x0 1 0x0 true 0 64 [.ro] [0]
def F.LEDGER_FRAC.FRAC : Fld := .mk 0x510018 96 0x400 1 0x0 1 0x0 false 0 20 [.ro] [0]
def F.LEDGER_RESID.S : Fld := .mk 0x510020 96 0x400 1 0x0 1 0x0 true 0 64 [.ro] [0]
def F.LEDGER_OFFSET.OFFSET_MA : Fld := .mk 0x510028 96 0x400 1 0x0 1 0x0 false 0 32 [.ro] [0]
def F.LEDGER_C.C_EST : Fld := .mk 0x51002C 96 0x400 1 0x0 1 0x0 false 0 32 [.ro] [0]
def F.LEDGER_C_NOM.C_NOM : Fld := .mk 0x510030 96 0x400 1 0x0 1 0x0 false 0 32 [.rwc] [0]
def F.LEDGER_C_RANGE.VLO : Fld := .mk 0x510034 96 0x400 1 0x0 1 0x0 false 0 16 [.ro] [0]
def F.LEDGER_C_RANGE.VHI : Fld := .mk 0x510034 96 0x400 1 0x0 1 0x0 false 16 16 [.ro] [0]
def F.LEDGER_POSTINGS.COUNT : Fld := .mk 0x510038 96 0x400 1 0x0 1 0x0 true 0 64 [.ro] [0]
def F.LEDGER_GAPS.COUNT : Fld := .mk 0x510040 96 0x400 1 0x0 1 0x0 true 0 64 [.ro] [0]
def F.CELL_DROPPED.COUNT : Fld := .mk 0x510048 96 0x400 1 0x0 1 0x0 false 0 32 [.ro] [0]
def F.CELL_FILLED.COUNT : Fld := .mk 0x51004C 96 0x400 1 0x0 1 0x0 false 0 32 [.ro] [0]
def F.DT_RANGE_I.I_LO : Fld := .mk 0x5100F8 96 0x400 1 0x0 1 0x0 false 0 16 [.rwc] [0]
def F.DT_RANGE_I.I_HI : Fld := .mk 0x5100F8 96 0x400 1 0x0 1 0x0 false 16 16 [.rwc] [0]
def F.DT_RANGE_V.V_LO : Fld := .mk 0x5100FC 96 0x400 1 0x0 1 0x0 false 0 16 [.rwc] [0]
def F.DT_RANGE_V.V_HI : Fld := .mk 0x5100FC 96 0x400 1 0x0 1 0x0 false 16 16 [.rwc] [0]
def F.DT_TABLE.CORR : Fld := .mk 0x510100 96 0x400 16 0x4 1 0x0 false 0 16 [.rwc] [0]
def F.LE_STATUS.RATE : Fld := .mk 0x600000 1 0x0 1 0x0 1 0x0 false 0 2 [.ro] [0]
def F.LE_STATUS.ENABLED : Fld := .mk 0x600000 1 0x0 1 0x0 1 0x0 false 16 11 [.ro] [0]
def F.LE_LOAD.SCHED : Fld := .mk 0x600004 1 0x0 1 0x0 1 0x0 false 0 16 [.ro] [0]
def F.LE_LOAD.LAST : Fld := .mk 0x600004 1 0x0 1 0x0 1 0x0 false 16 16 [.ro] [0]
def F.LE_TABLE_CFG.WRAP : Fld := .mk 0x600010 4 0x4 1 0x0 1 0x0 false 0 1 [.rwc] [0]
def F.LE_TABLE_CFG.BANK : Fld := .mk 0x600010 4 0x4 1 0x0 1 0x0 false 1 1 [.ro] [0]
def F.LE_OVERRUN.COUNT : Fld := .mk 0x600020 1 0x0 1 0x0 1 0x0 true 0 64 [.ro] [0]
def F.LE_NUMERIC.COUNT : Fld := .mk 0x600028 1 0x0 1 0x0 1 0x0 true 0 64 [.ro] [0]
def F.LE_UPDATES.COUNT : Fld := .mk 0x600030 1 0x0 1 0x0 1 0x0 true 0 64 [.ro] [0]
def F.SLOT_CFG.EN : Fld := .mk 0x1000000 1024 0x80 1 0x0 1 0x0 false 0 1 [.rwc] [0]
def F.SLOT_CFG.ORDER : Fld := .mk 0x1000000 1024 0x80 1 0x0 1 0x0 false 1 1 [.rwc] [0]
def F.SLOT_CFG.AW : Fld := .mk 0x1000000 1024 0x80 1 0x0 1 0x0 false 2 1 [.rwc] [0]
def F.SLOT_CFG.FF_EN : Fld := .mk 0x1000000 1024 0x80 1 0x0 1 0x0 false 3 1 [.rwc] [0]
def F.SLOT_CFG.FF_TABLE : Fld := .mk 0x1000000 1024 0x80 1 0x0 1 0x0 false 4 2 [.rwc] [0]
def F.SLOT_CFG.MEMBERS : Fld := .mk 0x1000000 1024 0x80 1 0x0 1 0x0 false 6 3 [.rwc] [0]
def F.SLOT_CFG.MEMBER : Fld := .mk 0x1000000 1024 0x80 1 0x0 1 0x0 false 9 1 [.ro] [0]
def F.SLOT_CFG.OWNER : Fld := .mk 0x1000000 1024 0x80 1 0x0 1 0x0 false 10 3 [.rwc] [0]
def F.SLOT_CFG.RELEASE : Fld := .mk 0x1000000 1024 0x80 1 0x0 1 0x0 false 16 10 [.rwc] [0]
def F.SLOT_SRC.SRC_A : Fld := .mk 0x1000004 1024 0x80 1 0x0 1 0x0 false 0 2 [.rwc] [1]
def F.SLOT_SRC.SRC_B : Fld := .mk 0x1000004 1024 0x80 1 0x0 1 0x0 false 2 2 [.rwc] [0]
def F.SLOT_SRC.IDX_A : Fld := .mk 0x1000004 1024 0x80 1 0x0 1 0x0 false 4 10 [.rwc] [0]
def F.SLOT_SRC.IDX_B : Fld := .mk 0x1000004 1024 0x80 1 0x0 1 0x0 false 14 10 [.rwc] [0]
def F.SLOT_K_IN.K_IN : Fld := .mk 0x1000008 1024 0x80 1 0x0 1 0x0 false 0 32 [.rwc] [1065353216]
def F.SLOT_REF.REF : Fld := .mk 0x100000C 1024 0x80 1 0x0 1 0x0 false 0 32 [.rwc] [0]
def F.SLOT_B.B : Fld := .mk 0x1000010 1024 0x80 4 0x4 1 0x0 false 0 32 [.rwc] [0]
def F.SLOT_A.A : Fld := .mk 0x1000020 1024 0x80 3 0x4 1 0x0 false 0 32 [.rwc] [0]
def F.SLOT_FF_GAIN.FF_GAIN : Fld := .mk 0x100002C 1024 0x80 1 0x0 1 0x0 false 0 32 [.rwc] [0]
def F.SLOT_YMIN.YMIN : Fld := .mk 0x1000030 1024 0x80 1 0x0 1 0x0 false 0 32 [.rwc] [0]
def F.SLOT_YMAX.YMAX : Fld := .mk 0x1000034 1024 0x80 1 0x0 1 0x0 false 0 32 [.rwc] [0]
def F.SLOT_Y_INIT.Y_INIT : Fld := .mk 0x1000038 1024 0x80 1 0x0 1 0x0 false 0 32 [.rwc] [0]
def F.SLOT_E.E : Fld := .mk 0x1000040 1024 0x80 3 0x4 1 0x0 false 0 32 [.ro] [0]
def F.SLOT_Y.Y : Fld := .mk 0x100004C 1024 0x80 3 0x4 1 0x0 false 0 32 [.ro] [0]
def F.SLOT_OWN_A.OWN_A : Fld := .mk 0x1000058 1024 0x80 1 0x0 1 0x0 false 0 32 [.ro] [0]
def F.SLOT_OWN_IDX.OWN_IDX : Fld := .mk 0x100005C 1024 0x80 1 0x0 1 0x0 false 0 32 [.ro] [0]
def F.SLOT_Y_OUT.Y_LIM : Fld := .mk 0x1000060 1024 0x80 1 0x0 1 0x0 false 0 32 [.ro] [0]
def F.SLOT_STATUS.READY : Fld := .mk 0x1000064 1024 0x80 1 0x0 1 0x0 false 0 10 [.ro] [0]
def F.SLOT_STATUS.DONE : Fld := .mk 0x1000064 1024 0x80 1 0x0 1 0x0 false 10 10 [.ro] [0]
def F.SLOT_STATUS.LANE : Fld := .mk 0x1000064 1024 0x80 1 0x0 1 0x0 false 20 2 [.ro] [0]
def F.SLOT_STATUS.LIM_HI : Fld := .mk 0x1000064 1024 0x80 1 0x0 1 0x0 false 22 1 [.ro] [0]
def F.SLOT_STATUS.LIM_LO : Fld := .mk 0x1000064 1024 0x80 1 0x0 1 0x0 false 23 1 [.ro] [0]
def F.SLOT_STATUS.HOLDING : Fld := .mk 0x1000064 1024 0x80 1 0x0 1 0x0 false 24 1 [.ro] [0]
def F.SLOT_STATUS.FROZEN : Fld := .mk 0x1000064 1024 0x80 1 0x0 1 0x0 false 25 1 [.ro] [0]
def F.SLOT_STATUS.NUMERIC : Fld := .mk 0x1000064 1024 0x80 1 0x0 1 0x0 false 26 1 [.w1c] [0]
def F.SLOT_LIMCNT.COUNT : Fld := .mk 0x1000068 1024 0x80 1 0x0 1 0x0 false 0 32 [.ro] [0]
def F.OS_CTRL.PHASE_DECL : Fld := .mk 0x700000 1 0x0 1 0x0 1 0x0 false 0 12 [.rwc] [0]
def F.OS_CTRL.GROUP_B : Fld := .mk 0x700000 1 0x0 1 0x0 1 0x0 false 12 12 [.rwc] [0]
def F.OS_CTRL.BRAKE_DECL : Fld := .mk 0x700000 1 0x0 1 0x0 1 0x0 false 24 1 [.rwc] [0]
def F.OS_CTRL.BRAKE_DUAL : Fld := .mk 0x700000 1 0x0 1 0x0 1 0x0 false 25 1 [.rwc] [0]
def F.OS_STATUS.BRAKE_ARMED : Fld := .mk 0x700004 1 0x0 1 0x0 1 0x0 false 0 1 [.ro] [0]
def F.OS_STATUS.BRAKE_ON : Fld := .mk 0x700004 1 0x0 1 0x0 1 0x0 false 1 1 [.ro] [0]
def F.OS_LINK.I_LINK : Fld := .mk 0x700008 1 0x0 1 0x0 1 0x0 false 0 32 [.ro] [0]
def F.OS_SENSE.SENSE_BEATS : Fld := .mk 0x70000C 1 0x0 1 0x0 1 0x0 false 0 8 [.rwc] [20]
def F.OS_SENSE_LOST.LOST : Fld := .mk 0x700010 1 0x0 1 0x0 1 0x0 false 0 16 [.w1c] [0]
def F.OS_SENSE_LOST.CAL_RANGE : Fld := .mk 0x700010 1 0x0 1 0x0 1 0x0 false 16 16 [.ro] [0]
def F.OS_BRAKE.ON_V : Fld := .mk 0x700020 1 0x0 1 0x0 1 0x0 false 0 16 [.rwc] [0]
def F.OS_BRAKE.OFF_V : Fld := .mk 0x700020 1 0x0 1 0x0 1 0x0 false 16 16 [.rwc] [0]
def F.OS_BRAKE_J.J_MAX : Fld := .mk 0x700024 1 0x0 1 0x0 1 0x0 false 0 32 [.rwc] [0]
def F.OS_BRAKE_COUNT.COUNT : Fld := .mk 0x700028 1 0x0 1 0x0 1 0x0 true 0 64 [.ro] [0]
def F.GRP_SLOTS.VSLOT : Fld := .mk 0x700100 2 0x80 1 0x0 1 0x0 false 0 10 [.rwc] [0]
def F.GRP_SLOTS.ISLOT : Fld := .mk 0x700100 2 0x80 1 0x0 1 0x0 false 10 10 [.rwc] [0]
def F.GRP_SLOTS.SHARE_BASE : Fld := .mk 0x700100 2 0x80 1 0x0 1 0x0 false 20 10 [.rwc] [0]
def F.GRP_PERIOD.PERIOD : Fld := .mk 0x700104 2 0x80 1 0x0 1 0x0 false 0 21 [.rwc] [0]
def F.GRP_VSET.VSET : Fld := .mk 0x700108 2 0x80 1 0x0 1 0x0 false 0 32 [.ro] [0]
def F.GRP_ISET.FWD : Fld := .mk 0x70010C 2 0x80 1 0x0 1 0x0 false 0 16 [.ro] [0]
def F.GRP_ISET.REV : Fld := .mk 0x70010C 2 0x80 1 0x0 1 0x0 false 16 16 [.ro] [0]
def F.GRP_FOLD.V_KNEE : Fld := .mk 0x700110 2 0x80 1 0x0 1 0x0 false 0 16 [.rwc] [0]
def F.GRP_FOLD.I_FLOOR : Fld := .mk 0x700110 2 0x80 1 0x0 1 0x0 false 16 16 [.rwc] [0]
def F.GRP_IMAX.I_MAX : Fld := .mk 0x700114 2 0x80 1 0x0 1 0x0 false 0 16 [.rwc] [0]
def F.GRP_IMAX.I_PH_MAX : Fld := .mk 0x700114 2 0x80 1 0x0 1 0x0 false 16 16 [.rwc] [0]
def F.GRP_SHED.I_PH_OPT : Fld := .mk 0x700118 2 0x80 1 0x0 1 0x0 false 0 16 [.rwc] [0]
def F.GRP_SHED.SHED_HYST : Fld := .mk 0x700118 2 0x80 1 0x0 1 0x0 false 16 8 [.rwc] [10]
def F.GRP_SHED.N_MIN : Fld := .mk 0x700118 2 0x80 1 0x0 1 0x0 false 24 4 [.rwc] [1]
def F.GRP_SHED.SHED_EN : Fld := .mk 0x700118 2 0x80 1 0x0 1 0x0 false 28 1 [.ro] [0]
def F.GRP_SHED.BURST_EN : Fld := .mk 0x700118 2 0x80 1 0x0 1 0x0 false 29 1 [.ro] [0]
def F.GRP_SHED_T.SHED_HOLD : Fld := .mk 0x70011C 2 0x80 1 0x0 1 0x0 false 0 16 [.rwc] [1000]
def F.GRP_SHED_T.STEP_I : Fld := .mk 0x70011C 2 0x80 1 0x0 1 0x0 false 16 16 [.rwc] [100]
def F.GRP_BURST.BURST_I : Fld := .mk 0x700120 2 0x80 1 0x0 1 0x0 false 0 16 [.rwc] [0]
def F.GRP_BURST.BURST_PERIODS : Fld := .mk 0x700120 2 0x80 1 0x0 1 0x0 false 16 8 [.rwc] [8]
def F.GRP_BURST_V.BAND : Fld := .mk 0x700124 2 0x80 1 0x0 1 0x0 false 0 16 [.rwc] [0]
def F.GRP_BURST_V.SLEEP_MAX : Fld := .mk 0x700124 2 0x80 1 0x0 1 0x0 false 16 16 [.rwc] [100]
def F.GRP_TRUNC.TRUNC : Fld := .mk 0x700128 2 0x80 1 0x0 1 0x0 false 0 16 [.ro] [0]
def F.GRP_SS.SS_SLEW : Fld := .mk 0x70012C 2 0x80 1 0x0 1 0x0 false 0 16 [.rwc] [50]
def F.GRP_SS.SS_TMAX : Fld := .mk 0x70012C 2 0x80 1 0x0 1 0x0 false 16 16 [.rwc] [500]
def F.GRP_OPEN.OPEN_ERR : Fld := .mk 0x700130 2 0x80 1 0x0 1 0x0 false 0 16 [.rwc] [150]
def F.GRP_OPEN.OPEN_PERIODS : Fld := .mk 0x700130 2 0x80 1 0x0 1 0x0 false 16 8 [.rwc] [8]
def F.GRP_OPEN.TRIM_MAX : Fld := .mk 0x700130 2 0x80 1 0x0 1 0x0 false 24 8 [.rwc] [50]
def F.GRP_DUTY.D_MIN : Fld := .mk 0x700134 2 0x80 1 0x0 1 0x0 false 0 10 [.rwc] [20]
def F.GRP_DUTY.D_MAX : Fld := .mk 0x700134 2 0x80 1 0x0 1 0x0 false 16 10 [.rwc] [850]
def F.GRP_STATUS.STATE : Fld := .mk 0x700138 2 0x80 1 0x0 1 0x0 false 0 3 [.ro] [0]
def F.GRP_STATUS.N_ACTIVE : Fld := .mk 0x700138 2 0x80 1 0x0 1 0x0 false 4 4 [.ro] [0]
def F.GRP_STATUS.SHEDDING : Fld := .mk 0x700138 2 0x80 1 0x0 1 0x0 false 8 1 [.ro] [0]
def F.GRP_STATUS.FOLDBACK : Fld := .mk 0x700138 2 0x80 1 0x0 1 0x0 false 9 1 [.ro] [0]
def F.GRP_STATUS.CAP_LIMITED : Fld := .mk 0x700138 2 0x80 1 0x0 1 0x0 false 10 1 [.ro] [0]
def F.GRP_STATUS.BURST_SLEEP : Fld := .mk 0x700138 2 0x80 1 0x0 1 0x0 false 11 1 [.ro] [0]
def F.GRP_STATUS.ILIM : Fld := .mk 0x700138 2 0x80 1 0x0 1 0x0 false 16 16 [.ro] [0]
def F.GRP_VOUT.V : Fld := .mk 0x70013C 2 0x80 1 0x0 1 0x0 false 0 32 [.ro] [0]
def F.GRP_IOUT.I : Fld := .mk 0x700140 2 0x80 1 0x0 1 0x0 false 0 32 [.ro] [0]
def F.GRP_TRUNC_COUNT.COUNT : Fld := .mk 0x700148 2 0x80 1 0x0 1 0x0 true 0 64 [.ro] [0]
def F.GRP_SHED_COUNT.COUNT : Fld := .mk 0x700150 2 0x80 1 0x0 1 0x0 true 0 64 [.ro] [0]
def F.GRP_BURST_COUNT.COUNT : Fld := .mk 0x700158 2 0x80 1 0x0 1 0x0 true 0 64 [.ro] [0]
def F.PH_STATUS.STATE : Fld := .mk 0x700200 12 0x20 1 0x0 1 0x0 false 0 3 [.ro] [0]
def F.PH_STATUS.SLOT : Fld := .mk 0x700200 12 0x20 1 0x0 1 0x0 false 8 4 [.ro] [0]
def F.PH_OFFSET.OFFSET : Fld := .mk 0x700204 12 0x20 1 0x0 1 0x0 false 0 26 [.ro] [0]
def F.PH_COMPARE.COMPARE : Fld := .mk 0x700208 12 0x20 1 0x0 1 0x0 false 0 26 [.ro] [0]
def F.PH_TRIM.TRIM : Fld := .mk 0x70020C 12 0x20 1 0x0 1 0x0 false 0 32 [.ro] [0]
def F.PH_IAVG.I : Fld := .mk 0x700210 12 0x20 1 0x0 1 0x0 false 0 32 [.ro] [0]
def F.SNS_SCALE.SCALE : Fld := .mk 0x700400 16 0x40 1 0x0 1 0x0 false 0 32 [.rwc] [0]
def F.SNS_OFFSET.OFFSET : Fld := .mk 0x700404 16 0x40 1 0x0 1 0x0 false 0 32 [.rwc] [0]
def F.SNS_CAL_LO.CAL_LO : Fld := .mk 0x700408 16 0x40 1 0x0 1 0x0 false 0 32 [.rwc] [0]
def F.SNS_CAL_HI.CAL_HI : Fld := .mk 0x70040C 16 0x40 1 0x0 1 0x0 false 0 32 [.rwc] [0]
def F.SNS_GAIN.GAIN : Fld := .mk 0x700410 16 0x40 8 0x4 1 0x0 false 0 32 [.rwc] [1065353216]
def F.SNS_MEAN.MEAN : Fld := .mk 0x700430 16 0x40 1 0x0 1 0x0 false 0 32 [.ro] [0]
def F.SNS_DECL.DECLARED : Fld := .mk 0x700434 16 0x40 1 0x0 1 0x0 false 0 1 [.rwc] [0]
def F.PWM_SYNC.MASTER : Fld := .mk 0x800000 1 0x0 1 0x0 1 0x0 false 0 5 [.rwc] [0]
def F.PWM_SYNC.OUT_EN : Fld := .mk 0x800000 1 0x0 1 0x0 1 0x0 false 5 1 [.rwc] [0]
def F.PWM_STAGGER.STAGGER : Fld := .mk 0x800004 1 0x0 1 0x0 1 0x0 false 0 16 [.rwc] [20]
def F.PWM_STAGE.MID_TIME : Fld := .mk 0x800010 3 0x4 1 0x0 1 0x0 false 0 16 [.rwc] [150]
def F.PWM_STAGE.HELD : Fld := .mk 0x800010 3 0x4 1 0x0 1 0x0 false 16 1 [.ro] [0]
def F.XTRIP_CFG.EN : Fld := .mk 0x800020 4 0x4 1 0x0 1 0x0 false 0 1 [.rwc] [0]
def F.XTRIP_CFG.STAGES : Fld := .mk 0x800020 4 0x4 1 0x0 1 0x0 false 1 3 [.rwc] [0]
def F.XTRIP_CFG.FILT : Fld := .mk 0x800020 4 0x4 1 0x0 1 0x0 false 4 8 [.rwc] [0]
def F.XTRIP_CFG.TRIP : Fld := .mk 0x800020 4 0x4 1 0x0 1 0x0 false 12 1 [.w1c] [0]
def F.XTRIP_CFG.ACTIVE : Fld := .mk 0x800020 4 0x4 1 0x0 1 0x0 false 13 1 [.ro] [0]
def F.HALL_CFG.FILT : Fld := .mk 0x800040 1 0x0 1 0x0 1 0x0 false 0 8 [.rwc] [4]
def F.HALL_CFG.SHIFT : Fld := .mk 0x800040 1 0x0 1 0x0 1 0x0 false 8 3 [.rwc] [0]
def F.HALL_CFG.MIN_TICKS : Fld := .mk 0x800040 1 0x0 1 0x0 1 0x0 false 12 20 [.rwc] [0]
def F.HALL_STATUS.STATE : Fld := .mk 0x800044 1 0x0 1 0x0 1 0x0 false 0 3 [.ro] [7]
def F.HALL_STATUS.DIR : Fld := .mk 0x800044 1 0x0 1 0x0 1 0x0 false 3 1 [.ro] [0]
def F.HALL_STATUS.FAULT : Fld := .mk 0x800044 1 0x0 1 0x0 1 0x0 false 4 1 [.w1c] [0]
def F.HALL_COUNT.COUNT : Fld := .mk 0x800048 1 0x0 1 0x0 1 0x0 true 0 64 [.ro] [0]
def F.PW_CFG.GATE : Fld := .mk 0x801000 32 0x40 1 0x0 1 0x0 false 0 5 [.rwc] [0, 1, 2, 3, 4, 5, 6, 7, 8, 9, 10, 11, 12, 13, 14, 15, 16, 17, 18, 19, 20, 21, 22, 23, 24, 25, 26, 27, 28, 29, 30, 31]
def F.PW_CFG.FUNC : Fld := .mk 0x801000 32 0x40 1 0x0 1 0x0 false 5 2 [.rwc] [1, 1, 1, 1, 1, 1, 1, 1, 1, 1, 1, 1, 1, 1, 1, 1, 1, 1, 1, 1, 1, 1, 1, 1, 2, 2, 3, 3, 3, 3, 3, 3]
def F.PW_CFG.PAIR : Fld := .mk 0x801000 32 0x40 1 0x0 1 0x0 false 7 1 [.rwc] [1, 0, 1, 0, 1, 0, 1, 0, 1, 0, 1, 0, 1, 0, 1, 0, 1, 0, 1, 0, 1, 0, 1, 0, 0, 0, 1, 0, 1, 0, 1, 0]
def F.PW_CFG.SHORT_MODE : Fld := .mk 0x801000 32 0x40 1 0x0 1 0x0 false 8 1 [.rwc] [0]
def F.PW_PERIOD.PERIOD : Fld := .mk 0x801004 32 0x40 1 0x0 1 0x0 false 0 21 [.ro] [0]
def F.PW_PHASE.OFFSET : Fld := .mk 0x801008 32 0x40 1 0x0 1 0x0 false 0 26 [.ro] [0]
def F.PW_CMP.CMP : Fld := .mk 0x80100C 32 0x40 1 0x0 1 0x0 false 0 26 [.ro] [0]
def F.PW_SHADOW.CMP : Fld := .mk 0x801010 32 0x40 1 0x0 1 0x0 false 0 26 [.ro] [0]
def F.PW_DT.DEADTIME : Fld := .mk 0x801014 32 0x40 1 0x0 1 0x0 false 0 14 [.rwc] [0]
def F.PW_DT.MIN_PULSE : Fld := .mk 0x801014 32 0x40 1 0x0 1 0x0 false 16 16 [.rwc] [0]
def F.PW_FORCE.FORCE : Fld := .mk 0x801018 32 0x40 1 0x0 1 0x0 false 0 2 [.rw] [0]
def F.PW_FORCE.REFUSED : Fld := .mk 0x801018 32 0x40 1 0x0 1 0x0 false 2 1 [.ro] [0]
def F.PW_EVT.ZERO : Fld := .mk 0x80101C 32 0x40 1 0x0 1 0x0 false 0 1 [.rw] [0]
def F.PW_EVT.PERIOD : Fld := .mk 0x80101C 32 0x40 1 0x0 1 0x0 false 1 1 [.rw] [0]
def F.PW_EVT.CMP : Fld := .mk 0x80101C 32 0x40 1 0x0 1 0x0 false 2 1 [.rw] [0]
def F.PW_EVT.PRESC : Fld := .mk 0x80101C 32 0x40 1 0x0 1 0x0 false 8 8 [.rw] [0]
def F.PW_STATUS.LEVEL : Fld := .mk 0x801020 32 0x40 1 0x0 1 0x0 false 0 2 [.ro] [0]
def F.PW_STATUS.DEAD : Fld := .mk 0x801020 32 0x40 1 0x0 1 0x0 false 2 1 [.ro] [0]
def F.PW_STATUS.FORCED : Fld := .mk 0x801020 32 0x40 1 0x0 1 0x0 false 3 1 [.ro] [0]
def F.PW_STATUS.COUNT : Fld := .mk 0x801020 32 0x40 1 0x0 1 0x0 false 4 8 [.ro] [0]
def F.PW_DROP.COUNT : Fld := .mk 0x801024 32 0x40 1 0x0 1 0x0 false 0 32 [.ro] [0]
def F.PW_STRETCH.COUNT : Fld := .mk 0x801028 32 0x40 1 0x0 1 0x0 false 0 32 [.ro] [0]
def F.PW_REFRESH_COUNT.COUNT : Fld := .mk 0x801030 32 0x40 1 0x0 1 0x0 true 0 64 [.ro] [0]
def F.PW_EVT_COUNT.COUNT : Fld := .mk 0x801038 32 0x40 1 0x0 1 0x0 true 0 64 [.ro] [0]
def F.GD_CFG.DECLARED : Fld := .mk 0x802000 32 0x40 1 0x0 1 0x0 false 0 1 [.rwc] [0]
def F.GD_CFG.BOOTSTRAP : Fld := .mk 0x802000 32 0x40 1 0x0 1 0x0 false 1 1 [.rwc] [0]
def F.GD_CFG.T_FILT : Fld := .mk 0x802000 32 0x40 1 0x0 1 0x0 false 2 8 [.rwc] [0]
def F.GD_CFG.BLANK : Fld := .mk 0x802000 32 0x40 1 0x0 1 0x0 false 10 10 [.rwc] [0]
def F.GD_UV_POS.POS_TH : Fld := .mk 0x802004 32 0x40 1 0x0 1 0x0 false 0 16 [.rwc] [0]
def F.GD_UV_POS.POS_HYS : Fld := .mk 0x802004 32 0x40 1 0x0 1 0x0 false 16 16 [.rwc] [0]
def F.GD_UV_NEG.NEG_TH : Fld := .mk 0x802008 32 0x40 1 0x0 1 0x0 false 0 16 [.rwc] [0]
def F.GD_UV_NEG.NEG_HYS : Fld := .mk 0x802008 32 0x40 1 0x0 1 0x0 false 16 16 [.rwc] [0]
def F.GD_REFRESH.T_REFRESH : Fld := .mk 0x80200C 32 0x40 1 0x0 1 0x0 false 0 16 [.rwc] [0]
def F.GD_REFRESH.K : Fld := .mk 0x80200C 32 0x40 1 0x0 1 0x0 false 16 8 [.rwc] [1]
def F.GD_STATUS.CMD : Fld := .mk 0x802010 32 0x40 1 0x0 1 0x0 false 0 2 [.ro] [0]
def F.GD_STATUS.TRIP : Fld := .mk 0x802010 32 0x40 1 0x0 1 0x0 false 2 1 [.w1c] [0]
def F.GD_STATUS.PENDING : Fld := .mk 0x802010 32 0x40 1 0x0 1 0x0 false 3 1 [.ro] [0]
def F.GD_STATUS.T_ACTIVE : Fld := .mk 0x802010 32 0x40 1 0x0 1 0x0 false 4 1 [.ro] [0]
def F.GD_STATUS.UV_POS : Fld := .mk 0x802010 32 0x40 1 0x0 1 0x0 false 5 1 [.w1c] [0]
def F.GD_STATUS.UV_NEG : Fld := .mk 0x802010 32 0x40 1 0x0 1 0x0 false 6 1 [.w1c] [0]
def F.GD_STATUS.CARRIER_LOST : Fld := .mk 0x802010 32 0x40 1 0x0 1 0x0 false 7 1 [.w1c] [0]
def F.GD_STATUS.UNPROVEN : Fld := .mk 0x802010 32 0x40 1 0x0 1 0x0 false 8 1 [.ro] [0]
def F.GD_STATUS.LOCKED : Fld := .mk 0x802010 32 0x40 1 0x0 1 0x0 false 9 1 [.ro] [0]
def F.GD_SUPPLY.VPOS : Fld := .mk 0x802014 32 0x40 1 0x0 1 0x0 false 0 16 [.ro] [0]
def F.GD_SUPPLY.VNEG : Fld := .mk 0x802014 32 0x40 1 0x0 1 0x0 false 16 16 [.ro] [0]
def F.GD_TRIP_TICK.SUBTICK : Fld := .mk 0x802018 32 0x40 1 0x0 1 0x0 true 0 6 [.ro] [0]
def F.GD_TRIP_TICK.TICK : Fld := .mk 0x802018 32 0x40 1 0x0 1 0x0 true 6 58 [.ro] [0]
def F.GD_TRIP_COUNT.COUNT : Fld := .mk 0x802020 32 0x40 1 0x0 1 0x0 true 0 64 [.ro] [0]
def F.GD_BLANKED.COUNT : Fld := .mk 0x802028 32 0x40 1 0x0 1 0x0 false 0 32 [.ro] [0]
def F.GD_FRAME_ERR.COUNT : Fld := .mk 0x802030 32 0x40 1 0x0 1 0x0 true 0 64 [.ro] [0]
def F.COL_CFG.KIND : Fld := .mk 0x900000 1 0x0 1 0x0 1 0x0 false 0 2 [.rwc] [0]
def F.COL_CFG.ENC2_MODE : Fld := .mk 0x900000 1 0x0 1 0x0 1 0x0 false 2 2 [.rwc] [0]
def F.COL_CFG.ON_STOP : Fld := .mk 0x900000 1 0x0 1 0x0 1 0x0 false 4 1 [.rwc] [0]
def F.COL_CFG.GUARD_ACT : Fld := .mk 0x900000 1 0x0 1 0x0 1 0x0 false 5 1 [.rwc] [0]
def F.COL_CFG.GUARD : Fld := .mk 0x900000 1 0x0 1 0x0 1 0x0 false 8 8 [.rwc] [0]
def F.COL_SLOTS.POS : Fld := .mk 0x900004 1 0x0 1 0x0 1 0x0 false 0 10 [.rwc] [0]
def F.COL_SLOTS.SPD : Fld := .mk 0x900004 1 0x0 1 0x0 1 0x0 false 10 10 [.rwc] [0]
def F.COL_SLOTS.FRIC : Fld := .mk 0x900004 1 0x0 1 0x0 1 0x0 false 20 10 [.rwc] [0]
def F.COL_TRAVEL_MIN.MIN : Fld := .mk 0x900008 1 0x0 1 0x0 1 0x0 false 0 32 [.rwc] [0]
def F.COL_TRAVEL_MAX.MAX : Fld := .mk 0x90000C 1 0x0 1 0x0 1 0x0 false 0 32 [.rwc] [0]
def F.COL_CONTACT_LO.LO : Fld := .mk 0x900010 1 0x0 1 0x0 1 0x0 false 0 32 [.rwc] [0]
def F.COL_CONTACT_HI.HI : Fld := .mk 0x900014 1 0x0 1 0x0 1 0x0 false 0 32 [.rwc] [0]
def F.COL_SAFE_POS.POS : Fld := .mk 0x900018 1 0x0 1 0x0 1 0x0 false 0 32 [.rwc] [0]
def F.COL_HOME_POS.POS : Fld := .mk 0x90001C 1 0x0 1 0x0 1 0x0 false 0 32 [.rwc] [0]
def F.COL_VMAX.V_MAX : Fld := .mk 0x900020 1 0x0 1 0x0 1 0x0 false 0 32 [.rwc] [0]
def F.COL_AMAX.A_MAX : Fld := .mk 0x900024 1 0x0 1 0x0 1 0x0 false 0 32 [.rwc] [0]
def F.COL_DRIVE.PERIOD : Fld := .mk 0x900028 1 0x0 1 0x0 1 0x0 false 0 21 [.rwc] [5000]
def F.COL_DRIVE.U_MAX : Fld := .mk 0x900028 1 0x0 1 0x0 1 0x0 false 21 11 [.rwc] [1000]
def F.COL_STALL.STALL_U : Fld := .mk 0x90002C 1 0x0 1 0x0 1 0x0 false 0 10 [.rwc] [800]
def F.COL_STALL.STALL_BEATS : Fld := .mk 0x90002C 1 0x0 1 0x0 1 0x0 false 16 16 [.rwc] [10000]
def F.COL_STALL_V.STALL_V : Fld := .mk 0x900030 1 0x0 1 0x0 1 0x0 false 0 32 [.rwc] [0]
def F.COL_BAND.POS_BAND : Fld := .mk 0x900034 1 0x0 1 0x0 1 0x0 false 0 16 [.rwc] [64]
def F.COL_BAND.BRAKE_BEATS : Fld := .mk 0x900034 1 0x0 1 0x0 1 0x0 false 16 16 [.rwc] [10000]
def F.COL_FRIC.FRIC_BAND : Fld := .mk 0x900038 1 0x0 1 0x0 1 0x0 false 0 32 [.rwc] [0]
def F.COL_XCHK.NUM : Fld := .mk 0x90003C 1 0x0 1 0x0 1 0x0 false 0 16 [.rwc] [1]
def F.COL_XCHK.DEN : Fld := .mk 0x90003C 1 0x0 1 0x0 1 0x0 false 16 16 [.rwc] [1]
def F.COL_XCHK_TOL.TOL : Fld := .mk 0x900040 1 0x0 1 0x0 1 0x0 false 0 32 [.rwc] [0]
def F.COL_STATUS.STATE : Fld := .mk 0x900080 1 0x0 1 0x0 1 0x0 false 0 3 [.ro] [0]
def F.COL_STATUS.VALID : Fld := .mk 0x900080 1 0x0 1 0x0 1 0x0 false 3 1 [.ro] [0]
def F.COL_STATUS.REFERENCED : Fld := .mk 0x900080 1 0x0 1 0x0 1 0x0 false 4 1 [.ro] [0]
def F.COL_STATUS.IN_ZONE : Fld := .mk 0x900080 1 0x0 1 0x0 1 0x0 false 5 1 [.ro] [0]
def F.COL_STATUS.XCHK_FAIL : Fld := .mk 0x900080 1 0x0 1 0x0 1 0x0 false 6 1 [.w1c] [0]
def F.COL_POS.P : Fld := .mk 0x900084 1 0x0 1 0x0 1 0x0 false 0 32 [.ro] [0]
def F.COL_SPEED.V : Fld := .mk 0x900088 1 0x0 1 0x0 1 0x0 false 0 32 [.ro] [0]
def F.COL_TARGET.TARGET : Fld := .mk 0x90008C 1 0x0 1 0x0 1 0x0 false 0 32 [.ro] [0]
def F.COL_REF.R : Fld := .mk 0x900090 1 0x0 1 0x0 1 0x0 false 0 32 [.ro] [0]
def F.COL_U.U : Fld := .mk 0x900094 1 0x0 1 0x0 1 0x0 false 0 32 [.ro] [0]
def F.COL_OFFSET.OFFSET : Fld := .mk 0x900098 1 0x0 1 0x0 1 0x0 false 0 32 [.ro] [0]
def F.COL_MOVES.COUNT : Fld := .mk 0x9000A0 1 0x0 1 0x0 1 0x0 true 0 64 [.ro] [0]
def F.ENC_CFG.LINES : Fld := .mk 0x900100 2 0x40 1 0x0 1 0x0 false 0 16 [.rwc] [0]
def F.ENC_CFG.LINE_TOL : Fld := .mk 0x900100 2 0x40 1 0x0 1 0x0 false 16 8 [.rwc] [2]
def F.ENC_CFG.INV : Fld := .mk 0x900100 2 0x40 1 0x0 1 0x0 false 24 1 [.rwc] [0]
def F.ENC_COUNT.COUNT : Fld := .mk 0x900104 2 0x40 1 0x0 1 0x0 false 0 32 [.ro] [0]
def F.ENC_STATUS.DIR : Fld := .mk 0x900108 2 0x40 1 0x0 1 0x0 false 0 1 [.ro] [0]
def F.ENC_STATUS.EDGE_OVR : Fld := .mk 0x900108 2 0x40 1 0x0 1 0x0 false 1 1 [.w1c] [0]
def F.ENC_STATUS.LINE_FAULT : Fld := .mk 0x900108 2 0x40 1 0x0 1 0x0 false 2 1 [.w1c] [0]
def F.ENC_STATUS.IDX_SEEN : Fld := .mk 0x900108 2 0x40 1 0x0 1 0x0 false 3 1 [.ro] [0]
def F.ENC_STATUS.LEVELS : Fld := .mk 0x900108 2 0x40 1 0x0 1 0x0 false 4 3 [.ro] [7]
def F.ENC_IDX.LATCH : Fld := .mk 0x90010C 2 0x40 1 0x0 1 0x0 false 0 32 [.ro] [0]
def F.ENC_IDX_DIFF.D : Fld := .mk 0x900110 2 0x40 1 0x0 1 0x0 false 0 32 [.ro] [0]
def F.ENC_REVERSALS.COUNT : Fld := .mk 0x900118 2 0x40 1 0x0 1 0x0 true 0 64 [.ro] [0]
def F.ENC_OVR_COUNT.COUNT : Fld := .mk 0x900120 2 0x40 1 0x0 1 0x0 true 0 64 [.ro] [0]
def F.SSI_CFG.BITS : Fld := .mk 0x900200 1 0x0 1 0x0 1 0x0 false 0 5 [.rwc] [16]
def F.SSI_CFG.GRAY : Fld := .mk 0x900200 1 0x0 1 0x0 1 0x0 false 5 1 [.rwc] [0]
def F.SSI_CFG.ERR_EN : Fld := .mk 0x900200 1 0x0 1 0x0 1 0x0 false 6 1 [.rwc] [0]
def F.SSI_CFG.DIV : Fld := .mk 0x900200 1 0x0 1 0x0 1 0x0 false 8 8 [.rwc] [40]
def F.SSI_CFG.EVERY : Fld := .mk 0x900200 1 0x0 1 0x0 1 0x0 false 16 4 [.rwc] [0]
def F.SSI_CFG.DLY : Fld := .mk 0x900200 1 0x0 1 0x0 1 0x0 false 20 7 [.rwc] [0]
def F.SSI_START.START : Fld := .mk 0x900204 1 0x0 1 0x0 1 0x0 false 0 14 [.rwc] [0]
def F.SSI_ZERO.ZERO : Fld := .mk 0x900208 1 0x0 1 0x0 1 0x0 false 0 32 [.rwc] [0]
def F.SSI_VALUE.VALUE : Fld := .mk 0x90020C 1 0x0 1 0x0 1 0x0 false 0 32 [.ro] [0]
def F.SSI_STATUS.LAST_OK : Fld := .mk 0x900210 1 0x0 1 0x0 1 0x0 false 0 1 [.ro] [0]
def F.SSI_STATUS.ENC_ERR : Fld := .mk 0x900210 1 0x0 1 0x0 1 0x0 false 1 1 [.ro] [0]
def F.SSI_ERR_COUNT.COUNT : Fld := .mk 0x900218 1 0x0 1 0x0 1 0x0 true 0 64 [.ro] [0]
def F.MET_CTRL.INTERVAL : Fld := .mk 0xA00000 1 0x0 1 0x0 1 0x0 false 0 12 [.rwc] [900]
def F.MET_CTRL.NOM_HZ : Fld := .mk 0xA00000 1 0x0 1 0x0 1 0x0 false 12 1 [.rwc] [0]
def F.MET_CTRL.HARM_EVERY : Fld := .mk 0xA00000 1 0x0 1 0x0 1 0x0 false 16 4 [.rwc] [5]
def F.MET_STATUS.RUN : Fld := .mk 0xA00004 1 0x0 1 0x0 1 0x0 false 0 1 [.ro] [0]
def F.MET_STATUS.TICK_ALIGNED : Fld := .mk 0xA00004 1 0x0 1 0x0 1 0x0 false 1 1 [.ro] [0]
def F.MET_CH_FLAGS.LOST : Fld := .mk 0xA00008 1 0x0 1 0x0 1 0x0 false 0 16 [.w1c] [0]
def F.MET_CH_FLAGS.OVR : Fld := .mk 0xA00008 1 0x0 1 0x0 1 0x0 false 16 16 [.w1c] [0]
def F.MET_CAL_RANGE.CAL : Fld := .mk 0xA0000C 1 0x0 1 0x0 1 0x0 false 0 16 [.ro] [0]
def F.MET_ZC.TIMEOUT : Fld := .mk 0xA00010 1 0x0 1 0x0 1 0x0 false 0 16 [.w1c] [0]
def F.MET_CLOSE_CFG.CL_PERMIL : Fld := .mk 0xA00014 1 0x0 1 0x0 1 0x0 false 0 16 [.rwc] [10]
def F.MET_CLOSE_CFG.CL_FLOOR : Fld := .mk 0xA00014 1 0x0 1 0x0 1 0x0 false 16 16 [.rwc] [50]
def F.MET_SAMPLES.COUNT : Fld := .mk 0xA00018 1 0x0 1 0x0 1 0x0 true 0 64 [.ro] [0]
def F.MET_HARM_SKIPPED.COUNT : Fld := .mk 0xA00020 1 0x0 1 0x0 1 0x0 true 0 64 [.ro] [0]
def F.MET_HARM_WIN.WINDOW : Fld := .mk 0xA00028 1 0x0 1 0x0 1 0x0 true 0 64 [.ro] [0]
def F.MET_CH_CFG.DECLARED : Fld := .mk 0xA00100 16 0x40 1 0x0 1 0x0 false 0 1 [.rwc] [0]
def F.MET_CH_CFG.KIND : Fld := .mk 0xA00100 16 0x40 1 0x0 1 0x0 false 1 1 [.rwc] [0]
def F.MET_CH_CFG.CLASS : Fld := .mk 0xA00100 16 0x40 1 0x0 1 0x0 false 2 1 [.rwc] [0]
def F.MET_CH_CFG.MCLK : Fld := .mk 0xA00100 16 0x40 1 0x0 1 0x0 false 3 2 [.rwc] [0]
def F.MET_CH_CFG.EDGE : Fld := .mk 0xA00100 16 0x40 1 0x0 1 0x0 false 5 1 [.rwc] [0]
def F.MET_CH_CFG.SYNC : Fld := .mk 0xA00100 16 0x40 1 0x0 1 0x0 false 6 1 [.ro] [0]
def F.MET_CH_SCALE.SCALE : Fld := .mk 0xA00104 16 0x40 1 0x0 1 0x0 false 0 32 [.rwc] [0]
def F.MET_CH_DELAY.DELAY : Fld := .mk 0xA00108 16 0x40 1 0x0 1 0x0 false 0 16 [.rwc] [0]
def F.MET_CH_OFF_P.OFF_P : Fld := .mk 0xA0010C 16 0x40 1 0x0 1 0x0 false 0 32 [.rwc] [0]
def F.MET_CH_OFF_R.OFF_R : Fld := .mk 0xA00110 16 0x40 1 0x0 1 0x0 false 0 32 [.rwc] [0]
def F.MET_CH_GAIN_R.GAIN_R : Fld := .mk 0xA00114 16 0x40 1 0x0 1 0x0 false 0 32 [.rwc] [1065353216]
def F.MET_CH_CAL_LO.CAL_LO : Fld := .mk 0xA00118 16 0x40 1 0x0 1 0x0 false 0 32 [.rwc] [0]
def F.MET_CH_CAL_HI.CAL_HI : Fld := .mk 0xA0011C 16 0x40 1 0x0 1 0x0 false 0 32 [.rwc] [0]
def F.MET_CH_GAIN.GAIN : Fld := .mk 0xA00120 16 0x40 4 0x4 1 0x0 false 0 32 [.rwc] [1065353216]
def F.MET_CH_RMS.RMS : Fld := .mk 0xA00130 16 0x40 1 0x0 1 0x0 false 0 32 [.ro] [0]
def F.MET_CH_MEAN.MEAN : Fld := .mk 0xA00134 16 0x40 1 0x0 1 0x0 false 0 32 [.ro] [0]
def F.MET_CH_FREQ.F : Fld := .mk 0xA00138 16 0x40 1 0x0 1 0x0 false 0 32 [.ro] [0]
def F.MET_CH_ZC.ZC_HYST : Fld := .mk 0xA0013C 16 0x40 1 0x0 1 0x0 false 0 16 [.rwc] [0]
def F.MET_CH_ZC.ZC_TMO : Fld := .mk 0xA0013C 16 0x40 1 0x0 1 0x0 false 16 16 [.rwc] [40]
def F.MET_EL_CFG.DECLARED : Fld := .mk 0xA00800 8 0x80 1 0x0 1 0x0 false 0 1 [.rwc] [0]
def F.MET_EL_CFG.V_CH : Fld := .mk 0xA00800 8 0x80 1 0x0 1 0x0 false 1 4 [.rwc] [0]
def F.MET_EL_CFG.I_CH : Fld := .mk 0xA00800 8 0x80 1 0x0 1 0x0 false 5 4 [.rwc] [0]
def F.MET_EL_CFG.DIR : Fld := .mk 0xA00800 8 0x80 1 0x0 1 0x0 false 9 1 [.rwc] [0]
def F.MET_EL_CFG.STRING : Fld := .mk 0xA00800 8 0x80 1 0x0 1 0x0 false 10 3 [.rwc] [0]
def F.MET_EL_CFG.CLOSE_EN : Fld := .mk 0xA00800 8 0x80 1 0x0 1 0x0 false 13 1 [.rwc] [0]
def F.MET_EL_NOLOAD.NOLOAD_W : Fld := .mk 0xA00804 8 0x80 1 0x0 1 0x0 false 0 32 [.rwc] [0]
def F.MET_EL_P.P : Fld := .mk 0xA00808 8 0x80 1 0x0 1 0x0 false 0 32 [.ro] [0]
def F.MET_EL_Q.Q : Fld := .mk 0xA0080C 8 0x80 1 0x0 1 0x0 false 0 32 [.ro] [0]
def F.MET_EL_S.S : Fld := .mk 0xA00810 8 0x80 1 0x0 1 0x0 false 0 32 [.ro] [0]
def F.MET_EL_PF.PF : Fld := .mk 0xA00814 8 0x80 1 0x0 1 0x0 false 0 32 [.ro] [0]
def F.MET_EL_TOT_IMP.MJ : Fld := .mk 0xA00818 8 0x80 1 0x0 1 0x0 true 0 64 [.ro] [0]
def F.MET_EL_TOT_EXP.MJ : Fld := .mk 0xA00820 8 0x80 1 0x0 1 0x0 true 0 64 [.ro] [0]
def F.MET_EL_TOT_Q.MVARS : Fld := .mk 0xA00828 8 0x80 4 0x8 1 0x0 true 0 64 [.ro] [0]
def F.MET_EL_OPEN.START : Fld := .mk 0xA00848 8 0x80 1 0x0 1 0x0 true 0 64 [.ro] [0]
def F.MET_EL_RECS.SEQ : Fld := .mk 0xA00850 8 0x80 1 0x0 1 0x0 true 0 64 [.ro] [0]
def F.MET_EL_CLOSE.D : Fld := .mk 0xA00858 8 0x80 1 0x0 1 0x0 false 0 32 [.ro] [0]
def F.MET_EL_THD_V.THD : Fld := .mk 0xA0085C 8 0x80 1 0x0 1 0x0 false 0 32 [.ro] [0]
def F.MET_EL_THD_I.THD : Fld := .mk 0xA00860 8 0x80 1 0x0 1 0x0 false 0 32 [.ro] [0]
def F.CHR_STATE.NT_STATE : Fld := .mk 0xB00000 1 0x0 1 0x0 1 0x0 false 0 3 [.ro] [0]
def F.CHR_STATE.VALID : Fld := .mk 0xB00000 1 0x0 1 0x0 1 0x0 false 3 1 [.ro] [0]
def F.CHR_STATE.FULL_RES : Fld := .mk 0xB00000 1 0x0 1 0x0 1 0x0 false 4 1 [.ro] [0]
def F.CHR_STATE.SET_ARMED : Fld := .mk 0xB00000 1 0x0 1 0x0 1 0x0 false 5 1 [.ro] [0]
def F.CHR_SERVO.SOURCE : Fld := .mk 0xB00004 1 0x0 1 0x0 1 0x0 false 0 3 [.rwc] [0]
def F.CHR_SERVO.LOCK_NS : Fld := .mk 0xB00004 1 0x0 1 0x0 1 0x0 false 16 16 [.rwc] [200]
def F.CHR_GAIN.KP : Fld := .mk 0xB00008 1 0x0 1 0x0 1 0x0 false 0 16 [.rwc] [512]
def F.CHR_GAIN.KI : Fld := .mk 0xB00008 1 0x0 1 0x0 1 0x0 false 16 16 [.rwc] [3277]
def F.CHR_LIMITS.RATE_MAX : Fld := .mk 0xB0000C 1 0x0 1 0x0 1 0x0 false 0 20 [.rwc] [200000]
def F.CHR_STEP_NS.STEP_NS : Fld := .mk 0xB00010 1 0x0 1 0x0 1 0x0 false 0 32 [.rwc] [1000000]
def F.CHR_HOLD.TIMEOUT_MS : Fld := .mk 0xB00014 1 0x0 1 0x0 1 0x0 false 0 16 [.rwc] [3000]
def F.CHR_HOLD.HOLDOVER_S : Fld := .mk 0xB00014 1 0x0 1 0x0 1 0x0 false 16 16 [.rwc] [600]
def F.CHR_RATE.R : Fld := .mk 0xB00018 1 0x0 1 0x0 1 0x0 false 0 32 [.ro] [0]
def F.CHR_OFFSET.THETA : Fld := .mk 0xB0001C 1 0x0 1 0x0 1 0x0 false 0 32 [.ro] [0]
def F.CHR_INC.INC : Fld := .mk 0xB00020 1 0x0 1 0x0 1 0x0 true 0 40 [.ro] [42949672960]
def F.CHR_SNAP.TAKE : Fld := .mk 0xB00030 1 0x0 1 0x0 1 0x0 false 0 1 [.wo] [0]
def F.CHR_SNAP_TICK.TICK : Fld := .mk 0xB00038 1 0x0 1 0x0 1 0x0 true 0 64 [.ro] [0]
def F.CHR_SNAP_SEC.SEC : Fld := .mk 0xB00040 1 0x0 1 0x0 1 0x0 true 0 48 [.ro] [0]
def F.CHR_SNAP_NS.FRAC : Fld := .mk 0xB00048 1 0x0 1 0x0 1 0x0 true 0 32 [.ro] [0]
def F.CHR_SNAP_NS.NS : Fld := .mk 0xB00048 1 0x0 1 0x0 1 0x0 true 32 32 [.ro] [0]
def F.CHR_SET_SEC.SEC : Fld := .mk 0xB00050 1 0x0 1 0x0 1 0x0 true 0 48 [.rw] [0]
def F.CHR_SET_NS.NS : Fld := .mk 0xB00058 1 0x0 1 0x0 1 0x0 false 0 30 [.rw] [0]
def F.CHR_SET_AT.TICK : Fld := .mk 0xB00060 1 0x0 1 0x0 1 0x0 true 0 64 [.rw] [0]
def F.CHR_STEPS.COUNT : Fld := .mk 0xB00068 1 0x0 1 0x0 1 0x0 true 0 64 [.ro] [0]
def F.PPS_CFG.OUT_EN : Fld := .mk 0xB00080 1 0x0 1 0x0 1 0x0 false 0 1 [.rw] [0]
def F.PPS_CFG.IN_EN : Fld := .mk 0xB00080 1 0x0 1 0x0 1 0x0 false 1 1 [.rw] [0]
def F.PPS_IN_TS.SUBTICK : Fld := .mk 0xB00088 1 0x0 1 0x0 1 0x0 true 0 6 [.ro] [0]
def F.PPS_IN_TS.TICK : Fld := .mk 0xB00088 1 0x0 1 0x0 1 0x0 true 6 58 [.ro] [0]
def F.PPS_IN_ERR.COUNT : Fld := .mk 0xB00090 1 0x0 1 0x0 1 0x0 true 0 64 [.ro] [0]
def F.ETH_CFG.MODE : Fld := .mk 0xB00100 2 0x80 1 0x0 1 0x0 false 0 2 [.rwc] [0]
def F.ETH_CFG.PTP_EN : Fld := .mk 0xB00100 2 0x80 1 0x0 1 0x0 false 2 1 [.rwc] [0]
def F.ETH_CFG.P2P : Fld := .mk 0xB00100 2 0x80 1 0x0 1 0x0 false 3 1 [.rwc] [0]
def F.ETH_CFG.UDP4 : Fld := .mk 0xB00100 2 0x80 1 0x0 1 0x0 false 4 1 [.rwc] [0]
def F.ETH_CFG.PASS : Fld := .mk 0xB00100 2 0x80 1 0x0 1 0x0 false 5 1 [.rwc] [0]
def F.ETH_CFG.DOMAIN : Fld := .mk 0xB00100 2 0x80 1 0x0 1 0x0 false 8 8 [.rwc] [0]
def F.ETH_STATUS.LINK : Fld := .mk 0xB00104 2 0x80 1 0x0 1 0x0 false 0 1 [.ro] [0]
def F.ETH_STATUS.MASTER : Fld := .mk 0xB00104 2 0x80 1 0x0 1 0x0 false 1 1 [.ro] [0]
def F.ETH_STATUS.SELECTED : Fld := .mk 0xB00104 2 0x80 1 0x0 1 0x0 false 2 1 [.ro] [0]
def F.ETH_ASYM.EXT_TX : Fld := .mk 0xB00108 2 0x80 1 0x0 1 0x0 false 0 16 [.rwc] [0]
def F.ETH_ASYM.EXT_RX : Fld := .mk 0xB00108 2 0x80 1 0x0 1 0x0 false 16 16 [.rwc] [0]
def F.ETH_DELAY.DELAY : Fld := .mk 0xB0010C 2 0x80 1 0x0 1 0x0 false 0 32 [.ro] [0]
def F.ETH_MAC.MAC : Fld := .mk 0xB00110 2 0x80 1 0x0 1 0x0 true 0 48 [.rwc] [0]
def F.ETH_GM.CLOCK_ID : Fld := .mk 0xB00118 2 0x80 1 0x0 1 0x0 true 0 64 [.ro] [0]
def F.ETH_RX.COUNT : Fld := .mk 0xB00120 2 0x80 1 0x0 1 0x0 true 0 64 [.ro] [0]
def F.ETH_TX.COUNT : Fld := .mk 0xB00128 2 0x80 1 0x0 1 0x0 true 0 64 [.ro] [0]
def F.ETH_FWD.COUNT : Fld := .mk 0xB00130 2 0x80 1 0x0 1 0x0 true 0 64 [.ro] [0]
def F.ETH_DROP.COUNT : Fld := .mk 0xB00138 2 0x80 1 0x0 1 0x0 true 0 64 [.ro] [0]
def F.ETH_TC_OVF.COUNT : Fld := .mk 0xB00140 2 0x80 1 0x0 1 0x0 true 0 64 [.ro] [0]
def F.CAN_CFG.EN : Fld := .mk 0xB00400 2 0x200 1 0x0 1 0x0 false 0 1 [.rwc] [0]
def F.CAN_CFG.FD : Fld := .mk 0xB00400 2 0x200 1 0x0 1 0x0 false 1 1 [.rwc] [0]
def F.CAN_CFG.BRS : Fld := .mk 0xB00400 2 0x200 1 0x0 1 0x0 false 2 1 [.rwc] [0]
def F.CAN_CFG.TDC : Fld := .mk 0xB00400 2 0x200 1 0x0 1 0x0 false 3 1 [.rwc] [0]
def F.CAN_CFG.LISTEN : Fld := .mk 0xB00400 2 0x200 1 0x0 1 0x0 false 4 1 [.rwc] [0]
def F.CAN_NBT.BRP : Fld := .mk 0xB00404 2 0x200 1 0x0 1 0x0 false 0 8 [.rwc] [0]
def F.CAN_NBT.TSEG1 : Fld := .mk 0xB00404 2 0x200 1 0x0 1 0x0 false 8 8 [.rwc] [0]
def F.CAN_NBT.TSEG2 : Fld := .mk 0xB00404 2 0x200 1 0x0 1 0x0 false 16 7 [.rwc] [0]
def F.CAN_NBT.SJW : Fld := .mk 0xB00404 2 0x200 1 0x0 1 0x0 false 24 7 [.rwc] [0]
def F.CAN_DBT.BRP : Fld := .mk 0xB00408 2 0x200 1 0x0 1 0x0 false 0 5 [.rwc] [0]
def F.CAN_DBT.TSEG1 : Fld := .mk 0xB00408 2 0x200 1 0x0 1 0x0 false 8 5 [.rwc] [0]
def F.CAN_DBT.TSEG2 : Fld := .mk 0xB00408 2 0x200 1 0x0 1 0x0 false 16 4 [.rwc] [0]
def F.CAN_DBT.SJW : Fld := .mk 0xB00408 2 0x200 1 0x0 1 0x0 false 24 4 [.rwc] [0]
def F.CAN_STATUS.STATE : Fld := .mk 0xB0040C 2 0x200 1 0x0 1 0x0 false 0 2 [.ro] [0]
def F.CAN_STATUS.TEC : Fld := .mk 0xB0040C 2 0x200 1 0x0 1 0x0 false 8 8 [.ro] [0]
def F.CAN_STATUS.REC : Fld := .mk 0xB0040C 2 0x200 1 0x0 1 0x0 false 16 8 [.ro] [0]
def F.CAN_LOST.COUNT : Fld := .mk 0xB00410 2 0x200 1 0x0 1 0x0 true 0 64 [.ro] [0]
def F.CAN_LATE.COUNT : Fld := .mk 0xB00418 2 0x200 1 0x0 1 0x0 true 0 64 [.ro] [0]
def F.CAN_FILT.FILT_ID : Fld := .mk 0xB00440 2 0x200 16 0x8 1 0x0 false 0 29 [.rwc] [0]
def F.CAN_FILT.IDE : Fld := .mk 0xB00440 2 0x200 16 0x8 1 0x0 false 29 1 [.rwc] [0]
def F.CAN_FILT.EVT : Fld := .mk 0xB00440 2 0x200 16 0x8 1 0x0 false 30 1 [.rwc] [0]
def F.CAN_FILT.EN : Fld := .mk 0xB00440 2 0x200 16 0x8 1 0x0 false 31 1 [.rwc] [0]
def F.CAN_MASK.MASK : Fld := .mk 0xB00444 2 0x200 16 0x8 1 0x0 false 0 29 [.rwc] [0]
def F.CAN_TX.ID : Fld := .mk 0xB00500 2 0x200 4 0x10 1 0x0 false 0 29 [.rwc] [0]
def F.CAN_TX.IDE : Fld := .mk 0xB00500 2 0x200 4 0x10 1 0x0 false 29 1 [.rwc] [0]
def F.CAN_TX.FDF : Fld := .mk 0xB00500 2 0x200 4 0x10 1 0x0 false 30 1 [.rwc] [0]
def F.CAN_TX.EN : Fld := .mk 0xB00500 2 0x200 4 0x10 1 0x0 false 31 1 [.rwc] [0]
def F.CAN_TX_SRC.SRC : Fld := .mk 0xB00504 2 0x200 4 0x10 1 0x0 false 0 26 [.rwc] [0]
def F.CAN_TX_PER.PERIOD_MS : Fld := .mk 0xB00508 2 0x200 4 0x10 1 0x0 false 0 16 [.rwc] [0]
def F.CAN_TX_PER.LEN : Fld := .mk 0xB00508 2 0x200 4 0x10 1 0x0 false 16 7 [.rwc] [0]
def F.CAN_MB_ID.ID : Fld := .mk 0xB00800 2 0x1000 16 0x80 1 0x0 false 0 29 [.ro] [0]
def F.CAN_MB_ID.IDE : Fld := .mk 0xB00800 2 0x1000 16 0x80 1 0x0 false 29 1 [.ro] [0]
def F.CAN_MB_ID.FDF : Fld := .mk 0xB00800 2 0x1000 16 0x80 1 0x0 false 30 1 [.ro] [0]
def F.CAN_MB_ID.NEW : Fld := .mk 0xB00800 2 0x1000 16 0x80 1 0x0 false 31 1 [.w1c] [0]
def F.CAN_MB_LEN.LEN : Fld := .mk 0xB00804 2 0x1000 16 0x80 1 0x0 false 0 7 [.ro] [0]
def F.CAN_MB_TICK.TICK : Fld := .mk 0xB00808 2 0x1000 16 0x80 1 0x0 true 0 64 [.ro] [0]
def F.CAN_MB_DATA.DATA : Fld := .mk 0xB00810 2 0x1000 16 0x80 16 0x4 false 0 32 [.ro] [0]
def F.REG_RSW.RSW : Fld := .mk 0xC00000 1 0x0 1 0x0 1 0x0 true 0 64 [.w1c] [0]
def F.REG_RSW_ACTIVE.ACTIVE : Fld := .mk 0xC00008 1 0x0 1 0x0 1 0x0 true 0 64 [.ro] [0]
def F.REG_CTRL.ERR_CLASS : Fld := .mk 0xC00010 1 0x0 1 0x0 1 0x0 false 0 3 [.rwc] [3]
def F.REG_CTRL.C2_HOLD : Fld := .mk 0xC00010 1 0x0 1 0x0 1 0x0 false 16 16 [.rwc] [1000]
def F.REG_INC.CLASS : Fld := .mk 0xC00018 1 0x0 1 0x0 1 0x0 false 0 3 [.ro] [0]
def F.REG_INC.RUNNING : Fld := .mk 0xC00018 1 0x0 1 0x0 1 0x0 false 3 1 [.ro] [0]
def F.REG_INC.OPEN_SRC : Fld := .mk 0xC00018 1 0x0 1 0x0 1 0x0 false 8 8 [.ro] [0]
def F.REG_INC_NUM.NUM : Fld := .mk 0xC0001C 1 0x0 1 0x0 1 0x0 false 0 32 [.ro] [0]
def F.REG_INC_TICK.TICK : Fld := .mk 0xC00020 1 0x0 1 0x0 1 0x0 true 0 64 [.ro] [0]
def F.REG_EVENTS.COUNT : Fld := .mk 0xC00028 1 0x0 1 0x0 1 0x0 true 0 64 [.ro] [0]
def F.REG_MERGED.COUNT : Fld := .mk 0xC00030 1 0x0 1 0x0 1 0x0 true 0 64 [.ro] [0]
def F.REG_AQ_COUNT.COUNT : Fld := .mk 0xC00038 1 0x0 1 0x0 1 0x0 true 0 64 [.ro] [0]
def F.REG_FORCE.FORCE : Fld := .mk 0xC00040 8 0x4 1 0x0 1 0x0 false 0 32 [.wo] [0]
def F.REG_ERR.P : Fld := .mk 0xC00060 1 0x0 1 0x0 1 0x0 false 0 1 [.ro] [0]
def F.REG_ERR.N : Fld := .mk 0xC00060 1 0x0 1 0x0 1 0x0 false 1 1 [.ro] [0]
def F.REG_ERR.CAUSE : Fld := .mk 0xC00060 1 0x0 1 0x0 1 0x0 false 4 3 [.ro] [0]
def F.REG_SRC.CLASS_FLOOR : Fld := .mk 0xC00100 256 0x4 1 0x0 1 0x0 false 0 3 [.rwc] [0]
def F.REG_SRC.DERATE : Fld := .mk 0xC00100 256 0x4 1 0x0 1 0x0 false 3 11 [.rwc] [1024]
def F.REG_SRC.TRIG : Fld := .mk 0xC00100 256 0x4 1 0x0 1 0x0 false 14 1 [.rwc] [0]
def F.REG_SRC.ACTIVE : Fld := .mk 0xC00100 256 0x4 1 0x0 1 0x0 false 15 1 [.ro] [0]
def F.REG_SRC_COUNT.COUNT : Fld := .mk 0xC00800 256 0x8 1 0x0 1 0x0 true 0 64 [.ro] [0]
def F.ARC_CFG.TRIG_CLASS : Fld := .mk 0xC02000 1 0x0 1 0x0 1 0x0 false 0 3 [.rwc] [3]
def F.ARC_CFG.POST_BEATS : Fld := .mk 0xC02000 1 0x0 1 0x0 1 0x0 false 8 24 [.rwc] [12500]
def F.ARC_STATE.STATE : Fld := .mk 0xC02004 1 0x0 1 0x0 1 0x0 false 0 3 [.ro] [0]
def F.ARC_STATE.DUMPING : Fld := .mk 0xC02004 1 0x0 1 0x0 1 0x0 false 3 1 [.ro] [0]
def F.ARC_STATE.CAUSE : Fld := .mk 0xC02004 1 0x0 1 0x0 1 0x0 false 8 9 [.ro] [0]
def F.ARC_DEPTH.BEATS : Fld := .mk 0xC02008 1 0x0 1 0x0 1 0x0 false 0 32 [.ro] [0]
def F.ARC_TRIG_TICK.TICK : Fld := .mk 0xC02010 1 0x0 1 0x0 1 0x0 true 0 64 [.ro] [0]
def F.ARC_IMAGE_SEGS.SEGS : Fld := .mk 0xC02018 1 0x0 1 0x0 1 0x0 false 0 32 [.ro] [0]
def F.ARC_TRIG_SEG.SEG : Fld := .mk 0xC0201C 1 0x0 1 0x0 1 0x0 false 0 32 [.ro] [0]
def F.ARC_MARK_SEGS.SEGS : Fld := .mk 0xC02020 1 0x0 1 0x0 1 0x0 false 0 32 [.ro] [0]
def F.ARC_MARK_TRIG_SEG.SEG : Fld := .mk 0xC02024 1 0x0 1 0x0 1 0x0 false 0 32 [.ro] [0]
def F.ARC_DUMP.MBPS : Fld := .mk 0xC02028 1 0x0 1 0x0 1 0x0 false 0 13 [.rw] [2000]
def F.ARC_DUMPED.BYTES : Fld := .mk 0xC02030 1 0x0 1 0x0 1 0x0 true 0 64 [.ro] [0]
def F.ARC_TRIG_LOST.COUNT : Fld := .mk 0xC02038 1 0x0 1 0x0 1 0x0 true 0 64 [.ro] [0]
def F.ARC_MARK_LOST.COUNT : Fld := .mk 0xC02040 1 0x0 1 0x0 1 0x0 true 0 64 [.ro] [0]
def F.ARC_FREEZES.COUNT : Fld := .mk 0xC02048 1 0x0 1 0x0 1 0x0 true 0 64 [.ro] [0]
def F.SAF_STATE.SDO_C : Fld := .mk 0xD00000 1 0x0 1 0x0 1 0x0 false 0 1 [.ro] [0]
def F.SAF_STATE.SDO_D : Fld := .mk 0xD00000 1 0x0 1 0x0 1 0x0 false 1 1 [.ro] [0]
def F.SAF_STATE.RB_C : Fld := .mk 0xD00000 1 0x0 1 0x0 1 0x0 false 2 1 [.ro] [0]
def F.SAF_STATE.RB_D : Fld := .mk 0xD00000 1 0x0 1 0x0 1 0x0 false 3 1 [.ro] [0]
def F.SAF_STATE.LOOP_ON : Fld := .mk 0xD00000 1 0x0 1 0x0 1 0x0 false 4 1 [.ro] [0]
def F.SAF_STATE.LATCHED : Fld := .mk 0xD00000 1 0x0 1 0x0 1 0x0 false 5 1 [.ro] [0]
def F.SAF_STATE.CURATOR_OK : Fld := .mk 0xD00000 1 0x0 1 0x0 1 0x0 false 6 1 [.ro] [0]
def F.SAF_STATE.DETENT_OK : Fld := .mk 0xD00000 1 0x0 1 0x0 1 0x0 false 7 1 [.ro] [0]
def F.SAF_STATE.DEMAND : Fld := .mk 0xD00000 1 0x0 1 0x0 1 0x0 false 8 8 [.ro] [0]
def F.SAF_STATE.FAULT : Fld := .mk 0xD00000 1 0x0 1 0x0 1 0x0 false 16 8 [.ro] [0]
def F.SAF_STATE.RESET_STEP : Fld := .mk 0xD00000 1 0x0 1 0x0 1 0x0 false 24 2 [.ro] [0]
def F.SAF_LATCH_CAUSE.SOURCE : Fld := .mk 0xD00004 1 0x0 1 0x0 1 0x0 false 0 8 [.ro] [0]
def F.SAF_LATCH_CAUSE.OBJECT : Fld := .mk 0xD00004 1 0x0 1 0x0 1 0x0 false 8 8 [.ro] [0]
def F.SAF_LATCH_TICK.TICK : Fld := .mk 0xD00008 1 0x0 1 0x0 1 0x0 true 0 64 [.ro] [0]
def F.SAF_GLOBAL.SDO_TEST : Fld := .mk 0xD00010 1 0x0 1 0x0 1 0x0 false 0 1 [.ro] [1]
def F.SAF_GLOBAL.RESET_WIN : Fld := .mk 0xD00010 1 0x0 1 0x0 1 0x0 false 8 8 [.ro] [30]
def F.SAF_LOOP_STARTS.COUNT : Fld := .mk 0xD00018 1 0x0 1 0x0 1 0x0 true 0 64 [.ro] [0]
def F.SAF_LOCKOUTS.COUNT : Fld := .mk 0xD00020 1 0x0 1 0x0 1 0x0 true 0 64 [.ro] [0]
def F.SAF_RESETS.COUNT : Fld := .mk 0xD00028 1 0x0 1 0x0 1 0x0 true 0 64 [.ro] [0]
def F.SAF_PAIR_CFG.DECLARED : Fld := .mk 0xD00100 8 0x20 1 0x0 1 0x0 false 0 1 [.ro] [0]
def F.SAF_PAIR_CFG.KIND : Fld := .mk 0xD00100 8 0x20 1 0x0 1 0x0 false 1 2 [.ro] [0]
def F.SAF_PAIR_CFG.CLASS : Fld := .mk 0xD00100 8 0x20 1 0x0 1 0x0 false 3 3 [.ro] [1]
def F.SAF_PAIR_CFG.T_DISC : Fld := .mk 0xD00100 8 0x20 1 0x0 1 0x0 false 8 10 [.ro] [100]
def F.SAF_PAIR_TIME.TP_MAX : Fld := .mk 0xD00104 8 0x20 1 0x0 1 0x0 false 0 10 [.ro] [0]
def F.SAF_PAIR_TIME.DELAY : Fld := .mk 0xD00104 8 0x20 1 0x0 1 0x0 false 16 16 [.ro] [1000]
def F.SAF_PAIR_STATUS.A : Fld := .mk 0xD00108 8 0x20 1 0x0 1 0x0 false 0 1 [.ro] [0]
def F.SAF_PAIR_STATUS.B : Fld := .mk 0xD00108 8 0x20 1 0x0 1 0x0 false 1 1 [.ro] [0]
def F.SAF_PAIR_STATUS.DEMAND : Fld := .mk 0xD00108 8 0x20 1 0x0 1 0x0 false 2 1 [.ro] [0]
def F.SAF_PAIR_STATUS.WINDOW : Fld := .mk 0xD00108 8 0x20 1 0x0 1 0x0 false 3 1 [.ro] [0]
def F.SAF_PAIR_STATUS.DISC_FAULT : Fld := .mk 0xD00108 8 0x20 1 0x0 1 0x0 false 4 1 [.ro] [0]
def F.SAF_PAIR_STATUS.CHATTER : Fld := .mk 0xD00108 8 0x20 1 0x0 1 0x0 false 5 1 [.ro] [0]
def F.SAF_PAIR_STATUS.C_DEMAND : Fld := .mk 0xD00108 8 0x20 1 0x0 1 0x0 false 6 1 [.ro] [0]
def F.SAF_PAIR_STATUS.TRANS : Fld := .mk 0xD00108 8 0x20 1 0x0 1 0x0 false 8 3 [.ro] [0]
def F.SAF_PAIR_DEMANDS.COUNT : Fld := .mk 0xD00110 8 0x20 1 0x0 1 0x0 true 0 64 [.ro] [0]
def F.SAF_PAIR_FAULTS.COUNT : Fld := .mk 0xD00118 8 0x20 1 0x0 1 0x0 true 0 64 [.ro] [0]
def F.HK_CTRL.RATE_ROUNDS : Fld := .mk 0xE00000 1 0x0 1 0x0 1 0x0 false 0 4 [.rwc] [10]
def F.HK_CTRL.VOTE_ROUNDS : Fld := .mk 0xE00000 1 0x0 1 0x0 1 0x0 false 8 8 [.rwc] [10]
def F.HK_CTRL.STOP_MARGIN : Fld := .mk 0xE00000 1 0x0 1 0x0 1 0x0 false 16 16 [.rwc] [50]
def F.HK_STATUS.FACTOR : Fld := .mk 0xE00004 1 0x0 1 0x0 1 0x0 false 0 11 [.ro] [1024]
def F.HK_STATUS.DERATING : Fld := .mk 0xE00004 1 0x0 1 0x0 1 0x0 false 11 1 [.ro] [0]
def F.HK_STATUS.STOP_REQ : Fld := .mk 0xE00004 1 0x0 1 0x0 1 0x0 false 12 1 [.ro] [0]
def F.HK_STATUS.FAST : Fld := .mk 0xE00004 1 0x0 1 0x0 1 0x0 false 13 1 [.ro] [0]
def F.HK_TNEED.T_NEED : Fld := .mk 0xE00008 1 0x0 1 0x0 1 0x0 false 0 32 [.ro] [0]
def F.HK_ROUNDS.COUNT : Fld := .mk 0xE00010 1 0x0 1 0x0 1 0x0 true 0 64 [.ro] [0]
def F.HK_VIN.V : Fld := .mk 0xE00018 1 0x0 1 0x0 1 0x0 false 0 32 [.ro] [0]
def F.HK_VKEEP.V : Fld := .mk 0xE0001C 1 0x0 1 0x0 1 0x0 false 0 32 [.ro] [0]
def F.HK_SCALE.SCALE : Fld := .mk 0xE00100 60 0x40 1 0x0 1 0x0 false 0 32 hkAcc [1065353216]
def F.HK_OFFSET.OFFSET : Fld := .mk 0xE00104 60 0x40 1 0x0 1 0x0 false 0 32 hkAcc [0]
def F.HK_RANGE_LO.LO : Fld := .mk 0xE00108 60 0x40 1 0x0 1 0x0 false 0 32 hkAcc [0]
def F.HK_RANGE_HI.HI : Fld := .mk 0xE0010C 60 0x40 1 0x0 1 0x0 false 0 32 hkAcc [0]
def F.HK_WARN.WARN : Fld := .mk 0xE00110 60 0x40 1 0x0 1 0x0 false 0 32 hkAcc [0, 0, 0, 0, 0, 0, 0, 0, 0, 0, 0, 0, 0, 0, 0, 0, 0, 0, 0, 0, 0, 0, 0, 0, 0, 0, 0, 0, 0, 0, 0, 0, 1121714176, 1121714176, 1121714176, 1121714176, 1121714176, 1119748096, 1119748096, 1121714176, 0]
def F.HK_DERATE_AT.DERATE_AT : Fld := .mk 0xE00114 60 0x40 1 0x0 1 0x0 false 0 32 hkAcc [0]
def F.HK_STOP_AT.STOP_AT : Fld := .mk 0xE00118 60 0x40 1 0x0 1 0x0 false 0 32 hkAcc [0, 0, 0, 0, 0, 0, 0, 0, 0, 0, 0, 0, 0, 0, 0, 0, 0, 0, 0, 0, 0, 0, 0, 0, 0, 0, 0, 0, 0, 0, 0, 0, 1123680256, 1123680256, 1123680256, 1123680256, 1123680256, 1121058816, 1121058816, 1123680256, 0]
def F.HK_LIMIT.LIMIT : Fld := .mk 0xE0011C 60 0x40 1 0x0 1 0x0 false 0 32 hkAcc [0, 0, 0, 0, 0, 0, 0, 0, 0, 0, 0, 0, 0, 0, 0, 0, 0, 0, 0, 0, 0, 0, 0, 0, 0, 0, 0, 0, 0, 0, 0, 0, 1124532224, 1124532224, 1124532224, 1124532224, 1124532224, 1122369536, 1122369536, 1124532224, 0]
def F.HK_RATE_MAX.RATE_MAX : Fld := .mk 0xE00120 60 0x40 1 0x0 1 0x0 false 0 32 hkAcc [0, 0, 0, 0, 0, 0, 0, 0, 0, 0, 0, 0, 0, 0, 0, 0, 0, 0, 0, 0, 0, 0, 0, 0, 0, 0, 0, 0, 0, 0, 0, 0, 1084227584, 1084227584, 1084227584, 1084227584, 1084227584, 1084227584, 1084227584, 1084227584, 0]
def F.HK_HYST.HYST : Fld := .mk 0xE00124 60 0x40 1 0x0 1 0x0 false 0 32 hkAcc [0]
def F.HK_SET_CFG.DECLARED : Fld := .mk 0xE00128 60 0x40 1 0x0 1 0x0 false 0 1 hkAcc [0, 0, 0, 0, 0, 0, 0, 0, 0, 0, 0, 0, 0, 0, 0, 0, 0, 0, 0, 0, 0, 0, 0, 0, 0, 0, 0, 0, 0, 0, 0, 0, 1, 1, 1, 1, 1, 1, 1, 1, 0]
def F.HK_SET_CFG.DIR : Fld := .mk 0xE00128 60 0x40 1 0x0 1 0x0 false 1 1 hkAcc [0]
def F.HK_SET_CFG.WARN_EN : Fld := .mk 0xE00128 60 0x40 1 0x0 1 0x0 false 2 1 hkAcc [0, 0, 0, 0, 0, 0, 0, 0, 0, 0, 0, 0, 0, 0, 0, 0, 0, 0, 0, 0, 0, 0, 0, 0, 0, 0, 0, 0, 0, 0, 0, 0, 1, 1, 1, 1, 1, 1, 1, 1, 0]
def F.HK_SET_CFG.DERATE_EN : Fld := .mk 0xE00128 60 0x40 1 0x0 1 0x0 false 3 1 hkAcc [0]
def F.HK_SET_CFG.STOP_EN : Fld := .mk 0xE00128 60 0x40 1 0x0 1 0x0 false 4 1 hkAcc [0, 0, 0, 0, 0, 0, 0, 0, 0, 0, 0, 0, 0, 0, 0, 0, 0, 0, 0, 0, 0, 0, 0, 0, 0, 0, 0, 0, 0, 0, 0, 0, 1, 1, 1, 1, 1, 1, 1, 1, 0]
def F.HK_SET_CFG.RATE_EN : Fld := .mk 0xE00128 60 0x40 1 0x0 1 0x0 false 5 1 hkAcc [0, 0, 0, 0, 0, 0, 0, 0, 0, 0, 0, 0, 0, 0, 0, 0, 0, 0, 0, 0, 0, 0, 0, 0, 0, 0, 0, 0, 0, 0, 0, 0, 1, 1, 1, 1, 1, 1, 1, 1, 0]
def F.HK_SET_CFG.GROUP : Fld := .mk 0xE00128 60 0x40 1 0x0 1 0x0 false 8 5 hkAcc [0]
def F.HK_SET_CFG.DERATE_MIN : Fld := .mk 0xE00128 60 0x40 1 0x0 1 0x0 false 16 11 hkAcc [1024]
def F.HK_VOTE_TOL.TOL : Fld := .mk 0xE0012C 60 0x40 1 0x0 1 0x0 false 0 32 hkAcc [0]
def F.HK_VALUE.X : Fld := .mk 0xE00130 60 0x40 1 0x0 1 0x0 false 0 32 [.ro] [0]
def F.HK_RATE.RHO : Fld := .mk 0xE00134 60 0x40 1 0x0 1 0x0 false 0 32 [.ro] [0]
def F.HK_SET_STATE.WARN : Fld := .mk 0xE00138 60 0x40 1 0x0 1 0x0 false 0 1 [.ro] [0]
def F.HK_SET_STATE.DERATE : Fld := .mk 0xE00138 60 0x40 1 0x0 1 0x0 false 1 1 [.ro] [0]
def F.HK_SET_STATE.STOP : Fld := .mk 0xE00138 60 0x40 1 0x0 1 0x0 false 2 1 [.ro] [0]
def F.HK_SET_STATE.RANGE : Fld := .mk 0xE00138 60 0x40 1 0x0 1 0x0 false 3 1 [.ro] [0]
def F.HK_SET_STATE.OUTVOTED : Fld := .mk 0xE00138 60 0x40 1 0x0 1 0x0 false 4 1 [.ro] [0]
def F.HK_SET_STATE.CELL : Fld := .mk 0xE00138 60 0x40 1 0x0 1 0x0 false 8 7 [.ro] [0]
def F.HK_CELL_ITEM.X : Fld := .mk 0xE01000 96 0x40 12 0x4 1 0x0 false 0 32 [.ro] [0]
def F.HK_CELL_FLAGS.OUTVOTED : Fld := .mk 0xE01030 96 0x40 1 0x0 1 0x0 false 0 12 [.ro] [0]
def F.HK_CELL_FLAGS.RANGE : Fld := .mk 0xE01030 96 0x40 1 0x0 1 0x0 false 16 12 [.ro] [0]
def F.HK_CELL_FLAGS.NODE_CHECK : Fld := .mk 0xE01030 96 0x40 1 0x0 1 0x0 false 28 1 [.ro] [0]
def F.HK_CELL_CHECK.FLAGS : Fld := .mk 0xE01034 96 0x40 1 0x0 1 0x0 false 0 12 [.ro] [0]
def F.LE_T.ENTRY : Fld := .mk 0x1100000 4 0x4000 4096 0x4 1 0x0 false 0 32 [.rwc] [0]
/-- Fields of the tables of spec file 20, part 0. -/
def fields20p0 : List Fld := [F.GLB_ID.VENDOR, F.GLB_ID.DEVICE, F.GLB_STEP.STEP, F.GLB_STEP.DETENT_STEP, F.GLB_VARIANT.VARIANT, F.GLB_MAP.VERSION, F.GLB_SERIAL.SERIAL, F.GLB_ROM.VERSION, F.GLB_CAPS.LANES, F.GLB_CAPS.GATES, F.GLB_CAPS.SLOTS, F.GLB_MEM.LPDDR_GIB, F.GLB_MEM.MRAM_MBIT]
/-- Every field of the register tables of spec file 20. -/
def fields20 : List Fld := fields20p0
/-- Fields of the tables of spec file 04, part 0. -/
def fields04p0 : List Fld := [F.GLB_STATE.DEVICE, F.GLB_STATE_SINCE.BEAT, F.GLB_RESET_CAUSE.CAUSE, F.GLB_BOOT.IMAGE, F.GLB_BOOT.SIG_OK, F.GLB_BOOT.SELFTEST_OK, F.GLB_BOOT.SAVE_OK, F.GLB_BOOT.SECFLOOR, F.GLB_FW_VERSION.VERSION, F.GLB_CAT.LOADED, F.GLB_CAT.SAFETY_MATCH, F.GLB_CAT_ID.ID, F.GLB_CAT_REV.REVISION, F.GLB_CAT_FLOOR.FLOOR, F.GLB_STAGE_FAIL.CODE, F.GLB_STAGE_FAIL.COUNT, F.GLB_STAGE_FAIL.OBJECT, F.GLB_STAGE_LANES.FAILED, F.GLB_ESAP.TICKS, F.GLB_PRECHARGE.PHASE, F.GLB_PRECHARGE.LINK, F.GLB_PRECHARGE.ELAPSED]
/-- Every field of the register tables of spec file 04. -/
def fields04 : List Fld := fields04p0
/-- Fields of the tables of spec file 11, part 0. -/
def fields11p0 : List Fld := [F.GLB_CONSERVE.FAULT, F.GLB_TIMING.UP_LATEST, F.GLB_TIMING.DN_LATEST, F.GLB_TIMING_MISS.COUNT, F.GLB_SATCLR.CLEAR, F.LANE_BUDGET.ESAP_K, F.LANE_BUDGET.UP_SLACK]
/-- Every field of the register tables of spec file 11. -/
def fields11 : List Fld := fields11p0
/-- Fields of the tables of spec file 03, part 0. -/
def fields03p0 : List Fld := [F.RSV_CTRL.IDLE_SLEEP, F.RSV_CTRL.PLLC_REF, F.RSV_WAKE_EN.WAKE0, F.RSV_WAKE_EN.WAKE1, F.RSV_WAKE_EN.CATP, F.RSV_WAKE_EN.CAN0, F.RSV_WAKE_EN.CAN1, F.RSV_WAKE_EN.ALARM, F.RSV_WAKE_EN.SI, F.RSV_WAKE_CAUSE.WAKE0, F.RSV_WAKE_CAUSE.WAKE1, F.RSV_WAKE_CAUSE.CATP, F.RSV_WAKE_CAUSE.CAN0, F.RSV_WAKE_CAUSE.CAN1, F.RSV_WAKE_CAUSE.ALARM, F.RSV_WAKE_CAUSE.SI, F.RSV_WAKE_CAUSE.VIN, F.RSV_WAKE_FILT.WAKE_FILT, F.RSV_WAKE_FILT.CAN_FILT, F.RSV_WAKE_FILT.CATP_FILT, F.RSV_CATP.THRESH, F.RSV_CATP.LEVEL, F.RSV_VWARN.CODE, F.RSV_VWARN.BELOW, F.RSV_STATUS.XKEEP_RC, F.RSV_STATUS.VKEEP_OK, F.RSV_STATUS.VIN_OK, F.RSV_STATUS.REFCLK_OK, F.RSV_TIME.COUNT, F.RSV_ALARM.AT, F.PLL_CTRL.FORCE_ON, F.PLL_CTRL.REF_MODE, F.PLL_STATUS.LOCKED, F.PLL_STATUS.DEMAND, F.PLL_STATUS.LOAN_WAIT, F.PLL_STATUS.LOCK_LOST, F.PLL_STATUS.REF_LOST, F.PLL_LOSS_COUNT.COUNT, F.PLLS_SEL.ENTRY, F.PLLS_SEL.HOP_BUSY]
/-- Fields of the tables of spec file 03, part 1. -/
def fields03p1 : List Fld := [F.PLLS_SYNC.EN, F.PLLS_SYNC.LOCKED, F.PLLS_SYNC.LOST, F.PLLS_SYNC.OFFSET, F.PLLS_PSTEP.STEPS, F.PLLS_PSTEP.BUSY, F.PLLS_HOP.FREQ, F.PLLS_HOP.BAND, F.PLLS_HOP.CAP, F.PLLS_HOP.VALID, F.LOAN_CHIP.BUDGET, F.LOAN_CHIP_STATE.OUT, F.LOAN_CHIP_STATE.AVAIL, F.LOAN_SITE.BUDGET, F.LOAN_SITE_STATE.OUT, F.LOAN_SITE_STATE.AVAIL, F.LOAN_OP_COST.COST, F.LOAN_OP_COST.STANDING, F.LOAN_OP_WAIT.WAIT_MS, F.LOAN_OP_WAIT.PRIO, F.LOAN_OP_WAIT.WAITING, F.LOAN_OP_GRANTED.COUNT, F.LOAN_OP_REFUSED.COUNT]
/-- Every field of the register tables of spec file 03. -/
def fields03 : List Fld := fields03p0 ++ fields03p1
/-- Fields of the tables of spec file 05, part 0. -/
def fields05p0 : List Fld := [F.RING_PENDING.COUNT, F.RING_HELD.COUNT, F.RING_ADMIT_SEQ.COUNT, F.RING_STRAY.COUNT, F.HOST_WD.TIMEOUT_MS, F.HOST_WD.CLASS, F.HOST_WD.EXPIRED, F.xQ_BASE.ADDR, F.xQ_WB.ADDR, F.xQ_CTRL.LOG2SIZE, F.xQ_CTRL.OWNER, F.xQ_CTRL.EN, F.xQ_CTRL.VECTOR, F.xQ_CTRL.IRQ_EN, F.xQ_STATUS.ACTIVE, F.xQ_STATUS.FAULT, F.xQ_STATUS.STALL, F.xQ_STATUS.FAULT_CODE, F.xQ_STATUS.PENDING, F.xQ_PROD.INDEX, F.xQ_CONS.INDEX, F.xQ_COUNT.COUNT, F.xQ_LOST.COUNT, F.STRM_DEC.DECIM, F.STRM_DEC.NSIG, F.STRM_SIG.OFFSET, F.EV_ROUTE.MASK, F.EV_ROUTE.VECTOR, F.EV_ROUTE.IRQ, F.MSIX_MOD.HOLDOFF]
/-- Every field of the register tables of spec file 05. -/
def fields05 : List Fld := fields05p0
/-- Fields of the tables of spec file 06, part 0. -/
def fields06p0 : List Fld := [F.VP_LOG_HEAD.SEQ, F.VP_LOG_ACKED.SEQ, F.VP_LOG_STATUS.FREE, F.VP_LOG_STATUS.LOW, F.VP_LOG_STATUS.HOLDING, F.VP_LOG_STATUS.FULL, F.VP_ATTEMPTS.COUNT, F.VP_ANCHOR_NEWEST.INDEX, F.VP_ANCHOR_NEWEST.T_INDEX, F.VP_SAFE_STAGE.STAGED, F.VP_SAFE_STAGE.CRC_DONE, F.VP_SAFE_CRC_C.CRC, F.VP_SAFE_CRC_D.CRC, F.VP_SAFE_IN_FORCE.CRC]
/-- Every field of the register tables of spec file 06. -/
def fields06 : List Fld := fields06p0
/-- Fields of the tables of spec file 07, part 0. -/
def fields07p0 : List Fld := [F.LANE_CTRL.FIBRE_CLASS, F.LANE_CTRL.XCVR_CLASS, F.LANE_CTRL.FB_ALLOWED, F.LANE_CTRL.DECLARED, F.LANE_CTRL.TEST_HOLD, F.LANE_CTRL.MANUAL_ALIGN, F.LANE_STATUS.STATE, F.LANE_STATUS.MODE, F.LANE_STATUS.STEP, F.LANE_STATUS.PRS, F.LANE_STATUS.LOS, F.LANE_STATUS.SYM_LOCK, F.LANE_STATUS.BLK_LOCK, F.LANE_STATUS.FRM_LOCK, F.LANE_STATUS.PEER_LOCKED, F.LANE_STATUS.ATTEMPT, F.LANE_STATUS.FAIL, F.LANE_STATUS.HELD, F.LANE_SLIP.SLIP, F.LANE_SLIP.DONE, F.LANE_FB.CORR_LIM, F.LANE_FB.UNCORR_LIM, F.LANE_RTT.RTT, F.LANE_RTT.RUNS, F.LANE_RTT.SPREAD, F.LANE_RTT.VALID, F.LANE_DNODE.TURNAROUND, F.LANE_LAT.ONE_WAY, F.LANE_QWIN.CORR, F.LANE_QWIN.UNCORR, F.LANE_CNT.COUNT]
/-- Every field of the register tables of spec file 07. -/
def fields07 : List Fld := fields07p0
/-- Fields of the tables of spec file 08, part 0. -/
def fields08p0 : List Fld := [F.LANE_NODE.STATE, F.LANE_NODE_BEAT.APPLIED_BEAT, F.LANE_NODE_TRIP.TRIP_MASK, F.LANE_NODE_TRIP.LAST_CTRL_SEQ, F.LANE_CREDIT.DN_AVAIL, F.LANE_CREDIT.DN_SLOTS, F.LANE_CREDIT.UP_OUT, F.LANE_CREDIT.UP_SLOTS, F.LANE_TSYNC.ERR, F.LANE_SERIAL.SERIAL, F.LANE_CAP.PREP_TICKS, F.LANE_CAP.CELL_CLASS, F.LANE_CAP.BYPASS_KIND, F.LANE_CAP.AUTO_BYPASS, F.LANE_CAP.HOLD_BEATS, F.LANE_CAP.PROTO_MINOR, F.LANE_MCNT.COUNT]
/-- Every field of the register tables of spec file 08. -/
def fields08 : List Fld := fields08p0
/-- Fields of the tables of spec file 09, part 0. -/
def fields09p0 : List Fld := [F.ARR_CTRL.CARRIER_BEATS, F.ARR_CTRL.HOP_LAST, F.ARR_CTRL.HOP_BEATS, F.ARR_CTRL.HOP_FIXED, F.ARR_APPLY.PHASE, F.ARR_HOP_LFSR.STATE, F.ARR_STATE.MODE, F.ARR_DAB_HALF.HALF, F.ARR_VREF.VDL, F.ARR_VCREF.VC, F.ARR_LIMIT.IMPORT, F.ARR_LIMIT.EXPORT, F.ARR_DERATE.FACTOR, F.ARR_MOD.M_MAX, F.ARR_MOD.DELTA_MAX, F.ARR_MOD.I_ARM_NOM, F.ARR_DAB_LIM.PS_MAX, F.ARR_DAB_LIM.FLUX_MAX, F.ARR_LEDGER.RESID_K, F.ARR_LEDGER.C_WARN, F.ARR_LEDGER.C_FAIL, F.ARR_RESID_LIM.LIM, F.ARR_STOP.STOP_RAMP, F.ARR_STOP.ZERO_KW, F.ARR_BYPASS.BYPASS_TMAX, F.ARR_BYPASS.RETRAIN_MS, F.ARR_STRING_CFG.CELLS, F.ARR_STRING_CFG.K, F.ARR_STRING_CFG.BAL_MODE, F.ARR_STRING_PHASE.STR_PHASE, F.ARR_STRING_STATUS.ACTIVE, F.ARR_STRING_STATUS.BYPASSED, F.ARR_STRING_STATUS.ABSENT, F.ARR_STRING_STATUS.SAT, F.ARR_STRING_STATUS.RESPREAD, F.ARR_STRING_CLOSE.D, F.ARR_STRING_CLIM.CLOSE_PERMIL, F.ARR_STRING_CLIM.CLOSE_FLOOR, F.ARR_STRING_RANK.RANK_HYST, F.ARR_STRING_RANK.I_Q]
/-- Fields of the tables of spec file 09, part 1. -/
def fields09p1 : List Fld := [F.CELL_STATUS.ROLE, F.CELL_STATUS.VOID, F.CELL_STATUS.FILLED, F.CELL_STATUS.CLAMPED, F.CELL_STATUS.DT_RANGE, F.CELL_STATUS.C_RANGE, F.CELL_STATUS.RANK, F.CELL_CARRIER.PHASE, F.LEDGER_ACCOUNT.NC, F.LEDGER_FRAC.FRAC, F.LEDGER_RESID.S, F.LEDGER_OFFSET.OFFSET_MA, F.LEDGER_C.C_EST, F.LEDGER_C_NOM.C_NOM, F.LEDGER_C_RANGE.VLO, F.LEDGER_C_RANGE.VHI, F.LEDGER_POSTINGS.COUNT, F.LEDGER_GAPS.COUNT, F.CELL_DROPPED.COUNT, F.CELL_FILLED.COUNT, F.DT_RANGE_I.I_LO, F.DT_RANGE_I.I_HI, F.DT_RANGE_V.V_LO, F.DT_RANGE_V.V_HI, F.DT_TABLE.CORR]
/-- Every field of the register tables of spec file 09. -/
def fields09 : List Fld := fields09p0 ++ fields09p1
/-- Fields of the tables of spec file 10, part 0. -/
def fields10p0 : List Fld := [F.LE_STATUS.RATE, F.LE_STATUS.ENABLED, F.LE_LOAD.SCHED, F.LE_LOAD.LAST, F.LE_TABLE_CFG.WRAP, F.LE_TABLE_CFG.BANK, F.LE_OVERRUN.COUNT, F.LE_NUMERIC.COUNT, F.LE_UPDATES.COUNT, F.SLOT_CFG.EN, F.SLOT_CFG.ORDER, F.SLOT_CFG.AW, F.SLOT_CFG.FF_EN, F.SLOT_CFG.FF_TABLE, F.SLOT_CFG.MEMBERS, F.SLOT_CFG.MEMBER, F.SLOT_CFG.OWNER, F.SLOT_CFG.RELEASE, F.SLOT_SRC.SRC_A, F.SLOT_SRC.SRC_B, F.SLOT_SRC.IDX_A, F.SLOT_SRC.IDX_B, F.SLOT_K_IN.K_IN, F.SLOT_REF.REF, F.SLOT_B.B, F.SLOT_A.A, F.SLOT_FF_GAIN.FF_GAIN, F.SLOT_YMIN.YMIN, F.SLOT_YMAX.YMAX, F.SLOT_Y_INIT.Y_INIT, F.SLOT_E.E, F.SLOT_Y.Y, F.SLOT_OWN_A.OWN_A, F.SLOT_OWN_IDX.OWN_IDX, F.SLOT_Y_OUT.Y_LIM, F.SLOT_STATUS.READY, F.SLOT_STATUS.DONE, F.SLOT_STATUS.LANE, F.SLOT_STATUS.LIM_HI, F.SLOT_STATUS.LIM_LO]
/-- Fields of the tables of spec file 10, part 1. -/
def fields10p1 : List Fld := [F.SLOT_STATUS.HOLDING, F.SLOT_STATUS.FROZEN, F.SLOT_STATUS.NUMERIC, F.SLOT_LIMCNT.COUNT, F.LE_T.ENTRY]
/-- Every field of the register tables of spec file 10. -/
def fields10 : List Fld := fields10p0 ++ fields10p1
/-- Fields of the tables of spec file 12, part 0. -/
def fields12p0 : List Fld := [F.OS_CTRL.PHASE_DECL, F.OS_CTRL.GROUP_B, F.OS_CTRL.BRAKE_DECL, F.OS_CTRL.BRAKE_DUAL, F.OS_STATUS.BRAKE_ARMED, F.OS_STATUS.BRAKE_ON, F.OS_LINK.I_LINK, F.OS_SENSE.SENSE_BEATS, F.OS_SENSE_LOST.LOST, F.OS_SENSE_LOST.CAL_RANGE, F.OS_BRAKE.ON_V, F.OS_BRAKE.OFF_V, F.OS_BRAKE_J.J_MAX, F.OS_BRAKE_COUNT.COUNT, F.GRP_SLOTS.VSLOT, F.GRP_SLOTS.ISLOT, F.GRP_SLOTS.SHARE_BASE, F.GRP_PERIOD.PERIOD, F.GRP_VSET.VSET, F.GRP_ISET.FWD, F.GRP_ISET.REV, F.GRP_FOLD.V_KNEE, F.GRP_FOLD.I_FLOOR, F.GRP_IMAX.I_MAX, F.GRP_IMAX.I_PH_MAX, F.GRP_SHED.I_PH_OPT, F.GRP_SHED.SHED_HYST, F.GRP_SHED.N_MIN, F.GRP_SHED.SHED_EN, F.GRP_SHED.BURST_EN, F.GRP_SHED_T.SHED_HOLD, F.GRP_SHED_T.STEP_I, F.GRP_BURST.BURST_I, F.GRP_BURST.BURST_PERIODS, F.GRP_BURST_V.BAND, F.GRP_BURST_V.SLEEP_MAX, F.GRP_TRUNC.TRUNC, F.GRP_SS.SS_SLEW, F.GRP_SS.SS_TMAX, F.GRP_OPEN.OPEN_ERR]
/-- Fields of the tables of spec file 12, part 1. -/
def fields12p1 : List Fld := [F.GRP_OPEN.OPEN_PERIODS, F.GRP_OPEN.TRIM_MAX, F.GRP_DUTY.D_MIN, F.GRP_DUTY.D_MAX, F.GRP_STATUS.STATE, F.GRP_STATUS.N_ACTIVE, F.GRP_STATUS.SHEDDING, F.GRP_STATUS.FOLDBACK, F.GRP_STATUS.CAP_LIMITED, F.GRP_STATUS.BURST_SLEEP, F.GRP_STATUS.ILIM, F.GRP_VOUT.V, F.GRP_IOUT.I, F.GRP_TRUNC_COUNT.COUNT, F.GRP_SHED_COUNT.COUNT, F.GRP_BURST_COUNT.COUNT, F.PH_STATUS.STATE, F.PH_STATUS.SLOT, F.PH_OFFSET.OFFSET, F.PH_COMPARE.COMPARE, F.PH_TRIM.TRIM, F.PH_IAVG.I, F.SNS_SCALE.SCALE, F.SNS_OFFSET.OFFSET, F.SNS_CAL_LO.CAL_LO, F.SNS_CAL_HI.CAL_HI, F.SNS_GAIN.GAIN, F.SNS_MEAN.MEAN, F.SNS_DECL.DECLARED]
/-- Every field of the register tables of spec file 12. -/
def fields12 : List Fld := fields12p0 ++ fields12p1
/-- Fields of the tables of spec file 13, part 0. -/
def fields13p0 : List Fld := [F.PWM_SYNC.MASTER, F.PWM_SYNC.OUT_EN, F.PWM_STAGGER.STAGGER, F.PWM_STAGE.MID_TIME, F.PWM_STAGE.HELD, F.XTRIP_CFG.EN, F.XTRIP_CFG.STAGES, F.XTRIP_CFG.FILT, F.XTRIP_CFG.TRIP, F.XTRIP_CFG.ACTIVE, F.HALL_CFG.FILT, F.HALL_CFG.SHIFT, F.HALL_CFG.MIN_TICKS, F.HALL_STATUS.STATE, F.HALL_STATUS.DIR, F.HALL_STATUS.FAULT, F.HALL_COUNT.COUNT, F.PW_CFG.GATE, F.PW_CFG.FUNC, F.PW_CFG.PAIR, F.PW_CFG.SHORT_MODE, F.PW_PERIOD.PERIOD, F.PW_PHASE.OFFSET, F.PW_CMP.CMP, F.PW_SHADOW.CMP, F.PW_DT.DEADTIME, F.PW_DT.MIN_PULSE, F.PW_FORCE.FORCE, F.PW_FORCE.REFUSED, F.PW_EVT.ZERO, F.PW_EVT.PERIOD, F.PW_EVT.CMP, F.PW_EVT.PRESC, F.PW_STATUS.LEVEL, F.PW_STATUS.DEAD, F.PW_STATUS.FORCED, F.PW_STATUS.COUNT, F.PW_DROP.COUNT, F.PW_STRETCH.COUNT, F.PW_REFRESH_COUNT.COUNT]
/-- Fields of the tables of spec file 13, part 1. -/
def fields13p1 : List Fld := [F.PW_EVT_COUNT.COUNT, F.GD_CFG.DECLARED, F.GD_CFG.BOOTSTRAP, F.GD_CFG.T_FILT, F.GD_CFG.BLANK, F.GD_UV_POS.POS_TH, F.GD_UV_POS.POS_HYS, F.GD_UV_NEG.NEG_TH, F.GD_UV_NEG.NEG_HYS, F.GD_REFRESH.T_REFRESH, F.GD_REFRESH.K, F.GD_STATUS.CMD, F.GD_STATUS.TRIP, F.GD_STATUS.PENDING, F.GD_STATUS.T_ACTIVE, F.GD_STATUS.UV_POS, F.GD_STATUS.UV_NEG, F.GD_STATUS.CARRIER_LOST, F.GD_STATUS.UNPROVEN, F.GD_STATUS.LOCKED, F.GD_SUPPLY.VPOS, F.GD_SUPPLY.VNEG, F.GD_TRIP_TICK.SUBTICK, F.GD_TRIP_TICK.TICK, F.GD_TRIP_COUNT.COUNT, F.GD_BLANKED.COUNT, F.GD_FRAME_ERR.COUNT]
/-- Every field of the register tables of spec file 13. -/
def fields13 : List Fld := fields13p0 ++ fields13p1
/-- Fields of the tables of spec file 14, part 0. -/
def fields14p0 : List Fld := [F.COL_CFG.KIND, F.COL_CFG.ENC2_MODE, F.COL_CFG.ON_STOP, F.COL_CFG.GUARD_ACT, F.COL_CFG.GUARD, F.COL_SLOTS.POS, F.COL_SLOTS.SPD, F.COL_SLOTS.FRIC, F.COL_TRAVEL_MIN.MIN, F.COL_TRAVEL_MAX.MAX, F.COL_CONTACT_LO.LO, F.COL_CONTACT_HI.HI, F.COL_SAFE_POS.POS, F.COL_HOME_POS.POS, F.COL_VMAX.V_MAX, F.COL_AMAX.A_MAX, F.COL_DRIVE.PERIOD, F.COL_DRIVE.U_MAX, F.COL_STALL.STALL_U, F.COL_STALL.STALL_BEATS, F.COL_STALL_V.STALL_V, F.COL_BAND.POS_BAND, F.COL_BAND.BRAKE_BEATS, F.COL_FRIC.FRIC_BAND, F.COL_XCHK.NUM, F.COL_XCHK.DEN, F.COL_XCHK_TOL.TOL, F.COL_STATUS.STATE, F.COL_STATUS.VALID, F.COL_STATUS.REFERENCED, F.COL_STATUS.IN_ZONE, F.COL_STATUS.XCHK_FAIL, F.COL_POS.P, F.COL_SPEED.V, F.COL_TARGET.TARGET, F.COL_REF.R, F.COL_U.U, F.COL_OFFSET.OFFSET, F.COL_MOVES.COUNT, F.ENC_CFG.LINES]
/-- Fields of the tables of spec file 14, part 1. -/
def fields14p1 : List Fld := [F.ENC_CFG.LINE_TOL, F.ENC_CFG.INV, F.ENC_COUNT.COUNT, F.ENC_STATUS.DIR, F.ENC_STATUS.EDGE_OVR, F.ENC_STATUS.LINE_FAULT, F.ENC_STATUS.IDX_SEEN, F.ENC_STATUS.LEVELS, F.ENC_IDX.LATCH, F.ENC_IDX_DIFF.D, F.ENC_REVERSALS.COUNT, F.ENC_OVR_COUNT.COUNT, F.SSI_CFG.BITS, F.SSI_CFG.GRAY, F.SSI_CFG.ERR_EN, F.SSI_CFG.DIV, F.SSI_CFG.EVERY, F.SSI_CFG.DLY, F.SSI_START.START, F.SSI_ZERO.ZERO, F.SSI_VALUE.VALUE, F.SSI_STATUS.LAST_OK, F.SSI_STATUS.ENC_ERR, F.SSI_ERR_COUNT.COUNT]
/-- Every field of the register tables of spec file 14. -/
def fields14 : List Fld := fields14p0 ++ fields14p1
/-- Fields of the tables of spec file 15, part 0. -/
def fields15p0 : List Fld := [F.MET_CTRL.INTERVAL, F.MET_CTRL.NOM_HZ, F.MET_CTRL.HARM_EVERY, F.MET_STATUS.RUN, F.MET_STATUS.TICK_ALIGNED, F.MET_CH_FLAGS.LOST, F.MET_CH_FLAGS.OVR, F.MET_CAL_RANGE.CAL, F.MET_ZC.TIMEOUT, F.MET_CLOSE_CFG.CL_PERMIL, F.MET_CLOSE_CFG.CL_FLOOR, F.MET_SAMPLES.COUNT, F.MET_HARM_SKIPPED.COUNT, F.MET_HARM_WIN.WINDOW, F.MET_CH_CFG.DECLARED, F.MET_CH_CFG.KIND, F.MET_CH_CFG.CLASS, F.MET_CH_CFG.MCLK, F.MET_CH_CFG.EDGE, F.MET_CH_CFG.SYNC, F.MET_CH_SCALE.SCALE, F.MET_CH_DELAY.DELAY, F.MET_CH_OFF_P.OFF_P, F.MET_CH_OFF_R.OFF_R, F.MET_CH_GAIN_R.GAIN_R, F.MET_CH_CAL_LO.CAL_LO, F.MET_CH_CAL_HI.CAL_HI, F.MET_CH_GAIN.GAIN, F.MET_CH_RMS.RMS, F.MET_CH_MEAN.MEAN, F.MET_CH_FREQ.F, F.MET_CH_ZC.ZC_HYST, F.MET_CH_ZC.ZC_TMO, F.MET_EL_CFG.DECLARED, F.MET_EL_CFG.V_CH, F.MET_EL_CFG.I_CH, F.MET_EL_CFG.DIR, F.MET_EL_CFG.STRING, F.MET_EL_CFG.CLOSE_EN, F.MET_EL_NOLOAD.NOLOAD_W]
/-- Fields of the tables of spec file 15, part 1. -/
def fields15p1 : List Fld := [F.MET_EL_P.P, F.MET_EL_Q.Q, F.MET_EL_S.S, F.MET_EL_PF.PF, F.MET_EL_TOT_IMP.MJ, F.MET_EL_TOT_EXP.MJ, F.MET_EL_TOT_Q.MVARS, F.MET_EL_OPEN.START, F.MET_EL_RECS.SEQ, F.MET_EL_CLOSE.D, F.MET_EL_THD_V.THD, F.MET_EL_THD_I.THD]
/-- Every field of the register tables of spec file 15. -/
def fields15 : List Fld := fields15p0 ++ fields15p1
/-- Fields of the tables of spec file 16, part 0. -/
def fields16p0 : List Fld := [F.CHR_STATE.NT_STATE, F.CHR_STATE.VALID, F.CHR_STATE.FULL_RES, F.CHR_STATE.SET_ARMED, F.CHR_SERVO.SOURCE, F.CHR_SERVO.LOCK_NS, F.CHR_GAIN.KP, F.CHR_GAIN.KI, F.CHR_LIMITS.RATE_MAX, F.CHR_STEP_NS.STEP_NS, F.CHR_HOLD.TIMEOUT_MS, F.CHR_HOLD.HOLDOVER_S, F.CHR_RATE.R, F.CHR_OFFSET.THETA, F.CHR_INC.INC, F.CHR_SNAP.TAKE, F.CHR_SNAP_TICK.TICK, F.CHR_SNAP_SEC.SEC, F.CHR_SNAP_NS.FRAC, F.CHR_SNAP_NS.NS, F.CHR_SET_SEC.SEC, F.CHR_SET_NS.NS, F.CHR_SET_AT.TICK, F.CHR_STEPS.COUNT, F.PPS_CFG.OUT_EN, F.PPS_CFG.IN_EN, F.PPS_IN_TS.SUBTICK, F.PPS_IN_TS.TICK, F.PPS_IN_ERR.COUNT, F.ETH_CFG.MODE, F.ETH_CFG.PTP_EN, F.ETH_CFG.P2P, F.ETH_CFG.UDP4, F.ETH_CFG.PASS, F.ETH_CFG.DOMAIN, F.ETH_STATUS.LINK, F.ETH_STATUS.MASTER, F.ETH_STATUS.SELECTED, F.ETH_ASYM.EXT_TX, F.ETH_ASYM.EXT_RX]
/-- Fields of the tables of spec file 16, part 1. -/
def fields16p1 : List Fld := [F.ETH_DELAY.DELAY, F.ETH_MAC.MAC, F.ETH_GM.CLOCK_ID, F.ETH_RX.COUNT, F.ETH_TX.COUNT, F.ETH_FWD.COUNT, F.ETH_DROP.COUNT, F.ETH_TC_OVF.COUNT, F.CAN_CFG.EN, F.CAN_CFG.FD, F.CAN_CFG.BRS, F.CAN_CFG.TDC, F.CAN_CFG.LISTEN, F.CAN_NBT.BRP, F.CAN_NBT.TSEG1, F.CAN_NBT.TSEG2, F.CAN_NBT.SJW, F.CAN_DBT.BRP, F.CAN_DBT.TSEG1, F.CAN_DBT.TSEG2, F.CAN_DBT.SJW, F.CAN_STATUS.STATE, F.CAN_STATUS.TEC, F.CAN_STATUS.REC, F.CAN_LOST.COUNT, F.CAN_LATE.COUNT, F.CAN_FILT.FILT_ID, F.CAN_FILT.IDE, F.CAN_FILT.EVT, F.CAN_FILT.EN, F.CAN_MASK.MASK, F.CAN_TX.ID, F.CAN_TX.IDE, F.CAN_TX.FDF, F.CAN_TX.EN, F.CAN_TX_SRC.SRC, F.CAN_TX_PER.PERIOD_MS, F.CAN_TX_PER.LEN, F.CAN_MB_ID.ID, F.CAN_MB_ID.IDE]
/-- Fields of the tables of spec file 16, part 2. -/
def fields16p2 : List Fld := [F.CAN_MB_ID.FDF, F.CAN_MB_ID.NEW, F.CAN_MB_LEN.LEN, F.CAN_MB_TICK.TICK, F.CAN_MB_DATA.DATA]
/-- Every field of the register tables of spec file 16. -/
def fields16 : List Fld := fields16p0 ++ fields16p1 ++ fields16p2
/-- Fields of the tables of spec file 17, part 0. -/
def fields17p0 : List Fld := [F.REG_RSW.RSW, F.REG_RSW_ACTIVE.ACTIVE, F.REG_CTRL.ERR_CLASS, F.REG_CTRL.C2_HOLD, F.REG_INC.CLASS, F.REG_INC.RUNNING, F.REG_INC.OPEN_SRC, F.REG_INC_NUM.NUM, F.REG_INC_TICK.TICK, F.REG_EVENTS.COUNT, F.REG_MERGED.COUNT, F.REG_AQ_COUNT.COUNT, F.REG_FORCE.FORCE, F.REG_ERR.P, F.REG_ERR.N, F.REG_ERR.CAUSE, F.REG_SRC.CLASS_FLOOR, F.REG_SRC.DERATE, F.REG_SRC.TRIG, F.REG_SRC.ACTIVE, F.REG_SRC_COUNT.COUNT, F.ARC_CFG.TRIG_CLASS, F.ARC_CFG.POST_BEATS, F.ARC_STATE.STATE, F.ARC_STATE.DUMPING, F.ARC_STATE.CAUSE, F.ARC_DEPTH.BEATS, F.ARC_TRIG_TICK.TICK, F.ARC_IMAGE_SEGS.SEGS, F.ARC_TRIG_SEG.SEG, F.ARC_MARK_SEGS.SEGS, F.ARC_MARK_TRIG_SEG.SEG, F.ARC_DUMP.MBPS, F.ARC_DUMPED.BYTES, F.ARC_TRIG_LOST.COUNT, F.ARC_MARK_LOST.COUNT, F.ARC_FREEZES.COUNT]
/-- Every field of the register tables of spec file 17. -/
def fields17 : List Fld := fields17p0
/-- Fields of the tables of spec file 18, part 0. -/
def fields18p0 : List Fld := [F.SAF_STATE.SDO_C, F.SAF_STATE.SDO_D, F.SAF_STATE.RB_C, F.SAF_STATE.RB_D, F.SAF_STATE.LOOP_ON, F.SAF_STATE.LATCHED, F.SAF_STATE.CURATOR_OK, F.SAF_STATE.DETENT_OK, F.SAF_STATE.DEMAND, F.SAF_STATE.FAULT, F.SAF_STATE.RESET_STEP, F.SAF_LATCH_CAUSE.SOURCE, F.SAF_LATCH_CAUSE.OBJECT, F.SAF_LATCH_TICK.TICK, F.SAF_GLOBAL.SDO_TEST, F.SAF_GLOBAL.RESET_WIN, F.SAF_LOOP_STARTS.COUNT, F.SAF_LOCKOUTS.COUNT, F.SAF_RESETS.COUNT, F.SAF_PAIR_CFG.DECLARED, F.SAF_PAIR_CFG.KIND, F.SAF_PAIR_CFG.CLASS, F.SAF_PAIR_CFG.T_DISC, F.SAF_PAIR_TIME.TP_MAX, F.SAF_PAIR_TIME.DELAY, F.SAF_PAIR_STATUS.A, F.SAF_PAIR_STATUS.B, F.SAF_PAIR_STATUS.DEMAND, F.SAF_PAIR_STATUS.WINDOW, F.SAF_PAIR_STATUS.DISC_FAULT, F.SAF_PAIR_STATUS.CHATTER, F.SAF_PAIR_STATUS.C_DEMAND, F.SAF_PAIR_STATUS.TRANS, F.SAF_PAIR_DEMANDS.COUNT, F.SAF_PAIR_FAULTS.COUNT]
/-- Every field of the register tables of spec file 18. -/
def fields18 : List Fld := fields18p0
/-- Fields of the tables of spec file 19, part 0. -/
def fields19p0 : List Fld := [F.HK_CTRL.RATE_ROUNDS, F.HK_CTRL.VOTE_ROUNDS, F.HK_CTRL.STOP_MARGIN, F.HK_STATUS.FACTOR, F.HK_STATUS.DERATING, F.HK_STATUS.STOP_REQ, F.HK_STATUS.FAST, F.HK_TNEED.T_NEED, F.HK_ROUNDS.COUNT, F.HK_VIN.V, F.HK_VKEEP.V, F.HK_SCALE.SCALE, F.HK_OFFSET.OFFSET, F.HK_RANGE_LO.LO, F.HK_RANGE_HI.HI, F.HK_WARN.WARN, F.HK_DERATE_AT.DERATE_AT, F.HK_STOP_AT.STOP_AT, F.HK_LIMIT.LIMIT, F.HK_RATE_MAX.RATE_MAX, F.HK_HYST.HYST, F.HK_SET_CFG.DECLARED, F.HK_SET_CFG.DIR, F.HK_SET_CFG.WARN_EN, F.HK_SET_CFG.DERATE_EN, F.HK_SET_CFG.STOP_EN, F.HK_SET_CFG.RATE_EN, F.HK_SET_CFG.GROUP, F.HK_SET_CFG.DERATE_MIN, F.HK_VOTE_TOL.TOL, F.HK_VALUE.X, F.HK_RATE.RHO, F.HK_SET_STATE.WARN, F.HK_SET_STATE.DERATE, F.HK_SET_STATE.STOP, F.HK_SET_STATE.RANGE, F.HK_SET_STATE.OUTVOTED, F.HK_SET_STATE.CELL, F.HK_CELL_ITEM.X, F.HK_CELL_FLAGS.OUTVOTED]
/-- Fields of the tables of spec file 19, part 1. -/
def fields19p1 : List Fld := [F.HK_CELL_FLAGS.RANGE, F.HK_CELL_FLAGS.NODE_CHECK, F.HK_CELL_CHECK.FLAGS]
/-- Every field of the register tables of spec file 19. -/
def fields19 : List Fld := fields19p0 ++ fields19p1
/-- Every field of the register map. -/
def allFields : List Fld := fields20 ++ fields04 ++ fields11 ++ fields03 ++ fields05 ++ fields06 ++ fields07 ++ fields08 ++ fields09 ++ fields10 ++ fields12 ++ fields13 ++ fields14 ++ fields15 ++ fields16 ++ fields17 ++ fields18 ++ fields19

end Sys2Proof.Machine
end

