-- ==== Sys2Proof/Machine/Ops.lean ====
section
/-! DEFINITION. Named operations every family shares: origins and the provenance log (R156 to R162), device states (R103), host rings and
completions (R113 to R138, R144), loans held (R76, R80), and what a stop of each class does (R279, R280, R349, R350, R374, R417, R515). -/

namespace Sys2Proof.Machine

/-- The device state code (R108). -/
def Dev.st (d : Dev) : Nat := d.get F.GLB_STATE.DEVICE

/-- R479: PRECHARGE, RUN and STOP. -/
def Dev.energy (d : Dev) : Bool := d.st == PRECHARGE || d.st == RUN || d.st == STOP

/-- The main domain runs. -/
def Dev.live (d : Dev) : Bool := d.pwr.main == .running

/-- Ticks of a number of ms and of µs (R2). -/
def msT (n : Nat) : Nat := n * 100000
def usT (n : Nat) : Nat := n * 100

/-- The list `0 … n-1` kept where `p` holds. -/
def those (n : Nat) (p : Nat → Bool) : List Nat := (List.range n).filter p

/-! Provenance log -/

/-- R157: internal origins. -/
def Orig.of (c : Nat) : Orig := ⟨c, 0, 0, 0, 0⟩
/-- R157: a host register write. -/
def Orig.host (f : Nat) : Orig := ⟨1, f, 0, 0, 0⟩
/-- R157: a host command. -/
def Orig.cmd (c : HostCmd) : Orig := ⟨2, c.func, c.q, c.index, c.tag⟩
/-- R157: the Registrar, the Loan Desk and the boot. (DESIGN CHOICE: note 51.) -/
def Orig.registrar : Orig := .of 0x10
def Orig.detent : Orig := .of 0x11
def Orig.curator : Orig := .of 0x12
def Orig.desk : Orig := .of 0x13
def Orig.boot : Orig := .of 0x15
def Orig.reserve : Orig := .of 0x20

/-- R66: the tick count that a time-stamp carries: with PLL-T stopped the count moves by 4 at each REFCLK edge. -/
def Dev.stamp (d : Dev) : Nat := if d.bit F.CHR_STATE.FULL_RES then d.tick else d.tick - (d.tick - d.chr.edge0) % 4

/-- R66, R451, R452: an instant (sub-ticks) as stamped: at full resolution with PLL-T, else at the REFCLK edge before it. -/
def Dev.stampAt (d : Dev) (x : Nat) : Nat :=
  if d.bit F.CHR_STATE.FULL_RES then x else if x < d.chr.edge0 * 64 then x / 256 * 256 else x - (x - d.chr.edge0 * 64) % 256

/-- R157: the 56 bytes of an entry that its CRC covers. -/
def LogEntry.body (e : LogEntry) : List Nat :=
  leBytes 8 e.seq ++ leBytes 8 e.tick ++ leBytes 4 (e.kind % 256 + (e.origin % 256) * 2 ^ 8 + (e.func % 2) * 2 ^ 16 + (e.ring % 16) * 2 ^ 17 + (e.result % 256) * 2 ^ 24)
    ++ leBytes 4 e.desc ++ leBytes 4 e.object ++ leBytes 4 e.aux ++ leBytes 8 e.old ++ leBytes 8 e.new ++ leBytes 8 e.detail

/-- R157: the 64 bytes of an entry. -/
def LogEntry.bytes (e : LogEntry) : List Nat := e.body ++ leBytes 4 (crc32 e.body) ++ leBytes 4 0

/-- R159: the chain value after an entry. -/
def chainStep (h : Nat) (e : LogEntry) : Nat := sha256 (chainBytes h ++ e.bytes)

/-! Alternating MRAM slots (R91) -/

/-- R91: a slot with its valid mark present and its CRC right. -/
def MramSlot.good {α : Type} (bytes : α → List Nat) (x : MramSlot α) : Bool := x.valid && crc32 (bytes x.body) == x.crc

/-- R91: of two slots, one with a sequence number where it is good, the one in use: the good one with the higher number; true for slot 1. -/
def laterSlot (a b : Option Nat) : Option Bool :=
  match a, b with
  | some x, some y => some (decide (x < y))
  | some _, none => some false
  | none, some _ => some true
  | none, none => none

/-- R91: which slot of a pair is in use, the slot itself, and the one to be written, which is not in use. -/
def mramAt {α : Type} (bytes : α → List Nat) (l : List (Option (MramSlot α))) : Option Bool :=
  let n := fun (i : Nat) => (l.getD i none).bind (fun x => if x.good bytes then some x.seq else none)
  laterSlot (n 0) (n 1)
def mramUse {α : Type} (bytes : α → List Nat) (l : List (Option (MramSlot α))) : Option (MramSlot α) :=
  match mramAt bytes l with
  | some b => l.getD (b2n b) none
  | none => none
def mramSpare {α : Type} (bytes : α → List Nat) (l : List (Option (MramSlot α))) : Nat := match mramAt bytes l with | some b => 1 - b2n b | none => 0

/-- R91: a write begins, and its slot loses its valid mark. -/
def mramVoid {α : Type} (bytes : α → List Nat) (l : List (Option (MramSlot α))) : List (Option (MramSlot α)) :=
  l.modify (mramSpare bytes l) (Option.map (fun x => { x with valid := false }))

/-- R91: new contents are written, with the next sequence number, their CRC and, last, the valid mark. -/
def mramPut {α : Type} (bytes : α → List Nat) (l : List (Option (MramSlot α))) (b : α) : List (Option (MramSlot α)) :=
  l.set (mramSpare bytes l) (some ⟨true, crc32 (bytes b), match mramUse bytes l with | some x => (x.seq + 1) % 2 ^ 32 | none => 0, b⟩)

/-- R162: the boot count: that of the slot in use; a module as delivered holds 0. -/
def Mram.boots (m : Mram) : Nat := match mramUse (leBytes 4) m.bootRecs with | some x => x.body | none => 0

/-! Anchors (R160) -/

/-- R160: the anchor of a type that covers the newest entry. Its TICK, which R160 does not define further, is the instant of its writing. (DESIGN
CHOICE: note 125.) -/
def Dev.anchorOf (d : Dev) (type : Nat) : Anchor := ⟨d.get F.VP_LOG_HEAD.SEQ - 1, d.stamp, d.prov.chain, d.mram.boots, type⟩

/-- R160: an anchor stands in its ring, of which the latest 1,024 or 64 are kept. -/
def Dev.anchorPut (d : Dev) (a : Anchor) : Dev :=
  let m := d.mram
  if a.type = 0 then
    ({ d with mram := { m with blockRing := (a :: m.blockRing).take 1024, blockAt := (m.blockAt + 1) % 1024 } }).set F.VP_ANCHOR_NEWEST.INDEX m.blockAt
  else
    ({ d with mram := { m with eventRing := (a :: m.eventRing).take 64, eventAt := (m.eventAt + 1) % 64 } }).set F.VP_ANCHOR_NEWEST.T_INDEX m.eventAt

/-- R160: the write before a reset of cause 4 or 5 is complete where its instant has come. -/
def Dev.anchorFlush (d : Dev) : Dev :=
  match d.prov.anchorWrite with
  | some (t, a) => if t ≤ d.tick then ({ d with prov := { d.prov with anchorWrite := none } }).anchorPut a else d
  | none => d

/-- R160: no entry is left uncovered; the timed anchor counts from here. -/
def Dev.anchored (d : Dev) : Dev := ({ d with prov := { d.prov with anchorTick := d.tick, dirty := false } }).arm .anchor (2 ^ 30)

/-- R160: an anchor of a type is written to MRAM. -/
def Dev.anchor (d : Dev) (type : Nat) : Dev :=
  let d := d.anchorFlush
  (d.anchored).anchorPut (d.anchorOf type)

/-- R160: the type-2 anchor before a reset of cause 4 or 5 is being written, complete at a free instant of the 10 ms. (DESIGN CHOICE: note 125.) -/
def Dev.anchorBegin (d : Dev) : Dev :=
  let t := d.tick + Config.freeNat d.freeCtr % (msT 10 + 1)
  ((({ d with prov := { d.prov with anchorWrite := some (t, d.anchorOf 2) } }).free).anchored)

/-- R158: the free count follows HEAD and ACKED. -/
def Dev.logFree (d : Dev) : Dev :=
  d.set F.VP_LOG_STATUS.FREE (4194304 - (d.get F.VP_LOG_HEAD.SEQ - d.get F.VP_LOG_ACKED.SEQ))

/-- R77: an access keeps the LPDDR5 awake in QUIET and STAGED; in self-refresh it waits for the exit. (DESIGN CHOICE: note 36.) -/
def Dev.lpddrTouch (d : Dev) : Dev :=
  if d.clk.lpddrAwake then d.arm .lpddrIdle (msT 100) else { d with clk := { d.clk with lpddrWait := d.clk.lpddrWait + 1 } }

/-- R156 to R160: write and chain one entry. -/
def Dev.log (d : Dev) (kind : Nat) (o : Orig) (object aux old new : Nat) (result : Nat := 0) (detail : Nat := 0) : Dev :=
  let seq := d.get F.VP_LOG_HEAD.SEQ
  let e : LogEntry := ⟨seq, d.stamp, kind, o.code, o.func, o.ring, result, o.desc, object, aux, old, new, if o.code = 2 then o.tag else detail⟩
  let d := { d with prov := { d.prov with entries := (e :: d.prov.entries).take 4194304, chain := chainStep d.prov.chain e, dirty := true } }
  let d := ((d.set F.VP_LOG_HEAD.SEQ (seq + 1)).logFree).lpddrTouch
  if seq % 4096 = 4095 then d.anchor 0 else d

/-- R148: an attempt that is refused (RESULT 0xFF) or changes nothing, counted instead while the log holds (R161). -/
def Dev.attempt (d : Dev) (f offset aux old new : Nat) (refused : Bool) : Dev :=
  let d := d.inc F.VP_ATTEMPTS.COUNT 1
  if d.bit F.VP_LOG_STATUS.HOLDING then { d with prov := { d.prov with attempts := d.prov.attempts + 1 } }
  else d.log 2 (.host f) offset aux old new (if refused then 0xFF else 0)

/-! Host rings -/

/-- R551: a ring as an event's OBJECT. -/
def ringCode (r : Nat) : Nat := if r < 36 then r else r + 12

/-- R113: the records a ring holds, its size, and whether it can move. -/
def Dev.ringUsed (d : Dev) (r : Nat) : Nat := (d.get F.xQ_PROD.INDEX r + 2 ^ 32 - d.get F.xQ_CONS.INDEX r) % 2 ^ 32
def Dev.ringSize (d : Dev) (r : Nat) : Nat := 2 ^ d.get F.xQ_CTRL.LOG2SIZE r
def Dev.ringUp (d : Dev) (r : Nat) : Bool := d.bit F.xQ_CTRL.EN r && !d.bit F.xQ_STATUS.FAULT r

/-- R114: the PHASE bit of record `i`. -/
def Dev.ringPhase (d : Dev) (r i : Nat) : Nat := if (i >>> d.get F.xQ_CTRL.LOG2SIZE r) % 2 = 0 then 1 else 0

/-- R134: write back a ring's index with its FAULT and STALL. (DESIGN CHOICE: note 40.) -/
def Dev.writeBack (d : Dev) (r : Nat) : Dev :=
  d.emit (.writeBack r (if r < 16 then d.get F.xQ_CONS.INDEX r else d.get F.xQ_PROD.INDEX r) (d.bit F.xQ_STATUS.FAULT r) (d.bit F.xQ_STATUS.STALL r))

/-- R109: a function in D3hot answers no memory request. (PRESUMED: note 11.) -/
def Dev.deaf (d : Dev) (f : Nat) : Bool := (unit d.rings.fn f).d3hot

/-- R138: a cause for a vector: pending if it or its function is masked, MSI-X is off or the function sleeps, collected in the holdoff, otherwise a message. (PRESUMED: note 11.) -/
def Dev.msix (d : Dev) (f v : Nat) : Dev :=
  let n := 64 * f + v
  let c := unit d.rings.fn f
  if d.rings.masked.contains n || !c.msixOn || c.msixMask || c.d3hot then { d with rings := { d.rings with msixPend := n :: d.rings.msixPend.filter (· != n) } }
  else if (d.due (.holdoff n)).isSome then { d with rings := { d.rings with collected := n :: d.rings.collected.filter (· != n) } }
  else
    let d := d.emit (.msix f v)
    if d.get F.MSIX_MOD.HOLDOFF f v = 0 then d else d.arm (.holdoff n) (usT (d.get F.MSIX_MOD.HOLDOFF f v))

/-- One more record in a ring the CX96 fills (R113): index and count advance. -/
def Dev.ringPush (d : Dev) (r : Nat) : Dev :=
  (d.set F.xQ_PROD.INDEX (d.get F.xQ_PROD.INDEX r + 1) r).inc F.xQ_COUNT.COUNT 1 r

/-- R144: a CMDQ's CPLQ has held completions. -/
def Dev.holds (d : Dev) (q : Nat) : Bool := d.rings.held.any (fun c => c.q == q)

/-- R131, R133, R144: write a completion, or hold it where its CPLQ cannot take it or others are held before it. (DESIGN CHOICE: note 45.) -/
def Dev.complete (d : Dev) (c : Completion) : Dev :=
  let r := 16 + c.q
  if d.ringUp r && d.ringUsed r < d.ringSize r && (c.held || !d.holds c.q) then
    let i := d.get F.xQ_PROD.INDEX r
    let d := d.emit (.completion r (i % d.ringSize r) (d.ringPhase r i) c)
    let d := (d.ringPush r).writeBack r
    let d := { d with rings := { d.rings with reserved := d.rings.reserved.modify c.q (· - 1), completed := d.rings.completed.modify c.q (· + 1) } }
    if d.bit F.xQ_CTRL.IRQ_EN r && !c.noIrq then d.msix (d.get F.xQ_CTRL.OWNER r) (d.get F.xQ_CTRL.VECTOR r) else d
  else
    ({ d with rings := { d.rings with held := d.rings.held ++ [{ c with held := true }] } }).inc F.RING_HELD.COUNT 1

/-- R135: one event record into an enabled EVQ. -/
def Dev.evWrite (d : Dev) (e : Nat) (x : Event) : Dev :=
  let r := 32 + e
  let i := d.get F.xQ_PROD.INDEX r
  let d := d.emit (.event e (i % d.ringSize r) (d.ringPhase r i) (d.get F.xQ_COUNT.COUNT r % 2 ^ 32) x)
  let d := (d.ringPush r).writeBack r
  if x.cls ≠ 0 ∧ d.bit F.EV_ROUTE.IRQ x.source ∧ d.bit F.xQ_CTRL.IRQ_EN r then
    d.msix (d.get F.xQ_CTRL.OWNER r) (d.get F.EV_ROUTE.VECTOR x.source) else d

/-- R137: the loss record of an EVQ. (DESIGN CHOICE: note 41.) -/
def Dev.evLoss (d : Dev) (e : Nat) : Dev :=
  let r := 32 + e
  let i := d.get F.xQ_PROD.INDEX r
  let n := d.rings.evLost.getD e 0
  let d := d.emit (.lossRecord e (i % d.ringSize r) (d.ringPhase r i) (d.get F.xQ_COUNT.COUNT r % 2 ^ 32) n)
  let d := { d with rings := { d.rings with evLost := d.rings.evLost.set e 0 } }
  (d.ringPush r).writeBack r

/-- R137: deliver held records in order, as many as the ring takes. (DESIGN CHOICE: note 41.) -/
def Dev.evDrain (d : Dev) (e : Nat) : Nat → Dev
  | 0 => d
  | n + 1 =>
    let r := 32 + e
    if d.ringUp r && d.ringUsed r < d.ringSize r then
      match d.rings.evHold.getD e [] with
      | x :: xs => ({ d with rings := { d.rings with evHold := d.rings.evHold.set e xs } }).evWrite e x |>.evDrain e n
      | [] => if d.rings.evLost.getD e 0 = 0 then d else d.evLoss e
    else d

/-- R136, R137: one record for an EVQ: written, held, or lost. A record newer than lost ones waits for their loss record. (DESIGN CHOICE: note 41.) -/
def Dev.evPut (d : Dev) (e : Nat) (x : Event) : Dev :=
  let r := 32 + e
  if !d.bit F.xQ_CTRL.EN r then d
  else if d.ringUp r && d.ringUsed r < d.ringSize r && (d.rings.evHold.getD e []).isEmpty && d.rings.evLost.getD e 0 == 0 then d.evWrite e x
  else if (d.rings.evHold.getD e []).length < 64 ∧ d.rings.evLost.getD e 0 = 0 then
    { d with rings := { d.rings with evHold := d.rings.evHold.modify e (· ++ [x]) } }
  else ({ d with rings := { d.rings with evLost := d.rings.evLost.modify e (· + 1) } }).inc F.xQ_LOST.COUNT 1 r

/-! Loans held (R76, R77, R80) -/

/-- R77: operations 8 to 10 draw on the site budget. -/
def isSite (op : Nat) : Bool := 8 ≤ op

/-- Loans outstanding in a budget; the Reserve loan of 3,000 mW stands in the chip budget (R76). -/
def Dev.loansOut (d : Dev) (site : Bool) : Nat :=
  (if site then 0 else 3000) + ((d.loans.filter (fun (l : Loan) => isSite l.op == site)).map (fun (l : Loan) => l.amount)).sum

/-- R76: budget, amount outstanding and amount available of a budget. -/
def Dev.loanAvail (d : Dev) (site : Bool) : Nat := if site then d.get F.LOAN_SITE_STATE.AVAIL else d.get F.LOAN_CHIP_STATE.AVAIL
def Dev.loanBudget (d : Dev) (site : Bool) : Nat := if site then d.get F.LOAN_SITE.BUDGET else d.get F.LOAN_CHIP.BUDGET

/-- R76: outstanding plus available equals the budget, kept at every change. -/
def Dev.loanSync (d : Dev) : Dev :=
  let d := (d.set F.LOAN_CHIP_STATE.OUT (d.loansOut false)).set F.LOAN_CHIP_STATE.AVAIL (d.get F.LOAN_CHIP.BUDGET - d.loansOut false)
  (d.set F.LOAN_SITE_STATE.OUT (d.loansOut true)).set F.LOAN_SITE_STATE.AVAIL (d.get F.LOAN_SITE.BUDGET - d.loansOut true)

/-- A loan is held for an operation and instance. -/
def Dev.hasLoan (d : Dev) (op inst : Nat) : Bool := d.loans.any (fun l => l.op == op && l.inst == inst)

/-- The number of requests that wait, per operation (R85). -/
def Dev.waitSync (d : Dev) : Dev :=
  d.each (List.range 11) (fun d op => d.set F.LOAN_OP_WAIT.WAITING ((d.loanWait.filter (fun q => q.op == op)).length) op)

/-- R156: the LOAN entry of a grant (1), reduction (2), return (3) or refusal (4). -/
def Dev.loanLog (d : Dev) (what op inst before : Nat) : Dev :=
  d.log 6 .desk op (what + (inst % 256) * 256) before (d.loanAvail (isSite op))

/-- R80: return a loan. -/
def Dev.loanReturn (d : Dev) (op inst : Nat) : Dev :=
  if d.hasLoan op inst then
    let b := d.loanAvail (isSite op)
    (({ d with loans := d.loans.filter (fun l => !(l.op == op && l.inst == inst)) }).loanSync).loanLog 3 op inst b
  else d

/-- R77, R80: reduce a loan to its standing amount. -/
def Dev.loanReduce (d : Dev) (op inst : Nat) : Dev :=
  let s := d.get F.LOAN_OP_COST.STANDING op
  if d.loans.any (fun l => l.op == op && l.inst == inst && s < l.amount) then
    let b := d.loanAvail (isSite op)
    (({ d with loans := d.loans.map (fun (l : Loan) => if l.op == op && l.inst == inst then { l with amount := s } else l) }).loanSync).loanLog 2 op inst b
  else d

/-- A waiting request is withdrawn by the function that filed it. -/
def Dev.loanDrop (d : Dev) (op inst : Nat) : Dev :=
  if d.loanWait.any (fun q => q.op == op && q.inst == inst) then
    ({ d with loanWait := d.loanWait.filter (fun q => !(q.op == op && q.inst == inst)) }).waitSync else d

/-- Return the loan of an operation on every instance, and withdraw its waiting requests. -/
def Dev.loanEnd (d : Dev) (op : Nat) : Dev :=
  let d := d.each ((d.loans.filter (fun (l : Loan) => l.op == op)).map Loan.inst) (fun d i => d.loanReturn op i)
  d.each ((d.loanWait.filter (fun (q : LoanReq) => q.op == op)).map LoanReq.inst) (fun d i => d.loanDrop op i)

/-! Clock demand (R65). Users by number: 0 lanes, 1 Metering, 2 START and the output stage, 3 collector drive, 4 Ethernet. -/

/-- R65: the demand of one user ends; the PLL stops 100 ms after the last demand ends with FORCE_ON at 0. -/
def Dev.pllDrop (d : Dev) (p user : Nat) : Dev :=
  let u := (d.clk.demand.getD p []).filter (· != user)
  let had := !(d.clk.demand.getD p []).isEmpty
  let d := { d with clk := { d.clk with demand := d.clk.demand.set p u } }
  let d := d.setB F.PLL_STATUS.DEMAND (!u.isEmpty) p
  if had ∧ u.isEmpty ∧ p ≠ 0 ∧ !d.bit F.PLL_CTRL.FORCE_ON p then d.arm (.pllStop p) (msT 100) else d

/-! The Archive's markers and triggers (R492 to R495) -/

/-- R492: the newest records of a ring that fit its capacity. -/
def arcKeep : Nat → List ArcRec → List ArcRec
  | _, [] => []
  | cap, r :: rs => if r.len ≤ cap then r :: arcKeep (cap - r.len) rs else []

/-- R493, R494: the Archive records, or is in its post-trigger phase. -/
def Dev.arcOn (d : Dev) : Bool := d.get F.ARC_STATE.STATE == 1 || d.get F.ARC_STATE.STATE == 2

/-- R492, R495: one marker; the oldest are overwritten, each counted. -/
def Dev.arcMark (d : Dev) (type flags object aux : Nat) (body : List Int) (len : Nat) : Dev :=
  if d.arcOn then
    let m := (⟨type, flags, object, d.stamp, aux, body, len⟩ : ArcRec) :: d.reg.markers
    let kept := arcKeep 268304384 m
    let d := { d with reg := { d.reg with markers := kept, markerBytes := d.reg.markerBytes + len } }
    if kept.length < m.length then d.inc F.ARC_MARK_LOST.COUNT (m.length - kept.length) else d
  else d

/-- R492: one record of the sample ring. -/
def Dev.arcSample (d : Dev) (type flags object time aux : Nat) (body : List Int) (len : Nat) : Dev :=
  if d.arcOn then
    { d with reg := { d.reg with samples := arcKeep 16098263040 ((⟨type, flags, object, time, aux, body, len⟩ : ArcRec) :: d.reg.samples)
                                 sampleBytes := d.reg.sampleBytes + len } }
  else d

/-- R494: a trigger by a source, or 0x100 for a command. (DESIGN CHOICE: note 112.) -/
def Dev.arcTrigger (d : Dev) (cause aux : Nat) : Dev :=
  match d.get F.ARC_STATE.STATE with
  | 1 =>
    let d := ((d.set F.ARC_STATE.STATE 2).set F.ARC_STATE.CAUSE cause).set F.ARC_TRIG_TICK.TICK d.stamp
    let d := { d with reg := { d.reg with trigSample := d.reg.beatBytes, trigMarker := d.reg.markerBytes } }
    let d := d.arm .freeze ((d.beat + d.get F.ARC_CFG.POST_BEATS + 1) * 1024 - d.tick)
    d.arcMark 0x13 0 cause aux [] 32
  | 2 => (d.inc F.ARC_TRIG_LOST.COUNT 1).arcMark 0x13 0 cause aux [] 32
  | _ => d.inc F.ARC_TRIG_LOST.COUNT 1

/-- R493, R497: recording starts empty. -/
def Dev.arcStart (d : Dev) : Dev :=
  let d := (d.set F.ARC_STATE.STATE 1).set F.ARC_STATE.CAUSE 0
  { d with reg := { d.reg with samples := [], markers := [], sampleBytes := 0, markerBytes := 0, trigSample := 0, trigMarker := 0, beatBytes := 0, badSegs := [] } }

/-- R498: the segments, of `n`, that a dump ending early has copied: no more than its rate allows; how many is free. -/
def Dev.dumpPart (d : Dev) (n : Nat) : Nat :=
  Config.freeNat d.freeCtr % (min n ((d.tick - d.reg.dumpAt) * d.get F.ARC_DUMP.MBPS / 6553600) + 1)

/-! Slots of the Loop Engine: their owners, histories and presets (R287, R290, R299) -/

/-- The owner of a slot. -/
def Dev.owner (d : Dev) (k : Nat) : Nat := d.get F.SLOT_CFG.OWNER k

/-- R253, R287: the predecessors a Catalogue declares, with those of the Array Engine: the DC-link slot of every phase-shift slot, a string's
capacitor-mean slot of its input-current slot. -/
def declLinks (c : CatDecl) : List (Nat × Nat) :=
  c.preds ++ ((List.range c.strings).map (fun s => (c.capSlot.getD s 1024, c.curSlot.getD s 1024)) ++
    c.lanes.map (fun l => (c.vdlSlot, c.psSlot.getD l.lane 1024))).filter (fun x => x.1 < 1024 && x.2 < 1024)

/-- The predecessors in force: those of the Catalogue loaded. -/
def Dev.links (d : Dev) : List (Nat × Nat) := match d.prov.decl with | some c => declLinks c | none => []

/-- The slots that a free slot reads (R287), and the declared predecessors of a slot. -/
def Dev.slotSrcs (d : Dev) (k : Nat) : List Nat :=
  (if d.owner k = 0 ∧ 2 ≤ d.get F.SLOT_SRC.SRC_A k then [d.get F.SLOT_SRC.IDX_A k] else [])
    ++ (if d.owner k = 0 ∧ 2 ≤ d.get F.SLOT_SRC.SRC_B k then [d.get F.SLOT_SRC.IDX_B k] else [])
def Dev.slotPreds (d : Dev) (k : Nat) : List Nat := (d.links.filter (fun x => x.2 == k)).map (·.1)

/-- R299: every slot a free slot depends on, through free slots, is owned by the Collector Servo. -/
def Dev.colOnly (d : Dev) : Nat → List Nat → List Nat → Bool
  | 0, _, _ => false
  | _ + 1, [], _ => true
  | n + 1, k :: ks, seen =>
    if seen.contains k then d.colOnly n ks seen
    else match d.owner k with
      | 3 => d.colOnly n ks (k :: seen)
      | 0 => d.colOnly n (d.slotSrcs k ++ d.slotPreds k ++ ks) (k :: seen)
      | _ => false

/-- R45, R299, R307: LE_STATUS.RATE follows the device state; the save window has stopped the Loop Engine. -/
def Dev.loopRate (d : Dev) : Dev :=
  d.set F.LE_STATUS.RATE (if d.pwr.saveWin then 0 else if d.energy then 2 else if d.st = STAGED ∨ d.st = LINKED ∨ d.st = LOCKOUT then 1 else 0)

/-- The members of a head (R289). -/
def Dev.members (d : Dev) (k : Nat) : List Nat := (List.range (d.get F.SLOT_CFG.MEMBERS k)).map (fun j => k + 1 + j)

/-- R290, R299, R302 item 0x05: error history 0.0 and output history `y`. -/
def Dev.preset (d : Dev) (k y : Nat) : Dev :=
  let d := d.each [0, 1, 2] (fun d j => (d.set F.SLOT_E.E 0 k j).set F.SLOT_Y.Y y k j)
  d

/-- R290: y_c(n-1) after a preset, for the single slot or the group that `k` belongs to. -/
def Dev.presetYc (d : Dev) (k : Nat) : Dev :=
  d.slot k (fun s => { s with yc := (d.members k).foldl (fun a m => fAdd a (d.get F.SLOT_Y.Y m 0)) (d.get F.SLOT_Y.Y k 0) })

/-- R299: histories at entry to STAGED (`full` false: the slots evaluated there) or PRECHARGE (`full`: every enabled slot the Collector Servo does
not own). -/
def Dev.loopEntry (d : Dev) (full : Bool) : Dev :=
  let ks := those 1024 (fun k => (d.bit F.SLOT_CFG.EN k || d.bit F.SLOT_CFG.MEMBER k) && (if full then d.owner k != 3 else d.colOnly 4096 [k] []))
  let d := d.each ks (fun d k => d.preset k (d.get F.SLOT_Y_INIT.Y_INIT k))
  d.each ks (fun d k => d.presetYc k)

/-- R299, R406: entry to STAGED: histories of the slots evaluated there; the collector's reference is to be found again. -/
def Dev.stagedEntry (d : Dev) : Dev :=
  let d := d.loopEntry false
  if d.get F.COL_CFG.ENC2_MODE = 2 then
    let d := { d with col := { d.col with fell := d.col.fell || d.bit F.COL_STATUS.VALID } }
    (d.setB F.COL_STATUS.REFERENCED false).setB F.COL_STATUS.VALID false
  else d

/-! Device states (R103) -/

/-- R508: silence SAFE_LOOP; it starts again only at the next entry to PRECHARGE. -/
def Dev.loopSilence (d : Dev) : Dev :=
  let d := (d.setB F.SAF_STATE.LOOP_ON false).disarm .loopEdge
  { d with saf := { d.saf with silenced := true }, pwr := { d.pwr with loopLevel := false } }

/-- R506: drop one or both safe-disable outputs; the readback follows. -/
def Dev.sdoDrop (d : Dev) (c dd : Bool) : Dev :=
  let d := if c then (d.setB F.SAF_STATE.SDO_C false).setB F.SAF_STATE.RB_C false else d
  if dd then (d.setB F.SAF_STATE.SDO_D false).setB F.SAF_STATE.RB_D false else d

/-! Gate commands (R360, R379) -/

/-- R360: output-stage ticks as ticks, rounded up; whole REFCLK periods while PLL-S is lost (R375). -/
def Dev.osTicks (d : Dev) (n : Nat) : Nat :=
  if d.bit F.PLL_STATUS.LOCKED 2 then (if d.clk.freq = 0 then n else (n * 100000000 + d.clk.freq - 1) / d.clk.freq) else (n + 3) / 4 * 4

/-- R360: the sub-ticks that `n` output-stage sub-ticks take; whole REFCLK periods while PLL-S is lost (R375). -/
def Dev.osSpan (d : Dev) (n : Nat) : Nat :=
  if d.bit F.PLL_STATUS.LOCKED 2 then (if d.clk.freq = 0 then n else n * 100000000 / d.clk.freq) else (n + 255) / 256 * 256

/-- R360: the present instant, in sub-ticks, and what happens at a sub-tick of the present tick. -/
def Dev.now (d : Dev) : Nat := d.tick * 64 + d.os.sub
def Dev.atSub (d : Dev) (s : Nat) (g : Dev → Dev) : Dev :=
  let e := g { d with os := { d.os with sub := s } }
  { e with os := { e.os with sub := 0 } }

/-- The gate channel a PWM channel drives (R359) and the stage of a channel (R358), 3 for none. -/
def Dev.gateOf (d : Dev) (c : Nat) : Nat := d.get F.PW_CFG.GATE c
def Dev.stageOf (d : Dev) (c : Nat) : Nat := if d.get F.PW_CFG.FUNC c = 0 then 3 else d.get F.PW_CFG.FUNC c - 1

/-- R365: the complement of an even paired channel, or the primary of an odd one. -/
def Dev.partner (d : Dev) (c : Nat) : Option Nat :=
  if c % 2 = 0 then (if d.bit F.PW_CFG.PAIR c then some (c + 1) else none) else (if d.bit F.PW_CFG.PAIR (c - 1) then some (c - 1) else none)

/-- R379, R371: command a level: 0 OFF, 1 MID, 3 ON. A command to ON opens the blanking window, in which an input already
active is pending; OFF ends what the trip input may do. -/
def Dev.level (d : Dev) (c l : Nat) : Dev :=
  let x := d.gateOf c
  let was := d.get F.PW_STATUS.LEVEL c
  let d := ((d.set F.PW_STATUS.LEVEL l c).set F.GD_STATUS.CMD l x).pw c (fun p => { p with edge := d.now })
  if l = 3 ∧ was ≠ 3 then
    (if d.get F.GD_CFG.BLANK x = 0 then d
     else (d.arm (.blank x) (d.osTicks (d.get F.GD_CFG.BLANK x))).setB F.GD_STATUS.PENDING (d.bit F.GD_STATUS.T_ACTIVE x) x)
  else if l = 0 then (d.setB F.GD_STATUS.PENDING false x).disarm (.blank x) else d

/-- R103, R156: enter a device state, with its provenance entry; the Archive records from LINKED to STOP and through LOCKOUT (R493), SAFE_LOOP
is silent and the outputs are dropped outside the states of R506 and R508, and bootstrap supplies are unproven in STAGED and LINKED (R386), the Loop Engine's rate follows the
state (R307), and entry to STAGED presets histories (R299, R406). A device
that started with TEST_EN high never leaves QUIET (R41). (DESIGN CHOICE: note 29.) -/
def Dev.setState (d : Dev) (s : Nat) (o : Orig := .registrar) : Dev :=
  let old := d.st
  if s = old ∨ (d.pwr.testEn ∧ old = QUIET) then d else
  let d := (((d.set F.GLB_STATE.DEVICE s).loopRate).set F.GLB_STATE_SINCE.BEAT d.beat).log 4 o s 0 old s
  let d := if s = STAGED then d.stagedEntry else d
  let a := d.get F.ARC_STATE.STATE
  let d := if s = LINKED ∧ (a = 0 ∨ a = 4) then d.arcStart
    else if (s = QUIET ∨ s = STAGED) ∧ a = 1 then d.set F.ARC_STATE.STATE 4 else d
  let d := if s = PRECHARGE ∨ s = RUN ∨ s = STOP then d else if d.bit F.SAF_STATE.LOOP_ON then d.loopSilence else d
  let d := if s = STAGED ∨ s = LINKED then d.each (List.range 32) (fun d x => d.setB F.GD_STATUS.UNPROVEN (d.bit F.GD_CFG.BOOTSTRAP x && d.bit F.GD_CFG.DECLARED x) x) else d
  let d := if s = PRECHARGE ∨ s = RUN ∨ s = STOP then d
    else if d.bit F.OS_STATUS.BRAKE_ARMED then
      let d := (d.setB F.OS_STATUS.BRAKE_ARMED false).setB F.OS_STATUS.BRAKE_ON false
      if d.bit F.PWM_STAGE.HELD 1 then d else d.each [24, 25] (fun d c => d.level c 0)
    else d
  if s = QUIET ∨ s = LOCKOUT then d.sdoDrop true true else d

/-! Soft-off (R373 to R377) -/

/-- R373: dead time of a channel's pair is abandoned. -/
def Dev.deadEnd (d : Dev) (c : Nat) : Dev :=
  let e := c / 2 * 2
  let d := (d.setB F.PW_STATUS.DEAD false e).setB F.PW_STATUS.DEAD false (e + 1)
  (((d.pw e (fun p => { p with wait := none })).pw (e + 1) (fun p => { p with wait := none })).disarm (.dead e)).disarm (.dead (e + 1))

/-- R374: the channels of stages, and of one, in ascending gate channel index. -/
def Dev.chansOf (d : Dev) (ss : List Nat) : List Nat :=
  (List.range 32).flatMap (fun x => those 32 (fun c => ss.contains (d.stageOf c) && d.gateOf c == x))
def Dev.stageChans (d : Dev) (s : Nat) : List Nat := d.chansOf [s]

/-- R372 to R374: soft-off of one channel starting now; one already scheduled keeps its OFF step. -/
def Dev.softOffChan (d : Dev) (s c : Nat) : Dev :=
  if (unit d.pwm c).offAt.isSome then d
  else if d.bit F.PW_STATUS.DEAD c then (d.deadEnd c).level c 0
  else if d.get F.PW_STATUS.LEVEL c = 0 then d
  else
    let mid := d.osSpan (64 * d.get F.PWM_STAGE.MID_TIME s)
    let t := max (d.now + mid) (if d.os.lastOff = 0 then 0 else d.os.lastOff + d.osSpan (64 * d.get F.PWM_STAGGER.STAGGER))
    let d := if mid = 0 then d else d.level c 1
    let d := { d with os := { d.os with lastOff := t } }
    (d.arm (.softOff c) (t / 64 - d.tick)).pw c (fun p => { p with offAt := some t })

/-- R374, R377: soft-off of stages in the same tick, in one order of gate channels; one already running keeps its schedule (R372). The brake's command
ends with its stage. -/
def Dev.softOffs (d : Dev) (ss : List Nat) : Dev :=
  let ss := ss.filter (fun s => !d.bit F.PWM_STAGE.HELD s)
  let d := (d.each (d.chansOf ss) (fun d c => d.softOffChan (d.stageOf c) c)).each ss (fun d s => d.setB F.PWM_STAGE.HELD true s)
  if ss.contains 1 then d.setB F.OS_STATUS.BRAKE_ON false else d
def Dev.softOff (d : Dev) (s : Nat) : Dev := d.softOffs [s]

/-! What a stop does in each block -/

/-- The declared phases of a group (R357). -/
def Dev.phasesOf (d : Dev) (g : Nat) : List Nat :=
  those 12 (fun k => d.flag F.OS_CTRL.PHASE_DECL k && d.flag F.OS_CTRL.GROUP_B k == (g == 1))

/-- R348, R349: the group leaves soft-start or its wait: the loan goes back, the request is withdrawn. -/
def Dev.grpLoanEnd (d : Dev) (g : Nat) : Dev := ((d.loanReturn 9 g).loanDrop 9 g).disarm (.ssMax g)

/-- R349: start the stop ceiling of a group at |I_out|; a group that waits for its loan goes to state 0. -/
def Dev.grpStop (d : Dev) (g : Nat) : Dev :=
  let s := d.get F.GRP_STATUS.STATE g
  if s = 1 then (d.grpLoanEnd g).set F.GRP_STATUS.STATE 0 g
  else if s = 2 ∨ s = 3 ∨ s = 4 then
    ((d.grpLoanEnd g).set F.GRP_STATUS.STATE 5 g).grp g (fun x => { x with cStop := some (max x.iout (-x.iout)), quiet := 0, stopBeat := d.beat, sleepBeats := 0 })
      |>.setB F.GRP_STATUS.BURST_SLEEP false g
  else d

/-- Every phase of a group ends: PH_STATUS 5 unless declared OPEN or SENSE_LOST. -/
def Dev.grpPhasesOff (d : Dev) (g : Nat) : Dev :=
  (d.each (d.phasesOf g) (fun d k => (if d.get F.PH_STATUS.STATE k = 3 ∨ d.get F.PH_STATUS.STATE k = 4 then d else d.set F.PH_STATUS.STATE 5 k).phs k
    (fun x => { x with ending := false }))).set F.GRP_STATUS.N_ACTIVE 0 g

/-- R350: a group enters state 6. -/
def Dev.grpFast (d : Dev) (g : Nat) : Dev :=
  if (d.phasesOf g).isEmpty then d else
  (((d.grpLoanEnd g).grpPhasesOff g).set F.GRP_STATUS.STATE 6 g).grp g (fun x => { x with cStop := none, sleepBeats := 0 })
    |>.setB F.GRP_STATUS.BURST_SLEEP false g |>.setB F.GRP_STATUS.SHEDDING false g

/-- R458, R191: a port that uses a module has none, or none that has seen a signal for 1 ms; SGMII has a PHY in its place. -/
def Dev.ethDark (d : Dev) (n : Nat) : Bool := d.get F.ETH_CFG.MODE n != 3 && ((unit d.ports n).absent || (unit d.ports n).los)

/-- R404: the ticks an SSI frame occupies. -/
def Dev.ssiLen (d : Dev) : Nat := (d.get F.SSI_CFG.BITS + d.get F.SSI_CFG.ERR_EN + 2) * d.get F.SSI_CFG.DIV

/-- R417: a stop of class C3 or C4, or STOP: states 2 and 5 take the stop profile. -/
def Dev.colStop (d : Dev) : Dev :=
  let s := d.get F.COL_STATUS.STATE
  let d := { d with col := { d.col with parkDue := d.bit F.COL_CFG.ON_STOP } }
  if s = 2 ∨ s = 5 then { d with col := { d.col with stopping := true } } else d

/-- R417: stage 2 has been soft-offed: state 7; the actuator loan ends (R414). -/
def Dev.colHeld (d : Dev) : Dev :=
  if d.get F.COL_CFG.KIND = 0 then d else
  (((d.loanReturn 10 0).loanDrop 10 0).disarm .brake).set F.COL_STATUS.STATE 7

/-- R108: a string enters a phase; ELAPSED counts anew. -/
def Dev.prePhase (d : Dev) (s ph : Nat) : Dev :=
  let d := (d.set F.GLB_PRECHARGE.PHASE ph s).set F.GLB_PRECHARGE.ELAPSED 0 s
  { d with arr := { d.arr with preAt := d.arr.preAt.set s d.tick } }

/-- R105, R107: no string's precharge runs any longer: its deadlines stop, its loans go back, and a string that had not ended is idle again. (DESIGN CHOICE: note 91.) -/
def Dev.preEnd (d : Dev) : Dev :=
  (d.loanEnd 8).each (List.range 6) (fun d s =>
    (d.disarm (.prechPhase s)).cond (1 ≤ d.get F.GLB_PRECHARGE.PHASE s && d.get F.GLB_PRECHARGE.PHASE s ≤ 5) (fun d => d.prePhase s 0))

/-- R103, R107: the end of a precharge that failed: cells blocked, precharge loans and the START loans returned, back to LINKED. (DESIGN CHOICE: note 91.) -/
def Dev.precharge0 (d : Dev) (o : Orig) : Dev :=
  (((((d.preEnd).loanReturn 4 0).disarm .loopLoan).pllDrop 2 2).setState LINKED o)

/-- R279, R349, R417: an orderly stop. -/
def Dev.orderlyStop (d : Dev) (o : Orig) : Dev :=
  if d.st = RUN then
    let d := { d with arr := { d.arr with ramp := some ((d.get F.ARR_LIMIT.IMPORT * 1000000 : Nat), (d.get F.ARR_LIMIT.EXPORT * 1000000 : Nat)), zeroBeats := 0, zeroPower := false } }
    (((d.grpStop 0).grpStop 1).colStop).setState STOP o
  else if d.st = PRECHARGE then (d.colStop).precharge0 o
  else if d.st = STOP then d.colStop
  else d

/-- R280, R350, R417: a fast stop. The array takes it into the commands of the beat R248 names. A Hall fault (`hall`) holds the collector off and asks for no
stop of its own. -/
def Dev.fastStop (d : Dev) (o : Orig) (hall : Bool) : Dev :=
  if d.energy then
    let from_ := if d.phase < 290 then d.beat else d.beat + 1
    let d := { d with arr := { d.arr with fastFrom := some (d.arr.fastFrom.getD from_), zeroBeats := 0, zeroPower := false } }
    let d := (((d.softOff 0).grpFast 0).grpFast 1).cond (!hall) (·.colStop)
    if d.st = RUN then d.setState STOP o else if d.st = PRECHARGE then d.precharge0 o else d
  else d

/-- R515: the lock-out latch is set in both parts; its copy in MRAM is written within 10 ms, at an instant that is free. (DESIGN CHOICE: note 30.) -/
def Dev.latchSet (d : Dev) (src obj : Nat) : Dev :=
  if d.bit F.SAF_STATE.LATCHED then d else
  let d := ((d.setB F.SAF_STATE.LATCHED true).set F.SAF_LATCH_CAUSE.SOURCE src).set F.SAF_LATCH_CAUSE.OBJECT obj
  let d := (d.set F.SAF_LATCH_TICK.TICK d.stamp).inc F.SAF_LOCKOUTS.COUNT 1
  { d.free with saf := { d.saf with latch := some (src, obj, d.stamp), latchAt := some (d.tick + Config.freeNat d.freeCtr % (msT 10 + 1)) } }

/-- R103: entry to LOCKOUT: the Loop Engine loan and every site loan are returned, and PLL-S is no longer demanded. -/
def Dev.lockEnter (d : Dev) (o : Orig) : Dev :=
  let d := ((((d.loanReturn 4 0).loanDrop 4 0).preEnd).loanEnd 9).loanEnd 10
  let d := (d.pllDrop 2 2).pllDrop 2 3
  ({ d with saf := { d.saf with lockDue := none } }).setState LOCKOUT o

/-- R350: LOCKOUT follows the soft-off of the three stages, in it every channel is OFF. -/
def Dev.lockTry (d : Dev) : Dev :=
  match d.saf.lockDue with
  | some o => if d.pwm.any (fun p => p.offAt.isSome) then d else d.lockEnter o
  | none => d

/-- R103, R280, R350, R417, R479, R515: safe-off: the latch, the outputs and SAFE_LOOP, what class C4 does, and the soft-off of all three stages, before
LOCKOUT. -/
def Dev.safeOff (d : Dev) (src obj : Nat) (o : Orig) : Dev :=
  let d := (((d.latchSet src obj).loopSilence).sdoDrop true true)
  let d := if d.energy then { d with arr := { d.arr with fastFrom := some (d.arr.fastFrom.getD (if d.phase < 290 then d.beat else d.beat + 1)) } } else d
  let d := ((d.softOffs [0, 1, 2]).grpFast 0).grpFast 1
  let d := (d.colHeld).setB F.OS_STATUS.BRAKE_ON false
  let d := ({ d with arr := { d.arr with starting := false } }).disarm .loopLoan
  let d := d.disarm .startLock
  ({ d with saf := { d.saf with lockDue := some o } }).lockTry

end Sys2Proof.Machine
end

