-- ==== Sys2Proof/Machine/Flags.lean ====
section
/-! DEFINITION. Flags of the Registrar and what follows from them: latching an event with its class, status bit, incident, accession entry,
records, marker and reaction (R327, R419, R448, R476 to R500), lasting conditions (R477, R484), the ERR pair (R489), the log's tiers (R161) and the conservation
checks (R322). -/

namespace Sys2Proof.Machine

/-- R477: a condition of a source is present. -/
def Dev.isActive (d : Dev) (src : Nat) : Bool := d.reg.active.any (fun x => x.1 == src)

/-- R477: REG_SRC.ACTIVE and REG_RSW_ACTIVE of one source follow its conditions. -/
def Dev.activeSync (d : Dev) (src : Nat) : Dev :=
  let d := d.setB F.REG_SRC.ACTIVE (d.isActive src) src
  d.setFlag F.REG_RSW_ACTIVE.ACTIVE (src / 4) (d.reg.active.any (fun x => x.1 / 4 == src / 4))

/-- A lasting condition begins or ends. -/
def Dev.condOn (d : Dev) (src obj : Nat) : Dev :=
  ({ d with reg := { d.reg with active := if d.reg.active.contains (src, obj) then d.reg.active else (src, obj) :: d.reg.active } }).activeSync src
def Dev.condOff (d : Dev) (src obj : Nat) : Dev :=
  if d.reg.active.contains (src, obj) then
    ({ d with reg := { d.reg with active := d.reg.active.filter (· != (src, obj)) } }).activeSync src else d

/-- R484: the incident ends; its C2 reactions end with it, and F may rise (R278). -/
def Dev.incidentEnd (d : Dev) : Dev :=
  if d.bit F.REG_INC.RUNNING then
    let d := d.setB F.REG_INC.RUNNING false
    { d with reg := { d.reg with pinned := none, merged := [], derates := [], energy := false, rise := 0 } }
  else d

/-- R129, R484: a reaction of class C3 or above is in force. -/
def Dev.inForce (d : Dev) : Bool := d.bit F.REG_INC.RUNNING && 3 ≤ d.get F.REG_INC.CLASS

/-- R485: the accession entry of an event, folded into an earlier one where R485 says so. (DESIGN CHOICE: note 110.) -/
def Dev.aqEnter (d : Dev) (x : Event) (opened : Bool) : Dev :=
  let inc := d.bit F.REG_INC.RUNNING
  let num := if inc then d.get F.REG_INC_NUM.NUM else 0
  let same : AqEntry → Bool := fun e => e.event.source == x.source && e.event.object == x.object
  let hit : Option Nat :=
    if opened then none
    else if inc then (List.range 32).find? (fun i => match d.reg.aq.getD i none with | some e => e.incident == num && same e | none => false)
    else match d.reg.newest with
      | some i => (match d.reg.aq.getD i none with | some e => if same e then some i else none | none => none)
      | none => none
  match hit with
  | some i => { d with reg := { d.reg with aq := d.reg.aq.modify i (Option.map (fun e => { e with repeats := min 65535 (e.repeats + 1) })) } }
  | none =>
    let i := if d.reg.pinned = some d.reg.next then (d.reg.next + 1) % 32 else d.reg.next
    let d := { d with reg := { d.reg with aq := d.reg.aq.set i (some ⟨x, opened, 0, num⟩), newest := some i, next := (i + 1) % 32
                                          pinned := if opened then some i else d.reg.pinned } }
    d.inc F.REG_AQ_COUNT.COUNT 1

/-- R483: the events latched earlier in the tick that opens an incident merge into it. (DESIGN CHOICE: note 110.) -/
def Dev.earlyMerge (d : Dev) : Dev :=
  let es := if d.reg.earlyTick = d.tick then d.reg.early else []
  let num := d.get F.REG_INC_NUM.NUM
  let d := d.inc F.REG_MERGED.COUNT es.length
  let aq := es.foldl (fun (q : List (Option AqEntry)) (x : Nat × Nat × Option Nat) => match x.2.2 with
    | some i => q.modify i (Option.map (fun e => { e with incident := num, event := { e.event with merged := true } }))
    | none => q) d.reg.aq
  { d with reg := { d.reg with aq := aq, merged := d.reg.merged ++ es.map (fun x => (x.1, x.2.1)), early := [] } }

/-- R483: an event outside any incident, with the slot of the entry it wrote, is kept for the rest of its tick. -/
def Dev.earlyNote (d : Dev) (src obj : Nat) (slot : Option Nat) : Dev :=
  if d.bit F.REG_INC.RUNNING then d
  else { d with reg := { d.reg with early := (if d.reg.earlyTick = d.tick then d.reg.early else []) ++ [(src, obj, slot)], earlyTick := d.tick } }

/-- R482, R483: the incident an event opens or merges into. -/
def Dev.incidentTake (d : Dev) (src cls obj : Nat) : Dev × Bool × Bool :=
  if d.bit F.REG_INC.RUNNING then
    let d := d.inc F.REG_MERGED.COUNT 1
    let d := { d with reg := { d.reg with merged := if d.reg.merged.contains (src, obj) then d.reg.merged else (src, obj) :: d.reg.merged, lastMerge := d.tick } }
    let d := if d.get F.REG_INC.CLASS < cls then
      { d.set F.REG_INC.CLASS cls with reg := { d.reg with energy := (3 ≤ d.get F.REG_INC.CLASS && d.reg.energy) || d.energy } } else d
    (d, true, false)
  else if 2 ≤ cls then
    let d := ((d.inc F.REG_INC_NUM.NUM 1).set F.REG_INC.CLASS cls).setB F.REG_INC.RUNNING true
    let d := (d.set F.REG_INC.OPEN_SRC src).set F.REG_INC_TICK.TICK d.stamp
    (({ d with reg := { d.reg with merged := [(src, obj)], lastMerge := d.tick, energy := d.energy } }).earlyMerge, false, true)
  else (d, false, false)

/-- R484: a stop in an energy state has reached zero power, or a failed precharge LINKED. (DESIGN CHOICE: note 92.) -/
def Dev.stopReached (d : Dev) : Dev :=
  if d.bit F.REG_INC.RUNNING ∧ (d.get F.REG_INC.CLASS = 3 ∨ d.get F.REG_INC.CLASS = 4) ∧ d.reg.energy then d.incidentEnd else d

/-- R489: what the pair must show: 0 healthy, 1 a reaction, 2 LOCKOUT, 3 boot failure. -/
def Dev.errCause (d : Dev) : Nat :=
  let c := d.get F.REG_CTRL.ERR_CLASS
  if d.pwr.bootFailed then 3
  else if d.st = LOCKOUT then 2
  else if (d.bit F.REG_INC.RUNNING ∧ 2 ≤ d.get F.REG_INC.CLASS ∧ c ≤ d.get F.REG_INC.CLASS) ∨ (c ≤ 1 ∧ d.get F.REG_RSW.RSW ≠ 0) then 1
  else 0

/-- R489: the pair goes to fault with a cause, and stays there until its hold ends. (DESIGN CHOICE: note 111.) -/
def Dev.errSync (d : Dev) : Dev :=
  let c := d.errCause
  if c = 0 then d
  else
    let d := d.set F.REG_ERR.CAUSE c
    if d.bit F.REG_ERR.N && !d.bit F.REG_ERR.P then d
    else ({ (d.setB F.REG_ERR.P false).setB F.REG_ERR.N true with reg := { d.reg with errSince := some (d.tick + 1) } }).arm .errHold (msT 1 + 1)

/-- R479: the reaction of a class. Each class also does what the classes before it do. (DESIGN CHOICE: note 119.) -/
def Dev.react (d : Dev) (src cls obj factor : Nat) : Dev :=
  let d := if 2 ≤ cls ∧ d.energy ∧ (factor < 1024 ∨ src = 225) then { d with reg := { d.reg with derates := (src, factor) :: d.reg.derates } } else d
  let x := if cls = 5 then d.safeOff src obj .registrar
    else if cls = 4 then d.fastStop .registrar (src == 132)
    else if cls = 3 then d.orderlyStop .registrar
    else d
  -- R484: LINKED after a precharge that failed ends the incident; the pair has shown it (R489)
  if d.st = PRECHARGE ∧ x.st = LINKED then (x.errSync).stopReached else x

/-- R476 to R494: latch one event. The class is raised to the source's floor (R478); the stamp is the instant its source supplies (sub-ticks), or the
tick of the latch. DEV_RESET sets its REG_RSW bit and leaves the accession queue empty, as R92 gives it after a reset. (DEDUCED: note 127.) -/
def Dev.latchOnly (d : Dev) (src cls0 obj : Nat) (data : List Nat) (instant : Option Nat) (forced : Bool) : Dev :=
  let cls := max cls0 (d.get F.REG_SRC.CLASS_FLOOR src)
  let d := (d.inc F.REG_EVENTS.COUNT 1).inc F.REG_SRC_COUNT.COUNT 1 src
  let d := if 1 ≤ cls then d.setFlag F.REG_RSW.RSW (src / 4) true else d
  let (d, merged, opened) := d.incidentTake src cls obj
  let bytes := (data ++ List.replicate 12 0).take 12
  let i := d.stampAt (instant.getD (d.tick * 64))
  let x : Event := ⟨i / 64, i % 64, src, cls, merged, forced, obj, bytes⟩
  let n := d.get F.REG_AQ_COUNT.COUNT
  let d := if 1 ≤ cls then (if src = 0 ∧ !forced then d else d.aqEnter x opened).log 5 .registrar src 0 cls (d.get F.REG_MERGED.COUNT) else d
  let d := d.earlyNote src obj (if d.get F.REG_AQ_COUNT.COUNT = n then none else d.reg.newest)
  let d := d.arcMark 0x10 0 src 0 ((leBytes 4 obj ++ bytes).map Int.ofNat) 48
  let d := d.each (those 4 (fun e => (d.get F.EV_ROUTE.MASK src).testBit e)) (fun d e => d.evPut e x)
  if d.get F.ARC_CFG.TRIG_CLASS ≤ cls ∨ d.bit F.REG_SRC.TRIG src then
    d.arcTrigger src (if d.bit F.REG_INC.RUNNING then d.get F.REG_INC_NUM.NUM else 0) else d

/-- R476 to R494: latch one event, with the reaction of its class. -/
def Dev.latchEvent (d : Dev) (src cls0 obj : Nat) (data : List Nat) (instant : Option Nat) (forced : Bool) (factor : Option Nat) : Dev :=
  (d.latchOnly src cls0 obj data instant forced).react src (max cls0 (d.get F.REG_SRC.CLASS_FLOOR src)) obj (factor.getD (d.get F.REG_SRC.DERATE src))

/-- R487: the sum of REG_SRC_COUNT[0] to [255]. -/
def Dev.countSum (d : Dev) : Nat := ((d.regs.filter (fun (x : Nat × Nat) => 0xC00800 ≤ x.1 / 64 && x.1 / 64 < 0xC01000)).map Prod.snd).sum

/-- R323: promise `code` failed by `diff`. -/
def Dev.conserve (d : Dev) (code diff : Nat) : Dev :=
  (d.setFlag F.GLB_CONSERVE.FAULT (code - 1) true).latchEvent 193 (if d.energy then 4 else 1) code (leBytes 4 diff) none false none

/-- R322, R323, R487: the check of promise 7, the event counts. -/
def Dev.countCheck (d : Dev) : Dev :=
  let a := d.get F.REG_EVENTS.COUNT
  let b := d.countSum
  if a = b then d.condOff 193 7 else (d.condOn 193 7).conserve 7 (max a b - min a b)

/-- R476, R487: raise an event, and check the event counts. -/
def Dev.raise (d : Dev) (src cls obj : Nat) (data : List Nat := []) (instant : Option Nat := none) (factor : Option Nat := none) : Dev :=
  (d.latchEvent src cls obj data instant false factor).countCheck

/-- R490, R515: an event whose reaction the Detent has made already is recorded; the device stays in QUIET. (DESIGN CHOICE: note 27.) -/
def Dev.record (d : Dev) (src cls obj : Nat) (data : List Nat) : Dev := (d.latchOnly src cls obj data none false).countCheck

/-- R488, R322: one forced event, and the check of the event counts. (DESIGN CHOICE: note 60.) -/
def Dev.force (d : Dev) (src cls : Nat) : Dev := (d.latchEvent src cls 0 [] none true none).countCheck

/-- R161: the tiers of the log's back-pressure; a tier newly entered raises its event. A free count equal to a threshold, where R161 ends a tier
above it and R165 sets its flag below it, ends the tier. (DESIGN CHOICE: note 125.) -/
def Dev.logTiers (d : Dev) : Dev :=
  let d := if d.get F.VP_LOG_STATUS.FREE < 262144 then
      (if d.bit F.VP_LOG_STATUS.LOW then d else (d.setB F.VP_LOG_STATUS.LOW true).raise 20 1 0)
    else d.setB F.VP_LOG_STATUS.LOW false
  let d := d.setB F.VP_LOG_STATUS.HOLDING (d.get F.VP_LOG_STATUS.FREE < 65536)
  if d.get F.VP_LOG_STATUS.FREE < 4096 then
    (if d.bit F.VP_LOG_STATUS.FULL then d else (d.setB F.VP_LOG_STATUS.FULL true).raise 21 4 0)
  else d.setB F.VP_LOG_STATUS.FULL false

end Sys2Proof.Machine
end

