-- ==== Sys2Proof/Machine/Desk.lean ====
section
/-! DEFINITION. Time and deadlines (R2, R3, R53, R453), the Loan Desk's requests and refusals (R78, R79, R81, R84), the PLLs' demands and starts
(R65, R70), and the installation checks' outcomes (R101, R102). -/

namespace Sys2Proof.Machine

/-- R53, R2, R453: `n` ticks pass: Reserve cycles gather at 32,768 per 100,000,000 ticks, the tick count and network time advance while the main
domain runs. (DESIGN CHOICE: note 1.) -/
def Dev.elapse (d : Dev) (n : Nat) : Dev :=
  let d := if d.pwr.reserveOn then
      let a := d.pwr.rsvAcc + n * 32768
      ({ d with pwr := { d.pwr with rsvAcc := a % 100000000 } }).inc F.RSV_TIME.COUNT (a / 100000000)
    else d
  if d.live then
    let t := (d.chr.sec * 1000000000 * 2 ^ 32 + d.chr.frac) + n * d.get F.CHR_INC.INC
    { d with tick := d.tick + n, chr := { d.chr with sec := t / (1000000000 * 2 ^ 32), frac := t % (1000000000 * 2 ^ 32) } }
  else d

/-- Time passes to an instant that has not passed. (DESIGN CHOICE: note 2.) -/
def Dev.until (d : Dev) (t : Nat) : Dev := d.elapse (t - d.tick)

/-- Time passes to the next tick of a beat phase (R3); no time where that is now. (DESIGN CHOICE: note 2.) -/
def Dev.toPhase (d : Dev) (p : Nat) : Dev := d.elapse ((p + 1024 - d.phase) % 1024)

/-- R128, R319: no admitted command's effect beat starts between now and before tick `x`. -/
def Dev.ahead (d : Dev) (x : Nat) : Bool := d.rings.pend.all (fun p => decide (p.c.beat * 1024 < d.tick) || decide (x ≤ p.c.beat * 1024))

/-- Time passes to tick `x`, and `g` follows. A beat whose commands are due comes first (R319): with one before `x` the event has not come yet, and nothing
happens. (DESIGN CHOICE: notes 2, 3.) -/
def Dev.wait (d : Dev) (x : Nat) (g : Dev → Dev) : Dev := if d.ahead x then g (d.until x) else d

/-- The next tick of a beat phase comes, and `g` follows. (DESIGN CHOICE: notes 2, 3.) -/
def Dev.atPhase (d : Dev) (p : Nat) (g : Dev → Dev) : Dev := d.wait (d.tick + (p + 1024 - d.phase) % 1024) g

/-- A running deadline comes: time passes to it, it stops, and `g` follows. With no such deadline nothing happens. (DESIGN CHOICE: notes 2, 3.) -/
def Dev.fire (d : Dev) (t : Timer) (g : Dev → Dev) : Dev :=
  match d.due t with
  | some x => d.wait x (fun d => g (d.disarm t))
  | none => d

/-- R453: network time in 2^-32 ns. -/
def Dev.nt (d : Dev) : Nat := d.chr.sec * (1000000000 * 2 ^ 32) + d.chr.frac

/-! Loan requests -/

/-- R78: the order of two waiting requests: priority, REFCLK cycle of filing, operation, instance. -/
def Dev.reqBefore (d : Dev) (a b : LoanReq) : Bool :=
  let pa := d.get F.LOAN_OP_WAIT.PRIO a.op
  let pb := d.get F.LOAN_OP_WAIT.PRIO b.op
  let cycle := fun (q : LoanReq) => (q.filed - d.chr.edge0) / 4
  if pa ≠ pb then pa < pb else if cycle a ≠ cycle b then cycle a < cycle b else if a.op ≠ b.op then a.op < b.op else a.inst < b.inst

/-- R78: the request of a budget that stands first. -/
def Dev.reqFirst (d : Dev) (site : Bool) : Option LoanReq :=
  (d.loanWait.filter (fun q => isSite q.op == site)).foldl (fun m q => match m with | none => some q | some x => if d.reqBefore q x then some q else m) none

/-- R79, R551: the records of a refusal: 1 REFUSED_WAIT, 2 REFUSED_SIZE, 3 REFUSED_SUPPLY. A harmonic burst's refusal raises no event (R436). (DESIGN CHOICE: note 38.) -/
def Dev.refuseRec (d : Dev) (op inst reason : Nat) : Dev :=
  let d := (d.inc F.LOAN_OP_REFUSED.COUNT 1 op).loanLog 4 op inst (d.loanAvail (isSite op))
  if op = 7 then d else d.raise 14 1 op [inst % 256, reason]

/-- R104: the wait of START ends without PRECHARGE, and what it was granted is returned. -/
def Dev.startEnd (d : Dev) : Dev :=
  if d.arr.starting then
    let d := { d with arr := { d.arr with starting := false } }
    let d := (((d.loanReturn 4 0).loanDrop 4 0).pllDrop 2 2).disarm .startLock |>.disarm .loopLoan
    -- a start of PLL-S that still waits for its loan is withdrawn with its last demand
    if (d.clk.demand.getD 2 []).isEmpty ∧ !d.bit F.PLL_CTRL.FORCE_ON 2 then (d.loanDrop 2 0).setB F.PLL_STATUS.LOAN_WAIT false 2 else d
  else d

/-- R107: a string's precharge fails in a phase. (DESIGN CHOICE: note 91.) -/
def Dev.preFail (d : Dev) (s phase : Nat) : Dev := (d.prePhase s 7).raise 72 3 s [phase]

/-- R77: what follows from a refusal, by operation. An LPDDR5 exit is filed again at once (R77); with LOAN_OP_WAIT[0].WAIT_MS at 0 that request would
be refused again in the same instant (R79), without end: the model lets it wait. (DESIGN CHOICE: notes 33, 38, 125.) -/
def Dev.refuseEffect (d : Dev) (op inst reason : Nat) : Dev :=
  match op with
  | 0 => if d.pwr.saveWin then d else ({ d with loanWait := d.loanWait ++ [(⟨0, inst, d.get F.LOAN_OP_COST.COST 0, d.tick⟩ : LoanReq)] }).waitSync
  | 2 => (d.setB F.PLL_STATUS.LOAN_WAIT false 2).startEnd
  | 4 => d.startEnd
  | 6 => match d.reg.dump with
    | some (_, _, _, image) => ({ d with reg := { d.reg with dump := none } }).raise 197 0 image [1]
    | none => d
  | 7 => ({ d with met := { d.met with waiting := none } }).inc F.MET_HARM_SKIPPED.COUNT 1
  | 8 => d.preFail inst 1
  | 9 => if d.get F.GRP_STATUS.STATE inst = 1 then d.set F.GRP_STATUS.STATE 0 inst else d
  | 10 => (if d.get F.COL_STATUS.STATE = 1 then (d.set F.COL_STATUS.STATE 0).pllDrop 2 3 else d).raise 146 1 0 [reason]
  | 1 => d.setB F.PLL_STATUS.LOAN_WAIT false 1
  | 3 => d.setB F.PLL_STATUS.LOAN_WAIT false 3
  | _ => d

/-- R79: a refusal and what follows. -/
def Dev.refuse (d : Dev) (op inst reason : Nat) : Dev := (d.refuseRec op inst reason).refuseEffect op inst reason

/-- R78, R79, R84: file a request for an operation's cost: refused at once in the save window, beyond the budget, or with WAIT_MS 0 where it
is not granted at filing; otherwise it waits for its grant. (DESIGN CHOICE: note 37.) -/
def Dev.loanFile (d : Dev) (op inst : Nat) : Dev :=
  let cost := d.get F.LOAN_OP_COST.COST op
  if d.pwr.saveWin then d.refuse op inst 3
  else if d.loanBudget (isSite op) < cost then d.refuse op inst 2
  else
    let d := ({ d with loanWait := d.loanWait ++ [(⟨op, inst, cost, d.tick⟩ : LoanReq)] }).waitSync
    let mine := d.reqFirst (isSite op) == some ⟨op, inst, cost, d.tick⟩ && cost ≤ d.loanAvail (isSite op)
    if d.get F.LOAN_OP_WAIT.WAIT_MS op = 0 ∧ !mine then (d.loanDrop op inst).refuse op inst 1 else d

/-! PLLs: 0 PLL-C, 1 PLL-T, 2 PLL-S, 3 PLL-E. Operation p starts PLL p (R77). -/

/-- R65: the PLL runs or is starting. -/
def Dev.pllBusy (d : Dev) (p : Nat) : Bool :=
  d.bit F.PLL_STATUS.LOCKED p || d.clk.starting.getD p false || d.bit F.PLL_STATUS.LOAN_WAIT p

/-- R65, R70: a start files its loan, unless the PLL runs, stays stopped, or a lost flag is still set. (DESIGN CHOICE: note 33.) -/
def Dev.pllAsk (d : Dev) (p : Nat) : Dev :=
  let d := d.disarm (.pllStop p)
  if p = 0 || d.pllBusy p || d.clk.dead.getD p false || d.bit F.PLL_STATUS.LOCK_LOST p || d.bit F.PLL_STATUS.REF_LOST p then d
  else (d.setB F.PLL_STATUS.LOAN_WAIT true p).loanFile p 0

/-- R65: a user demands a PLL. -/
def Dev.pllDemand (d : Dev) (p user : Nat) : Dev :=
  let u := d.clk.demand.getD p []
  let d := { d with clk := { d.clk with demand := d.clk.demand.set p (if u.contains user then u else user :: u) } }
  (d.setB F.PLL_STATUS.DEMAND true p).pllAsk p

/-- R66: time passes to the next REFCLK edge, where the tick count moves from one clock to the other. -/
def Dev.toEdge (d : Dev) : Dev := d.elapse ((4 - (d.tick - d.chr.edge0) % 4) % 4)

/-- R65, R66, R451: a PLL stops; with PLL-T running the Chronometer stamps at full resolution. -/
def Dev.pllOff (d : Dev) (p : Nat) : Dev :=
  let d := if p = 1 ∧ d.bit F.CHR_STATE.FULL_RES then d.toEdge else d
  let d := (d.setB F.PLL_STATUS.LOCKED false p).disarm (.pllStop p)
  let d := { d with clk := { d.clk with starting := d.clk.starting.set p false } }
  let d := (d.setB F.PLL_STATUS.LOAN_WAIT false p).loanDrop p 0
  let d := d.loanReturn p 0
  if p = 1 then d.setB F.CHR_STATE.FULL_RES false else d

/-! The LPDDR5 (R77) and the end of a step -/

/-- R77: an access that waits in self-refresh has filed the exit request. (DESIGN CHOICE: note 36.) -/
def Dev.lpddrAsk (d : Dev) : Dev :=
  if !d.clk.lpddrAwake && !d.clk.lpddrExiting && d.clk.lpddrWait != 0 && !d.pwr.saveWin && !(d.loanWait.any (fun q => q.op == 0)) then d.loanFile 0 0 else d

/-- R285: ARR_STATE.MODE: 0 blocked, 1 precharge, 2 run, 3 ramping to a stop, 4 held at zero power, 5 fast stopped. -/
def Dev.arrMode (d : Dev) : Dev :=
  d.set F.ARR_STATE.MODE (if d.st = PRECHARGE then 1 else if d.st = RUN then 2
    else if d.st = STOP then (if d.arr.fastFrom.isSome then 5 else if d.arr.zeroPower then 4 else 3) else 0)

/-- R322, R323: promise 3: loans outstanding plus available equal each budget. -/
def Dev.loanCheck (d : Dev) : Dev :=
  let gap := fun (b o : Nat) => max b o - min b o
  let n := max (gap (d.get F.LOAN_CHIP.BUDGET) (d.get F.LOAN_CHIP_STATE.OUT + d.get F.LOAN_CHIP_STATE.AVAIL))
    (gap (d.get F.LOAN_SITE.BUDGET) (d.get F.LOAN_SITE_STATE.OUT + d.get F.LOAN_SITE_STATE.AVAIL))
  if n = 0 then d.condOff 193 3
  else if d.reg.active.contains (193, 3) then d
  else (({ d with reg := { d.reg with loanStop := true } }).condOn 193 3).conserve 3 n

/-- R513: a part of the island (0 the Curator core, 1 the Detent) whose first intervals have passed is healthy. -/
def Dev.healthOf (d : Dev) (p : Nat) : Dev :=
  match d.saf.health.getD p none with
  | some t => if t ≤ d.tick then
      { d.setB (if p = 0 then F.SAF_STATE.CURATOR_OK else F.SAF_STATE.DETENT_OK) true with saf := { d.saf with health := d.saf.health.set p none } } else d
  | none => d

/-- What stands at the end of every step of the main domain: the anchor being written, the island's health, the log's tiers, the LPDDR5, the ERR pair and the array's mode. (DESIGN CHOICE: note 122.) -/
def Dev.settle (d : Dev) : Dev := if d.live then (((((((d.anchorFlush).healthOf 0).healthOf 1).logTiers).lpddrAsk).loanCheck).errSync).arrMode else d

/-- The outcome of a command: the block changed, the queue as it is. (DESIGN CHOICE: note 122.) -/
def done (s : State) (d : Dev) : Host.Outcome State Fault Refusal := .next { s with dev := d.settle }

/-- A command that the main domain must be running for; otherwise the event does not occur. (DESIGN CHOICE: notes 3, 122.) -/
def onMain (s : State) (f : Dev → Dev) : Host.Outcome State Fault Refusal :=
  if s.dev.live then done s (f s.dev) else .next s

/-- A command that the Reserve domain must be running for. (DESIGN CHOICE: notes 3, 122.) -/
def onReserve (s : State) (f : Dev → Dev) : Host.Outcome State Fault Refusal :=
  if s.dev.pwr.reserveOn then done s (f s.dev) else .next s

/-! Installation checks (R100 to R102) -/

/-- R101: GLB_STAGE_FAIL and GLB_STAGE_LANES show the failures that stand, the first first. COUNT counts each check that fails on an object; the spec
does not say how often an object that fails two checks counts. (DESIGN CHOICE: note 125.) -/
def Dev.failSync (d : Dev) : Dev :=
  let l := d.arr.fails
  let d := ((d.set F.GLB_STAGE_FAIL.CODE (l.headD (0, 0)).1).set F.GLB_STAGE_FAIL.OBJECT (l.headD (0, 0)).2).set F.GLB_STAGE_FAIL.COUNT (min 255 l.length)
  d.each (List.range 3) (fun d w => d.set F.GLB_STAGE_LANES.FAILED
    ((those 32 (fun b => l.any (fun x => 16 ≤ x.1 && x.1 ≤ 20 && x.2 == 32 * w + b))).foldl (fun a b => a + 2 ^ b) 0) w)

/-- R193, R77: at entry to STAGED each group with a declared lane files a training loan, unless it holds one or one waits. -/
def Dev.groupFile (d : Dev) : Dev :=
  d.each (those 12 (fun g => (List.range 8).any (fun j => d.bit F.LANE_CTRL.DECLARED (8 * g + j)))) (fun d g =>
    if d.hasLoan 5 g || d.loanWait.any (fun q => q.op == 5 && q.inst == g) then d else d.loanFile 5 g)

/-- R100: the checks 21 to 26, and the lanes', that fail at this instant on what the block has seen: (check, object). A check whose input has not been
seen yet neither passes nor fails. (DESIGN CHOICE: note 88.) -/
def Dev.standing (d : Dev) : List (Nat × Nat) :=
  let at_ := fun (c : Nat) (l : List Nat) => l.map (fun n => (c, n))
  let lanes := (those 96 (fun k => d.bit F.LANE_CTRL.DECLARED k && d.get F.LANE_STATUS.STATE k != 5)).flatMap fun k =>
    let l := unit d.lanes k
    let dark := l.los || l.prsHigh
    if l.lost then [(if dark then 16 else 17, k)]
    else if d.bit F.LANE_STATUS.HELD k then [(if d.get F.LANE_STATUS.FAIL k ≠ 0 then d.get F.LANE_STATUS.FAIL k else 17, k)]
    else if d.st ≠ LINKED then []
    else if dark then (if (d.due (.xcvr k)).all (fun t => decide (t ≤ d.tick)) then [(16, k)] else [])
    else [(17, k)]
  let h := d.get F.HALL_STATUS.STATE
  lanes
    ++ at_ 21 (those 32 (fun x => if d.bit F.GD_CFG.DECLARED x then
        d.bit F.GD_STATUS.UV_NEG x || d.bit F.GD_STATUS.CARRIER_LOST x || (d.bit F.GD_STATUS.UV_POS x && !d.bit F.GD_CFG.BOOTSTRAP x)
      else d.os.undeclared.any (fun u => u.1 == x)))
    ++ at_ 22 (those 16 (fun m => d.bit F.SNS_DECL.DECLARED m && d.flag F.OS_SENSE_LOST.LOST m))
    ++ (if d.get F.COL_CFG.KIND ≠ 0 ∧ (h = 0 ∨ h = 7) then [(23, 0)] else [])
    ++ (if d.get F.COL_CFG.KIND ≠ 0 ∧ d.get F.COL_CFG.ENC2_MODE = 2 ∧ 3 ≤ d.col.badSsi then [(23, 2)] else [])
    ++ at_ 24 (those 16 (fun m => d.bit F.MET_CH_CFG.DECLARED m && (unit d.metCh m).lostNow))
    ++ at_ 25 (those 32 (fun n => d.bit F.HK_SET_CFG.DECLARED n && (unit d.hk.points n).seen && (unit d.hk.points n).invalid))
    ++ at_ 26 (those 8 (fun n => d.bit F.SAF_PAIR_CFG.DECLARED n
      && d.saf.pairs.any (fun l => (unit l n).fault || (unit l n).chatter)))

/-- R101, R102: a check fails on an object: shown, one event per episode, and LINKED returns to STAGED, where a START that waits ends (R104). -/
def Dev.checkFail (d : Dev) (code obj : Nat) : Dev :=
  if (d.st = STAGED ∨ d.st = LINKED) ∧ !d.arr.fails.contains (code, obj) then
    let d := ({ d with arr := { d.arr with fails := d.arr.fails ++ [(code, obj)] } }).failSync
    let d := (d.raise 6 1 obj [code]).cond (16 ≤ code && code ≤ 20) (fun d => d.set F.LANE_STATUS.FAIL code obj)
    if d.st = LINKED then ((d.startEnd).setState STAGED).groupFile else d
  else d

/-- R101: a check passes again on an object. -/
def Dev.checkPass (d : Dev) (code obj : Nat) : Dev :=
  if d.arr.fails.contains (code, obj) then ({ d with arr := { d.arr with fails := d.arr.fails.filter (· != (code, obj)) } }).failSync else d

/-- R101, R102: in STAGED and LINKED the checks run again and again: what stands as failed is shown. -/
def Dev.checksNow (d : Dev) : Dev := d.each d.standing (fun d x => d.checkFail x.1 x.2)

/-- R103: on the way from LOCKOUT to STAGED every check runs again: a failure that no longer stands passes. -/
def Dev.checksAgain (d : Dev) : Dev :=
  let l := d.standing
  (d.each (d.arr.fails.filter (fun x => !l.contains x && (21 ≤ x.1 || d.get F.LANE_STATUS.STATE x.2 == 5))) (fun d x => d.checkPass x.1 x.2)).checksNow

/-- A check that must hold: failed where it does not, passed where it does. -/
def Dev.check (d : Dev) (code obj : Nat) (ok : Bool) : Dev := if ok then d.checkPass code obj else d.checkFail code obj

end Sys2Proof.Machine
end

