-- ==== Sys2Proof/Machine/Operands.lean ====
section
/-! DEFINITION. Operand forms of a host access: which fields an offset addresses (R540, R547, R548), what a 32-bit word reads as, with the windows
that no register field holds (R165, R450, R486, R549), and which values a field admits (R9, R543, the register tables). -/

namespace Sys2Proof.Machine

/-- The element of a field at a BAR0 word offset, and whether the word is the high one of a 64-bit register. -/
def Fld.at? (f : Fld) (off : Nat) : Option (Nat × Nat × Nat × Bool) :=
  if off < f.base then none else
  let r := off - f.base
  let a := if f.n1 = 1 then 0 else r / f.s1
  let r := if f.n1 = 1 then r else r % f.s1
  let b := if f.n2 = 1 then 0 else r / f.s2
  let r := if f.n2 = 1 then r else r % f.s2
  let c := if f.n3 = 1 then 0 else r / f.s3
  let r := if f.n3 = 1 then r else r % f.s3
  if a < f.n1 ∧ b < f.n2 ∧ c < f.n3 then
    (if r = 0 then some (a, b, c, false) else if f.wide ∧ r = 4 then some (a, b, c, true) else none) else none

/-- The fields of the register a word offset lies in. -/
def fieldsAt (off : Nat) : List (Fld × Nat × Nat × Nat × Bool) := allFields.filterMap (fun f => (f.at? off).map (fun x => (f, x)))

/-- A 32-bit word of a list of bytes. -/
def wordOf (bs : List Nat) (o : Nat) : Nat := ofLe ((bs.drop o).take 4)

/-- Every 4 bytes as a word. -/
def wordsOf : List Nat → List Nat
  | a :: b :: c :: d :: r => ofLe [a, b, c, d] :: wordsOf r
  | _ => []

/-- R160: the 64 bytes of an anchor. -/
def Anchor.bytes (a : Anchor) : List Nat :=
  let b := leBytes 8 a.seq ++ leBytes 8 a.tick ++ chainBytes a.h ++ leBytes 4 a.boot ++ [a.type] ++ List.replicate 7 0
  b ++ leBytes 4 (crc32 b)

/-- R486: the 32 bytes of an accession entry. -/
def AqEntry.bytes (e : AqEntry) : List Nat :=
  let x := e.event
  leBytes 8 x.tick ++ leBytes 4 (x.sub % 64 + x.source % 256 * 2 ^ 8 + x.cls % 8 * 2 ^ 16 + b2n x.merged * 2 ^ 19 + b2n x.forced * 2 ^ 20 + b2n e.opened * 2 ^ 21)
    ++ leBytes 4 (e.repeats % 65536) ++ leBytes 4 e.incident ++ leBytes 4 x.object ++ x.data.take 8

/-- R440: the 128 bytes of an interval record. -/
def MetRec.bytes (m : MetRec) : List Nat :=
  let v := m.interval
  let b := leBytes 8 (v.start / 64) ++ leBytes 8 (v.stop / 64) ++ leBytes 8 m.imp ++ leBytes 8 m.exp ++ ((List.range 4).flatMap (fun j => leBytes 8 (m.q.getD j 0)))
    ++ leBytes 4 v.nImp ++ leBytes 4 v.nExp ++ leBytes 4 v.nNoload ++ leBytes 4 v.nGap ++ leBytes 8 m.seq
    ++ leBytes 4 (v.flags % 65536 + m.element % 8 * 65536) ++ leBytes 4 (v.start % 64 + v.stop % 64 * 256)
    ++ leBytes 8 (if v.flags.testBit 1 then v.gapStart / 64 else 0) ++ List.replicate 20 0
  b ++ leBytes 4 (crc32 b)

/-- R165, R450, R486: a word of a window that no register field holds; the ledger window is another address of Array Engine registers (R549). (DESIGN CHOICE: note 52.) -/
def Dev.windowWord (d : Dev) (off : Nat) : Option Nat :=
  if off = F.OS_LINK.I_LINK.base ∧ d.os.linkAt ≤ d.tick ∧ d.tick < d.os.linkAt + 8 then some d.os.linkWas
  else if 0xD00100 ≤ off ∧ off < 0xD00200 ∧ off % 0x20 = 8 then
    -- R523: the transitions of the last 2·T_DISC at this instant
    let n := (off - 0xD00100) / 0x20
    let tr := (unit (unit d.saf.pairs 1) n).trans.filter (fun t => decide (d.tick < t + 200000 * d.get F.SAF_PAIR_CFG.T_DISC n))
    some (d.get F.SAF_PAIR_STATUS.A n + 2 * d.get F.SAF_PAIR_STATUS.B n + 4 * d.get F.SAF_PAIR_STATUS.DEMAND n + 8 * d.get F.SAF_PAIR_STATUS.WINDOW n
      + 16 * d.get F.SAF_PAIR_STATUS.DISC_FAULT n + 32 * d.get F.SAF_PAIR_STATUS.CHATTER n + 64 * d.get F.SAF_PAIR_STATUS.C_DEMAND n + 256 * min 7 tr.length)
  else if 0x301000 ≤ off ∧ off < 0x311000 then
    let a := (off - 0x301000) / 0x40
    some (match d.mram.blockRing[(d.mram.blockAt + 1023 - a) % 1024]? with | some x => wordOf x.bytes ((off - 0x301000) % 0x40) | none => 0)
  else if 0x311000 ≤ off ∧ off < 0x312000 then
    let a := (off - 0x311000) / 0x40
    some (match d.mram.eventRing[(d.mram.eventAt + 63 - a) % 64]? with | some x => wordOf x.bytes ((off - 0x311000) % 0x40) | none => 0)
  else if 0xC01000 ≤ off ∧ off < 0xC01400 then
    some (match d.reg.aq.getD ((off - 0xC01000) / 0x20) none with | some x => wordOf x.bytes ((off - 0xC01000) % 0x20) | none => 0)
  else if 0x1800000 ≤ off ∧ off < 0x1840000 then
    let e := (off - 0x1800000) / 0x8000
    let slot := (off - 0x1800000) % 0x8000 / 0x80
    some (match (d.met.records.getD e []).find? (fun m => m.seq % 256 == slot) with | some m => wordOf m.bytes (off % 0x80) | none => 0)
  else if 0x1900000 ≤ off ∧ off < 0x1902000 then
    let e := (off - 0x1900000) / 0x400
    let r := (off - 0x1900000) % 0x400
    some (match d.met.harmonics.find? (fun x => x.1 == e && x.2.1 == r % 0x200 / 4) with
      | some (_, _, v, i) => if r < 0x200 then v else i
      | none => 0)
  else none

/-- R549: the address of the storage an offset reaches. -/
def aliasOff (off : Nat) : Nat :=
  if 0x1400000 ≤ off ∧ off < 0x1401800 then 0x510010 + 0x400 * ((off - 0x1400000) / 0x40) + (off - 0x1400000) % 0x40 else off

/-- A 32-bit word of BAR0 as either view reads it; unused offsets and reserved bits read 0 (R7, R541). -/
def Dev.readWord (d : Dev) (off0 : Nat) : Nat :=
  match d.windowWord off0 with
  | some w => w
  | none => (fieldsAt (aliasOff off0)).foldl (fun w (x : Fld × Nat × Nat × Nat × Bool) =>
      let v := d.get x.1 x.2.1 x.2.2.1 x.2.2.2.1 * 2 ^ x.1.lo
      w ||| (if x.2.2.2.2 then (v / 2 ^ 32) % 2 ^ 32 else v % 2 ^ 32)) 0

/-- R89: a device whose boot failed offers only the global block, and the rings that FW_UPDATE needs. (DESIGN CHOICE: note 28.) -/
def Dev.offers (d : Dev) (off : Nat) : Bool := !d.pwr.bootFailed || off < 0x100000 || (0x200000 ≤ off && off < 0x300000)

/-- A 32-bit word of BAR0 as a host read finds it. -/
def Dev.hostWord (d : Dev) (off : Nat) : Nat := if d.offers off then d.readWord off else 0

/-- R541: an offset that a register table defines. -/
def isUsed (off : Nat) : Bool :=
  !(fieldsAt (aliasOff off)).isEmpty || (0x301000 ≤ off && off < 0x312000) || (0xC01000 ≤ off && off < 0xC01400)
    || (0x1800000 ≤ off && off < 0x1840000) || (0x1900000 ≤ off && off < 0x1902000)

/-- R541: 64-bit registers with writable fields in both words. -/
def isHeld (base : Nat) : Bool :=
  (0x201000 ≤ base && base < 0x201B00 && (base % 0x40 == 0 || base % 0x40 == 8)) || base == 0x100030 || base == F.ARR_RESID_LIM.LIM.base
    || base == F.CHR_SET_SEC.SEC.base || base == F.CHR_SET_AT.TICK.base || base == F.ETH_MAC.MAC.base || base == F.ETH_MAC.MAC.base + F.ETH_MAC.MAC.s1

/-- Values outside the range are refused, as the field's table says. -/
def refuseRange : List (Fld × Nat × Nat) :=
  [(F.RSV_CTRL.PLLC_REF, 0, 2), (F.PLL_CTRL.REF_MODE, 0, 2), (F.xQ_CTRL.LOG2SIZE, 6, 16), (F.STRM_DEC.DECIM, 1, 65535), (F.LANE_CTRL.XCVR_CLASS, 0, 2),
   (F.ARR_CTRL.CARRIER_BEATS, 1, 8), (F.ARR_HOP_LFSR.STATE, 1, 65535), (F.SLOT_CFG.OWNER, 0, 3), (F.HALL_CFG.SHIFT, 0, 5), (F.GD_REFRESH.K, 1, 255)] ++
  [(F.COL_CFG.KIND, 0, 2), (F.COL_CFG.ENC2_MODE, 0, 2), (F.COL_XCHK.DEN, 1, 65535), (F.CHR_SERVO.SOURCE, 0, 4), (F.REG_CTRL.ERR_CLASS, 1, 5),
   (F.REG_SRC.CLASS_FLOOR, 0, 4), (F.REG_SRC.DERATE, 0, 1024), (F.ARC_CFG.TRIG_CLASS, 1, 5), (F.ARC_CFG.POST_BEATS, 0, 97656), (F.ARC_DUMP.MBPS, 100, 6000),
   (F.HK_CTRL.RATE_ROUNDS, 3, 15)]

/-- Ranges that the register tables state and a Catalogue must keep (check 6 of R96), beside those of `refuseRange`. -/
def statedRange : List (Fld × Nat × Nat) :=
  [(F.ARR_DAB_LIM.PS_MAX, 0, 500), (F.ARR_LEDGER.RESID_K, 8, 16), (F.SLOT_CFG.MEMBERS, 0, 7), (F.OS_SENSE.SENSE_BEATS, 1, 255),
   (F.GRP_SHED.N_MIN, 1, 12), (F.GRP_BURST.BURST_PERIODS, 1, 255), (F.GRP_OPEN.OPEN_PERIODS, 1, 255), (F.PWM_STAGGER.STAGGER, 1, 65535),
   (F.COL_DRIVE.U_MAX, 0, 1000), (F.SSI_CFG.BITS, 8, 31), (F.SSI_CFG.DIV, 20, 255), (F.MET_CTRL.INTERVAL, 1, 3600), (F.HK_CTRL.VOTE_ROUNDS, 1, 255),
   (F.HK_SET_CFG.DERATE_MIN, 0, 1024), (F.HK_SET_CFG.GROUP, 0, 30), (F.RSV_VWARN.CODE, 0, 253)]

/-- R550: sources that are reserved. -/
def reservedSrc (n : Nat) : Bool :=
  n == 15 || (24 ≤ n && n ≤ 31) || (40 ≤ n && n ≤ 63) || (73 ≤ n && n ≤ 95) || (98 ≤ n && n ≤ 103) || (112 ≤ n && n ≤ 127) || (133 ≤ n && n ≤ 143)
    || (152 ≤ n && n ≤ 159) || (166 ≤ n && n ≤ 175) || (182 ≤ n && n ≤ 191) || (199 ≤ n && n ≤ 207) || (218 ≤ n && n ≤ 223) || (231 ≤ n && n ≤ 255)

/-- R481: sources whose DERATE is read-only at 1,024. -/
def derateFixed (n : Nat) : Bool := (104 ≤ n && n ≤ 106) || (148 ≤ n && n ≤ 150)

/-- A value stored otherwise than written, as the field's table says. -/
def storedAs (f : Fld) (v : Nat) : Nat :=
  if f = F.RSV_CATP.THRESH then min 180 v
  else if f = F.RSV_VWARN.CODE then min 253 v
  else if f = F.HOST_WD.CLASS then max 1 (min 4 v)
  else if f = F.MSIX_MOD.HOLDOFF then min 1000 v
  else if f = F.LANE_FB.UNCORR_LIM then max 1 v
  else v

/-- A value lies in the ranges of a list. -/
def inRange (l : List (Fld × Nat × Nat)) (f : Fld) (v : Nat) : Bool := l.all (fun x => x.1 != f || (x.2.1 ≤ v && v ≤ x.2.2))

/-- R12, R328: the saturating 32-bit counters. -/
def saturating : List Fld :=
  [F.CELL_DROPPED.COUNT, F.CELL_FILLED.COUNT, F.SLOT_LIMCNT.COUNT, F.PW_DROP.COUNT, F.PW_STRETCH.COUNT, F.GD_BLANKED.COUNT]

/-- R12: every saturating counter restarts at 0. -/
def Dev.satClear (d : Dev) : Dev :=
  d.each saturating (fun d f => d.each (List.range f.n1) (fun d a => d.set f 0 a))

end Sys2Proof.Machine
end

