-- ==== Sys2Proof/Machine/Pwm.lean ====
section
/-! DEFINITION. PWM channels and gate channels (R358 to R395): periods, compares, dead time, short pulses, bootstrap refresh, forces, trips,
soft-off, the status carrier and its lock-outs, and the commutation of the actuator. -/

namespace Sys2Proof.Machine

/-! Levels (R365, R369) -/

/-- R358, R377, R385: the channel stays OFF whatever the generator or a force asks. -/
def Dev.pwBlocked (d : Dev) (c : Nat) : Bool :=
  let s := d.stageOf c
  s == 3 || d.bit F.PWM_STAGE.HELD s || d.bit F.GD_STATUS.LOCKED (d.gateOf c) || (s == 0 && !d.flag F.OS_CTRL.PHASE_DECL (c / 2))

/-- An ordinary turn-off by the generator; a running soft-off and a force stand above it (R369). -/
def Dev.pwOff (d : Dev) (c : Nat) : Dev :=
  if d.bit F.PW_STATUS.FORCED c || d.bit F.PWM_STAGE.HELD (d.stageOf c) then d
  else (if d.get F.PW_STATUS.LEVEL c = 0 then d else d.level c 0).pw c (fun p => { p with wait := none })

/-- R357: PH_STATUS of a phase that is declared is at least 5, of any other 0. -/
def Dev.phSync (d : Dev) (all : Bool) : Dev :=
  d.each (List.range 12) (fun d k =>
    if all || !d.flag F.OS_CTRL.PHASE_DECL k then d.set F.PH_STATUS.STATE 0 k
    else if d.get F.PH_STATUS.STATE k = 0 then d.set F.PH_STATUS.STATE 5 k else d)

/-- R20, R358: a channel without a function, or that serves a phase that is not declared, or any phase while no Catalogue is loaded (`all`), goes OFF,
whatever forces it. -/
def Dev.offUndeclared (d : Dev) (all : Bool) : Dev :=
  (d.phSync all).each (those 32 (fun c => (d.stageOf c == 3 || (d.stageOf c == 0 && (all || !d.flag F.OS_CTRL.PHASE_DECL (c / 2)))) && d.get F.PW_STATUS.LEVEL c != 0)) (fun d c =>
    (d.level c 0).pw c (fun p => { p with wait := none }))

/-- R374, R376: what a trip or lock-out does to stages beyond the Registrar's reaction. -/
def Dev.stagesTrip (d : Dev) (ss : List Nat) : Dev :=
  (d.softOffs ss).cond (ss.contains 2) (·.colHeld)
def Dev.stageTrip (d : Dev) (s : Nat) : Dev := d.stagesTrip (if 3 ≤ s then [] else [s])

/-- The PWM channel that drives a gate channel (R359). -/
def Dev.chanOf (d : Dev) (x : Nat) : Option Nat := (List.range 32).find? (fun c => d.stageOf c < 3 && d.gateOf c == x)

/-- R370, R372: a trip of a gate channel acts, with the instant of its first assertion. -/
def Dev.gdAct (d : Dev) (x instant : Nat) : Dev :=
  let d := (d.setB F.GD_STATUS.TRIP true x).setB F.GD_STATUS.PENDING false x
  let i := d.stampAt instant
  let d := (d.set F.GD_TRIP_TICK.SUBTICK (i % 64) x).set F.GD_TRIP_TICK.TICK (i / 64) x
  let d := d.inc F.GD_TRIP_COUNT.COUNT 1 x
  let d := match d.chanOf x with | some c => d.stageTrip (d.stageOf c) | none => d
  d.raise 128 4 x (leBytes 4 (i / 64)) (some instant)

/-- A channel comes to a level now, if nothing above holds it off; its trip input, active already, acts at once where no blanking window opens (R370,
R371). -/
def Dev.pwRise (d : Dev) (c l : Nat) : Dev :=
  let d := d.pw c (fun p => { p with wait := none })
  let free := match d.partner c with | some q => d.get F.PW_STATUS.LEVEL q == 0 | none => true
  if d.pwBlocked c || !free then d
  else
    let d := d.level c l
    let d := if d.bit F.GD_STATUS.T_ACTIVE (d.gateOf c) && (d.due (.blank (d.gateOf c))).isNone then
        d.gdAct (d.gateOf c) (unit d.gates (d.gateOf c)).pendTick else d
    let x := d.gateOf (c / 2 * 2)
    -- R386: a proving frame starts T_REFRESH after the complement of an unproven pair turned on
    if c % 2 = 1 ∧ l = 3 ∧ d.bit F.GD_STATUS.UNPROVEN x then d.gd x (fun g => { g with compOn := some ((d.now + d.osSpan (d.get F.GD_REFRESH.T_REFRESH x) + 63) / 64) }) else d

/-- R365: the dead time of a pair runs from this instant; `c` waits for its end where it is to come to level `l`. -/
def Dev.deadStart (d : Dev) (c : Nat) (l : Option Nat) : Dev :=
  let e := c / 2 * 2
  let t := d.now + d.osSpan (d.get F.PW_DT.DEADTIME e)
  (((d.setB F.PW_STATUS.DEAD true e).setB F.PW_STATUS.DEAD true (e + 1)).pw c (fun p => { p with wait := l, waitAt := t })).arm (.dead e) (t / 64 - d.tick)

/-- R365: the generator wants channel `c` ON: its partner goes off at the edge, and `c` follows DEADTIME sub-ticks after it. -/
def Dev.pwOn (d : Dev) (c : Nat) : Dev :=
  if d.get F.PW_STATUS.LEVEL c = 3 ∨ d.bit F.PW_STATUS.FORCED c ∨ (unit d.pwm c).wait = some 3 then d
  else match d.partner c with
    | none => d.pwRise c 3
    | some q =>
      let d := d.pwOff q
      if d.get F.PW_STATUS.LEVEL q ≠ 0 ∨ d.pwBlocked c then d
      else if d.get F.PW_DT.DEADTIME (c / 2 * 2) = 0 then d.pwRise c 3
      else d.deadStart c (some 3)

/-- R388: position of a Hall state in the forward order, and the source and sink legs of a step (R388). -/
def hallPos (h : Nat) : Nat := ([1, 3, 2, 6, 4, 5].findIdx? (· == h)).getD 6
def legs (step : Nat) (rev : Bool) : Nat × Nat :=
  let x := ([(0, 1), (0, 2), (1, 2), (1, 0), (2, 0), (2, 1)] : List (Nat × Nat)).getD step (0, 1)
  if rev then (x.2, x.1) else x

/-- R389: role of leg `l`: 1 source, 2 sink, 0 none. -/
def Dev.role (d : Dev) (l : Nat) : Nat :=
  let p := hallPos (d.get F.HALL_STATUS.STATE)
  if p = 6 then 0 else
  let x := legs ((p + d.get F.HALL_CFG.SHIFT) % 6) (d.bit F.HALL_STATUS.DIR)
  if x.1 = l then 1 else if x.2 = l then 2 else 0

/-- What the generator asks of the pair of even channel `e`: 1 primary, 2 complement, 0 neither (R362, R338, R343, R389). -/
def Dev.pwWant (d : Dev) (e : Nat) : Nat :=
  let p := unit d.pwm e
  let gen := if p.cmpDone || p.cut then 2 else 1
  if p.length = 0 || p.hold then 0
  else if d.stageOf e = 0 then
    let k := e / 2
    let g := if d.flag F.OS_CTRL.GROUP_B k then 1 else 0
    let s := d.get F.GRP_STATUS.STATE g
    if (d.get F.PH_STATUS.STATE k = 1 ∨ (unit d.phases k).ending) ∧ 2 ≤ s ∧ s ≤ 5 ∧ !d.bit F.GRP_STATUS.BURST_SLEEP g then gen else 0
  else if d.stageOf e = 2 ∧ 26 ≤ e then (match d.role ((e - 26) / 2) with | 1 => gen | 2 => 2 | _ => 0)
  else 0

/-- R352: what the brake asks of a channel of the chopper. -/
def Dev.brakeWants (d : Dev) (c : Nat) : Bool := d.stageOf c == 1 && d.bit F.OS_STATUS.BRAKE_ON && (c == 24 || (c == 25 && d.bit F.OS_CTRL.BRAKE_DUAL))

/-- Bring a pair to what the generator asks. -/
def Dev.pwDrive (d : Dev) (e : Nat) : Dev :=
  match d.pwWant e with
  | 1 => d.pwOn e
  | 2 => (match d.partner e with | some q => d.pwOn q | none => d.pwOff e)
  | _ => (d.pwOff e).pwOff (e + 1)

/-! Period boundaries (R361 to R367, R378) -/

/-- R378: a timing event of a channel: kind 0 zero, 1 period, 2 compare; every PRESC + 1-th is delivered. (DESIGN CHOICE: note 93.) -/
def Dev.pwEvent (d : Dev) (c kind sub : Nat) : Dev :=
  let en := if kind = 0 then d.bit F.PW_EVT.ZERO c else if kind = 1 then d.bit F.PW_EVT.PERIOD c else d.bit F.PW_EVT.CMP c
  if !en then d
  else
    let n := (unit d.pwm c).presc.getD kind 0
    if n < d.get F.PW_EVT.PRESC c then d.pw c (fun p => { p with presc := p.presc.set kind (n + 1) })
    else
      let d := (d.pw c (fun p => { p with presc := p.presc.set kind 0 })).inc F.PW_EVT_COUNT.COUNT 1 c
      let d := d.arcMark 0x11 (2 ^ kind) c sub [] 32
      if kind = 0 ∧ c = d.get F.PWM_SYNC.MASTER ∧ d.bit F.PWM_SYNC.OUT_EN then
        { d with pwr := { d.pwr with syncOutUntil := d.tick + d.osTicks 16 } } else d

/-- R366: the compare after the short-pulse rules, with the channel's counter advanced. -/
def Dev.pwShort (d : Dev) (e c P : Nat) : Dev × Nat :=
  let dt := d.get F.PW_DT.DEADTIME e
  let m0 := d.get F.PW_DT.MIN_PULSE e
  let m1 := d.get F.PW_DT.MIN_PULSE (e + 1)
  if c = 0 ∨ P ≤ c then (d, c)
  else if d.bit F.PW_CFG.PAIR e then
    if c < dt then (d.incSat F.PW_DROP.COUNT 1 e, 0)
    else if P - c < dt then (d.incSat F.PW_DROP.COUNT 1 (e + 1), P)
    else if c < m0 then (if d.bit F.PW_CFG.SHORT_MODE e then (d.incSat F.PW_STRETCH.COUNT 1 e, m0) else (d.incSat F.PW_DROP.COUNT 1 e, 0))
    else if P - c < m1 then
      (if d.bit F.PW_CFG.SHORT_MODE (e + 1) then (d.incSat F.PW_STRETCH.COUNT 1 (e + 1), P - m1) else (d.incSat F.PW_DROP.COUNT 1 (e + 1), P))
    else (d, c)
  else if c < m0 then (if d.bit F.PW_CFG.SHORT_MODE e then (d.incSat F.PW_STRETCH.COUNT 1 e, m0) else (d.incSat F.PW_DROP.COUNT 1 e, 0))
  else (d, c)

/-- R367, R386: the compare of a bootstrap pair's period, with its refresh count; a period of an unproven supply runs 0 %. `comp`: the complement conducts where
the primary does not. -/
def Dev.pwRefresh (d : Dev) (e c P : Nat) (comp : Bool) : Dev × Nat :=
  let x := d.gateOf e
  let tr := d.get F.GD_REFRESH.T_REFRESH x
  if !d.bit F.GD_CFG.BOOTSTRAP x || !d.bit F.PW_CFG.PAIR e then (d, c)
  else if d.bit F.GD_STATUS.UNPROVEN x then (d.set F.PW_STATUS.COUNT 0 e, 0)
  else if tr ≤ P - c then
    let d := d.set F.PW_STATUS.COUNT 0 e
    -- R386: a complement pulse of at least T_REFRESH serves as the refresh that UV_POS asks for
    (if comp && d.bit F.GD_STATUS.UV_POS x && !(unit d.gates x).refreshed then
      d.gd x (fun g => { g with refreshed := true, compOn := some (d.tick + d.osTicks ((P + 63) / 64)) }) else d, c)
  else
    let n := d.get F.PW_STATUS.COUNT e + 1
    if d.get F.GD_REFRESH.K x ≤ n ∨ (d.bit F.GD_STATUS.UV_POS x ∧ d.energy) then
      let d := (d.set F.PW_STATUS.COUNT 0 e).inc F.PW_REFRESH_COUNT.COUNT 1 e
      (if d.bit F.GD_STATUS.UV_POS x && !(unit d.gates x).refreshed then
        d.gd x (fun g => { g with refreshed := true, compOn := some (d.tick + d.osTicks ((P + 63) / 64)) }) else d, P - tr)
    else (d.set F.PW_STATUS.COUNT n e, c)

/-- Instant, in sub-ticks of the Chronometer, `n` output-stage sub-ticks after `t` (R360). -/
def Dev.osAfter (d : Dev) (t n : Nat) : Nat := if d.clk.freq = 0 then t + n else t + n * 100000000 / d.clk.freq

/-- R75: whole output-stage ticks in `n` ticks. -/
def Dev.osCount (d : Dev) (n : Nat) : Nat := if d.clk.freq = 0 then n else n * d.clk.freq / 100000000

/-- R75: the part of a phase move that is due goes into the running periods: one sub-tick for each output-stage tick since the last. -/
def Dev.stepSync (d : Dev) : Dev :=
  let k : Int := (d.osCount (d.tick - d.clk.pstepAt) : Nat)
  let n := clampI (-k) k d.clk.pstep
  if n = 0 then d
  else { d with clk := { d.clk with pstep := d.clk.pstep - n, pstepAt := d.tick }
                pwm := d.pwm.map (fun (p : Pwm) => if p.length = 0 then p else { p with start := ((p.start : Int) + n).toNat }) }

/-- R75, R360: the instant `n` output-stage sub-ticks after `t`, with what is left of a phase move spread over the output-stage ticks until then. -/
def Dev.osWhen (d : Dev) (t n : Nat) : Nat :=
  let b := d.osAfter t n
  let k : Int := (d.osCount (b / 64 - d.tick) : Nat)
  ((b : Int) + clampI (-k) k d.clk.pstep).toNat

/-- R72, R73: the output-stage tick takes a frequency now: each running period keeps its count of output-stage sub-ticks. -/
def Dev.freqSet (d : Dev) (f : Nat) : Dev :=
  let old := d.clk.freq
  let t := d.tick * 64
  if f = 0 ∨ f = old then d else
  { d with clk := { d.clk with freq := f }
           pwm := d.pwm.map (fun p => if p.length = 0 ∨ t < p.start then p else { p with start := t - (t - p.start) * old / f }) }

/-- R73: a frequency moved towards another by at most 1 % of the present one. -/
def freqStep (f goal : Nat) : Nat := if f + f / 100 < goal then f + f / 100 else if goal + f / 100 < f then f - f / 100 else goal

/-- R74: at a sync-master boundary without a SYNC_IN to follow, the frequency slews towards that of the hop entry in use. -/
def Dev.syncSlew (d : Dev) (e : Nat) : Dev :=
  let goal := d.get F.PLLS_HOP.FREQ (if d.bit F.PLLS_SEL.HOP_BUSY then d.clk.hopFrom else d.get F.PLLS_SEL.ENTRY)
  if e = d.get F.PWM_SYNC.MASTER ∧ (!d.bit F.PLLS_SYNC.EN ∨ d.reg.active.contains (12, 0)) ∧ goal ≠ 0 then d.freqSet (freqStep d.clk.freq goal) else d

/-- R361: a start relative to the sync master's period start. -/
def Dev.offsetOf (d : Dev) (start period : Nat) : Nat :=
  let m := unit d.pwm (d.get F.PWM_SYNC.MASTER)
  let x : Int := ((start : Int) - (m.start : Int)) * (if d.clk.freq = 0 then 100000000 else (d.clk.freq : Int)) / 100000000
  if m.length = 0 ∨ period = 0 then 0 else (x % ((64 * period : Nat) : Int)).toNat

/-- R378, R365: an event of a channel, and of its complement, which shares its instants. -/
def Dev.pwEvents (d : Dev) (e kind sub : Nat) : Dev :=
  let d := d.pwEvent e kind sub
  if d.bit F.PW_CFG.PAIR e && e % 2 == 0 then d.pwEvent (e + 1) kind sub else d

/-- R389: the role of an even channel's leg: 1 for a channel outside the actuator bridge, whose compare is its own. -/
def Dev.legRole (d : Dev) (e : Nat) : Nat := if d.stageOf e = 2 ∧ 26 ≤ e then d.role ((e - 26) / 2) else 1

/-- R361, R363, R389: the end of a channel's running period: PERIOD event one output-stage tick before, shadows loaded, R366 and R367 applied to the pulses
that are requested, ZERO event. The sink leg of the actuator is a 0 % pair, and the third leg requests nothing. `move` is what R338 adds to the length of
the new period, and `hold` keeps both switches OFF in it. (DESIGN CHOICE: note 93.) -/
def Dev.pwBoundary (d : Dev) (e : Nat) (move : Int) (hold : Bool := false) : Dev :=
  let d := d.stepSync
  let p := unit d.pwm e
  if p.length = 0 then d
  else
    let b := d.osWhen p.start p.length
    let d := (d.until ((b - d.osAfter 0 64) / 64)).pwEvents e 1 (b % 64)
    let d := (d.until (b / 64)).stepSync
    let P0 := 64 * p.shPeriod
    let P := (P0 + move).toNat
    let sh := d.get F.PW_SHADOW.CMP e
    let role := d.legRole e
    let c := if role ≠ 1 then 0 else if sh = 0x3FFFFFF ∨ P0 ≤ sh then max P sh else if move = 0 ∨ P0 = 0 then sh else (2 * sh * P + P0) / (2 * P0)
    let r := if hold then ((d.pwRefresh e 0 P false).1, c) else
      let (d, c) := d.pwShort e c P
      d.pwRefresh e c P (role != 0)
    let c := r.2
    let d := ((r.1.set F.PW_CMP.CMP (min c 0x3FFFFFF) e).set F.PW_PERIOD.PERIOD p.shPeriod e).set F.PW_PHASE.OFFSET (if d.stageOf e = 2 then d.offsetOf b p.shPeriod else p.shOffset) e
    let d := if d.stageOf e = 2 ∧ role = 1 then { d with os := { d.os with driveCmp := c } } else d
    let d := (d.pw e (fun p => { p with start := b, length := P, cut := false, cmpDone := c == 0, hold := hold })).syncSlew e
    d.atSub (b % 64) (fun d => (d.pwDrive e).pwEvents e 0 (b % 64))

/-- R362: a compare that makes 100 % of a period. -/
def fullDuty (c P : Nat) : Bool := P ≤ c || c == 0x3FFFFFF

/-- R362: the compare instant of the running period. -/
def execPwmCompare (c : Fin 32) (s : State) : Host.Outcome State Fault Refusal := onMain s fun d =>
  let d := d.stepSync
  let p := unit d.pwm c
  let x := d.get F.PW_CMP.CMP c
  if p.length = 0 ∨ p.cmpDone ∨ fullDuty x p.length then d
  else
    let t := d.osWhen p.start x
    let d := (d.until (t / 64)).pw c (fun p => { p with cmpDone := true })
    d.atSub (t % 64) (fun d => (d.pwDrive c).pwEvents c 2 (t % 64))

/-- R365, R368: the dead time of a pair ends: the channel that waits comes on. -/
def execDeadTimeEnd (c : Fin 32) (s : State) : Host.Outcome State Fault Refusal := onMain s fun d =>
  let e := c / 2 * 2
  d.fire (.dead e) fun d =>
    let d := (d.setB F.PW_STATUS.DEAD false e).setB F.PW_STATUS.DEAD false (e + 1)
    d.each [e, e + 1] (fun d c => match (unit d.pwm c).wait with | some l => d.atSub ((unit d.pwm c).waitAt % 64) (fun d => d.pwRise c l) | none => d)

/-! Forces (R368) -/

/-- R368: a force is refused. -/
def Dev.forceBad (d : Dev) (c v : Nat) : Bool :=
  let busy := match d.partner c with | some q => d.get F.PW_STATUS.LEVEL q != 0 | none => false
  let s := d.stageOf c
  (v == 2 || v == 3) && (!(d.st == STAGED || d.st == LINKED) || busy || (s < 3 && d.bit F.PWM_STAGE.HELD s))

/-- R365, R368: a channel that a force or its release turns off; in a pair the dead time runs from there. -/
def Dev.forceDown (d : Dev) (c : Nat) : Dev :=
  if d.get F.PW_STATUS.LEVEL c = 0 then d.pw c (fun p => { p with wait := none })
  else
    let d := (d.level c 0).pw c (fun p => { p with wait := none })
    if (d.partner c).isSome ∧ d.get F.PW_DT.DEADTIME (c / 2 * 2) ≠ 0 then d.deadStart c none else d

/-- R368: a force of ON or MID brings its channel to the level, after the dead time of its pair. -/
def Dev.forceUp (d : Dev) (c l : Nat) : Dev :=
  if d.get F.PW_STATUS.LEVEL c = l then d
  else if d.bit F.PW_STATUS.DEAD c then d.pw c (fun p => { p with wait := some l, waitAt := (unit d.pwm (c / 2 * 2)).waitAt }) else d.pwRise c l

/-- R369: a channel that was locked out or held off follows its force again. -/
def Dev.forceAgain (d : Dev) (c : Nat) : Dev :=
  let v := d.get F.PW_FORCE.FORCE c
  if (v = 2 ∨ v = 3) ∧ d.get F.PW_STATUS.LEVEL c = 0 ∧ (unit d.pwm c).offAt.isNone then d.forceUp c (if v = 2 then 3 else 1) else d

/-- R368, R369: a force, or a release (0), takes effect; under a hold the stage's own level stands. -/
def Dev.pwForce (d : Dev) (c v : Nat) : Dev :=
  let d := ((d.setB F.PW_FORCE.REFUSED false c).set F.PW_FORCE.FORCE v c).setB F.PW_STATUS.FORCED (v != 0) c
  if d.bit F.PWM_STAGE.HELD (d.stageOf c) then d
  else if v = 1 then d.forceDown c
  else if v = 0 then
    (if d.brakeWants c then d.pwOn c else (if d.pwWant (c / 2 * 2) = 0 then d.forceDown c else d).pwDrive (c / 2 * 2))
  else d.forceUp c (if v = 2 then 3 else 1)

/-- R368: a write of PW_FORCE, accepted or refused: it takes effect at the start of the next output-stage tick. True where something changed, and where the
write is refused. -/
def Dev.forceAccess (d : Dev) (c v : Nat) : Dev × Bool × Bool :=
  if d.forceBad c v then (d.setB F.PW_FORCE.REFUSED true c, false, true)
  else if v = d.get F.PW_FORCE.FORCE c then (d.setB F.PW_FORCE.REFUSED false c, d.bit F.PW_FORCE.REFUSED c, false)
  else ((d.elapse (d.osTicks 1)).pwForce c v, true, false)

/-- R368, R378: entry to PRECHARGE releases every force of ON or MID and restarts the prescalers. -/
def Dev.pwPrecharge (d : Dev) : Dev :=
  d.each (List.range 32) fun d c =>
    let d := d.pw c (fun p => { p with presc := [0, 0, 0] })
    if d.get F.PW_FORCE.FORCE c = 2 ∨ d.get F.PW_FORCE.FORCE c = 3 then d.pwForce c 0 else d

/-! Trips, lock-outs and holds -/

/-- R377: some trip, lock-out or Hall fault flag of a stage stands. -/
def Dev.stageFlagged (d : Dev) (s : Nat) : Bool :=
  (List.range 32).any (fun c => d.stageOf c == s &&
    (let x := d.gateOf c
     d.bit F.GD_STATUS.TRIP x || d.bit F.GD_STATUS.UV_NEG x || d.bit F.GD_STATUS.CARRIER_LOST x
       || (d.bit F.GD_STATUS.UV_POS x && (!d.bit F.GD_CFG.BOOTSTRAP x || (unit d.gates x).bridge))))
  || (List.range 4).any (fun n => d.bit F.XTRIP_CFG.TRIP n && (d.get F.XTRIP_CFG.STAGES n).testBit s)
  || (s == 2 && d.bit F.HALL_STATUS.FAULT)

/-- R369, R384, R386: LOCKED follows the channel's flags and its bridge; a force decides again where it ends. -/
def Dev.lockSync (d : Dev) (x : Nat) : Dev :=
  let was := d.bit F.GD_STATUS.LOCKED x
  let d := d.setB F.GD_STATUS.LOCKED (d.bit F.GD_STATUS.UV_NEG x || d.bit F.GD_STATUS.CARRIER_LOST x
    || (d.bit F.GD_STATUS.UV_POS x && !d.bit F.GD_CFG.BOOTSTRAP x) || (unit d.gates x).bridge) x
  match d.chanOf x with
  | some c => if was && !d.bit F.GD_STATUS.LOCKED x then d.forceAgain c else d
  | none => d

/-- R377, R386: the owner restarts a stage over the channels `cs`: the hold ends where no flag stands, and bootstrap supplies start unproven. (DESIGN CHOICE: note 94.) -/
def Dev.stageStart (d : Dev) (s : Nat) (cs : List Nat) : Dev :=
  if d.stageFlagged s then d
  else
    let d := d.setB F.PWM_STAGE.HELD false s
    d.each cs fun d c =>
      let x := d.gateOf c
      let d := ((d.gd x (fun g => { g with bridge := false, refreshed := false, compOn := none })).lockSync x).forceAgain c
      if d.bit F.GD_CFG.BOOTSTRAP x then (d.setB F.GD_STATUS.UNPROVEN true x).arm (.proof x) (usT 100) else d

/-- R370, R371: GDx_T is recognised active, first asserted at `instant`, or is inactive again. -/
def execGdTrip (x : Fin 32) (e : Edge) (s : State) : Host.Outcome State Fault Refusal := onMain s fun d =>
  let instant := e.instant
  if !e.active then (d.until (instant / 64)).setB F.GD_STATUS.T_ACTIVE false x else
  let d := d.until (instant / 64 + d.osTicks (d.get F.GD_CFG.T_FILT x))
  match d.chanOf x with
  | none => d
  | some c =>
    if !d.bit F.GD_CFG.DECLARED x then d
    else
      let first := if d.bit F.GD_STATUS.PENDING x then (unit d.gates x).pendTick else instant
      let d := (d.setB F.GD_STATUS.T_ACTIVE true x).gd x (fun g => { g with pendTick := first })
      if d.get F.PW_STATUS.LEVEL c = 0 then d
      else match d.due (.blank x) with
        | some t => if d.tick < t then d.setB F.GD_STATUS.PENDING true x else (d.disarm (.blank x)).gdAct x first
        | none => d.gdAct x first

/-- R371: the blanking window ends; `active` says whether the trip input is active then. -/
def execBlankingEnd (x : Fin 32) (active : Bool) (s : State) : Host.Outcome State Fault Refusal := onMain s fun d =>
  d.fire (.blank x) fun d =>
    let d := d.setB F.GD_STATUS.T_ACTIVE active x
    if d.bit F.GD_STATUS.PENDING x then
      (if active then d.gdAct x (unit d.gates x).pendTick else (d.setB F.GD_STATUS.PENDING false x).incSat F.GD_BLANKED.COUNT 1 x)
    else d

/-- R370, R372: an XTRIP input that is evaluated trips its stages. (DESIGN CHOICE: note 94.) -/
def Dev.xtripAct (d : Dev) (n instant : Nat) : Dev :=
  if !d.bit F.XTRIP_CFG.EN n then d
  else
    let st := d.get F.XTRIP_CFG.STAGES n
    let ss := those 3 (fun s => st.testBit s)
    let i := d.stampAt instant
    let d := ((d.setB F.XTRIP_CFG.TRIP true n).stagesTrip ss).each (ss.flatMap d.stageChans) (fun d c =>
      let x := d.gateOf c
      ((d.set F.GD_TRIP_TICK.SUBTICK (i % 64) x).set F.GD_TRIP_TICK.TICK (i / 64) x).inc F.GD_TRIP_COUNT.COUNT 1 x)
    d.raise 129 4 n [st] (some instant)

/-- R370: an XTRIP input is recognised active, or is inactive again. -/
def execXtrip (n : Fin 4) (e : Edge) (s : State) : Host.Outcome State Fault Refusal := onMain s fun d =>
  if !e.active then (d.until (e.instant / 64)).setB F.XTRIP_CFG.ACTIVE false n else
  let d := d.until (e.instant / 64 + d.osTicks (d.get F.XTRIP_CFG.FILT n))
  (d.setB F.XTRIP_CFG.ACTIVE true n).xtripAct n e.instant

/-- R374, R350: a channel's scheduled OFF step; after the last one of a safe-off LOCKOUT follows. -/
def execSoftOffStep (c : Fin 32) (s : State) : Host.Outcome State Fault Refusal := onMain s fun d =>
  d.fire (.softOff c) fun d =>
    ((d.atSub (((unit d.pwm c).offAt.getD 0) % 64) (fun d => d.level c 0)).pw c (fun p => { p with offAt := none })).lockTry

/-- R385: DATA of GD_UVLO. -/
def Dev.uvData (d : Dev) (x : Nat) : List Nat := leBytes 2 (d.get F.GD_SUPPLY.VPOS x) ++ leBytes 2 (d.get F.GD_SUPPLY.VNEG x)

/-- R385, R369: a lock-out of a channel begins; a running soft-off keeps its schedule. -/
def Dev.uvlo (d : Dev) (x : Nat) : Dev :=
  let d := d.lockSync x
  if d.energy then
    let d := match d.chanOf x with | some c => d.stageTrip (d.stageOf c) | none => d
    d.raise 130 4 x (d.uvData x)
  else
    let d := match d.chanOf x with | some c => (if d.get F.PW_STATUS.LEVEL c = 0 ∨ (unit d.pwm c).offAt.isSome then d else d.level c 0) | none => d
    (d.raise 130 1 x (d.uvData x)).checkFail 21 x

/-- R386: GD_BOOTSTRAP locks out the bridge of a channel: the pair of a phase, or all six actuator channels. (DESIGN CHOICE: note 94.) -/
def Dev.bridgeLock (d : Dev) (x data : Nat) : Dev :=
  match d.chanOf x with
  | none => d
  | some c =>
    let s := d.stageOf c
    let pair := if d.gateOf (c / 2 * 2) ≤ d.gateOf (c / 2 * 2 + 1) then [c / 2 * 2, c / 2 * 2 + 1] else [c / 2 * 2 + 1, c / 2 * 2]
    let cs := if s = 2 then d.stageChans 2 else pair
    let d := d.each cs (fun d c => (d.gd (d.gateOf c) (fun g => { g with bridge := true })).lockSync (d.gateOf c))
    let d := if s = 2 then d.stageTrip 2 else d.each cs (fun d c => d.softOffChan s c)
    (d.disarm (.proof x)).raise 131 4 x (leBytes 4 data)

/-- R384, R386: a valid P frame with its value, whose frame began at tick `begun`. -/
def Dev.framePos (d : Dev) (x v begun : Nat) : Dev :=
  let th := d.get F.GD_UV_POS.POS_TH x
  let up := th + d.get F.GD_UV_POS.POS_HYS x
  let g := unit d.gates x
  let d := d.set F.GD_SUPPLY.VPOS v x
  let d :=
    if v < th then
      let new := !g.lowPos
      let d := (d.setB F.GD_STATUS.UV_POS true x).gd x (fun g => { g with lowPos := true })
      if !new then d
      else if d.bit F.GD_CFG.BOOTSTRAP x then d.gd x (fun g => { g with refreshed := false })
      else d.uvlo x
    else if up ≤ v then d.gd x (fun g => { g with lowPos := false })
    else d
  if !d.bit F.GD_CFG.BOOTSTRAP x || !g.compOn.any (fun t => decide (t ≤ begun)) then d
  else if d.bit F.GD_STATUS.UNPROVEN x then
    (if up ≤ v ∧ (d.due (.proof x)).isSome then (d.setB F.GD_STATUS.UNPROVEN false x).disarm (.proof x) else d)
  else if g.refreshed ∧ d.energy then
    let d := d.gd x (fun g => { g with refreshed := false })
    if v < th then d.bridgeLock x v else d
  else d

/-- R384: a valid N frame with its value. -/
def Dev.frameNeg (d : Dev) (x v : Nat) : Dev :=
  let th := d.get F.GD_UV_NEG.NEG_TH x
  let d := d.set F.GD_SUPPLY.VNEG v x
  if v < th then
    let new := !(unit d.gates x).lowNeg
    let d := (d.setB F.GD_STATUS.UV_NEG true x).gd x (fun g => { g with lowNeg := true })
    if new then d.uvlo x else d
  else if th + d.get F.GD_UV_NEG.NEG_HYS x ≤ v then d.gd x (fun g => { g with lowNeg := false })
  else d

/-- R383: the carrier deadline follows the older of the latest valid frames. (DESIGN CHOICE: note 88.) -/
def Dev.carrierArm (d : Dev) (x : Nat) : Dev :=
  let g := unit d.gates x
  match g.lastP, g.lastN with
  | some p, some n => d.arm (.carrier x) (min p n + 4000 - d.tick)
  | _, _ => if (d.due (.carrier x)).isSome then d else d.arm (.carrier x) 4000

/-- R100 check 21: a declared channel's carrier and supplies, an undeclared channel's silence. (DESIGN CHOICE: notes 88, 98.) -/
def Dev.check21 (d : Dev) (x : Nat) : Dev :=
  let g := unit d.gates x
  let st := d.bit F.GD_STATUS.UV_NEG x || d.bit F.GD_STATUS.CARRIER_LOST x || (d.bit F.GD_STATUS.UV_POS x && !d.bit F.GD_CFG.BOOTSTRAP x)
  if g.lastP.isSome && g.lastN.isSome && !g.lostNow && !st then d.checkPass 21 x else d

/-- R381 to R386: one frame of a status carrier has ended: its period, its high time and the tick of its end. -/
def execStatusCarrierFrame (x : Fin 32) (period : Nat) (f : FrameHigh) (s : State) : Host.Outcome State Fault Refusal := onMain s fun d =>
  let d := d.until f.end_
  let high := f.ticks
  if !d.bit F.GD_CFG.DECLARED x then
    (({ d with os := { d.os with undeclared := ((x : Nat), f.end_) :: d.os.undeclared.filter (fun u => u.1 != (x : Nat)) } }).arm (.carrier x) 4000).checkFail 21 x
  else
    let q := 4096 * high / period
    let band := if 512 ≤ q ∧ q ≤ 1791 then 1 else if 2304 ≤ q ∧ q ≤ 3583 then 2 else 0
    let g := unit d.gates x
    let ok := 800 ≤ period ∧ period ≤ 1200 ∧ band ≠ 0 ∧ band ≠ g.band
    let d := d.gd x (fun g => { g with band := band })
    if !ok then (d.gd x (fun g => { g with good := 0 })).inc F.GD_FRAME_ERR.COUNT 1 x
    else
      let good := g.good + 1
      let d := d.gd x (fun g => { g with good := good, lostNow := g.lostNow && good < 4
                                         lastP := if band = 1 then some f.end_ else g.lastP, lastN := if band = 2 then some f.end_ else g.lastN })
      let d := d.carrierArm x
      let d := if band = 1 then d.framePos x (5000 + 20 * (q - 512)) (f.end_ - period) else d.frameNeg x (10 * (q - 2304))
      d.check21 x

/-- R383: no valid P frame, or no valid N frame, within 4,000 ticks; the carrier of an undeclared channel has stopped (R100). (DESIGN CHOICE: note 88.) -/
def execCarrierLost (x : Fin 32) (s : State) : Host.Outcome State Fault Refusal := onMain s fun d =>
  d.fire (.carrier x) fun d =>
    if !d.bit F.GD_CFG.DECLARED x then
      ({ d with os := { d.os with undeclared := d.os.undeclared.filter (fun u => u.1 != (x : Nat)) } }).checkPass 21 x
    else
    let d := (d.setB F.GD_STATUS.CARRIER_LOST true x).gd x (fun g => { g with lostNow := true, good := 0 })
    d.uvlo x

/-- R386: a bootstrap supply is not proven in time. -/
def execBootstrapProofTimeout (x : Fin 32) (s : State) : Host.Outcome State Fault Refusal := onMain s fun d =>
  d.fire (.proof x) fun d => if d.bit F.GD_STATUS.UNPROVEN x ∧ d.energy then d.bridgeLock x 0 else d

/-! Commutation (R388 to R394) -/

/-- R394: a Hall fault between two states, `gap` ticks apart. -/
def hallBad (old new gap minTicks : Nat) : Bool :=
  new == 0 || new == 7 || gap < minTicks
    || (hallPos old != 6 && !(hallPos new == (hallPos old + 1) % 6 || hallPos new == (hallPos old + 5) % 6))

/-- R394: a Hall fault, with the previous and the new state. -/
def Dev.hallFault (d : Dev) (old new : Nat) : Dev := ((d.setB F.HALL_STATUS.FAULT true).stageTrip 2).raise 132 4 0 [old, new]

/-- R390, R392: a leg of the bridge changes its role: as source it conducts until the compare of the running period, and a short remainder is dropped. -/
def Dev.legChange (d : Dev) (e was : Nat) : Dev :=
  let role := d.legRole e
  if role = was then d
  else
    let p := unit d.pwm e
    let c := if role = 1 then d.os.driveCmp else 0
    let left : Int := ((d.osAfter p.start c : Nat) : Int) - ((d.now : Nat) : Int)
    let past := c = 0 ∨ (!fullDuty c p.length ∧ left ≤ 0)
    let short := !past ∧ !fullDuty c p.length ∧ left < ((d.osSpan (d.get F.PW_DT.MIN_PULSE e) : Nat) : Int)
    let d := (d.set F.PW_CMP.CMP (min c 0x3FFFFFF) e).pw e (fun p => { p with cmpDone := past, cut := p.cut || decide short })
    (if short then d.incSat F.PW_DROP.COUNT 1 e else d).pwDrive e

/-- R388 to R394 (R391, R392, R393): a Hall state, and for how many output-stage ticks it has been sampled without a break: recognised after FILT of them, it
is applied at the next output-stage tick. -/
def execHallChange (x : HallRun) (s : State) : Host.Outcome State Fault Refusal := onMain s fun d =>
  let h := x.state
  let old := d.get F.HALL_STATUS.STATE
  if x.samples < max 1 (d.get F.HALL_CFG.FILT) then d
  else
  let d := if d.get F.COL_CFG.KIND ≠ 0 ∧ (d.st = STAGED ∨ d.st = LINKED) then d.check 23 0 (h.val != 0 && h.val != 7) else d
  if old = h then d
  else
    let run := !d.bit F.PWM_STAGE.HELD 2 && (unit d.pwm 26).length != 0
    let bad := hallBad old h (d.tick - d.os.hallTick) (d.get F.HALL_CFG.MIN_TICKS)
    let legs := ([26, 28, 30] : List Nat).map (fun e => (e, d.legRole e))
    let d : Dev := { d.set F.HALL_STATUS.STATE h with os := { d.os with hallTick := d.tick } }
    if run && bad then d.hallFault old h
    else if run then ((d.elapse (d.osTicks 1)).inc F.HALL_COUNT.COUNT 1).each legs (fun d x => d.legChange x.1 x.2)
    else d

end Sys2Proof.Machine
end

