-- ==== Sys2Proof/Machine/Loop.lean ====
section
/-! DEFINITION. The Loop Engine (R286 to R306, R576): which slots run, their arithmetic, limits and history, the schedule check, and writing slots
and tables. -/

namespace Sys2Proof.Machine

/-- R45, R299: the enabled slot is evaluated in the present device state, and none is in a save window. (DESIGN CHOICE: note 79.) -/
def Dev.slotRuns (d : Dev) (k : Nat) : Bool :=
  if d.pwr.saveWin then false
  else if d.energy then true
  else (d.st == STAGED || d.st == LINKED || d.st == LOCKOUT) && d.colOnly 4096 [k] []

/-- R292: the table value at an index. -/
def Dev.tableAt (d : Dev) (t idx : Nat) : Nat :=
  let i := idx / 2 ^ 20 % 4096
  let j := if i < 4095 then i + 1 else if d.bit F.LE_TABLE_CFG.WRAP t then 0 else 4095
  let x := d.get F.LE_T.ENTRY t i
  fFma (fRnd (((idx % 2 ^ 20 : Nat) : Rat) / ((2 ^ 20 : Nat) : Rat))) (fSubt (d.get F.LE_T.ENTRY t j) x) x

/-- R289 step 3 of one slot for the error `e`. -/
def Dev.slotAcc (d : Dev) (k e : Nat) : Nat :=
  let three := d.bit F.SLOT_CFG.ORDER k
  let a := fMul (d.get F.SLOT_B.B k 0) e
  let a := fFma (d.get F.SLOT_B.B k 1) (d.get F.SLOT_E.E k 0) a
  let a := fFma (d.get F.SLOT_B.B k 2) (d.get F.SLOT_E.E k 1) a
  let a := if three then fFma (d.get F.SLOT_B.B k 3) (d.get F.SLOT_E.E k 2) a else a
  let a := fFma (d.get F.SLOT_A.A k 0) (d.get F.SLOT_Y.Y k 0) a
  let a := fFma (d.get F.SLOT_A.A k 1) (d.get F.SLOT_Y.Y k 1) a
  if three then fFma (d.get F.SLOT_A.A k 2) (d.get F.SLOT_Y.Y k 2) a else a

/-- R287: the value of a source of a free slot. A slot that has released in this beat shows its previous output for code 3. -/
def Dev.slotSrc (d : Dev) (code idx const : Nat) : Nat :=
  if code = 2 then d.get F.SLOT_Y_OUT.Y_LIM idx
  else if code = 3 then (unit d.slots idx).prev
  else const

/-- R576: the limits in force. -/
def Dev.slotLo (d : Dev) (k : Nat) : Nat :=
  match (unit d.slots k).lo with | some x => fMax (d.get F.SLOT_YMIN.YMIN k) x | none => d.get F.SLOT_YMIN.YMIN k
def Dev.slotHi (d : Dev) (k : Nat) : Nat :=
  match (unit d.slots k).hi with | some x => fMin (d.get F.SLOT_YMAX.YMAX k) x | none => d.get F.SLOT_YMAX.YMAX k

/-- R290: shift the error and output histories of a slot. -/
def Dev.pushE (d : Dev) (k e : Nat) : Dev :=
  ((d.set F.SLOT_E.E (d.get F.SLOT_E.E k 1) k 2).set F.SLOT_E.E (d.get F.SLOT_E.E k 0) k 1).set F.SLOT_E.E e k 0
def Dev.pushY (d : Dev) (k y : Nat) : Dev :=
  ((d.set F.SLOT_Y.Y (d.get F.SLOT_Y.Y k 1) k 2).set F.SLOT_Y.Y (d.get F.SLOT_Y.Y k 0) k 1).set F.SLOT_Y.Y y k 0

/-- R291: a numeric fault of a slot at a step of R289. -/
def Dev.slotNumeric (d : Dev) (k step : Nat) : Dev :=
  let d := d.each (k :: d.members k) (fun d m => d.preset m 0)
  let d := (d.slot k (fun s => { s with yc := 0, numAt := some d.beat })).setB F.SLOT_STATUS.NUMERIC true k
  let d := (d.inc F.LE_NUMERIC.COUNT 1).condOn 96 k
  d.raise 96 (if d.owner k ≠ 0 ∧ d.energy then 4 else 1) k [step]

/-- R289 step 5, R253, R254: the feed-forward of a slot: FF_GAIN times the table value, or times the value its owner gives in place of one, and
scaled where its owner scales it. (DESIGN CHOICE: note 80.) -/
def Dev.slotFf (d : Dev) (k : Nat) : Nat :=
  let v := match (unit d.slots k).ffVal with
    | some v => v
    | none => d.tableAt (d.get F.SLOT_CFG.FF_TABLE k) (d.get F.SLOT_OWN_IDX.OWN_IDX k)
  let y := fMul (d.get F.SLOT_FF_GAIN.FF_GAIN k) v
  match (unit d.slots k).ffScale with
  | some p => fMul y p
  | none => y

/-- R289 to R291, R576: one evaluation of a single slot or head. -/
def Dev.slotEval (d : Dev) (k : Nat) : Dev :=
  let own := d.owner k ≠ 0
  let a := if own then d.get F.SLOT_OWN_A.OWN_A k else d.slotSrc (d.get F.SLOT_SRC.SRC_A k) (d.get F.SLOT_SRC.IDX_A k) (d.get F.SLOT_REF.REF k)
  let b := if own then 0 else d.slotSrc (d.get F.SLOT_SRC.SRC_B k) (d.get F.SLOT_SRC.IDX_B k) 0
  let x := fSubt a b
  let e := fMul (d.get F.SLOT_K_IN.K_IN k) x
  let ms := d.members k
  let acc := d.slotAcc k e
  let accs := ms.map (fun m => (m, d.slotAcc m e))
  let yc := accs.foldl (fun s m => fAdd s m.2) acc
  let ff := if d.bit F.SLOT_CFG.FF_EN k then d.slotFf k else 0
  let yt := fAdd yc ff
  if fBad x then d.slotNumeric k 1 else if fBad e then d.slotNumeric k 2
  else if fBad acc || accs.any (fun m => fBad m.2) then d.slotNumeric k 3
  else if fBad yc then d.slotNumeric k 4 else if fBad ff then d.slotNumeric k 5 else if fBad yt then d.slotNumeric k 6
  else
    let d := d.condOff 96 k
    let lo := d.slotLo k
    let hi := d.slotHi k
    let y := fMin (fMax yt lo) hi
    let high := fLt hi yt
    let low := fLt yt lo
    let holdRule := d.bit F.SLOT_CFG.AW k || !ms.isEmpty
    let pc := (unit d.slots k).yc
    let holding := holdRule && ((high && fLt pc yc) || (low && fLt yc pc))
    let d := ((d.setB F.SLOT_STATUS.LIM_HI high k).setB F.SLOT_STATUS.LIM_LO low k).setB F.SLOT_STATUS.HOLDING holding k
    let d := if high || low then d.incSat F.SLOT_LIMCNT.COUNT 1 k else d
    let d := if holding then d
      else if holdRule then accs.foldl (fun d m => (d.pushE m.1 e).pushY m.1 m.2) ((d.pushE k e).pushY k acc)
      else (d.pushE k e).pushY k (fSubt y ff)
    (d.slot k (fun s => { s with yc := yc })).set F.SLOT_Y_OUT.Y_LIM y k

/-- R295, R298, R300: a slot's release: evaluated, frozen, or not complete in time (`late`: the phase at which it completed). -/
def Dev.slotGo (d : Dev) (k : Nat) (late : Option Nat) : Dev :=
  let d := d.toPhase (d.get F.SLOT_CFG.RELEASE k)
  let d := d.setB F.SLOT_STATUS.FROZEN (unit d.slots k).frozen k
  if (unit d.slots k).frozen then d
  else match late with
    | some p => (d.inc F.LE_OVERRUN.COUNT 1).raise 97 4 k (leBytes 4 (if p < 1024 then p else 0xFFFFFFFF))
    | none => d.slotEval k

/-- R287: the owner writes a slot's input word, and its table index. -/
def Dev.ownA (d : Dev) (k : Nat) (q : Rat) : Dev := d.set F.SLOT_OWN_A.OWN_A (fRnd q) k
def Dev.ownIdx (d : Dev) (k i : Nat) : Dev := d.set F.SLOT_OWN_IDX.OWN_IDX i k

/-- The output of a slot as a number. -/
def Dev.yOut (d : Dev) (k : Nat) : Rat := fRat (d.get F.SLOT_Y_OUT.Y_LIM k)

/-! The schedule check (R294, R296, R297) -/

/-- R296: the lane cycles of a single slot or head with its members. -/
def Dev.slotCost (d : Dev) (k : Nat) : Nat :=
  let one := fun j => if d.bit F.SLOT_CFG.ORDER j then 11 else 9
  one k + (if d.bit F.SLOT_CFG.FF_EN k then 6 else 0) + ((d.members k).map (fun m => one m + 2)).sum

/-- R294: the ready tick of a slot. -/
def Dev.slotReady (d : Dev) (preds : List (Nat × Nat)) (k : Nat) : Nat :=
  let base := match d.owner k with | 1 => 180 | 2 => 8 | 3 => 8 | _ => 0
  let src := if d.owner k = 0 then
      (if d.get F.SLOT_SRC.SRC_A k = 2 then [d.get F.SLOT_SRC.IDX_A k] else []) ++ (if d.get F.SLOT_SRC.SRC_B k = 2 then [d.get F.SLOT_SRC.IDX_B k] else [])
    else []
  ((preds.filter (fun x => x.2 == k)).map (·.1) ++ src).foldl (fun r j => max r (d.get F.SLOT_CFG.RELEASE j + 1)) base

/-- One assignment of the schedule: slot, ready tick, lane, tick done, and whether it is too late. -/
structure Sched where
  slot : Nat
  ready : Nat
  lane : Nat
  done : Nat
  bad : Bool
  deriving DecidableEq, Repr, Inhabited

/-- The enabled singles and heads. -/
def Dev.heads (d : Dev) : List Nat := those 1024 (fun k => d.bit F.SLOT_CFG.EN k && !d.bit F.SLOT_CFG.MEMBER k)

/-- R297: the schedule over the enabled singles and heads. -/
def Dev.schedule (d : Dev) (preds : List (Nat × Nat)) : List Sched :=
  let order := ((d.heads.map (fun k => (d.slotReady preds k, k))).insertionSort (fun a b => a.1 < b.1 ∨ (a.1 = b.1 ∧ a.2 ≤ b.2)))
  (order.foldl (fun (acc : List Nat × List Sched) x =>
    let lanes := acc.1
    let l := (List.range 4).foldl (fun b j => if lanes.getD j 0 < lanes.getD b 0 then j else b) 0
    let start := max (8 * x.1) (lanes.getD l 0)
    let fin := start + d.slotCost x.2
    (lanes.set l fin, ⟨x.2, x.1, l, (fin + 7) / 8, 8 * d.get F.SLOT_CFG.RELEASE x.2 < fin⟩ :: acc.2)) ([0, 0, 0, 0], [])).2

/-- R297: the check passes: every slot completes by its release, and no source of code 2 or predecessor names a disabled slot. -/
def Dev.scheduleOk (d : Dev) (preds : List (Nat × Nat)) : Bool :=
  (d.schedule preds).all (fun x => !x.bad) &&
  d.heads.all (fun k => (preds.filter (fun x => x.2 == k)).all (fun x => d.bit F.SLOT_CFG.EN x.1) &&
    (d.owner k != 0 || ((d.get F.SLOT_SRC.SRC_A k != 2 || d.bit F.SLOT_CFG.EN (d.get F.SLOT_SRC.IDX_A k))
      && (d.get F.SLOT_SRC.SRC_B k != 2 || d.bit F.SLOT_CFG.EN (d.get F.SLOT_SRC.IDX_B k)))))

/-- R294, R297, R307: record the schedule, the members and the number of enabled slots. -/
def Dev.scheduleSet (d : Dev) (preds : List (Nat × Nat)) : Dev :=
  let d := d.each (d.schedule preds) (fun d x => ((d.set F.SLOT_STATUS.READY x.ready x.slot).set F.SLOT_STATUS.DONE x.done x.slot).set F.SLOT_STATUS.LANE x.lane x.slot)
  (d.set F.LE_LOAD.SCHED ((d.heads.map d.slotCost).sum)).set F.LE_STATUS.ENABLED (those 1024 (fun k => d.bit F.SLOT_CFG.EN k || d.bit F.SLOT_CFG.MEMBER k)).length

/-- R289: MEMBER of every slot follows the MEMBERS of the head before it. -/
def Dev.memberSync (d : Dev) : Dev :=
  let ms := (List.range 1024).flatMap (fun k => if d.bit F.SLOT_CFG.EN k then d.members k else [])
  d.each (those 1024 (fun k => d.bit F.SLOT_CFG.MEMBER k != ms.contains k)) (fun d k => d.setB F.SLOT_CFG.MEMBER (ms.contains k) k)

/-- R287, R299: what a beat's start does in the Loop Engine: previous outputs latched, cycles used counted. -/
def Dev.loopBeat (d : Dev) : Dev :=
  let ks := d.heads
  let d := d.each ks (fun d k => d.slot k (fun s => { s with prev := d.get F.SLOT_Y_OUT.Y_LIM k }))
  (d.set F.LE_LOAD.LAST ((ks.filter d.slotRuns).map d.slotCost).sum).loopRate

/-! SLOT_WRITE and TABLE_WRITE (R302 to R305) -/

/-- R302: a value that admission rejects: NaN, infinity or subnormal. -/
def fRejected (x : Nat) : Bool := fBad x || fSub x

/-- R302, R120: admission of a SLOT_WRITE's parameters. -/
def slotAdmit (k item : Nat) (p : List Nat) : Bool :=
  let v := fun i => p.getD i 0
  k < 1024 &&
  (match item with
   | 1 => ((List.range 7).all (fun j => !fRejected (v (j + 1))))
   | 2 => !fRejected (v 1) && !fRejected (v 2) && fLt (v 1) (v 2)
   | 3 => !fRejected (v 1) && !fRejected (v 2) && v 3 < 2 ^ 24 && v 3 % 4 != 0 && v 3 / 4 % 4 != 1
   | 4 => !fRejected (v 1) && v 2 < 8
   | 5 => !fRejected (v 1)
   | 6 => v 1 < 2 ^ 26 && v 1 / 2 ^ 13 % 8 == 0
   | 7 => !fRejected (v 1)
   | _ => false)

/-- R303: the first check that fails, for each item; the configuration is tried on a copy. -/
def Dev.slotCheck (d trial : Dev) (k item : Nat) (p : List Nat) : Option Nat :=
  let v := fun i => p.getD i 0
  let own := d.owner k ≠ 0
  if item = 6 ∧ d.energy ∧ own ∧ ((d.bit F.SLOT_CFG.EN k ∧ v 1 % 2 = 0) ∨ bitsAt (v 1) 1 1 ≠ d.get F.SLOT_CFG.ORDER k ∨ bitsAt (v 1) 6 3 ≠ d.get F.SLOT_CFG.MEMBERS k
      ∨ bitsAt (v 1) 16 10 ≠ d.get F.SLOT_CFG.RELEASE k) then some 1
  else if (item = 3 ∧ own) ∨ (item = 7 ∧ !own) then some 2
  else if item = 4 ∧ (v 2).testBit 0 ∧ (!own ∨ d.bit F.SLOT_CFG.MEMBER k) then some 3
  -- R293: item 0x06 would switch feed-forward on for a free slot
  else if item = 6 ∧ (v 1).testBit 3 ∧ !own then some 3
  else if (item = 2 ∨ item = 4) ∧ d.bit F.SLOT_CFG.MEMBER k then some 4
  else if (item = 3 ∨ item = 4 ∨ item = 6) ∧ !trial.scheduleOk d.links then some 5
  else if item = 1 ∧ !d.bit F.SLOT_CFG.ORDER k ∧ (v 4 ≠ 0 ∨ v 7 ≠ 0) then some 6
  else none

/-- R302: coefficients. -/
def Dev.slotCoeff (d : Dev) (k : Nat) (p : List Nat) : Dev :=
  let d := d.each [0, 1, 2, 3] (fun d j => d.set F.SLOT_B.B (p.getD (j + 1) 0) k j)
  d.each [0, 1, 2] (fun d j => d.set F.SLOT_A.A (p.getD (j + 5) 0) k j)

/-- R302: the words an item writes. -/
def Dev.slotPut (d : Dev) (k item : Nat) (p : List Nat) : Dev :=
  let v := fun i => p.getD i 0
  match item with
  | 1 => d.slotCoeff k p
  | 2 => (d.set F.SLOT_YMIN.YMIN (v 1) k).set F.SLOT_YMAX.YMAX (v 2) k
  | 3 => ((((d.set F.SLOT_K_IN.K_IN (v 1) k).set F.SLOT_REF.REF (v 2) k).set F.SLOT_SRC.SRC_A (v 3) k).set F.SLOT_SRC.SRC_B (v 3 / 4) k).set F.SLOT_SRC.IDX_A (v 3 / 16) k
      |>.set F.SLOT_SRC.IDX_B (v 3 / 2 ^ 14) k
  | 4 => ((d.set F.SLOT_FF_GAIN.FF_GAIN (v 1) k).set F.SLOT_CFG.FF_EN (v 2) k).set F.SLOT_CFG.FF_TABLE (v 2 / 2) k
  | 5 => let d := d.preset k (v 1)
         d.each (those 1024 (fun h => h == k || (d.members h).contains k)) (fun d h => d.presetYc h)
  | 6 => ((((d.set F.SLOT_CFG.EN (v 1) k).set F.SLOT_CFG.ORDER (v 1 / 2) k).set F.SLOT_CFG.AW (v 1 / 4) k).set F.SLOT_CFG.FF_EN (v 1 / 8) k).set F.SLOT_CFG.FF_TABLE (v 1 / 16) k
      |>.set F.SLOT_CFG.MEMBERS (v 1 / 64) k |>.set F.SLOT_CFG.RELEASE (v 1 / 2 ^ 16) k |>.memberSync
  | 7 => d.set F.SLOT_K_IN.K_IN (v 1) k
  | _ => d

/-- R302, R303: SLOT_WRITE at its effect beat: the detail of a failure, or none. -/
def Dev.slotWrite (d : Dev) (k item : Nat) (p : List Nat) : Dev × Option Nat :=
  let trial := d.slotPut k item p
  match d.slotCheck trial k item p with
  | some c => (d, some c)
  | none =>
    let d := trial.inc F.LE_UPDATES.COUNT 1
    (if item = 3 ∨ item = 4 ∨ item = 6 then d.scheduleSet d.links else d, none)

/-- R304, R305: TABLE_WRITE at its effect beat: the entries laid over the other bank, the banks exchanged once a beat. -/
def Dev.tableWrite (d : Dev) (t first : Nat) (ws : List Nat) : Dev :=
  let d := (List.range ws.length).foldl (fun d i => d.set F.LE_T.ENTRY (ws.getD i 0) t (first + i)) d
  let d := if d.bank2.any (fun x => x.1 == t && x.2.1 == d.beat) then d
    else ({ d with bank2 := (t, d.beat, 0) :: d.bank2.filter (fun x => x.1 != t) }).set F.LE_TABLE_CFG.BANK (1 - d.get F.LE_TABLE_CFG.BANK t) t
  d.inc F.LE_UPDATES.COUNT 1

end Sys2Proof.Machine
end

