-- ==== Sys2Proof/Machine/Output.lean ====
section
/-! DEFINITION. The output stage (R329 to R356): sense inputs, group limits and references, interleaving, truncation, shedding, burst mode, phase
faults, starting and stopping, and the brake chopper. Currents are in A, voltages in V, as exact rationals, rounded to binary32 where a slot takes
them. -/

namespace Sys2Proof.Machine

/-! Sense inputs (R330 to R333) -/

/-- R332: u of a code, and its value with the gain interpolated inside the validity range and held outside. -/
def Dev.snsU (d : Dev) (m : Nat) (code : Rat) : Rat := code * fRat (d.get F.SNS_SCALE.SCALE m) + fRat (d.get F.SNS_OFFSET.OFFSET m)
def Dev.snsVal (d : Dev) (m : Nat) (code : Rat) : Rat :=
  let u := d.snsU m code
  u * rInterp ((List.range 8).map (fun j => fRat (d.get F.SNS_GAIN.GAIN m j))) (fRat (d.get F.SNS_CAL_LO.CAL_LO m)) (fRat (d.get F.SNS_CAL_HI.CAL_HI m)) u

/-- R331: the mean of raw codes. -/
def codeMean (l : List Nat) : Rat := if l.length = 0 then 0 else (((l.sum : Nat) : Rat)) / ((l.length : Nat) : Rat)

/-- The beat mean in force. -/
def Dev.sns (d : Dev) (m : Nat) : Rat := fRat (d.get F.SNS_MEAN.MEAN m)

/-- The group of a phase and the output-voltage input of a group. -/
def Dev.grpOf (d : Dev) (k : Nat) : Nat := if d.flag F.OS_CTRL.GROUP_B k then 1 else 0
def voIn (g : Nat) : Nat := 12 + g

/-- A free quotient where the divisor is 0 (the manual states no result), otherwise the quotient. (DESIGN CHOICE: note 15.) -/
def Dev.quot (d : Dev) (a b : Rat) : Rat := if b = 0 then Config.overZero d.freeCtr else a / b

/-! Group quantities -/

/-- The phases of a group in a PH_STATUS state. -/
def Dev.phIn (d : Dev) (g st : Nat) : List Nat := (d.phasesOf g).filter (fun k => d.get F.PH_STATUS.STATE k == st)

/-- D_ff of R336. -/
def Dev.dff (d : Dev) (g : Nat) : Rat := d.quot (d.sns (voIn g)) (d.sns 14 + d.sns (voIn g))

/-- R334, R338: the duty in force of a phase, over its running period. -/
def Dev.duty (d : Dev) (k : Nat) : Rat :=
  let p := (unit d.pwm (2 * k)).length
  if p = 0 then 0 else min 1 (((d.get F.PH_COMPARE.COMPARE k : Nat) : Rat) / ((p : Nat) : Rat))

/-- R334: the output current of a group. -/
def Dev.iout (d : Dev) (g : Nat) : Rat := ((d.phIn g 1).map (fun k => d.sns k * (1 - d.duty k))).sum

/-- R334: the mean inductor current over the active phases. -/
def Dev.ilMean (d : Dev) (g : Nat) : Rat :=
  let ks := d.phIn g 1
  if ks.length = 0 then 0 else (ks.map d.sns).sum / ((ks.length : Nat) : Rat)

/-- R340: the fold-back limit. -/
def Dev.iFold (d : Dev) (g : Nat) : Rat :=
  let im : Rat := (d.get F.GRP_IMAX.I_MAX g : Nat)
  let kn : Rat := (d.get F.GRP_FOLD.V_KNEE g : Nat)
  let fl : Rat := (d.get F.GRP_FOLD.I_FLOOR g : Nat)
  let v := d.sns (voIn g)
  if kn = 0 ∨ kn ≤ v then im else fl + (im - fl) * max v 0 / kn

/-- R346: the capacity limit, over active and shed phases. -/
def Dev.iCap (d : Dev) (g : Nat) : Rat :=
  (((d.phIn g 1).length + (d.phIn g 2).length : Nat) : Rat) * ((d.get F.GRP_IMAX.I_PH_MAX g : Nat) : Rat) * (1 - d.dff g)

/-- R335: a current limit from a setpoint, scaled by F. -/
def Dev.iLim (d : Dev) (g set : Nat) : Rat :=
  let base := min (min (min ((set : Nat) : Rat) ((d.get F.GRP_IMAX.I_MAX g : Nat) : Rat)) (d.iFold g)) (d.iCap g)
  let base := match (unit d.groups g).cStop with | some c => min base c | none => base
  base * ((d.get F.ARR_DERATE.FACTOR : Nat) : Rat) / 1024

/-- I_ref of a group: its voltage slot's output. -/
def Dev.iRef (d : Dev) (g : Nat) : Rat := d.yOut (d.get F.GRP_SLOTS.VSLOT g)

/-! Turning phases on and off -/

/-- A phase's channels follow its state. -/
def Dev.phDrive (d : Dev) (k : Nat) : Dev := d.pwDrive (2 * k)

/-- R348, R349: every switch of a group OFF by ordinary turn-off, its counters standing, state 0. -/
def Dev.grpOff (d : Dev) (g : Nat) : Dev :=
  let d := (((d.grpLoanEnd g).grpPhasesOff g).set F.GRP_STATUS.STATE 0 g).grp g (fun x => { x with cStop := none, sleepBeats := 0 })
  let d := (d.setB F.GRP_STATUS.BURST_SLEEP false g).setB F.GRP_STATUS.SHEDDING false g
  d.each (d.phasesOf g) (fun d k => (d.pw (2 * k) (fun p => { p with length := 0 })).phDrive k)

/-- R338: the offset of interleave slot `j` of `n`, halves rounded up. -/
def slotOffset (period j n : Nat) : Nat := if n = 0 then 0 else (2 * (j * period * 64) + n) / (2 * n)

/-- R338: the next reference period start of a group: a running phase's next start, in a moved period as much as in any other, less the offset it
will have there; or the sync master's next boundary, or now. -/
def Dev.grpRef (d : Dev) (g : Nat) : Nat :=
  match (d.phIn g 1).find? (fun k => (unit d.pwm (2 * k)).length != 0) with
  | some k =>
    let p := unit d.pwm (2 * k)
    let off : Int := (d.get F.PH_OFFSET.OFFSET k : Nat) - (unit d.phases k).move.sum
    let next := d.osAfter p.start p.length
    if 0 ≤ off then next - d.osAfter 0 off.toNat else next + d.osAfter 0 (-off).toNat
  | none =>
    let m := unit d.pwm (d.get F.PWM_SYNC.MASTER)
    if m.length = 0 then d.tick * 64 else d.osAfter m.start m.length

/-- R338: a phase starts at the first period start of its slot that is not past; its switches are OFF until then. -/
def Dev.phStart (d : Dev) (ref k off : Nat) : Dev :=
  let g := d.grpOf k
  let len := 64 * d.get F.GRP_PERIOD.PERIOD g
  let one := max 1 (d.osAfter 0 len)
  let first := ref + d.osAfter 0 off
  let now := d.tick * 64
  let s := if now ≤ first then first else first + (now - first + one - 1) / one * one
  let d := (d.set F.PH_OFFSET.OFFSET off k).pw (2 * k) (fun p => { p with start := s - one, length := len, shPeriod := d.get F.GRP_PERIOD.PERIOD g
                                                                          shOffset := off, cut := false, cmpDone := true, hold := true })
  d.phs k (fun x => { x with move := [], openCnt := 0, ending := false, trunc := d.get F.GRP_TRUNC.TRUNC g })

/-- R338: the signed move from one offset to another, in (-32·PERIOD, 32·PERIOD], split over two periods, the first half rounded toward zero. -/
def moveSplit (period : Nat) (delta : Int) : List Int :=
  let p : Int := 64 * (period : Nat)
  let x := delta % p
  let x := if 32 * (period : Nat) < x then x - p else x
  let a := rToward ((x : Rat) / 2)
  if x = 0 then [] else [a, x - a]

/-- R338: the active phases of a group take their slots in ascending order; running ones move, returning ones (`back`) start in their slot, and one
that had not finished its running period goes on. -/
def Dev.respread (d : Dev) (g : Nat) (back : List Nat) : Dev :=
  let ref := d.grpRef g
  let act := d.phIn g 1
  let n := act.length
  let per := d.get F.GRP_PERIOD.PERIOD g
  let d := (List.range n).foldl (fun d j =>
    let k := act.getD j 0
    let off := slotOffset per j n
    let d := d.set F.PH_STATUS.SLOT j k
    if back.contains k && !(unit d.phases k).ending then d.phStart ref k off
    else
      let cur : Int := (d.get F.PH_OFFSET.OFFSET k : Nat) - (unit d.phases k).move.sum
      ((d.set F.PH_OFFSET.OFFSET off k).phs k (fun x => { x with move := moveSplit per (off - cur), ending := false })).pw (2 * k) (fun p => { p with shOffset := off })) d
  (d.set F.GRP_STATUS.N_ACTIVE n g).setB F.GRP_STATUS.SHEDDING (!(d.phIn g 2).isEmpty) g

/-- R346: capacity against demand and setpoint; one event per excursion, with the new limit. (DESIGN CHOICE: note 95.) -/
def Dev.capCheck (d : Dev) (g : Nat) : Dev :=
  let s := d.get F.GRP_STATUS.STATE g
  let cap := d.iCap g
  let ir := d.iRef g
  let low := decide (2 ≤ s ∧ s ≤ 5) && (decide (cap < max ir (-ir)) || decide (cap < ((d.get F.GRP_ISET.FWD g : Nat) : Rat))
    || decide (cap < ((d.get F.GRP_ISET.REV g : Nat) : Rat)))
  if low && !d.bit F.GRP_STATUS.CAP_LIMITED g then
    (d.setB F.GRP_STATUS.CAP_LIMITED true g).raise 106 2 g (leBytes 4 (max 0 cap).floor.toNat) none (some 1024)
  else d.setB F.GRP_STATUS.CAP_LIMITED low g

/-- R345: a phase declared OPEN (3) or SENSE_LOST (4) goes OFF, its event `ev` is raised, and it leaves its slot; the others re-spread. -/
def Dev.phaseOut (d : Dev) (k st : Nat) (ev : Dev → Dev) : Dev :=
  let g := d.grpOf k
  let was := d.get F.PH_STATUS.STATE k
  let d := ev (((d.set F.PH_STATUS.STATE st k).phs k (fun x => { x with ending := false })).phDrive k)
  let run := 2 ≤ d.get F.GRP_STATUS.STATE g ∧ d.get F.GRP_STATUS.STATE g ≤ 5
  if was = 1 ∨ was = 2 then
    let d := if was = 1 then d.respread g [] else d.setB F.GRP_STATUS.SHEDDING (!(d.phIn g 2).isEmpty) g
    let d := d.capCheck g
    if run ∧ (d.phIn g 1).isEmpty then d.raise 107 4 g else d
  else d

/-- R333, R344, R347: input `m` is lost. -/
def Dev.senseLost (d : Dev) (m : Nat) : Dev :=
  let d := d.setFlag F.OS_SENSE_LOST.LOST m true
  let data := leBytes 4 (d.get F.SNS_MEAN.MEAN m)
  let d := if m = 14 then
      let d := (d.setB F.OS_STATUS.BRAKE_ARMED false).setB F.OS_STATUS.BRAKE_ON false
      d.each [24, 25] (fun d c => d.pwOff c)
    else d
  let d := d.raise 105 (if m < 12 then 2 else if m = 15 then 3 else 4) m data none (if m < 12 then some 1024 else none)
  let d := if m < 12 ∧ d.flag F.OS_CTRL.PHASE_DECL m ∧ d.get F.PH_STATUS.STATE m ≠ 3 then d.phaseOut m 4 id else d
  d.checkFail 22 m

/-- R331 to R333: the beat's samples of one declared input. -/
def Dev.senseBeat (d : Dev) (m : Nat) (codes : List Nat) : Dev :=
  let c := codeMean codes
  let u := d.snsU m c
  let d := d.set F.SNS_MEAN.MEAN (fRnd (d.snsVal m c)) m
  -- validity range: R332
  let inside := decide (fRat (d.get F.SNS_CAL_LO.CAL_LO m) ≤ u) && decide (u < fRat (d.get F.SNS_CAL_HI.CAL_HI m))
  let back := if inside then d.os.calBack.getD m 0 + 1 else 0
  let d := { d with os := { d.os with calBack := d.os.calBack.set m back } }
  let d := if !inside then
      (if d.flag F.OS_SENSE_LOST.CAL_RANGE m then d else (d.setFlag F.OS_SENSE_LOST.CAL_RANGE m true).raise 108 1 m (leBytes 4 (fRnd u)))
    else if 100 ≤ back then d.setFlag F.OS_SENSE_LOST.CAL_RANGE m false else d
  -- open line: R333
  let rail := if !codes.isEmpty && codes.all (fun x => 15892 ≤ x) then min (d.os.rail.getD m 0 + 1) 256 else 0
  let d := { d with os := { d.os with rail := d.os.rail.set m rail } }
  if d.get F.OS_SENSE.SENSE_BEATS ≤ rail ∧ rail ≠ 0 then (if d.flag F.OS_SENSE_LOST.LOST m then d else d.senseLost m)
  else if d.flag F.OS_SENSE_LOST.LOST m then d else d.checkPass 22 m

/-! The beat (R334 to R343, R348, R349, R353) -/

/-- R353: the brake energy of the last 97,657 beats, in µJ. (DESIGN CHOICE: note 96.) -/
def Dev.brakeBeat (d : Dev) : Dev :=
  let e := d.sns 14 * d.sns 15 * 256 / 25
  let old := d.os.brakeJ.getD 97656 0
  let sum := d.os.brakeSum + e - old
  let d := { d with os := { d.os with brakeJ := (e :: d.os.brakeJ).take 97657, brakeSum := sum } }
  let jm := d.get F.OS_BRAKE_J.J_MAX
  if jm = 0 ∨ d.flag F.OS_SENSE_LOST.LOST 15 then d
  else if ((jm * 1000000 : Nat) : Rat) < sum then
    (if d.os.brakeOver then d else ({ d with os := { d.os with brakeOver := true } }).raise 111 3 0 (leBytes 4 (sum / 1000000).floor.toNat))
  else { d with os := { d.os with brakeOver := false } }

/-- R348: V_ref of a group in V for this beat. (DESIGN CHOICE: note 95.) -/
def Dev.vrefStep (d : Dev) (g : Nat) : Rat :=
  let set : Rat := ((d.get F.GRP_VSET.VSET g : Nat) : Rat) / 1000
  if d.get F.GRP_STATUS.STATE g = 2 then
    let v := (unit d.groups g).vref
    let s : Rat := ((d.get F.GRP_SS.SS_SLEW g * 1024 : Nat) : Rat) / 1000000
    if v < set then min set (v + s) else max set (v - s)
  else set

/-- R348: the end of soft-start. -/
def Dev.ssCheck (d : Dev) (g : Nat) : Dev :=
  if d.get F.GRP_STATUS.STATE g ≠ 2 then d
  else
    let v := d.sns (voIn g)
    let set : Rat := ((d.get F.GRP_VSET.VSET g : Nat) : Rat) / 1000
    let near := decide (v - set ≤ set / 100) && decide (set - v ≤ set / 100)
    let n := if near then (unit d.groups g).within + 1 else 0
    let d := d.grp g (fun x => { x with within := n })
    if n < 16 then d
    else ((d.grpLoanEnd g).set F.GRP_STATUS.STATE 3 g).raise 109 0 g (leBytes 4 ((d.tick - (unit d.groups g).ssTick) / 100000))

/-- R349: the stop ceiling for this beat, and the end of the ramp: in the beat of its start it stands at |Î_out| of that beat. -/
def Dev.stopStep (d : Dev) (g : Nat) : Dev :=
  match (unit d.groups g).cStop with
  | none => d
  | some c =>
    let v := max (d.sns (voIn g)) 1
    let i := max (d.iout g) (-(d.iout g))
    let c := if (unit d.groups g).stopBeat = d.beat then i else max 0 (c - ((d.get F.ARR_STOP.STOP_RAMP * 1024 : Nat) : Rat) / 100 / v)
    let d := d.grp g (fun x => { x with cStop := some c })
    let zero := decide (d.iLim g (d.get F.GRP_ISET.FWD g) ≤ 0) && decide (d.iLim g (d.get F.GRP_ISET.REV g) ≤ 0)
    let q := if zero && decide (i * 100 < ((d.get F.GRP_IMAX.I_MAX g : Nat) : Rat)) then (unit d.groups g).quiet + 1 else 0
    let d := d.grp g (fun x => { x with quiet := q })
    if 16 ≤ q then d.grpOff g else d

/-- R342: every shed phase returns. -/
def Dev.unshed (d : Dev) (g : Nat) (ks : List Nat) : Dev :=
  if ks.isEmpty then d
  else (d.each ks (fun d k => d.set F.PH_STATUS.STATE 1 k)).respread g ks

/-- R343: burst mode ends; switching resumes at the next boundaries. -/
def Dev.burstEnd (d : Dev) (g : Nat) : Dev :=
  let d := ((d.set F.GRP_STATUS.STATE 3 g).setB F.GRP_STATUS.BURST_SLEEP false g).grp g (fun x => { x with sleepBeats := 0 })
  d.each (d.phIn g 1) (fun d k => d.phs k (fun x => { x with burst := 0 }))

/-- R343: a burst begins: each active phase runs BURST_PERIODS periods, after the period that runs already. -/
def Dev.burstRun (d : Dev) (g : Nat) : Dev :=
  let n := d.get F.GRP_BURST.BURST_PERIODS g
  let d := ((d.set F.GRP_STATUS.STATE 4 g).setB F.GRP_STATUS.BURST_SLEEP false g).grp g (fun x => { x with sleepBeats := 0 })
  (d.each (d.phIn g 1) (fun d k => d.phs k (fun x => { x with burst := if (unit d.pwm (2 * k)).hold then n else n + 1 }))).inc F.GRP_BURST_COUNT.COUNT 1 g

/-- R341 to R343, R351: load step, shedding and return, burst entry and exit, in that order, from I_ref of the beat that ends: in soft-start (no
burst there), running and burst. (DESIGN CHOICE: note 95.) -/
def Dev.shedBeat (d : Dev) (g : Nat) : Dev :=
  let s := d.get F.GRP_STATUS.STATE g
  let ir := d.iRef g
  let mag := max ir (-ir)
  let was := (unit d.groups g).iref
  let step := decide (((d.get F.GRP_SHED_T.STEP_I g : Nat) : Rat) ≤ max (ir - was) (was - ir))
  let bi : Rat := ((d.get F.GRP_BURST.BURST_I g : Nat) : Rat) / 10
  let d := d.grp g (fun x => { x with iref := ir, holdOff := x.holdOff + 1, burstBelow := if 2 ≤ s ∧ s ≤ 4 ∧ mag < bi then x.burstBelow + 1 else 0 })
  if s < 2 ∨ 4 < s then d.grp g (fun x => { x with shedBelow := 0 })
  else if step then
    let d := if s = 4 then d.burstEnd g else d
    let shed := d.phIn g 2
    (d.unshed g shed).grp g (fun x => if shed.isEmpty then { x with shedBelow := 0 } else { x with shedBelow := 0, holdOff := 0 })
  else
    let act := d.phIn g 1
    let n := act.length
    let opt : Rat := (d.get F.GRP_SHED.I_PH_OPT g : Nat)
    let hyst : Rat := (d.get F.GRP_SHED.SHED_HYST g : Nat)
    let nmin := d.get F.GRP_SHED.N_MIN g
    let en := d.bit F.GRP_SHED.SHED_EN g && opt != 0
    let below := decide (mag < (((n : Int) - 1 : Int) : Rat) * opt * (1 - hyst / 100))
    let cnt := if en && below then (unit d.groups g).shedBelow + 1 else 0
    let d := d.grp g (fun x => { x with shedBelow := cnt })
    let hold := d.get F.GRP_SHED_T.SHED_HOLD g
    let d :=
      if en ∧ opt * ((n : Nat) : Rat) < mag ∧ !(d.phIn g 2).isEmpty then (d.unshed g ((d.phIn g 2).take 1)).grp g (fun x => { x with shedBelow := 0, holdOff := 0 })
      else if en ∧ hold ≤ cnt ∧ cnt ≠ 0 ∧ nmin < n ∧ hold ≤ (unit d.groups g).holdOff then
        match act.getLast? with
        | some k => ((((d.set F.PH_STATUS.STATE 2 k).phs k (fun x => { x with ending := true })).respread g []).inc F.GRP_SHED_COUNT.COUNT 1 g).grp g (fun x => { x with shedBelow := 0, holdOff := 0 })
        | none => d
      else d
    if s = 4 then
      (if !d.bit F.GRP_SHED.BURST_EN g ∨ (!d.bit F.GRP_STATUS.BURST_SLEEP g ∧ 3 * bi / 2 ≤ mag) then d.burstEnd g
       else if d.bit F.GRP_STATUS.BURST_SLEEP g then d.grp g (fun x => { x with sleepBeats := x.sleepBeats + 1 }) else d)
    else if s = 3 ∧ d.bit F.GRP_SHED.BURST_EN g ∧ (d.phIn g 1).length = nmin ∧ 100 ≤ (unit d.groups g).burstBelow then d.burstRun g
    else d

/-- R334, R335, R340: the owner's inputs and limits of a group's slots. -/
def Dev.grpInputs (d : Dev) (g : Nat) : Dev :=
  let vr := d.vrefStep g
  let i := d.iout g
  let d := d.grp g (fun x => { x with vref := vr, iout := i })
  let v := d.sns (voIn g)
  let fwd := d.iLim g (d.get F.GRP_ISET.FWD g)
  let rev := d.iLim g (d.get F.GRP_ISET.REV g)
  let vs := d.get F.GRP_SLOTS.VSLOT g
  let d := (d.setS F.GRP_VOUT.V (v * 1000).floor g).setS F.GRP_IOUT.I (rRound (i * 10)) g
  let d := (d.setB F.GRP_STATUS.FOLDBACK (decide (d.iFold g < ((d.get F.GRP_IMAX.I_MAX g : Nat) : Rat))) g).set F.GRP_STATUS.ILIM (max 0 fwd).floor.toNat g
  let d := (d.ownA vs (vr - v)).slot vs (fun x => { x with hi := some (fRnd fwd), lo := some (fRnd (-rev)) })
  let m := d.ilMean g
  let d := d.each (d.phasesOf g) (fun d k => d.ownA (d.get F.GRP_SLOTS.SHARE_BASE g + k) (m - d.sns k))
  let slots := vs :: d.get F.GRP_SLOTS.ISLOT g :: (d.phasesOf g).map (fun k => d.get F.GRP_SLOTS.SHARE_BASE g + k)
  d.each slots (fun d k => d.slot k (fun x => { x with frozen := d.bit F.GRP_STATUS.BURST_SLEEP g }))

/-- R337: the link current of the output stage, in 0.1 A, written at tick 8: until then a read finds the last one (R8). -/
def Dev.linkCurrent (d : Dev) : Dev :=
  let q := ((those 2 (fun g => !(d.phasesOf g).isEmpty)).map (fun g => d.sns (voIn g) * d.iout g)).sum
  let d := { d with os := { d.os with linkWas := d.get F.OS_LINK.I_LINK, linkAt := d.tick } }
  d.setS F.OS_LINK.I_LINK (rRound (d.quot q (d.sns 14) * 10))

/-- R331 to R333, R353: the beat means are latched; open lines, calibration ranges and the brake's energy are judged. -/
def Dev.osSense (d : Dev) (sense : List (List Nat)) : Dev :=
  let d := d.each (those 16 (fun m => d.bit F.SNS_DECL.DECLARED m)) (fun d m => d.senseBeat m (sense.getD m []))
  if d.bit F.OS_CTRL.BRAKE_DECL then d.brakeBeat else d

/-- R334 to R349: the group loops' part of a beat's start, after the commands of the beat. -/
def Dev.osBeat (d : Dev) : Dev :=
  let gs := those 2 (fun g => !(d.phasesOf g).isEmpty)
  if gs.isEmpty then d
  else
    let d := d.each gs (fun d g => ((((d.stopStep g).ssCheck g).shedBeat g).grpInputs g).capCheck g)
    d.linkCurrent.free

/-- R294, R334: the voltage slot has released: the current slot's input, with the output current of the beat's input set. -/
def Dev.osRelease (d : Dev) (k : Nat) : Dev :=
  d.each (those 2 (fun g => !(d.phasesOf g).isEmpty && d.get F.GRP_SLOTS.VSLOT g == k)) (fun d g => d.ownA (d.get F.GRP_SLOTS.ISLOT g) (d.iRef g - (unit d.groups g).iout))

/-! Starting (R348) -/

/-- R348: the soft-start loan of a group is granted. -/
def Dev.grpStart (d : Dev) (g : Nat) : Dev :=
  let ks := (d.phasesOf g).filter (fun k => d.get F.PH_STATUS.STATE k != 3 && d.get F.PH_STATUS.STATE k != 4)
  let d := d.stageStart 0 (ks.flatMap (fun k => [2 * k, 2 * k + 1]))
  let d := d.set F.GRP_STATUS.STATE 2 g
  let ref := d.grpRef g
  let d := d.each ks (fun d k => d.set F.PH_STATUS.STATE 1 k)
  let per := d.get F.GRP_PERIOD.PERIOD g
  let n := ks.length
  let d := (List.range n).foldl (fun d j => (d.set F.PH_STATUS.SLOT j (ks.getD j 0)).phStart ref (ks.getD j 0) (slotOffset per j n)) d
  let d := (d.set F.GRP_STATUS.N_ACTIVE n g).grp g (fun x => { x with vref := d.sns (voIn g), iref := d.iRef g, ssTick := d.tick, within := 0, cStop := none, quiet := 0
                                                                      shedBelow := 0, holdOff := 0, burstBelow := 0, sleepBeats := 0 })
  d.arm (.ssMax g) (msT (d.get F.GRP_SS.SS_TMAX g))

/-- R348: an enable from state 0 files the loan; anything else changes nothing. True where something changed. -/
def Dev.grpEnable (d : Dev) (g : Nat) : Dev × Bool :=
  if d.get F.GRP_STATUS.STATE g = 0 then
    -- R345: the group has been disabled and is enabled again; SENSE_LOST stays until its LOST bit is cleared
    let d := d.each (d.phasesOf g) (fun d k =>
      if d.get F.PH_STATUS.STATE k = 3 ∨ (d.get F.PH_STATUS.STATE k = 4 ∧ !d.flag F.OS_SENSE_LOST.LOST k) then d.set F.PH_STATUS.STATE 5 k else d)
    ((d.set F.GRP_STATUS.STATE 1 g).loanFile 9 g, true)
  else (d, false)

/-- R349: a disable starts the stop ceiling; in state 0 it changes nothing. -/
def Dev.grpDisable (d : Dev) (g : Nat) : Dev × Bool := if d.get F.GRP_STATUS.STATE g = 0 then (d, false) else (d.grpStop g, true)

/-- R355: an input that an enable needs shows LOST. -/
def Dev.grpSenseLost (d : Dev) (g : Nat) : Bool :=
  d.flag F.OS_SENSE_LOST.LOST 14 || d.flag F.OS_SENSE_LOST.LOST (voIn g) || (d.phasesOf g).any (fun k => d.flag F.OS_SENSE_LOST.LOST k)

/-- R352: entry to PRECHARGE arms the brake; its stage is restarted. -/
def Dev.brakeArm (d : Dev) : Dev :=
  if d.bit F.OS_CTRL.BRAKE_DECL ∧ !d.flag F.OS_SENSE_LOST.LOST 14 then (d.setB F.OS_STATUS.BRAKE_ARMED true).stageStart 1 [24, 25] else d

/-- R103, R348, R350: leaving STOP or LOCKOUT by RELEASE or a lock-out reset: a fast-stopped group goes to state 0. (DESIGN CHOICE: note 96.) -/
def Dev.grpRelease (d : Dev) : Dev := d.each [0, 1] (fun d g => if d.get F.GRP_STATUS.STATE g = 6 then d.grpOff g else d)

/-! Commands -/

/-- R336: tick W of a group: the compares go to the shadow registers. -/
def execOsShadowWrite (g : Fin 2) (s : State) : Host.Outcome State Fault Refusal := onMain s fun d =>
  if (d.phasesOf g).isEmpty ∨ !d.energy then d
  else
    let is := d.get F.GRP_SLOTS.ISLOT g
    d.atPhase ((d.get F.SLOT_CFG.RELEASE is + 2) % 1024) fun d =>
    let dd := d.yOut is
    let df := d.dff g
    let tm : Rat := ((d.get F.GRP_OPEN.TRIM_MAX g : Nat) : Rat) / 1000
    let lo : Rat := ((d.get F.GRP_DUTY.D_MIN g : Nat) : Rat) / 1000
    let hi : Rat := ((d.get F.GRP_DUTY.D_MAX g : Nat) : Rat) / 1000
    let per := d.get F.GRP_PERIOD.PERIOD g
    (d.each (d.phIn g 1) (fun d k =>
      let t := rClamp (-tm) tm (d.yOut (d.get F.GRP_SLOTS.SHARE_BASE g + k))
      let c := (rRound (rClamp lo hi (df + dd + t) * ((per * 64 : Nat) : Rat))).toNat
      (((d.setS F.PH_TRIM.TRIM (rRound (t * 100000)) k).phs k (fun x => { x with trim := t })).set F.PW_SHADOW.CMP (min c 0x3FFFFFF) (2 * k)).pw (2 * k) (fun p => { p with shPeriod := per }))).free

/-- R344: the share error of a phase over its last period, and its declaration. -/
def Dev.openCheck (d : Dev) (k : Nat) : Dev :=
  let g := d.grpOf k
  let act := d.phIn g 1
  let cur := fun j => (unit d.phases j).iavg
  let e := (act.map cur).sum / ((max 1 act.length : Nat) : Rat) - cur k
  let t := (unit d.phases k).trim
  let tm : Rat := ((d.get F.GRP_OPEN.TRIM_MAX g : Nat) : Rat) / 1000
  let far := decide (((d.get F.GRP_OPEN.OPEN_ERR g : Nat) : Rat) < max e (-e)) && ((t == tm && decide (0 < e)) || (t == -tm && decide (e < 0)))
  let n := if far then (unit d.phases k).openCnt + 1 else 0
  let d := d.phs k (fun x => { x with openCnt := n })
  if d.get F.GRP_OPEN.OPEN_PERIODS g ≤ n ∧ n ≠ 0 then
    d.phaseOut k 3 (fun d => d.raise 104 2 k (leBytes 4 (ofS 32 (rRound (e * 10)))) none (some 1024))
  else d

/-- R339: a crossing ends the link-switch pulse of a phase that runs it, or that would start it in the running period; the phase-period is counted. -/
def Dev.truncate (d : Dev) (k : Nat) : Dev :=
  let g := d.grpOf k
  let p := unit d.pwm (2 * k)
  let pulse := !p.cut && d.pwWant (2 * k) == 1 && !d.pwBlocked (2 * k)
  match (unit d.groups g).cross with
  | some (_, excess) =>
    let tr := (unit d.phases k).trunc
    if tr ≠ 0 ∧ ((tr : Nat) : Rat) ≤ excess ∧ 0 ≤ d.iRef g then
      let d := if pulse then d.inc F.GRP_TRUNC_COUNT.COUNT 1 g else d
      (d.pw (2 * k) (fun p => { p with cut := true })).phDrive k
    else d
  | none => d

/-- R361 to R364, R317, R338, R339, R341, R343, R344: a period boundary of a channel, with its phase current's raw codes over the period that ends. The complement
of a pair has no boundary of its own (R365). -/
def execPwmPeriodBoundary (c : Fin 32) (i : PhaseMean) (s : State) : Host.Outcome State Fault Refusal := onMain s fun d =>
  if (c % 2 = 1 ∧ (d.partner c).isSome) ∨ (unit d.pwm c).length = 0 then d
  else if d.stageOf c = 0 then
    let k := c / 2
    let g := d.grpOf k
    let mean := d.snsVal k (codeMean i.codes)
    let d := if i.codes.isEmpty then d else (d.setS F.PH_IAVG.I (rRound (mean * 10)) k).phs k (fun x => { x with iavg := mean })
    let x := unit d.phases k
    if x.ending then
      -- R341: a shed phase has finished its running period
      let d := d.until (d.osWhen (unit d.pwm c).start (unit d.pwm c).length / 64)
      ((d.phs k (fun x => { x with ending := false, move := [] })).pw c (fun p => { p with length := 0 })).phDrive k
    else
    let bursting := d.get F.GRP_STATUS.STATE g = 4 ∧ !d.bit F.GRP_STATUS.BURST_SLEEP g
    let first := (unit d.pwm c).hold
    let left := if first then x.burst else x.burst - 1
    let hold := d.bit F.GRP_STATUS.BURST_SLEEP g || (decide bursting && left == 0)
    let d := d.phs k (fun x => { x with move := x.move.drop 1, burst := if bursting then left else x.burst, trunc := d.get F.GRP_TRUNC.TRUNC g })
    let d := d.pwBoundary c (x.move.headD 0) hold
    -- R339: a crossing sampled at the boundary tick truncates the new period's pulse
    let d := if (unit d.groups g).cross.any (fun y => y.1 == d.tick) then d.truncate k else d
    let d := d.set F.PH_COMPARE.COMPARE (d.get F.PW_CMP.CMP c) k
    let d := if d.get F.PH_STATUS.STATE k = 1 ∧ !first then d.openCheck k else d
    if bursting ∧ (d.phIn g 1).all (fun j => (unit d.phases j).burst == 0) then
      let d := (d.setB F.GRP_STATUS.BURST_SLEEP true g).grp g (fun y => { y with sleepBeats := 0 })
      d.each (d.phIn g 1) (fun d j => d.phDrive j)
    else d
  else if d.stageOf c = 2 then
    -- R389: a change of direction takes effect at the period boundary
    (if d.os.drive = 0 then d else d.setB F.HALL_STATUS.DIR (decide (d.os.drive < 0))).pwBoundary c 0
  else d.pwBoundary c 0

/-- R339: an output-voltage sample of a group against V_ref + TRUNC, for each phase with the TRUNC in force for it (R317). -/
def execOsTruncation (g : Fin 2) (code : Nat) (s : State) : Host.Outcome State Fault Refusal := onMain s fun d =>
  let st := d.get F.GRP_STATUS.STATE g
  let excess := (d.snsVal (voIn g) ((code : Nat) : Rat) - (unit d.groups g).vref) * 10
  if 2 ≤ st ∧ st ≤ 5 then
    (d.grp g (fun x => { x with cross := some (d.tick, excess) })).each (d.phIn g 1 ++ (d.phIn g 2).filter (fun k => (unit d.phases k).ending)) (fun d k => d.truncate k)
  else d

/-- R352: a VDL sample against the brake thresholds. -/
def execBrakeDecision (code : Nat) (s : State) : Host.Outcome State Fault Refusal := onMain s fun d =>
  let v := d.snsVal 14 ((code : Nat) : Rat)
  let cs := if d.bit F.OS_CTRL.BRAKE_DUAL then [24, 25] else [24]
  if !d.bit F.OS_STATUS.BRAKE_ARMED then d
  else if ((d.get F.OS_BRAKE.ON_V : Nat) : Rat) ≤ v then
    (if d.pwBlocked 24 then d
     else (if d.bit F.OS_STATUS.BRAKE_ON then d else (d.setB F.OS_STATUS.BRAKE_ON true).inc F.OS_BRAKE_COUNT.COUNT 1).each cs (fun d c => d.pwOn c))
  else if v < ((d.get F.OS_BRAKE.OFF_V : Nat) : Rat) ∧ d.bit F.OS_STATUS.BRAKE_ON then
    (d.each cs (fun d c => d.pwOff c)).setB F.OS_STATUS.BRAKE_ON false
  else d

/-- R343: a sample of V_out, or SLEEP_MAX beats, ends a burst sleep at the next boundary. -/
def execOsBurstWake (g : Fin 2) (code : Nat) (s : State) : Host.Outcome State Fault Refusal := onMain s fun d =>
  if d.get F.GRP_STATUS.STATE g ≠ 4 ∨ !d.bit F.GRP_STATUS.BURST_SLEEP g then d
  else
    let v := d.snsVal (voIn g) ((code : Nat) : Rat)
    let x := v - ((d.get F.GRP_VSET.VSET g : Nat) : Rat) / 1000
    let off := max x (-x) * 10
    let band : Rat := (d.get F.GRP_BURST_V.BAND g : Nat)
    if 2 * band < off then d.burstEnd g
    else if band < off ∨ d.get F.GRP_BURST_V.SLEEP_MAX g ≤ (unit d.groups g).sleepBeats then d.burstRun g
    else d

/-- R348: soft-start has not ended within SS_TMAX. -/
def execOsSsTimeout (g : Fin 2) (s : State) : Host.Outcome State Fault Refusal := onMain s fun d =>
  d.fire (.ssMax g) fun d =>
    if d.get F.GRP_STATUS.STATE g = 2 then (d.grpOff g).raise 110 1 g (leBytes 4 (d.get F.GRP_VOUT.V g)) else d

end Sys2Proof.Machine
end

