-- ==== Sys2Proof/Machine/Collector.lean ====
section
/-! DEFINITION. The collector servo (R397 to R418): encoders, SSI, the position and its reference, the profile and the slots, moves, reactions. -/

namespace Sys2Proof.Machine

/-- Sub-ticks of a second (R2, R4). -/
def subPerSec : Rat := 6400000000

/-! Position -/

/-- The collector exists and drives (states 2 to 5). -/
def Dev.colMoving (d : Dev) : Bool := 2 ≤ d.get F.COL_STATUS.STATE && d.get F.COL_STATUS.STATE ≤ 5

/-- R406, R415: VALID follows the reference, ENC1's EDGE_OVR and the line-count faults; that it fell is kept until the next latch. -/
def Dev.colValid (d : Dev) : Dev :=
  let ok := d.bit F.COL_STATUS.REFERENCED && !(unit d.enc 0).ovr && !d.bit F.ENC_STATUS.LINE_FAULT 0 && !d.bit F.ENC_STATUS.LINE_FAULT 1
  ({ d with col := { d.col with fell := d.col.fell || (d.bit F.COL_STATUS.VALID && !ok) } }).setB F.COL_STATUS.VALID ok

/-- R403: p, as a signed 32-bit number, for an ENC1 count. -/
def Dev.posAt (d : Dev) (count : Nat) : Int := toS 32 (count + d.get F.COL_OFFSET.OFFSET)

/-- R406: the reference makes `p` the position at an ENC1 count. An EDGE_OVR of ENC1 stays pending until its next index check; without an index check
(LINES 0) the reference ends it. (DESIGN CHOICE: note 98.) -/
def Dev.colRefer (d : Dev) (p : Int) (count : Nat) : Dev :=
  let d := (d.setS F.COL_OFFSET.OFFSET (p - (count : Int))).setB F.COL_STATUS.REFERENCED true
  (d.en 0 (fun e => { e with ovr := e.ovr && d.get F.ENC_CFG.LINES 0 != 0 })).colValid

/-- R399, R401, R407: the position becomes invalid, with the encoder and the cause. -/
def Dev.colInvalid (d : Dev) (enc cause : Nat) (lose : Bool) : Dev :=
  let d := (if lose then d.setB F.COL_STATUS.REFERENCED false else d).colValid
  d.raise 148 2 enc [cause] none (some 1024)

/-- R407: the cross-check of a second position against the first. (DESIGN CHOICE: note 97.) -/
def Dev.crossCheck (d : Dev) (p2 p : Rat) : Dev :=
  if ((d.get F.COL_XCHK_TOL.TOL : Nat) : Rat) < max (p2 - p) (p - p2) then (d.setB F.COL_STATUS.XCHK_FAIL true).colInvalid 2 3 true else d

/-! Encoder edges and indices (R398 to R402) -/

/-- R397: an encoder is evaluated as an incremental one. -/
def Dev.encOn (d : Dev) (n : Nat) : Bool := n == 0 || d.get F.COL_CFG.ENC2_MODE == 1

/-- R402: a reversal, coalesced to at most one event per µs. -/
def Dev.reversal (d : Dev) (n instant : Nat) : Dev :=
  let d := d.inc F.ENC_REVERSALS.COUNT 1 n
  let e := unit d.enc n
  let free := match e.revAt with | none => true | some t => decide (t + 6400 ≤ instant)
  if free && e.revs == 0 then
    (d.en n (fun e => { e with revAt := some instant })).raise 145 0 (n + 1) (leBytes 4 1 ++ [d.get F.ENC_STATUS.DIR n]) (some instant)
  else
    let d := if e.revs = 0 then d.arm (.reversal n) (((e.revAt.getD 0 + 6463) / 64) - d.tick) else d
    d.en n (fun e => { e with revs := e.revs + 1 })

/-- R399: EDGE_OVR of an encoder. (DESIGN CHOICE: note 98.) -/
def Dev.edgeOvr (d : Dev) (n : Nat) : Dev :=
  let was := (unit d.enc n).ovr
  let d := ((d.setB F.ENC_STATUS.EDGE_OVR true n).inc F.ENC_OVR_COUNT.COUNT 1 n).en n (fun e => { e with ovr := true })
  if n = 0 ∧ !was then d.colInvalid 1 1 false else d

/-- R398 to R402: the levels of A and B at a sample; an input that is no incremental encoder shows its levels only. -/
def execEncoderEdge (n : Fin 2) (a b : Bool) (instant : Nat) (s : State) : Host.Outcome State Fault Refusal := onMain s fun d =>
  let d := d.until (instant / 64)
  if !d.encOn n then d.set F.ENC_STATUS.LEVELS (b2n a + 2 * b2n b + d.get F.ENC_STATUS.LEVELS n / 4 * 4) n
  else
    let t := instant / 8 * 8
    let stamp := d.stampAt instant / 8 * 8
    let lv := d.get F.ENC_STATUS.LEVELS n
    let a0 := lv.testBit 0
    let b0 := lv.testBit 1
    let d := d.set F.ENC_STATUS.LEVELS (b2n a + 2 * b2n b + lv / 4 * 4) n
    if a ≠ a0 ∧ b ≠ b0 then (d.edgeOvr n).en n (fun e => { e with edgeA := t, edgeB := t })
    else if a = a0 ∧ b = b0 then d
    else
      let onA := a ≠ a0
      let up := (if onA then a != b else a == b) != d.bit F.ENC_CFG.INV n
      let e := unit d.enc n
      let close := t < (if onA then e.edgeA else e.edgeB) + 64 && (if onA then e.edgeA else e.edgeB) != 0
      let c := (d.get F.ENC_COUNT.COUNT n + (if up then 1 else 2 ^ 32 - 1)) % 2 ^ 32
      let back := e.moved && d.bit F.ENC_STATUS.DIR n == up
      -- R403: an edge in the sample at tick 0 belongs to the next beat
      let early := t % 65536 == 0 && d.arr.beat != some d.beat && d.get F.COL_CFG.KIND != 0
      let held := if early then some (e.held.getD (d.get F.ENC_COUNT.COUNT n, e.lastEdge, e.lastCount)) else e.held
      let d := d.en n (fun e => { e with held := held, trail := (t, d.get F.ENC_COUNT.COUNT n) :: e.trail.filter (fun x => decide (t ≤ x.1 + 17 * 65536)) })
      let d := (d.set F.ENC_COUNT.COUNT c n).setB F.ENC_STATUS.DIR (!up) n
      let d := d.en n (fun e => { e with edgeA := if onA then t else e.edgeA, edgeB := if onA then e.edgeB else t, lastEdge := stamp, lastCount := c, moved := true })
      let d := if close then d.edgeOvr n else d
      if back then d.reversal n stamp else d

/-- R402: the reversals collected over a µs are reported. -/
def execColReversal (n : Fin 2) (s : State) : Host.Outcome State Fault Refusal := onMain s fun d =>
  d.fire (.reversal n) fun d =>
    let r := (unit d.enc n).revs
    (d.en n (fun e => { e with revs := 0, revAt := some (e.revAt.getD 0 + 6400) })).raise 145 0 (n + 1) (leBytes 4 r ++ [d.get F.ENC_STATUS.DIR n])

/-- R400, R401: a latch's check or re-reference. -/
def Dev.indexCheck (d : Dev) (n : Nat) (x : Int) : Dev :=
  let l4 : Int := 4 * (d.get F.ENC_CFG.LINES n : Nat)
  let tol : Int := (d.get F.ENC_CFG.LINE_TOL n : Nat)
  if l4 = 0 then d
  else if (unit d.enc n).ovr then
    let k := rRound ((x : Rat) / (l4 : Rat))
    let d := if n = 0 then d.setS F.COL_OFFSET.OFFSET ((d.get F.COL_OFFSET.OFFSET : Nat) + k * l4 - x) else d
    (d.en n (fun e => { e with ovr := false })).colValid
  else if x.natAbs ≤ tol.natAbs ∨ (x - l4).natAbs ≤ tol.natAbs ∨ (x + l4).natAbs ≤ tol.natAbs then d
  else (d.setB F.ENC_STATUS.LINE_FAULT true n).colInvalid (n + 1) 2 true

/-- R412, R410: the move in progress ends with the stop profile. -/
def Dev.colStopping (d : Dev) : Dev := { d with col := { d.col with stopping := true } }

/-- R400, R406: the level of an encoder's Z; an index latches in either direction at the same point of the shaft. -/
def execEncoderIndex (n : Fin 2) (z : Bool) (s : State) : Host.Outcome State Fault Refusal := onMain s fun d =>
  let lv := d.get F.ENC_STATUS.LEVELS n
  let was := lv.testBit 2
  let d := d.set F.ENC_STATUS.LEVELS (lv % 4 + 4 * b2n z) n
  if !d.encOn n then d
  else
    let down := d.bit F.ENC_STATUS.DIR n
    if z = was ∨ z = down then d
    else
      let c := d.get F.ENC_COUNT.COUNT n
      let x := toS 32 (c + 2 ^ 32 - d.get F.ENC_IDX.LATCH n)
      let seen := d.bit F.ENC_STATUS.IDX_SEEN n
      let d := (d.set F.ENC_IDX.LATCH c n).setB F.ENC_STATUS.IDX_SEEN true n
      let d := if seen then (d.setS F.ENC_IDX_DIFF.D x n).indexCheck n x else d
      if n.val = 1 then
        let d := d.en 1 (fun e => { e with ovr := false })
        if d.get F.COL_STATUS.STATE = 5 ∧ !d.col.stopping then
          -- the profile moves with the new origin, so that it has no step
          let shift := d.getS F.COL_HOME_POS.POS - d.posAt (d.get F.ENC_COUNT.COUNT 0)
          (({ d with col := { d.col with home := c, r := d.col.r + shift * 2 ^ 16 } }).colRefer (d.getS F.COL_HOME_POS.POS) (d.get F.ENC_COUNT.COUNT 0)).colStopping
        else d
      else d

/-- R404: binary from Gray code. -/
def unGray (w x : Nat) : Nat := (List.range w).foldl (fun a j => a ^^^ (x >>> j)) 0 % 2 ^ w

/-- R404: the level of ENC2_A `t` ticks after the frame start, and the bit sampled DLY ticks after falling edge `k` of the clock, the edge at the start being 0. -/
def ssiLevel (x : SsiFrame) (t : Nat) : Bool := x.high != ((x.turns.filter (fun y => decide (y ≤ t))).length % 2 == 1)
def Dev.ssiBit (d : Dev) (x : SsiFrame) (k : Nat) : Bool := ssiLevel x (k * d.get F.SSI_CFG.DIV + d.get F.SSI_CFG.DLY)

/-- R404: the data bits of a frame, MSB first, its error bit and its trailing bit; R405: whether the frame is valid. -/
def Dev.ssiData (d : Dev) (x : SsiFrame) : Nat := (List.range (d.get F.SSI_CFG.BITS)).foldl (fun v k => 2 * v + b2n (d.ssiBit x (k + 1))) 0
def Dev.ssiErr (d : Dev) (x : SsiFrame) : Bool := d.bit F.SSI_CFG.ERR_EN && d.ssiBit x (d.get F.SSI_CFG.BITS + 1)
def Dev.ssiGood (d : Dev) (x : SsiFrame) : Bool :=
  x.high && !d.ssiBit x (d.get F.SSI_CFG.BITS + d.get F.SSI_CFG.ERR_EN + 1) && !d.ssiErr x

/-- R404: tick at which the next SSI frame starts: START ticks into the first read span whose frame has neither been taken nor passed. -/
def Dev.ssiNext (d : Dev) : Nat :=
  let span := 1024 * (d.get F.SSI_CFG.EVERY + 1)
  let off := d.get F.SSI_START.START
  let k := (d.tick + span - 1 - off - d.ssiLen) / span
  let k := match d.col.ssiAt with | some t => max k ((t - off) / span + 1) | none => k
  k * span + off

/-- R404: ENC1's count at an instant: the count before the first edge at or after it. -/
def Dev.countAt (d : Dev) (instant : Nat) : Nat :=
  match ((unit d.enc 0).trail.filter (fun x => decide (instant ≤ x.1))).getLast? with
  | some x => x.2
  | none => d.get F.ENC_COUNT.COUNT 0

/-- R404 to R407: the next SSI frame, as it came: it ends, and its position is compared with ENC1's at its start. -/
def execSsiFrame (x : SsiFrame) (s : State) : Host.Outcome State Fault Refusal := onMain s fun d =>
  if d.get F.COL_CFG.ENC2_MODE ≠ 2 then d
  else
    let start := d.ssiNext
    let d := d.until (start + d.ssiLen)
    let d := { d with col := { d.col with ssiAt := some start } }
    let captured := d.countAt (start * 64)
    let d := d.setB F.SSI_STATUS.ENC_ERR (d.ssiErr x)
    if !d.ssiGood x then
      let n := d.col.badSsi + 1
      let d := ((d.setB F.SSI_STATUS.LAST_OK false).inc F.SSI_ERR_COUNT.COUNT 1)
      let d := { d with col := { d.col with badSsi := n } }
      if n = 3 then (d.raise 147 1 2 (leBytes 4 (d.get F.SSI_VALUE.VALUE))).checkFail 23 2 else d
    else
      let w := d.get F.SSI_CFG.BITS
      let v : Nat := if d.bit F.SSI_CFG.GRAY then unGray w (d.ssiData x) else d.ssiData x
      let d := (d.set F.SSI_VALUE.VALUE v).setB F.SSI_STATUS.LAST_OK true
      let d := ({ d with col := { d.col with badSsi := 0, ssiSeen := true } }).checkPass 23 2
      let p2 := rRound (((v : Int) - (d.get F.SSI_ZERO.ZERO : Nat) : Int) * ((d.get F.COL_XCHK.NUM : Nat) : Rat) / ((d.get F.COL_XCHK.DEN : Nat) : Rat))
      if d.bit F.COL_STATUS.REFERENCED then d.crossCheck p2 (d.posAt captured)
      else if d.bit F.COL_STATUS.XCHK_FAIL then d
      else d.colRefer p2 captured

/-! The profile (R410) -/

/-- R410: the peak speed of a profile of `dist` (2^-16 counts) at acceleration `a` from speed `v`, in counts/s. -/
def peakSpeed (speed a : Nat) (v dist : Int) : Nat :=
  min speed ((dist.natAbs * a + v.natAbs * v.natAbs / 2 ^ 17) / 2 ^ 16).sqrt

/-- R410: one beat of the profile: new reference and speed in 2^-16 units, and whether it decelerates. The stop profile slows to zero at A_MAX. (DESIGN CHOICE: note 97.) -/
def profileStep (r v target : Int) (speed a : Nat) (stop : Bool) : Int × Int × Bool :=
  -- the change of speed in one beat of 10.24 µs: a · 2^16 · 16 / 1,562,500
  let dv : Int := (a * 1048576 / 1562500 : Nat)
  let go (v' : Int) : Int := r + (v + v') * 8 / 1562500
  if stop then
    let v' : Int := if v.natAbs ≤ dv.natAbs then 0 else if 0 < v then v - dv else v + dv
    (go v', v', true)
  else
    let dist := target * 2 ^ 16 - r
    if dist.natAbs ≤ 2 ^ 16 ∧ v.natAbs ≤ dv.natAbs then (target * 2 ^ 16, 0, true)
    else
      -- the fastest speed from which the remaining distance still stops at `a`: sqrt(2·a·dist)
      let lim : Int := min ((speed : Int) * 2 ^ 16) (((2 * a * dist.natAbs * 2 ^ 16).sqrt : Nat) : Int)
      let want : Int := if 0 ≤ dist then lim else -lim
      let v' : Int := if v < want then min want (v + dv) else max want (v - dv)
      (go v', v', decide (lim < (speed : Int) * 2 ^ 16) && decide (v'.natAbs ≤ v.natAbs))

/-! Starting, braking and moving -/

/-- R409: the drive stops: every actuator channel OFF by ordinary turn-off, PLL-S no longer demanded, state 0. -/
def Dev.colOff (d : Dev) : Dev :=
  let d := d.each [26, 28, 30] (fun d e => (d.pw e (fun p => { p with length := 0 })).pwDrive e)
  ({ (((d.loanReturn 10 0).loanDrop 10 0).set F.COL_STATUS.STATE 0).pllDrop 2 3 with os := { d.os with drive := 0 } }).disarm .brake

/-- R409: braking: u = 0 under commutation for BRAKE_BEATS. -/
def Dev.colBrake (d : Dev) : Dev :=
  if d.colMoving then
    let d := (d.loanReturn 10 0).set F.COL_STATUS.STATE 6
    let d := { d with os := { d.os with drive := 0 }, col := { d.col with u := 0 } }
    let d := (d.set F.COL_U.U 0).each [26, 28, 30] (fun d e => d.set F.PW_SHADOW.CMP 0 e)
    d.arm .brake (d.get F.COL_BAND.BRAKE_BEATS * 1024)
  else if d.get F.COL_STATUS.STATE = 1 then d.colOff
  else d

/-- R412: a profile towards a target with a speed and an acceleration (0: the maxima) from the present reference. -/
def Dev.colPlan (d : Dev) (item : Nat) (target : Int) (speed accel : Nat) : Dev :=
  let sp := if speed = 0 then d.get F.COL_VMAX.V_MAX else speed
  let ac := if accel = 0 then d.get F.COL_AMAX.A_MAX else accel
  let d := d.setS F.COL_TARGET.TARGET target
  { d with col := { d.col with item := item, speed := sp, accel := ac, stopping := item == 3, band := 0
                               peak := peakSpeed sp ac d.col.v (target * 2 ^ 16 - d.col.r) } }

/-- The state of a move's item (R412). -/
def itemState (item : Nat) : Nat := if item = 2 then 4 else if item = 5 then 5 else if item = 3 then 3 else 2

/-- R409, R414: the drive starts: the stage is restarted, the counters of the three pairs run, the profile leaves the present position. -/
def Dev.colStart (d : Dev) : Dev :=
  let d := d.stageStart 2 (List.range 6 |>.map (· + 26))
  let per := d.get F.COL_DRIVE.PERIOD
  let len := 64 * per
  let d := d.each [26, 28, 30] (fun d e => (d.set F.PW_SHADOW.CMP 0 e).pw e (fun p => if p.length ≠ 0 then p else
    { p with start := d.tick * 64 - d.osAfter 0 len, length := len, shPeriod := per, shOffset := 0, cmpDone := true, cut := false, hold := true }))
  let c := d.col
  let r := d.getS F.COL_POS.P * 2 ^ 16
  let d := { d with col := { c with r := r, v := 0, peak := peakSpeed c.speed c.accel 0 (d.getS F.COL_TARGET.TARGET * 2 ^ 16 - r) } }
  let d := (d.set F.COL_STATUS.STATE (itemState c.item)).inc F.COL_MOVES.COUNT 1
  -- R391, R394: the Hall inputs are evaluated from here
  let h := d.get F.HALL_STATUS.STATE
  if (h = 0 ∨ h = 7) ∧ !d.bit F.PWM_STAGE.HELD 2 then d.hallFault h h else d

/-- R409: a move that waits starts once its loan is granted, or it needs none, and PLL-S is locked. -/
def Dev.colReady (d : Dev) : Dev :=
  if d.get F.COL_STATUS.STATE = 1 ∧ !d.loanWait.any (fun q => q.op == 10) ∧ d.bit F.PLL_STATUS.LOCKED 2 then d.colStart else d

/-- R414: a move; in state 0 it files the loan (unless `exempt`, R82) and demands PLL-S; in any other state it replans. -/
def Dev.colMove (d : Dev) (item : Nat) (target : Int) (speed accel : Nat) (exempt : Bool) : Dev :=
  let s := d.get F.COL_STATUS.STATE
  let d := d.colPlan item target speed accel
  if s = 0 then
    let d := (d.set F.COL_STATUS.STATE 1).pllDemand 2 3
    (if exempt then d else d.loanFile 10 0).colReady
  else if s = 1 then (if exempt then ((d.loanDrop 10 0).colReady) else d)
  else (d.set F.COL_STATUS.STATE (itemState item)).inc F.COL_MOVES.COUNT 1

/-- R413: the first check that a COLLECTOR_MOVE fails. -/
def Dev.colCheck (d : Dev) (item : Nat) (target : Int) : Option Nat :=
  let guard := d.get F.COL_CFG.GUARD
  let inz := fun (p : Int) => decide (d.getS F.COL_CONTACT_LO.LO ≤ p) && decide (p < d.getS F.COL_CONTACT_HI.HI)
  let zone := d.st == PRECHARGE || d.st == RUN || (d.st == STOP && !d.arr.zeroPower)
  let s := d.get F.COL_STATUS.STATE
  let goal := if item = 5 then d.getS F.COL_HOME_POS.POS else target
  if item = 5 ∧ d.get F.COL_CFG.ENC2_MODE ≠ 1 then some 1
  else if item ≠ 5 ∧ item ≠ 4 ∧ !d.bit F.COL_STATUS.VALID then some 2
  else if (List.range 8).any (fun n => guard.testBit n && (d.get F.SAF_STATE.DEMAND).testBit n) then some 3
  else if zone ∧ item ≠ 3 ∧ item ≠ 4 ∧ inz (d.getS F.COL_POS.P) ∧ !inz goal then some 4
  else if s = 6 ∨ (s = 7 ∧ d.stageFlagged 2) then some 5
  else none

/-- R412 to R414: COLLECTOR_MOVE at its effect beat: the detail of a failure, or none. HOME upward counts up, as ENC_STATUS.DIR has it. (DESIGN
CHOICE: note 97.) -/
def Dev.colCommand (d : Dev) (item : Nat) (p1 : Int) (speed accel : Nat) : Dev × Option Nat :=
  let target := if item = 6 then d.getS F.COL_SAFE_POS.POS else if item = 1 ∨ item = 2 then p1 else d.getS F.COL_TARGET.TARGET
  match d.colCheck item target with
  | some c => (d, some c)
  | none =>
    -- R417: the next COLLECTOR_MOVE applied is the owner's restart of stage 2, as if in state 0
    let d := if d.get F.COL_STATUS.STATE = 7 then (d.stageStart 2 ((List.range 6).map (· + 26))).colOff else d
    let s := d.get F.COL_STATUS.STATE
    (match item with
     | 3 => if s = 0 then d
            else if s = 1 then { d with col := { d.col with item := 3, stopping := true } }
            else { d with col := { d.col with stopping := true } }
     | 4 => d.colBrake
     | 5 => (d.colMove 5 (if p1.toNat % 2 = 0 then 2 ^ 31 - 1 else -(2 ^ 31 : Int)) (max 1 (d.get F.COL_VMAX.V_MAX / 8)) 0 false)
     | _ => d.colMove item target speed accel false, none)

/-! The beat (R403, R408, R410, R414 to R418) -/

/-- R403: the speed estimate over the beat that ends, as binary32, with the last edge before the latch and its count. -/
def Dev.colSpeed (d : Dev) (last lastCount : Nat) : Nat :=
  let e : Enc := { unit d.enc 0 with lastEdge := last, lastCount := lastCount }
  let old := fRat (d.get F.COL_SPEED.V)
  if e.lastEdge ≠ e.latchEdge then
    fRnd (d.quot ((toS 32 (e.lastCount + 2 ^ 32 - e.latchCount) : Rat) * subPerSec) (if e.latchEdge = 0 then 0 else ((e.lastEdge : Rat) - (e.latchEdge : Rat))))
  else if 10000 ≤ d.col.quiet + 1 then 0
  else
    let lim := d.quot subPerSec (((d.tick * 64 : Nat) : Rat) - (e.lastEdge : Rat))
    if max old (-old) ≤ lim then d.get F.COL_SPEED.V else fRnd (if old < 0 then -lim else lim)

/-- R403, R406, R407: the latch of tick 0. -/
def Dev.colLatch (d : Dev) : Dev :=
  let at0 := fun (d : Dev) (n : Nat) => (unit d.enc n).held.getD (d.get F.ENC_COUNT.COUNT n, (unit d.enc n).lastEdge, (unit d.enc n).lastCount)
  let c2 := (at0 d 1).1
  let (c1, last, lastCount) := at0 d 0
  let v := d.colSpeed last lastCount
  let e : Enc := { unit d.enc 0 with lastEdge := last, lastCount := lastCount }
  let quiet := if e.lastEdge = e.latchEdge then min 10000 (d.col.quiet + 1) else 0
  let p := d.posAt c1
  let d := (d.set F.COL_SPEED.V v).setS F.COL_POS.P p
  let d := ({ d with col := { d.col with quiet := quiet } }).en 0 (fun e => { e with latchEdge := last, latchCount := lastCount, held := none })
  let d := d.en 1 (fun e => { e with held := none })
  let zone := decide (d.getS F.COL_CONTACT_LO.LO ≤ p) && decide (p < d.getS F.COL_CONTACT_HI.HI)
  let d := (d.setB F.COL_STATUS.IN_ZONE zone).free
  if d.get F.COL_CFG.ENC2_MODE = 1 ∧ d.bit F.COL_STATUS.REFERENCED ∧ !(unit d.enc 1).ovr then
    let x := toS 32 (c2 + 2 ^ 32 - d.col.home)
    d.crossCheck ((x : Rat) * ((d.get F.COL_XCHK.NUM : Nat) : Rat) / ((d.get F.COL_XCHK.DEN : Nat) : Rat) + (d.getS F.COL_HOME_POS.POS : Rat)) (p : Rat)
  else d

/-- R415: invalid position, stall and travel brake the servo. -/
def Dev.colFaults (d : Dev) : Dev :=
  let u := d.col.u
  let v := fRat (d.get F.COL_SPEED.V)
  let slow := decide (((d.get F.COL_STALL.STALL_U : Nat) : Rat) / 1000 ≤ max u (-u)) && decide ((if 0 < u then v else if u < 0 then -v else 0) < ((d.get F.COL_STALL_V.STALL_V : Nat) : Rat))
  let n := if slow then d.col.stall + 1 else 0
  let p := d.getS F.COL_POS.P
  let fell := d.col.fell
  let d := { d with col := { d.col with stall := n, fell := false } }
  if !d.colMoving then d
  else if fell then d.colBrake
  else if d.get F.COL_STALL.STALL_BEATS ≤ n ∧ n ≠ 0 then d.colBrake.raise 149 2 0 (leBytes 4 (d.get F.COL_SPEED.V)) none (some 1024)
  else if d.bit F.COL_STATUS.VALID ∧ (p < d.getS F.COL_TRAVEL_MIN.MIN ∨ d.getS F.COL_TRAVEL_MAX.MAX ≤ p) then
    d.colBrake.raise 150 2 0 (leBytes 4 (ofS 32 p)) none (some 1024)
  else d

/-- R417: a guard pair demands: braking, or a move to SAFE_POS; then the stop row with ON_STOP. -/
def Dev.colReact (d : Dev) : Dev :=
  let guard := d.get F.COL_CFG.GUARD
  let dem := (List.range 8).any (fun n => guard.testBit n && (d.get F.SAF_STATE.DEMAND).testBit n)
  let safe := d.getS F.COL_SAFE_POS.POS
  let s := d.get F.COL_STATUS.STATE
  let park := d.bit F.COL_CFG.GUARD_ACT && d.bit F.COL_STATUS.VALID
  let new := dem && !d.col.guard
  let d := { d with col := { d.col with guard := dem } }
  if dem && d.colMoving then
    (if park then (if d.col.item = 6 ∧ !d.col.stopping then d else d.colMove 6 safe 0 0 true) else d.colBrake)
  else if new && s ≤ 1 then (if park then d.colMove 6 safe 0 0 true else d.colBrake)
  else if d.col.parkDue ∧ !dem ∧ (d.st = LINKED ∨ (d.st = STOP ∧ (d.arr.zeroPower || d.arr.fastFrom.isSome))) ∧ d.bit F.COL_STATUS.VALID ∧ s ≠ 6 ∧ s ≠ 7 then
    ({ d with col := { d.col with parkDue := false } }).colMove 6 safe 0 0 true
  else d

/-- R416: the excursion out of the contact zone. -/
def Dev.colContact (d : Dev) : Dev :=
  let on := d.st == PRECHARGE || d.st == RUN || (d.st == STOP && !d.arr.zeroPower)
  if !on || !d.bit F.COL_STATUS.VALID then d
  else if d.bit F.COL_STATUS.IN_ZONE then { d with col := { d.col with inZone := true, lostZone := false } }
  else if d.col.inZone && !d.col.lostZone then
    ({ d with col := { d.col with lostZone := true } }).raise 151 3 0 (leBytes 4 (d.get F.COL_POS.P))
  else d

/-- R410, R414, R415: the profile's beat, the loan's return, the arrival. (DESIGN CHOICE: note 97.) -/
def Dev.colProfile (d : Dev) : Dev :=
  if !d.colMoving then d
  else
    let c := d.col
    let target := d.getS F.COL_TARGET.TARGET
    let (r, v, dec) := profileStep c.r c.v target c.speed (if c.stopping then d.get F.COL_AMAX.A_MAX else c.accel) c.stopping
    let d := ({ d with col := { c with r := r, v := v } }).setS F.COL_REF.R (r / 2 ^ 16)
    let sp := fRat (d.get F.COL_SPEED.V)
    let fin := dec || (v == 0 && r == target * 2 ^ 16) || decide (((c.peak : Nat) : Rat) * 9 / 10 ≤ max sp (-sp))
    let d := if fin then d.loanReturn 10 0 else d
    if c.stopping then (if v = 0 then d.set F.COL_STATUS.STATE 3 else d)
    else if d.get F.COL_STATUS.STATE = 2 then
      let near := (d.getS F.COL_POS.P - target).natAbs ≤ d.get F.COL_BAND.POS_BAND
      let n := if near then c.band + 1 else 0
      let d := { d with col := { d.col with band := n } }
      if 16 ≤ n then ((d.loanReturn 10 0).set F.COL_STATUS.STATE 3).raise 144 0 0 (leBytes 4 (d.get F.COL_POS.P)) else d
    else d

/-- R408: the table index of the position. (DESIGN CHOICE: note 97.) -/
def Dev.colIdx (d : Dev) : Nat :=
  let lo := d.getS F.COL_TRAVEL_MIN.MIN
  let hi := d.getS F.COL_TRAVEL_MAX.MAX
  if hi ≤ lo then 0 else (clampI 0 (2 ^ 32 - 1) ((d.getS F.COL_POS.P - lo) * 2 ^ 32 / (hi - lo))).toNat

/-- R403, R415 to R418: position and speed are latched, and what protects the collector acts. -/
def Dev.colSense (d : Dev) : Dev :=
  if d.get F.COL_CFG.KIND = 0 then d
  else
    let d := { d with col := { d.col with fric := d.get F.SLOT_Y_OUT.Y_LIM (d.get F.COL_SLOTS.FRIC) } }
    (((d.colLatch).colFaults).colReact).colContact

/-- R408, R410: the profile advances and the slots are fed, after the commands of the beat. -/
def Dev.colBeat (d : Dev) : Dev :=
  if d.get F.COL_CFG.KIND = 0 then d
  else
    let fric := d.get F.COL_SLOTS.FRIC
    let d := d.colProfile
    let i := d.colIdx
    let d := d.ownA (d.get F.COL_SLOTS.POS) ((d.col.r - d.getS F.COL_POS.P * 2 ^ 16 : Int) / (65536 : Rat))
    (((d.ownIdx (d.get F.COL_SLOTS.SPD) i).ownIdx fric i).set F.SLOT_OWN_A.OWN_A 0 fric)

/-- R408: v* of the beat and s. -/
def Dev.colVstar (d : Dev) : Rat := ((d.col.v : Rat) / 65536) + d.yOut (d.get F.COL_SLOTS.POS)
def Dev.colSign (d : Dev) : Int :=
  let v := d.colVstar
  if max v (-v) < ((d.get F.COL_FRIC.FRIC_BAND : Nat) : Rat) then 0 else if 0 < v then 1 else if v < 0 then -1 else 0

/-- R408: the position slot has released: the speed slot's input and limits. -/
def Dev.colRelease (d : Dev) (k : Nat) : Dev :=
  if d.get F.COL_CFG.KIND = 0 ∨ k ≠ d.get F.COL_SLOTS.POS then d
  else
    let spd := d.get F.COL_SLOTS.SPD
    let um : Rat := ((d.get F.COL_DRIVE.U_MAX : Nat) : Rat) / 1000
    let sf := (d.colSign : Rat) * fRat d.col.fric
    (d.ownA spd (d.colVstar - fRat (d.get F.COL_SPEED.V))).slot spd (fun x => { x with lo := some (fRnd (-um - sf)), hi := some (fRnd (um - sf)) })

/-- R409: two ticks after the speed slot's release, u goes to the commutation. -/
def execCollectorDriveHandover (s : State) : Host.Outcome State Fault Refusal := onMain s fun d =>
  if d.get F.COL_CFG.KIND = 0 ∨ !d.slotRuns (d.get F.COL_SLOTS.SPD) then d
  else
    let spd := d.get F.COL_SLOTS.SPD
    d.atPhase ((d.get F.SLOT_CFG.RELEASE spd + 2) % 1024) fun d =>
    let u := if d.colMoving then d.yOut spd + (d.colSign : Rat) * fRat d.col.fric else 0
    let d := ({ d with col := { d.col with u := u }, os := { d.os with drive := rRound (u * 100000) } }).setS F.COL_U.U (rRound (u * 100000))
    let per := d.get F.COL_DRIVE.PERIOD
    let c := (rRound (max u (-u) * ((64 * per : Nat) : Rat))).toNat
    d.each [26, 28, 30] (fun d e => (d.set F.PW_SHADOW.CMP (min c 0x3FFFFFF) e).pw e (fun p => { p with shPeriod := per }))

/-- R409: braking ends: every actuator channel OFF, state 0. -/
def execColBrakeEnd (s : State) : Host.Outcome State Fault Refusal := onMain s fun d =>
  d.fire .brake fun d => if d.get F.COL_STATUS.STATE = 6 then d.colOff else d

end Sys2Proof.Machine
end

