-- ==== Sys2Proof/Machine/Island.lean ====
section
/-! DEFINITION. The safety island (R502 to R517): recognition of the pairs by each part, demands, discrepancy and chatter, the safe-disable outputs,
SAFE_LOOP, the diagnostics, the lock-out latch and its reset; and the entry to STAGED. -/

namespace Sys2Proof.Machine

/-- A pair as a part sees it: 0 the Curator core, 1 the Detent. -/
def Dev.pairAt (d : Dev) (part n : Nat) : Pair := unit (unit d.saf.pairs part) n

/-- The declared pairs. -/
def Dev.pairs (d : Dev) : List Nat := those 8 (fun n => d.bit F.SAF_PAIR_CFG.DECLARED n)

/-- A pair serves a disconnection: kind 0 or 1. -/
def Dev.offKind (d : Dev) (n : Nat) : Bool := d.get F.SAF_PAIR_CFG.KIND n < 2

/-- R507, R511: what begins now leads to lock-out. -/
def Dev.serious (d : Dev) : Bool := d.bit F.SAF_STATE.SDO_C || d.bit F.SAF_STATE.SDO_D || d.energy

/-- R523: the status registers follow the pairs; DEMAND and FAULT show declared pairs. (DESIGN CHOICE: note 99.) -/
def Dev.safSync (d : Dev) : Dev :=
  let d := d.each (List.range 8) fun d n =>
    let x := d.pairAt 1 n
    let c := d.pairAt 0 n
    let decl := d.bit F.SAF_PAIR_CFG.DECLARED n
    let d := ((d.setB F.SAF_PAIR_STATUS.A x.a n).setB F.SAF_PAIR_STATUS.B x.b n).setB F.SAF_PAIR_STATUS.DEMAND (decl && x.demand) n
    let d := ((d.setB F.SAF_PAIR_STATUS.WINDOW x.window.isSome n).setB F.SAF_PAIR_STATUS.DISC_FAULT (x.fault || c.fault) n).setB F.SAF_PAIR_STATUS.CHATTER (x.chatter || c.chatter) n
    let d := (d.setB F.SAF_PAIR_STATUS.C_DEMAND (decl && c.demand) n).set F.SAF_PAIR_STATUS.TRANS (min 7 x.trans.length) n
    (d.setFlag F.SAF_STATE.DEMAND n (decl && (x.demand || c.demand))).setFlag F.SAF_STATE.FAULT n (decl && (x.fault || x.chatter || c.fault || c.chatter))
  d

/-- R44, R506: the conditions for energised outputs, as a part evaluates them. -/
def Dev.sdoOk (d : Dev) (part : Nat) : Bool :=
  STAGED ≤ d.st && d.st ≤ STOP && d.pwr.vsdoOk && !(part == 0 && d.saf.dropped) && !d.bit F.SAF_STATE.LATCHED && !d.pwr.testEn && d.bit F.SAF_STATE.CURATOR_OK && d.bit F.SAF_STATE.DETENT_OK
    && d.pairs.all (fun n =>
      let x := d.pairAt part n
      !(x.fault || x.chatter) && !(d.offKind n && x.demand && !x.delayed))

/-- R506, R508: each part drops its own output on the first condition that fails, and the Detent silences SAFE_LOOP. -/
def Dev.sdoCheck (d : Dev) : Dev :=
  let d := d.safSync
  let okC := d.sdoOk 0
  let okD := d.sdoOk 1
  let d := d.sdoDrop (!okC && d.bit F.SAF_STATE.SDO_C) (!okD && d.bit F.SAF_STATE.SDO_D)
  if d.bit F.SAF_STATE.LOOP_ON && !(okD && d.energy && d.saf.permit) then d.loopSilence else d

/-- R508: SAFE_LOOP starts at entry to PRECHARGE, with half-periods of 62.5 µs. (DESIGN CHOICE: note 90.) -/
def Dev.loopStart (d : Dev) : Dev :=
  if d.sdoOk 1 && d.saf.permit then
    ({ (d.setB F.SAF_STATE.LOOP_ON true).inc F.SAF_LOOP_STARTS.COUNT 1 with saf := { d.saf with silenced := false } }).arm .loopEdge 6250
  else d

/-- R516: the reset window closes without a reset, with the step or detail that failed. -/
def Dev.resetAbort (d : Dev) (what : Nat) : Dev :=
  let d := ({ (d.set F.SAF_STATE.RESET_STEP 0) with saf := { d.saf with pressAt := none } }).disarm .resetWin
  d.raise 217 1 1 [what]

/-- R502, R507, R522: a declared pair begins to demand as a part sees it; the event is raised by the part that sees it first. (DESIGN CHOICE: note 99.) -/
def Dev.demandBegin (d : Dev) (part n : Nat) : Dev :=
  let known := (d.pairAt (1 - part) n).demand
  let big := d.serious
  let kind := d.get F.SAF_PAIR_CFG.KIND n
  let x := d.pairAt part n
  let data := [b2n x.a + 2 * b2n x.b]
  let d := if kind = 1 ∧ big ∧ !x.delayed then
      (d.pair part n (fun p => { p with delayed := true })).arm (.delayOff part n) (msT (d.get F.SAF_PAIR_TIME.DELAY n)) else d
  if known then d
  else
    let d := (d.inc F.SAF_PAIR_DEMANDS.COUNT 1 n).condOn 208 n
    let d := if d.offKind n ∧ d.get F.SAF_STATE.RESET_STEP ≠ 0 then d.resetAbort 1 else d
    d.raise 208 (if kind = 2 then d.get F.SAF_PAIR_CFG.CLASS n else if big then (if kind = 0 then 5 else 4) else 1) n data

/-- R510, R511: a discrepancy (209) or chatter (210) fault of a pair as a part sees it. (DESIGN CHOICE: note 99.) -/
def Dev.pairFault (d : Dev) (part n src : Nat) (data : List Nat) : Dev :=
  let o := d.pairAt (1 - part) n
  let known := if src = 209 then o.fault else o.chatter
  let big := d.serious || o.c5
  let d := d.pair part n (fun p => { p with fault := p.fault || src == 209, chatter := p.chatter || src == 210, cond := true, c5 := p.c5 || big })
  let d := d.safSync
  if known then d
  else ((((d.inc F.SAF_PAIR_FAULTS.COUNT 1 n).condOn src n).raise src (if big then 5 else 1) n data)).checkFail 26 n

/-- R510: the discrepancy window of a pair ends open. (DESIGN CHOICE: note 99.) -/
def Dev.windowEnd (d : Dev) (part n : Nat) : Dev :=
  let x := d.pairAt part n
  if x.window.isSome then
    let d := (d.pair part n (fun p => { p with window := none })).disarm (.disc part n)
    if d.bit F.SAF_PAIR_CFG.DECLARED n then d.pairFault part n 209 [x.first] else d
  else d

/-- R504: a part recognises a level after 3 (Detent, every 10 µs) or 2 (Curator core, every 50 µs) equal samples, a low one only once it has lasted
TP_MAX. (DEDUCED: note 99.) -/
def Dev.recognised (d : Dev) (part n : Nat) (high : Bool) (samples : Nat) : Bool :=
  let tp := if high then 0 else d.get F.SAF_PAIR_TIME.TP_MAX n
  if part = 1 then 3 + tp / 10 ≤ samples else 2 + tp / 50 ≤ samples

/-- R513: the tick since which the parts differ on a pair's demand. -/
def Dev.diffSync (d : Dev) (n : Nat) : Dev :=
  let t := if (d.pairAt 0 n).demand = (d.pairAt 1 n).demand then none else some ((d.saf.diffAt.getD n none).getD d.tick)
  { d with saf := { d.saf with diffAt := d.saf.diffAt.set n t } }

/-- R503, R504, R505, R510: a part recognises a new level of a channel. -/
def Dev.pairChange (d : Dev) (part n ch : Nat) (high : Bool) : Dev :=
  let x := d.pairAt part n
  let d := match x.window with | some w => if w ≤ d.tick then d.windowEnd part n else d | none => d
  let x := d.pairAt part n
  if (if ch = 0 then x.a else x.b) = high then d
  else
    let a := if ch = 0 then high else x.a
    let b := if ch = 1 then high else x.b
    let dem := !(a && b)
    let td := msT (d.get F.SAF_PAIR_CFG.T_DISC n)
    let tr := d.tick :: x.trans.filter (fun t => decide (d.tick < t + 2 * td))
    let w2 := if a = b then none else match x.window with | some w => some w | none => some (d.tick + td)
    let d := d.pair part n (fun p => { p with a := a, b := b, demand := dem, trans := tr, window := w2, first := (if x.window.isNone then ch else p.first),
                                               clearSince := if a && b then some d.tick else none })
    let d := if a = b then d.disarm (.disc part n) else if x.window.isNone then d.arm (.disc part n) td else d
    let o := d.pairAt (1 - part) n
    let d := if a && b && o.a && o.b then d.arm (.safeClear n) 100000000 else d.disarm (.safeClear n)
    let d := (d.diffSync n).safSync
    if !d.bit F.SAF_PAIR_CFG.DECLARED n then d
    else
      let d := if dem && !x.demand then d.demandBegin part n
        else if !dem && x.demand && !(d.pairAt (1 - part) n).demand then d.condOff 208 n else d
      if 5 ≤ tr.length ∧ !(d.pairAt part n).chatter then d.pairFault part n 210 (leBytes 4 tr.length) else d

/-- R504: a part has read a level of a safety input channel in a number of consecutive samples, up to now. -/
def execSafetyInputChange (part : Fin 2) (n : Fin 8) (ch : Fin 2) (r : LevelRun) (s : State) : Host.Outcome State Fault Refusal := onMain s fun d =>
  if d.recognised part n r.high r.samples then (d.pairChange part n ch r.high).sdoCheck else d

/-- R510: a discrepancy window still open at its end. -/
def execDiscrepancyTimeout (part : Fin 2) (n : Fin 8) (s : State) : Host.Outcome State Fault Refusal := onMain s fun d =>
  d.fire (.disc part n) fun d => (d.windowEnd part n).sdoCheck

/-- R502, R514: the DELAY of a kind-1 demand runs out: class C5 at the Detent's instant; the Curator core, where its own ends first, drops SDO_C. -/
def execDelayedOffExpiry (part : Fin 2) (n : Fin 8) (s : State) : Host.Outcome State Fault Refusal := onMain s fun d =>
  d.fire (.delayOff part n) fun d =>
    let x := d.pairAt part n
    let d := d.pair part n (fun p => { p with delayed := false })
    (if d.bit F.SAF_STATE.LATCHED then d
     else if part.val = 0 && (d.pairAt 1 n).delayed then { d with saf := { d.saf with dropped := true } }
     else d.raise 208 5 n [b2n x.a + 2 * b2n x.b]).sdoCheck

/-- R511: both channels have read no demand for 1 s: the fault condition ends; a fault of class C5 stays until the lock-out reset. -/
def execSafetyFaultClear (n : Fin 8) (s : State) : Host.Outcome State Fault Refusal := onMain s fun d =>
  d.fire (.safeClear n) fun d =>
    let d := (d.condOff 209 n).condOff 210 n
    let clr := fun (p : Pair) => if p.c5 then { p with cond := false } else { p with cond := false, fault := false, chatter := false }
    let d := (d.pair 0 n clr).pair 1 n clr
    let x := d.pairAt 1 n
    (if x.fault || x.chatter then d else d.checkPass 26 n).sdoCheck

/-- R506: at the first beat boundary at which every condition holds, both outputs energise. -/
def execSdoEnergise (s : State) : Host.Outcome State Fault Refusal := onMain s fun d =>
  if (d.sdoOk 0 && d.sdoOk 1) && !(d.bit F.SAF_STATE.SDO_C && d.bit F.SAF_STATE.SDO_D) then
    let d := d.toPhase 0
    let d := (d.setB F.SAF_STATE.SDO_C true).setB F.SAF_STATE.SDO_D true
    (d.setB F.SAF_STATE.RB_C d.pwr.vsdoOk).setB F.SAF_STATE.RB_D d.pwr.vsdoOk
  else d

/-- R513: a part (0 the Curator core, 1 the Detent) has detected a failure: unhealthy until the next main-domain start, it drops its own output; the
Detent silences SAFE_LOOP too. -/
def Dev.unhealthy (d : Dev) (p : Nat) : Dev :=
  let d := { d with saf := { d.saf with health := d.saf.health.set p none } }
  if p = 0 then (d.setB F.SAF_STATE.CURATOR_OK false).sdoDrop true false
  else ((d.setB F.SAF_STATE.DETENT_OK false).sdoDrop false true).loopSilence

/-- R513: a diagnostic detects a failure. The parts disagree where they have differed for 2 ms; a CRC is wrong where it is not the one in force. -/
def execSafetyDiagFail (x : Diag) (s : State) : Host.Outcome State Fault Refusal := onMain s fun d =>
  let noPermit := fun (d : Dev) => { d with saf := { d.saf with permit := false } }
  (match x with
   | .lockstep => ((noPermit d).unhealthy 0).raise 214 5 1
   | .permit => ((noPermit d).unhealthy 1).raise 214 5 2
   | .clock => (d.unhealthy 1).raise 214 5 3
   | .disagree n =>
     (match d.saf.diffAt.getD n none with
      | some t => if d.bit F.SAF_PAIR_CFG.DECLARED n then
          d.wait (t + msT 2) (fun d => ((d.unhealthy 0).unhealthy 1).raise 211 5 n [b2n (d.pairAt 0 n).demand + 2 * b2n (d.pairAt 1 n).demand]) else d
      | none => d)
   | .readback o v => (d.unhealthy o).raise 212 5 o (leBytes 4 v)
   | .loop => (d.unhealthy 1).raise 213 5 0
   | .paramCrc p v => if v = d.get F.VP_SAFE_IN_FORCE.CRC then d else (d.unhealthy p).raise 215 5 p (leBytes 4 v)).sdoCheck

/-- R513: the off-pulse test of an output, every 10 s: 200 µs after it was switched off the output must be below 1 V. (DESIGN CHOICE: note 99.) -/
def execSdoOffPulseTest (o : Fin 2) (volts : Nat) (tenths : Fin 10) (s : State) : Host.Outcome State Fault Refusal := onMain s fun d =>
  let tenthV := 10 * volts + tenths.val
  d.fire (.offPulse o) fun d =>
    let d := d.arm (.offPulse o) (msT 10000)
    let on := if o.val = 0 then d.bit F.SAF_STATE.SDO_C else d.bit F.SAF_STATE.SDO_D
    if d.bit F.SAF_GLOBAL.SDO_TEST && on && decide (10 ≤ tenthV) then ((d.unhealthy o).raise 212 5 o (leBytes 4 tenthV)).sdoCheck else d

/-- R508, R513: a half-period of SAFE_LOOP ends: the Detent toggles it and checks the level at the ball. -/
def execSafeLoopEdge (readback : Bool) (s : State) : Host.Outcome State Fault Refusal := onMain s fun d =>
  d.fire .loopEdge fun d =>
    let d := d.arm .loopEdge 6250
    let d := { d with pwr := { d.pwr with loopLevel := !d.pwr.loopLevel } }
    if readback = d.pwr.loopLevel then d
    else ((d.unhealthy 1).raise 213 5 0).sdoCheck

/-! The Registrar's own failure (R490) -/

/-- R490: 10 µs without a heartbeat: the Detent acts as for class C5 on its own; REG_SELF is recorded once the Registrar can, at the next boot. -/
def execRegistrarHeartbeatLost (s : State) : Host.Outcome State Fault Refusal := onMain s fun d =>
  d.wait (d.tick + usT 10) fun d =>
  ({ d with pwr := { d.pwr with regSelf := some 2 } }).safeOff 192 0 .detent |>.sdoCheck

/-- R490: an uncorrectable error in the Registrar's memory: the Detent acts as for class C5, and REG_SELF is recorded. -/
def execRegistrarMemoryError (s : State) : Host.Outcome State Fault Refusal := onMain s fun d =>
  ((d.safeOff 192 0 .detent).raise 192 5 0 [1]).sdoCheck

/-! Entry to STAGED (R103, R299, R406, R515) -/

/-- What entry to STAGED from QUIET or LOCKOUT does: every check runs again (R103), and SAF_RETAINED is raised where the latch is set, which takes the
device to LOCKOUT at once. (DESIGN CHOICE: note 88.) -/
def Dev.enterStaged (d : Dev) (o : Orig) : Dev :=
  let locked := d.st = LOCKOUT
  let d := (d.setState STAGED o).checksAgain
  let d := if !locked ∧ d.bit F.SAF_STATE.LATCHED then
      d.raise 216 5 (d.get F.SAF_LATCH_CAUSE.SOURCE) (leBytes 4 (d.get F.SAF_LATCH_TICK.TICK)) else d
  d.sdoCheck

/-! The lock-out reset (R516, R517) -/

/-- R517: the first check that fails, details 1 to 4. -/
def Dev.resetCheck (d : Dev) : Option Nat :=
  let ps := d.pairs
  let see := fun (n part : Nat) => d.pairAt part n
  let quiet := fun (p : Pair) => match p.clearSince with | some t => decide (t + 100000000 ≤ d.tick) | none => false
  if ps.any (fun n => d.offKind n && ((see n 0).demand || (see n 1).demand)) then some 1
  else if ps.any (fun n => (see n 0).cond || (see n 1).cond
      || (d.offKind n && !(quiet (see n 0) && quiet (see n 1)))) then some 2
  else if d.isActive (d.get F.SAF_LATCH_CAUSE.SOURCE) then some 3
  else if !d.bit F.SAF_STATE.CURATOR_OK || !d.bit F.SAF_STATE.DETENT_OK || ps.any (fun n => (see n 0).demand != (see n 1).demand) then some 4
  else none

/-- R516: LOCKOUT_RESET at its effect beat: the detail of a failure, or the window opens. -/
def Dev.lockoutReset (d : Dev) (c : HostCmd) : Dev × Option Nat :=
  match d.resetCheck with
  | some x => (d, some x)
  | none =>
    if d.get F.SAF_STATE.RESET_STEP ≠ 0 then (d, some 5)
    else
      let d := (d.set F.SAF_STATE.RESET_STEP 1).arm .resetWin (d.get F.SAF_GLOBAL.RESET_WIN * 100000000)
      ({ d with saf := { d.saf with pressAt := none, cmd := (c.func, c.q, c.index, c.tag) } }, none)

/-- R516: both parts see the button pressed, `apart` ticks between them. The window [E, E + RESET_WIN) holds its start and not its end (R5). -/
def execLorPress (apart : Nat) (s : State) : Host.Outcome State Fault Refusal := onMain s fun d =>
  let late := match d.due .resetWin with | some w => decide (w ≤ d.tick) | none => true
  if d.get F.SAF_STATE.RESET_STEP ≠ 1 then d
  else if late then d.resetAbort 2
  else if msT 100 < apart then d.resetAbort 2
  else { d.set F.SAF_STATE.RESET_STEP 2 with saf := { d.saf with pressAt := some d.tick } }

/-- R516 step 4: the reset takes effect. -/
def Dev.resetEffect (d : Dev) : Dev :=
  let d := d.elapse 1
  let src := d.get F.SAF_LATCH_CAUSE.SOURCE
  let d := (d.setB F.SAF_STATE.LATCHED false).inc F.SAF_RESETS.COUNT 1
  let clr := fun (p : Pair) => if p.c5 then { p with c5 := false, fault := false, chatter := false } else p
  let d := d.each (List.range 8) (fun d n => (d.pair 0 n clr).pair 1 n clr)
  let d := { d with saf := { d.saf with latch := none, latchAt := none, dropped := false, pressAt := none }, mram := { d.mram with latch := none } }
  let c := d.saf.cmd
  let d := d.log 8 ⟨2, c.1, c.2.1, c.2.2.1, c.2.2.2⟩ src 0 0 2
  let d := ((d.set F.SAF_STATE.RESET_STEP 0).disarm .resetWin).raise 217 1 0 [0]
  let d := (d.incidentEnd).grpRelease
  (d.enterStaged .detent).groupFile

/-- R516, R517: the button is released after `held` ticks. -/
def execLorRelease (held : Nat) (s : State) : Host.Outcome State Fault Refusal := onMain s fun d =>
  if d.get F.SAF_STATE.RESET_STEP ≠ 2 then d
  else d.wait (d.saf.pressAt.getD d.tick + held) fun d =>
    let late := match d.due .resetWin with | some w => decide (w ≤ d.tick) | none => true
    if late || held < msT 100 || msT 5000 < held then d.resetAbort 3
    else match d.resetCheck with
      | some x => d.resetAbort x
      | none => if d.st = LOCKOUT then d.resetEffect else d.resetAbort 3

/-- R516: a press held for more than 5 s, or levels inconsistent for more than 100 ms. -/
def execLorHoldTimeout (levels : Fin 4) (s : State) : Host.Outcome State Fault Refusal := onMain s fun d =>
  let st := d.get F.SAF_STATE.RESET_STEP
  if st = 0 then d
  else if levels.val = 1 then (if st = 2 then d.wait (d.saf.pressAt.getD d.tick + msT 5000 + 1) (·.resetAbort 3) else d)
  else if levels.val = 2 then d
  else d.wait (d.tick + msT 100) (·.resetAbort (st + 1))

/-- R516: the reset window ends without a release. -/
def execResetWindowExpiry (s : State) : Host.Outcome State Fault Refusal := onMain s fun d =>
  d.fire .resetWin fun d => if d.get F.SAF_STATE.RESET_STEP = 0 then d else d.resetAbort (d.get F.SAF_STATE.RESET_STEP + 1)

/-! Safety parameters (R518, R519) -/

/-- R518: a byte range of an image is zero. -/
def zeroBytes (b : List Nat) (o n : Nat) : Bool := ((b.drop o).take n).all (· == 0)

/-- R518, R519, R501: an image keeps the layout and the ranges. -/
def safetyImageOk (b : List Nat) : Bool :=
  b.length == 1160 && wordOf b 0 == 1 && zeroBytes b 8 56
    && (let g := wordOf b 4; g &&& 0xFFFF00FE == 0 && 1 ≤ bitsAt g 8 8)
    && (List.range 8).all (fun n =>
      let c := wordOf b (0x40 + 8 * n)
      let t := wordOf b (0x44 + 8 * n)
      c &&& 0xFFFC00C0 == 0 && bitsAt c 1 2 ≤ 2 && 1 ≤ bitsAt c 3 3 && bitsAt c 3 3 ≤ 4 && 1 ≤ bitsAt c 8 10 && bitsAt c 8 10 ≤ 1000
        && t &&& 0x0000FC00 == 0 && bitsAt t 0 10 ≤ 1000 && 1 ≤ bitsAt t 16 16 && bitsAt t 16 16 ≤ 10000)
    && (let r := wordOf b 0x80; r &&& 0x0000FFF8 == 0 && inRange refuseRange F.REG_CTRL.ERR_CLASS (bitsAt r F.REG_CTRL.ERR_CLASS.lo F.REG_CTRL.ERR_CLASS.w))
    && (let a := wordOf b 0x84
        a &&& 0x000000F8 == 0 && inRange refuseRange F.ARC_CFG.TRIG_CLASS (bitsAt a F.ARC_CFG.TRIG_CLASS.lo F.ARC_CFG.TRIG_CLASS.w)
          && inRange refuseRange F.ARC_CFG.POST_BEATS (bitsAt a F.ARC_CFG.POST_BEATS.lo F.ARC_CFG.POST_BEATS.w))
    && (List.range 256).all (fun n =>
      let r := wordOf b (0x88 + 4 * n)
      r < 2 ^ 15 && inRange refuseRange F.REG_SRC.CLASS_FLOOR (bitsAt r F.REG_SRC.CLASS_FLOOR.lo F.REG_SRC.CLASS_FLOOR.w)
        && inRange refuseRange F.REG_SRC.DERATE (bitsAt r F.REG_SRC.DERATE.lo F.REG_SRC.DERATE.w))

/-- R518, R519: the safety parameters of an image take effect; a pair newly declared, or changed in kind, is evaluated from this instant. -/
def Dev.safetyApply (d : Dev) (b : List Nat) (fresh : Bool) : Dev :=
  let d := (d.set F.SAF_GLOBAL.SDO_TEST (wordOf b 4)).set F.SAF_GLOBAL.RESET_WIN (wordOf b 4 / 256)
  let d := { d with prov := { d.prov with inForce := b.take 128 } }
  let d := d.each (List.range 8) fun d n =>
    let c := wordOf b (0x40 + 8 * n)
    let t := wordOf b (0x44 + 8 * n)
    let old := (d.get F.SAF_PAIR_CFG.DECLARED n, d.get F.SAF_PAIR_CFG.KIND n)
    let d := ((d.set F.SAF_PAIR_CFG.DECLARED c n).set F.SAF_PAIR_CFG.KIND (c / 2) n).set F.SAF_PAIR_CFG.CLASS (c / 8) n
    let d := ((d.set F.SAF_PAIR_CFG.T_DISC (c / 256) n).set F.SAF_PAIR_TIME.TP_MAX t n).set F.SAF_PAIR_TIME.DELAY (t / 65536) n
    if fresh ∧ c % 2 = 1 ∧ old ≠ (1, bitsAt c 1 2) then
      let d := if (d.pairAt 1 n).demand then
          let d' := d.pair 0 n (fun p => { p with demand := false })
          ((d'.demandBegin 1 n).pair 0 n (fun p => { p with demand := !(p.a && p.b) }))
        else d
      if (d.pairAt 0 n).demand then d.demandBegin 0 n else d
    else d
  d.sdoCheck

end Sys2Proof.Machine
end

