-- ==== Sys2Proof/Machine/Metering.lean ====
section
/-! DEFINITION. The Metering Engine (R421 to R450): corrected samples, zero crossings, element powers and their posting, reporting windows and
harmonics, intervals and totals, stops and resumption, closure. Values are exact until the single rounding that the manual names. -/

namespace Sys2Proof.Machine

/-- R422: sub-ticks between samples, and the instant of sample `k`. -/
abbrev sampleSub := 125000
def sampleAt (k : Nat) : Nat := k * sampleSub

/-- The instants t_k before `x` (sub-ticks), so that those of [a, b) number `upTo b - upTo a`. -/
def upTo (x : Nat) : Nat := (x + sampleSub - 1) / sampleSub

/-- R427: the nominal period in sub-ticks. (DESIGN CHOICE: note 100.) -/
def Dev.nominal (d : Dev) : Nat := if d.bit F.MET_CTRL.NOM_HZ then 1666700 * 64 else 2000000 * 64

/-- The declared channels and elements, and the class of a channel. -/
def Dev.metChs (d : Dev) : List Nat := those 16 (fun m => d.bit F.MET_CH_CFG.DECLARED m)
def Dev.metEls (d : Dev) : List Nat := those 8 (fun e => d.bit F.MET_EL_CFG.DECLARED e)
def Dev.isDc (d : Dev) (m : Nat) : Bool := d.bit F.MET_CH_CFG.CLASS m
def Dev.elDc (d : Dev) (e : Nat) : Bool := d.isDc (d.get F.MET_EL_CFG.V_CH e)
def Dev.acVolt (d : Dev) (m : Nat) : Bool := !d.isDc m && !d.bit F.MET_CH_CFG.KIND m

/-- The elements that use a channel. -/
def Dev.elsOf (d : Dev) (m : Nat) : List Nat := d.metEls.filter (fun e => d.get F.MET_EL_CFG.V_CH e == m || d.get F.MET_EL_CFG.I_CH e == m)

/-- R430: the class of a loss or timeout of a channel. (DESIGN CHOICE: note 100.) -/
def Dev.syncClass (d : Dev) (m cls : Nat) : Nat := if d.bit F.MET_CH_CFG.SYNC m && d.energy then cls else 1

/-- Set a flag in the open records of a channel's elements (R441). -/
def Dev.metFlag (d : Dev) (es : List Nat) (bit : Nat) : Dev :=
  d.each es (fun d e => d.mel e (fun x => { x with open_ := x.open_.map (fun v => { v with flags := putBits v.flags bit 1 1 }) }))

/-! The filter chain (R421, R422) -/

/-- R422: MCLK periods (320 sub-ticks) whose bits are in when sample `k` is formed, 3,168 ticks after its instant. -/
def mbCount (k : Nat) : Nat := (sampleAt k + 3168 * 64) / 320

/-- R422: weight `i` of the third-order sinc filter of 25 bits, and its output over the 73 bits that begin `a` places before the newest, in [-1, 1]. -/
def sincWeight (i : Nat) : Int :=
  let t := fun (n : Int) => if n < 0 then 0 else (n + 1) * (n + 2) / 2
  t i - 3 * t (i - 25) + 3 * t (i - 50)
def sincAt (bits : List Bool) (a : Nat) : Rat :=
  ((List.zipWith (fun b i => if b then sincWeight i else -sincWeight i) ((bits.drop a).take 73) (List.range 73)).sum : Rat) / 15625

/-- R422: sample `k`, a 24-bit signed number, from the bits in, newest first: the FIR filter at 8/125 over the 48 newest sinc outputs, one in every 25 bits, by
the tap phase of its instant. Before enough bits are in, it is free. (DESIGN CHOICE: note 102.) -/
def Dev.firSample (d : Dev) (m : Nat) (bits : List Bool) (k : Nat) : Int :=
  let p := (sampleAt k + 3168 * 64) / 1000
  let age := mbCount k - 25 * (p / 8)
  let x : Int := if bits.length < 1272 then Config.sampleBefore (d.freeCtr + m)
    else rRound (8388608 * ((List.range 48).map (fun j => Config.firTap (p % 8 + 8 * j) * sincAt bits (age + 25 * j))).sum)
  clampI (-8388608) 8388607 x

/-- R421, R422: the newest bits of a channel, at the MCLK edge it is sampled at, and its sample. All four clocks are in phase. -/
def Dev.metFilter (d : Dev) (m k : Nat) (w : MbWave) : Dev :=
  let bits := (((if d.bit F.MET_CH_CFG.EDGE m then w.fall else w.rise).reverse) ++ (unit d.metCh m).bits).take 1300
  let x := d.firSample m bits k
  d.mch m (fun c => { c with bits := bits, hist := (x :: c.hist).take 480 })

/-! Corrections (R424 to R426) -/

/-- R422: a raw sample as a number in [-1, 1). (DESIGN CHOICE: note 102.) -/
def rawX (x : Int) : Rat := (x : Rat) / 8388608

/-- R424: the sample `j` places before the newest; samples from before the start are free. -/
def Dev.rawBack (d : Dev) (m j : Nat) : Rat :=
  match (unit d.metCh m).hist[j]? with | some x => rawX x | none => rawX (Config.sampleBefore (d.freeCtr + j))

/-- R424: the value `back` samples (a rational) before the newest, by the four-point cubic Lagrange interpolator over the four nearest samples there
are, where `x j` is the sample `j` places before the newest. (DESIGN CHOICE: note 102.) -/
def cubic (x : Nat → Rat) (back : Rat) : Rat :=
  let i := max 1 back.floor
  let u := back - (i : Rat)
  let x := fun (k : Int) => x (i + k).toNat
  if u = 0 then x 0
  else
    x (-1) * (-(u * (u - 1) * (u - 2)) / 6) + x 0 * ((u + 1) * (u - 1) * (u - 2) / 2) + x 1 * (-((u + 1) * u * (u - 2)) / 2) + x 2 * ((u + 1) * u * (u - 1) / 6)

/-- R424: x of a channel `back` samples before the newest. -/
def Dev.lagrange (d : Dev) (m : Nat) (back : Rat) : Rat := cubic (d.rawBack m) back

/-- R424 to R426: the gain at µ, the channel's readout of the last window. -/
def Dev.metGain (d : Dev) (m : Nat) : Rat :=
  rInterp ((List.range 4).map (fun j => fRat (d.get F.MET_CH_GAIN.GAIN m j))) (fRat (d.get F.MET_CH_CAL_LO.CAL_LO m)) (fRat (d.get F.MET_CH_CAL_HI.CAL_HI m))
    (unit d.metCh m).mu

/-- R424: an AC channel's corrected value, `extra` samples earlier. -/
def Dev.vAc (d : Dev) (m : Nat) (extra : Rat) : Rat :=
  fRat (d.get F.MET_CH_SCALE.SCALE m) * d.lagrange m (4 + (d.getS F.MET_CH_DELAY.DELAY m : Rat) / 1024 + extra) * d.metGain m

/-- R425: a DC channel's value for power, and for mean and RMS. -/
def Dev.vDcP (d : Dev) (m : Nat) : Rat := (fRat (d.get F.MET_CH_SCALE.SCALE m) * d.rawBack m 4 - fRat (d.get F.MET_CH_OFF_P.OFF_P m)) * d.metGain m
def Dev.vDcR (d : Dev) (m : Nat) : Rat :=
  (fRat (d.get F.MET_CH_SCALE.SCALE m) * d.rawBack m 4 - fRat (d.get F.MET_CH_OFF_R.OFF_R m)) * d.metGain m * fRat (d.get F.MET_CH_GAIN_R.GAIN_R m)

/-- The value a channel's window sums and readouts use. -/
def Dev.vRead (d : Dev) (m : Nat) : Rat := if d.isDc m then d.vDcR m else d.vAc m 0

/-! Channel conditions and zero crossings (R423, R427, R428) -/

/-- R423: |x| reaches `num`/10 of full scale. -/
def atLeast (x : Int) (num : Nat) : Bool := num * 8388608 ≤ x.natAbs * 10

/-- R423, R100 check 24: loss, overrange and density of one channel for the newest raw sample. -/
def Dev.chConditions (d : Dev) (m : Nat) (x : Int) : Dev :=
  let c := unit d.metCh m
  let inside := !(8 * 8388608 < x.natAbs * 10)
  let back := if inside then min 60 (c.lostBack + 1) else 0
  let mean := (c.hist.take 51).sum
  let d := d.mch m (fun c => { c with lostBack := back, lostNow := c.lostNow && decide (back < 52) })
  let d := if c.lostNow && 52 ≤ back then d.condOff 160 m else d
  let d := if 51 ≤ c.hist.length ∧ (d.st = STAGED ∨ d.st = LINKED) then
      (if 8 * 8388608 * 51 < mean.natAbs * 10 then d.checkFail 24 m else if (unit d.metCh m).lostNow then d else d.checkPass 24 m) else d
  if atLeast x 9 then
    let d := (d.mch m (fun c => { c with ovrNow := true, ovrBack := 0 })).setFlag F.MET_CH_FLAGS.OVR m true
    let d := d.metFlag (d.elsOf m) 6
    if c.ovrNow then d else (d.condOn 161 m).raise 161 1 m (leBytes 4 (fRnd (rawX x)))
  else if c.ovrNow then
    let n := c.ovrBack + 1
    if 51200 ≤ n then (d.mch m (fun c => { c with ovrNow := false, ovrBack := 0 })).condOff 161 m else d.mch m (fun c => { c with ovrBack := n })
  else d

/-- R427: the mean of the valid periods, or the nominal one. -/
def Dev.period (d : Dev) (m : Nat) : Rat :=
  let c := unit d.metCh m
  if c.zcOut || c.periods.isEmpty then ((d.nominal : Nat) : Rat) else ((c.periods.sum : Nat) : Rat) / ((c.periods.length : Nat) : Rat)

/-- R435: one more period for the windows of the elements that a voltage channel measures. -/
def Dev.periodCount (d : Dev) (m : Nat) : Dev :=
  d.each (d.metEls.filter (fun e => d.get F.MET_EL_CFG.V_CH e == m)) (fun d e => d.mel e (fun x => { x with crossings := x.crossings + 1 }))

/-- R429, R5: the RMS over the samples of the period [a, b) of a voltage channel, the newest sample being that of instant `t`; the period counts. -/
def Dev.periodEnd (d : Dev) (m a b t : Nat) : Dev :=
  let l := ((unit d.metCh m).sq.drop (upTo (t + 1) - upTo b)).take (upTo b - upTo a)
  (if l.isEmpty then d else d.mch m (fun c => { c with perRms := fRnd (rSqrt (l.sum / ((l.length : Nat) : Rat))) })).periodCount m

/-- R427, R428: a crossing at instant `t`, found at the sample of instant `now`. -/
def Dev.crossing (d : Dev) (m t now : Nat) : Dev :=
  let c := unit d.metCh m
  let gap := t - c.zcAt.getD t
  let nom := d.nominal
  let near := 8 * nom ≤ 10 * gap && 10 * gap ≤ 12 * nom
  if c.zcAt.isNone || c.fresh then
    -- in a timeout the nominal periods end the windows (R435)
    let d := if c.zcOut then d else d.periodCount m
    (d.mch m (fun c => { c with zcAt := some t, valid := 1, fresh := false, nomAt := t })).arm (.zc m) (msT (d.get F.MET_CH_ZC.ZC_TMO m))
  else if near then
    let was := c.zcOut
    let ends := was && 1 ≤ c.valid
    let d := if was && c.zcAt != some c.nomAt then d else d.periodEnd m (c.zcAt.getD t) t now
    let d := d.mch m (fun c => { c with zcAt := some t, valid := min 4 (c.valid + 1), periods := (gap :: (if was then [] else c.periods)).take 4,
                                          zcOut := c.zcOut && !ends, nomAt := t })
    let d := if ends then d.condOff 163 m else d
    (d.set F.MET_CH_FREQ.F (fRnd (6400000000 / d.period m)) m).arm (.zc m) (msT (d.get F.MET_CH_ZC.ZC_TMO m))
  else if c.zcOut then d.mch m (fun c => { c with valid := 0 })
  else d

/-- R427, R428: the zero-crossing detector of an AC voltage channel for the newest value at sample instant `t`. (DESIGN CHOICE: note 100.) -/
def Dev.zcStep (d : Dev) (m t : Nat) (v : Rat) : Dev :=
  let c := unit d.metCh m
  let d := d.mch m (fun c => { c with prevV := v, sq := (v * v :: c.sq).take 1600 })
  let d := if c.zcOut && c.nomAt + d.nominal ≤ t then (d.periodEnd m c.nomAt (c.nomAt + d.nominal) t).mch m (fun c => { c with nomAt := c.nomAt + d.nominal }) else d
  if v < -((d.get F.MET_CH_ZC.ZC_HYST m : Nat) : Rat) then d.mch m (fun c => { c with armed := true })
  else if c.armed && decide (0 ≤ v) then
    let d := d.mch m (fun c => { c with armed := false })
    d.crossing m ((t - sampleSub) + (rRound ((sampleSub : Rat) * (-c.prevV) / (v - c.prevV))).toNat) t
  else d

/-- R428, R435: no valid crossing within ZC_TMO of the previous one: the nominal periods that run on from it end windows from here. (DESIGN CHOICE: note 100.) -/
def execZcTimeout (m : Fin 16) (s : State) : Host.Outcome State Fault Refusal := onMain s fun d =>
  d.fire (.zc m) fun d =>
    if !d.bit F.MET_STATUS.RUN || !d.acVolt m then d
    else
      let c := unit d.metCh m
      let d := d.arm (.zc m) (msT (d.get F.MET_CH_ZC.ZC_TMO m))
      let z := c.zcAt.getD (d.tick * 64)
      let d := d.mch m (fun c => { c with zcOut := true, valid := 0, fresh := true, periods := []
                                          nomAt := if c.zcOut then c.nomAt else z + (d.tick * 64 - z) / d.nominal * d.nominal })
      if c.zcOut then d
      else
        let d := (((d.setFlag F.MET_ZC.TIMEOUT m true).condOn 163 m).metFlag (d.elsOf m) 7).set F.MET_CH_FREQ.F (fRnd (6400000000 / d.period m)) m
        d.raise 163 (d.syncClass m 3) m (leBytes 4 (d.tick - c.zcAt.getD 0 / 64))

/-- R423: the channel holds 4,096 equal bits in a row; `density` per mille of the last 1 ms. -/
def execMetChannelLost (m : Fin 16) (density : Nat) (s : State) : Host.Outcome State Fault Refusal := onMain s fun d =>
  if !d.bit F.MET_CH_CFG.DECLARED m || !d.bit F.MET_STATUS.RUN || (unit d.metCh m).lostNow then d
  else
    let d := (((d.setFlag F.MET_CH_FLAGS.LOST m true).mch m (fun c => { c with lostNow := true, lostBack := 0 })).condOn 160 m)
    (d.raise 160 (d.syncClass m 4) m (leBytes 4 density)).checkFail 24 m

/-! Element samples (R432 to R434) -/

/-- R432: the mean of the newest `w` products (a rational number of samples). -/
def windowMean (l : List Rat) (w : Rat) : Rat :=
  let n := w.floor.toNat
  if w ≤ 0 then 0 else ((l.take n).sum + (w - ((n : Nat) : Rat)) * l.getD n 0) / w

/-- R434: rounded to units of 2^-16, ties away from zero. -/
def powerUnits (p : Rat) : Int := rAway (p * 65536)

/-- R432: P_k and Q_k of an element in units of 2^-16, with the products recorded. -/
def Dev.elPower (d : Dev) (e : Nat) : Dev × Int × Int :=
  let v := d.get F.MET_EL_CFG.V_CH e
  let i := d.get F.MET_EL_CFG.I_CH e
  let sgn : Rat := if d.bit F.MET_EL_CFG.DIR e then -1 else 1
  if d.elDc e then (d, powerUnits (sgn * d.vDcP v * d.vDcP i), 0)
  else
    let w := d.period v / sampleSub
    let p := sgn * d.vAc v 0 * d.vAc i 0
    let q := sgn * d.vAc v (w / 4) * d.vAc i 0
    let d := d.mel e (fun x => { x with p := (p :: x.p).take 1600, q := (q :: x.q).take 1600 })
    let x := unit d.metEl e
    (d, powerUnits (windowMean x.p w), powerUnits (windowMean x.q w))

/-- R433, R434: post one sample to exactly one destination of the open interval. -/
def postSample (v : Interval) (lost : Bool) (P Q : Int) (noload : Nat) (t : Nat) : Interval :=
  let v := { v with lastTick := t }
  if lost then { v with nGap := v.nGap + 1 }
  else if P.natAbs < noload * 65536 then { v with nNoload := v.nNoload + 1 }
  else
    let j := if 0 ≤ P then (if 0 ≤ Q then 0 else 3) else (if 0 ≤ Q then 1 else 2)
    let v := { v with q := v.q.modify j (· + Q.natAbs * 1280) }
    if 0 ≤ P then { v with imp := v.imp + P.natAbs * 1280, nImp := v.nImp + 1 } else { v with exp := v.exp + P.natAbs * 1280, nExp := v.nExp + 1 }

/-! Intervals (R438 to R446) -/

/-- R438: the end of the interval that starts at `start` (sub-ticks), and whether it is tick-aligned. (DESIGN CHOICE: note 101.) -/
def Dev.intervalEnd (d : Dev) (start : Nat) : Nat × Bool :=
  let n := max 1 (d.get F.MET_CTRL.INTERVAL)
  if d.bit F.CHR_STATE.VALID then
    let inc := max 1 (d.get F.CHR_INC.INC)
    let unitNs : Nat := n * 1000000000 * 2 ^ 32
    -- network time at START by the relation in force: NT(now) + (start - now)·INC/64
    let nt : Int := (d.nt : Int) + ((start : Int) - ((d.tick * 64 : Nat) : Int)) * (inc : Int) / 64
    let next : Int := (nt / (unitNs : Int) + 1) * (unitNs : Int)
    let step := ((next - nt) * 64 + (inc : Int) - 1) / (inc : Int)
    (start + max 1 step.toNat, false)
  else
    let u := n * 100000000 * 64
    ((start / u + 1) * u, true)

/-- R438: the boundary at or before an instant. -/
def Dev.intervalFloor (d : Dev) (t : Nat) : Nat :=
  let n := max 1 (d.get F.MET_CTRL.INTERVAL)
  if d.bit F.CHR_STATE.VALID then
    let inc := max 1 (d.get F.CHR_INC.INC)
    let unitNs : Nat := n * 1000000000 * 2 ^ 32
    let nt : Int := (d.nt : Int) + ((t : Int) - ((d.tick * 64 : Nat) : Int)) * (inc : Int) / 64
    t - ((nt - nt / (unitNs : Int) * (unitNs : Int)) * 64 / (inc : Int)).toNat
  else t / (n * 6400000000) * (n * 6400000000)

/-- R441: the flags that a lasting condition sets in a new record. -/
def Dev.lastingFlags (d : Dev) (e : Nat) (aligned : Bool) : Nat :=
  let cs := [unit d.metCh (d.get F.MET_EL_CFG.V_CH e), unit d.metCh (d.get F.MET_EL_CFG.I_CH e)]
  (if aligned then 8 else 0) + (if cs.any (·.calOut) then 32 else 0) + (if cs.any (·.ovrNow) then 64 else 0) + (if cs.any (·.zcOut) then 128 else 0)

/-- R438: the relation of network time changes now: an interval that has started by now, and is not open yet, keeps the END that the old one gives. -/
def Dev.endsFix (d : Dev) : Dev :=
  d.each (List.range 8) fun d e =>
    match (unit d.metEl e).open_ with
    | some v => if v.stop ≤ d.tick * 64 ∧ (unit d.metEl e).next.isNone then d.mel e (fun x => { x with next := some (v.stop, d.intervalEnd v.stop) }) else d
    | none => d

/-- R438, R441: a step of network time now: it lies in the open intervals that reach past it, or in those that follow. -/
def Dev.stepFlag (d : Dev) : Dev :=
  let t := d.tick * 64
  let es := (List.range 8).filter (fun e => (unit d.metEl e).open_.any (fun v => decide (v.start ≤ t ∧ t < v.stop)))
  { d.metFlag es 4 with met := { d.met with stepAt := some t } }

/-- R438: the interval of an element from `start`. The fractions `fr` of the accumulators are carried in (R439), and the instant of the last sample posted.
(DESIGN CHOICE: note 101.) -/
def Dev.intervalOpen (d : Dev) (e start : Nat) (fr : Nat × Nat × List Nat) (extra last : Nat) : Dev :=
  let (stop, aligned) := match (unit d.metEl e).next with | some (s0, x) => if s0 = start then x else d.intervalEnd start | none => d.intervalEnd start
  let step := if d.met.stepAt.any (fun t => decide (start ≤ t ∧ t < stop)) then 16 else 0
  let v : Interval := ⟨start, stop, fr.1, fr.2.1, fr.2.2, 0, 0, 0, 0, d.lastingFlags e aligned + extra + step, 0, last⟩
  ((d.mel e (fun x => { x with open_ := some v, next := none })).set F.MET_EL_OPEN.START (start / 64) e).setB F.MET_STATUS.TICK_ALIGNED aligned

/-- R439: the totals advance by the whole parts; R443: whether each accumulator is its whole part and its fraction, and each total advanced by that part. -/
def Dev.totalsAdd (d : Dev) (e : Nat) (v : Interval) : Dev × Bool :=
  let m := 2 ^ 32
  let x := (d.inc F.MET_EL_TOT_IMP.MJ (v.imp / m) e).inc F.MET_EL_TOT_EXP.MJ (v.exp / m) e
  let x := x.each (List.range 4) (fun d j => d.inc F.MET_EL_TOT_Q.MVARS (v.q.getD j 0 / m) e j)
  let exact := fun (a was now : Nat) => a / m * m + a % m == a && now == (was + a / m) % 2 ^ 64
  (x, exact v.imp (d.get F.MET_EL_TOT_IMP.MJ e) (x.get F.MET_EL_TOT_IMP.MJ e) && exact v.exp (d.get F.MET_EL_TOT_EXP.MJ e) (x.get F.MET_EL_TOT_EXP.MJ e)
    && (List.range 4).all (fun j => exact (v.q.getD j 0) (d.get F.MET_EL_TOT_Q.MVARS e j) (x.get F.MET_EL_TOT_Q.MVARS e j)))

/-- R439 to R443: close an element's interval: whole parts into the record and the totals, the checks, the record, the event. -/
def Dev.intervalClose (d : Dev) (e : Nat) (v : Interval) : Dev × (Nat × Nat × List Nat) :=
  let m := 2 ^ 32
  let count := v.nImp + v.nExp + v.nNoload + v.nGap
  let (d, exact) := d.totalsAdd e v
  let bad := count ≠ upTo v.stop - upTo v.start ∨ !exact
  let seq := d.get F.MET_EL_RECS.SEQ e
  let fl := putBits (putBits (putBits v.flags 0 1 (b2n (v.nGap != 0))) 9 1 (b2n bad)) 2 1 (b2n (d.met.stale.contains e))
  let r : MetRec := ⟨e, seq, { v with flags := fl }, v.imp / m, v.exp / m, v.q.map (· / m)⟩
  let d := { d with met := { d.met with records := d.met.records.modify e (fun l => (r :: l).take 256), stale := d.met.stale.filter (· != e) } }
  let d := (d.set F.MET_EL_RECS.SEQ (seq + 1) e).raise 164 0 e (leBytes 4 seq ++ leBytes 2 fl)
  let d := if bad then (d.condOn 193 4).conserve 4 (max count (upTo v.stop - upTo v.start) - min count (upTo v.stop - upTo v.start)) else d.condOff 193 4
  (d, v.imp % m, v.exp % m, v.q.map (· % m))

/-- R439: close the open interval of an element and open the next at its END. -/
def Dev.intervalNext (d : Dev) (e : Nat) : Dev :=
  match (unit d.metEl e).open_ with
  | none => d
  | some v =>
    let (d, fr) := d.intervalClose e v
    d.intervalOpen e v.stop fr 0 v.lastTick

/-- R439: the interval of an element closes once the last sample before its END has been posted. -/
def execMeterIntervalClose (e : Fin 8) (s : State) : Host.Outcome State Fault Refusal := onMain s fun d =>
  match (unit d.metEl e).open_ with
  | none => d
  | some v => if d.bit F.MET_STATUS.RUN ∧ v.stop ≤ sampleAt d.met.k then d.intervalNext e else d

/-! Reporting windows (R426, R435, R436) -/

/-- R426, R435: a channel's readouts at the end of its window, and its validity range. -/
def Dev.chWindow (d : Dev) (m : Nat) : Dev :=
  let c := unit d.metCh m
  if c.n = 0 then d
  else
    let n : Rat := (c.n : Nat)
    let mean := fRnd (c.sum / n)
    let rms := fRnd (rSqrt (c.sumSq / n))
    let d := ((d.set F.MET_CH_MEAN.MEAN mean m).set F.MET_CH_RMS.RMS rms m).mch m (fun c => { c with sum := 0, sumSq := 0, n := 0 })
    let avg := c.sum / n
    let mu := if d.isDc m then max avg (-avg) else rSqrt (c.sumSq / n)
    let inside := decide (fRat (d.get F.MET_CH_CAL_LO.CAL_LO m) ≤ mu) && decide (mu < fRat (d.get F.MET_CH_CAL_HI.CAL_HI m))
    -- R426: an excursion ends when µ has been back inside for a whole window
    let out := !inside || (c.calOut && !c.calBack)
    let d := (d.mch m (fun c => { c with mu := mu, calOut := out, calBack := inside })).setFlag F.MET_CAL_RANGE.CAL m out
    if !out then d.condOff 162 m
    else
      let d := d.metFlag (d.elsOf m) 5
      if c.calOut then d else (d.condOn 162 m).raise 162 1 m (leBytes 4 (fRnd mu))

/-- R436: a window of element 0 closes: every HARM_EVERY-th files the burst's loan; one that closes while the request waits replaces the older. -/
def Dev.harmWindow (d : Dev) : Dev :=
  let w := d.met.windows + 1
  let d := { d with met := { d.met with windows := w } }
  let h := d.get F.MET_CTRL.HARM_EVERY
  if h = 0 then d
  else if d.met.waiting.isSome then ({ d with met := { d.met with waiting := some w } }).inc F.MET_HARM_SKIPPED.COUNT 1
  else if w % h = 0 then
    (if d.met.bursting.isSome then d.inc F.MET_HARM_SKIPPED.COUNT 1 else ({ d with met := { d.met with waiting := some w } }).loanFile 7 0)
  else d

/-- R435: the end of an element's reporting window, at the sample of instant `t`. -/
def Dev.elWindow (d : Dev) (e t : Nat) : Dev :=
  let x := unit d.metEl e
  if x.n = 0 then d
  else
    let n : Rat := (x.n : Nat)
    let p := x.sumP / n
    let q := x.sumQ / n
    let sv := rSqrt (x.sumV / n) * rSqrt (x.sumI / n)
    let d := (((d.set F.MET_EL_P.P (fRnd p) e).set F.MET_EL_Q.Q (fRnd q) e).set F.MET_EL_S.S (fRnd sv) e).set F.MET_EL_PF.PF (if sv = 0 then 0 else fRnd (p / sv)) e
    let c := unit d.metCh (d.get F.MET_EL_CFG.V_CH e)
    let stop := if c.zcOut then c.nomAt else c.zcAt.getD t
    let d := d.mel e (fun x => { x with sumP := 0, sumQ := 0, sumV := 0, sumI := 0, n := 0, crossings := 0, winFrom := stop
                                        closed := if d.elDc e then none else some ⟨x.winFrom, stop, t, x.wv, x.wi⟩ })
    -- a channel's window is that of the first element that uses it
    let own := fun (m : Nat) => (d.elsOf m).head? == some e
    let v := d.get F.MET_EL_CFG.V_CH e
    let i := d.get F.MET_EL_CFG.I_CH e
    let d := if own v then d.chWindow v else d
    let d := if own i ∧ i ≠ v then d.chWindow i else d
    if e = 0 then d.harmWindow else d

/-- R435: the window of an element is complete. -/
def Dev.windowDone (d : Dev) (e : Nat) : Bool :=
  let x := unit d.metEl e
  if d.elDc e then 10240 ≤ x.n else (if d.bit F.MET_CTRL.NOM_HZ then 12 else 10) ≤ x.crossings

/-! One sample instant (R422 to R435) -/

/-- R447: the sub-ticks of a closure window of 65,536 beats. -/
abbrev closeSpan : Nat := 2 ^ 32

/-- R447: a sample of power `P` (0 in a gap) belongs to the closure window of its instant; at a new window the sums of the last are set aside. -/
def Dev.closeSample (d : Dev) (e t : Nat) (P : Int) : Dev :=
  d.mel e (fun x =>
    let k := t / closeSpan
    let x := if x.winK = k then x else { x with prev := some (x.winK, x.met, x.metAbs), winK := k, met := 0, metAbs := 0 }
    { x with met := x.met + P * 1280, metAbs := x.metAbs + P.natAbs * 1280 })

/-- R425, R435: the newest sample of a channel goes into the sums of its window. -/
def Dev.chSum (d : Dev) (m : Nat) : Dev := d.mch m (fun c => { c with sum := c.sum + c.vr, sumSq := c.sumSq + c.vr * c.vr, n := c.n + 1 })

/-- R432 to R435: one element's sample at instant `t`. (DESIGN CHOICE: note 101.) -/
def Dev.elSample (d : Dev) (e t : Nat) : Dev :=
  let v := d.get F.MET_EL_CFG.V_CH e
  let i := d.get F.MET_EL_CFG.I_CH e
  let lost := (unit d.metCh v).lostNow || (unit d.metCh i).lostNow
  let dc := d.elDc e
  let (d, P, Q) := d.elPower e
  let nl := d.get F.MET_EL_NOLOAD.NOLOAD_W e
  let rv := d.vRead v
  let ri := d.vRead i
  let d := d.mel e (fun x => { x with wv := if dc then [] else (rv :: x.wv).take 12300, wi := if dc then [] else (ri :: x.wi).take 12300 })
  -- R5: the sample at which a crossing is found lies past the end of the window
  let d := if !dc && d.windowDone e then d.elWindow e t else d
  let d := d.each ((if i = v then [v] else [v, i]).filter (fun m => (d.elsOf m).head? == some e)) (fun d m => d.chSum m)
  let d := d.mel e (fun x =>
    { x with open_ := x.open_.map (fun o => postSample o lost P Q nl t)
             sumP := x.sumP + (P : Rat) / 65536, sumQ := x.sumQ + (Q : Rat) / 65536, sumV := x.sumV + rv * rv, sumI := x.sumI + ri * ri, n := x.n + 1 })
  let d := d.closeSample e t (if lost then 0 else P)
  if dc && d.windowDone e then d.elWindow e t else d

/-- R492: the METER record of 64 sample instants, the last of them sample `k` at 63 modulo 64. (DESIGN CHOICE: note 114.) -/
def Dev.arcMeter (d : Dev) (k : Nat) : Dev :=
  let l := d.metChs
  if k % 64 = 63 ∧ l.all (fun m => 64 ≤ (unit d.metCh m).hist.length) ∧ !l.isEmpty then
    d.arcSample 4 0 l.length (sampleAt (k - 63) / 64) 0 (l.flatMap (fun m => ((unit d.metCh m).hist.take 64).reverse)) (32 + 256 * l.length)
  else d

/-- R422: ticks after its instant at which a sample is available; the manual gives the latest. (DESIGN CHOICE: note 102.) -/
abbrev sampleReady : Nat := 3184

/-- R438, R439: the intervals whose END an instant has reached close before its sample is used. -/
def Dev.intervalsTo (d : Dev) (t : Nat) : Dev :=
  d.each d.metEls (fun d e => match (unit d.metEl e).open_ with | some o => if o.stop ≤ t then d.intervalNext e else d | none => d)

/-- R421 to R423, R433: the sample of an instant becomes available, from the bit streams of the 16 channels. -/
def execMeterSample (x : List MbWave) (s : State) : Host.Outcome State Fault Refusal := onMain s fun d =>
  if !d.bit F.MET_STATUS.RUN then d
  else
    let t := sampleAt d.met.k
    let d := (d.until (t / 64 + sampleReady)).inc F.MET_SAMPLES.COUNT 1
    let d := ({ d with met := { d.met with k := d.met.k + 1 } }).intervalsTo t
    let d := d.each d.metChs fun d m =>
      let d := d.metFilter m (d.met.k - 1) (x.getD m default)
      let d := d.chConditions m ((unit d.metCh m).hist.headD 0)
      let v := d.vRead m
      let d := d.mch m (fun c => { c with vr := v })
      if d.acVolt m then d.zcStep m t v else d
    ((d.each d.metEls (fun d e => d.elSample e t)).arcMeter (d.met.k - 1)).free

/-- R447: whether RUN lasts through the closure window of the running beat. -/
def Dev.runBeat (d : Dev) : Dev :=
  let k := d.beat / 65536
  let run := d.st == RUN
  if d.met.runK = k then { d with met := { d.met with runWhole := d.met.runWhole && run } }
  else { d with met := { d.met with runPrev := some (d.met.runK, d.met.runWhole && run), runK := k, runWhole := run } }

/-- R429: the values latched at tick 0 for the Array Engine. -/
def Dev.metBeat (d : Dev) : Dev :=
  let d := d.runBeat
  d.each d.metChs fun d m =>
    let t := d.period m
    d.mch m (fun c => if d.isDc m then { c with latchV := fRnd c.vr }
      else { c with latchZc := c.zcAt.getD 0, latchT := t, latchV := fRnd (rSqrt 2 * fRat c.perRms) })

/-! Start and stop (R444 to R446) -/

/-- R445: an element's interval when metering starts at sample instant `t`. -/
def Dev.elResume (d : Dev) (e t : Nat) : Dev :=
  let missed := fun (v : Interval) (till : Nat) => (upTo till - upTo v.start) - (v.nImp + v.nExp + v.nNoload + v.nGap)
  match (unit d.metEl e).open_ with
  | some v =>
    if t < v.stop then
      let v := { v with nGap := v.nGap + missed v t, flags := putBits v.flags 1 1 1, gapStart := v.lastTick }
      ((d.mel e (fun x => { x with open_ := some v })).set F.MET_EL_OPEN.START (v.start / 64) e).setB F.MET_STATUS.TICK_ALIGNED (v.flags.testBit 3)
    else
      let last := v.lastTick
      let (d, fr) := d.intervalClose e { v with nGap := v.nGap + missed v v.stop }
      let s0 := max v.stop (d.intervalFloor t)
      let d := d.intervalOpen e s0 fr (2 + 1024) last
      d.mel e (fun x => { x with open_ := x.open_.map (fun o => { o with nGap := upTo t - upTo s0, gapStart := last }) })
  | none =>
    let s0 := d.intervalFloor t
    let d := d.intervalOpen e s0 (0, 0, [0, 0, 0, 0]) (2 + 1024) 0
    d.mel e (fun x => { x with open_ := x.open_.map (fun o => { o with nGap := upTo t - upTo s0 }) })

/-- R423, R426, R428: a channel at a start: what it has stood in since before goes on, and everything else begins anew. -/
def MetCh.restart (c : MetCh) (t : Nat) : MetCh :=
  { (default : MetCh) with latchZc := c.latchZc, lostNow := c.lostNow, ovrNow := c.ovrNow, calOut := c.calOut, zcOut := c.zcOut
                           zcAt := if c.zcOut then c.zcAt else none, fresh := c.zcOut, nomAt := t }

/-- R444, R445: metering starts, from entry to STAGED on, with PLL-T running and a Metering section in the Catalogue. -/
def Dev.metStart (d : Dev) : Dev :=
  if d.bit F.MET_STATUS.RUN ∨ d.st = QUIET ∨ !d.met.declared ∨ !d.bit F.PLL_STATUS.LOCKED 1 then d
  else
    let k := upTo (d.tick * 64)
    let d := ({ d with met := { d.met with k := k, waiting := none }, pwr := { d.pwr with mclk := true } }).setB F.MET_STATUS.RUN true
    let d := d.each d.metChs (fun d m =>
      let d := d.mch m (fun c => c.restart (sampleAt k))
      if d.acVolt m then d.arm (.zc m) (msT (d.get F.MET_CH_ZC.ZC_TMO m)) else d)
    d.each d.metEls (fun d e => (d.mel e (fun x => { (default : MetEl) with open_ := x.open_, next := x.next, winFrom := sampleAt k, winK := sampleAt k / closeSpan })).elResume e (sampleAt k))

/-- R444: metering stops; the open intervals are kept, the modulator clocks go low, a harmonic request is withdrawn, and a window that waits or is analysed has
been skipped (R436). -/
def Dev.metStop (d : Dev) : Dev :=
  if !d.bit F.MET_STATUS.RUN then d
  else
    let d := d.inc F.MET_HARM_SKIPPED.COUNT (b2n d.met.waiting.isSome + b2n d.met.bursting.isSome)
    let d := ({ d with pwr := { d.pwr with mclk := false }, met := { d.met with waiting := none, bursting := none } }).setB F.MET_STATUS.RUN false
    let d := d.each (List.range 16) (fun d m => d.disarm (.zc m))
    ((d.disarm .harm).loanReturn 7 0).loanDrop 7 0

/-! Harmonics and closure (R436, R437, R447) -/

/-- R436: the burst's loan is granted: it analyses the latest closed window of every AC element and ends within 2 ms. -/
def Dev.harmGrant (d : Dev) : Dev :=
  let d := d.each d.metEls (fun d e => d.mel e (fun x => { x with burst := x.closed }))
  ({ d with met := { d.met with bursting := d.met.waiting, waiting := none } }).arm .harm (msT 2)

/-- R437: a quantity of a window resampled to 4,096 points over its M periods by the interpolator of R424. -/
def MetWin.points (w : MetWin) (l : List Rat) : List Rat :=
  (List.range 4096).map fun j =>
    let at_ : Rat := ((w.start : Nat) : Rat) + ((j : Nat) : Rat) * (((w.stop : Nat) : Rat) - ((w.start : Nat) : Rat)) / 4096
    cubic (fun n => l.getD n 0) (max 0 ((((w.last : Nat) : Rat) - at_) / sampleSub))

/-- R437: C_b², the square of the RMS magnitude of bin `b` of the discrete Fourier transform of 4,096 points. -/
def binSq (pts : List Rat) (b : Nat) : Rat :=
  let dot := fun (f : Nat → Rat) => (List.zipWith (fun x j => x * f (j * b % 4096 * 2 ^ 20)) pts (List.range 4096)).sum
  let re := dot cosOf
  let im := dot sinOf
  (re * re + im * im) * (if b = 0 then 1 else 2) / (4096 * 4096)

/-- R437: G_h², the square of the harmonic group of order `h` of a window of `M` periods. -/
def groupSq (pts : List Rat) (M h : Nat) : Rat :=
  if h = 0 then binSq pts 0
  else binSq pts (h * M - M / 2) / 2 + ((List.range (M - 1)).map (fun j => binSq pts (h * M - M / 2 + 1 + j))).sum + binSq pts (h * M + M / 2) / 2

/-- R437: the harmonic groups and the THD of one quantity. (DESIGN CHOICE: note 103.) -/
def harmonics (pts : List Rat) (M : Nat) : List Nat × Nat :=
  let sq := (List.range 128).map (groupSq pts M)
  let g1 := sq.getD 1 0
  (sq.map (fun x => fRnd (rSqrt x)), if g1 = 0 then 0 else fRnd (rSqrt ((sq.drop 2).sum / g1)))

/-- R437: the harmonic results of an element from the window the burst analyses. -/
def Dev.harmElement (d : Dev) (e : Nat) : Dev :=
  match (unit d.metEl e).burst with
  | none => d
  | some w =>
    let M := if d.bit F.MET_CTRL.NOM_HZ then 12 else 10
    let (gv, tv) := harmonics (w.points w.v) M
    let (gi, ti) := harmonics (w.points w.i) M
    let rows := (List.range 128).map (fun h => (e, h, gv.getD h 0, gi.getD h 0))
    let d := { d with met := { d.met with harmonics := rows ++ d.met.harmonics.filter (fun (x : Nat × Nat × Nat × Nat) => x.1 != e) } }
    (d.set F.MET_EL_THD_V.THD tv e).set F.MET_EL_THD_I.THD ti e

/-- R436: the harmonic burst completes. (DESIGN CHOICE: note 103.) -/
def execHarmonicBurstDone (s : State) : Host.Outcome State Fault Refusal := onMain s fun d =>
  d.fire .harm fun d =>
    let d := d.each (d.metEls.filter (fun e => !d.elDc e)) (fun d e => d.harmElement e)
    let d := d.set F.MET_HARM_WIN.WINDOW (d.met.bursting.getD 0)
    ({ d with met := { d.met with bursting := none } }).loanReturn 7 0

/-- R447: one element's closure over a window: the element's energies in 2^-32 mJ, the string's in µJ. (DESIGN CHOICE: notes 78, 101.) -/
def Dev.elClosure (d : Dev) (e : Nat) (sum : Int) (abs : Nat) (arr : Rat) : Dev :=
  let met : Rat := (sum : Rat) * 1000 / ((2 ^ 32 : Nat) : Rat)
  let tot : Rat := ((abs : Nat) : Rat) * 1000 / ((2 ^ 32 : Nat) : Rat)
  let diff := met - arr
  let lim : Rat := ((d.get F.MET_CLOSE_CFG.CL_FLOOR : Nat) : Rat) * 1000000000 + ((d.get F.MET_CLOSE_CFG.CL_PERMIL : Nat) : Rat) * tot / 1000
  let j := rAway (diff / 1000000)
  let d := d.setS F.MET_EL_CLOSE.D j e
  if lim < max diff (-diff) then (d.metFlag [e] 8).raise 165 1 (d.get F.MET_EL_CFG.STRING e) (leBytes 4 (ofS 32 j)) else d

/-- R447: the check of the closure window that has ended, once its last sample and its last burst have been booked: for an element with CLOSE_EN whose
window the array has summed as well and through which RUN has lasted. Each window is checked once. -/
def execMeterClosureWindow (s : State) : Host.Outcome State Fault Refusal := onMain s fun d =>
  d.each (d.metEls.filter (fun e => d.bit F.MET_EL_CFG.CLOSE_EN e)) fun d e =>
    match (unit d.metEl e).prev, d.arr.metPrev with
    | some (k, sum, abs), some (ka, l) =>
      if k = ka then
        let d := d.mel e (fun x => { x with prev := none })
        if d.met.runPrev = some (k, true) then d.elClosure e sum abs (l.getD (d.get F.MET_EL_CFG.STRING e) 0) else d
      else d
    | _, _ => d

end Sys2Proof.Machine
end

