-- ==== Sys2Proof/Machine/Chronometer.lean ====
section
/-! DEFINITION. Network time and the networks (R453 to R474): steps, host sets, the servo, masters, PTP exchanges, the pass-through, PPS and CAN FD. -/

namespace Sys2Proof.Machine

/-! Network time -/

/-- R454: network time of an instant (sub-ticks) by the relation in force, in 2^-32 ns. -/
def Dev.ntAt (d : Dev) (x : Nat) : Int := (d.nt : Int) + ((x : Int) - ((d.tick * 64 : Nat) : Int)) * (d.get F.CHR_INC.INC : Int) / 64

/-- R454: the same, truncated to whole nanoseconds. -/
def Dev.ntNs (d : Dev) (x : Nat) : Int := d.ntAt x / (2 ^ 32 : Int)

/-- Network time becomes a value, in 2^-32 ns. -/
def Dev.ntSet (d : Dev) (t : Int) : Dev :=
  { d with chr := { d.chr with sec := t.toNat / (1000000000 * 2 ^ 32), frac := t.toNat % (1000000000 * 2 ^ 32) } }

/-- R454: the snapshot. -/
def Dev.snap (d : Dev) : Dev :=
  let t := (d.ntAt (d.stamp * 64)).toNat
  let d := (d.set F.CHR_SNAP_TICK.TICK d.stamp).set F.CHR_SNAP_SEC.SEC (t / (1000000000 * 2 ^ 32))
  (d.set F.CHR_SNAP_NS.FRAC (t % 2 ^ 32)).set F.CHR_SNAP_NS.NS (t % (1000000000 * 2 ^ 32) / 2 ^ 32)

/-- R455, R467: enter a state of network time; the holdover's deadline ends with it. -/
def Dev.ntState (d : Dev) (s : Nat) : Dev := (((d.endsFix).cond (s != 4) (·.disarm .holdover)).set F.CHR_STATE.NT_STATE s).setB F.CHR_STATE.VALID (s = 1 ∨ s = 3 ∨ s = 4)

/-- R456, R438: a step by a signed amount in 2^-32 ns: 0 host set, 1 servo. -/
def Dev.ntStep (d : Dev) (by_ : Int) (who : Nat) : Dev :=
  let d := (((d.endsFix).ntSet ((d.nt : Int) + by_)).inc F.CHR_STEPS.COUNT 1).stepFlag
  d.raise 176 1 who (leBytes 8 (ofS 64 (by_ / (2 ^ 32 : Int))))

/-- R457: at tick AT the armed set applies; a servo step of the same tick follows in the next. -/
def execChrSetApply (s : State) : Host.Outcome State Fault Refusal := onMain s fun d =>
  d.fire .set fun d =>
    let want : Int := ((d.get F.CHR_SET_SEC.SEC * 1000000000 + d.get F.CHR_SET_NS.NS : Nat) : Int) * 2 ^ 32
    let d := (d.setB F.CHR_STATE.SET_ARMED false).ntStep (want - (d.nt : Int)) 0
    let d := if d.get F.CHR_SERVO.SOURCE = 0 then d.ntState 1 else d
    let d := { d with chr := { d.chr with setAt := some d.tick } }
    match d.chr.pendStep with
    | some x => (({ d with chr := { d.chr with pendStep := none } }).elapse 1).ntStep x 1
    | none => d

/-! The servo (R464 to R467) -/

/-- R453, R465: a new rate, in ppb, with the increment it gives. -/
def Dev.setRate (d : Dev) (r : Rat) : Dev :=
  let d := ({ d.endsFix with chr := { d.chr with r := r } }).set F.CHR_RATE.R (fRnd r)
  d.set F.CHR_INC.INC (rRound (42949672960 * (1 + r / 1000000000))).toNat

/-- R465 step 2: the rate. -/
def Dev.servoRate (d : Dev) (th : Rat) : Dev :=
  let m : Rat := (d.get F.CHR_LIMITS.RATE_MAX : Nat)
  let i := rClamp (-m) m (d.chr.i + (d.get F.CHR_GAIN.KI : Rat) / 65536 * th)
  ({ d with chr := { d.chr with i := i } }).setRate (rClamp (-m) m (-((d.get F.CHR_GAIN.KP : Rat) / 1024 * th + i)))

/-- R465, R474: CHR_LOCK. -/
def Dev.chrLock (d : Dev) (cls : Nat) (th : Rat) : Dev :=
  d.raise 177 cls (d.get F.CHR_SERVO.SOURCE) (leBytes 8 (ofS 64 (rRound th)))

/-- R466: LOCKED can be entered. -/
def Dev.canLock (d : Dev) : Bool := d.bit F.CHR_STATE.FULL_RES || 100 ≤ d.get F.CHR_SERVO.LOCK_NS

/-- R465 step 3, R467: the lock rule. -/
def Dev.servoLock (d : Dev) (th : Rat) : Dev :=
  let near : Bool := |th| < (d.get F.CHR_SERVO.LOCK_NS : Rat)
  let st := d.get F.CHR_STATE.NT_STATE
  if st = 3 then
    let u := if near then 0 else d.chr.unlocks + 1
    if u = 4 then ((({ d with chr := { d.chr with unlocks := 0, locks := 0 } }).ntState 2).disarm .measure).chrLock 1 th
    else { d with chr := { d.chr with unlocks := u } }
  else
    let n := if near then d.chr.locks + 1 else 0
    let d := { d with chr := { d.chr with locks := n } }
    if 16 ≤ n ∧ d.canLock then (({ d with chr := { d.chr with unlocks := 0 } }).ntState 3).chrLock 0 th else d

/-- R455, R467: what any measurement does to the state: FREE and SET go to ACQUIRING; HOLDOVER ends. (DESIGN CHOICE: note 104.) -/
def Dev.servoHeard (d : Dev) (th : Rat) : Dev :=
  let st := d.get F.CHR_STATE.NT_STATE
  if st = 0 ∨ st = 1 then ({ d with chr := { d.chr with locks := 0 } }).ntState 2
  else if st = 4 then
    let near : Bool := |th| < (d.get F.CHR_SERVO.LOCK_NS : Rat)
    ({ d with chr := { d.chr with locks := 0, unlocks := 0 } }).ntState (if near && d.canLock then 3 else 2)
  else d

/-- R465: one measurement θ, in ns. (DESIGN CHOICE: note 104.) -/
def Dev.measure (d : Dev) (th : Rat) : Dev :=
  let d := (d.set F.CHR_OFFSET.THETA (ofS 32 (clampI (-(2 ^ 31)) (2 ^ 31 - 1) (rRound th)))).servoHeard th
  if (d.get F.CHR_STEP_NS.STEP_NS : Rat) < |th| then
    if d.chr.steps = 2 then
      let d := (({ d with chr := { d.chr with steps := 0, locks := 0, unlocks := 0 } }).ntState 2).disarm .measure
      let by_ : Int := rRound (-th * 4294967296)
      if (match d.due .set with | some t => decide (t ≤ d.tick) | none => false) then { d with chr := { d.chr with pendStep := some by_ } }
      else if d.chr.setAt = some d.tick then (d.elapse 1).ntStep by_ 1
      else d.ntStep by_ 1
    else { d with chr := { d.chr with steps := d.chr.steps + 1 } }
  else
    let d := ({ d with chr := { d.chr with steps := 0 } }).servoRate th
    (d.servoLock th).arm .measure (msT (d.get F.CHR_HOLD.TIMEOUT_MS))

/-- R464, R467: holdover starts: 0 timeout, 1 PLL-E lost; without a source the servo does nothing. (DESIGN CHOICE: note 105.) -/
def Dev.holdover (d : Dev) (why : Nat) : Dev :=
  if d.get F.CHR_STATE.NT_STATE = 3 ∧ d.get F.CHR_SERVO.SOURCE ≠ 0 then
    let d := ((d.setRate (-d.chr.i)).ntState 4).disarm .measure
    let d := d.arm .holdover (d.get F.CHR_HOLD.HOLDOVER_S * 100000000)
    d.raise 178 1 why (leBytes 4 (d.get F.CHR_RATE.R))
  else d

/-- R467: no measurement used for TIMEOUT_MS while LOCKED. -/
def execHoldoverStart (s : State) : Host.Outcome State Fault Refusal := onMain s fun d =>
  if d.get F.CHR_STATE.NT_STATE = 3 ∧ d.get F.CHR_SERVO.SOURCE ≠ 0 then d.fire .measure (·.holdover 0) else d

/-- R467: HOLDOVER_S has passed. -/
def execHoldoverExpiry (s : State) : Host.Outcome State Fault Refusal := onMain s fun d =>
  d.fire .holdover fun d => if d.get F.CHR_STATE.NT_STATE = 4 then (d.ntState 0).raise 178 1 2 (leBytes 4 (d.get F.CHR_RATE.R)) else d

/-! Masters (R463) -/

/-- R463: the order of the default best master clock algorithm: of two grandmasters by their attributes, of one grandmaster by the steps, then by the
sender; a complete tie is the algorithm's own. (DESIGN CHOICE: note 106.) -/
def Dev.better (d : Dev) (a b : Announce) : Bool :=
  let key : Announce → List Nat := fun x =>
    if a.identity = b.identity then [x.stepsRemoved, x.sender]
    else [x.priority1, x.clockClass, x.accuracy, x.variance, x.priority2, x.identity]
  if key a = key b then Config.bmcaTie d.freeCtr else key a < key b

/-- R463: the best of the masters of a port. (DESIGN CHOICE: note 106.) -/
def Dev.bestOf (d : Dev) (l : List Announce) : Option Announce :=
  l.foldl (fun m x => match m with | none => some x | some y => if d.better x y then some x else some y) none

/-- R464: the port the servo uses. -/
def Dev.servoPort (d : Dev) : Option Nat :=
  match d.get F.CHR_SERVO.SOURCE with
  | 1 => some 0
  | 2 => some 1
  | 3 => match (unit d.ports 0).best, (unit d.ports 1).best with
    | some a, some b => if d.better b a then some 1 else some 0
    | some _, none => some 0
    | none, some _ => some 1
    | none, none => none
  | _ => none

/-- R463, R475: the choice among the qualified masters, and its registers. (PRESUMED: note 107.) -/
def Dev.masterSync (d : Dev) : Dev :=
  let d := d.each [0, 1] fun d n =>
    let p := unit d.ports n
    let b := d.bestOf ((p.masters.map Prod.fst).filter (fun a => p.qualified.contains a.sender && a.stepsRemoved < 255))
    let d := (d.port n (fun p => { p with best := b })).setB F.ETH_STATUS.MASTER b.isSome n
    d.set F.ETH_GM.CLOCK_ID (match b with | some a => a.identity | none => 0) n
  let sel := d.servoPort
  (d.each [0, 1] (fun d n => d.setB F.ETH_STATUS.SELECTED (sel == some n) n)).free

/-- R463: three announce intervals of 2^logInterval s, in ticks. -/
def lostAfter (a : Announce) : Nat :=
  if 0 ≤ a.logInterval then 300000000 * 2 ^ a.logInterval.toNat else 300000000 / 2 ^ (-a.logInterval).toNat

/-- R463: the deadline of the first master of a port to be lost. -/
def Dev.announceArm (d : Dev) (n : Nat) : Dev :=
  match (unit d.ports n).masters.map (fun (x : Announce × Nat) => x.2 + lostAfter x.1) with
  | [] => d.disarm (.announce n)
  | x :: xs => d.arm (.announce n) (xs.foldl min x - d.tick)

/-- R463, R475: PTP of a domain is heard on a port, over the transport the port is set to. -/
def Dev.ptpOn (d : Dev) (n domain : Nat) (udp : Bool) : Bool :=
  d.bit F.ETH_STATUS.LINK n && d.bit F.ETH_CFG.PTP_EN n && d.get F.ETH_CFG.DOMAIN n == domain && d.bit F.ETH_CFG.UDP4 n == udp

/-- A PTP message received: counted where the link is up, then heard. -/
def Dev.ptpRx (d : Dev) (n domain : Nat) (udp : Bool) (g : Dev → Dev) : Dev :=
  if d.bit F.ETH_STATUS.LINK n then
    let d := d.inc F.ETH_RX.COUNT 1 n
    if d.ptpOn n domain udp then g d else d
  else d

/-! Stamps (R454, R459, R460) -/

/-- R459: the corrections of a mode, transmit and receive, in whole sub-ticks: 25.6 ns and 38.4 ns, or 56.0 ns and 88.0 ns. (DESIGN CHOICE: note 108.) -/
def ethCorr (mode : Nat) : Nat × Nat := if mode = 1 then (164, 246) else (358, 563)

/-- R459: the instant at the balls of a frame that the transmitter of a port takes at `x`, or that its receiver finds at `x` with a measured position. -/
def Dev.txBall (d : Dev) (n x : Nat) : Nat := x + (ethCorr (d.get F.ETH_CFG.MODE n)).1
def Dev.rxBall (d : Dev) (n x pos : Nat) : Nat := x - (ethCorr (d.get F.ETH_CFG.MODE n)).2 - pos

/-- R460: an external delay of a port in ns. -/
def Dev.extTx (d : Dev) (n : Nat) : Rat := (d.getS F.ETH_ASYM.EXT_TX n : Rat) / 10
def Dev.extRx (d : Dev) (n : Nat) : Rat := (d.getS F.ETH_ASYM.EXT_RX n : Rat) / 10

/-- R454, R459, R460: the stamp of a transmitted and of a received frame, in network time at the medium. -/
def Dev.txNs (d : Dev) (n x : Nat) : Rat := (d.ntNs (d.stampAt (d.txBall n x)) : Rat) + d.extTx n
def Dev.rxNs (d : Dev) (n x pos : Nat) : Rat := (d.ntNs (d.stampAt (d.rxBall n x pos)) : Rat) - d.extRx n

/-- R461: the UDP checksum of a PTP message that the module sends on a port. -/
def Dev.udpSum (d : Dev) (n : Nat) : Option Nat := if d.bit F.ETH_CFG.UDP4 n then some 0 else none

/-- R461, R463: a Delay_Req, or with P2P a Pdelay_Req, leaves a port; when, the spec leaves to the module. (DESIGN CHOICE: note 108.) -/
def Dev.delayRequest (d : Dev) (n : Nat) : Dev :=
  let peer := d.bit F.ETH_CFG.P2P n
  let t := d.txNs n (d.tick * 64 + Config.freeNat d.freeCtr)
  let q := (unit d.ports n).seq
  let d := (d.emit (.delayReq peer n q (if peer then 0 else t.floor) (d.udpSum n))).inc F.ETH_TX.COUNT 1 n
  (d.port n (fun p => { p with req := some (q, t), seq := (q + 1) % 65536 })).free

/-- R463: an Announce enters the selection: a master qualifies with its second Announce within four intervals. With P2P it is also when the port asks its peer.
(PRESUMED: note 107; DESIGN CHOICE: note 108.) -/
def execPtpAnnounce (n : Fin 2) (a : Announce) (s : State) : Host.Outcome State Fault Refusal := onMain s fun d =>
  d.ptpRx n a.domain a.udp fun d =>
    let again := (unit d.ports n).masters.any (fun (x : Announce × Nat) => x.1.sender == a.sender && decide (d.tick < x.2 + lostAfter a / 3 * 4))
    let d := d.port n (fun p => { p with masters := (a, d.tick) :: p.masters.filter (fun (x : Announce × Nat) => x.1.sender != a.sender)
                                         qualified := if again && !p.qualified.contains a.sender then a.sender :: p.qualified else p.qualified })
    ((d.announceArm n).masterSync).cond (d.bit F.ETH_CFG.P2P n) (·.delayRequest n)

/-- R463: a master is lost. -/
def execPtpMasterLost (n : Fin 2) (s : State) : Host.Outcome State Fault Refusal := onMain s fun d =>
  d.fire (.announce n) fun d =>
    let d := d.port n (fun p =>
      let l := p.masters.filter (fun (x : Announce × Nat) => decide (d.tick < x.2 + lostAfter x.1))
      { p with masters := l, qualified := p.qualified.filter (fun q => l.any (fun x => x.1.sender == q)) })
    (d.announceArm n).masterSync

/-! PTP exchanges (R459 to R463) -/

/-- R463: a message comes from the master that the port has chosen. -/
def Dev.fromBest (d : Dev) (n sender : Nat) : Bool :=
  match (unit d.ports n).best with | some b => b.sender == sender | none => false

/-- R463, R464: a measurement on a port, used by the servo where the port is selected; in request-response mode a Delay_Req follows it. (DESIGN CHOICE: note 108.) -/
def Dev.ptpMeasure (d : Dev) (n : Nat) (t2 : Int) (origin : Nat) (correction : Int) : Dev :=
  let rx : Rat := (t2 : Rat) - d.extRx n
  let tx : Rat := (origin : Rat) + (correction : Rat) / 65536
  let th : Rat := rx - tx - (unit d.ports n).delay
  let d := (d.port n (fun p => { p with last := some (rx, tx) })).cond (!d.bit F.ETH_CFG.P2P n) (·.delayRequest n)
  if d.servoPort = some n then d.measure th else d

/-- R463, R465: a Sync of the chosen master: a measurement at once, or with its Follow_Up. -/
def execPtpSync (n : Fin 2) (m : PtpSync) (s : State) : Host.Outcome State Fault Refusal := onMain s fun d =>
  d.ptpRx n m.domain m.udp fun d =>
    if d.fromBest n m.sender then
      let d := d.until (m.rx / 64)
      let t2 := d.ntNs (d.stampAt (d.rxBall n m.rx m.pos))
      if m.twoStep then d.port n (fun p => { p with syncRx := some (m, t2) }) else d.ptpMeasure n t2 m.origin m.correction
    else d

/-- R463: the Follow_Up of a two-step Sync. -/
def execPtpFollowUp (n : Fin 2) (m : PtpSync) (s : State) : Host.Outcome State Fault Refusal := onMain s fun d =>
  d.ptpRx n m.domain m.udp fun d =>
    match (unit d.ports n).syncRx with
    | some (y, t2) =>
      if d.fromBest n m.sender && y.sender == m.sender && y.seq == m.seq then
        (d.port n (fun p => { p with syncRx := none })).ptpMeasure n t2 m.origin (y.correction + m.correction)
      else d
    | none => d

/-- R463, R475: a mean delay in ns. -/
def Dev.setDelay (d : Dev) (n : Nat) (x : Rat) : Dev := (d.port n (fun p => { p with delay := x })).set F.ETH_DELAY.DELAY (fRnd x) n

/-- R454, R460, R461: the time between a receive stamp on one port and a transmit stamp on one, in 2^-16 ns, rounded down. -/
def Dev.dwell (d : Dev) (inn out rx pos tx : Nat) : Int := ((d.txNs out tx - d.rxNs inn rx pos) * 65536).floor

/-- R463: a response answers the request that waits on a port; the departure of that request. -/
def Dev.reqOf (d : Dev) (n seq : Nat) : Option Rat := match (unit d.ports n).req with | some (q, t) => if q = seq then some t else none | none => none

/-- R461, R463: a Delay_Resp: the mean path delay of its exchange with the last Sync. -/
def execPtpDelayResp (n : Fin 2) (m : PtpDelay) (s : State) : Host.Outcome State Fault Refusal := onMain s fun d =>
  d.ptpRx n m.domain m.udp fun d =>
    if d.bit F.ETH_CFG.P2P n || !d.fromBest n m.sender then d
    else match d.reqOf n m.seq, (unit d.ports n).last with
      | some t3, some (t2, t1) => (d.port n (fun p => { p with req := none })).setDelay n ((t2 - t1 + ((m.peerRx : Rat) - t3) - (m.correction : Rat) / 65536) / 2)
      | _, _ => d

/-- R463: a Pdelay_Resp with its follow-up: the mean link delay. -/
def execPtpPdelayResp (n : Fin 2) (m : PtpDelay) (s : State) : Host.Outcome State Fault Refusal := onMain s fun d =>
  d.ptpRx n m.domain m.udp fun d =>
    if !d.bit F.ETH_CFG.P2P n then d
    else match d.reqOf n m.seq with
      | some t1 => (d.port n (fun p => { p with req := none })).setDelay n ((d.rxNs n m.rx m.pos - t1 - ((m.peerTx - m.peerRx : Int) : Rat) - (m.correction : Rat) / 65536) / 2)
      | none => d

/-- R461, R463: a Pdelay_Req in peer mode is answered with the correction grown by the turnaround and requestReceiptTimestamp 0; when the answer leaves is the
module's. (DESIGN CHOICE: note 108.) -/
def execPtpPdelayReq (n : Fin 2) (m : PtpSync) (s : State) : Host.Outcome State Fault Refusal := onMain s fun d =>
  d.ptpRx n m.domain m.udp fun d =>
    if d.bit F.ETH_CFG.P2P n then
      ((d.emit (.pdelayResp n m.seq (m.correction + d.dwell n n m.rx m.pos (m.rx + Config.freeNat d.freeCtr)) 0 (d.udpSum n))).free).inc F.ETH_TX.COUNT 1 n
    else d

/-! Ports and the pass-through (R458, R462, R474) -/

/-- `n` bytes of a frame from offset `o`, the first the most significant, and a frame with such a number written. -/
def beAt (b : List Nat) (o n : Nat) : Nat := ((b.drop o).take n).foldl (fun v x => 256 * v + x) 0
def bePut (b : List Nat) (o n v : Nat) : List Nat := b.take o ++ (leBytes n v).reverse ++ b.drop (o + n)

/-- R459: the EtherType of a frame and where what it names begins, past at most one VLAN tag. -/
def ethType (b : List Nat) : Nat × Nat := if beAt b 12 2 = 0x8100 then (beAt b 16 2, 18) else (beAt b 12 2, 14)

/-- R459: where the PTP message of a frame begins, and its UDP checksum where it has one: in Layer 2, or in UDP over IPv4 on port 319 or 320. -/
def ptpAt (b : List Nat) : Option (Nat × Option Nat) :=
  let (t, o) := ethType b
  if t = 0x88F7 then some (o, none)
  else
    let u := o + 4 * (beAt b o 1 % 16)
    let port := beAt b (u + 2) 2
    if t = 0x0800 ∧ beAt b o 1 / 16 = 4 ∧ beAt b (o + 9) 1 = 17 ∧ (port = 319 ∨ port = 320) then some (u + 8, some (u + 6)) else none

/-- R459: an event message of PTP: Sync, Delay_Req, Pdelay_Req or Pdelay_Resp (0 to 3). -/
def ptpKind (b : List Nat) : Option Nat :=
  match ptpAt b with
  | some (h, _) => if h + 34 ≤ b.length ∧ beAt b h 1 % 16 ≤ 3 then some (beAt b h 1 % 16) else none
  | none => none

/-- R461, R462: a forwarded frame: an event message's correctionField grows by the residence time, a Sync's in a peer-to-peer clock by the link's delay as well;
unchanged, and counted, where it would overflow. (PRESUMED: note 108.) -/
def Dev.residence (d : Dev) (n : Nat) (x : EthFrame) : List Nat × Bool :=
  match ptpAt x.bytes, ptpKind x.bytes with
  | some (h, sum), some kind =>
    let link := if d.bit F.ETH_CFG.P2P n ∧ kind = 0 then ((unit d.ports n).delay * 65536).floor else 0
    let c := toS 64 (beAt x.bytes (h + 8) 8) + d.dwell n (1 - n) x.rx x.pos x.tx + link
    if c < 2 ^ 63 then
      let b := bePut x.bytes (h + 8) 8 (ofS 64 c)
      (match sum with | some u => bePut b u 2 0 | none => b, false)
    else (x.bytes, true)
  | _, _ => (x.bytes, false)

/-- R461, R462: a frame is forwarded with its check sequence, dropped or discarded; a peer-to-peer clock keeps peer delay messages on their link. (DESIGN CHOICE,
PRESUMED: note 108.) -/
def execEthFrameForward (n : Fin 2) (x : EthFrame) (s : State) : Host.Outcome State Fault Refusal := onMain s fun d =>
  if !d.bit F.ETH_STATUS.LINK n then d
  else
    let d := (d.until (x.rx / 64)).inc F.ETH_RX.COUNT 1 n
    let dest := beAt x.bytes 0 6
    if dest = d.get F.ETH_MAC.MAC 0 ∨ dest = d.get F.ETH_MAC.MAC 1 then (if (ptpAt x.bytes).isSome then d else d.inc F.ETH_DROP.COUNT 1 n)
    else if d.bit F.ETH_CFG.P2P n ∧ (ptpKind x.bytes = some 2 ∨ ptpKind x.bytes = some 3) then d
    else if d.bit F.ETH_CFG.PASS 0 && d.bit F.ETH_CFG.PASS 1 then
      let q := (unit d.ports n).queue.filter (fun t => decide (x.rx < t))
      if 16 ≤ q.length then (d.port n (fun p => { p with queue := q })).inc F.ETH_DROP.COUNT 1 n
      else
        let d := (d.port n (fun p => { p with queue := q ++ [x.tx] })).inc F.ETH_FWD.COUNT 1 n
        let d := d.inc F.ETH_TX.COUNT 1 (1 - n.val)
        let r := d.residence n x
        (d.emit (.forward (1 - n.val) r.1 (crc32 r.1))).cond r.2 (·.inc F.ETH_TC_OVF.COUNT 1 n)
    else d

/-- R458, R191: the pins of a port's module: absent after 2 ticks, its signal lost after 2 µs and back after 1 ms. -/
def Dev.ethPins (d : Dev) (x : EthModule) : Dev :=
  d.port x.port (fun p => { p with absent := x.absent && (p.absent || 2 ≤ x.ticks)
                                   los := if x.los then p.los || 200 ≤ x.ticks else p.los && x.ticks < 100000 })

/-- R458: a port's link comes up: the port is on, its clock runs, and its module is present with a signal; with P2P the port asks its peer. -/
def execEthLinkUp (x : EthModule) (s : State) : Host.Outcome State Fault Refusal := onMain s fun d =>
  let n := x.port
  let d := d.ethPins x
  if d.get F.ETH_CFG.MODE n = 0 || !d.bit F.PLL_STATUS.LOCKED 3 || d.ethDark n then d
  else (d.setB F.ETH_STATUS.LINK true n).cond (d.bit F.ETH_CFG.PTP_EN n && d.bit F.ETH_CFG.P2P n) (·.delayRequest n)

/-- R474: a port's link goes down. -/
def Dev.ethDown (d : Dev) (n : Nat) : Dev :=
  if d.bit F.ETH_STATUS.LINK n then (d.setB F.ETH_STATUS.LINK false n).raise 179 1 n [d.get F.ETH_CFG.MODE n] else d

/-- R474, R458: a port's link goes down, with the pins of its module. -/
def execEthLinkDown (x : EthModule) (s : State) : Host.Outcome State Fault Refusal := onMain s fun d => (d.ethPins x).ethDown x.port

/-! PPS (R464, R468, R469) -/

/-- R469: no second edge can reject the last one any more: its measurement is used. (DESIGN CHOICE: note 105.) -/
def Dev.ppsUse (d : Dev) : Dev :=
  match d.chr.ppsHold, d.chr.ppsAt with
  | some th, some y => if y + 3200000000 ≤ d.tick * 64 then ({ d with chr := { d.chr with ppsHold := none } }).measure th else d
  | _, _ => d

/-- R469, R464: a rising edge of PPS_IN. (DESIGN CHOICE: note 105.) -/
def execPpsInEdge (instant : Nat) (s : State) : Host.Outcome State Fault Refusal := onMain s fun d =>
  if !d.bit F.PPS_CFG.IN_EN then d
  else
    let d := (d.until (instant / 64)).ppsUse
    let x := d.stampAt instant
    let d := ((d.set F.PPS_IN_TS.SUBTICK (x % 64)).set F.PPS_IN_TS.TICK (x / 64)).arm .ppsIn 200000000
    let close : Bool := match d.chr.ppsAt with | some y => decide (x < y + 3200000000) | none => false
    let n := if !close then 0 else if d.chr.ppsBad then 1 else 2
    let d := ({ d with chr := { d.chr with ppsAt := some x, ppsBad := close, ppsHold := none } }).inc F.PPS_IN_ERR.COUNT n
    if close ∨ d.get F.CHR_SERVO.SOURCE ≠ 4 then d
    else
      let ns := d.ntNs x % 1000000000
      { d with chr := { d.chr with ppsHold := some ((if ns < 500000000 then ns else ns - 1000000000 : Int) : Rat) } }

/-- R469: 2 s without an edge counts as a measurement lost. (DESIGN CHOICE: note 105.) -/
def execPpsInTimeout (s : State) : Host.Outcome State Fault Refusal := onMain s fun d =>
  if d.get F.CHR_SERVO.SOURCE = 4 then d.fire .ppsIn (·.holdover 0) else d

/-- R468: PPS_OUT rises at the first sub-tick at which network time has reached a whole second, and falls 100 ms later. -/
def execPpsOutPulse (rise : Bool) (s : State) : Host.Outcome State Fault Refusal := onMain s fun d =>
  if rise then
    if d.bit F.PPS_CFG.OUT_EN && d.bit F.CHR_STATE.VALID && !d.pwr.ppsOut then
      let inc := max 1 (d.get F.CHR_INC.INC)
      let t := d.tick * 64 + ((1000000000 * 2 ^ 32 - d.chr.frac) * 64 + inc - 1) / inc
      d.wait (t / 64) fun d =>
      ({ d with pwr := { d.pwr with ppsOut := true, ppsAt := t } }).arm .ppsFall (msT 100)
    else d
  else d.fire .ppsFall fun d => { d with pwr := { d.pwr with ppsOut := false } }

/-! CAN FD (R471 to R473) -/

/-- R472: the first mailbox whose enabled filter a frame matches. -/
def Dev.canMatch (d : Dev) (c : Nat) (x : CanFrame) : Option Nat :=
  (List.range 16).find? fun j =>
    d.bit F.CAN_FILT.EN c j && d.bit F.CAN_FILT.IDE c j == x.ide && (x.id ^^^ d.get F.CAN_FILT.FILT_ID c j) &&& d.get F.CAN_MASK.MASK c j == 0

/-- R472: the data bytes of a frame over a mailbox's words; bytes beyond them stay. (DESIGN CHOICE: note 109.) -/
def Dev.canStore (d : Dev) (c j : Nat) (data : List Nat) : Dev :=
  d.each (List.range ((data.length + 3) / 4)) fun d w =>
    let bs := (data.drop (4 * w)).take 4
    d.set F.CAN_MB_DATA.DATA (ofLe (bs ++ (leBytes 4 (d.get F.CAN_MB_DATA.DATA c j w)).drop bs.length)) c j w

/-- R471: a controller is error passive from 128 errors of either kind, unless it is bus-off. -/
def Dev.canSync (d : Dev) (c : Nat) : Dev :=
  if d.get F.CAN_STATUS.STATE c = 2 then d
  else d.set F.CAN_STATUS.STATE (if 128 ≤ d.get F.CAN_STATUS.TEC c ∨ 128 ≤ d.get F.CAN_STATUS.REC c then 1 else 0) c

/-- R471: a frame received, or sent, without an error lowers its error count; a receive count above 127 falls to a value from 119 to 127 that is free.
(PRESUMED: note 109.) -/
def Dev.canHeard (d : Dev) (c : Nat) : Dev :=
  let r := d.get F.CAN_STATUS.REC c
  (if r ≤ 127 then d.set F.CAN_STATUS.REC (r - 1) c else (d.set F.CAN_STATUS.REC (119 + Config.freeNat d.freeCtr % 9) c).free).canSync c
def Dev.canSent (d : Dev) (c : Nat) : Dev := (d.set F.CAN_STATUS.TEC (d.get F.CAN_STATUS.TEC c - 1) c).canSync c

/-- R472: an intact frame is stored in the first matching mailbox. -/
def execCanFrameRx (c : Fin 2) (x : CanFrame) (s : State) : Host.Outcome State Fault Refusal := onMain s fun d =>
  if !d.bit F.CAN_CFG.EN c || d.get F.CAN_STATUS.STATE c == 2 || (x.fdf && !d.bit F.CAN_CFG.FD c) then d
  else
    let d := d.canHeard c
    match d.canMatch c x with
    | none => d
    | some j =>
      let d := if d.bit F.CAN_MB_ID.NEW c j then d.inc F.CAN_LOST.COUNT 1 c else d
      let d := ((d.set F.CAN_MB_ID.ID x.id c j).setB F.CAN_MB_ID.IDE x.ide c j).setB F.CAN_MB_ID.FDF x.fdf c j
      let d := ((d.setB F.CAN_MB_ID.NEW true c j).set F.CAN_MB_LEN.LEN x.data.length c j).set F.CAN_MB_TICK.TICK d.stamp c j
      let d := d.canStore c j x.data
      if d.bit F.CAN_FILT.EVT c j then d.raise 180 0 (c * 16 + j) (x.data.take 12) else d

/-- Bytes of BAR0 (R473). -/
def Dev.barBytes (d : Dev) (off n : Nat) : List Nat :=
  ((List.range ((n + 3) / 4)).flatMap (fun w => leBytes 4 (d.readWord (off + 4 * w)))).take n

/-- R473: the periods of the enabled frames start. -/
def Dev.canStart (d : Dev) : Dev :=
  d.each [0, 1] fun d c => d.each (List.range 4) fun d f =>
    if d.bit F.CAN_CFG.EN c && d.bit F.CAN_TX.EN c f && d.get F.CAN_TX_PER.PERIOD_MS c f != 0 then d.arm (.canTx c f) (msT (d.get F.CAN_TX_PER.PERIOD_MS c f))
    else d.disarm (.canTx c f)

/-- R471, R473: the frame of slot `n` (4·controller + frame) enters arbitration with its data, at the controller's bit times. -/
def Dev.canEmit (d : Dev) (n : Nat) (data : List Nat) : Dev :=
  let c := n / 4
  let f := n % 4
  let fd := d.bit F.CAN_TX.FDF c f && d.bit F.CAN_CFG.FD c
  let nom := (d.get F.CAN_NBT.BRP c + 1) * (d.get F.CAN_NBT.TSEG1 c + d.get F.CAN_NBT.TSEG2 c + 3)
  let dat := (d.get F.CAN_DBT.BRP c + 1) * (d.get F.CAN_DBT.TSEG1 c + d.get F.CAN_DBT.TSEG2 c + 3)
  let brs := fd && d.bit F.CAN_CFG.BRS c
  d.emit (.canTx c f ⟨d.get F.CAN_TX.ID c f, d.bit F.CAN_TX.IDE c f, fd, data⟩ brs (brs && d.bit F.CAN_CFG.TDC c) nom (if brs then dat else nom))

/-- R473: a period elapses: the data are taken at tick 1,023; the frame enters arbitration at the start of the next beat, and replaces one that the bus has not
taken. (DESIGN CHOICE: note 109.) -/
def execCanTxPeriod (c : Fin 2) (x : CanSlot) (s : State) : Host.Outcome State Fault Refusal := onMain s fun d =>
  let f := x.frame
  d.fire (.canTx c f) fun d =>
    let d := d.arm (.canTx c f) (msT (d.get F.CAN_TX_PER.PERIOD_MS c f))
    if !d.bit F.CAN_CFG.EN c || !d.bit F.CAN_TX.EN c f || d.st < STAGED then d
    else
      let d := d.toPhase 1023
      let data := d.barBytes (d.get F.CAN_TX_SRC.SRC c f / 4 * 4) (d.get F.CAN_TX_PER.LEN c f)
      let n := 4 * c.val + f.val
      let was := d.chr.canPend.any (fun (y : Nat × List Nat) => y.1 == n)
      let mute := d.get F.CAN_STATUS.STATE c == 2 || d.bit F.CAN_CFG.LISTEN c
      let d := if !was then d else if x.taken && !mute then d.canSent c else d.inc F.CAN_LATE.COUNT 1 c
      let d := { d with chr := { d.chr with canPend := d.chr.canPend.filter (fun (y : Nat × List Nat) => y.1 != n) ++ [(n, data)] } }
      if mute then d else (d.elapse 1).canEmit n data

/-- R471: errors on the bus: 8 for each of a transmitter's, 1 for each of a receiver's; at 256 of the first the controller enters bus-off, where the register's
value is free. After 128 occurrences of 11 recessive bits it has recovered, and what waits enters arbitration. (PRESUMED, DESIGN CHOICE: note 109.) -/
def execCanBusoff (c : Fin 2) (x : CanErrors) (s : State) : Host.Outcome State Fault Refusal := onMain s fun d =>
  if !d.bit F.CAN_CFG.EN c then d
  else if x.recovered then
    if d.get F.CAN_STATUS.STATE c = 2 then
      let d := ((d.set F.CAN_STATUS.STATE 0 c).set F.CAN_STATUS.TEC 0 c).set F.CAN_STATUS.REC 0 c
      if d.bit F.CAN_CFG.LISTEN c || decide (d.st < STAGED) then d
      else
        d.each (d.chr.canPend.filter (fun (y : Nat × List Nat) => y.1 / 4 == c.val)) (fun d y => d.canEmit y.1 y.2)
    else d
  else if d.get F.CAN_STATUS.STATE c = 2 then d
  else
    let tec := d.get F.CAN_STATUS.TEC c + 8 * x.tx
    if tec < 256 then ((d.set F.CAN_STATUS.TEC tec c).set F.CAN_STATUS.REC (min 255 (d.get F.CAN_STATUS.REC c + x.rx)) c).canSync c
    else ((((d.free).set F.CAN_STATUS.STATE 2 c).set F.CAN_STATUS.TEC (Config.freeNat d.freeCtr % 256) c)).raise 181 1 c (leBytes 4 tec)

end Sys2Proof.Machine
end

