-- ==== Sys2Proof/Machine/Command.lean ====
section
/-! DEFINITION. What every host command shares: its states (R122), the order of its outcomes (R129, R130), its COMMAND entry (R156) and its
completion (R131, R132, R134, R324); and what a ring does when it is disabled (R116, R140, R143). -/

namespace Sys2Proof.Machine

/-- R130: what a command's own check and effect say: applied with a RESULT, an opcode-specific failure with its detail, or a state that does not
permit it. -/
inductive Verdict
  | applied (result : Nat)
  | failed (detail : Nat)
  | badState
  deriving DecidableEq, Repr

/-- R122: the opcode is permitted in the present state. A device whose boot failed offers FW_UPDATE only (R89). (DESIGN CHOICE: note 28.) -/
def Dev.permits (d : Dev) (op : Nat) : Bool :=
  let s := d.st
  if d.pwr.bootFailed then op == 0x12 else
  match op with
  | 0x01 | 0x68 | 0x69 | 0x6A | 0x70 | 0x71 => true
  | 0x10 | 0x12 | 0x13 | 0x14 => s == QUIET
  | 0x20 => s == QUIET && !d.pwr.testEn
  | 0x11 => !d.energy
  | 0x21 | 0x22 => s == STAGED || s == LINKED
  | 0x23 => s == STAGED
  | 0x24 => s == QUIET || s == STAGED || s == LINKED
  | 0x30 | 0x42 => s == LINKED || s == STOP
  | 0x31 | 0x51 => s == RUN
  | 0x32 => s == STOP && d.arr.zeroPower
  | 0x33 => s == LOCKOUT
  | 0x40 | 0x41 | 0x50 => LINKED ≤ s && s ≤ STOP
  | 0x48 | 0x49 | 0x58 => STAGED ≤ s && s ≤ STOP
  | _ => false

/-- R122, R129: opcodes that are superseded while a reaction of class C3 or above is in force. -/
def yields (op : Nat) : Bool := [0x30, 0x40, 0x42, 0x48, 0x49, 0x50, 0x51, 0x58].contains op

/-- R146: the counts of commands admitted and not yet applied. (DESIGN CHOICE: note 46.) -/
def Dev.pendSync (d : Dev) : Dev :=
  let d := d.set F.RING_PENDING.COUNT d.rings.pend.length
  d.each (List.range 16) (fun d q => d.set F.xQ_STATUS.PENDING ((d.rings.pend.filter (fun (x : Pend) => x.c.q == q)).length) q)

/-- R156, R131: the COMMAND entry and the completion of an effect-beat outcome. -/
def Dev.finish (d : Dev) (op : Nat) (c : HostCmd) (old status reason result : Nat) (logged : Bool := false) : Dev :=
  let d := if logged then d else d.log 3 (Orig.cmd c) op 0 old d.st status
  d.complete ⟨c.q, c.tag, c.index, op, status, false, c.beat, reason, result, c.noIrq⟩

/-- What a command that fails leaves: the record its check has made; a LOG_ACK makes none, and its entry carries the failure's status (R324). -/
def Dev.failing (d : Dev) (op : Nat) (x : Dev) : Dev := if op = 0x71 then { d with out := x.out } else x

/-- R128 to R130, R134: one command at its effect beat: time comes to the beat, the command leaves the pending store, the outcomes are tried in
order, and its completion stands before any event record its effect causes. True where it was applied. A command is applied at no beat but its own
(R319): one whose beat has passed stays as it is. (DESIGN CHOICE: notes 46, 50.) -/
def Dev.command (d : Dev) (op : Nat) (c : HostCmd) (g : Dev → Dev × Verdict) : Dev × Bool :=
  if c.beat < d.beat then (d, false) else
  let d := d.until (c.beat * 1024)
  let d := ({ d with rings := { d.rings with pend := d.rings.pend.erase ⟨op, c⟩ } }).pendSync
  let old := d.st
  if yields op && d.inForce then (d.finish op c old 5 0x0B 0, false)
  else if !d.permits op then (d.finish op c old 4 (0x0A + old * 256) 0, false)
  else
    let held := d.out
    -- a LOG_ACK's own entry is written before its effect, so that it can be acknowledged with the rest (R60)
    let d0 := if op = 0x71 then d.log 3 (Orig.cmd c) op 0 old old else d
    let (x, v) := g { d0 with out := [] }
    -- a command that fails changes nothing but what its check records
    match v with
    | .applied r =>
      let mine := x.out
      let x := ({ x with out := held }).finish op c old 0 0 r (op == 0x71)
      ({ x with out := mine ++ x.out }, true)
    | .failed k => (({ d.failing op x with out := x.out ++ held }).finish op c old 2 (0x0C + k * 256) 0, false)
    | .badState => (({ d.failing op x with out := held }).finish op c old 4 (0x0A + old * 256) 0, false)

/-- R129, R130: a command whose effect always succeeds. -/
def Dev.simple (d : Dev) (op : Nat) (c : HostCmd) (g : Dev → Dev) : Dev := (d.command op c (fun d => (g d, .applied 0))).1

/-- A command whose effect may report a detail. -/
def Dev.checked (d : Dev) (op : Nat) (c : HostCmd) (g : Dev → Dev × Option Nat) : Dev :=
  (d.command op c (fun d => match g d with | (x, none) => (x, .applied 0) | (x, some k) => (x, .failed k))).1

/-- R577: a payload whose fetch failed is reported through AER. -/
def Dev.fetchAer (d : Dev) (c : HostCmd) : Dev := if c.payload = .fetchError then d.emit (.aer c.func) else d

/-- Parameter word `k` of a command, and two words as one number, low word first. -/
def arg (c : HostCmd) (k : Nat) : Nat := c.p.getD k 0 % 2 ^ 32
def arg2 (c : HostCmd) (k : Nat) : Nat := arg c k + arg c (k + 1) * 2 ^ 32

/-! Rings that stop -/

/-- R139, R140: the page under construction is written. (DESIGN CHOICE: note 43.) -/
def Dev.pageWrite (d : Dev) (s : Nat) : Dev :=
  let pg := unit d.rings.pages s
  if pg.records.isEmpty then d
  else
    let r := 36 + s
    let i := d.get F.xQ_PROD.INDEX r
    let d := d.emit (.page s (i % d.ringSize r) (d.ringPhase r i) pg.seq pg.first pg.lost pg.records)
    let d := ({ d with rings := { d.rings with pages := d.rings.pages.set s ⟨0, 0, [], 0, pg.seq + 1⟩ } }).disarm (.pageAge s)
    let d := (d.ringPush r).writeBack r
    if d.bit F.xQ_CTRL.IRQ_EN r then d.msix (d.get F.xQ_CTRL.OWNER r) (d.get F.xQ_CTRL.VECTOR r) else d

/-- R116, R140, R143: a ring is disabled. A page under construction is written where the ring can still move, and otherwise its records are lost. -/
def Dev.ringOff (d : Dev) (r : Nat) (reach : Bool) : Dev :=
  let d := if 36 ≤ r then
      (if reach && d.ringUp r then d.pageWrite (r - 36)
       else
        let pg := unit d.rings.pages (r - 36)
        (({ d with rings := { d.rings with pages := d.rings.pages.set (r - 36) { pg with records := [], lost := pg.lost + pg.records.length } } }).inc F.xQ_LOST.COUNT
          pg.records.length r).disarm (.pageAge (r - 36)))
    else d
  ((d.setB F.xQ_CTRL.EN false r).setB F.xQ_STATUS.ACTIVE false r).setB F.xQ_STATUS.STALL false r

/-- R143: the rings of a function are disabled, with no way to reach host memory. -/
def Dev.ringsOff (d : Dev) (f : Nat) : Dev :=
  d.each (those 44 (fun r => d.bit F.xQ_CTRL.EN r && d.get F.xQ_CTRL.OWNER r == f)) (fun d r => d.ringOff r false)

/-- R109: the host's settings of a function. -/
def Dev.fnSet (d : Dev) (f : Nat) (g : PcieFn → PcieFn) : Dev := { d with rings := { d.rings with fn := d.rings.fn.modify f g } }

/-- R143: the rings of a function stop with its endpoint; its vectors are masked again and its halves of 64-bit accesses are forgotten. -/
def Dev.functionOff (d : Dev) (f : Nat) : Dev :=
  let d := (d.ringsOff f).fnSet f (fun _ => PcieFn.start)
  let mine := fun (n : Nat) => n / 64 == f
  let d := d.each (List.range 64) (fun d v => d.disarm (.holdoff (64 * f + v)))
  { d with rings := { d.rings with masked := (List.range 64).map (64 * f + ·) ++ d.rings.masked.filter (fun n => !mine n)
                                   msixPend := d.rings.msixPend.filter (fun n => !mine n)
                                   collected := d.rings.collected.filter (fun n => !mine n)
                                   msixTable := d.rings.msixTable.filter (fun x => x.1 / 1024 != f)
                                   latch := d.rings.latch.set f none, lowHold := d.rings.lowHold.set f [] } }

/-- R142, R118: a ring goes to FAULT with a code. (DESIGN CHOICE: note 40.) -/
def Dev.ringFault (d : Dev) (r code : Nat) : Dev :=
  let d := ((d.setB F.xQ_STATUS.FAULT true r).set F.xQ_STATUS.FAULT_CODE code r).setB F.xQ_STATUS.ACTIVE false r
  (d.raise 16 1 (ringCode r) [code]).writeBack r

end Sys2Proof.Machine
end

