-- ==== Sys2Proof/Machine/Archive.lean ====
section
/-! DEFINITION. The Archive (R491 to R499), the end of a C2 incident (R484) and of the ERR pair's hold (R489). -/

namespace Sys2Proof.Machine

/-- R495: the record bytes of a segment. -/
def segBytes : Nat := 65504

/-- R496: the segments of an image, and its trigger segment counted from the oldest: segments begun since recording began, of which a ring keeps `cap`. (DESIGN CHOICE: note 113.) -/
def imageSegs (bytes trig cap : Nat) : Nat × Nat :=
  let n := (bytes + segBytes - 1) / segBytes
  (min n cap, trig / segBytes - (n - min n cap))

/-- R495: bytes a beat costs, times 125,000: 800 per declared cell, 512 per declared input and 256 per declared channel each with a header, the
metering record once in 125,000 ticks. -/
def Dev.arcCost (d : Dev) : Nat :=
  let c := (those 96 (fun k => d.bit F.LANE_CTRL.DECLARED k)).length
  let m := (those 16 (fun m => d.bit F.SNS_DECL.DECLARED m)).length
  let e := (those 16 (fun m => d.bit F.MET_CH_CFG.DECLARED m)).length
  (800 * c + (if m = 0 then 0 else 512 * m + 32)) * 125000 + (if e = 0 then 0 else 256 * e + 32) * 1024

/-- R495: ARC_DEPTH follows the declared streams. (DESIGN CHOICE: note 114.) -/
def Dev.arcDepth (d : Dev) : Dev :=
  d.set F.ARC_DEPTH.BEATS (if d.arcCost = 0 then 0 else min (2 ^ 32 - 1) (16098263040 * 125000 / d.arcCost))

/-- R497: ARCHIVE_TRIGGER. -/
def execArchiveTrigger (c : HostCmd) (s : State) : Host.Outcome State Fault Refusal := onMain s fun d =>
  (d.command 0x68 c (fun d => (d.arcTrigger 0x100 (arg c 0), .applied (b2n (d.get F.ARC_STATE.STATE == 1))))).1

/-- R497: the detail with which ARCHIVE_DUMP fails. A dump whose loan waits counts as running. -/
def Dev.dumpFault (d : Dev) (c : HostCmd) : Option Nat :=
  let segs := if (arg c 4).testBit 0 then d.get F.ARC_MARK_SEGS.SEGS else d.get F.ARC_IMAGE_SEGS.SEGS
  if d.get F.ARC_STATE.STATE ≠ 3 then some 1
  else if d.reg.dump.isSome then some 2
  else if arg c 3 = 0 ∨ segs < arg c 2 + arg c 3 then some 3
  else none

/-- R497, R81: ARCHIVE_DUMP. (DESIGN CHOICE: note 113.) -/
def execArchiveDump (c : HostCmd) (s : State) : Host.Outcome State Fault Refusal := onMain s fun d =>
  (d.command 0x69 c (fun d => match d.dumpFault c with
    | some k => (d, .failed k)
    | none =>
      let d := { d with reg := { d.reg with dump := some (arg2 c 0, arg c 2, arg c 3, arg c 4 % 2) } }
      (d.loanFile 6 0, .applied (65536 * arg c 3)))).1

/-- R497: ARCHIVE_RELEASE. -/
def execArchiveRelease (c : HostCmd) (s : State) : Host.Outcome State Fault Refusal := onMain s fun d =>
  d.checked 0x6A c (fun d =>
    if d.reg.dump.isSome then (d, some 1)
    else if d.get F.ARC_STATE.STATE = 3 ∨ d.get F.ARC_STATE.STATE = 4 then
      let d := (d.arcStart).disarm .freeze
      let d := (((d.set F.ARC_IMAGE_SEGS.SEGS 0).set F.ARC_TRIG_SEG.SEG 0).set F.ARC_MARK_SEGS.SEGS 0).set F.ARC_MARK_TRIG_SEG.SEG 0
      (if LINKED ≤ d.st ∧ d.st ≤ STOP then d else d.set F.ARC_STATE.STATE 0, none)
    else (d, none))

/-- R494, R496: the Archive freezes at the end of beat b_t + POST_BEATS. (DESIGN CHOICE: note 113.) -/
def execArchiveFreeze (s : State) : Host.Outcome State Fault Refusal := onMain s fun d => d.fire .freeze fun d =>
  if d.get F.ARC_STATE.STATE ≠ 2 then d
  else
    let a := imageSegs d.reg.sampleBytes d.reg.trigSample 245760
    let b := imageSegs d.reg.markerBytes d.reg.trigMarker 4096
    let d := (((d.set F.ARC_IMAGE_SEGS.SEGS a.1).set F.ARC_TRIG_SEG.SEG a.2).set F.ARC_MARK_SEGS.SEGS b.1).set F.ARC_MARK_TRIG_SEG.SEG b.2
    let d := (d.set F.ARC_STATE.STATE 3).inc F.ARC_FREEZES.COUNT 1
    d.raise 196 0 (if d.bit F.REG_INC.RUNNING then d.get F.REG_INC_NUM.NUM else 0) (leBytes 4 a.1)

/-- R498: a granted dump copies. (DESIGN CHOICE: note 113.) -/
def Dev.dumpRun (d : Dev) : Dev := if d.reg.dump.isSome then { d.setB F.ARC_STATE.DUMPING true with reg := { d.reg with dumpAt := d.tick } } else d.loanReturn 6 0

/-- R498, R77: a running dump ends, with the LPDDR5 out of self-refresh: complete, with a host memory error, or in the save window; what a dump that failed had copied is a free value. A
refused loan (outcome 1) ends a dump that has not been granted where it is refused (R79). (DESIGN CHOICE: notes 20, 113.) -/
def execArcDumpDone (outcome : Fin 4) (s : State) : Host.Outcome State Fault Refusal := onMain s fun d =>
  match d.reg.dump with
  | none => d
  | some (addr, first, n, image) =>
    if !d.bit F.ARC_STATE.DUMPING ∨ outcome.val = 1 ∨ !d.clk.lpddrAwake then d
    else
      -- at most MBPS × 10^6 bytes per second
      let rate := max 1 (d.get F.ARC_DUMP.MBPS)
      d.wait (if outcome.val = 0 then d.reg.dumpAt + (6553600 * n + rate - 1) / rate else d.tick) fun d =>
      let k := if outcome.val = 0 then n else d.dumpPart n
      let d := (d.free).emit (.dump addr first k image)
      let d := (({ d with reg := { d.reg with dump := none } }).setB F.ARC_STATE.DUMPING false).set F.ARC_DUMPED.BYTES (65536 * k)
      let d := if outcome.val = 2 then d.emit (.aer 0) else d
      (d.loanReturn 6 0).raise 197 0 image ([outcome.val, 0, 0, 0] ++ leBytes 4 k)

/-- R499: an uncorrectable LPDDR5 error in a ring. -/
def execArcMem (ring : Fin 2) (segment : Nat) (s : State) : Host.Outcome State Fault Refusal := onMain s fun d =>
  ({ d with reg := { d.reg with badSegs := (ring.val, segment) :: d.reg.badSegs.filter (· != (ring.val, segment)) } }).raise 198 1 ring (leBytes 4 segment)

/-- R492: the OUTPUT record of the beat that has ended: 256 codes of each declared input. (DESIGN CHOICE: note 114.) -/
def Dev.arcOutput (d : Dev) (sense : List (List Nat)) : Dev :=
  let l := those 16 (fun m => d.bit F.SNS_DECL.DECLARED m)
  if l.isEmpty then d
  else d.arcSample 3 0 l.length (d.beat - 1) 0 (l.flatMap (fun m => (sense.getD m []).map Int.ofNat)) (32 + 512 * l.length)

/-- R484: a C2 incident ends once every merged source is inactive and the hold has passed since the last merge. (DESIGN CHOICE: note 114.) -/
def execIncidentEndC2 (s : State) : Host.Outcome State Fault Refusal := onMain s fun d =>
  if d.bit F.REG_INC.RUNNING && d.get F.REG_INC.CLASS == 2 && d.reg.merged.all (fun x => !d.isActive x.1) then
    d.wait (d.reg.lastMerge + max 1 (msT (d.get F.REG_CTRL.C2_HOLD))) (·.incidentEnd)
  else d

/-- R489: the pair returns once 1 ms has passed and no cause is left. (DESIGN CHOICE: note 111.) -/
def execErrFaultHoldEnd (s : State) : Host.Outcome State Fault Refusal := onMain s fun d =>
  match d.reg.errSince with
  | some t =>
    if d.errCause = 0 then
      d.wait (t + msT 1) fun d =>
      let d := d.disarm .errHold
      (((({ d with reg := { d.reg with errSince := none } }).setB F.REG_ERR.P true).setB F.REG_ERR.N false).set F.REG_ERR.CAUSE 0)
    else d
  | none => d

end Sys2Proof.Machine
end

