-- ==== Sys2Proof/Machine/Ecdsa.lean ====
section
/-! DEFINITION. The signatures of the manual: ECDSA on the curve P-256 over SHA-256 (R89, R93, R95), with the curve's figures of FIPS 186. (PRESUMED: note 124.) -/

namespace Sys2Proof.Machine

/-- The field's modulus, the curve's constant and the order of its base point. -/
def p256 : Nat := 2 ^ 256 - 2 ^ 224 + 2 ^ 192 + 2 ^ 96 - 1
def p256B : Nat := 0x5ac635d8aa3a93e7b3ebbd55769886bc651d06b0cc53b0f63bce3c3e27d2604b
def p256N : Nat := 0xffffffff00000000ffffffffffffffffbce6faada7179e84f3b9cac2fc632551

/-- A point in projective form: x is X / Z², y is Y / Z³; the neutral point has Z 0. -/
structure Point where
  x : Nat
  y : Nat
  z : Nat
  deriving DecidableEq, Repr, Inhabited

/-- The base point. -/
def p256G : Point :=
  ⟨0x6b17d1f2e12c4247f8bce6e563a440f277037d812deb33a0f4a13945d898c296, 0x4fe342e2fe1a7f9b8ee7eb4a7c0f9e162bce33576b315ececbb6406837bf51f5, 1⟩

/-- A difference in the field. -/
def fpSub (a b : Nat) : Nat := (a + p256 - b % p256) % p256

/-- A point added to itself; the curve's linear constant is -3. -/
def Point.double (a : Point) : Point :=
  let d := a.z * a.z % p256
  let g := a.y * a.y % p256
  let b := a.x * g % p256
  let m := 3 * fpSub a.x d * (a.x + d) % p256
  let x := fpSub (m * m) (8 * b)
  ⟨x, fpSub (m * fpSub (4 * b) x) (8 * g * g), 2 * a.y * a.z % p256⟩

/-- The sum of two points. -/
def Point.add (a b : Point) : Point :=
  if a.z = 0 then b else if b.z = 0 then a
  else
    let az := a.z * a.z % p256
    let bz := b.z * b.z % p256
    let u := a.x * bz % p256
    let s := a.y * b.z * bz % p256
    let h := fpSub (b.x * az) u
    let r := fpSub (b.y * a.z * az) s
    if h = 0 then (if r = 0 then a.double else ⟨1, 1, 0⟩)
    else
      let h2 := h * h % p256
      let v := u * h2 % p256
      let x := fpSub (fpSub (r * r) (h * h2)) (2 * v)
      ⟨x, fpSub (r * fpSub v x) (s * (h * h2 % p256)), a.z * b.z * h % p256⟩

/-- u·a + v·b, from bit `n - 1` of the factors down, on top of `q`; `ab` is a + b. -/
def mulAdd (u v : Nat) (a b ab : Point) : Nat → Point → Point
  | 0, q => q
  | n + 1, q =>
    let q := q.double
    mulAdd u v a b ab n (match u.testBit n, v.testBit n with
      | true, true => q.add ab
      | true, false => q.add a
      | false, true => q.add b
      | false, false => q)

/-- b to the power of the lowest `n` bits of `e`, times `r`, modulo m. -/
def powMod (m : Nat) : Nat → Nat → Nat → Nat → Nat
  | 0, _, _, r => r
  | n + 1, b, e, r => powMod m n (b * b % m) (e / 2) (if e % 2 = 1 then r * b % m else r)

/-- The number that bytes spell, most significant first. -/
def ofBe (b : List Nat) : Nat := ofLe b.reverse

/-- A 64-byte public key spells a point of the curve (R122). -/
def keyPoint (key : List Nat) : Option Point :=
  let x := ofBe (key.take 32)
  let y := ofBe (key.drop 32)
  if key.length = 64 ∧ x < p256 ∧ y < p256 ∧ (y * y + 3 * x) % p256 = (x * x * x + p256B) % p256 then some ⟨x, y, 1⟩ else none

/-- R93: the signature, r then s, each 32 bytes most significant first, verifies with a public key over the SHA-256 of a message. -/
def ecdsaOk (key sig msg : List Nat) : Bool :=
  let r := ofBe (sig.take 32)
  let s := ofBe (sig.drop 32)
  match keyPoint key with
  | none => false
  | some q =>
    if sig.length ≠ 64 ∨ r = 0 ∨ s = 0 ∨ p256N ≤ r ∨ p256N ≤ s then false
    else
      let w := powMod p256N 256 s (p256N - 2) 1
      let t := mulAdd (sha256 msg * w % p256N) (r * w % p256N) p256G q (p256G.add q) 256 ⟨1, 1, 0⟩
      let z := t.z * t.z % p256
      t.z != 0 && (r * z % p256 == t.x || (r + p256N < p256 && (r + p256N) * z % p256 == t.x))

end Sys2Proof.Machine
end

