-- ==== Sys2Proof/Machine/Catalogue.lean ====
section
/-! DEFINITION. How the bytes of a Catalogue are read (R93) and its signature checked (R95, R96). -/

namespace Sys2Proof.Machine

/-- The number of `n` bytes from offset `o`, least significant first (R6). -/
def leAt (b : List Nat) (o n : Nat) : Nat := ofLe ((b.drop o).take n)

/-- R93: entry `i` of the directory, with the outcome of its section's CRC-32. -/
def catEntry (b : List Nat) (i : Nat) : CatSection :=
  let e := 0x40 + 16 * i
  { type := leAt b e 2, version := leAt b (e + 2) 2, offset := leAt b (e + 4) 4, length := leAt b (e + 8) 4
    crcOk := crc32 ((b.drop (leAt b (e + 4) 4)).take (leAt b (e + 8) 4)) == leAt b (e + 12) 4 }

/-- R93, R96: the trailer's signature covers every byte before it. -/
def catSigned (x : CatFile) : Bool :=
  let n := leAt x.bytes 8 4 - 64
  ecdsaOk x.key ((x.bytes.drop n).take 64) (x.bytes.take n)

/-- R93: a Catalogue as its bytes say: header, directory, signature and Safety section; with what its other sections give. (DESIGN CHOICE: note 7.) -/
def catalogueOf (x : CatFile) : CatImage :=
  let b := x.bytes
  let dir := (List.range (min (leAt b 6 2) 64)).map (catEntry b)
  let safety := match dir.find? (fun e => e.type == 0x0B) with | some e => (b.drop e.offset).take e.length | none => []
  { magic := leAt b 0 4, format := leAt b 4 2, device := leAt b 0x18 4
    reservedZero := leAt b 0x15 3 == 0 && leAt b 0x24 28 == 0
    length := leAt b 8 4, sections := leAt b 6 2, catId := leAt b 0xC 4, revision := leAt b 0x10 4, keySlot := leAt b 0x14 1
    keyDigest := sha256 x.key, sigOk := catSigned x, dir := dir, settings := x.settings, safety := safety, decl := x.decl }

end Sys2Proof.Machine
end

