-- ==== Sys2Proof/Machine/Cells.lean ====
section
/-! DEFINITION. Strings and cells (R246, R255): declarations of the Catalogue, roles, carrier slots, redundancy (R266) and the bypass sequence
(R226, R268 to R271). -/

namespace Sys2Proof.Machine

/-- R94: the declarations of the loaded Catalogue. -/
def Dev.dcl (d : Dev) : CatDecl := d.prov.decl.getD default

/-- R246: the declaration of the cell on a lane. -/
def Dev.ldec (d : Dev) (k : Nat) : LaneDecl := (d.dcl.lanes.find? (fun x => x.lane == k)).getD default
def Dev.strOf (d : Dev) (k : Nat) : Nat := (d.ldec k).string

/-- R246: the declared cells, and those of a string in ascending position order. -/
def Dev.cellsDecl (d : Dev) : List Nat := those 96 (fun k => d.dcl.lanes.any (fun x => x.lane == k))
def Dev.cellsOf (d : Dev) (s : Nat) : List Nat :=
  (List.range 32).flatMap (fun p => (d.dcl.lanes.filter (fun (x : LaneDecl) => x.string == s && x.position == p)).map LaneDecl.lane)

/-- R246: the role of a cell: 0 absent, 1 active, 2 bypassing, 3 bypassed; and the active cells of a string. -/
def Dev.cellRole (d : Dev) (k : Nat) : Nat := d.get F.CELL_STATUS.ROLE k
def Dev.actOf (d : Dev) (s : Nat) : List Nat := (d.cellsOf s).filter (fun k => d.cellRole k == 1)

/-- R192: the lane state, ACTIVE. -/
def Dev.laneSt (d : Dev) (k : Nat) : Nat := d.get F.LANE_STATUS.STATE k
def Dev.laneUp (d : Dev) (k : Nat) : Bool := d.laneSt k == 5

/-- R248, R269: the beat whose commands a decision made now governs. -/
def Dev.govern (d : Dev) : Nat := if d.phase < 290 then d.beat else d.beat + 1

/-- R255: the carrier period in sub-ticks, and the phase of slot `j` of `n`. -/
def Dev.carP (d : Dev) : Nat := d.get F.ARR_CTRL.CARRIER_BEATS * 65536
def Dev.carPhase (d : Dev) (s j n : Nat) : Nat :=
  if n = 0 ∨ d.carP = 0 then 0 else (d.get F.ARR_STRING_PHASE.STR_PHASE s + (j * d.carP + n) / (2 * n)) % d.carP

/-- R285: the counts of a string follow the roles of its cells. (DESIGN CHOICE: note 71.) -/
def Dev.stringSync (d : Dev) (s : Nat) : Dev :=
  let n := fun r => ((d.cellsOf s).filter (fun k => d.cellRole k == r)).length
  ((d.set F.ARR_STRING_STATUS.ACTIVE (n 1) s).set F.ARR_STRING_STATUS.BYPASSED (n 2 + n 3) s).set F.ARR_STRING_STATUS.ABSENT (n 0) s

/-- R270: the carrier of a cell goes to its new phase: by delay in two windows in the states that switch, at once in the others. (DESIGN CHOICE: note 71.) -/
def Dev.carMove (d : Dev) (k phi : Nat) : Dev :=
  let x := unit d.cells k
  let d := d.set F.CELL_CARRIER.PHASE phi k
  match x.car with
  | some (s0, len) =>
    if d.energy && d.carP != 0 then
      let after := (s0 + len + x.move1 + x.move2) % d.carP
      let delta := (phi + d.carP - after) % d.carP
      d.cell k (fun x => { x with move1 := x.move1 + delta / 2, move2 := x.move2 + (delta - delta / 2) })
    else d.cell k (fun x => { x with car := none, move1 := 0, move2 := 0 })
  | none => d

/-- R255, R270: carrier slots of a string recomputed. -/
def Dev.respreadString (d : Dev) (s : Nat) : Dev :=
  let ks := d.actOf s
  let d := (List.range ks.length).foldl (fun d j => d.carMove (ks.getD j 0) (d.carPhase s j ks.length)) d
  d.setB F.ARR_STRING_STATUS.RESPREAD (ks.any (fun k => (unit d.cells k).move1 + (unit d.cells k).move2 != 0)) s

/-- R246, R269: a cell changes its role; its string's slots follow where the active cells change. -/
def Dev.setRole (d : Dev) (k r : Nat) : Dev :=
  let was := d.cellRole k
  if was = r then d else
  let d := (d.set F.CELL_STATUS.ROLE r k).stringSync (d.strOf k)
  let d := if was = 1 then d.cell k (fun x => { x with car := none, move1 := 0, move2 := 0, running := false }) else d
  if was = 1 ∨ r = 1 then d.respreadString (d.strOf k) else d

/-- R266: the source peak voltage of a string in V, as the Metering Engine latched it for its declared channel (R429). -/
def Dev.sourcePeak (d : Dev) (s : Nat) : Rat :=
  match d.dcl.syncCh.getD s none with
  | some m => let v := fRat (unit d.metCh m).latchV; max v (-v)
  | none => 0

/-- R266: bypassed, bypassing and absent cells of a string. -/
def Dev.cellsOut (d : Dev) (s : Nat) : Nat := ((d.cellsOf s).filter (fun k => d.cellRole k != 1)).length

/-- R266, R271: redundancy after a cell has left the active role; `always` at the loss of a lane whose node cannot bypass itself. -/
def Dev.redundancy (d : Dev) (s : Nat) (always : Bool) : Dev :=
  if d.energy && (always || d.get F.ARR_STRING_CFG.K s < d.cellsOut s) then
    let n := (d.actOf s).length
    let carry : Rat := (n * d.dcl.vcMv * d.get F.ARR_MOD.M_MAX : Nat) / 1000000
    d.raise 71 (if carry < d.sourcePeak s then 4 else 3) s (leBytes 4 n)
  else d

/-- R245, R226: the latest STATUS shows the bypass switch closed or moving; LOCAL_TRIP. -/
def Dev.nodeBit (d : Dev) (k i : Nat) : Bool := (d.get F.LANE_NODE.STATE k).testBit i

/-- R226, R229, R269: a BYPASS message to hand over with the commands of beat `send`, for the apply instant of beat `apply`. -/
def Dev.bypassAsk (d : Dev) (k action send apply : Nat) : Dev :=
  (d.lane k (fun l => { l with byp := some ⟨action, send, apply, false, none, 0⟩ })).disarm (.bypRep k)

/-- R269: the bypass of a cell starts. A node that has no bypass switch leads straight to the failure. (DESIGN CHOICE: note 70.) -/
def Dev.bypassStart (d : Dev) (k : Nat) : Dev :=
  if d.cellRole k = 2 ∨ d.cellRole k = 3 then d else
  let was := d.cellRole k
  let n := d.govern
  let d := (d.setRole k 2).cell k (fun x => { x with rejoin := 0 })
  let d := (d.disarm (.retrain k)).bypassAsk k 1 n (n + 1)
  let d := if was = 1 then d.redundancy (d.strOf k) false else d
  if d.get F.LANE_CAP.BYPASS_KIND k = 0 then (d.lane k (fun l => { l with byp := none })).raise 70 4 k [0]
  else d.arm (.bypassMax k) ((n + 1) * 1024 + d.get F.ARR_APPLY.PHASE - d.tick + msT (d.get F.ARR_BYPASS.BYPASS_TMAX))

/-- R268: a cell fault in PRECHARGE, RUN and STOP, of an active cell or of an absent one whose lane is ACTIVE again. (DESIGN CHOICE: note 69.) -/
def Dev.cellFault (d : Dev) (k : Nat) : Dev := if d.energy && (d.cellRole k == 1 || (d.cellRole k == 0 && d.laneUp k)) then d.bypassStart k else d

/-- R246, R271: the lane of a declared cell leaves ACTIVE: the cell is absent, whatever its role was. -/
def Dev.cellLost (d : Dev) (k : Nat) : Dev :=
  let d := (d.lane k (fun l => { l with byp := none, prevCause := none, force := [] })).disarm (.bypRep k)
  if !d.dcl.lanes.any (fun x => x.lane == k) then d else
  let d := d.cell k (fun x => { x with rejoin := 0, running := false, restoreAt := none, restored := false })
  let was := d.cellRole k
  let d := (d.setRole k 0).disarm (.bypassMax k)
  if !d.energy then d
  else if d.bit F.LANE_CAP.AUTO_BYPASS k then
    let d := if was = 1 then d.redundancy (d.strOf k) false else d
    d.arm (.retrain k) (msT (d.get F.ARR_BYPASS.RETRAIN_MS))
  else d.redundancy (d.strOf k) true

/-- R246, R271: the lane of a cell is ACTIVE; its first STATUS decides the role of an absent cell, which at the end of RETRAIN_MS counts as bypassed.
(DESIGN CHOICE: note 70.) -/
def Dev.cellBack (d : Dev) (k : Nat) : Dev :=
  if d.cellRole k ≠ 0 then d
  else if (d.due (.retrain k)).any (fun t => decide (t ≤ d.tick)) then (d.disarm (.retrain k)).setRole k 3
  else d.cell k (fun x => { x with rejoin := 1 })

/-- R5, R269 step 3, R271, R246: what a STATUS says of a bypassing or returning cell. (DESIGN CHOICE: note 70.) -/
def Dev.cellStatus (d : Dev) (k cause flags : Nat) : Dev :=
  let closed := flags.testBit 1
  let x := unit d.cells k
  if d.cellRole k = 2 ∧ closed ∧ ((d.due (.bypassMax k)).all fun t => decide (d.tick < t)) then
    let d := ((d.disarm (.bypassMax k)).setRole k 3).cell k (fun x => { x with blockFrom := d.beat + 1 })
    d.raise 69 1 k (leBytes 4 (d.get F.ARR_STRING_STATUS.BYPASSED (d.strOf k)))
  else if d.cellRole k = 0 ∧ (x.rejoin = 1 ∨ !d.energy) then
    if closed then ((d.disarm (.retrain k)).cell k (fun x => { x with rejoin := 0 })).setRole k 3
    else if !d.energy then (d.cell k (fun x => { x with rejoin := 0 })).setRole k 1
    else if cause ≤ 1 ∧ !flags.testBit 2 ∧ d.bit F.LANE_CAP.AUTO_BYPASS k ∧ !x.noAuto then d.cell k (fun x => { x with rejoin := 2 })
    else d
  else if d.cellRole k = 3 ∧ x.restoreAt.isSome then
    let blocked := d.st != STOP || d.arr.fastFrom.isSome
    -- R272: COMMAND while the array commands BLOCK, SAFE_LOOP while the Safe Loop is silent
    let rest := cause - (if blocked then 4 * bitsAt cause 2 1 else 0) - (if d.bit F.SAF_STATE.LOOP_ON then 0 else 8 * bitsAt cause 3 1)
    d.cell k (fun x => { x with restored := !closed && !flags.testBit 2 && !flags.testBit 4 && rest == 0 })
  else d

/-- R272: a restored cell becomes active at a beat boundary; R271: a returned cell at the next beat after its RESUME. -/
def Dev.cellBeat (d : Dev) (k : Nat) : Dev :=
  let x := unit d.cells k
  let d := if d.cellRole k = 3 && x.restored then
      (d.cell k (fun x => { x with restoreAt := none, restored := false, noAuto := true })).setRole k 1 else d
  if d.cellRole k = 0 && x.rejoin == 3 then ((d.cell k (fun x => { x with rejoin := 0 })).disarm (.retrain k)).setRole k 1 else d

/-- R269 step 4: BYPASS_TMAX has elapsed without BYPASS_CLOSED. -/
def execBypassTimeout (i : Fin 96) (s : State) : Host.Outcome State Fault Refusal := onMain s fun d =>
  d.fire (.bypassMax i) fun d => if d.cellRole i = 2 then d.raise 70 4 i [d.get F.LANE_CAP.BYPASS_KIND i] else d

/-- R271: the lane has not returned in time: the cell counts as bypassed, its state unknown. -/
def execRetrainTimeout (i : Fin 96) (s : State) : Host.Outcome State Fault Refusal := onMain s fun d =>
  d.fire (.retrain i) fun d => if d.cellRole i = 0 ∧ !d.laneUp i then (d.cell i (fun x => { x with rejoin := 0 })).setRole i 3 else d

end Sys2Proof.Machine
end

