-- ==== Sys2Proof/Machine/Line.lean ====
section
/-! DEFINITION. What a lane's fibre carries (R166 to R190, R211 to R238): messages as bytes with their CRC, control blocks, the scrambler, FEC frames,
line symbols and bit stuffing, training patterns, and what the receiver makes of them. A lane's state holds its transmitter (`LineTx`), which fixes every
symbol that leaves. A lane's commands carry upstream messages as their fields and the receiver's counts; `RxState` is the machine between those and the
symbols received. (DESIGN CHOICE: note 123.) -/

namespace Sys2Proof.Machine

/-! ## Bits and symbols -/

/-- R169: the `n` bits of a field in line order, least significant first. -/
def lineBits : Nat → Nat → List Bool
  | 0, _ => []
  | n + 1, x => (x % 2 == 1) :: lineBits n (x / 2)

/-- R169: the field that bits in line order spell. -/
def ofBits : List Bool → Nat
  | [] => 0
  | b :: bs => b2n b + 2 * ofBits bs

/-- R167: sub-ticks from a tick's edge to the start of unit interval `u` of its word. -/
def uiAt (u : Nat) : Nat := 4 * u

/-- R170: the Gray symbol of a pair of bits. -/
def grayOf : Bool → Bool → Nat
  | false, false => 0
  | false, true => 1
  | true, true => 2
  | true, false => 3

/-- R170: the pair of a Gray symbol. -/
def ofGray (g : Nat) : List Bool := match g % 4 with | 0 => [false, false] | 1 => [false, true] | 2 => [true, true] | _ => [true, false]

/-- R170: the Gray symbols of line bits, pair by pair. -/
def grays : List Bool → List Nat
  | a :: b :: r => grayOf a b :: grays r
  | _ => []

/-- R171: the precoder, from the symbol `p` sent before. -/
def precode : Nat → List Nat → List Nat
  | _, [] => []
  | p, g :: r =>
    let q := (g + 4 - p % 4) % 4
    q :: precode q r

/-- R172: Gray symbols from sliced levels, after the level `p` sliced before. -/
def decodeLevels : Nat → List Nat → List Nat
  | _, [] => []
  | p, q :: r => ((q + p) % 4) :: decodeLevels q r

/-- R171: the level of a four-level symbol, in thirds of the peak amplitude. -/
def level4 (p : Nat) : Int := 2 * p - 3

/-- R173: the level of a two-level symbol. -/
def level2 (b : Bool) : Int := if b then 1 else -1

/-! ## Blocks -/

/-- R174: the header's bits in line order. -/
def headerBits (ctl : Bool) : List Bool := if ctl then [false, true] else [true, false]

/-- R174: what a received header says; none where it is invalid. -/
def ofHeader : Bool → Bool → Option Bool
  | true, false => some false
  | false, true => some true
  | _, _ => none

/-- R175: the payload of a control block. -/
def Ctl.payload : Ctl → List Nat
  | .idle rx fb => [0x1E, b2n rx + 2 * b2n fb, 0, 0, 0, 0, 0, 0]
  | .mark id => [0x2D, id % 256, 0, 0, 0, 0, 0, 0]
  | .echo id t => [0x33, id % 256] ++ leBytes 4 t ++ [0, 0]
  | .shift n => [0x4B, 2, n % 256, 0, 0, 0, 0, 0]

/-- R175, R176: the control block of a payload; none where it is discarded and counted in LANE_CNT[12]. The spec names one target mode of SHIFT, 0x02,
and no other; the model takes another for unknown. (DESIGN CHOICE: note 125.) -/
def Ctl.ofPayload : List Nat → Option Ctl
  | [0x1E, x, 0, 0, 0, 0, 0, 0] => if x < 4 then some (.idle (x % 2 == 1) (x / 2 == 1)) else none
  | [0x2D, id, 0, 0, 0, 0, 0, 0] => some (.mark id)
  | [0x33, id, a, b, c, d, 0, 0] => some (.echo id (ofLe [a, b, c, d]))
  | [0x4B, 2, n, 0, 0, 0, 0, 0] => some (.shift n)
  | _ => none

/-! ## Scrambler -/

/-- R178: the seeds, as the scrambler's last 58 bits, newest first: bit k - 1 is s(-k). -/
def seedDown : List Bool := lineBits 58 0x03FFFFFFFFFFFFFF
/-- R178: the node's. -/
def seedUp : List Bool := lineBits 58 1

/-- R177: one bit scrambled, with the state after it. -/
def scrambleBit (s : List Bool) (d : Bool) : Bool × List Bool :=
  let x := (d != s.getD 38 false) != s.getD 57 false
  (x, (x :: s).take 58)

/-- R177: one bit descrambled, with the state after it. -/
def descrambleBit (s : List Bool) (x : Bool) : Bool × List Bool := ((x != s.getD 38 false) != s.getD 57 false, (x :: s).take 58)

/-- R177: payload bits scrambled in transmission order. -/
def scramble : List Bool → List Bool → List Bool × List Bool
  | s, [] => ([], s)
  | s, d :: r =>
    let (x, s) := scrambleBit s d
    let (xs, s) := scramble s r
    (x :: xs, s)

/-- R177: and descrambled. -/
def descramble : List Bool → List Bool → List Bool × List Bool
  | s, [] => ([], s)
  | s, x :: r =>
    let (d, s) := descrambleBit s x
    let (ds, s) := descramble s r
    (d :: ds, s)

/-- R169, R177: the scrambled payload bytes of a block, with the state after it. -/
def scrambleBlock (s : List Bool) (payload : List Nat) : List Nat × List Bool :=
  let (xs, s) := scramble s ((payload.map (lineBits 8)).flatten)
  ((List.range 8).map (fun j => ofBits ((xs.drop (8 * j)).take 8)), s)

/-- R174, R177: blocks with their payloads scrambled; headers are not. -/
def scrambleBlocks : List Bool → List Block → List Block × List Bool
  | s, [] => ([], s)
  | s, b :: r =>
    let (p, s) := scrambleBlock s b.payload
    let (bs, s) := scrambleBlocks s r
    ({ b with payload := p } :: bs, s)

/-- R169: the 66 line bits of a block whose payload is scrambled. -/
def Block.bits (b : Block) : List Bool := headerBits b.ctl ++ (b.payload.map (lineBits 8)).flatten

/-! ## FEC frames -/

/-- R180: a byte times α. -/
def gfDouble (x : Nat) : Nat := if x < 128 then 2 * x else (2 * x % 256) ^^^ 0x1D

/-- Of a byte and the lowest `n` bits of another, the product. -/
def gfMulN : Nat → Nat → Nat → Nat
  | 0, _, _ => 0
  | n + 1, x, y => (if y % 2 = 1 then x else 0) ^^^ gfMulN n (gfDouble x) (y / 2)

/-- R180: the product of two bytes. -/
def gfMul (x y : Nat) : Nat := gfMulN 8 x y

/-- R180: α to the power `i`. -/
def gfExp : Nat → Nat
  | 0 => 1
  | i + 1 => gfDouble (gfExp i)

/-- A polynomial, highest coefficient first, times x - r. -/
def polyTimes (r : Nat) (p : List Nat) : List Nat := ((p ++ [0]).zip (0 :: p)).map (fun (x : Nat × Nat) => x.1 ^^^ gfMul r x.2)

/-- R180: the generator, highest coefficient first: 9 coefficients, the first 1. -/
def rsGenerator : List Nat := (List.range 8).foldl (fun p i => polyTimes (gfExp i) p) [1]

/-- R181: one message byte into the division by the generator; `r` is the remainder so far, highest coefficient first. -/
def rsStep (r : List Nat) (m : Nat) : List Nat :=
  let q := m ^^^ r.headD 0
  ((r.drop 1 ++ [0]).zip (rsGenerator.drop 1)).map (fun (x : Nat × Nat) => x.1 ^^^ gfMul q x.2)

/-- R181: the parity of message bytes, the coefficient of x^7 first. -/
def rsParity (m : List Nat) : List Nat := m.foldl rsStep (List.replicate 8 0)

/-- The value of a polynomial, highest coefficient first, at `x`. -/
def polyAt (x : Nat) (p : List Nat) : Nat := p.foldl (fun y c => gfMul y x ^^^ c) 0

/-- R180: the syndromes of a received word; all 0 on a code word. -/
def rsSyndromes (c : List Nat) : List Nat := (List.range 8).map (fun i => polyAt (gfExp i) c)

/-- Bytes in which two words differ. -/
def bytesApart (a b : List Nat) : Nat := ((a.zip b).filter (fun x => x.1 != x.2)).length

/-- R182: the receiver delivers the code word `c` for the received word `r`: they differ in at most 4 bytes. -/
def rsCorrects (r c : List Nat) : Bool := r.length == 248 && c.length == 248 && (rsSyndromes c).all (· == 0) && bytesApart r c ≤ 4

/-- α to the power -`i`, and the inverse of a byte that is not 0. -/
def gfExpNeg (i : Nat) : Nat := gfExp ((255 - i % 255) % 255)
def gfPow (x : Nat) : Nat → Nat
  | 0 => 1
  | n + 1 => gfMul x (gfPow x n)
def gfInv (x : Nat) : Nat := gfPow x 254

/-- Sum of two polynomials, lowest coefficient first. -/
def polyAdd (p q : List Nat) : List Nat := (List.range (max p.length q.length)).map (fun i => p.getD i 0 ^^^ q.getD i 0)

/-- A search for the error locator: the locator, the one before its last growth, its degree, steps and discrepancy since then. -/
structure Locator where
  c : List Nat
  b : List Nat
  len : Nat
  m : Nat
  last : Nat
  deriving DecidableEq, Repr, Inhabited

/-- One syndrome more into the shortest recurrence that gives the syndromes. -/
def Locator.step (syn : List Nat) (x : Locator) (n : Nat) : Locator :=
  let gap := (List.range (x.len + 1)).foldl (fun a i => a ^^^ gfMul (x.c.getD i 0) (syn.getD (n - i) 0)) 0
  if gap = 0 then { x with m := x.m + 1 }
  else
    let f := gfMul gap (gfInv x.last)
    let c := polyAdd x.c (List.replicate x.m 0 ++ x.b.map (gfMul f))
    if 2 * x.len ≤ n then ⟨c, x.c, n + 1 - x.len, 1, gap⟩ else { x with c := c, m := x.m + 1 }

/-- The error at the byte of power `p`, from the locator and the evaluator, both lowest coefficient first. -/
def rsError (loc ev : List Nat) (p : Nat) : Nat :=
  let x := gfExpNeg p
  let slope := (List.range loc.length).foldl (fun a i => if i % 2 = 1 then a ^^^ gfMul (loc.getD i 0) (gfPow x (i - 1)) else a) 0
  gfMul (gfExp p) (gfMul (polyAt x ev.reverse) (gfInv slope))

/-- R182: the receiver's decoder: the code word within 4 bytes of the received word, none where the frame is uncorrectable. -/
def rsDecode (r : List Nat) : Option (List Nat) :=
  let syn := rsSyndromes r
  let loc := ((List.range 8).foldl (Locator.step syn) ⟨[1], [1], 0, 1, 1⟩).c
  let ev := (List.range 8).map (fun n => (List.range (n + 1)).foldl (fun a i => a ^^^ gfMul (loc.getD i 0) (syn.getD (n - i) 0)) 0)
  let fixed := (List.range r.length).map (fun j =>
    let p := 247 - j
    if polyAt (gfExpNeg p) loc.reverse = 0 then r.getD j 0 ^^^ rsError loc ev p else r.getD j 0)
  if rsCorrects r fixed then some fixed else none

/-- R179, R181: the frame of 30 scrambled blocks: with the parity block as block 30. -/
def fecFrame (bs : List Block) : List Block := bs ++ [⟨true, rsParity ((bs.map Block.payload).flatten)⟩]

/-- R179: the 1,023 symbols of a frame, before the precoder. -/
def frameSymbols (bs : List Block) : List Nat := grays (((fecFrame bs).map Block.bits).flatten)

/-! ## Two-level mode -/

/-- R185: bits stuffed; `last` is the last line bit and the run it stands in. -/
def stuff : Bool × Nat → List Bool → List Bool × (Bool × Nat)
  | st, [] => ([], st)
  | (b, n), x :: r =>
    let m := if x = b ∧ n ≠ 0 then n + 1 else 1
    if m = 24 then
      let (ys, st) := stuff (!x, 1) r
      (x :: (!x) :: ys, st)
    else
      let (ys, st) := stuff (x, m) r
      (x :: ys, st)

/-- R185: stuffed bits removed, the stuffing violations counted in LANE_CNT[6], and the count that runs on. -/
def unstuff : Bool × Nat → List Bool → List Bool × Nat × (Bool × Nat)
  | st, [] => ([], 0, st)
  | (b, n), x :: r =>
    if n = 24 then
      let (ys, v, st) := unstuff (x, 1) r
      (ys, v + b2n (x == b), st)
    else
      let (ys, v, st) := unstuff (x, if x = b ∧ n ≠ 0 then n + 1 else 1) r
      (x :: ys, v, st)

/-- R215: the lengths of the upstream types. -/
def upLength : Nat → Option Nat
  | 0x11 => some 8
  | 0x12 => some 4
  | 0x13 => some 4
  | 0x14 => some 2
  | 0x15 => some 8
  | 0x16 => some 2
  | _ => none

/-- Bytes in groups of 8; `n` bounds their number. -/
def byEight : Nat → List Nat → List (List Nat)
  | 0, _ => []
  | n + 1, m => if m.isEmpty then [] else m.take 8 :: byEight n (m.drop 8)

/-- R175, R211: the blocks of a message, with the control block that follows it; or of a control block. `rx` says that the receiver is locked and `fb` that
it asks for the fall-back (R175). -/
def blocksOf (rx fb : Bool) : List Nat ⊕ Ctl → List Block
  | .inl m => (byEight (m.length / 8) m).map (fun p => ⟨false, p⟩) ++ [⟨true, (Ctl.idle rx fb).payload⟩]
  | .inr c => [⟨true, c.payload⟩]

/-! ## Training patterns (R194) -/

/-- R194: what a transmitter of the CX96 sends. -/
inductive Pattern | dark | tp1 | tp2 | tp3 | blocks
  deriving DecidableEq, Repr, Inhabited

/-- R194: the mode word, MODE4 or MODE2. -/
def modeWord (two : Bool) : Nat := if two then 0xFF00FF00F0F0F0F0 else 0x00FF00FF0F0F0F0F

/-- R194: bit `n` of TP0, which nodes send. -/
def tp0Bit (n : Nat) : Bool := 2 ≤ n % 4

/-- R194: bit `n` of TP1: a cycle of 128 UI, 64 of 0, 0, 1, 1 and then the mode word. -/
def tp1Bit (two : Bool) (n : Nat) : Bool := if n % 128 < 64 then tp0Bit n else (modeWord two).testBit (n % 128 - 64)

/-- R194: the next bit of PRBS15 from the last 15, newest first; all are 1 at the start. -/
def prbsNext (s : List Bool) : Bool := s.getD 13 true != s.getD 14 true
def prbsBits : Nat → List Bool → List Bool × List Bool
  | 0, s => ([], s)
  | n + 1, s =>
    let b := prbsNext s
    let (bs, s) := prbsBits n ((b :: s).take 15)
    (b :: bs, s)
def prbsStart : List Bool := List.replicate 15 true

/-- R195: the self-synchronising checker: of received bits after the last 15, the errors, and the bits since the last error. -/
def prbsCheck : List Bool → List Bool → Nat × Nat → Nat × Nat
  | _, [], r => r
  | s, b :: bs, (errors, clean) => prbsCheck ((b :: s).take 15) bs (if b = prbsNext s then (errors, clean + 1) else (errors + 1, 0))

/-! ## The transmitter -/

/-- The transmitter of a lane: its mode, the last precoded symbol (R171), the scrambler (R178), the run of equal line bits (R185), and the scrambled
blocks of the running frame (R179). (DESIGN CHOICE: note 123.) -/
structure Tx where
  two : Bool
  pre : Nat
  scr : List Bool
  run : Bool × Nat
  frame : List Block
  deriving DecidableEq, Repr, Inhabited

/-- R171: at the first symbol of TP2 the precoder starts at 0. -/
def Tx.start (two : Bool) : Tx := ⟨two, 0, seedDown, (false, 0), []⟩

/-- Levels, in thirds of the peak, of line bits; four-level symbols through the precoder, which runs on without a break. -/
def Tx.levels (t : Tx) (bits : List Bool) : List Int × Tx :=
  if t.two then (bits.map (fun b => 3 * level2 b), t)
  else
    let qs := precode t.pre (grays bits)
    (qs.map level4, { t with pre := qs.getLastD t.pre })

/-- R178, R185: TP3 begins: the seed is loaded, the count of equal bits starts, and so does a frame. -/
def Tx.tp3 (t : Tx) : Tx := { t with scr := seedDown, run := (false, 0), frame := [] }

/-- R174 to R185: a block goes out: scrambled; stuffed in two-level mode; in four-level mode with the parity block after every 30. -/
def Tx.send (t : Tx) (b : Block) : List Int × Tx :=
  let (p, s) := scrambleBlock t.scr b.payload
  let x : Block := { b with payload := p }
  let t := { t with scr := s }
  if t.two then
    let (ys, r) := stuff t.run x.bits
    { t with run := r }.levels ys
  else
    let f := t.frame ++ [x]
    if f.length = 30 then { t with frame := [] }.levels (((fecFrame f).drop 29).map Block.bits).flatten
    else { t with frame := f }.levels x.bits

/-- R202 step 2: after the frame with COUNT 0 the transmitter is in two-level mode, stuffing, its scrambler running on. -/
def Tx.shift (t : Tx) : Tx := { t with two := true, run := (false, 0), frame := [] }

/-- R217: an item takes its place behind those that go before it and those of its own kind. -/
def txInsert (place : Nat) (x : List Nat ⊕ Ctl) : List (Nat × (List Nat ⊕ Ctl)) → List (Nat × (List Nat ⊕ Ctl))
  | [] => [(place, x)]
  | y :: r => if y.1 ≤ place then y :: txInsert place x r else (place, x) :: y :: r

/-- A running transmitter from TP3 on: its line state, the UI sent since TP3, the blocks left of the message in progress, what waits in the order of R217,
and the RX_LOCKED of its IDLE blocks. -/
structure TxRun where
  tx : Tx
  ui : Nat
  cur : List Block
  wait : List (Nat × (List Nat ⊕ Ctl))
  rx : Bool
  deriving DecidableEq, Repr, Inhabited

/-- The sub-tick from which an event counts. -/
def TxEvent.instant : TxEvent → Nat
  | .ready t _ _ | .idle t _ | .two t => t

/-- What an event changes. -/
def TxRun.event (r : TxRun) : TxEvent → TxRun
  | .ready _ p x => { r with wait := txInsert p x r.wait }
  | .idle _ b => { r with rx := b }
  | .two _ => { r with tx := r.tx.shift }

/-- R176, R217: the block that goes out next: of the message in progress, which is never cut short; of the first item that waits; IDLE where none does. Every
message is followed by a control block and is at most 8 blocks long, so one control block comes in every 64. -/
def TxRun.next (r : TxRun) : Block × TxRun :=
  let idle : Block := ⟨true, (Ctl.idle r.rx false).payload⟩
  match r.cur, r.wait with
  | b :: c, _ => (b, { r with cur := c })
  | [], (_, x) :: w =>
    let bs := blocksOf r.rx false x
    (bs.headD idle, { r with cur := bs.drop 1, wait := w })
  | [], [] => (idle, r)

/-- R174 to R185: one block goes out, after the events that count by its first UI; `from_` is the sub-tick at which TP3 began. -/
def TxRun.step (from_ : Nat) (r : TxRun) (ev : List TxEvent) : List Int × TxRun × List TxEvent :=
  let now := fun (e : TxEvent) => decide (e.instant ≤ from_ + 4 * r.ui)
  let (b, r) := ((ev.filter now).foldl TxRun.event r).next
  let (ls, t) := r.tx.send b
  (ls, { r with tx := t, ui := r.ui + ls.length }, ev.filter (fun e => !now e))

/-- At most `n` blocks, as long as they start before `until_`. -/
def TxRun.go (from_ until_ : Nat) : Nat → TxRun → List TxEvent → List Int × TxRun
  | 0, r, _ => ([], r)
  | n + 1, r, ev =>
    if until_ ≤ from_ + 4 * r.ui then ([], r)
    else
      let (ls, r, ev) := r.step from_ ev
      let (more, r) := TxRun.go from_ until_ n r ev
      (ls ++ more, r)

/-- R171, R194: the four-level symbols of TP2, precoded, and its two-level bits. -/
def tp2Symbols (n : Nat) : List Nat := precode 0 (grays (prbsBits (2 * n) prbsStart).1)
def tp2Bits (n : Nat) : List Bool := (prbsBits n prbsStart).1

/-- R171, R178, R185: the transmitter at the first bit of TP3: the precoder as TP2 left it, the scrambler at its seed, a new count of equal bits. -/
def LineTx.start (x : LineTx) (t : Nat) : TxRun :=
  let n := (t - x.tp2.getD t) / 4
  let tx : Tx := if x.two then Tx.start true else { Tx.start false with pre := (tp2Symbols n).getLastD 0 }
  ⟨tx.tp3, 0, [], [], false⟩

/-- The transmitter as it stands at sub-tick `t`, with the levels sent since TP3; none before TP3. -/
def LineTx.txAt (x : LineTx) (t : Nat) : Option (List Int × TxRun) :=
  x.tp3.map (fun from_ => TxRun.go from_ t ((t - from_) / 4 + 1) (x.start from_) x.events.reverse)

/-- R171, R173, R194: the level, in thirds of the peak, that leaves at sub-tick `t`; none while the lane is dark. TP1, and all of two-level mode, are sent at
the outer levels. -/
def LineTx.levelAt (x : LineTx) (t : Nat) : Option Int :=
  match x.tp1, x.tp2, x.tp3 with
  | none, _, _ => none
  | some a, none, _ => some (3 * level2 (tp1Bit x.two ((t - a) / 4)))
  | _, some b, none =>
    let n := (t - b) / 4
    some (if x.two then 3 * level2 ((tp2Bits (n + 1)).getD n false) else level4 ((tp2Symbols (n + 1)).getD n 0))
  | _, _, some c => ((x.txAt (t + 1)).map (fun r => r.1.getD ((t - c) / 4) 0))

/-- R194: training begins, TP2 follows TP1, and TP3 TP2, at sub-tick `t`. -/
def LineTx.begin1 (two : Bool) (t : Nat) : LineTx := ⟨two, some t, none, none, []⟩
def LineTx.begin2 (x : LineTx) (t : Nat) : LineTx := { x with tp2 := some t, tp3 := none, events := [] }
def LineTx.begin3 (x : LineTx) (t : Nat) : LineTx := { x with tp3 := some t, events := [] }

/-- R202: the first frame boundary at or after sub-tick `t`. -/
def LineTx.frameFrom (x : LineTx) (t : Nat) : Nat :=
  let c := x.tp3.getD t
  c + (t - c + 4091) / 4092 * 4092

/-- R175: the RX_LOCKED of the IDLE blocks from sub-tick `t`. -/
def LineTx.lockedNow (x : LineTx) : Bool :=
  match x.events.find? (fun e => match e with | .idle _ _ => true | _ => false) with
  | some (.idle _ b) => b
  | _ => false
def LineTx.idle (x : LineTx) (t : Nat) (rx : Bool) : LineTx := if x.lockedNow = rx then x else { x with events := .idle t rx :: x.events }

/-! ## The receiver -/

/-- R182, R184: a block as the receiver hands it over. -/
structure RxBlock where
  errored : Bool
  ctl : Bool
  payload : List Nat
  deriving DecidableEq, Repr, Inhabited

/-- R182, R184: a block of a frame that is delivered, or of two-level mode: errored where its header is invalid. -/
def rxBlock (h : Bool × Bool) (payload : List Nat) : RxBlock :=
  match ofHeader h.1 h.2 with
  | some c => ⟨false, c, payload⟩
  | none => ⟨true, false, payload⟩

/-- R182: the 30 blocks of a frame, with its headers and 248 received bytes; `s` descrambles. All are errored where the frame is uncorrectable. -/
def rxFrame (s : List Bool) (headers : List (Bool × Bool)) (bytes : List Nat) : List RxBlock × List Bool :=
  let c := rsDecode bytes
  let (bits, s) := descramble s (((c.getD bytes).take 240).map (lineBits 8)).flatten
  ((List.range 30).map (fun i =>
    let p := (List.range 8).map (fun j => ofBits ((bits.drop (64 * i + 8 * j)).take 8))
    let b := rxBlock (headers.getD i (false, false)) p
    if c.isSome then b else { b with errored := true }), s)

/-- R214: how the receiver reads the byte stream: it discards data up to the next control block, or holds the blocks of a message that has `need`.
(DESIGN CHOICE: note 123.) -/
structure RxState where
  skip : Bool
  part : List Nat
  need : Nat
  deriving DecidableEq, Repr, Inhabited

/-- R176, R211, R214: what a block completes: a message, a control block, one that is unknown, or a header that cannot be used. -/
inductive RxItem | message (m : List Nat) | ctl (c : Ctl) | unknown | badHeader
  deriving DecidableEq, Repr, Inhabited

/-- R211, R214: one block: an errored block and an unusable header end what is under way, up to the next control block; a control block inside a message
ends it. -/
def rxStep (x : RxState) (b : RxBlock) : RxState × Option RxItem :=
  if b.errored then (⟨true, [], 0⟩, none)
  else if b.ctl then
    (⟨false, [], 0⟩, some (match Ctl.ofPayload b.payload with | some c => .ctl c | none => .unknown))
  else if x.skip then (x, none)
  else if x.need = 0 then
    if upLength (b.payload.getD 0 0) = some (b.payload.getD 1 0) then (⟨false, b.payload, b.payload.getD 1 0 - 1⟩, none) else (⟨true, [], 0⟩, some .badHeader)
  else if x.need = 1 then (⟨false, [], 0⟩, some (.message (x.part ++ b.payload)))
  else (⟨false, x.part ++ b.payload, x.need - 1⟩, none)

/-- Blocks one after the other. -/
def rxTake : RxState → List RxBlock → RxState × List RxItem
  | x, [] => (x, [])
  | x, b :: r =>
    let (y, i) := rxStep x b
    let (z, l) := rxTake y r
    (z, i.toList ++ l)

/-! ## Equalisation -/

/-- R190: the presets of a transceiver class, in tenths of a dB: transmit pre-cursor, post-cursor, receive peaking, receive gain; class 3 is refused. -/
def preset : Nat → Option (Int × Int × Int × Int)
  | 0 => some (0, -15, 30, 0)
  | 1 => some (0, -30, 60, 0)
  | 2 => some (-10, -45, 90, 30)
  | _ => none

/-! ## Messages -/

/-- R212, R213: a message of `len` blocks: header, body words from 0x08 upward (0 where none is given), CRC-32C. -/
def messageBytes (type len seq beat : Nat) (words : List Nat) : List Nat :=
  let head := leBytes 4 (type + len * 2 ^ 8 + (seq % 2 ^ 16) * 2 ^ 16) ++ leBytes 4 beat
  let body := ((List.range (2 * len - 3)).map (fun j => leBytes 4 (words.getD j 0))).flatten
  head ++ body ++ leBytes 4 (crc32c (head ++ body))

/-- The word at a byte offset of a message. -/
def wordAtByte (m : List Nat) (o : Nat) : Nat := ofLe ((m.drop o).take 4)

/-- R214, R222 to R238: no reserved bit of a received message is set. Word by word from 0x08, the bits the type leaves reserved. TRIP_MASK is a 16-bit
field of which R225 gives twelve bits a switch; the model takes any value of it. (DESIGN CHOICE: note 125.) -/
def reservedClear (m : List Nat) : Bool :=
  let clear (o lo n : Nat) : Bool := wordAtByte m o / 2 ^ lo % 2 ^ n == 0
  match m.getD 0 0 with
  | 0x11 => clear 0x38 9 23
  | 0x12 => clear 8 2 6 && clear 8 14 2 && clear 8 30 2 && clear 0x18 16 16
  | 0x13 => clear 8 5 27
  | 0x15 =>
    ofLe ((m.drop 2).take 2) == 0 && clear 8 18 6 && clear 8 29 3 && clear 0xC 3 5 && clear 0xC 13 3 && clear 0x20 3 29 && clear 0x2C 16 16 && clear 0x38 0 32
  | 0x16 => ofLe ((m.drop 2).take 2) == 0
  | _ => true

/-- R214: why a received message that touches no errored block is discarded, as the lanes' commands code it: 0 it is not, 1 its CRC, 2 its type, its length
or a reserved bit. Fields out of range and stale beats are the commands' own to find. -/
def badness (m : List Nat) : Nat :=
  if upLength (m.getD 0 0) ≠ some (m.getD 1 0) ∨ m.length ≠ 8 * m.getD 1 0 then 2
  else if ofLe (m.drop (m.length - 4)) ≠ crc32c (m.take (m.length - 4)) then 1
  else if reservedClear m then 0 else 2

/-- R222: a SAMPLE's fields. -/
def sampleOf (m : List Nat) : SampleMsg :=
  { seq := ofLe ((m.drop 2).take 2), beat := wordAtByte m 4, part := m.getD 0x38 0, sat := m.getD 0x39 0 % 2 == 1
    codes := (List.range 24).map (fun i => toS 16 (ofLe ((m.drop (8 + 2 * i)).take 2))) }

/-- R225: a STATUS's. -/
def statusOf (m : List Nat) : StatusMsg :=
  { seq := ofLe ((m.drop 2).take 2), beat := wordAtByte m 4, w08 := wordAtByte m 8, applied := wordAtByte m 0xC
    tripMask := wordAtByte m 0x10 % 2 ^ 16, lastCtrlSeq := wordAtByte m 0x10 / 2 ^ 16, lateCnt := wordAtByte m 0x14 % 2 ^ 16
    discardCnt := wordAtByte m 0x14 / 2 ^ 16, unsentCnt := wordAtByte m 0x18 % 2 ^ 16 }

/-- R227: a CAPTURE_PAGE's. -/
def pageOf (m : List Nat) : PageMsg :=
  { seq := ofLe ((m.drop 2).take 2), beat := wordAtByte m 4, page := m.getD 8 0 % 16, frozen := m.getD 8 0 / 16 % 2 == 1, data := (m.drop 0xC).take 16 }

/-- R236: a TSYNC_REPORT's sync index and e. -/
def reportOf (m : List Nat) : Nat × Int := (ofLe ((m.drop 2).take 2), toS 32 (wordAtByte m 8))

/-- R230: a CREDIT's RCVD and FREED. -/
def creditOf (m : List Nat) : Nat × Nat := (wordAtByte m 8 % 2 ^ 16, wordAtByte m 8 / 2 ^ 16)

/-- R238: a CAP_UP's. -/
def capUpOf (m : List Nat) : CapUp :=
  let a := wordAtByte m 8
  let b := wordAtByte m 0xC
  let w := wordAtByte m
  { beat := w 4, protoMajor := a % 256, protoMinor := bitsAt a 8 8, cellClass := bitsAt a 16 2, holdBeats := bitsAt a 24 5, string := b % 8, position := bitsAt b 8 5
    dnSlots := bitsAt b 16 8, prepTicks := bitsAt b 24 8, serial := w 0x10 + w 0x14 * 2 ^ 32, deadtime := w 0x18 % 2 ^ 16, minPulse := w 0x18 / 2 ^ 16
    dabDeadtime := w 0x1C % 2 ^ 16, sampleDelay := w 0x1C / 2 ^ 16, bypassKind := w 0x20 % 4, autoBypass := bitsAt (w 0x20) 2 1 == 1
    fs := [w 0x24 % 2 ^ 16, w 0x24 / 2 ^ 16, w 0x28 % 2 ^ 16, w 0x28 / 2 ^ 16, w 0x2C % 2 ^ 16], prbsErr := w 0x30 + w 0x34 * 2 ^ 32 }

/-- R217: the place of what an element of the trace puts on a lane in the order of sending. The rule orders messages; the model takes a control block (MARK,
SHIFT) before them. (DESIGN CHOICE: note 62.) -/
def placeOf : Out → Nat
  | .cellCmd .. => 1
  | .bypass .. => 2
  | .credit .. => 3
  | .captureReq .. => 4
  | .tsync .. => 5
  | .capDn .. => 6
  | _ => 0

/-- What an element of the trace puts on a lane: the lane, and the message's bytes or a control block. `beat` is the beat in which it is sent. -/
def laneOut (beat : Nat) : Out → Option (Nat × (List Nat ⊕ Ctl))
  | .cellCmd k q b ws => some (k, .inl (messageBytes 0x01 5 q b ws))
  | .bypass k q b action phase => some (k, .inl (messageBytes 0x02 2 q b [action + phase * 2 ^ 16]))
  | .captureReq k q action first last => some (k, .inl (messageBytes 0x03 2 q beat [action + first * 2 ^ 8 + last * 2 ^ 12]))
  | .tsync k i init ow at_ =>
    some (k, .inl (messageBytes 0x04 3 i beat [at_ / 64 % 2 ^ 32, at_ / 2 ^ 38, at_ % 64 + b2n init * 2 ^ 6 + (ow % 2 ^ 19) * 2 ^ 8]))
  | .capDn k hold string position cat =>
    some (k, .inl (messageBytes 0x05 4 0 beat [1 + k * 2 ^ 16 + hold * 2 ^ 24, string + position * 2 ^ 8 + 64 * 2 ^ 16, cat]))
  | .credit k rcvd freed => some (k, .inl (messageBytes 0x06 2 0 beat [rcvd + freed * 2 ^ 16]))
  | .mark k id _ => some (k, .inr (.mark id))
  | .shift k n _ => some (k, .inr (.shift n))
  | _ => none

end Sys2Proof.Machine
end

