-- ==== Sys2Proof/Machine/Lanes.lean ====
section
/-! DEFINITION. The Brodrel Link's line layer (R186 to R210, R311 to R316): lane states, training, EXCHANGE with latency runs, quality windows and
shifts, losses and holds. Lane states: 0 OFF, 1 DETECT, 2 TRAIN, 3 LOCK, 4 EXCHANGE, 5 ACTIVE; steps in TRAIN 0 TP1, 1 TP2, 2 TP3. -/

namespace Sys2Proof.Machine

/-- R186, R210: one of the lane's counters. -/
def Dev.laneCnt (d : Dev) (k c n : Nat) : Dev := d.inc F.LANE_CNT.COUNT n k c

/-- R189, R195: the receiver's own locks: block lock, and frame lock in four-level mode. The IDLE blocks sent carry them as RX_LOCKED. -/
def Dev.ownLocks (d : Dev) (k : Nat) : Bool := d.bit F.LANE_STATUS.BLK_LOCK k && (d.bit F.LANE_STATUS.MODE k || d.bit F.LANE_STATUS.FRM_LOCK k)

/-- R189: an ACTIVE lane whose receiver delivers blocks. -/
def Dev.laneHears (d : Dev) (k : Nat) : Bool := d.laneUp k && d.ownLocks k

/-- R175, R195: RX_LOCKED of the IDLE blocks follows the locks. The CX96 answers a degraded upstream with a shift of its own (R201), so FB_REQ is 0. -/
def Dev.idleSync (d : Dev) (k : Nat) : Dev := d.lane k (fun l => { l with tx := l.tx.idle (d.tick * 64) (d.ownLocks k) })

/-- R217: a message or control block is ready for the lane's transmitter from sub-tick `t`. -/
def Dev.laneSend (d : Dev) (t : Nat) (o : Out) : Dev :=
  match laneOut (t / 65536) o with
  | some (k, x) => (d.emit o).lane k (fun l => { l with tx := { l.tx with events := .ready t (placeOf o) x :: l.tx.events } })
  | none => d.emit o

/-- R174 to R185: a lane's transmitter as it stands now, and the level on its fibre at an instant. -/
def Dev.laneTx (d : Dev) (k : Nat) : Option TxRun := ((unit d.lanes k).tx.txAt (d.tick * 64)).map (·.2)
def Dev.laneLevel (d : Dev) (k t : Nat) : Option Int := (unit d.lanes k).tx.levelAt t

/-- R204: the ticks of `n` blocks: 33 symbols a block, in two-level mode 66 and what stuffing adds. (DESIGN CHOICE: note 62.) -/
def Dev.blockTicks (d : Dev) (k n : Nat) : Nat := ((if d.bit F.LANE_STATUS.MODE k then 66 else 33) * n + 15) / 16

/-- R237, R239: `n` CAP_DN leave, at sub-tick `t` and every `per` ticks after it. -/
def Dev.capDnSend (d : Dev) (k t per n : Nat) : Dev :=
  let x := d.ldec k
  d.each (List.range n) (fun d i => d.laneSend (t + 64 * per * i) (.capDn k x.holdBeats x.string x.position (d.get F.GLB_CAT_ID.ID)))

/-- R239 step 1: the CAP_DN due by now, one in every 64 blocks, have gone out. -/
def Dev.capDnDue (d : Dev) (k : Nat) : Dev :=
  match (unit d.lanes k).capAt with
  | some t =>
    let per := d.blockTicks k 64
    let n := (d.tick - t) / per
    if n = 0 then d else (d.capDnSend k ((t + per) * 64) per n).lane k (fun l => { l with capAt := some (t + n * per) })
  | none => d

/-- R193: the declared lanes of a training group. -/
def Dev.groupLanes (d : Dev) (g : Nat) : List Nat := those 96 (fun k => k / 8 == g && d.bit F.LANE_CTRL.DECLARED k)

/-- R77, R193: the group's loan is returned when every declared lane of it is OFF, and reduced when every other is ACTIVE. -/
def Dev.groupSync (d : Dev) (g : Nat) : Dev :=
  let on := (d.groupLanes g).filter (fun k => d.laneSt k != 0)
  if on.isEmpty then (d.loanReturn 5 g).loanDrop 5 g
  else if on.all d.laneUp then d.loanReduce 5 g else d

/-! The budget of a lane (R311 to R316) -/

/-- R311, R315: ESAP_k in a line mode, and the upstream slack of R313. -/
def Dev.owTicks (d : Dev) (k : Nat) : Nat := (d.get F.LANE_LAT.ONE_WAY k + 63) / 64
def Dev.esapIn (d : Dev) (k mode : Nat) : Nat := 290 + (if mode = 0 then 24 else 42) + d.owTicks k + d.get F.LANE_CAP.PREP_TICKS k + 2
def Dev.slackIn (d : Dev) (k mode : Nat) : Int := (if mode = 0 then 59 else 118) - (d.owTicks k : Int)

/-- R316: the lane fits the apply phase in force in a line mode. -/
def Dev.laneFits (d : Dev) (k mode : Nat) : Bool := d.esapIn k mode ≤ d.get F.ARR_APPLY.PHASE && decide (0 ≤ d.slackIn k mode)

/-- R315: the latency of the lane has been measured, and it is in EXCHANGE or ACTIVE. -/
def Dev.laneMeasured (d : Dev) (k : Nat) : Bool := d.laneUp k || (d.laneSt k == 4 && (unit d.lanes k).rttOk)

/-- R100 check 20, R313, R315, R316: GLB_ESAP recomputed; in STAGED and LINKED the check is made once every declared lane has been measured. (DESIGN CHOICE: note 64.) -/
def Dev.esapSync (d : Dev) : Dev :=
  let ks := those 96 d.laneMeasured
  let d := d.set F.GLB_ESAP.TICKS (min 1023 (ks.foldl (fun m k => max m (d.esapIn k (d.get F.LANE_STATUS.MODE k))) 0))
  let ds := those 96 (fun k => d.bit F.LANE_CTRL.DECLARED k)
  if ds.all d.laneMeasured then d.each ds (fun d k => d.check 20 k (d.laneFits k (d.get F.LANE_STATUS.MODE k))) else d

/-- R328: LANE_BUDGET shows the lane's present mode. -/
def Dev.budgetSync (d : Dev) (k : Nat) : Dev :=
  let m := d.get F.LANE_STATUS.MODE k
  (d.set F.LANE_BUDGET.ESAP_K (min 1023 (d.esapIn k m)) k).setS F.LANE_BUDGET.UP_SLACK (d.slackIn k m) k

/-! Leaving states -/

/-- What a lane stops when it leaves a state: its deadlines, its locks, what it awaits, and what it holds for the burst. -/
def Dev.laneStill (d : Dev) (k : Nat) : Dev :=
  let d := (d.capDnDue k).each ([.attempt k, .tp1 k, .gap k, .lockState k, .exchange k, .shift k, .rtt k, .losClear k, .capRep k, .qwin k]
    ++ (List.range 16).map (Timer.echo k)) (fun d t => d.disarm t)
  let d := d.each [F.LANE_STATUS.SYM_LOCK, F.LANE_STATUS.BLK_LOCK, F.LANE_STATUS.FRM_LOCK, F.LANE_STATUS.PEER_LOCKED] (fun d f => d.setB f false k)
  (d.set F.LANE_STATUS.STEP 0 k).lane k (fun l => { l with
    tp1 := false, ready := false, shifting := false, shiftRx := false, capOk := false, rttOk := false, waiting := [], run := [], parts := [], status := none
    capWait := [], align := default, framer := default, idleRun := 0, tx := default, capAt := none })

/-- R192, R197: to OFF. The earliest safe apply phase and the group's loan follow. (DESIGN CHOICE: note 65.) -/
def Dev.laneOff (d : Dev) (k : Nat) : Dev :=
  let d := ((d.laneStill k).set F.LANE_STATUS.STATE 0 k).set F.LANE_STATUS.MODE 0 k
  let d := d.lane k (fun l => { l with txdis := true, twoLevel := false, lost := false })
  d.esapSync.groupSync (k / 8)

/-- R198, R271: a lane leaves ACTIVE: the lane-loss event, and its cell is absent. (DESIGN CHOICE: note 63.) -/
def Dev.laneLoss (d : Dev) (k : Nat) : Dev :=
  if d.laneUp k then
    let d := d.set F.LANE_STATUS.STATE 2 k
    let d := d.lane k (fun l => { l with lost := true })
    ((d.condOff 39 k).raise 32 (if d.energy then 2 else 1) k).cellLost k
  else d

/-- R192, R100: to OFF and held, with the check that failed. -/
def Dev.laneHold (d : Dev) (k code : Nat) : Dev :=
  (((d.laneOff k).setB F.LANE_STATUS.HELD true k).set F.LANE_STATUS.FAIL code k).checkFail code k

/-- R100, R191: check 16's 100 ms run from the first tick at which the transceiver or its signal is missing. -/
def Dev.xcvrWatch (d : Dev) (k : Nat) : Dev :=
  if d.bit F.LANE_CTRL.DECLARED k ∧ (d.due (.xcvr k)).isNone then d.arm (.xcvr k) (msT 100) else d

/-! Training (R195 to R199) -/

/-- R195: attempt `n` starts at the release of TXDIS. (DESIGN CHOICE: notes 61, 65.) -/
def Dev.attemptStart (d : Dev) (k n : Nat) : Dev :=
  let d := ((d.laneStill k).set F.LANE_STATUS.STATE 2 k).set F.LANE_STATUS.ATTEMPT n k
  let d := d.setB F.LANE_STATUS.MODE ((unit d.lanes k).twoLevel || 3 < n) k
  let d := (d.lane k (fun l => { l with txdis := false, tx := LineTx.begin1 (d.bit F.LANE_STATUS.MODE k) (d.tick * 64) })).arm (.tp1 k) (usT 1000)
  if d.bit F.LANE_CTRL.TEST_HOLD k then d else d.arm (.attempt k) (usT 4000)

/-- R195, R197: the attempt fails: 200 µs dark and another, or OFF with check 17 failed after the last one permitted. -/
def Dev.laneFail (d : Dev) (k : Nat) : Dev :=
  let last := if d.bit F.LANE_CTRL.FB_ALLOWED k || (unit d.lanes k).twoLevel then 6 else 3
  if last ≤ d.get F.LANE_STATUS.ATTEMPT k then d.laneHold k 17
  else (((d.laneStill k).set F.LANE_STATUS.STATE 2 k).lane k (fun l => { l with txdis := true })).arm (.gap k) (usT 200)

/-- R102, R198: a lane leaves ACTIVE for TRAIN; the eighth retrain within 1 s holds it in OFF. (DESIGN CHOICE: notes 61, 63.) -/
def Dev.laneRetrain (d : Dev) (k code : Nat) : Dev :=
  let two := (unit d.lanes k).twoLevel || d.bit F.LANE_STATUS.MODE k
  let d := ((d.laneLoss k).checkFail code k).laneCnt k 9 1
  let recent := d.tick :: (unit d.lanes k).retrains.filter (fun t => d.tick < t + 100000000)
  let d := d.lane k (fun l => { l with retrains := recent, twoLevel := two })
  if 8 ≤ recent.length then ((d.laneOff k).lane k (fun l => { l with lost := true })).setB F.LANE_STATUS.HELD true k else d.attemptStart k 1

/-- R195: the lane is in the dark gap between attempts. (DESIGN CHOICE: note 63.) -/
def Dev.inGap (d : Dev) (k : Nat) : Bool := (d.due (.gap k)).isSome

/-- R192: where a deadline falls in the same tick as another exit of the state, what the deadline brings wins. -/
def Dev.forward (d : Dev) (t : Timer) (bad good : Dev → Dev) : Dev :=
  match d.due t with
  | some x => if x ≤ d.tick then bad (d.disarm t) else good d
  | none => good d

/-- R192: the check that failed where EXCHANGE ends after 5 ms. (DESIGN CHOICE: note 65.) -/
def Dev.exchangeFail (d : Dev) (k : Nat) : Dev := d.laneHold k (if (unit d.lanes k).capOk && !(unit d.lanes k).rttOk then 19 else 18)

/-- R191, R192, R198: a loss of light, block lock or frame lock, by state. (DESIGN CHOICE: note 63.) -/
def Dev.lineLoss (d : Dev) (k code : Nat) : Dev :=
  match d.laneSt k with
  | 2 | 3 => if d.inGap k then d else d.laneFail k
  | 4 => d.forward (.exchange k) (·.exchangeFail k) (·.laneFail k)
  | 5 => d.laneRetrain k code
  | _ => d

/-- R233: a link fault takes the lane from ACTIVE to TRAIN. -/
def Dev.linkFault (d : Dev) (k : Nat) : Dev := if d.laneUp k then (d.inc F.LANE_MCNT.COUNT 1 k 8).laneRetrain k 17 else d

/-- R192, R193: TRAIN once DETECT is done, the group holds its loan and PLL-T runs. -/
def Dev.laneTry (d : Dev) (k : Nat) : Dev :=
  if d.laneSt k == 1 && (unit d.lanes k).ready && d.hasLoan 5 (k / 8) && d.bit F.PLL_STATUS.LOCKED 1 then d.attemptStart k 1 else d

/-- R193: the group's loan has been granted, or PLL-T has locked. -/
def Dev.groupGo (d : Dev) (g : Nat) : Dev := d.each (d.groupLanes g) (fun d k => d.laneTry k)

/-- R192: OFF to DETECT. -/
def Dev.laneDetect (d : Dev) (k : Nat) : Dev :=
  if d.laneSt k == 0 && d.bit F.LANE_CTRL.DECLARED k && STAGED ≤ d.st && !d.bit F.LANE_STATUS.HELD k && !(unit d.lanes k).prsHigh then
    let d := (d.set F.LANE_STATUS.STATE 1 k).setB F.LANE_RTT.VALID false k
    let d := d.arm (.losClear k) (msT 1)
    if (unit d.lanes k).los then d.xcvrWatch k else d
  else d

/-- R103, R192, R193: entry to STAGED, or STAGE_RETRY: the lanes that can enter DETECT do, and their groups file training loans. -/
def Dev.lanesStage (d : Dev) : Dev :=
  let ks := those 96 (fun k => d.bit F.LANE_CTRL.DECLARED k && d.laneSt k == 0 && !d.bit F.LANE_STATUS.HELD k)
  let d := d.each ks (fun d k => if (unit d.lanes k).prsHigh then d.xcvrWatch k else d.laneDetect k)
  d.each (those 12 (fun g => ks.any (fun k => k / 8 == g))) (fun d g => if d.hasLoan 5 g || d.loanWait.any (fun q => q.op == 5 && q.inst == g) then d else d.loanFile 5 g)

/-- R101, R192: STAGE_RETRY ends the holds. -/
def Dev.lanesRetry (d : Dev) : Dev :=
  (d.each (those 96 (fun k => d.bit F.LANE_STATUS.HELD k)) (fun d k => d.setB F.LANE_STATUS.HELD false k)).lanesStage

/-- R69, R92, R192: every lane goes to OFF, with PLL-T or with the return to QUIET, which also ends the holds. -/
def Dev.lanesOff (d : Dev) (quiet : Bool) : Dev :=
  let d := d.each (those 96 (fun k => d.laneSt k != 0)) (fun d k =>
    let d := if d.laneUp k then (if quiet then (d.set F.LANE_STATUS.STATE 2 k).cellLost k else d.laneLoss k) else d
    d.laneOff k)
  let d := if quiet then d.each (those 96 (fun k => d.bit F.LANE_STATUS.HELD k)) (fun d k => d.setB F.LANE_STATUS.HELD false k) else d
  let d := if quiet then d.each (List.range 96) (fun d k => d.disarm (.xcvr k)) else d
  d.loanEnd 5

/-! Commands of detection and training -/

/-- R191: PRS_N high for 2 ticks. -/
def execLanePrsLost (k : Fin 96) (s : State) : Host.Outcome State Fault Refusal := onMain s fun d =>
  let d := (d.elapse 2).lane k (fun l => { l with prsHigh := true })
  let d := (d.setB F.LANE_STATUS.PRS false k).laneLoss k
  (if d.laneSt k = 0 then d else d.laneOff k).xcvrWatch k

/-- R100, R192: a transceiver is present; on an undeclared lane it is recorded. (DESIGN CHOICE: note 62.) -/
def execLaneDetectEntry (k : Fin 96) (s : State) : Host.Outcome State Fault Refusal := onMain s fun d =>
  let new := !d.bit F.LANE_STATUS.PRS k
  let d := (d.lane k (fun l => { l with prsHigh := false })).setB F.LANE_STATUS.PRS true k
  if d.bit F.LANE_CTRL.DECLARED k then d.laneDetect k
  else if new && STAGED ≤ d.st then d.raise 7 0 k else d

/-- R191, R192: LOS clear for 1 ms in DETECT. (DESIGN CHOICE: note 62.) -/
def execLaneTrainStart (k : Fin 96) (s : State) : Host.Outcome State Fault Refusal := onMain s fun d =>
  if d.laneSt k = 1 then
    let d := d.fire (.losClear k) fun d =>
      let d := (d.lane k (fun l => { l with los := false, ready := true })).setB F.LANE_STATUS.LOS false k
      (d.disarm (.xcvr k)).checkPass 16 k
    d.laneTry k
  else d

/-- R191: LOS high, for 2 µs without a break in TRAIN to EXCHANGE. (DESIGN CHOICE: note 62.) -/
def execLaneLos (k : Fin 96) (s : State) : Host.Outcome State Fault Refusal := onMain s fun d =>
  let st := d.laneSt k
  d.wait (d.tick + if 2 ≤ st ∧ st ≤ 4 ∧ !d.inGap k then usT 2 else 0) fun d =>
  let d := ((d.lane k (fun l => { l with los := true, ready := false })).setB F.LANE_STATUS.LOS true k).xcvrWatch k
  if st = 1 then d.arm (.losClear k) (msT 1)
  else if st = 0 ∨ (st ≠ 5 ∧ d.inGap k) then d
  else (d.laneCnt k 8 1).lineLoss k 16

/-- R100: check 16 has failed for 100 ms without a break. -/
def execXcvrCheckTimeout (k : Fin 96) (s : State) : Host.Outcome State Fault Refusal := onMain s fun d =>
  d.fire (.xcvr k) fun d => if (unit d.lanes k).prsHigh || (unit d.lanes k).los then d.checkFail 16 k else d

/-- R194, R195 step 2: lock on upstream TP1, with the two mode words received. (DESIGN CHOICE: note 62.) -/
def execLaneTp1Lock (k : Fin 96) (mode1 mode2 : Nat) (s : State) : Host.Outcome State Fault Refusal := onMain s fun d =>
  if d.laneSt k = 2 ∧ !d.inGap k ∧ !(unit d.lanes k).tp1 ∧ d.get F.LANE_STATUS.STEP k < 2 then
    let own := modeWord (d.bit F.LANE_STATUS.MODE k)
    let d := ((d.lane k (fun l => { l with los := false })).setB F.LANE_STATUS.LOS false k).disarm (.xcvr k)
    if mode1 = own ∧ mode2 = own then d.lane k (fun l => { l with tp1 := true }) else d.laneFail k
  else d

/-- R195 step 3: 1,000 µs after the origin TP2 follows TP1. -/
def execLaneTp1End (k : Fin 96) (s : State) : Host.Outcome State Fault Refusal := onMain s fun d =>
  d.fire (.tp1 k) fun d => (d.set F.LANE_STATUS.STEP 1 k).lane k (fun l => { l with tx := l.tx.begin2 (d.tick * 64) })

/-- R178, R185, R195 step 4: TP3 follows TP2. -/
def Dev.tp3Start (d : Dev) (k : Nat) : Dev := (d.set F.LANE_STATUS.STEP 2 k).lane k (fun l => { l with tx := l.tx.begin3 (d.tick * 64) })

/-- R195 steps 3 and 4, R199: the check of upstream TP2: its bit errors are counted; 4,096 UI without one are symbol lock, and TP3 follows unless
TEST_HOLD holds the lane. -/
def execLaneSymbolLock (k : Fin 96) (x : Tp2Check) (s : State) : Host.Outcome State Fault Refusal := onMain s fun d =>
  if d.laneSt k = 2 ∧ d.get F.LANE_STATUS.STEP k = 1 ∧ (unit d.lanes k).tp1 then
    let d := d.laneCnt k 7 x.errors
    if x.clean < 4096 then d else
    let d := d.setB F.LANE_STATUS.SYM_LOCK true k
    if d.bit F.LANE_CTRL.TEST_HOLD k then d else d.tp3Start k
  else d

/-- R202 step 4: the shift is complete. -/
def Dev.shiftDone (d : Dev) (k : Nat) : Dev :=
  let d := ((d.disarm (.shift k)).set F.LANE_STATUS.STEP 0 k).setB F.LANE_STATUS.MODE true k
  ((d.lane k (fun l => { l with shifting := false, shiftRx := false })).budgetSync k).esapSync

/-- R188: one header under test, valid or not. Lock after 64 valid headers in a row; lost with 16 invalid among the last 64. -/
def Aligner.step (a : Aligner) (ok : Bool) : Aligner :=
  if a.lock then
    let last := (ok :: a.last).take 64
    if 16 ≤ (last.filter (!·)).length then { a with lock := false, run := 0, last := [] } else { a with last := last }
  else if !ok then { a with run := 0 }
  else if a.run + 1 = 64 then { a with lock := true, run := 0, last := [] }
  else { a with run := a.run + 1 }

/-- R189: one frame with `e` corrected bytes, more than 4 where it is uncorrectable. Lock after 3 frames in a row with at most 1; lost with 8
uncorrectable among the last 64. -/
def Framer.step (a : Framer) (e : Nat) : Framer :=
  if a.lock then
    let last := (decide (e ≤ 4) :: a.last).take 64
    if 8 ≤ (last.filter (!·)).length then { a with lock := false, run := 0, last := [] } else { a with last := last }
  else if 1 < e then { a with run := 0, pos := (a.pos + 1) % 31 }
  else if a.run + 1 = 3 then { a with lock := true, run := 0, last := [] }
  else { a with run := a.run + 1 }

/-- R189: frames one after the other up to a loss of lock, with those delivered under lock. -/
def Framer.take : Framer → List Nat → Framer × List Nat
  | a, [] => (a, [])
  | a, e :: r =>
    let b := a.step e
    let (c, l) := if a.lock && !b.lock then (b, []) else b.take r
    (c, if a.lock then e :: l else l)

/-- R188: candidate block positions of a lane. -/
def Dev.positions (d : Dev) (k : Nat) : Nat := if d.bit F.LANE_STATUS.MODE k || (unit d.lanes k).shiftRx then 66 else 33

/-- R186: a slip is accepted no sooner than 8 ticks after the last took effect, and takes effect 2 ticks later: the word boundary moves by one UI, and the
aligner counts headers at the next position. -/
def Dev.slip (d : Dev) (k : Nat) : Dev :=
  let t := match (unit d.lanes k).slipTick with | some t => max d.tick (t + 8) | none => d.tick
  let d := ((d.until (t + 2)).laneCnt k 11 1).setB F.LANE_SLIP.DONE true k
  d.lane k (fun l => { l with slipTick := some d.tick, align := { l.align with run := 0, pos := (l.align.pos + 1) % d.positions k } })

/-- R188: the aligner looks for block lock. -/
def Dev.hunting (d : Dev) (k : Nat) : Bool :=
  (d.laneSt k == 2 && d.get F.LANE_STATUS.STEP k == 2) || (d.laneSt k == 5 && (unit d.lanes k).shifting && (unit d.lanes k).shiftRx)

/-- R186, R188: one header under test. After a slip the first that counts ends 8 ticks after it at the earliest. (DESIGN CHOICE: note 66.) -/
def Dev.headerIn (d : Dev) (k : Nat) (h : HeaderTest) : Dev :=
  let held := d.bit F.LANE_STATUS.BLK_LOCK k
  let early := match (unit d.lanes k).slipTick with | some t => decide (h.end_ < t + 8) | none => false
  if !(d.hunting k || held) || (!held && early) then d
  else
    let d := (d.until h.end_).laneCnt k 0 (b2n (!h.valid))
    let d := d.lane k (fun l => { l with align := { l.align with lock := held }.step h.valid })
    let lock := (unit d.lanes k).align.lock
    let d := d.setB F.LANE_STATUS.BLK_LOCK lock k
    if lock then ((if !held && (unit d.lanes k).shiftRx then d.shiftDone k else d).idleSync k)
    else if held then
      let d := (((d.laneCnt k 1 1).setB F.LANE_STATUS.FRM_LOCK false k).lane k (fun l => { l with framer := default })).idleSync k
      if (unit d.lanes k).shifting then d else d.lineLoss k 17
    else if h.valid || d.bit F.LANE_CTRL.MANUAL_ALIGN k then d
    else d.slip k

/-- R186, R188: the headers the aligner has tested, each with the tick at which it ended. -/
def execLaneBlockLock (k : Fin 96) (first : HeaderTest) (rest : List HeaderTest) (s : State) : Host.Outcome State Fault Refusal := onMain s fun d =>
  d.each (first :: rest) (fun d h => d.headerIn k h)

/-- R200, R210: corrected bytes and uncorrectable frames of the running quality window. -/
def Dev.qwinSync (d : Dev) (k : Nat) : Dev :=
  let l := unit d.lanes k
  (d.set F.LANE_QWIN.CORR (min 65535 l.qCorr) k).set F.LANE_QWIN.UNCORR (min 255 l.qUncorr) k

/-- R200: a quality window runs in four-level ACTIVE. -/
def Dev.qwinOn (d : Dev) (k : Nat) : Bool := (d.due (.qwin k)).isSome
/-- R200, R210: what a frame adds to the running window. LANE_QWIN keeps the last counts while no window runs, of which the spec says nothing. (DESIGN
CHOICE: note 67.) -/
def Dev.qwinAdd (d : Dev) (k corr uncorr : Nat) : Dev :=
  if d.qwinOn k then (d.lane k (fun l => { l with qCorr := l.qCorr + corr, qUncorr := l.qUncorr + uncorr })).qwinSync k else d

/-- R200: a quality window of 65,536 frames starts. -/
def Dev.qwinStart (d : Dev) (k : Nat) : Dev :=
  ((d.lane k (fun l => { l with qCorr := 0, qUncorr := 0, degraded := false })).qwinSync k).arm (.qwin k) 4190208

/-- R189, R200, R210: the frames the receiver has decoded under block lock: frame lock won or lost, corrections and uncorrectable frames counted. -/
def execLaneFrameLock (k : Fin 96) (frames : List Nat) (s : State) : Host.Outcome State Fault Refusal := onMain s fun d =>
  if d.bit F.LANE_STATUS.MODE k ∨ !d.bit F.LANE_STATUS.BLK_LOCK k then d
  else
    let held := d.bit F.LANE_STATUS.FRM_LOCK k
    let (a, got) := ({ (unit d.lanes k).framer with lock := held }).take frames
    let fixed := got.filter (fun e => 1 ≤ e && e ≤ 4)
    let lost := (got.filter (fun e => 4 < e)).length
    let d := ((d.laneCnt k 3 fixed.length).laneCnt k 4 fixed.sum).laneCnt k 5 lost
    let d := ((d.qwinAdd k fixed.sum lost).lane k (fun l => { l with framer := a })).setB F.LANE_STATUS.FRM_LOCK a.lock k
    let d := d.idleSync k
    if held && !a.lock then
      let d := d.laneCnt k 2 1
      if (unit d.lanes k).shifting then d else d.lineLoss k 17
    else d

/-- R194: what a lane's transmitter sends. -/
def Dev.laneSends (d : Dev) (k : Nat) : Pattern :=
  match d.laneSt k with
  | 0 | 1 => .dark
  | 2 => if (unit d.lanes k).txdis then .dark else (match d.get F.LANE_STATUS.STEP k with | 0 => .tp1 | 1 => .tp2 | _ => .tp3)
  | 3 => .tp3
  | _ => .blocks

/-- R195 step 6, R197: own locks and 16 consecutive IDLE blocks with RX_LOCKED. -/
def execLaneLockEntry (k : Fin 96) (s : State) : Host.Outcome State Fault Refusal := onMain s fun d =>
  if d.laneSt k = 2 ∧ d.get F.LANE_STATUS.STEP k = 2 ∧ d.ownLocks k ∧ 16 ≤ (unit d.lanes k).idleRun then
    d.forward (.attempt k) (·.laneFail k) fun d =>
      let d := ((d.set F.LANE_STATUS.STATE 3 k).set F.LANE_STATUS.STEP 0 k).setB F.LANE_STATUS.PEER_LOCKED true k
      let d := ((d.disarm (.attempt k)).arm (.lockState k) (msT 1)).lane k (fun l => { l with idleRun := 0, twoLevel := l.twoLevel || d.bit F.LANE_STATUS.MODE k })
      if (unit d.lanes k).lost then d else d.checkPass 17 k
  else d

/-- R195: step 6 not reached by 4,000 µs. -/
def execLaneAttemptTimeout (k : Fin 96) (s : State) : Host.Outcome State Fault Refusal := onMain s fun d => d.fire (.attempt k) (·.laneFail k)

/-- R192: LOCK has lasted 1 ms. -/
def execLaneLockTimeout (k : Fin 96) (s : State) : Host.Outcome State Fault Refusal := onMain s fun d => d.fire (.lockState k) (·.laneFail k)

/-- R195: the dark gap ends. -/
def execLaneRetryGapEnd (k : Fin 96) (s : State) : Host.Outcome State Fault Refusal := onMain s fun d =>
  d.fire (.gap k) fun d => d.attemptStart k (d.get F.LANE_STATUS.ATTEMPT k + 1)

/-! TEST_HOLD and slips by register (R186, R187, R199), which a register write calls -/

/-- R199: TEST_HOLD set or cleared. -/
def Dev.testHold (d : Dev) (k : Nat) (on : Bool) : Dev :=
  let was := d.bit F.LANE_CTRL.TEST_HOLD k
  let d := d.setB F.LANE_CTRL.TEST_HOLD on k
  if was = on then d
  else if on then
    let st := d.laneSt k
    if 3 ≤ st ∨ (st = 2 ∧ d.get F.LANE_STATUS.STEP k = 2) then
      let d := if st = 5 then d.laneRetrain k 17 else d
      if d.laneSt k = 0 then d
      else ((((d.laneStill k).set F.LANE_STATUS.STATE 2 k).set F.LANE_STATUS.STEP 1 k).lane k (fun l => { l with tp1 := true, txdis := false, tx := (LineTx.begin1 (d.bit F.LANE_STATUS.MODE k) (d.tick * 64)).begin2 (d.tick * 64) }))
    else d.disarm (.attempt k)
  else if d.laneSt k = 2 ∧ !d.inGap k then
    let d := d.arm (.attempt k) (usT 4000)
    if d.bit F.LANE_STATUS.SYM_LOCK k then d.tp3Start k else d
  else d

/-- R186: a slip asked for by register is refused sooner than 8 ticks after the last took effect. -/
def Dev.slipOk (d : Dev) (k : Nat) : Bool :=
  d.bit F.LANE_CTRL.MANUAL_ALIGN k && (match (unit d.lanes k).slipTick with | some t => t + 8 ≤ d.tick | none => true)

/-! EXCHANGE (R204 to R209, R237 to R239) -/

/-- R192, R239 step 1: entry to EXCHANGE after 256 consecutive IDLE blocks with RX_LOCKED; CAP_DN is sent. (DESIGN CHOICE: note 65.) -/
def execLaneExchangeEntry (k : Fin 96) (s : State) : Host.Outcome State Fault Refusal := onMain s fun d =>
  if d.laneSt k = 3 ∧ d.ownLocks k ∧ 256 ≤ (unit d.lanes k).idleRun then
    d.forward (.lockState k) (·.laneFail k) fun d =>
      (((d.set F.LANE_STATUS.STATE 4 k).disarm (.lockState k)).arm (.exchange k) (msT 5)).capDnSend k (d.tick * 64) 0 1 |>.lane k (fun l => { l with capAt := some d.tick })
  else d

/-- R204, R206: a MARK leaves `n` blocks from now; its ECHO is due 20 µs later. -/
def Dev.markSend (d : Dev) (k id n : Nat) : Dev := (d.laneSend ((d.tick + d.blockTicks k n) * 64) (.mark k id n)).arm (.echo k id) (d.blockTicks k n + usT 20)

/-- R204: a run of 16 MARKs starts, one in every 8 frames, which are 248 blocks. -/
def Dev.runStart (d : Dev) (k : Nat) : Dev :=
  let d := (d.inc F.LANE_RTT.RUNS 1 k).lane k (fun l => { l with waiting := List.range 16, run := [] })
  d.each (List.range 16) (fun d i => d.markSend k i (248 * i))

/-- R238: the record matches the Catalogue and every field is in range. (DESIGN CHOICE: note 64.) -/
def Dev.capMatches (d : Dev) (k : Nat) (c : CapUp) : Bool :=
  let x := d.ldec k
  c.protoMajor == 1 && c.cellClass == x.cellClass && c.string == x.string && c.position == x.position && c.holdBeats == x.holdBeats
    && (match x.serial with | some n => c.serial == n | none => true)
    && c.cellClass ≤ 2 && 4 ≤ c.dnSlots && c.dnSlots ≤ 64 && 1 ≤ c.prepTicks && c.prepTicks ≤ 64 && c.bypassKind ≤ 2
    && (List.range 5).all (fun j => c.fs.getD j 0 != 0)

/-- R216: the full beat of a message: the one nearest to the present beat with the same low 32 bits. -/
def Dev.beatOf (d : Dev) (b : Nat) : Int := (d.beat : Int) + toS 32 (b + 2 ^ 32 - d.beat % 2 ^ 32)

/-- R216: a beat of transmission more than 4 beats from the receiver's own: the message is invalid (R214). -/
def Dev.unlessStale (d : Dev) (b bad : Nat) : Nat := if bad = 0 ∧ 4 < (d.beatOf b - (d.beat : Int)).natAbs then 2 else bad

/-- R214, R245: a message that is discarded, in its counter; the text of the others goes on. -/
def Dev.msgIn (d : Dev) (k bad : Nat) (g : Dev → Dev) : Dev :=
  if bad = 0 then g d else if bad = 1 then d.inc F.LANE_MCNT.COUNT 1 k 0 else if bad = 2 then d.inc F.LANE_MCNT.COUNT 1 k 1 else d

/-- R238, R239 steps 3 and 4: the capability record is stored and check 18 made. (DESIGN CHOICE: note 64.) -/
def execCapUp (k : Fin 96) (bad : Fin 4) (c : CapUp) (s : State) : Host.Outcome State Fault Refusal := onMain s fun d =>
  d.msgIn k (d.unlessStale c.beat bad) fun d =>
  if d.laneSt k = 4 ∧ d.ownLocks k ∧ !(unit d.lanes k).capOk then
    let d := (d.capDnDue k).lane k (fun l => { l with capAt := none })
    let d := ((d.set F.LANE_SERIAL.SERIAL c.serial k).set F.LANE_CAP.PREP_TICKS c.prepTicks k).set F.LANE_CAP.CELL_CLASS c.cellClass k
    let d := ((d.set F.LANE_CAP.BYPASS_KIND c.bypassKind k).setB F.LANE_CAP.AUTO_BYPASS c.autoBypass k).set F.LANE_CAP.HOLD_BEATS c.holdBeats k
    let d := (d.set F.LANE_CAP.PROTO_MINOR c.protoMinor k).set F.LANE_CREDIT.DN_SLOTS c.dnSlots k
    let d := d.lane k (fun l => { l with deadtime := c.deadtime, minPulse := c.minPulse, dabDeadtime := c.dabDeadtime, sampleDelay := c.sampleDelay, fs := c.fs, prbsErr := c.prbsErr })
    if d.capMatches k c then (((d.checkPass 18 k).lane k (fun l => { l with capOk := true })).set F.LANE_RTT.RUNS 0 k).runStart k
    else d.laneHold k 18
  else d

/-- R207: the window of a fibre length class, in ticks. -/
def rttWindow (c : Nat) : Nat × Nat := [(1, 15), (10, 35), (29, 106), (97, 312)].getD c (97, 312)
def Dev.rttInside (d : Dev) (k : Nat) (r : Int) : Bool :=
  let w := rttWindow (d.get F.LANE_CTRL.FIBRE_CLASS k)
  decide (((w.1 * 64 : Nat) : Int) ≤ r) && decide (r ≤ ((w.2 * 64 : Nat) : Int))

/-- R234: a TSYNC leaves with its index, INIT, and the instant (sub-ticks) at which its first header UI leaves: some time after now, behind the blocks
that go before it. (DESIGN CHOICE: note 68.) -/
def Dev.tsyncSend (d : Dev) (k : Nat) (init : Bool) : Dev :=
  let d := d.lane k (fun l => { l with tsyncIdx := (l.tsyncIdx + 1) % 65536, tsyncInit := init })
  (d.laneSend (d.tick * 64) (.tsync k (unit d.lanes k).tsyncIdx init (d.get F.LANE_LAT.ONE_WAY k) (d.tick * 64 + Config.freeNat d.freeCtr))).free

/-- R206, R207, R316, R239 step 5: a run is accepted with its result. A turnaround above the elapsed time gives a negative sample, which the spec does not
speak of: it fails check 19, and RTT and ONE_WAY hold it modulo 2^20 and 2^19. (DESIGN CHOICE: note 62.) -/
def Dev.runResult (d : Dev) (k : Nat) (r : Int) (spread : Nat) : Dev :=
  let d := ((d.setS F.LANE_RTT.RTT r k).set F.LANE_RTT.SPREAD spread k).setB F.LANE_RTT.VALID true k
  let d := d.setS F.LANE_LAT.ONE_WAY (r / 2) k
  if !d.rttInside k r then d.laneHold k 19
  else
    let d := (((d.checkPass 19 k).lane k (fun l => { l with rttOk := true })).budgetSync k).esapSync
    if d.energy && !d.laneFits k (d.get F.LANE_STATUS.MODE k) then d.laneHold k 20 else d.tsyncSend k true

/-- R209: the repeated sample of an ACTIVE lane. -/
def Dev.rttAgain (d : Dev) (k : Nat) (r : Int) : Dev :=
  let diff := (r - (d.get F.LANE_RTT.RTT k : Int)).natAbs
  if diff ≤ 4 then d
  else
    let d := d.raise 35 1 k (leBytes 4 (ofS 32 r))
    if d.rttInside k r then d else (d.laneLoss k).laneHold k 19

/-- R205, R206: an ECHO within 20 µs gives a sample; sixteen of them complete a run. -/
def execEcho (k : Fin 96) (e : Echo) (s : State) : Host.Outcome State Fault Refusal := onMain s fun d =>
  let l := unit d.lanes k
  -- R210: the last turnaround reported, in time or not
  let d := if 4 ≤ d.laneSt k ∧ d.ownLocks k then d.set F.LANE_DNODE.TURNAROUND e.turnaround k else d
  if d.ownLocks k ∧ l.waiting.contains e.id ∧ e.elapsed < usT 20 * 64 ∧ (d.laneSt k = 4 ∨ d.laneSt k = 5) then
    let d := d.disarm (.echo k e.id)
    let r : Int := (e.elapsed : Int) - (e.turnaround : Int)
    let d := d.lane k (fun l => { l with waiting := l.waiting.filter (· != e.id), run := r :: l.run })
    if d.laneSt k = 5 then (d.lane k (fun l => { l with run := [] })).rttAgain k r
    else
      let run := (unit d.lanes k).run.insertionSort (· ≤ ·)
      if run.length < 16 then d
      else
        let spread := (run.getD 15 0 - run.getD 0 0).toNat
        if spread ≤ 2 then d.runResult k ((run.getD 7 0 + run.getD 8 0) / 2) spread
        else if d.get F.LANE_RTT.RUNS k < 4 then d.runStart k else d.laneHold k 19
  else d

/-- R206: a MARK without its ECHO within 20 µs is counted and sent again. -/
def execEchoTimeout (k : Fin 96) (id : Fin 16) (s : State) : Host.Outcome State Fault Refusal := onMain s fun d =>
  d.fire (.echo k id) fun d => if (unit d.lanes k).waiting.contains id.val then (d.laneCnt k 13 1).markSend k id 0 else d

/-- R245: what LANE_CREDIT shows. -/
def Dev.creditSync (d : Dev) (k : Nat) : Dev :=
  let l := unit d.lanes k
  (d.set F.LANE_CREDIT.DN_AVAIL (d.get F.LANE_CREDIT.DN_SLOTS k - (l.sent + 65536 - l.dnFreed) % 65536) k).set F.LANE_CREDIT.UP_OUT ((l.upRcvd + 65536 - l.upFreed) % 65536) k

/-- R102, R228, R239 step 6: entry to ACTIVE: credits start, the lane's checks pass. -/
def Dev.laneActive (d : Dev) (k : Nat) : Dev :=
  let d := (d.set F.LANE_STATUS.STATE 5 k).disarm (.exchange k)
  let b := d.beat
  let d := d.lane k (fun l => { l with lost := false, since := b, sent := 0, dnRcvd := 0, dnFreed := 0, upNext := 0, upRcvd := 0, upFreed := 0, creditBeat := b, auditBad := false, base := none, prevCause := none, force := [], capAgain := false, capReq := none, capAcked := false })
  let d := ((d.laneSend (d.tick * 64) (.credit k 0 0)).creditSync k).arm (.rtt k) (4096 * 1024)
  let d := if d.bit F.LANE_STATUS.MODE k then d else d.qwinStart k
  let d := (d.each [16, 17, 18, 19] (fun d c => d.checkPass c k)).groupSync (k / 8)
  d.cellBack k

/-- R236, R239: a TSYNC_REPORT completes EXCHANGE, or reports the node's time error in ACTIVE. (DESIGN CHOICE: note 68.) -/
def execTsyncReport (k : Fin 96) (h : UpHead) (index : Nat) (e : Int) (s : State) : Host.Outcome State Fault Refusal := onMain s fun d =>
  d.msgIn k (d.unlessStale h.beat h.bad) fun d =>
  let l := unit d.lanes k
  if index ≠ l.tsyncIdx ∨ !d.ownLocks k then d
  else if d.laneSt k = 4 ∧ l.rttOk ∧ l.tsyncInit then d.forward (.exchange k) (·.exchangeFail k) fun d => (d.setS F.LANE_TSYNC.ERR e k).laneActive k
  else if d.laneSt k = 5 then
    let d := d.setS F.LANE_TSYNC.ERR e k
    if l.tsyncInit then d
    else
      let d := if 4 < e.natAbs then d.raise 37 1 k (leBytes 4 (ofS 32 e)) else d
      if 64 < e.natAbs then d.linkFault k else d
  else d

/-- R192: EXCHANGE has lasted 5 ms. -/
def execLaneExchangeTimeout (k : Fin 96) (s : State) : Host.Outcome State Fault Refusal := onMain s fun d => d.fire (.exchange k) (·.exchangeFail k)

/-- R209: one MARK every 4,096 beats of ACTIVE. The spec gives it no identifier: it is 0. (DESIGN CHOICE: note 125.) -/
def execLaneRttRepeat (k : Fin 96) (s : State) : Host.Outcome State Fault Refusal := onMain s fun d =>
  d.fire (.rtt k) fun d =>
    ((d.arm (.rtt k) (4096 * 1024)).lane k (fun l => { l with waiting := [0], run := [] })).markSend k 0 0

/-! Quality windows and shifts (R200 to R203) -/

/-- R201, R202, R203, R316: the direction is degraded: a shift where it is allowed and fits, with one SHIFT per frame and the transmitter in two-level
mode after the eighth; otherwise one event per window. A MARK that R203 discards is neither counted as missed nor sent again: the spec says only that it is
discarded. (DESIGN CHOICE: notes 62, 67.) -/
def Dev.degrade (d : Dev) (k : Nat) : Dev :=
  let l := unit d.lanes k
  if d.laneSt k ≠ 5 ∨ d.bit F.LANE_STATUS.MODE k ∨ l.shifting then d
  else if d.bit F.LANE_CTRL.FB_ALLOWED k && d.laneFits k 1 then
    let f := l.tx.frameFrom (d.tick * 64)
    let d := ((d.laneCnt k 10 1).set F.LANE_STATUS.STEP 3 k).arm (.shift k) ((f + 63) / 64 + 2048 - d.tick)
    let d := (d.each (List.range 16) (fun d i => d.disarm (.echo k i))).disarm (.qwin k)
    let d := d.lane k (fun l => { l with shifting := true, shiftRx := false, twoLevel := true, waiting := [], run := []
                                         tx := { l.tx with events := .two (f + 8 * 4092) :: l.tx.events } })
    (d.raise 34 1 k).each (List.range 8) (fun d i => d.laneSend (f + 4092 * i) (.shift k (7 - i) (f + 4092 * i)))
  else if l.degraded then d
  else (d.raise 33 1 k).lane k (fun l => { l with degraded := true })

/-- R200, R201, R210: the line layer's counts since its last report; a quality window ends. -/
def execLaneQualityWindowEnd (k : Fin 96) (c : FrameCounts) (s : State) : Host.Outcome State Fault Refusal := onMain s fun d =>
  let d := d.each [(3, c.corrFrames), (4, c.corrBytes), (5, c.uncorr), (0, c.invalid), (6, c.stuffing), (12, c.unknown)] (fun d x => d.laneCnt k x.1 x.2)
  (d.qwinAdd k c.corrBytes c.uncorr).fire (.qwin k) fun d =>
    let l := unit d.lanes k
    let d := d.arm (.qwin k) 4190208
    let d := if d.get F.LANE_FB.CORR_LIM k < l.qCorr ∨ d.get F.LANE_FB.UNCORR_LIM k ≤ l.qUncorr then d.degrade k else d
    if d.qwinOn k then d.qwinStart k else d

/-- R192, R195, R201: RX_LOCKED and FB_REQ of the IDLE blocks received. -/
def execIdle (k : Fin 96) (rxLocked : Bool) (x : IdleRun) (s : State) : Host.Outcome State Fault Refusal := onMain s fun d =>
  if d.ownLocks k ∧ x.count ≠ 0 then
    let d := (d.setB F.LANE_STATUS.PEER_LOCKED rxLocked k).lane k (fun l => { l with idleRun := if rxLocked then l.idleRun + x.count else 0 })
    if x.fbReq then d.degrade k else d
  else d

/-- R202 step 3, R203: an upstream SHIFT block; at COUNT 0 the receiver switches and hunts block lock. -/
def execShift (k : Fin 96) (count : Nat) (s : State) : Host.Outcome State Fault Refusal := onMain s fun d =>
  if d.laneHears k ∧ (unit d.lanes k).shifting ∧ !(unit d.lanes k).shiftRx ∧ count = 0 then
    ((d.setB F.LANE_STATUS.BLK_LOCK false k).setB F.LANE_STATUS.FRM_LOCK false k).lane k (fun l => { l with shiftRx := true, align := default, framer := default }) |>.idleSync k
  else d

/-- R202: a shift not complete within 2 beats. -/
def execShiftTimeout (k : Fin 96) (s : State) : Host.Outcome State Fault Refusal := onMain s fun d =>
  d.fire (.shift k) fun d => if (unit d.lanes k).shifting then d.laneRetrain k 17 else d

end Sys2Proof.Machine
end

