-- ==== Sys2Proof/Machine/Messages.lean ====
section
/-! DEFINITION. The Brodrel Link's message layer (R211 to R245): upstream SAMPLE, STATUS, CAPTURE_PAGE and CREDIT, sequence numbers and credits,
the repeats of BYPASS and CAPTURE_REQ, and the audit of a lane at a beat boundary. -/

namespace Sys2Proof.Machine

/-- R228, R231: an upstream credited message with sequence number `q` arrives: the lost ones count as received and freed. (DESIGN CHOICE: note 72.) -/
def Dev.seqTake (d : Dev) (k q : Nat) : Dev :=
  let l := unit d.lanes k
  let gap := (q + 65536 - l.upNext) % 65536
  let bad := 64 ≤ gap || 64 ≤ (q + 65536 - l.upFreed) % 65536
  let d := d.lane k (fun l => { l with upRcvd := (l.upRcvd + gap + 1) % 65536, upFreed := (l.upFreed + gap) % 65536, upNext := (q + 1) % 65536
                                       auditBad := l.auditBad || bad })
  (d.inc F.LANE_MCNT.COUNT gap k 2).creditSync k

/-- R229: `n` upstream slots are freed. (DESIGN CHOICE: note 72.) -/
def Dev.slotFree (d : Dev) (k n : Nat) : Dev := (d.lane k (fun l => { l with upFreed := (l.upFreed + n) % 65536 })).creditSync k

/-- R228, R229: a downstream credited message takes the next SEQ, or none where the credit does not allow it. -/
def Dev.credSend (d : Dev) (k : Nat) : Dev × Option Nat :=
  let l := unit d.lanes k
  if (l.sent + 65536 - l.dnFreed) % 65536 < d.get F.LANE_CREDIT.DN_SLOTS k then
    ((d.lane k (fun l => { l with sent := (l.sent + 1) % 65536 })).creditSync k, some l.sent)
  else (d, none)

/-- R249: the array has taken the burst of a beat. -/
def Dev.taken (d : Dev) (b : Int) : Bool := match d.arr.latched with | some n => decide (b < (n : Int)) | none => false

/-- R214, R243, R245: what every SAMPLE and STATUS shares: discarded, late, or used. -/
def Dev.burstIn (d : Dev) (k bad seq b : Nat) (ok : Bool) (g : Dev → Nat → Dev) : Dev :=
  if !d.laneHears k then d else
  let n := d.beatOf b
  d.msgIn k (if bad = 0 ∧ !(ok && decide (n ≤ (d.beat : Int)) && decide (0 ≤ n)) then 2 else bad) fun d =>
    let d := d.seqTake k seq
    if d.taken n then (d.inc F.LANE_MCNT.COUNT 1 k 3).slotFree k 1 else g d n.toNat

/-- R222: a SAMPLE part is held for its burst; a part that came twice frees its slot. -/
def execSample (k : Fin 96) (bad : Fin 4) (m : SampleMsg) (s : State) : Host.Outcome State Fault Refusal := onMain s fun d =>
  d.burstIn k bad m.seq m.beat (m.part < 16) fun d b =>
    if (unit d.lanes k).parts.any (fun p => p.1 == b && p.2.1 == m.part) then d.slotFree k 1
    else d.lane k (fun l => { l with parts := (b, m.part, m.codes) :: l.parts })

/-! STATUS -/

/-- R225: the fields of word 0x08, and that no reserved or invalid value is set. -/
def causeOf (w : Nat) : Nat := bitsAt w 8 8
def flagsOf (w : Nat) : Nat := bitsAt w 24 8
def statusOk (w : Nat) : Bool := bitsAt w 0 2 != 3 && bitsAt w 2 6 == 0 && bitsAt w 14 2 == 0 && bitsAt w 30 2 == 0

/-- R243, R245: the node's three counts, against the reference of this stay in ACTIVE. (DESIGN CHOICE: note 69.) -/
def Dev.nodeCounts (d : Dev) (k late disc uns : Nat) : Dev :=
  let l := unit d.lanes k
  let d := d.lane k (fun l => { l with base := some (late, disc, uns) })
  match l.base with
  | none => d
  | some (a, b, c) =>
    let m := fun (x y : Nat) => (y + 65536 - x) % 65536
    let d := ((d.inc F.LANE_MCNT.COUNT (m a late) k 4).inc F.LANE_MCNT.COUNT (m b disc) k 5).inc F.LANE_MCNT.COUNT (m c uns) k 6
    if m a late + m b disc + m c uns = 0 then d else d.raise 36 1 k

/-- R227: CAPTURE_REQ READ of a range of pages; without credit it counts as sent and lost. (DESIGN CHOICE: note 69.) -/
def Dev.captureRead (d : Dev) (k first last : Nat) : Dev :=
  let (d, q) := d.credSend k
  let d := match q with | some q => d.laneSend (d.tick * 64) (.captureReq k q 1 first last) | none => d
  (d.lane k (fun l => { l with capReq := q, capAcked := false })).arm (.capRep k) 4096

/-- R241: block causes that make a cell fault: HOLD_EXPIRED, LOCAL_TRIP and TIME_FAULT, and SAFE_LOOP while the Detent drives it. -/
def Dev.faultCauses (d : Dev) : List Nat := [1, 4, 5] ++ (if d.bit F.SAF_STATE.LOOP_ON then [3] else [])

/-- R226: a reported LAST_CTRL_SEQ has reached SEQ `q`: it is one of those sent since, `q` among them; any other is of an earlier message. -/
def Lane.acked (l : Lane) (q last : Nat) : Bool := decide ((last + 65536 - q) % 65536 < (l.sent + 65536 - q) % 65536)

/-- R225, R226, R227, R241: what an intact STATUS in time does. (DESIGN CHOICE: note 69.) -/
def Dev.statusTake (d : Dev) (k : Nat) (m : StatusMsg) : Dev :=
  let l := unit d.lanes k
  let cause := causeOf m.w08
  let tripNew := cause.testBit 4 && !d.nodeBit k 12
  let d := ((d.set F.LANE_NODE.STATE m.w08 k).set F.LANE_NODE_BEAT.APPLIED_BEAT m.applied k).set F.LANE_NODE_TRIP.TRIP_MASK m.tripMask k
  let d := d.set F.LANE_NODE_TRIP.LAST_CTRL_SEQ m.lastCtrlSeq k
  let d := d.nodeCounts k m.lateCnt m.discardCnt m.unsentCnt
  let d := match l.byp with
    | some b => (match b.seq with
      | some q => if b.sent ∧ l.acked q m.lastCtrlSeq then (d.lane k (fun l => { l with byp := none })).disarm (.bypRep k) else d
      | none => d)
    | none => d
  let d := match l.capReq with
    | some q => if l.acked q m.lastCtrlSeq then d.lane k (fun l => { l with capAcked := true }) else d
    | none => d
  let d := if tripNew then (d.lane k (fun l => { l with capWait := List.range 16, capAgain := false })).captureRead k 0 15 else d
  let d := d.lane k (fun l => { l with prevCause := some cause })
  let now := d.faultCauses.filter (fun i => cause.testBit i)
  let d := if now.isEmpty then d.condOff 39 k else d
  let d := match l.prevCause with
    | some old =>
      if d.energy && now.any (fun i => !old.testBit i) then ((d.condOn 39 k).raise 39 2 k [cause]).cellFault k else d
    | none => d
  d.cellStatus k cause (flagsOf m.w08)

/-- R225, R243: a STATUS; one that came twice for a beat frees its slot. -/
def execStatus (k : Fin 96) (bad : Fin 4) (m : StatusMsg) (s : State) : Host.Outcome State Fault Refusal := onMain s fun d =>
  d.burstIn k bad m.seq m.beat (statusOk m.w08) fun d b =>
    let d := if (unit d.lanes k).status.isSome then d.slotFree k 1 else d
    (d.lane k (fun l => { l with status := some { m with beat := b } })).statusTake k m

/-- R227, R229: a capture page is filed and its slot freed. -/
def execCapturePage (k : Fin 96) (bad : Fin 4) (m : PageMsg) (s : State) : Host.Outcome State Fault Refusal := onMain s fun d =>
  if !d.laneHears k then d else
  d.msgIn k (d.unlessStale m.beat (if bad.val = 0 ∧ 15 < m.page then 2 else bad)) fun d =>
    let d := ((d.seqTake k m.seq).slotFree k 1).lane k (fun l => { l with capAcked := true })
    if (unit d.lanes k).capWait.contains m.page then
      let d := d.lane k (fun l => { l with capWait := l.capWait.filter (· != m.page) })
      let d := d.arcMark 0x12 m.page k 0 (m.data.map Int.ofNat) 48
      if (unit d.lanes k).capWait.isEmpty then d.disarm (.capRep k) else d
    else d

/-- R230, R231: an upstream CREDIT. -/
def execCredit (k : Fin 96) (h : UpHead) (rcvd freed : Nat) (s : State) : Host.Outcome State Fault Refusal := onMain s fun d =>
  if !d.laneHears k then d else
  d.msgIn k (d.unlessStale h.beat h.bad) fun d =>
    let l := unit d.lanes k
    let m := fun (x y : Nat) => (y + 65536 - x) % 65536
    let lim := d.get F.LANE_CREDIT.DN_SLOTS k
    let jump := lim < m l.dnRcvd (rcvd % 65536) || lim < m l.dnFreed (freed % 65536)
    (d.lane k (fun l => { l with dnRcvd := rcvd % 65536, dnFreed := freed % 65536, creditBeat := d.beat, auditBad := l.auditBad || jump })).creditSync k

/-- R226: a BYPASS not acknowledged 4 beats after its apply instant. (DESIGN CHOICE: note 70.) -/
def execBypassRepeat (k : Fin 96) (s : State) : Host.Outcome State Fault Refusal := onMain s fun d =>
  d.fire (.bypRep k) fun d => match (unit d.lanes k).byp with
    | none => d
    | some b =>
      if b.reps < 3 then
        let n := d.govern
        (d.inc F.LANE_MCNT.COUNT 1 k 9).lane k (fun l => { l with byp := some ⟨b.action, n, n + 3, false, none, b.reps + 1⟩ })
      else ((d.lane k (fun l => { l with byp := none })).raise 38 2 k [b.action]).cellFault k

/-- R243: 4 beats after a CAPTURE_REQ that no STATUS and no page shows as acted on, it is sent again, as often as it is lost; after one that was acted
on, the pages still missing are requested once more. The spec gives no number for the first. (DESIGN CHOICE: note 125.) -/
def Dev.captureAgain (d : Dev) (k : Nat) : Dev :=
  let l := unit d.lanes k
  let w := l.capWait
  if w.isEmpty ∨ (l.capAcked ∧ l.capAgain) then d
  else ((d.inc F.LANE_MCNT.COUNT 1 k 9).lane k (fun l => { l with capAgain := l.capAgain || l.capAcked })).captureRead k (w.foldl min 15) (w.foldl max 0)
def execCaptureRepeat (k : Fin 96) (s : State) : Host.Outcome State Fault Refusal := onMain s fun d => d.fire (.capRep k) (·.captureAgain k)

/-! The beat boundary (R215, R230, R231) -/

/-- R231: the audit of an ACTIVE lane fails. -/
def Dev.auditFails (d : Dev) (k : Nat) : Bool :=
  let l := unit d.lanes k
  let m := fun (x y : Nat) => (x + 65536 - y) % 65536
  let lim := d.get F.LANE_CREDIT.DN_SLOTS k
  l.auditBad || l.creditBeat + 4 < d.beat || lim < m l.sent l.dnRcvd || lim < m l.dnRcvd l.dnFreed || lim < m l.sent l.dnFreed || 64 < m l.upRcvd l.upFreed

/-- R215, R217, R230, R231, R234, R239: a lane at a beat boundary: the missed CREDIT counted, the audit, then in the order of R217 CREDIT, a CAPTURE_REQ
that is due, TSYNC every 256 beats, and in EXCHANGE the CAP_DN of the beat now past, one in every 64 blocks. (DESIGN CHOICE: note 68.) -/
def Dev.laneBeat (d : Dev) (k : Nat) : Dev :=
  let l := unit d.lanes k
  if d.laneUp k then
    let d := if l.creditBeat + 1 < d.beat then d.inc F.LANE_MCNT.COUNT 1 k 7 else d
    if d.auditFails k then d.linkFault k
    else
      let d := d.laneSend (d.tick * 64) (.credit k l.upRcvd l.upFreed)
      let d := match d.due (.capRep k) with | some x => if x ≤ d.tick then (d.disarm (.capRep k)).captureAgain k else d | none => d
      if d.beat % 256 = 0 then d.tsyncSend k false else d
  else if d.laneSt k = 4 then
    let d := if l.rttOk ∧ d.beat % 256 = 0 then d.tsyncSend k true else d
    d.capDnDue k
  else d

end Sys2Proof.Machine
end

