-- ==== Sys2Proof/Machine/Ledger.lean ====
section
/-! DEFINITION. What a burst says of a cell: the windows its node reports in force and the switched states (R219, R220, R252, R253), the treatment
of missing parts (R250), the estimates (R251), the postings with their residual and capacitance (R273 to R275) and the closure (R276). -/

namespace Sys2Proof.Machine

/-! Commands as sent (R218) -/

/-- R218: fields of a CELL_CMD's words 0x08 to 0x1C. -/
def cmdW (ws : List Nat) (i : Nat) : Nat := ws.getD i 0
def cmdPhase (ws : List Nat) : Nat := bitsAt (cmdW ws 0) 0 10
def cmdMode (ws : List Nat) : Nat := bitsAt (cmdW ws 0) 10 3
def cmdDab (ws : List Nat) : Bool := (cmdW ws 0).testBit 28
def cmdNeg (ws : List Nat) : Bool := (cmdW ws 0).testBit 29
def cmdNext (ws : List Nat) : Nat := bitsAt (cmdW ws 3) 0 24
def cmdHalf (ws : List Nat) : Nat := bitsAt (cmdW ws 4) 0 20
def cmdFlux (ws : List Nat) : Int := toS 12 (bitsAt (cmdW ws 4) 20 12)
def cmdShift (ws : List Nat) : Int := toS 20 (bitsAt (cmdW ws 5) 0 20)

/-- R217: the apply instant of a command for beat `b`, in sub-ticks. -/
def cmdAt (b : Nat) (ws : List Nat) : Nat := (b * 1024 + cmdPhase ws) * 64

/-- R218: the INIT state and the edges of a leg (0 X, 1 Y), relative to the apply instant. -/
def cmdInit (ws : List Nat) (leg : Nat) : Bool := (cmdW ws 0).testBit (16 + 4 * leg)
def cmdEdges (ws : List Nat) (leg : Nat) : List Nat :=
  ([bitsAt (cmdW ws (1 + leg)) 0 16, bitsAt (cmdW ws (1 + leg)) 16 16]).take (bitsAt (cmdW ws 0) (17 + 4 * leg) 2)

/-! Switched states (R252, R253) -/

/-- What sets a state: a level, the diodes, or 0 by rule. -/
inductive Sw | lev (v : Int) | diode | zero
  deriving DecidableEq, Repr, Inhabited

/-- R252: a window in force: its command, the instant it opens, and whether the node is blocked or its bypass switch closed. -/
structure Win where
  words : Option (Nat × List Nat)
  start : Int
  held : Nat
  blocked : Bool
  closed : Bool
  deriving DecidableEq, Repr, Inhabited

/-- R252: the command of a reported window among those kept. -/
def Dev.cmdKept (d : Dev) (k b : Nat) : Option (Nat × List Nat) := (unit d.lanes k).cmds.find? (fun x => x.1 == b)

/-- R240, R252: a reported window; a repeated command opens its window at the apply phase of a later beat. A window without a command kept stands
from the start of the burst. (DESIGN CHOICE: note 74.) -/
def Dev.winOf (d : Dev) (k : Nat) (from_ : Int) (f : Force) : Win :=
  match d.cmdKept k f.beat with
  | some c => ⟨some c, (cmdAt c.1 c.2 : Int) + (f.held * 65536 : Nat), f.held, f.blocked || cmdMode c.2 == 1, f.closed⟩
  | none => ⟨none, from_, f.held, true, f.closed⟩

/-- R252: the window that a STATUS reports. (DESIGN CHOICE: note 74.) -/
def Dev.forceOf (d : Dev) (m : StatusMsg) : Force :=
  ⟨(d.beatOf m.applied).toNat, bitsAt m.w08 16 8, bitsAt m.w08 0 2 == 0 || causeOf m.w08 != 0, (flagsOf m.w08).testBit 1⟩

/-- R252: a node that runs or holds names a command that is kept. (DESIGN CHOICE: note 74.) -/
def Dev.winKnown (d : Dev) (k : Nat) (m : StatusMsg) : Bool := (d.forceOf m).blocked || (d.cmdKept k (d.forceOf m).beat).isSome

/-- Windows in force over [a, z), oldest first, as (from, to, window), from the reported ones, oldest first. -/
def spans (a z : Int) : List Win → List (Int × Int × Win)
  | [] => []
  | w :: ws =>
    let e := match ws with | v :: _ => min z (max a v.start) | [] => z
    (if a < e then [(a, e, w)] else []) ++ spans (max a e) z ws

/-- R219, R252: the states of a leg over one span. -/
def legSpan (leg : Nat) (x : Int × Int × Win) : List (Int × Sw) :=
  let (a, z, w) := x
  if w.closed then [(a, .zero)]
  else match (if w.blocked then none else w.words) with
    | none => [(a, .diode)]
    | some c =>
      if cmdMode c.2 ≠ 0 then [(a, .zero)] else
      let es := (cmdEdges c.2 leg).map (fun (e : Nat) => w.start + (e : Int))
      let lev := fun (t : Int) => Sw.lev (if cmdInit c.2 leg != ((es.filter (fun (e : Int) => decide (e ≤ t))).length % 2 == 1) then 1 else 0)
      (a, lev a) :: ((es.filter (fun (e : Int) => decide (a < e ∧ e < z))).map (fun e => (e, lev e)))

/-- R220: a bridge schedule: an instant, the polarity from there, the half-period, the trim and the phase shift. -/
structure Bridge where
  at_ : Int
  neg : Bool
  half : Nat
  flux : Int
  shift : Int
  deriving DecidableEq, Repr, Inhabited

/-- R220: the length of the half-period that starts at the schedule's instant. -/
def Bridge.first (b : Bridge) : Int := if b.neg then (b.half : Int) - b.flux else (b.half : Int) + b.flux

/-- R220: the polarity at an instant (negative), the instant the running half-period started and the one at or after it that a half-period starts. -/
def Bridge.negAt (b : Bridge) (t : Int) : Bool := if b.half = 0 then b.neg else if (t - b.at_) % (2 * (b.half : Int)) < b.first then b.neg else !b.neg
def Bridge.nextAt (b : Bridge) (t : Int) : Int × Bool :=
  if b.half = 0 then (t, b.neg) else
  let p := 2 * (b.half : Int)
  let r := (t - b.at_) % p
  if r = 0 then (t, b.neg) else if r ≤ b.first then (t - r + b.first, !b.neg) else (t - r + p, b.neg)

/-- R220: the schedule of a command. -/
def bridgeOf (c : Nat × List Nat) : Bridge :=
  ⟨(cmdAt c.1 c.2 : Int) + (cmdNext c.2 : Nat), cmdNeg c.2, cmdHalf c.2, cmdFlux c.2, cmdShift c.2⟩

/-- R220, R252: when the bridges follow which schedule: from each window's DAB_NEXT, off from the window that turns them off. `sec`: the secondary,
which follows by PHASE_SHIFT. -/
def bridgeEvents (sec : Bool) : List Win → List (Int × Option Bridge) → List (Int × Option Bridge)
  | [], acc => acc
  | w :: ws, acc =>
    let off := bridgeEvents sec ws (acc.filter (fun x => decide (x.1 < w.start)) ++ [(w.start, none)])
    match (if w.blocked then none else w.words) with
    | some c =>
      if cmdDab c.2 && cmdMode c.2 != 3 then
        let b := bridgeOf c
        let b := if sec then { b with at_ := b.at_ + b.shift } else b
        bridgeEvents sec ws (acc.filter (fun x => decide (x.1 < b.at_)) ++ [(b.at_, some b)])
      else off
    | none => off

/-- R220: the states of a bridge from `a` to `z` under one schedule. -/
def bridgeSpan (b : Option Bridge) (a z : Int) : List (Int × Sw) :=
  match b with
  | none => [(a, .diode)]
  | some b =>
    let lev := fun (t : Int) => Sw.lev (if b.negAt t then -1 else 1)
    if b.half = 0 then [(a, lev a)] else
    let p := 2 * (b.half : Int)
    let base := a - (a - b.at_) % p
    let ts := (List.range ((z - a).toNat / (2 * b.half) + 2)).flatMap (fun (j : Nat) => [base + (j : Int) * p, base + (j : Int) * p + b.first])
    (a, lev a) :: ((ts.filter (fun t => decide (a < t ∧ t < z))).map (fun t => (t, lev t)))

/-- R252: the states of a bridge over [a, z). Before the first schedule known, that schedule is taken backward. -/
def bridgeStates (a z : Int) : List (Int × Option Bridge) → Bool → List (Int × Sw)
  | [], _ => [(a, .diode)]
  | (t, b) :: r, fst =>
    let lo := if fst then a else max a t
    let hi := match r with | (u, _) :: _ => min z u | [] => z
    (if lo < hi then bridgeSpan b lo hi else []) ++ (match r with | [] => [] | _ => bridgeStates a z r false)

/-- Points that change nothing dropped. -/
def dedupSw : Option Sw → List (Int × Sw) → List (Int × Sw)
  | _, [] => []
  | prev, (t, v) :: r => if prev = some v then dedupSw prev r else (t, v) :: dedupSw (some v) r

/-- R252: after each transition between two levels, or out of the zero state where both lower switches are on, the diodes set the state for the dead
time. (DESIGN CHOICE: note 75.) -/
def withDead (dt : Int) : Sw → List (Int × Sw) → List (Int × Sw)
  | _, [] => []
  | prev, (t, v) :: r =>
    let nxt := match r with | (u, _) :: _ => some u | [] => none
    let moves := match prev, v with | .lev _, .lev _ => true | .zero, .lev x => x != 0 | _, _ => false
    if moves then (t, .diode) :: (if nxt.all (fun u => decide (t + dt < u)) then [(t + dt, v)] else []) ++ withDead dt v r
    else (t, v) :: withDead dt v r

/-- R252: the integral of a state over [a, z), in sub-ticks, with `dv` where the diodes set it. -/
def swIntegral (a z dv : Int) : List (Int × Sw) → Int
  | [] => 0
  | (t, v) :: r =>
    let hi := match r with | (u, _) :: _ => min z u | [] => z
    let lo := max a t
    (if lo < hi then (hi - lo) * (match v with | .lev x => x | .diode => dv | .zero => 0) else 0) + swIntegral a z dv r

/-- R252: the state of each of the 64 intervals in 1/1,024 units; `dv` is the diodes' state by the sample's code. -/
def swStates (t0 : Int) (pts : List (Int × Sw)) (dv : Int → Int) (codes : List Int) : List Int :=
  (List.range 64).map (fun (k : Nat) => swIntegral (t0 + 1024 * (k : Int)) (t0 + 1024 * (k : Int) + 1024) (dv (codes.getD k 0)) pts)

/-- −sign. -/
def oppSign (x : Int) : Int := if 0 < x then -1 else if x < 0 then 1 else 0

/-- R252, R253: n_H, n_P and n_S of the burst of beat `b`, from its codes of channels 0, 2 and 3 and the windows reported, newest first. (DESIGN CHOICE: note 75.) -/
def Dev.switched (d : Dev) (k b : Nat) (fs : List Force) (codes : List (List Int)) : List Int × List Int × List Int :=
  let l := unit d.lanes k
  let t0 : Int := ((b * 65536 : Nat) : Int) - (l.sampleDelay : Int) - 512
  let a := t0 - max (l.deadtime : Int) (l.dabDeadtime : Int) - 1
  let z := t0 + 65536
  let ws := fs.reverse.map (d.winOf k t0)
  let sp := spans a z ws
  let legPts := fun (i : Nat) => match dedupSw none (sp.flatMap (legSpan i)) with
    | [] => []
    | x :: r => x :: withDead l.deadtime x.2 r
  let dabPts := fun (sec : Bool) => match dedupSw none (bridgeStates a z (bridgeEvents sec ws []) true) with
    | [] => []
    | x :: r => x :: withDead l.dabDeadtime x.2 r
  let c := fun (i : Nat) => codes.getD i []
  let nx := swStates t0 (legPts 0) (fun x => if 0 < x then 1 else 0) (c 0)
  let ny := swStates t0 (legPts 1) (fun x => if x < 0 then 1 else 0) (c 0)
  (List.zipWith (· - ·) nx ny, swStates t0 (dabPts false) oppSign (c 2), swStates t0 (dabPts true) oppSign (c 3))

/-! Bursts (R250, R251) -/

/-- A burst: which parts are present, and 64 codes of each of the six channels. -/
structure Burst where
  mask : Nat
  codes : List (List Int)
  deriving DecidableEq, Repr, Inhabited

/-- R222: the burst of beat `b` as its parts stand; a missing part reads 0. -/
def Dev.burstOf (d : Dev) (k b : Nat) : Burst :=
  let ps := (unit d.lanes k).parts.filter (fun p => p.1 == b)
  let at_ := fun (p : Nat) => (ps.find? (fun x => x.2.1 == p)).map (fun x => x.2.2)
  ⟨(those 16 (fun p => (at_ p).isSome)).foldl (fun a p => a + 2 ^ p) 0,
   (List.range 6).map (fun c => (List.range 16).flatMap (fun p => (List.range 4).map (fun j => ((at_ p).getD []).getD (6 * j + c) 0)))⟩

/-- The number of parts present. -/
def Burst.count (b : Burst) : Nat := (those 16 (fun p => b.mask.testBit p)).length

/-- R250: the samples of one channel with the missing ones interpolated, rounded to whole codes; `prev` is the previous burst's last sample. (DESIGN CHOICE: note 75.) -/
def fillCodes (mask : Nat) (prev : Int) (xs : List Int) : List Int :=
  let has := fun (k : Nat) => mask.testBit (k / 4)
  (List.range 64).map (fun k =>
    if has k then xs.getD k 0 else
    let before := (List.range k).reverse.find? has
    let after := ((List.range 64).drop k).find? has
    let a : Int := match before with | some j => xs.getD j 0 | none => prev
    let ka : Int := match before with | some j => (j : Int) | none => -1
    match after with
    | none => a
    | some j => rRound ((a : Rat) + ((xs.getD j 0 - a : Int) : Rat) * (((k : Int) - ka : Int) : Rat) / (((j : Int) - ka : Int) : Rat)))

/-- R251: mean and end value of a channel, binary32, from its codes, its full scale and the group delay. (DESIGN CHOICE: note 14.) -/
def estimate (fs delay : Nat) (xs : List Int) : Nat × Nat :=
  let unitR : Rat := ((fs : Nat) : Rat) / 32768
  let mean : Rat := unitR * ((xs.sum : Int) : Rat) / 64
  let t : Int := ((List.range 64).zip xs).foldl (fun a x => a + (2 * (x.1 : Int) - 63) * x.2) 0
  let slope : Rat := unitR * (t : Rat) / 2 / 21840
  (fRnd mean, fRnd (mean + slope * (65 / 2 + ((delay : Nat) : Rat) / 1024)))

/-- Estimates of a cell in physical units. -/
def Dev.xMean (d : Dev) (k c : Nat) : Rat := fRat ((unit d.cells k).mean.getD c 0)
def Dev.xEnd (d : Dev) (k : Nat) : Rat := fRat (unit d.cells k).vEnd

/-- R251, R253: the estimates of a burst. No whole primary period fits into a burst (R264), so the mean over those that do has no value: it is free, within the full scale. (DESIGN CHOICE: notes 14, 73.) -/
def Dev.estimates (d : Dev) (k : Nat) (codes : List (List Int)) (ns : List Int) : Dev :=
  let l := unit d.lanes k
  let e := fun (c : Nat) => estimate (l.fs.getD c 0) l.sampleDelay (codes.getD c [])
  let full : Rat := ((l.fs.getD 2 0 : Nat) : Rat)
  let q : Int := (List.zipWith (· * ·) ns (codes.getD 3 [])).sum
  let i2 : Rat := -(q : Rat) * ((l.fs.getD 3 0 : Nat) : Rat) / ((64 * 1024 * 32768 : Nat) : Rat)
  (d.cell k (fun x => { x with mean := (List.range 5).map (fun c => (e c).1), vEnd := (e 1).2, seen := true, i2 := fRnd i2
                               flux := fRnd (rClamp (-full) full (Config.fluxMean d.freeCtr)) })).free

/-! The ledger (R273 to R276) -/

/-- R273: the account of a cell in 2^-20 nC. -/
def Dev.account (d : Dev) (k : Nat) : Int := d.getS F.LEDGER_ACCOUNT.NC k * 2 ^ 20 + (d.get F.LEDGER_FRAC.FRAC k : Int)

/-- R281, R105: the ledger reconciles in RUN and STOP and in the Hold phase. -/
def Dev.reconciles (d : Dev) (k : Nat) : Bool :=
  d.st == RUN || d.st == STOP || (d.st == PRECHARGE && d.get F.GLB_PRECHARGE.PHASE (d.strOf k) == 5)

/-- R274: the residual after a posting of `inc` (2^-20 nC) with a change of voltage. (DESIGN CHOICE: note 76.) -/
def Dev.residual (d : Dev) (k : Nat) (inc : Int) (dv : Rat) : Dev :=
  let r := rRound ((inc : Rat) / ((2 ^ 20 : Nat) : Rat) - ((d.get F.LEDGER_C.C_EST k : Nat) : Rat) * dv)
  let K := d.get F.ARR_LEDGER.RESID_K
  let s := d.getS F.LEDGER_RESID.S k
  let s := s - s.fdiv (2 ^ K : Nat) + r
  let d := (d.setS F.LEDGER_RESID.S s k).setS F.LEDGER_OFFSET.OFFSET_MA (rRound ((s : Rat) * 1000 / ((2 ^ K * 10240 : Nat) : Rat))) k
  let lim := d.get F.ARR_RESID_LIM.LIM
  if lim ≠ 0 ∧ lim < s.natAbs then
    (if d.reg.active.contains (65, k) then d else ((d.condOn 65 k).raise 65 2 k (leBytes 4 (ofS 32 s))).cellFault k)
  else d.condOff 65 k

/-- R275: the sums and extremes of an estimation period, and the excursion from the range recorded. (DESIGN CHOICE: note 77.) -/
def Dev.capGather (d : Dev) (k : Nat) (inc : Int) (dv : Option Rat) : Dev :=
  let v := d.xEnd k
  let d := d.cell k (fun x => { x with
    capA := x.capA + (match dv with | some y => (inc : Rat) / ((2 ^ 20 : Nat) : Rat) * y | none => 0)
    capB := x.capB + (match dv with | some y => y * y | none => 0)
    vLo := some (match x.vLo with | some y => fMin y x.vEnd | none => x.vEnd)
    vHi := some (match x.vHi with | some y => fMax y x.vEnd | none => x.vEnd) })
  let lo := d.get F.LEDGER_C_RANGE.VLO k
  let hi := d.get F.LEDGER_C_RANGE.VHI k
  let out := hi ≠ 0 ∧ (v * 10 < ((lo : Nat) : Rat) ∨ ((hi : Nat) : Rat) ≤ v * 10)
  if out then (if d.bit F.CELL_STATUS.C_RANGE k then d else (d.setB F.CELL_STATUS.C_RANGE true k).raise 67 1 k [2])
  else d.setB F.CELL_STATUS.C_RANGE false k

/-- R273 to R275: one posting. (DESIGN CHOICE: note 76.) -/
def Dev.post (d : Dev) (k : Nat) (codes : List (List Int)) (nh np : List Int) : Dev :=
  let l := unit d.lanes k
  let dot := fun (c : Nat) (n : List Int) => (l.fs.getD c 0 : Int) * (List.zipWith (· * ·) n (codes.getD c [])).sum
  let inc := 5 * (dot 0 nh - dot 2 np)
  let a := d.account k + inc
  let d := ((d.setS F.LEDGER_ACCOUNT.NC (a.fdiv (2 ^ 20)) k).set F.LEDGER_FRAC.FRAC (a.fmod (2 ^ 20)).toNat k).inc F.LEDGER_POSTINGS.COUNT 1 k
  let dv := (unit d.cells k).vPrev.map (fun p => d.xEnd k - fRat p)
  let d := d.capGather k inc dv
  let d := match dv with | some y => if d.reconciles k then d.residual k inc y else d | none => d
  d.cell k (fun x => { x with vPrev := some x.vEnd })

/-- R275: the end of an estimation period for one cell. (DESIGN CHOICE: notes 76, 77.) -/
def Dev.capEnd (d : Dev) (k : Nat) : Dev :=
  let x := unit d.cells k
  let c : Rat := ((d.get F.LEDGER_C.C_EST k : Nat) : Rat)
  let nom := d.get F.LEDGER_C_NOM.C_NOM k
  let q := d.quot x.capA x.capB
  let ok := x.capB ≠ 0 ∧ ((d.dcl.bMin : Nat) : Rat) ≤ x.capB ∧ c * 4 / 5 ≤ q ∧ q ≤ c * 6 / 5 ∧ !d.bit F.CELL_STATUS.C_RANGE k
  let tenth := fun (v : Option Nat) => min 65535 (max 0 (rRound (fRat (v.getD 0) * 10))).toNat
  let d := if ok then ((d.set F.LEDGER_C.C_EST (rRound (c + (q - c) / 8)).toNat k).set F.LEDGER_C_RANGE.VLO (tenth x.vLo) k).set F.LEDGER_C_RANGE.VHI (tenth x.vHi) k else d
  let d := d.cell k (fun x => { x with capA := 0, capB := 0, vLo := none, vHi := none })
  let e := d.get F.LEDGER_C.C_EST k
  let level := if e * 100 < d.get F.ARR_LEDGER.C_FAIL * nom then 2 else if e * 100 < d.get F.ARR_LEDGER.C_WARN * nom then 1 else 0
  let was := x.capLevel
  let d := d.cell k (fun x => { x with capLevel := level })
  let d := if level = 0 then d.condOff 66 k else d
  if was < level then
    let d := (d.condOn 66 k).raise 66 level k (leBytes 4 e)
    if level = 2 then d.cellFault k else d
  else d

/-- R275: an estimation period of 65,536 beats ends. -/
def execCapEstimatePeriodEnd (s : State) : Host.Outcome State Fault Refusal := onMain s fun d =>
  let w := 65536 * 1024
  d.wait ((d.tick + w - 1) / w * w) fun d =>
  d.each d.cellsDecl (fun d k => d.capEnd k)

/-- R276: the terms of one beat of a string, in µJ: W_L, W_M, and the own difference of each cell, from the cells with bursts that are not void. -/
def closureTerms (rows : List (Nat × List Int × List Rat × List Rat × List Rat)) : Rat × Rat × List (Nat × Rat) :=
  let dot3 := fun (a b c : List Rat) => (List.zipWith (· * ·) (List.zipWith (· * ·) a b) c).sum
  let t : Rat := 4 / 25
  let sh := fun (n : List Int) => n.map (fun (x : Int) => (x : Rat) / 1024)
  let wl := (rows.map (fun r => dot3 (sh r.2.1) r.2.2.1 r.2.2.2.1)).sum * t
  let sumOf := fun (ls : List (List Rat)) => ls.foldl (fun (a : List Rat) l => List.zipWith (· + ·) a l) (List.replicate 64 (0 : Rat))
  let x4 := sumOf (rows.map (fun r => r.2.2.2.2))
  let i0 := sumOf (rows.map (fun r => r.2.2.1))
  let n : Rat := ((rows.length : Nat) : Rat)
  let wm := if rows.isEmpty then 0 else (List.zipWith (· * ·) x4 i0).sum / n * t
  (wl, wm, rows.map (fun r => (r.1, (List.zipWith (· * ·) (List.zipWith (fun (a b : Rat) => a - b) (List.zipWith (· * ·) (sh r.2.1) r.2.2.2.1) r.2.2.2.2) r.2.2.1).sum * t)))

/-- R447: the metering window of the burst that is latched: at a new one the sums of the last are set aside. -/
def Dev.metShift (d : Dev) : Dev :=
  let k := (d.beat - 1) / 65536
  if d.arr.metK = k then d
  else { d with arr := { d.arr with metPrev := some (d.arr.metK, d.arr.metM), metK := k, metM := List.replicate 6 0 } }

/-- R276: one beat of a string's closure. (DESIGN CHOICE: note 78.) -/
def Dev.closeBeat (d : Dev) (s : Nat) (rows : List (Nat × List Int × List Rat × List Rat × List Rat)) : Dev :=
  let (wl, wm, own) := closureTerms rows
  let d := { d with arr := { d.arr with closeD := d.arr.closeD.modify s (· + (wl - wm)), closeM := d.arr.closeM.modify s (· + max wm (-wm))
                                        metM := d.arr.metM.modify s (· + wm) } }
  let d := d.each own (fun d x => d.cell x.1 (fun c => { c with closeDiff := c.closeDiff + x.2 }))
  d.setS F.ARR_STRING_CLOSE.D (rRound (d.arr.closeD.getD s 0 / 1000)) s

/-- R276: the window of a string ends: checked and restarted. (DESIGN CHOICE: note 78.) -/
def Dev.closeEnd (d : Dev) (s : Nat) : Dev :=
  let D := d.arr.closeD.getD s 0
  let lim : Rat := ((d.get F.ARR_STRING_CLIM.CLOSE_FLOOR s : Nat) : Rat) * 1000 + ((d.get F.ARR_STRING_CLIM.CLOSE_PERMIL s : Nat) : Rat) * d.arr.closeM.getD s 0 / 1000
  let mag := fun (k : Nat) => let x := (unit d.cells k).closeDiff; max x (-x)
  let worst := (d.cellsOf s).foldl (fun (b : Option Nat) k => match b with | some j => if mag j < mag k then some k else b | none => some k) none
  let d := if lim < max D (-D) then d.raise 68 2 s (leBytes 4 (worst.getD 0)) else d
  let d := d.each (d.cellsOf s) (fun d k => d.cell k (fun x => { x with closeDiff := 0 }))
  { d with arr := { d.arr with closeD := d.arr.closeD.set s 0, closeM := d.arr.closeM.set s 0 } }.setS F.ARR_STRING_CLOSE.D 0 s

/-- R276: a closure window of 256 beats ends. -/
def execClosureWindowEnd (s : State) : Host.Outcome State Fault Refusal := onMain s fun d =>
  let w := 256 * 1024
  d.wait ((d.tick + w - 1) / w * w) fun d =>
  d.each (List.range d.dcl.strings) (fun d s => d.closeEnd s)

end Sys2Proof.Machine
end

