-- ==== Sys2Proof/Machine/Array.lean ====
section
/-! DEFINITION. The Array Engine's beat up to its slots (R247 to R254): latching the bursts, what the loops are fed, which of them run (R281),
their limits (R254, R267, R278, R576), zero power (R279), and ARRAY_SET, CELL_BYPASS and CELL_RESTORE (R261, R272, R282, R283). -/

namespace Sys2Proof.Machine

/-! What runs (R281) -/

/-- R280: a fast stop governs the commands of the present beat. -/
def Dev.fast (d : Dev) : Bool := match d.arr.fastFrom with | some b => b ≤ d.beat | none => false

/-- R281: RUN, and STOP until a fast stop. -/
def Dev.arrRun (d : Dev) : Bool := (d.st == RUN || d.st == STOP) && !d.fast

/-- R281: the precharge phase of a string, 0 outside PRECHARGE. -/
def Dev.preNow (d : Dev) (s : Nat) : Nat := if d.st = PRECHARGE ∧ !d.fast then d.get F.GLB_PRECHARGE.PHASE s else 0

/-- R281: the cells of a string switch. -/
def Dev.switching (d : Dev) (s : Nat) : Bool := d.arrRun || [3, 4, 5, 6].contains (d.preNow s)

/-- R262: the dual-active bridges of a string run. -/
def Dev.dabOn (d : Dev) (s : Nat) : Bool := d.arrRun || [4, 5, 6].contains (d.preNow s)
def Dev.dabAny (d : Dev) : Bool := (List.range d.dcl.strings).any (fun s => d.dabOn s)

/-! Bursts -/

/-- R276: what the closure of a string sums over for one cell. -/
abbrev CloseRow := Nat × List Int × List Rat × List Rat × List Rat

/-- R253: the slots of a cell, and of a string with the members of its group. -/
def Dev.cellSlots (d : Dev) (k : Nat) : List Nat := [d.dcl.balSlot.getD k 1024, d.dcl.psSlot.getD k 1024, d.dcl.fluxSlot.getD k 1024]
def Dev.freeze (d : Dev) (ks : List Nat) (f : Bool) : Dev := d.each ks (fun d j => (d.slot j (fun x => { x with frozen := f })).setB F.SLOT_STATUS.FROZEN f j)

/-- R492: the CELL record of a burst. -/
def Dev.cellRecord (d : Dev) (k b : Nat) (x : Burst) (filled void : Bool) (w08 : Nat) : Dev :=
  d.arcSample 2 (b2n filled + 2 * b2n void) k b (w08 + x.mask * 2 ^ 32) ((List.range 64).flatMap (fun j => (List.range 6).map (fun c => (x.codes.getD c []).getD j 0))) 800

/-- R526: one auxiliary item. -/
def Aux.take (c : Aux) (v : Nat) : Aux :=
  let i := v / 4096
  let y := v % 4096
  if i = 15 then { c with node := if y = 0 then c.node else y, cnt := c.cnt.modify 15 (· + 1) }
  else if 11 < i ∨ ((i = 6 ∨ i = 7) ∧ y = 0xFFF) then c
  else { c with sum := c.sum.modify i (· + y), cnt := c.cnt.modify i (· + 1) }

/-- R524, R526: auxiliary items of a burst's present parts, for the round in which its beat `b` starts. (DESIGN CHOICE: note 75.) -/
def Dev.auxTake (d : Dev) (k b : Nat) (x : Burst) : Dev :=
  let vs := ((List.range 64).filter (fun j => x.mask.testBit (j / 4))).map (fun j => ofS 16 ((x.codes.getD 5 []).getD j 0))
  d.cell k (fun c => if d.hk.round < b * 1024 / 1000000 then { c with auxNext := vs.foldl Aux.take c.auxNext } else { c with aux := vs.foldl Aux.take c.aux })

/-- R249, R250: a void burst: the slots frozen for the beat, the previous estimates stand, the ledger posts nothing. -/
def Dev.voidBurst (d : Dev) (k : Nat) (up : Bool) (parts : Nat) : Dev :=
  let d := ((d.setB F.CELL_STATUS.VOID true k).setB F.CELL_STATUS.FILLED false k).inc F.LEDGER_GAPS.COUNT 1 k
  let d := d.cell k (fun x => { x with void := true, vPrev := none, voids := if up then x.voids + 1 else 0 })
  if !up then d else
  let d := d.raise 64 1 k (leBytes 4 parts)
  if 3 ≤ (unit d.cells k).voids ∧ d.cellRole k = 1 then d.cellFault k else d

/-- R250 to R253, R273: a burst that is used; what the closure takes from it. Where no burst has come before, the sample before its first is taken for code 0,
of which the spec says nothing. (DESIGN CHOICE: note 75.) -/
def Dev.goodBurst (d : Dev) (k b : Nat) (x : Burst) (m : StatusMsg) : Dev × CloseRow :=
  let l := unit d.lanes k
  let filled := x.mask ≠ 0xFFFF
  let codes := if filled then (List.range 6).map (fun c => fillCodes x.mask (l.lastSample.getD c 0) (x.codes.getD c [])) else x.codes
  let fs := d.forceOf m :: l.force
  let (nh, np, ns) := d.switched k b (fs.take 6) codes
  let d := (d.setB F.CELL_STATUS.VOID false k).setB F.CELL_STATUS.FILLED filled k
  let d := if filled then d.incSat F.CELL_FILLED.COUNT 1 k else d
  let d := d.lane k (fun l => { l with lastSample := codes.map (fun c => c.getD 63 0), force := fs.take 6 })
  let d := ((d.cell k (fun x => { x with void := false, voids := 0 })).estimates k codes ns).auxTake k b x
  let d := d.post k codes nh np
  let phys := fun (c : Nat) => (codes.getD c []).map (fun (v : Int) => (v : Rat) * ((l.fs.getD c 0 : Nat) : Rat) / 32768)
  (d, k, nh, phys 0, phys 1, phys 4)

/-- R249, R250: the burst of the previous beat of one declared cell. -/
def Dev.latchCell (d : Dev) (k : Nat) : Dev × List CloseRow :=
  let b := d.beat - 1
  let l := unit d.lanes k
  let up := d.laneUp k && d.beat ≠ 0
  let x := d.burstOf k b
  let st := if l.status.any (fun m => m.beat == b) then l.status else none
  -- the slots of what is taken, and of older parts that came for no burst, are free again
  let n := if up then (l.parts.filter (fun p => p.1 ≤ b)).length + b2n (l.status.any (fun m => m.beat ≤ b)) else 0
  let w08 := match st with | some m => m.w08 | none => 0
  let r : Dev × List CloseRow × Bool := match (if up then st else none) with
    | some m =>
      if 12 ≤ x.count ∧ d.winKnown k m then
        let (e, row) := d.goodBurst k b x m
        (e, [row], true)
      else (d.voidBurst k true x.count, [], false)
    | none => (d.voidBurst k up x.count, [], false)
  -- R250: the last sample of a burst serves the next, used or not
  let r := if up && !r.2.2 then (r.1.lane k (fun l => { l with lastSample := (List.range 6).map (fun c =>
      (fillCodes x.mask (l.lastSample.getD c 0) (x.codes.getD c [])).getD 63 0) }), r.2) else r
  let d := r.1.cellRecord k b (if up then x else ⟨0, List.replicate 6 []⟩) (r.2.2 && x.mask ≠ 0xFFFF) (!r.2.2) (if up then w08 else 0)
  let d := if up then (d.lane k (fun l => { l with parts := l.parts.filter (fun p => decide (b < p.1))
                                                   status := if l.status.any (fun m => decide (m.beat ≤ b)) then none else l.status })).slotFree k n else d
  (d, r.2.1)

/-! What the loops are fed (R253, R254, R267) -/

/-- R105: the reference of a voltage that rises from where it stood by so many mV a ms, to its nominal, in V. -/
def Dev.rise (d : Dev) (s slew nom : Nat) : Rat :=
  let t := d.tick - d.arr.preAt.getD s 0
  min (((nom : Nat) : Rat) / 1000) (((d.arr.preV.getD s 0 : Int) : Rat) / 1000000 + ((slew : Nat) : Rat) * ((t : Nat) : Rat) / 100000000)

/-- R105: the string that charges the DC link. -/
def Dev.lastString (d : Dev) : Nat := d.dcl.preOrder.getLastD 0

/-- R105, R253: V_DL* in V. Before the DC-link phase nothing raises the link: its measured voltage is its reference. (DESIGN CHOICE: note 79.) -/
def Dev.vdlRef (d : Dev) : Rat :=
  if d.st = PRECHARGE then
    let p := d.preNow d.lastString
    if p = 4 then d.rise d.lastString d.dcl.linkSlew d.dcl.vdlMv else if p = 5 ∨ p = 6 then ((d.dcl.vdlMv : Nat) : Rat) / 1000 else d.sns 14
  else ((d.get F.ARR_VREF.VDL : Nat) : Rat) / 1000

/-- R105, R253: Vc* of a string in V. -/
def Dev.vcRef (d : Dev) (s : Nat) : Rat :=
  if d.preNow s = 3 then d.rise s d.dcl.activeSlew d.dcl.vcMv else ((d.get F.ARR_VCREF.VC : Nat) : Rat) / 1000

/-- The mean of a quantity over cells; 0 over none. -/
def meanOf (ks : List Nat) (f : Nat → Rat) : Rat := if ks.isEmpty then 0 else (ks.map f).sum / ((ks.length : Nat) : Rat)

/-- R267: the share of its limits a string has. -/
def Dev.share (d : Dev) (s : Nat) : Rat :=
  let n := d.get F.ARR_STRING_CFG.CELLS s - d.get F.ARR_STRING_CFG.K s
  if n = 0 then 1 else min 1 ((((d.actOf s).length : Nat) : Rat) / ((n : Nat) : Rat))

/-- R254, R267, R278, R279: the limits of the DC-link output in A: import above, export below. (DESIGN CHOICE: note 79.) -/
def Dev.dcLimits (d : Dev) : Rat × Rat :=
  let (i, e) := match d.arr.ramp with
    | some (i, e) => ((i : Rat) / 1000, (e : Rat) / 1000)
    | none => (((d.get F.ARR_LIMIT.IMPORT * 1000 : Nat) : Rat), ((d.get F.ARR_LIMIT.EXPORT * 1000 : Nat) : Rat))
  let f : Rat := ((d.get F.ARR_DERATE.FACTOR : Nat) : Rat) / 1024 * meanOf (List.range d.dcl.strings) d.share
  (-(d.quot (e * f) (d.sns 14)), d.quot (i * f) (d.sns 14))

/-- R429, R254, R293: the synchronisation angle of a string at the apply instant of the present beat, as a fraction of a turn times 2^32. -/
def Dev.angle (d : Dev) (s : Nat) : Nat :=
  match d.dcl.syncCh.getD s none with
  | some m =>
    let c := unit d.metCh m
    let t : Rat := (((d.beat * 1024 + d.get F.ARR_APPLY.PHASE) * 64 : Nat) : Rat) - ((c.latchZc : Nat) : Rat)
    let u := d.quot t c.latchT - 1 / 4
    (rRound ((u - (u.floor : Rat)) * ((2 ^ 32 : Nat) : Rat))).toNat % 2 ^ 32
  | none => 0

/-- R254: the source is a DC catenary: the string's metering voltage channel is of the DC class. -/
def Dev.dcSource (d : Dev) : Bool := !d.dcl.threePhase

/-- R576: the owner's limits of a slot. (DESIGN CHOICE: note 79.) -/
def Dev.limits (d : Dev) (k : Nat) (lo hi : Rat) : Dev := d.slot k (fun x => { x with lo := some (fRnd lo), hi := some (fRnd hi) })
def Dev.noLimits (d : Dev) (k : Nat) : Dev := d.slot k (fun x => { x with lo := none, hi := none })

/-- R253, R254, R281: the DC-link slot at the start of a beat's evaluation. (DESIGN CHOICE: note 80.) -/
def Dev.feedLink (d : Dev) : Dev :=
  let k := d.dcl.vdlSlot
  if d.dabAny then
    let (lo, hi) := d.dcLimits
    (((d.freeze [k] false).ownA k (d.vdlRef - d.sns 14)).limits k lo hi).slot k (fun x => { x with ffVal := some (fRnd (((d.getS F.OS_LINK.I_LINK : Int) : Rat) / 10)) })
  else d.freeze [k] true

/-- R253, R254, R281: the slots of a string and of its cells. (DESIGN CHOICE: note 80.) -/
def Dev.feedString (d : Dev) (s : Nat) : Dev :=
  let act := d.actOf s
  let kc := d.dcl.capSlot.getD s 1024
  let ki := d.dcl.curSlot.getD s 1024
  let cells := d.cellsOf s
  if !d.switching s || act.isEmpty then d.freeze (kc :: ki :: cells.flatMap d.cellSlots) true
  else
    let mean := meanOf act d.xEnd
    -- R281: in the Active phase the capacitor-mean and balance slots run, and no other
    let d := ((d.freeze [kc] false).freeze [ki] (d.preNow s == 3)).ownA kc (d.vcRef s - mean)
    let cost : Rat := ((d.get F.LOAN_OP_COST.COST 8 : Nat) : Rat) / 10
    let d := if d.preNow s = 3 then d.limits kc (-cost) cost else d.noLimits kc
    let lim : Rat := ((d.get F.ARR_MOD.M_MAX : Nat) : Rat) / 1000 * (act.map d.xEnd).sum
    let d := d.limits ki (-lim) lim
    let d := if d.dcSource then
        d.slot ki (fun x => { x with ffScale := none, ffVal := some (match d.dcl.syncCh.getD s none with | some m => (unit d.metCh m).latchV | none => 0) })
      else (d.slot ki (fun x => { x with ffVal := none, ffScale := some (fRnd (d.sourcePeak s)) })).ownIdx ki (d.angle s)
    let ps : Rat := ((d.get F.ARR_DAB_LIM.PS_MAX * d.arr.dabHalf : Nat) : Rat) / 1000
    d.each cells (fun d k =>
      match d.cellSlots k with
      | [kb, kp, kf] =>
        let x := unit d.cells k
        if d.cellRole k ≠ 1 ∨ x.void ∨ !x.seen then d.freeze [kb, kp, kf] true
        else
          let d := ((d.freeze [kb] false).freeze [kp, kf] (!d.dabOn s)).ownA kb (mean - d.xEnd k)
          (d.limits kp (-ps) ps).ownA kf (-(fRat x.flux))
      | _ => d)

/-- R253: before its release, a slot that depends on another of the array is fed from it: a string's input current from its capacitor mean, a
phase shift from the DC link. -/
def Dev.arrFeed (d : Dev) (k : Nat) : Dev :=
  let d := (those d.dcl.strings (fun s => d.dcl.curSlot.getD s 1024 == k)).foldl (fun d s =>
    let amp := d.yOut (d.dcl.capSlot.getD s 1024)
    let th := d.get F.SLOT_OWN_IDX.OWN_IDX k
    let ref := if d.dcSource then amp else amp * cosOf th + ((d.getS F.ARR_STRING_RANK.I_Q s : Int) : Rat) * sinOf th
    d.ownA k (ref - meanOf (d.actOf s) (fun j => d.xMean j 0))) d
  ((d.cellsDecl).filter (fun i => d.dcl.psSlot.getD i 1024 == k)).foldl (fun d i =>
    let n := ((List.range d.dcl.strings).map (fun s => (d.actOf s).length)).sum
    d.ownA k (d.quot (d.yOut d.dcl.vdlSlot) ((n : Nat) : Rat) - fRat (unit d.cells i).i2)) d

/-- R279: the ramp of an orderly stop falls by one beat's part. -/
def Dev.rampStep (d : Dev) : Dev :=
  let r : Int := (d.get F.ARR_STOP.STOP_RAMP : Int) * 10240
  match d.arr.ramp with
  | some (i, e) => if d.st = STOP then { d with arr := { d.arr with ramp := some (max 0 (i - r), max 0 (e - r)) } } else d
  | none => d

/-- R105: whether the end condition of a string's phase holds. -/
def Dev.phaseMet (d : Dev) (s : Nat) : Bool :=
  let act := d.actOf s
  let nom : Rat := ((d.dcl.vcMv : Nat) : Rat) / 1000
  let tol : Rat := ((d.dcl.holdTolMv : Nat) : Rat) / 1000
  let vs := act.map d.xEnd
  let live := !act.isEmpty && act.all (fun k => (unit d.cells k).seen)
  match d.get F.GLB_PRECHARGE.PHASE s with
  | 2 => live && ((d.dcl.passiveMinMv : Nat) : Rat) / 1000 ≤ vs.sum
  | 3 => live && vs.all (fun v => decide (nom - tol ≤ v ∧ v ≤ nom + tol))
  | 4 => let v : Rat := ((d.dcl.vdlMv : Nat) : Rat) / 1000; decide (v * 98 / 100 ≤ d.sns 14 ∧ d.sns 14 ≤ v * 102 / 100)
  | 5 => live && vs.foldl max (vs.headD 0) - vs.foldl min (vs.headD 0) ≤ tol
  | _ => false

/-- R105, R108: a string's end condition and elapsed time at a latch. -/
def Dev.preBeat (d : Dev) (s : Nat) : Dev :=
  let d := d.set F.GLB_PRECHARGE.ELAPSED (min 65535 ((d.tick - d.arr.preAt.getD s 0) / 100000)) s
  if d.st ≠ PRECHARGE then d else
  { d with arr := { d.arr with preMet := d.arr.preMet.modify s (fun m => if d.phaseMet s then some (m.getD d.tick) else none) } }

/-- R249: at tick 140 the bursts are latched; estimates, postings and closure terms follow, and the slots are fed. -/
def Dev.arrayLatch (d : Dev) (upLatest : Nat) : Dev :=
  d.atPhase 140 fun d =>
  if d.arr.latched = some d.beat ∨ d.prov.decl.isNone then d else
  let d := { d with arr := { d.arr with latched := some d.beat } }
  let d := d.set F.GLB_TIMING.UP_LATEST upLatest
  let gaps := fun (d : Dev) (k : Nat) => d.get F.LEDGER_POSTINGS.COUNT k + d.get F.LEDGER_GAPS.COUNT k
  let before := d.cellsDecl.map (gaps d)
  let (d, rows) := d.cellsDecl.foldl (fun (x : Dev × List CloseRow) k => let (e, r) := x.1.latchCell k; (e, x.2 ++ r)) (d, [])
  -- R322: exactly one of the two counts of each declared cell has advanced
  let bad := (List.zipWith (fun b a => if a = b + 1 then 0 else 1) before (d.cellsDecl.map (gaps d))).sum
  let d := if bad = 0 then d.condOff 193 6 else if LINKED ≤ d.st then (d.condOn 193 6).conserve 6 bad else d
  let d := d.rampStep.metShift
  let d := (List.range d.dcl.strings).foldl (fun d s =>
    let d := if d.st = RUN ∨ d.st = STOP then d.closeBeat s (rows.filter (fun r => d.strOf r.1 == s)) else d
    (d.preBeat s).feedString s) d
  d.feedLink

def execArrayLatch (i : SensedLink) (s : State) : Host.Outcome State Fault Refusal := onMain s fun d => d.arrayLatch i.upLatest

/-! Zero power and derating -/

/-- R279, R535: V̂_DL · I_DL* in W; 0 while no DAB is commanded. -/
def Dev.arrPower (d : Dev) : Rat := d.sns 14 * (if d.dabAny then d.yOut d.dcl.vdlSlot else 0)

/-- R279: the power of the array at its loops, and the beats below ZERO_KW. (DESIGN CHOICE: note 81.) -/
def Dev.zeroCount (d : Dev) : Dev :=
  if d.st ≠ STOP then { d with arr := { d.arr with zeroBeats := 0 } } else
  let p := d.arrPower
  let lim : Rat := ((d.get F.ARR_STOP.ZERO_KW * 1000 : Nat) : Rat)
  { d with arr := { d.arr with zeroBeats := if max p (-p) < lim then d.arr.zeroBeats + 1 else 0 } }

/-- R279, R484: 100 beats below ZERO_KW: zero power is reached, and the stop's incident ends. -/
def execArrayZeroPower (s : State) : Host.Outcome State Fault Refusal := onMain s fun d =>
  if d.st = STOP ∧ 100 ≤ d.arr.zeroBeats ∧ !d.arr.zeroPower then ({ d with arr := { d.arr with zeroPower := true } }).stopReached else d

/-- R278: the lowest factor of the C2 reactions in force, of the Registrar and of Housekeeping. -/
def Dev.derateMin (d : Dev) : Nat := (d.reg.derates.map (fun (x : Nat × Nat) => x.2)).foldl min 1024

/-- R278: at a beat F falls to the lowest factor; it never rises there. (DESIGN CHOICE: note 84.) -/
def Dev.derateBeat (d : Dev) : Dev :=
  let m := d.derateMin
  let d := { d with reg := { d.reg with rise := d.reg.rise + 1 } }
  if m < d.get F.ARR_DERATE.FACTOR then ({ d with reg := { d.reg with rise := 0 } }).set F.ARR_DERATE.FACTOR m else d

/-- R278: after the reactions that lowered it have ended, F rises by 1 per 64 beats: time comes to the 64th beat since it last changed. (DESIGN CHOICE: note 84.) -/
def execDerateRiseStep (s : State) : Host.Outcome State Fault Refusal := onMain s fun d =>
  if d.get F.ARR_DERATE.FACTOR < d.derateMin then
    d.wait ((d.beat + (64 - d.reg.rise)) * 1024) fun d =>
    ({ d with reg := { d.reg with rise := 0 } }).set F.ARR_DERATE.FACTOR (d.get F.ARR_DERATE.FACTOR + 1)
  else d

/-! Commands (R282, R283) -/

def execArraySetVdl (c : HostCmd) (s : State) : Host.Outcome State Fault Refusal := onMain s fun d =>
  d.simple 0x40 c fun d => d.set F.ARR_VREF.VDL (arg c 1)

def execArraySetLimits (c : HostCmd) (s : State) : Host.Outcome State Fault Refusal := onMain s fun d =>
  d.simple 0x40 c fun d => (d.set F.ARR_LIMIT.IMPORT (arg c 1)).set F.ARR_LIMIT.EXPORT (arg c 1 / 65536)

/-- R282: Vc* in LINKED and STOP. -/
def execArraySetVc (c : HostCmd) (s : State) : Host.Outcome State Fault Refusal := onMain s fun d =>
  (d.command 0x40 c fun d => if d.st = LINKED ∨ d.st = STOP then (d.set F.ARR_VCREF.VC (arg c 1), .applied 0) else (d, .badState)).1

/-- R282: detail 1 on a DC source. -/
def execArraySetIq (c : HostCmd) (s : State) : Host.Outcome State Fault Refusal := onMain s fun d =>
  d.checked 0x40 c fun d => if d.dcSource then (d, some 1) else (d.set F.ARR_STRING_RANK.I_Q (arg c 1) c.target, none)

/-- R261: the balancing mode of a string, in LINKED and STOP. -/
def execArraySetBalMode (c : HostCmd) (s : State) : Host.Outcome State Fault Refusal := onMain s fun d =>
  (d.command 0x40 c fun d => if d.st = LINKED ∨ d.st = STOP then (d.set F.ARR_STRING_CFG.BAL_MODE (arg c 1) c.target, .applied 0) else (d, .badState)).1

/-- R282: detail 2 where HOP_FIXED is not a hop entry in use. -/
def execArraySetHopping (c : HostCmd) (s : State) : Host.Outcome State Fault Refusal := onMain s fun d =>
  d.checked 0x40 c fun d =>
    let h := bitsAt (arg c 1) 8 4
    if d.get F.ARR_CTRL.HOP_LAST < h then (d, some 2) else ((d.set F.ARR_CTRL.HOP_BEATS (arg c 1)).set F.ARR_CTRL.HOP_FIXED h, none)

/-- R282: the apply phase, in LINKED and STOP; detail 3 below the earliest safe one. The lanes' budgets are judged anew (R316). -/
def execArraySetApplyPhase (c : HostCmd) (s : State) : Host.Outcome State Fault Refusal := onMain s fun d =>
  (d.command 0x40 c fun d =>
    if d.st ≠ LINKED ∧ d.st ≠ STOP then (d, .badState)
    else if arg c 1 < d.get F.GLB_ESAP.TICKS then (d, .failed 3)
    else (d.set F.ARR_APPLY.PHASE (arg c 1), .applied 0)).1

/-- R283: CELL_BYPASS. -/
def execCellBypass (c : HostCmd) (s : State) : Host.Outcome State Fault Refusal := onMain s fun d =>
  (d.command 0x41 c fun d =>
    let k := c.target
    let r := d.cellRole k
    let str := d.strOf k
    if r = 2 ∨ r = 3 then (d, .failed 1)
    else if d.st = RUN ∧ d.get F.ARR_STRING_CFG.K str < d.cellsOut str + b2n (r == 1) then (d, .failed 2)
    else if d.get F.LANE_CAP.BYPASS_KIND k = 0 then (d, .failed 3)
    else
      let d := d.bypassStart k
      (d, .applied (d.get F.ARR_STRING_STATUS.BYPASSED str))).1

/-- R272, R283: CELL_RESTORE: BYPASS OPEN for the apply instant 3 beats on. (DESIGN CHOICE: note 70.) -/
def execCellRestore (c : HostCmd) (s : State) : Host.Outcome State Fault Refusal := onMain s fun d =>
  (d.command 0x42 c fun d =>
    let k := c.target
    if d.cellRole k ≠ 3 then (d, .failed 1)
    else if !d.laneUp k then (d, .failed 2)
    else
      let d := (d.cell k (fun x => { x with restoreAt := some (d.beat + 3), restored := false })).bypassAsk k 2 d.beat (d.beat + 3)
      (d, .applied (d.get F.ARR_STRING_STATUS.BYPASSED (d.strOf k)))).1

end Sys2Proof.Machine
end

