-- ==== Sys2Proof/Machine/Escapement.lean ====
section
/-! DEFINITION. Modulation and the Escapement (R247 step 5, R255 to R265, R269 to R272, R280, R281, R310, R321): references, carriers, edges, the
dual-active bridges' schedule, and the CELL_CMD and BYPASS of every cell. -/

namespace Sys2Proof.Machine

/-! Carriers (R255, R270) -/

/-- R255, R270: the carrier period in progress at the apply instant `a`, lengthened by the delay this window takes. -/
def Dev.carAt (d : Dev) (k a : Nat) : Dev :=
  let P := d.carP
  if P = 0 then d else
  let x := unit d.cells k
  let phi := d.get F.CELL_CARRIER.PHASE k
  let (s0, len) := match x.car with
    | some (s0, len) => if a < s0 + len then (s0, len) else (a - (a - (s0 + len)) % P, P)
    | none => (((a : Int) - ((a : Int) - (phi : Int)) % (P : Int)).toNat, P)
  d.cell k (fun x => { x with car := some (s0, len + x.move1), move1 := x.move2, move2 := 0 })

/-- R270: the re-spread of a string has come to its end. -/
def Dev.respreadDone (d : Dev) (s : Nat) : Dev :=
  d.setB F.ARR_STRING_STATUS.RESPREAD ((d.actOf s).any (fun k => (unit d.cells k).move1 + (unit d.cells k).move2 != 0)) s

/-! Edges (R257, R258) -/

/-- R257: the transitions of a leg in three carrier periods from `s0`, rounded to sub-ticks, as (instant, upper switch on). `off` and `on` are the
fractions of R257's table. (DESIGN CHOICE: note 82.) -/
def crossings (s0 len P : Nat) (off on : Rat) : List (Int × Bool) :=
  ([(s0, len), (s0 + len, P), (s0 + len + P, P)] : List (Nat × Nat)).flatMap (fun x =>
    let at_ := fun (u : Rat) => rRound (((x.1 : Nat) : Rat) + u * ((x.2 : Nat) : Rat))
    [(at_ off, false), (at_ on, true)])

/-- R257: INIT at `a` and the edges inside the window, absolute. (DESIGN CHOICE: note 82.) -/
def legWindow (a : Nat) (xs : List (Int × Bool)) : Bool × List Nat :=
  let init := ((xs.filter (fun x => decide (x.1 ≤ (a : Int)))).getLast?.map (·.2)).getD true
  (init, (xs.filter (fun x => decide ((a : Int) < x.1 ∧ x.1 < (a : Int) + 65536))).map (fun x => x.1.toNat))

/-- R258: transitions that bound an interval shorter than `mp` are removed in pairs; `sent` is the last transition before them. The remaining
ones, and how many intervals were removed. (DESIGN CHOICE: note 82.) -/
def prune (mp : Nat) (sent : Option Nat) : Nat → List Nat → List Nat → Nat → List Nat × Nat
  | 0, acc, _, n => (acc.reverse, n)
  | _ + 1, acc, [], n => (acc.reverse, n)
  | f + 1, acc, t :: ts, n =>
    match acc with
    | l :: rest => if t - l < mp then prune mp sent f rest ts (n + 1) else prune mp sent f (t :: acc) ts n
    | [] => (match sent with
      | some l => if t - l < mp then prune mp sent f [] (ts.drop 1) (n + 1) else prune mp sent f [t] ts n
      | none => prune mp sent f [t] ts n)

/-- R219, R258: the level of a leg just before `a` and its last transition, from the command sent last. -/
def Dev.legBefore (d : Dev) (k leg a : Nat) : Option Bool × Option Nat :=
  match (unit d.lanes k).cmds with
  | (b, ws) :: _ =>
    if cmdMode ws = 0 then
      let es := ((cmdEdges ws leg).map (· + cmdAt b ws)).filter (· < a)
      (some (cmdInit ws leg != (es.length % 2 == 1)), match es.getLast? with
        | some e => some e
        | none => if leg = 0 then (unit d.cells k).lastX else (unit d.cells k).lastY)
    else if cmdMode ws = 1 then (none, none) else (some false, none)
  | [] => (none, none)

/-- R258: one leg of a cell's window: INIT and edges as sent, and the count of what is removed. A leg whose level before is set by the diodes has
no boundary transition. (DESIGN CHOICE: note 82.) -/
def Dev.legSend (d : Dev) (k leg a : Nat) (init : Bool) (edges : List Nat) : Dev × Bool × List Nat :=
  let (before, sent) := d.legBefore k leg a
  let b0 := before.getD init
  let (ts, n) := prune (max 1 (unit d.lanes k).minPulse) sent 8 [] ((if init != b0 then [a] else []) ++ edges) 0
  let bound := ts.head? == some a
  let last := if bound then some a else sent
  let d := d.cell k (fun x => if leg = 0 then { x with lastX := last } else { x with lastY := last })
  let d := if n = 0 then d else d.incSat F.CELL_DROPPED.COUNT n k
  (d, b0 != bound, (if bound then ts.drop 1 else ts).take 2)

/-! References (R256, R259, R260) -/

/-- What a switched cell does in its window: a reference on its carrier, fully inserted (the sign), or its zero state. -/
inductive Plan | mod (m : Rat) | full (neg : Bool) | zero
  deriving DecidableEq, Repr, Inhabited

/-- R259: the raw duty correction of a cell. (DESIGN CHOICE: note 83.) -/
def Dev.rawDelta (d : Dev) (k : Nat) : Rat :=
  d.quot (d.yOut (d.dcl.balSlot.getD k 1024) * d.xMean k 0) ((d.get F.ARR_MOD.I_ARM_NOM : Nat) : Rat)

/-- R256, R259: a reference held within ±M_MAX; a clamp is flagged on the cell and its string. -/
def Dev.clampRef (d : Dev) (s k : Nat) (m : Rat) : Dev × Plan :=
  let M : Rat := ((d.get F.ARR_MOD.M_MAX : Nat) : Rat) / 1000
  let y := rClamp (-M) M m
  let d := d.setB F.CELL_STATUS.CLAMPED (y != m) k
  (if y = m then d else d.setB F.ARR_STRING_STATUS.SAT true s, .mod y)

/-- R256, R259: DUTY mode. (DESIGN CHOICE: note 82.) -/
def Dev.duty_ (d : Dev) (s : Nat) (v : Rat) : Dev × List (Nat × Plan) :=
  let ks := d.actOf s
  let D : Rat := ((d.get F.ARR_MOD.DELTA_MAX : Nat) : Rat) / 1000
  let mean := meanOf ks d.rawDelta
  ks.foldl (fun (x : Dev × List (Nat × Plan)) k =>
    let (e, p) := x.1.clampRef s k (d.quot v (((ks.length : Nat) : Rat) * d.xEnd k) + rClamp (-D) D (d.rawDelta k - mean))
    (e, x.2 ++ [(k, p)])) (d, [])

/-- R260 steps 3 and 4: the order kept from the previous beat, with the voltages negated where it descends: a cell moves forward past every cell at
the end of the order whose voltage differs by more than the hysteresis. (DESIGN CHOICE: note 83.) -/
def rankPlace (hyst : Rat) (k : Nat) (v : Rat) (l : List (Nat × Rat)) : List (Nat × Rat) :=
  let pass := (l.reverse.takeWhile (fun x => decide (v + hyst < x.2))).length
  l.take (l.length - pass) ++ (k, v) :: l.drop (l.length - pass)

/-- R260: RANK mode. CELL_STATUS.RANK counts places from 0, which the rule does not say. (DESIGN CHOICE: note 83.) -/
def Dev.rank (d : Dev) (s : Nat) (v : Rat) : Dev × List (Nat × Plan) :=
  let ks := d.actOf s
  let n := ks.length
  let vc := meanOf ks d.xEnd
  let a := d.quot (max v (-v)) vc
  let L := min n a.floor.toNat
  let f := a - ((L : Nat) : Rat)
  let sgn : Rat := if 0 < v then 1 else if v < 0 then -1 else 0
  let up := 0 < sgn * meanOf ks (fun k => d.xMean k 0)
  let hyst : Rat := ((d.get F.ARR_STRING_RANK.RANK_HYST s : Nat) : Rat) / 10
  let was := ks.insertionSort (fun i j => decide ((unit d.cells i).place ≤ (unit d.cells j).place))
  let order := (was.foldl (fun l k => rankPlace hyst k (if up then d.xEnd k else -(d.xEnd k)) l) []).map (·.1)
  (List.range n).foldl (fun (x : Dev × List (Nat × Plan)) i =>
    let k := order.getD i 0
    let e := (x.1.set F.CELL_STATUS.RANK i k).cell k (fun c => { c with place := i })
    if i < L then (e, x.2 ++ [(k, .full (v < 0))])
    else if i = L then
      -- R259 over that cell alone: its own mean is subtracted, which leaves no correction; R260 clamps nothing, and beyond the carrier there is no crossing
      let m := d.quot (sgn * f * vc) (d.xEnd k)
      (e, x.2 ++ [(k, if 1 ≤ m then .full false else if m ≤ -1 then .full true else .mod m)])
    else (e, x.2 ++ [(k, .zero)])) (d, [])

/-- R256, R260, R281: what the active cells of a string do in the window to come. -/
def Dev.plans (d : Dev) (s : Nat) : Dev × List (Nat × Plan) :=
  -- R256: both flags are the beat's, also of a cell that is no longer active
  let d := (d.setB F.ARR_STRING_STATUS.SAT false s).each (d.cellsOf s) (fun d k => d.setB F.CELL_STATUS.CLAMPED false k)
  if !d.switching s then (d, [])
  else
    let v := d.yOut (d.dcl.curSlot.getD s 1024)
    if d.bit F.ARR_STRING_CFG.BAL_MODE s then d.rank s v else d.duty_ s v

/-! The dual-active bridges (R262 to R265) -/

/-- R264: the array schedule as one. -/
def Dev.arrBridge (d : Dev) : Bridge := ⟨d.arr.dabAt, d.arr.dabNeg, d.arr.dabHalf, 0, 0⟩

/-- R265: the entry of a beat: a step of the hop register at a hop beat, otherwise HOP_FIXED with HOP_BEATS at 0, or the entry in use. -/
def Dev.hopEntry (d : Dev) : Dev × Nat :=
  let hb := d.get F.ARR_CTRL.HOP_BEATS
  if hb = 0 then (d, d.get F.ARR_CTRL.HOP_FIXED)
  else if d.beat % hb = 0 then
    let x := d.get F.ARR_HOP_LFSR.STATE
    let y := if x % 2 = 1 then (x / 2) ^^^ 0xB400 else x / 2
    let n := d.get F.ARR_CTRL.HOP_LAST + 1
    let h := y % n
    (d.set F.ARR_HOP_LFSR.STATE y, if h = d.arr.hop then (h + 1) % n else h)
  else (d, d.arr.hop)

/-- R264, R265: the array schedule for the commands of this beat; true where a hop falls into it. (DESIGN CHOICE: note 83.) -/
def Dev.hopStep (d : Dev) (a : Nat) : Dev × Bool :=
  let (d, h) := d.hopEntry
  let half := d.get F.ARR_DAB_HALF.HALF h
  let hopBeat := d.get F.ARR_CTRL.HOP_BEATS ≠ 0 ∧ d.beat % d.get F.ARR_CTRL.HOP_BEATS = 0
  if hopBeat ∨ h ≠ d.arr.hop ∨ half ≠ d.arr.dabHalf then
    let (t, neg) := d.arrBridge.nextAt a
    ({ d with arr := { d.arr with dabAt := t.toNat, dabNeg := neg, dabHalf := half, hop := h, hopBeat := some d.beat } }, true)
  else (d, false)

/-- R264: the offset of a cell's schedule. -/
def Dev.dabOffset (d : Dev) (k : Nat) : Nat := ((d.ldec k).position % 8 * d.arr.dabHalf * 2 + 8) / 16

/-- R264, R265: DAB_NEXT (absolute) and DAB_POL of a cell. (DESIGN CHOICE: note 71.) -/
def Dev.dabNext (d : Dev) (k a : Nat) (hop : Bool) : Int × Bool :=
  let o := d.dabOffset k
  let run := match (unit d.lanes k).cmds with
    | c :: _ => if cmdDab c.2 then some (bridgeOf c) else none
    | [] => none
  let own : Bridge := { d.arrBridge with at_ := (d.arr.dabAt : Int) + (o : Int) }
  -- R265 step 4: the last old half-period, longer or shorter by the change in the offset, runs up to there: the array schedule's polarity at H follows it
  if hop then (own.at_, d.arr.dabNeg)
  else match run with
    | some b => if (a : Int) ≤ b.at_ then (b.at_, b.neg) else b.nextAt a
    | none => own.nextAt a

/-- R263: the deadtime correction of a cell. -/
def Dev.dtCorr (d : Dev) (k : Nat) : Rat :=
  let lo : Rat := ((d.getS F.DT_RANGE_I.I_LO k : Int) : Rat) / 10
  let hi : Rat := ((d.getS F.DT_RANGE_I.I_HI k : Int) : Rat) / 10
  rInterp ((List.range 16).map (fun j => ((d.getS F.DT_TABLE.CORR k j : Int) : Rat))) lo hi (fRat (unit d.cells k).i2)

/-- R263: the excursions of a cell from the ranges of its deadtime table, on the estimates it has. (DESIGN CHOICE: note 81.) -/
def Dev.dtRange (d : Dev) (k : Nat) : Dev :=
  if !(unit d.cells k).seen then d else
  let i2 := fRat (unit d.cells k).i2
  let v := d.xEnd k
  let lo : Rat := ((d.getS F.DT_RANGE_I.I_LO k : Int) : Rat) / 10
  let hi : Rat := ((d.getS F.DT_RANGE_I.I_HI k : Int) : Rat) / 10
  let vlo : Rat := ((d.get F.DT_RANGE_V.V_LO k : Nat) : Rat) / 10
  let vhi : Rat := ((d.get F.DT_RANGE_V.V_HI k : Nat) : Rat) / 10
  let inside := lo ≤ i2 ∧ i2 < hi ∧ vlo ≤ v ∧ v < vhi
  let flagged := d.bit F.CELL_STATUS.DT_RANGE k
  if !inside then
    let d := d.cell k (fun x => { x with dtBack := 0 })
    if flagged then d else (d.setB F.CELL_STATUS.DT_RANGE true k).raise 67 1 k [1]
  else if flagged then
    let n := (unit d.cells k).dtBack + 1
    if 100 ≤ n then (d.cell k (fun x => { x with dtBack := 0 })).setB F.CELL_STATUS.DT_RANGE false k else d.cell k (fun x => { x with dtBack := n })
  else d

/-! Commands -/

/-- R218: the fields of a command, edges relative to its apply instant. -/
structure Cmd where
  mode : Nat
  resume : Bool
  clr : Bool
  xInit : Bool
  xs : List Nat
  yInit : Bool
  ys : List Nat
  dab : Bool
  neg : Bool
  next : Nat
  flux : Int
  shift : Int
  deriving DecidableEq, Repr, Inhabited

/-- R218: the words 0x08 to 0x1C of a command. -/
def Dev.cmdWords (d : Dev) (c : Cmd) : List Nat :=
  [d.get F.ARR_APPLY.PHASE + c.mode * 2 ^ 10 + b2n c.resume * 2 ^ 13 + b2n c.clr * 2 ^ 14 + b2n c.xInit * 2 ^ 16 + c.xs.length * 2 ^ 17
     + b2n c.yInit * 2 ^ 20 + c.ys.length * 2 ^ 21 + d.arr.hop * 2 ^ 24 + b2n c.dab * 2 ^ 28 + b2n c.neg * 2 ^ 29,
   c.xs.getD 0 0 + c.xs.getD 1 0 * 2 ^ 16, c.ys.getD 0 0 + c.ys.getD 1 0 * 2 ^ 16, c.next % 2 ^ 24,
   d.arr.dabHalf + ofS 12 c.flux * 2 ^ 20, ofS 20 c.shift]

/-- R262, R263: PHASE_SHIFT and FLUX_TRIM of a cell whose bridges run. (DESIGN CHOICE: note 81.) -/
def Dev.bridgeTrim (d : Dev) (k : Nat) : Int × Int :=
  let c := d.dtCorr k
  let lim : Int := ((d.get F.ARR_DAB_LIM.PS_MAX * d.arr.dabHalf / 1000 : Nat) : Int)
  let fm : Int := ((min 2047 (d.get F.ARR_DAB_LIM.FLUX_MAX) : Nat) : Int)
  (clampI (-lim) lim (rRound (d.yOut (d.dcl.psSlot.getD k 1024) + c)), clampI (-fm) fm (rRound (d.yOut (d.dcl.fluxSlot.getD k 1024))))

/-- R269 to R272, R280, R281: MODE, RESUME and CLR_TRIP of a cell that does not switch, by its role; none where it does. R272's "that beat", from which
CLR_TRIP and RESUME are sent, is taken for the effect beat of CELL_RESTORE. (DESIGN CHOICE: note 125.) -/
def Dev.roleMode (d : Dev) (k : Nat) : Option (Nat × Bool × Bool) :=
  let x := unit d.cells k
  let sw := d.switching (d.strOf k)
  match d.cellRole k with
  | 1 => if sw then none else some (1, false, false)
  | 2 => some (if !sw || d.nodeBit k 12 then 1 else 3, false, false)
  | 3 =>
    if x.restoreAt.isSome then some (if d.st = STOP ∧ !d.fast then 3 else 1, true, true)
    else some (if sw && d.beat < x.blockFrom && !d.nodeBit k 12 then 3 else 1, false, false)
  | _ => if x.rejoin = 2 ∧ sw then some (3, true, false) else some (1, false, false)

/-- R255 to R258: the leg fields of a switched cell. -/
def Dev.legs (d : Dev) (k a : Nat) (p : Plan) : Dev × Nat × (Bool × List Nat) × (Bool × List Nat) :=
  let go := fun (d : Dev) (x y : Bool × List Nat) =>
    let (d, xi, xs) := d.legSend k 0 a x.1 x.2
    let (d, yi, ys) := d.legSend k 1 a y.1 y.2
    (d, 0, (xi, xs.map (· - a)), (yi, ys.map (· - a)))
  match p with
  | .zero => (d.cell k (fun x => { x with lastX := none, lastY := none }), 2, (false, []), (false, []))
  | .full neg => go d (!neg, []) (neg, [])
  | .mod m =>
    let (s0, len) := (unit d.cells k).car.getD (a, 65536)
    let P := d.carP
    go d (legWindow a (crossings s0 len P ((1 + m) / 4) ((3 - m) / 4))) (legWindow a (crossings s0 len P ((1 - m) / 4) ((3 + m) / 4)))

/-- R218, R281: the command of one cell for this beat. -/
def Dev.cellCommand (d : Dev) (k a : Nat) (hop : Bool) (plans : List (Nat × Plan)) : Dev × List Nat :=
  let (next, neg) := d.dabNext k a hop
  let rel := (next - (a : Int)).toNat
  match d.roleMode k with
  | some (mode, resume, clr) =>
    let d := d.cell k (fun x => { x with running := false, lastX := none, lastY := none, rejoin := if x.rejoin = 2 ∧ resume then 3 else x.rejoin })
    (d, d.cmdWords ⟨mode, resume, clr, false, [], false, [], false, neg, rel, 0, 0⟩)
  | none =>
    let dab := d.dabOn (d.strOf k)
    let (d, mode, x, y) := d.legs k a (((plans.find? (fun p => p.1 == k)).map (·.2)).getD .zero)
    let (shift, flux) := if dab then d.bridgeTrim k else (0, 0)
    let first := !(unit d.cells k).running
    (d.cell k (fun x => { x with running := true }), d.cmdWords ⟨mode, first, false, x.1, x.2, y.1, y.2, dab, neg, rel, flux, shift⟩)

/-- R226, R228, R269: a BYPASS that is due is handed over after the cell's command. Without credit it counts as sent and lost. -/
def Dev.bypassSend (d : Dev) (k : Nat) : Dev :=
  match (unit d.lanes k).byp with
  | some b =>
    if b.sent ∨ d.beat < b.send then d else
    let (d, q) := d.credSend k
    let d := match q with | some q => d.laneSend (d.tick * 64) (.bypass k q b.apply b.action (d.get F.ARR_APPLY.PHASE)) | none => d
    let keep := (d.ldec k).holdBeats + 4
    let n := d.beat
    (d.lane k (fun l => { l with byp := some { b with sent := true, seq := q }
                                 byps := if q.isSome then (n, b.action) :: l.byps.filter (fun c => decide (n < c.1 + keep)) else l.byps })).arm (.bypRep k) ((b.apply + 4) * 1024 + d.get F.ARR_APPLY.PHASE - d.tick)
  | none => d

/-- R228, R252, R321: hand over a command, kept for HOLD_BEATS + 4 beats. -/
def Dev.cmdSend (d : Dev) (k : Nat) (ws : List Nat) : Dev :=
  match d.credSend k with
  | (d, some q) =>
    let n := d.beat
    let keep := (d.ldec k).holdBeats + 4
    ((d.laneSend (d.tick * 64) (.cellCmd k q n ws)).lane k (fun l => { l with cmds := (n, ws) :: l.cmds.filter (fun c => decide (n < c.1 + keep)) })).bypassSend k
  | (d, none) => d.linkFault k

/-- R247 step 5: at tick 290 every CELL_CMD and BYPASS of the beat is handed over; a lane in `miss` (with the tick its command was ready) gets none
(R321). `dnLatest`: the latest phase at which a CELL_CMD's last block left (R328). -/
def Dev.escape (d : Dev) (miss : List (Nat × Nat)) (dnLatest : Nat) : Dev :=
  d.atPhase 290 fun d =>
  if d.arr.handed = some d.beat ∨ d.prov.decl.isNone then d else
  let d := { d with arr := { d.arr with handed := some d.beat } }
  let a := (d.beat * 1024 + d.get F.ARR_APPLY.PHASE) * 64
  let d := d.zeroCount
  let (d, hop) := d.hopStep a
  let d := d.each (d.cellsDecl.filter (fun k => d.cellRole k == 1 && d.switching (d.strOf k))) (fun d k => d.carAt k a)
  let d := d.each (List.range d.dcl.strings) (fun d s => d.respreadDone s)
  let (d, plans) := (List.range d.dcl.strings).foldl (fun (x : Dev × List (Nat × Plan)) s => let (e, p) := x.1.plans s; (e, x.2 ++ p)) (d, [])
  -- R320: every command of the beat is made and sent before anything that is recorded from here on
  let (d, cmds) := (d.cellsDecl.filter d.laneUp).foldl (fun (x : Dev × List (Nat × Option Nat × List Nat)) k =>
    match miss.find? (fun m => m.1 == k) with
    | some m => (x.1, x.2 ++ [(k, some m.2, [])])
    | none => let (e, ws) := x.1.cellCommand k a hop plans; (e, x.2 ++ [(k, none, ws)])) (d, [])
  let d := d.each cmds (fun d c =>
    match c.2.1 with
    | some t => (d.inc F.GLB_TIMING_MISS.COUNT 1).raise 194 4 c.1 (leBytes 4 t)
    | none => if d.laneUp c.1 then d.cmdSend c.1 c.2.2 else d)
  let d := d.each (cmds.filter (fun c => c.2.1.isNone)) (fun d c => d.dtRange c.1)
  d.set F.GLB_TIMING.DN_LATEST dnLatest

def execEscapement (miss : List (Nat × Nat)) (dnLatest : Nat) (s : State) : Host.Outcome State Fault Refusal := onMain s fun d => d.escape miss dnLatest

/-! Slots (R295) -/

/-- R295: a slot's release: the array feeds the slots that depend on others, the slot is evaluated, and its owner takes the output. -/
def execSlotRelease (k : Fin 1024) (late : Option Nat) (s : State) : Host.Outcome State Fault Refusal := onMain s fun d =>
  d.atPhase (d.get F.SLOT_CFG.RELEASE k) fun d =>
  if !(d.bit F.SLOT_CFG.EN k && !d.bit F.SLOT_CFG.MEMBER k && d.slotRuns k) then d
  else
    let d := if d.owner k = 1 then d.arrFeed k else d
    ((d.slotGo k late).osRelease k).colRelease k

end Sys2Proof.Machine
end

