-- ==== Sys2Proof/Machine/Supply.lean ====
section
/-! DEFINITION. Supplies, resets, the save window, SLEEP and waking, and the boot (R41 to R45, R53 to R63, R86 to R92, R162, R325, R326). -/

namespace Sys2Proof.Machine

/-! Records in MRAM -/

/-- The bytes of a tick-count record in its slot. (DESIGN CHOICE: note 54.) -/
def TickRec.bytes (r : TickRec) : List Nat := leBytes 8 r.tick ++ leBytes 6 r.sec ++ leBytes 4 r.ns ++ [b2n r.ntValid]

/-- R55, R91: the tick-count record in use. -/
def Mram.tickRec (m : Mram) : Option TickRec := (mramUse TickRec.bytes m.tickRecs).map (·.body)

/-- R55: a tick-count record: the tick count, the network time of that tick, and whether it is valid. -/
def Dev.tickRecord (d : Dev) : Dev :=
  let nt := (d.ntNs (d.stamp * 64)).toNat
  let r : TickRec := ⟨d.stamp, nt / 1000000000, nt % 1000000000, d.bit F.CHR_STATE.VALID⟩
  { d with mram := { d.mram with tickRecs := mramPut TickRec.bytes d.mram.tickRecs r } }

/-- R444: what a save holds of metering: totals and record numbers. (DESIGN CHOICE: note 54.) -/
def metKey (k : Nat) : Bool :=
  let o := k / 64 - 0xA00800
  0xA00800 ≤ k / 64 && o < 0x400 && ((0x18 ≤ o % 0x80 && o % 0x80 < 0x48) || o % 0x80 == 0x50)

/-- R277: the ledger summaries: every account with its fraction, Ĉ and S. (DESIGN CHOICE: note 54.) -/
def ledgerKey (k : Nat) : Bool :=
  let o := k / 64 - 0x510000
  0x510000 ≤ k / 64 && o < 0x18000 && [0x10, 0x18, 0x20, 0x2C].contains (o % 0x400)

/-- The bytes of an open interval in a save slot. (DESIGN CHOICE: note 54.) -/
def Interval.bytes (x : Interval) : List Nat :=
  ([x.start, x.stop, x.imp, x.exp, x.nImp, x.nExp, x.nNoload, x.nGap, x.flags, x.gapStart, x.lastTick] ++ x.q).flatMap (leBytes 8)

/-- R91: what the CRC-32 of a save slot covers: its contents in one fixed order; the spec lists the contents and gives no layout. (DESIGN CHOICE: note 54.) -/
def Save.bytes (x : Save) : List Nat :=
  leBytes 4 x.seq ++ leBytes 4 x.boot ++ leBytes 8 x.tick ++ leBytes 4 x.catId ++ leBytes 4 x.catRev ++ x.stale ++ x.anchor.bytes
    ++ x.regs.flatMap (fun y => leBytes 8 y.1 ++ leBytes 8 y.2)
    ++ x.intervals.flatMap (fun y => match y with | some i => 1 :: i.bytes | none => [0])

/-- R91: a slot with its valid mark present and its CRC right. -/
def Save.good (x : Save) : Bool := x.valid && crc32 x.bytes == x.crc

/-- R91: which save slot is in use. -/
def Mram.saveAt (m : Mram) : Option Bool :=
  let n := fun (i : Nat) => (m.saves.getD i none).bind (fun x => if x.good then some x.seq else none)
  laterSlot (n 0) (n 1)

/-- R91: the save slot in use. -/
def Mram.saveUse (m : Mram) : Option Save :=
  match m.saveAt with
  | some b => m.saves.getD (b2n b) none
  | none => none

/-- R91: the slot to be written, the one that is not in use. -/
def Mram.saveSpare (m : Mram) : Nat := match m.saveAt with | some b => 1 - b2n b | none => 0

/-- R91: a save begins: its slot loses its valid mark, which is written last. -/
def Dev.saveBegin (d : Dev) : Dev :=
  { d with mram := { d.mram with saves := d.mram.saves.modify d.mram.saveSpare (Option.map (fun x => { x with valid := false })) } }

/-- R91, R325, R326, R444: a save slot is written, its valid mark last. -/
def Dev.saveSlot (d : Dev) : Dev :=
  let n := match d.mram.saveUse with | some x => (x.seq + 1) % 2 ^ 32 | none => 0
  let x : Save := ⟨true, 0, n, d.mram.boots, d.tick, d.regs.filter (fun (y : Nat × Nat) => metKey y.1 || ledgerKey y.1), d.metEl.map (·.open_), d.met.stale,
    d.anchorOf 2, d.get F.GLB_CAT_ID.ID, d.get F.GLB_CAT_REV.REVISION⟩
  { d with mram := { d.mram with saves := d.mram.saves.set d.mram.saveSpare (some { x with crc := crc32 x.bytes }) } }

/-! The safety parameters in MRAM (R154) -/

/-- R154: the write of the parameters that CONFIRM made take effect is complete. -/
def Dev.safeStore (d : Dev) : Dev :=
  match d.prov.safeWrite with
  | some (_, b) => { d with prov := { d.prov with safeWrite := none }, mram := { d.mram with safety := mramPut id d.mram.safety b } }
  | none => d

/-- R515: the latch's write stands in MRAM where its instant has come. -/
def Dev.latchFlush (d : Dev) : Dev :=
  match d.saf.latchAt with
  | some t => if t ≤ d.tick then { d with mram := { d.mram with latch := d.saf.latch }, saf := { d.saf with latchAt := none } } else d
  | none => d

/-- R154, R160, R515: the writes under way stand in MRAM where their instant has come; one that a reset comes before is lost. -/
def Dev.safeFlush (d : Dev) : Dev :=
  let d := (d.latchFlush).anchorFlush
  match d.prov.safeWrite with
  | some (t, _) => if t ≤ d.tick then d.safeStore else d
  | none => d

/-- R154: the write begins: its slot loses its valid mark; it ends within 10 ms, at an instant that is free. -/
def Dev.safeBegin (d : Dev) (b : List Nat) : Dev :=
  let d := d.safeStore
  let t := d.tick + Config.freeNat d.freeCtr % (msT 10 + 1)
  ({ d with prov := { d.prov with safeWrite := some (t, b) }, mram := { d.mram with safety := mramVoid id d.mram.safety } }).free

/-- Saved register values come back. -/
def Dev.regsBack (d : Dev) (l : List (Nat × Nat)) : Dev := { d with regs := l.foldl (fun r (x : Nat × Nat) => regPut r x.1 x.2) d.regs }

/-! Resets (R86) -/

/-- R85: the Reserve registers, which a main-domain reset leaves. -/
def reserveKey (k : Nat) : Bool := 0x100000 ≤ k / 64 && k / 64 < 0x101000

/-- R86, R92: the main domain is reset and held, with a cause bit for its next boot. -/
def Dev.holdMain (d : Dev) (bit : Nat) (stand : Main) : Dev :=
  let d := d.safeFlush
  let p := d.pwr
  let cause := if bit = 8 then p.cause else p.cause ||| 2 ^ bit
  let p := { p with main := stand, cause := cause, saveWin := false, sleepEntry := false, bootFailed := false, linkUp := false, mclk := false
                    syncOutUntil := 0, ppsOut := false, loopLevel := false, canStb := p.canHeld.map (!·) }
  Dev.mainReset (d.regs.filter (fun (x : Nat × Nat) => reserveKey x.1)) d.tick d.freeCtr d.out p d.mram d.saf.latch

/-- R86: a reset source of the main domain, where it is powered. -/
def Dev.mainCause (d : Dev) (bit : Nat) : Dev := if d.pwr.main = .off then d else d.holdMain bit .held

/-- R43, R41: the Reserve domain starts; TEST_EN is sampled; the Reserve registers take their values of the first application. (DESIGN CHOICE: note 21.) -/
def execReserveStart (testEn : Bool) (supplies : Supplies) (s : State) : Host.Outcome State Fault Refusal :=
  let d := s.dev
  if d.pwr.reserveOn then .next s
  else
    let p := { Pwr.first with testEn := testEn, vinOk := supplies.vin, vsdoOk := supplies.vsdo }
    let d := Dev.mainReset [] d.tick d.freeCtr d.out p d.mram d.mram.latch
    done s (((d.setB F.RSV_STATUS.VIN_OK supplies.vin).setB F.RSV_STATUS.VKEEP_OK supplies.vkeep).setB F.RSV_VWARN.BELOW (!supplies.vin))

/-- R43: the higher supply falls below 2.3 V: the Reserve domain and the Detent are reset, and nothing runs. -/
def execReserveReset (s : State) : Host.Outcome State Fault Refusal := onReserve s fun d =>
  Dev.mainReset [] d.tick d.freeCtr d.out Pwr.none d.mram none

/-- R45, R84: the save window opens: the supply warning, the shedding of the fast domains, and the writes it begins with. (DESIGN CHOICE: note 20.) -/
def Dev.saveOpen (d : Dev) : Dev :=
    let d := { d with pwr := { d.pwr with saveWin := true } }
    let d := ((d.saveBegin).arm .saveEnd (usT 2100)).raise 5 4 0
    -- R84: every waiting request is refused
    let waits := d.loanWait
    let d := ({ d with loanWait := [] }).waitSync
    let d := d.each waits (fun d q => d.refuse q.op q.inst 3)
    -- R498: a dump ends
    let d := if d.bit F.ARC_STATE.DUMPING then
        (match d.reg.dump with
         | some (_, _, n, image) =>
           let k := d.dumpPart n
           let d := ((d.free).setB F.ARC_STATE.DUMPING false).set F.ARC_DUMPED.BYTES (65536 * k)
           ({ d with reg := { d.reg with dump := none } }).raise 197 0 image ([3, 0, 0, 0] ++ leBytes 4 k)
         | none => d)
      else d
    -- R45 step 3: lanes dark, PLLs stopped, Loop Engine and metering stopped; their loans go back
    let d := d.metStop
    let d := d.each (List.range 96) (fun d k => (d.set F.LANE_STATUS.STATE 0 k).lane k (fun _ => Lane.init))
    let d := d.each [1, 2, 3] (fun d p => { d.pllOff p with clk := { (d.pllOff p).clk with demand := d.clk.demand.set p [] } })
    let d := d.each [1, 2, 3] (fun d p => d.setB F.PLL_STATUS.DEMAND false p)
    let d := (d.set F.LE_STATUS.RATE 0).each d.loans (fun d (l : Loan) => d.loanReturn l.op l.inst)
    -- R45 step 4, R55, R160
    (d.tickRecord).anchor 2

/-- R45, R58: VIN is below VWARN: the save window opens where the main domain runs; a start that waits goes on waiting. -/
def Dev.vinLow (d : Dev) : Dev :=
  let x := (({ d with pwr := { d.pwr with vinOk := false } }).setB F.RSV_VWARN.BELOW true).setB F.RSV_STATUS.VIN_OK false
  if d.live ∧ !d.pwr.saveWin then x.saveOpen else x

/-- R45: VIN falls below VWARN. -/
def execVinBelowVwarn (s : State) : Host.Outcome State Fault Refusal := onReserve s fun d =>
  d.vinLow

/-- R45 step 5, R91: the save is complete; the main domain is held in reset. (DESIGN CHOICE: note 20.) -/
def execSaveWindowEnd (s : State) : Host.Outcome State Fault Refusal := onMain s fun d =>
  if d.pwr.saveWin then d.fire .saveEnd (fun d => (d.saveSlot).holdMain 2 .held) else d

/-- R43, R46: VIN falls below 4.4 V: the main domain is reset; a save under way is lost. -/
def execVinBelow4v4 (s : State) : Host.Outcome State Fault Refusal := onReserve s fun d =>
  let d := { d with pwr := { d.pwr with vinOk := false, vinFell := true } }
  ((d.setB F.RSV_VWARN.BELOW true).setB F.RSV_STATUS.VIN_OK false).mainCause 1

/-- R44: VSDO is in its range or lost; where it is lost both safe-disable outputs drop. -/
def Dev.vsdo (d : Dev) (present : Bool) : Dev :=
  let d := { d with pwr := { d.pwr with vsdoOk := present } }
  if present then d else d.sdoDrop true true

/-- R44: VSDO is lost. (DESIGN CHOICE: note 21.) -/
def execVsdoLost (s : State) : Host.Outcome State Fault Refusal := onReserve s fun d =>
  d.vsdo false

/-- R42: a low on MRST_N. -/
def execMrstNLow (s : State) : Host.Outcome State Fault Refusal := onReserve s fun d =>
  ({ d with pwr := { d.pwr with mrstLow := true } }).mainCause 3

/-- R42, R143: a low on PERST_N resets the endpoint and the rings only. -/
def execPerstNLow (s : State) : Host.Outcome State Fault Refusal := onMain s fun d =>
  let d := { d with pwr := { d.pwr with linkUp := false, perstLow := true } }
  (d.functionOff 0).functionOff 1

/-- R143: the link is lost: the rings of both functions stop. -/
def execPcieLinkLoss (s : State) : Host.Outcome State Fault Refusal := onMain s fun d =>
  (({ d with pwr := { d.pwr with linkUp := false } }).functionOff 0).functionOff 1

/-- R109, R42: the link comes up, PERST_N being released; the host then sets up the functions by writes to their configuration spaces. -/
def execPcieLinkUp (s : State) : Host.Outcome State Fault Refusal := onMain s fun d => { d with pwr := { d.pwr with linkUp := true, perstLow := false } }

/-- R143: a function level reset. (PRESUMED: note 11.) -/
def execFunctionLevelReset (f : Fin 2) (s : State) : Host.Outcome State Fault Refusal := onMain s fun d => d.functionOff f

/-- R88, R160: a Keeper watchdog expires; outside the states for which R88 names a class, the event is of class C1. (DESIGN CHOICE: note 32.) -/
def execKeeperWdExpiry (_core : Fin 2) (s : State) : Host.Outcome State Fault Refusal := onMain s fun d =>
  if (d.due .keeperReset).isSome then d
  else ((d.raise 2 (if d.energy then 4 else 1) 0).anchorBegin).arm .keeperReset (msT 10)

/-- R88: the reset 10 ms after a watchdog expiry. -/
def execKeeperWdReset (s : State) : Host.Outcome State Fault Refusal := onMain s fun d => d.fire .keeperReset (·.holdMain 5 .held)

/-! Reserve domain (R54 to R58) -/

/-- R54: the crystal stopped. -/
def execXkeepRcSwitch (s : State) : Host.Outcome State Fault Refusal := onReserve s fun d =>
  if d.bit F.RSV_STATUS.XKEEP_RC then d
  else
    let d := (d.setB F.RSV_STATUS.XKEEP_RC true)
    let d := { d with pwr := { d.pwr with xkeepAt := d.get F.RSV_TIME.COUNT + 32768 } }
    if d.live then d.raise 4 1 0 else { d with pwr := { d.pwr with xkeepEvent := true } }

/-- R53: time passes to a Reserve count that has not passed. -/
def Dev.toCount (d : Dev) (c : Nat) : Dev :=
  let n := d.get F.RSV_TIME.COUNT
  if c ≤ n then d else d.elapse (((c - n) * 100000000 - d.pwr.rsvAcc + 32767) / 32768)

/-- R54: the crystal is tried again, every 1 s; XKEEP_RC is cleared once it has given 1,024 consecutive good cycles. -/
def execXkeepRetry (good : Nat) (s : State) : Host.Outcome State Fault Refusal := onReserve s fun d =>
  if d.bit F.RSV_STATUS.XKEEP_RC then
    let d := d.toCount d.pwr.xkeepAt
    if 1024 ≤ good then (d.toCount (d.pwr.xkeepAt + 1024)).setB F.RSV_STATUS.XKEEP_RC false else { d with pwr := { d.pwr with xkeepAt := d.pwr.xkeepAt + 32768 } }
  else d

/-- R56, R58: a condition that has lasted for the filter's Reserve cycles latches its cause where the source is enabled. A filter of 0 acts as 1. -/
def Dev.wake (d : Dev) (en cause : Fld) (cycles filt : Nat) : Dev := if d.bit en ∧ max 1 filt ≤ cycles then d.setB cause true else d

/-- R56: CATP counts as present, for a number of Reserve cycles so far, or has fallen 30 mV below its threshold. -/
def Dev.catp (d : Dev) (present : Bool) (cycles : Nat) : Dev :=
  let d := d.setB F.RSV_CATP.LEVEL present
  if present then d.wake F.RSV_WAKE_EN.CATP F.RSV_WAKE_CAUSE.CATP cycles (d.get F.RSV_WAKE_FILT.CATP_FILT) else d

/-- R45, R56, R58, R85: VIN has been above VWARN + 0.5 V for 10 ms; after a fall below 4.4 V that is the VIN-return cause. -/
def Dev.vinBack (d : Dev) : Dev :=
  let x := (({ d with pwr := { d.pwr with vinOk := true, vinFell := false } }).setB F.RSV_VWARN.BELOW false).setB F.RSV_STATUS.VIN_OK true
  if d.pwr.vinFell then x.setB F.RSV_WAKE_CAUSE.VIN true else x

/-- R56, R85: an input that the Reserve domain watches has been at a level for a number of Reserve cycles; a filter that the level of a wake ball outlasts
latches the cause. 328 cycles are the 10 ms of VIN_OK. (DESIGN CHOICE: note 31.) -/
def execWakePin (x : WakeLevel) (s : State) : Host.Outcome State Fault Refusal := onReserve s fun d =>
  let pin := fun (n : Nat) (en cause : Fld) =>
    let d := { d with pwr := { d.pwr with wakeHigh := d.pwr.wakeHigh.set n x.high } }
    if x.high then d.wake en cause x.cycles (d.get F.RSV_WAKE_FILT.WAKE_FILT) else d
  match x.input with
  | .wake0 => pin 0 F.RSV_WAKE_EN.WAKE0 F.RSV_WAKE_CAUSE.WAKE0
  | .wake1 => pin 1 F.RSV_WAKE_EN.WAKE1 F.RSV_WAKE_CAUSE.WAKE1
  | .catp => d.catp x.high x.cycles
  | .vwarn => if x.high then d.setB F.RSV_VWARN.BELOW false else d.vinLow
  | .vinGood => if !x.high then d.setB F.RSV_STATUS.VIN_OK false else if 328 ≤ x.cycles then d.vinBack else d
  | .vkeep => d.setB F.RSV_STATUS.VKEEP_OK x.high
  | .vsdo => d.vsdo x.high

/-- R56: CATP has been above its threshold for the whole filter time. -/
def execCatpWake (s : State) : Host.Outcome State Fault Refusal := onReserve s fun d => d.catp true (max 1 (d.get F.RSV_WAKE_FILT.CATP_FILT))

/-- R56: a change of a safety input pair. -/
def execSafetyInputWake (n : Fin 8) (s : State) : Host.Outcome State Fault Refusal := onReserve s fun d =>
  if d.flag F.RSV_WAKE_EN.SI n then d.setFlag F.RSV_WAKE_CAUSE.SI n true else d

/-- R56, R57: CANn_RXD has been at a level for a number of Reserve cycles; low wakes while CANn_STB is high. -/
def execCanWake (x : CanLevel) (s : State) : Host.Outcome State Fault Refusal := onReserve s fun d =>
  let d := { d with pwr := { d.pwr with canLow := d.pwr.canLow.set x.n x.low } }
  let filt := d.get F.RSV_WAKE_FILT.CAN_FILT
  if !x.low || !d.pwr.canStb.getD x.n false then d
  else if x.n = 0 then d.wake F.RSV_WAKE_EN.CAN0 F.RSV_WAKE_CAUSE.CAN0 x.cycles filt else d.wake F.RSV_WAKE_EN.CAN1 F.RSV_WAKE_CAUSE.CAN1 x.cycles filt

/-- R56: the alarm's cause. -/
def Dev.alarmWake (d : Dev) : Dev := d.wake F.RSV_WAKE_EN.ALARM F.RSV_WAKE_CAUSE.ALARM 1 1

/-- R56: RSV_TIME.COUNT reaches RSV_ALARM.AT. -/
def execAlarm (s : State) : Host.Outcome State Fault Refusal := onReserve s fun d =>
  let a := d.get F.RSV_ALARM.AT
  if a = 0 ∨ a < d.get F.RSV_TIME.COUNT then d else (d.toCount a).alarmWake

/-- R45, R56, R58: VIN has been above VWARN + 0.5 V for 10 ms; after a fall below 4.4 V that is the VIN-return cause. -/
def execVinReturn (s : State) : Host.Outcome State Fault Refusal := onReserve s fun d =>
  if d.pwr.vinOk ∧ d.bit F.RSV_STATUS.VIN_OK then d else d.vinBack

/-! SLEEP (R60 to R63) -/

/-- A wake cause is latched. -/
def Dev.anyCause (d : Dev) : Bool := bitsAt (d.readWord 0x100014) 0 17 != 0

/-- R63, R57: the converters start, CANn_STB is released where its cause is latched; the reset is held until its release. -/
def Dev.wakeUp (d : Dev) : Dev :=
  let stb := [d.pwr.canStb.getD 0 true && !d.bit F.RSV_WAKE_CAUSE.CAN0, d.pwr.canStb.getD 1 true && !d.bit F.RSV_WAKE_CAUSE.CAN1]
  { d with pwr := { d.pwr with main := .held, asleep := false, cause := d.pwr.cause ||| 2 ^ 7, canStb := stb, canHeld := stb.map (!·) }, timers := [] }

/-- R63: a cause latched in SLEEP, with VIN above VWARN + 0.5 V. (DESIGN CHOICE: note 18.) -/
def execWakeSequence (s : State) : Host.Outcome State Fault Refusal := onReserve s fun d =>
  if d.pwr.asleep && d.pwr.main == .off && d.bit F.RSV_STATUS.VIN_OK && d.anyCause && (d.due .sleepRestart).isNone then d.wakeUp else d

/-- R62: a cause latched during SLEEP entry: the main domain restarts after 1 ms off. (DESIGN CHOICE: note 18.) -/
def execSleepRestartDelay (s : State) : Host.Outcome State Fault Refusal := onReserve s fun d =>
  if d.pwr.asleep && d.pwr.main == .off then
    d.fire .sleepRestart fun d => if d.bit F.RSV_STATUS.VIN_OK && d.anyCause then d.wakeUp else d
  else d

/-- R60: SLEEP is refused: a dump runs or an entry is not acknowledged. -/
def Dev.sleepBusy (d : Dev) : Bool := d.bit F.ARC_STATE.DUMPING || d.get F.VP_LOG_ACKED.SEQ < d.get F.VP_LOG_HEAD.SEQ || d.pwr.testEn

/-- R61: the records of a SLEEP entry: its STATE entry, the discard of commands due in the last 3 ms, the Archive's tick record, the anchor, the event. -/
def Dev.sleepRecords (d : Dev) (o : Orig) : Dev :=
  let d := d.log 4 o 0 0 QUIET 0
  let late := d.rings.pend.filter (fun (x : Pend) => x.c.beat * 1024 ≤ d.tick + msT 3)
  let d := ({ d with rings := { d.rings with pend := d.rings.pend.filter (fun (x : Pend) => !decide (x.c.beat * 1024 ≤ d.tick + msT 3)) } }).pendSync
  let d := d.each late (fun d (x : Pend) => d.finish x.op x.c QUIET 4 (0x0A + QUIET * 256) 0)
  ((d.tickRecord).anchor 2).raise 3 0 0

/-- R62: the 5 ms of the entry pass; an alarm that falls inside them is latched all the same. -/
def Dev.sleepFall (d : Dev) : Dev :=
  let at_ := d.get F.RSV_ALARM.AT
  let due := decide (at_ ≠ 0 ∧ d.get F.RSV_TIME.COUNT < at_)
  let d := d.elapse (msT 5)
  if due ∧ at_ ≤ d.get F.RSV_TIME.COUNT then d.alarmWake else d

/-- R61: SLEEP entry, from its origin to the unpowered main domain. (DESIGN CHOICE: note 19.) -/
def Dev.sleepEnter (d : Dev) (o : Orig) : Dev :=
  let d := ((d.sleepRecords o).sleepFall).holdMain 8 .off
  ({ d with pwr := { d.pwr with asleep := true, canStb := [true, true], canHeld := [false, false], cause := 0 } }).arm .sleepRestart (msT 1)

/-- R60: SLEEP. (DESIGN CHOICE: note 19.) -/
def execSleep (c : HostCmd) (s : State) : Host.Outcome State Fault Refusal := onMain s fun d =>
  match d.command 0x10 c (fun d => (d, if d.sleepBusy then .badState else .applied 0)) with
  | (d, true) => d.sleepEnter (Orig.cmd c)
  | (d, false) => d

/-- R60: the idle time has passed in QUIET; a refused entry is tried again a minute later. -/
def execIdleSleepTimeout (s : State) : Host.Outcome State Fault Refusal := onMain s fun d =>
  if d.st ≠ QUIET ∨ d.get F.RSV_CTRL.IDLE_SLEEP = 0 then d
  else
    let at_ := (d.due .idleSleep).getD (d.rings.lastCmd + d.get F.RSV_CTRL.IDLE_SLEEP * 6000000000)
    d.wait at_ fun d =>
    let d := d.disarm .idleSleep
    if d.sleepBusy then d.arm .idleSleep 6000000000 else d.sleepEnter .reserve

/-! Commands -/

/-- R122: NOP. -/
def execNop (c : HostCmd) (s : State) : Host.Outcome State Fault Refusal := onMain s fun d => d.simple 0x01 c id

/-- R87, R160: DEVICE_RESET. -/
def execDeviceReset (c : HostCmd) (s : State) : Host.Outcome State Fault Refusal := onMain s fun d =>
  match d.command 0x11 c (fun d => (d, .applied 0)) with
  | (d, true) => (d.anchor 2).holdMain 6 .held
  | (d, false) => d

/-- R89, R577: FW_UPDATE writes the slot that is not running. (DESIGN CHOICE: note 23.) -/
def Dev.fwUpdate (d : Dev) (c : HostCmd) : Dev × Option Nat :=
  match c.payload with
  | .firmware x => ({ d with mram := { d.mram with fw := d.mram.fw.set (1 - d.get F.GLB_BOOT.IMAGE) (some x) } }, none)
  | _ => (d.fetchAer c, some 1)

def execFwUpdate (c : HostCmd) (s : State) : Host.Outcome State Fault Refusal := onMain s fun d => d.checked 0x12 c (·.fwUpdate c)

/-- R95, R122: KEY_ENROL: slot 0 takes the digest of the 64-byte public key. (DESIGN CHOICE: note 24.) -/
def Dev.keyEnrol (d : Dev) (c : HostCmd) : Dev × Option Nat :=
  match c.payload with
  | .key k =>
    if d.mram.keys.all (· == .empty) then ({ d with mram := { d.mram with keys := d.mram.keys.set 0 (.digest (sha256 k)) } }, none) else (d, some 1)
  | _ => (d.fetchAer c, some 2)

def execKeyEnrol (c : HostCmd) (s : State) : Host.Outcome State Fault Refusal := onMain s fun d => d.checked 0x13 c (·.keyEnrol c)

/-- R95: a key slot holds a key that is enrolled and not revoked. -/
def KeySlot.live : KeySlot → Bool
  | .digest _ => true
  | _ => false

/-- R95: KEY_CHANGE: `signer` is the slot whose key verifies the payload. A revoked slot is never used again; one revoked while empty, of which the
spec says nothing, is revoked too and is never enrolled. (DESIGN CHOICE: note 24.) -/
def Dev.keyChange (d : Dev) (c : HostCmd) : Dev × Option Nat :=
  match c.payload with
  | .keyChange signer enrol revoke =>
    let good := match signer with | some i => (d.mram.keys.getD i .empty).live | none => false
    if !good then (d, some 1)
    else
      let ks := match revoke with | some i => d.mram.keys.set i .revoked | none => d.mram.keys
      let ks := match enrol with | some (i, k) => if ks.getD i .revoked = .empty then ks.set i (.digest k) else ks | none => ks
      ({ d with mram := { d.mram with keys := ks } }, none)
  | _ => (d.fetchAer c, some 2)

def execKeyChange (c : HostCmd) (s : State) : Host.Outcome State Fault Refusal := onMain s fun d => d.checked 0x14 c (·.keyChange c)

/-! The boot (R90) -/

/-- R89: the firmware image that starts: the highest version among those that qualify, slot A first. (DESIGN CHOICE: note 23.) -/
def Mram.image (m : Mram) : Option (Nat × FwImage) :=
  let ok := fun (i : Nat) => match m.fw.getD i none with
    | some x => if x.sigOk && x.keyOk && m.secFloor ≤ x.security then some (i, x) else none
    | none => none
  match ok 0, ok 1 with
  | some a, some b => if a.2.version < b.2.version then some b else some a
  | some a, none => some a
  | none, b => b

/-- R575: the identity of the module. -/
def Dev.identify (d : Dev) : Dev :=
  let d := (d.set F.GLB_STEP.STEP (Config.identity 0)).set F.GLB_STEP.DETENT_STEP (Config.identity 1)
  let d := (d.set F.GLB_ROM.VERSION (Config.identity 2)).set F.GLB_VARIANT.VARIANT (Config.identity 3 % 2)
  d.set F.GLB_SERIAL.SERIAL (Config.serialLess1 % (2 ^ 64 - 1) + 1)

/-- R162: the anchors that MRAM and the save slot in use hold. -/
def Mram.anchors (m : Mram) : List Anchor := m.blockRing ++ m.eventRing ++ m.saveUse.toList.map (·.anchor)

/-- R162: the anchor with the highest SEQ. -/
def newestAnchor (l : List Anchor) : Option Anchor :=
  l.foldl (fun m a => match m with | none => some a | some x => if x.seq < a.seq then some a else some x) none

/-- R55, R455: the tick count and network time at a main-domain start. (DESIGN CHOICE: note 22.) -/
def Dev.startTick (d : Dev) : Dev :=
  let t := (d.get F.RSV_TIME.COUNT * 100000000 + 32767) / 32768
  let t := match d.mram.tickRec with | some r => max t (r.tick + 2 ^ 30) | none => t
  let d := { d with tick := t, chr := { d.chr with edge0 := t } }
  match d.mram.tickRec with
  | some r => if r.ntValid then d.ntSet (((r.sec * 1000000000 + r.ns + (d.tick - r.tick) * 10) * 2 ^ 32 : Nat) : Int) else d
  | none => d

/-- R162: the log resumes: the BOOT entry and an anchor of type 2. (DESIGN CHOICE: note 26.) While a ring holds no anchor the spec gives its newest
index and its records no value: the index reads one below 0 and the records read zero. (DESIGN CHOICE: note 125.) -/
def Dev.logResume (d : Dev) (found : Option Anchor) : Dev :=
  let boot := d.mram.boots
  let start := match found with | some a => ((a.seq >>> 12) + 2) <<< 12 | none => (boot - 1) * 2 ^ 40
  let d := { d with prov := { d.prov with chain := (match found with | some a => a.h | none => 0), anchorTick := d.tick } }
  let d := (d.set F.VP_LOG_HEAD.SEQ start).set F.VP_LOG_ACKED.SEQ start
  let d := (d.set F.VP_ANCHOR_NEWEST.INDEX ((d.mram.blockAt + 1023) % 1024)).set F.VP_ANCHOR_NEWEST.T_INDEX ((d.mram.eventAt + 63) % 64)
  let old := match found with | some a => a.seq | none => 2 ^ 64 - 1
  (d.log 9 .boot (d.get F.GLB_RESET_CAUSE.CAUSE) 0 old start).anchor 2

/-- R91, R325, R326, R444: the save slot in use comes back. (DESIGN CHOICE: notes 26, 54.) -/
def Dev.saveRestore (d : Dev) : Dev :=
  match d.mram.saveUse with
  | none => if d.mram.boots = 1 then d else d.raise 1 1 0
  | some x =>
    let d := (d.setB F.GLB_BOOT.SAVE_OK true).regsBack (x.regs.filter (fun (y : Nat × Nat) => metKey y.1))
    let d := d.each (List.range 8) (fun d e => d.mel e (fun y => { y with open_ := x.intervals.getD e none }))
    let last := (d.mram.blockRing ++ d.mram.eventRing).foldl (fun m a => if a.boot < d.mram.boots then max m a.boot else m) 0
    if x.boot < last then
      ({ d with met := { d.met with stale := List.range 8 } }).raise 195 1 0 (leBytes 8 x.tick)
    else { d with met := { d.met with stale := x.stale } }

/-- R154, R518: the committed safety parameters, or those of a module that has never committed, with CRC 0. -/
def Dev.safetyReload (d : Dev) : Dev :=
  match mramUse id d.mram.safety with
  | some x => (({ d with prov := { d.prov with committed := true } }).safetyApply x.body false).set F.VP_SAFE_IN_FORCE.CRC x.crc
  | none => (d.safetyApply Prov.neverCommitted false).set F.VP_SAFE_IN_FORCE.CRC 0

/-- R513: both parts have passed their self-test and begin every diagnostic anew: each is healthy once the first interval of all has passed, the
off-pulse tests' 10 s where they are made, 100 ms otherwise. (DEDUCED: note 99.) -/
def Dev.healthStart (d : Dev) : Dev :=
  let t := d.tick + (if d.bit F.SAF_GLOBAL.SDO_TEST then msT 10000 else msT 100)
  (({ d with saf := { d.saf with health := [some t, some t] } }).arm (.offPulse 0) (msT 5000)).arm (.offPulse 1) (msT 10000)

/-- R515: the lock-out latch as the Detent and MRAM hold it. -/
def Dev.latchBack (d : Dev) : Dev :=
  match (match d.saf.latch with | some x => some x | none => d.mram.latch) with
  | some (src, obj, t) =>
    let d := ((d.setB F.SAF_STATE.LATCHED true).set F.SAF_LATCH_CAUSE.SOURCE src).set F.SAF_LATCH_CAUSE.OBJECT obj
    { d.set F.SAF_LATCH_TICK.TICK t with saf := { d.saf with latch := some (src, obj, t) }, mram := { d.mram with latch := some (src, obj, t) } }
  | none => d

/-- R90: the boot, into QUIET. (DESIGN CHOICE: notes 27, 36.) DEV_RESET leaves the accession queue empty (R92). (DEDUCED: note 127.) -/
def Dev.boot (d : Dev) (selfTest : Bool) : Dev :=
  let cause := d.pwr.cause
  let d := { d with pwr := { d.pwr with main := .running, mrstLow := false, cause := 0 }, mram := { d.mram with bootRecs := mramPut (leBytes 4) d.mram.bootRecs ((d.mram.boots + 1) % 2 ^ 32) } }
  let found := newestAnchor d.mram.anchors
  let d := (d.startTick).identify
  let d := (d.set F.GLB_RESET_CAUSE.CAUSE cause).set F.GLB_CAT_FLOOR.FLOOR d.mram.catFloor
  let d := (((d.setB F.PLL_STATUS.LOCKED true 0).setB F.PLL_STATUS.DEMAND true 0).set F.PLL_CTRL.REF_MODE (d.get F.RSV_CTRL.PLLC_REF) 0).setB F.RSV_STATUS.REFCLK_OK true
  -- R89
  let img := d.mram.image
  let good := img.isSome && selfTest
  let d := match img with
    | some (i, x) => ((d.set F.GLB_BOOT.IMAGE i).setB F.GLB_BOOT.SIG_OK true).set F.GLB_FW_VERSION.VERSION x.version
    | none => d
  let d := d.setB F.GLB_BOOT.SELFTEST_OK selfTest
  let floor := if good then max d.mram.secFloor (match img with | some (_, x) => x.security | none => 0) else d.mram.secFloor
  let d := { d with mram := { d.mram with secFloor := floor }, pwr := { d.pwr with bootFailed := !good } }
  let d := d.set F.GLB_BOOT.SECFLOOR floor
  -- R162, R91, R326, R154, R515
  let d := (d.logResume found).arm .tickRec (2 ^ 30)
  let d := if found.isNone ∧ d.mram.boots ≠ 1 then d.raise 1 1 0 else d
  let d := (d.saveRestore).latchBack
  let d := { d with saf := { d.saf with permit := true }, rings := { d.rings with lastCmd := d.tick } }
  let d := d.safetyReload
  let d := if selfTest then d.healthStart else d
  -- R37, R92, R54, R490
  let d := if good then d.setB F.REG_ERR.P true else d
  let d := (d.set F.GLB_STATE_SINCE.BEAT d.beat).raise 0 1 0
  let d := if d.pwr.xkeepEvent then ({ d with pwr := { d.pwr with xkeepEvent := false } }).raise 4 1 0 else d
  match d.pwr.regSelf with
  | some x => ({ d with pwr := { d.pwr with regSelf := none } }).record 192 5 0 [x]
  | none => d

/-- R90: the main-domain reset is released. (DESIGN CHOICE: note 18.) -/
def execMainResetRelease (selfTest : Bool) (s : State) : Host.Outcome State Fault Refusal := onReserve s fun d =>
  if d.pwr.main == .held && d.pwr.vinOk then d.boot selfTest else d

/-- R55: the tick-count record of every 2^30 ticks. -/
def execTickRecordWrite (s : State) : Host.Outcome State Fault Refusal := onMain s fun d => d.fire .tickRec fun d => (d.tickRecord).arm .tickRec (2 ^ 30)

end Sys2Proof.Machine
end

