-- ==== Sys2Proof/Machine/Clocks.lean ====
section
/-! DEFINITION. Clocks (R64 to R75) and the LPDDR5 (R77): starts, stops and losses of the PLLs, hops, SYNC_IN and phase steps of PLL-S, and the
steps of self-refresh. -/

namespace Sys2Proof.Machine

/-- R64, R66, R77: a PLL that is starting locks. -/
def execPllLock (p : Fin 4) (s : State) : Host.Outcome State Fault Refusal := onMain s fun d =>
  if !d.clk.starting.getD p false then d
  else
    let d := { d with clk := { d.clk with starting := d.clk.starting.set p false } }
    let d := (d.setB F.PLL_STATUS.LOCKED true p).loanReduce p 0
    if p = 1 then (((d.toEdge).setB F.CHR_STATE.FULL_RES true).metStart).each (List.range 12) (fun d g => d.groupGo g)
    else if p = 2 then (d.disarm .startLock).colReady
    else d

/-- R65: a PLL stops 100 ms after its last demand has ended. -/
def execPllStopTimeout (p : Fin 4) (s : State) : Host.Outcome State Fault Refusal := onMain s fun d =>
  d.fire (.pllStop p) fun d => if (d.clk.demand.getD p []).isEmpty ∧ !d.bit F.PLL_CTRL.FORCE_ON p then d.pllOff p else d

/-- A gate channel is not OFF. -/
def Dev.gateOn (d : Dev) : Bool := (List.range 32).any (fun x => d.get F.GD_STATUS.CMD x != 0)

/-- R69, R70: a PLL loses lock (`ref` false) or its reference, with the device in an energy state (`hot`) and some gate channel not OFF (`gates`) at the loss: gated off, flagged, counted, its loan returned, and its event raised. (DESIGN CHOICE: note 32.) -/
def Dev.pllLost (d : Dev) (p : Nat) (ref hot gates : Bool) : Dev :=
  let d := (if p = 0 then d.setB F.PLL_STATUS.LOCKED false 0 else d.pllOff p).setB (if ref then F.PLL_STATUS.REF_LOST else F.PLL_STATUS.LOCK_LOST) true p
  let d := d.inc F.PLL_LOSS_COUNT.COUNT 1 p
  let recent := d.tick :: (d.clk.losses.getD p []).filter (fun t => decide (d.tick - t < 1000000000))
  let d := { d with clk := { d.clk with losses := d.clk.losses.set p (recent.take 3), dead := d.clk.dead.set p (d.clk.dead.getD p false || decide (3 ≤ recent.length)) } }
  let cls := if p = 2 then (if gates then 4 else 1) else if p = 3 then 1 else if hot then 5 else 1
  let d := match p with
    | 0 => (d.anchorBegin).arm .pllReset (msT 10)
    | 1 => (d.metStop).lanesOff false
    | 2 => (if gates then (((d.softOffs [0, 1, 2]).grpFast 0).grpFast 1).cond (d.colMoving || d.get F.COL_STATUS.STATE == 6) (·.colHeld) else d).startEnd
    | _ => (d.holdover 1).each [0, 1] (fun d n => d.ethDown n)
  d.raise (8 + p) cls (b2n ref) (leBytes 8 (d.get F.PLL_LOSS_COUNT.COUNT p))

def execPllLockLost (p : Fin 4) (s : State) : Host.Outcome State Fault Refusal := onMain s fun d =>
  if d.bit F.PLL_STATUS.LOCKED p then d.pllLost p false d.energy d.gateOn else d

/-- R69: no REFCLK edge for 1 µs is a loss of reference for all four PLLs, each in the condition of that instant. (DESIGN CHOICE: note 32.) -/
def execRefclkLost (s : State) : Host.Outcome State Fault Refusal := onMain s fun d =>
  let hot := d.energy
  let gates := d.gateOn
  if d.bit F.RSV_STATUS.REFCLK_OK then (((d.setB F.RSV_STATUS.REFCLK_OK false).setB F.PLL_STATUS.LOCKED false 2).each [0, 1, 2, 3] (fun d p => d.pllLost p true hot gates)) else d

/-- R69, R86: the main domain is reset 10 ms after a loss of PLL-C or REFCLK. -/
def execPllLossReset (s : State) : Host.Outcome State Fault Refusal := onMain s fun d => d.fire .pllReset fun d => d.mainCause 4

/-! PLL-S: hops, SYNC_IN and phase steps (R71 to R75) -/

/-- R71: the search of a hop entry completes; the codes it finds are free. (DESIGN CHOICE: note 17.) -/
def execPllsHopSearchDone (h : Fin 16) (s : State) : Host.Outcome State Fault Refusal := onMain s fun d =>
  d.fire (.hopSearch h) fun d =>
    (((d.set F.PLLS_HOP.BAND (Config.bandCode d.freeCtr) h).set F.PLLS_HOP.CAP (Config.capCode d.freeCtr) h).setB F.PLLS_HOP.VALID true h).free

/-- R72: the idle core has locked: the output switches at the next period boundary of the sync master, or at once where it runs no period. (DESIGN CHOICE: note 34.) -/
def execPllsHopSwitch (s : State) : Host.Outcome State Fault Refusal := onMain s fun d =>
  d.fire .hopLock fun d =>
    let m := d.get F.PWM_SYNC.MASTER
    let d := d.stepSync
    let p := unit d.pwm m
    let runs := p.length ≠ 0 ∧ d.get F.PW_CFG.FUNC m ≠ 0 ∧ !d.bit F.PWM_STAGE.HELD (d.stageOf m)
    let d := if runs then d.until (d.osWhen p.start p.length / 64) else d
    (d.setB F.PLLS_SEL.HOP_BUSY false).freqSet (d.get F.PLLS_HOP.FREQ (d.get F.PLLS_SEL.ENTRY))

/-- R73: acquisition of one output period: phase by at most 64 sub-ticks, frequency by at most 1 %. (DESIGN CHOICE: note 34.) -/
def Dev.syncAcquire (d : Dev) (instant goal : Nat) : Dev :=
  let m := d.get F.PWM_SYNC.MASTER
  let p := unit d.pwm m
  let f := d.clk.freq
  let want : Int := (instant : Int) + d.getS F.PLLS_SYNC.OFFSET
  let len : Int := max 1 (d.osAfter 0 p.length : Nat)
  let r := (want - (p.start : Int)) % len
  let err := if len < 2 * r then r - len else r
  let move := clampI (-64) 64 err
  let d := { d with pwm := d.pwm.map (fun (p : Pwm) => if p.length = 0 then p else { p with start := ((p.start : Int) + move).toNat }) }
  let d := d.freqSet (freqStep f goal)
  let near := goal ≤ f + f / 1000 && f ≤ goal + f / 1000 && err.natAbs ≤ 64
  let d := { d with clk := { d.clk with syncGood := if near then d.clk.syncGood + 1 else 0 } }
  if 16 ≤ d.clk.syncGood then d.setB F.PLLS_SYNC.LOCKED true else d

/-- R73, R74: a rising edge of SYNC_IN, with its instant in sub-ticks. (DESIGN CHOICE: note 34.) -/
def execSyncInEdge (instant : Nat) (s : State) : Host.Outcome State Fault Refusal := onMain s fun d =>
  let d := d.until (instant / 64)
  if !d.bit F.PLLS_SYNC.EN ∨ !d.bit F.PLL_STATUS.LOCKED 2 then d
  else
    let d1 := { d with clk := { d.clk with syncLast := some instant } }
    match d.clk.syncLast with
    | none => d1
    | some t =>
      let gap := instant - t
      -- the tick frequency the edge implies: the sync master's period in ticks times the SYNC_IN frequency
      let f := if gap = 0 then 0 else d.get F.PW_PERIOD.PERIOD (d.get F.PWM_SYNC.MASTER) * 6400000000 / gap
      if f < 90000000 ∨ 110000000 < f then d
      else if d.reg.active.contains (12, 0) then
        let n := d.clk.syncBack + 1
        if n < 16 then { d1 with clk := { d1.clk with syncBack := n } }
        else ({ d1 with clk := { d1.clk with syncBack := 0, syncGood := 0 } }).condOff 12 0
      else d1.syncAcquire instant f

/-- R74: no valid edge within 1.5 of the present periods. -/
def execSyncInLost (s : State) : Host.Outcome State Fault Refusal := onMain s fun d =>
  match d.clk.syncLast with
  | some t =>
    if !d.bit F.PLLS_SYNC.EN then d else
    let per := d.osAfter 0 (64 * d.get F.PW_PERIOD.PERIOD (d.get F.PWM_SYNC.MASTER))
    d.wait ((t + per * 3 / 2 + 63) / 64) fun d =>
    let d := { d with clk := { d.clk with syncLast := none, syncGood := 0, syncBack := 0 } }
    if d.reg.active.contains (12, 0) then d
    else ((((d.setB F.PLLS_SYNC.LOST true).setB F.PLLS_SYNC.LOCKED false).condOn 12 0).raise 12 1 0)
  | none => d

/-- R75: the phase move is complete: the last of it is due. -/
def execPllsPstepDone (s : State) : Host.Outcome State Fault Refusal := onMain s fun d =>
  d.fire .pstep fun d =>
    let d := d.stepSync
    let n := d.clk.pstep
    let d := { d with clk := { d.clk with pstep := 0 }, pwm := d.pwm.map (fun (p : Pwm) => if p.length = 0 then p else { p with start := ((p.start : Int) + n).toNat }) }
    d.setB F.PLLS_PSTEP.BUSY false

/-! The LPDDR5 and the Loop Engine's loan (R77) -/

/-- R77: 100 ms without an access in QUIET or STAGED; a copy or a dump under way goes on accessing. The entry of the loan's return is the last access. (DESIGN CHOICE: note 36.) -/
def execLpddr5SelfRefreshEntry (s : State) : Host.Outcome State Fault Refusal := onMain s fun d =>
  d.fire .lpddrIdle fun d =>
    if d.bit F.ARC_STATE.DUMPING ∨ !d.prov.reads.isEmpty then d.lpddrTouch
    else if d.st = QUIET ∨ d.st = STAGED then
      let d := (d.loanReturn 0 0).disarm .lpddrIdle
      { d with clk := { d.clk with lpddrAwake := false } }
    else d

/-- R77: an access; in self-refresh it waits for the exit it files. -/
def execLpddr5AccessAfterRefresh (s : State) : Host.Outcome State Fault Refusal := onMain s fun d => d.lpddrTouch

/-- R77: the exit completes: the loan is reduced and the accesses that waited go on. -/
def execSelfRefreshExitDone (s : State) : Host.Outcome State Fault Refusal := onMain s fun d =>
  d.fire .refreshExit fun d =>
    (({ d with clk := { d.clk with lpddrAwake := true, lpddrExiting := false, lpddrWait := 0 } }).loanReduce 0 0).arm .lpddrIdle (msT 100)

/-- R77: 1 ms after its full-rate start the Loop Engine's loan is reduced. -/
def execLoopEngineLoanReduction (s : State) : Host.Outcome State Fault Refusal := onMain s fun d => d.fire .loopLoan fun d => d.loanReduce 4 0

end Sys2Proof.Machine
end

