-- ==== Sys2Proof/Machine/Rings.lean ====
section
/-! DEFINITION. Host rings (R112 to R145): doorbells, host memory errors, the watchdog, message moderation and streams. -/

namespace Sys2Proof.Machine

/-- R161: the hold of writes is full, and no posted write of either function arrives. -/
def Dev.creditsOut (d : Dev) : Bool := 64 ≤ d.prov.holdWrites.length

/-- R119: a doorbell that is ignored. (DESIGN CHOICE: note 51.) -/
def Dev.stray (d : Dev) (r : Nat) : Dev := (d.inc F.RING_STRAY.COUNT 1).raise 18 0 (ringCode r)

/-- R115, R119: a doorbell that the ring takes: from its owner, to an enabled ring that is not in FAULT. -/
def Dev.bellTaken (d : Dev) (f r : Nat) : Bool := !d.deaf f && d.ringUp r && d.get F.xQ_CTRL.OWNER r == f

/-- R145: the host watchdog starts again. -/
def Dev.wdRestart (d : Dev) : Dev :=
  let t := d.get F.HOST_WD.TIMEOUT_MS
  (if t = 0 then d.disarm .hostWd else d.arm .hostWd (msT t)).condOff 19 0

/-- R118: a CMDQ_TAIL doorbell. -/
def execCmdqTailDoorbell (f : Fin 2) (q : Fin 16) (v : Nat) (s : State) : Host.Outcome State Fault Refusal := onMain s fun d =>
  let r := q.val
  if d.creditsOut then d
  else if d.deaf f then d.emit (.unsupported f)
  else if !d.bellTaken f r then d.stray r
  else
    let p := v % 2 ^ 32
    let old := d.get F.xQ_PROD.INDEX r
    let far := fun (x : Nat) => (p + 2 ^ 32 - x) % 2 ^ 32
    if d.ringSize r < far (d.get F.xQ_CONS.INDEX r) ∨ d.ringSize r < far old then d.ringFault r 1
    else
      let d := if f.val = 0 then d.wdRestart else d
      if p = old then d
      else
        let d := (d.set F.xQ_PROD.INDEX p r).disarm .idleSleep
        { d with rings := { d.rings with lastCmd := d.tick, tails := d.rings.tails.modify r (fun l => ((p, d.tick) :: l).take 65536) } }

/-- R118: a doorbell of a ring the CX96 fills moves the consumer index. -/
def Dev.headBell (d : Dev) (f r v : Nat) : Dev :=
  if d.creditsOut then d
  else if d.deaf f then d.emit (.unsupported f)
  else if !d.bellTaken f r then d.stray r
  else
    let c := v % 2 ^ 32
    let old := d.get F.xQ_CONS.INDEX r
    if (d.get F.xQ_PROD.INDEX r + 2 ^ 32 - old) % 2 ^ 32 < (c + 2 ^ 32 - old) % 2 ^ 32 then d.ringFault r 2 else d.set F.xQ_CONS.INDEX c r

/-- R123: completion slots of a CPLQ that no descriptor has reserved. -/
def Dev.freeSlots (d : Dev) (q : Nat) : Nat := d.ringSize (16 + q) - (d.ringUsed (16 + q) + d.rings.reserved.getD q 0)

/-- R123: a CMDQ that has a free completion slot again is not stalled. (DESIGN CHOICE: note 40.) -/
def Dev.unstall (d : Dev) (q : Nat) : Dev :=
  if d.bit F.xQ_STATUS.STALL q && 0 < d.freeSlots q then (d.setB F.xQ_STATUS.STALL false q).writeBack q else d

/-- R124: the head doorbells that may still have freed a slot, newest first: those at most a ring behind the newest. -/
def headsKeep (h t : Nat) (l : List (Nat × Nat)) : List (Nat × Nat) := (h, t) :: l.filter (fun x => (h + 2 ^ 32 - x.1) % 2 ^ 32 ≤ 65536)

/-- R144: held completions are written first, with HELD set, as far as the CPLQ has room. -/
def Dev.heldOut (d : Dev) (q : Nat) : Dev :=
  let mine := d.rings.held.filter (fun (c : Completion) => c.q == q)
  if mine.isEmpty then d else
  let d := { d with rings := { d.rings with held := d.rings.held.filter (fun (c : Completion) => c.q != q) } }
  let d := d.set F.RING_HELD.COUNT d.rings.held.length
  d.each mine (fun d c => d.complete c)

/-- R118, R124, R144: a CPLQ_HEAD doorbell. -/
def execCplqHeadDoorbell (f : Fin 2) (q : Fin 16) (v : Nat) (s : State) : Host.Outcome State Fault Refusal := onMain s fun d =>
  let r := 16 + q.val
  let old := d.get F.xQ_CONS.INDEX r
  let d := d.headBell f r v
  if d.get F.xQ_CONS.INDEX r = old then d
  else
    (({ d with rings := { d.rings with heads := d.rings.heads.modify q.val (headsKeep (d.get F.xQ_CONS.INDEX r) d.tick) } }).heldOut q).unstall q

/-- R118, R137: an EVQ_HEAD doorbell; records that wait are delivered. -/
def execEvqHeadDoorbell (f : Fin 2) (e : Fin 4) (v : Nat) (s : State) : Host.Outcome State Fault Refusal := onMain s fun d =>
  (d.headBell f (32 + e.val) v).evDrain e 65

/-- R118: a STRM_HEAD doorbell. -/
def execStrmHeadDoorbell (f : Fin 2) (s : Fin 8) (v : Nat) (st : State) : Host.Outcome State Fault Refusal := onMain st fun d => d.headBell f (36 + s.val) v

/-- R142: an error on a host memory access for a ring: a fetch (CMDQ only) or a write. (DESIGN CHOICE: note 44.) -/
def execRingHostError (r : Fin 44) (write : Bool) (s : State) : Host.Outcome State Fault Refusal := onMain s fun d =>
  if !d.ringUp r || (!write && 16 ≤ r.val) then d
  else (d.emit (.aer (d.get F.xQ_CTRL.OWNER r))).ringFault r (if write then 4 else 3)

/-- R145: the host has been silent for TIMEOUT_MS. -/
def execHostWdExpiry (s : State) : Host.Outcome State Fault Refusal := onMain s fun d =>
  d.fire .hostWd fun d =>
    ((d.setB F.HOST_WD.EXPIRED true).condOn 19 0).raise 19 (if d.energy then d.get F.HOST_WD.CLASS else 1) 0

/-- R138: a holdoff has passed; the causes collected in it produce one message. -/
def execMsixHoldoffExpiry (f : Fin 2) (v : Fin 64) (s : State) : Host.Outcome State Fault Refusal := onMain s fun d =>
  let n := 64 * f.val + v.val
  d.fire (.holdoff n) fun d =>
    if d.rings.collected.contains n then ({ d with rings := { d.rings with collected := d.rings.collected.filter (· != n) } }).msix f v else d

/-! Enabling (R113, R116) -/

/-- R113, R114, R142: a ring is enabled: both indices 0, its fault over. -/
def Dev.ringOn (d : Dev) (r : Nat) : Dev :=
  let d := ((d.setB F.xQ_CTRL.EN true r).setB F.xQ_STATUS.FAULT false r).set F.xQ_STATUS.FAULT_CODE 0 r
  let d := ((d.setB F.xQ_STATUS.ACTIVE true r).set F.xQ_PROD.INDEX 0 r).set F.xQ_CONS.INDEX 0 r
  if r < 16 then { d with rings := { d.rings with tails := d.rings.tails.set r [] } }
  else if r < 32 then ({ d with rings := { d.rings with heads := d.rings.heads.set (r - 16) [(0, d.tick)] } }).heldOut (r - 16)
  else if r < 36 then d.evDrain (r - 32) 65
  else { d with rings := { d.rings with pages := d.rings.pages.modify (r - 36) (fun p => { p with seq := 0 }) } }

/-! Streams (R139 to R141) -/

/-- R140, R141: one record of a stream. -/
def Dev.streamTake (d : Dev) (s : Nat) : Dev :=
  let r := 36 + s
  let nsig := d.get F.STRM_DEC.NSIG s + 1
  let full := !d.ringUp r || d.ringSize r ≤ d.ringUsed r
  if full then
    (d.inc F.xQ_LOST.COUNT 1 r) |> fun d => { d with rings := { d.rings with pages := d.rings.pages.modify s (fun p => { p with lost := p.lost + 1 }) } }
  else
    let ws := (List.range nsig).map (fun k => d.readWord (d.get F.STRM_SIG.OFFSET s k / 4 * 4))
    let pg := unit d.rings.pages s
    let start := pg.records.isEmpty
    let pg := { pg with records := pg.records ++ [ws], first := (if start then d.beat else pg.first), firstTick := (if start then d.tick else pg.firstTick) }
    let d := { d with rings := { d.rings with pages := d.rings.pages.set s pg } }
    let d := if start then d.arm (.pageAge s) 10240000 else d
    if 4032 / (4 * nsig) ≤ pg.records.length then d.pageWrite s else d

/-- R140: tick 1,023 of a beat in which a stream takes a record. -/
def execStreamRecord (s : Fin 8) (st : State) : Host.Outcome State Fault Refusal := onMain st fun d =>
  let e := d.toPhase 1023
  if d.bit F.xQ_CTRL.EN (36 + s.val) && (e.beat + 1) % max 1 (d.get F.STRM_DEC.DECIM s) == 0 then e.streamTake s else d

/-- R140: a page whose first record is 10,000 beats old. (DESIGN CHOICE: note 43.) -/
def execStreamPageAge (s : Fin 8) (st : State) : Host.Outcome State Fault Refusal := onMain st fun d =>
  d.fire (.pageAge s) fun d => if d.ringUp (36 + s.val) then d.pageWrite s else d

end Sys2Proof.Machine
end

