-- ==== Sys2Proof/Machine/Views.lean ====
section
/-! DEFINITION. The provenance log's commands and anchors (R160, R163, R164), and the two-step safety commit (R14, R150 to R155). -/

namespace Sys2Proof.Machine

/-- R160: a timed anchor: 2^30 ticks since the last anchor, and an entry since. -/
def execAnchorTimed (s : State) : Host.Outcome State Fault Refusal := onMain s fun d =>
  if d.prov.dirty then d.wait (d.prov.anchorTick + 2 ^ 30) (·.anchor 1) else d

/-- R163: entries are copied to host memory. (DESIGN CHOICE: note 52.) -/
def Dev.logRead (d : Dev) (c : HostCmd) : Dev × Verdict :=
  let first := arg2 c 2
  let head := d.get F.VP_LOG_HEAD.SEQ
  let kept := d.prov.entries.any (fun e => e.seq == first)
  if head ≤ first ∨ !kept then (d, .failed 1)
  else
    let n := min (arg c 4) (head - first)
    (({ d with prov := { d.prov with reads := d.prov.reads ++ [(c.func, arg2 c 0, first, n)] } }).lpddrTouch, .applied n)

/-- R163: LOG_READ. -/
def execLogRead (c : HostCmd) (s : State) : Host.Outcome State Fault Refusal := onMain s fun d => (d.command 0x70 c (·.logRead c)).1

/-- R163, R77: a copy ends; in self-refresh it waits for the exit. -/
def execLogReadDone (s : State) : Host.Outcome State Fault Refusal := onMain s fun d =>
  match d.prov.reads with
  | (f, addr, first, n) :: r =>
    if d.clk.lpddrAwake then ((({ d with prov := { d.prov with reads := r } }).emit (.logCopy f addr first n)).lpddrTouch).raise 22 0 0 else d
  | [] => d

/-- R161: the hold ends: the attempts counted meanwhile, in an entry of origin 0x01 and FUNC 0: the tables name no agent for it. (DESIGN CHOICE: note 125.) -/
def Dev.attemptSum (d : Dev) : Dev :=
  if d.prov.attempts = 0 then d
  else ({ d with prov := { d.prov with attempts := 0 } }).log 10 (.host 0) 0 0 0 d.prov.attempts

/-- R164: LOG_ACK. -/
def Dev.logAck (d : Dev) (c : HostCmd) : Dev × Option Nat :=
  let n := arg2 c 0
  if n < d.get F.VP_LOG_ACKED.SEQ ∨ d.get F.VP_LOG_HEAD.SEQ < n then (d, some 1)
  else ((d.set F.VP_LOG_ACKED.SEQ n).logFree, none)

/-! The two-step safety commit -/

/-- R155: a staged image is discarded. -/
def Dev.unstage (d : Dev) : Dev :=
  let d := ({ d with prov := { d.prov with staged := none } }).disarm .safeCrc
  let d := (d.setB F.VP_SAFE_STAGE.STAGED false).setB F.VP_SAFE_STAGE.CRC_DONE false
  (d.set F.VP_SAFE_CRC_C.CRC 0).set F.VP_SAFE_CRC_D.CRC 0

/-- R99: SAFETY_MATCH follows the CRCs. (DESIGN CHOICE: note 25.) -/
def Dev.safetyMatch (d : Dev) : Dev :=
  d.setB F.GLB_CAT.SAFETY_MATCH (d.bit F.GLB_CAT.LOADED && d.prov.committed && d.get F.VP_SAFE_IN_FORCE.CRC == d.prov.catSafetyCrc)

/-- R157: the SAFETY entry of a step. -/
def Dev.safetyLog (d : Dev) (o : Orig) (step before : Nat) : Dev := d.log 7 o step 0 before (d.get F.VP_SAFE_IN_FORCE.CRC)

/-- R152: an image is staged and given to both parts. -/
def Dev.safetyStage (d : Dev) (o : Orig) (b : List Nat) : Dev :=
  let d := d.unstage
  let d := (({ d with prov := { d.prov with staged := some b } }).setB F.VP_SAFE_STAGE.STAGED true).arm .safeCrc (msT 5)
  d.safetyLog o 1 (d.get F.VP_SAFE_IN_FORCE.CRC)

/-- R152, R577: SAFETY_COMMIT, STAGE. -/
def execSafetyCommitStage (c : HostCmd) (s : State) : Host.Outcome State Fault Refusal := onMain s fun d =>
  d.checked 0x24 c fun d => match c.payload with
    | .bytes b => (d.safetyStage (Orig.cmd c) b, none)
    | _ => (d.fetchAer c, some 6)

/-- R152: both parts have computed the CRC-32 of the staged image: each gives it but for the bits a fault of its own has changed, none in a part that
works. -/
def execSafetyCrcDone (faultC faultD : Nat) (s : State) : Host.Outcome State Fault Refusal := onMain s fun d =>
  if (d.due .safeCrc).isSome then
    match d.prov.staged with
    | none => d
    | some b =>
    let crcC := crc32 b ^^^ faultC
    let crcD := crc32 b ^^^ faultD
    let d := ((d.disarm .safeCrc).set F.VP_SAFE_CRC_C.CRC crcC).set F.VP_SAFE_CRC_D.CRC crcD
    (d.setB F.VP_SAFE_STAGE.CRC_DONE true).raise 23 (if crcC = crcD then 0 else 1) 0 (leBytes 4 crcC ++ leBytes 4 crcD)
  else d

/-- R153, R154, R519: CONFIRM. A safety command that fails has its COMMAND entry and no SAFETY entry: R156 gives one to each commit step and does not
speak of a step that fails. (DESIGN CHOICE: note 51.) -/
def Dev.safetyConfirm (d : Dev) (c : HostCmd) : Dev × Verdict :=
  match d.prov.staged with
  | none => (d, .failed 1)
  | some b =>
    let x := d.get F.VP_SAFE_CRC_C.CRC
    if !d.bit F.VP_SAFE_STAGE.CRC_DONE then (d, .failed 2)
    else if x ≠ d.get F.VP_SAFE_CRC_D.CRC then (d, .failed 3)
    else if arg c 4 ≠ x then (d, .failed 4)
    else if !safetyImageOk b then (d, .failed 5)
    else
      let old := d.get F.VP_SAFE_IN_FORCE.CRC
      let d := (d.safetyApply b true).set F.VP_SAFE_IN_FORCE.CRC x
      let d := (({ d with prov := { d.prov with committed := true } }).safeBegin b).safetyMatch
      ((d.unstage).safetyLog (Orig.cmd c) 2 old, .applied x)

/-- R154: SAFETY_COMMIT, CONFIRM. -/
def execSafetyCommitConfirm (c : HostCmd) (s : State) : Host.Outcome State Fault Refusal := onMain s fun d => (d.command 0x24 c (·.safetyConfirm c)).1

/-- R155: SAFETY_COMMIT, DISCARD. -/
def execSafetyCommitDiscard (c : HostCmd) (s : State) : Host.Outcome State Fault Refusal := onMain s fun d =>
  d.simple 0x24 c fun d => (d.unstage).safetyLog (Orig.cmd c) 3 (d.get F.VP_SAFE_IN_FORCE.CRC)

end Sys2Proof.Machine
end

