-- ==== Sys2Proof/Machine/BringUp.lean ====
section
/-! DEFINITION. Catalogues and bring-up (R16 to R20, R92 to R107): loading, check 6 and what a load writes, the checks of STAGED and LINKED, START,
STOP and RELEASE, the grants and refusals of loans (R78, R79), and precharge. -/

namespace Sys2Proof.Machine

/-! What a load writes (R97, R544) -/

/-- The field and element of a key of the register store. -/
def fieldOfKey (k : Nat) : Option (Fld × Nat × Nat × Nat) :=
  (allFields.filter (fun f => f.lo == k % 64)).findSome? (fun f => match f.at? (k / 64) with | some (a, b, c, false) => some (f, a, b, c) | _ => none)

/-- R9: a key of an RWC field. -/
def isRwc (k : Nat) : Bool := match fieldOfKey k with | some (f, a, _, _) => f.code a == .rwc | none => false

/-- R96 check 6, R544: a value of a Catalogue is for an RWC field (or VWARN) and in its range. -/
def settingOk (x : Nat × Nat) : Bool :=
  match fieldOfKey x.1 with
  | some (f, a, _, _) => (f.code a == .rwc || f == F.RSV_VWARN.CODE) && x.2 < 2 ^ f.w && inRange refuseRange f x.2 && inRange statedRange f x.2
  | none => false

/-- R501, R518: the RWC fields of the Registrar and the Archive, from the Safety section. -/
def Dev.safetySettings (d : Dev) (b : List Nat) : Dev :=
  let r := wordOf b 0x80
  let a := wordOf b 0x84
  let d := ((d.set F.REG_CTRL.ERR_CLASS r).set F.REG_CTRL.C2_HOLD (r / 2 ^ 16)).set F.ARC_CFG.TRIG_CLASS a |>.set F.ARC_CFG.POST_BEATS (a / 2 ^ 8)
  d.each ((wordsOf (b.drop 0x88)).zipIdx.take 256) fun d (x, n) =>
    let d := (d.set F.REG_SRC.CLASS_FLOOR x n).set F.REG_SRC.TRIG (x / 2 ^ 14) n
    if derateFixed n then d else d.set F.REG_SRC.DERATE (x / 8) n

/-- R97, R282, R544: every RWC field takes the Catalogue's value or its reset value; the settings commands may change take the Catalogue's. -/
def Dev.catWrite (d : Dev) (x : CatImage) : Dev :=
  let c := x.decl
  let d := { d with regs := d.regs.filter (fun y => !isRwc y.1), prov := { d.prov with decl := some c } }
  let d := d.each x.settings (fun d (y : Nat × Nat) => match fieldOfKey y.1 with | some (f, i, j, k) => d.set f y.2 i j k | none => d)
  let d := d.safetySettings x.safety
  let d := ((d.set F.ARR_APPLY.PHASE c.applyPhase).set F.ARR_VREF.VDL c.vdlMv).set F.ARR_VCREF.VC c.vcMv
  let d := ((d.set F.ARR_LIMIT.IMPORT c.importKw).set F.ARR_LIMIT.EXPORT c.exportKw).set F.ARR_CTRL.HOP_BEATS c.hopBeats |>.set F.ARR_CTRL.HOP_FIXED c.hopFixed
  let d := d.each (List.range 6) (fun d s => (d.setB F.ARR_STRING_CFG.BAL_MODE (c.balRank.getD s false) s).set F.ARR_STRING_RANK.I_Q 0 s)
  let d := d.each [0, 1] (fun d g => d.set F.GRP_TRUNC.TRUNC (c.trunc.getD g 0) g)
  let d := d.each (List.range 16) (fun d m => d.setB F.MET_CH_CFG.SYNC (c.syncCh.contains (some m)) m)
  ((d.memberSync).offUndeclared false).scheduleSet (declLinks c)

/-! The checks of a load (R96) -/

/-- R83: the RUN floor of a Catalogue written into a trial state. -/
def Dev.runFloor (t : Dev) : Nat :=
  3000 + 1500 + 250 + 120 + 2000 + 1800 + (if (List.range 2).any (fun n => t.get F.ETH_CFG.MODE n != 0) then 100 else 0)
    + 800 * (those 12 (fun g => (List.range 8).any (fun j => t.bit F.LANE_CTRL.DECLARED (8 * g + j)))).length

/-- R96 check 4: the directory and the sections lie in the body and do not overlap, and every CRC is right. -/
def dirOk (x : CatImage) : Bool :=
  let body := x.length - 64
  let top := 0x40 + 16 * x.sections
  1 ≤ x.sections && x.sections ≤ 64 && x.dir.length == x.sections && top ≤ body
    && x.dir.all (fun e => top ≤ e.offset && e.offset + e.length ≤ body && e.crcOk)
    && x.dir.Pairwise (fun a b => a.offset + a.length ≤ b.offset ∨ b.offset + b.length ≤ a.offset)

/-- R94: the section set. -/
def sectionsOk (x : CatImage) : Bool :=
  let ts := x.dir.map (·.type)
  ts.Nodup && ts.all (fun t => 1 ≤ t && t ≤ 11) && [1, 2, 3, 8, 11].all (fun t => ts.contains t)

/-- R94: an optional section is present. -/
def hasSection (x : CatImage) (t : Nat) : Bool := x.dir.any (fun e => e.type == t)

/-- R16, R17, R94, R105, R246, R578: strings, lanes and precharge. -/
def Dev.layoutOk (t : Dev) (c : CatDecl) : Bool :=
  let n := fun s => (c.lanes.filter (fun l => l.string == s)).length
  (if c.threePhase then c.strings == 3 || c.strings == 6 else c.strings == 1 || c.strings == 2)
    && (List.range c.strings).all (fun s => 1 ≤ n s && n s ≤ 32 && t.get F.ARR_STRING_CFG.CELLS s == n s && t.get F.ARR_STRING_CFG.K s < n s)
    && c.lanes.length ≤ 96 && (c.lanes.map (·.lane)).Nodup && (c.lanes.map (fun l => (l.string, l.position))).Nodup
    && c.lanes.all (fun l => l.lane < 96 && l.string < c.strings && l.position < 32 && 2 ≤ l.holdBeats && l.holdBeats ≤ 16 && l.cellClass ≤ 2)
    && (List.range 96).all (fun k => t.bit F.LANE_CTRL.DECLARED k == c.lanes.any (fun l => l.lane == k))
    && c.preOrder.length == c.strings && c.preOrder.Nodup && c.preOrder.all (· < c.strings)
    && 100000 ≤ c.vdlMv && c.vdlMv ≤ 1500000 && c.applyPhase < 1024 && c.hopFixed ≤ t.get F.ARR_CTRL.HOP_LAST

/-- R282, R354, R405: a value that a command may later change is within its field and its range; slot numbers are below 1,024. -/
def declOk (c : CatDecl) : Bool :=
  let ok := fun (f : Fld) (v : Nat) => decide (v < 2 ^ f.w) && inRange refuseRange f v && inRange statedRange f v
  ok F.ARR_APPLY.PHASE c.applyPhase && ok F.ARR_VREF.VDL c.vdlMv && ok F.ARR_VCREF.VC c.vcMv && ok F.ARR_LIMIT.IMPORT c.importKw
    && ok F.ARR_LIMIT.EXPORT c.exportKw && ok F.ARR_CTRL.HOP_BEATS c.hopBeats && ok F.ARR_CTRL.HOP_FIXED c.hopFixed
    && c.trunc.all (ok F.GRP_TRUNC.TRUNC) && c.balRank.length ≤ 6 && c.trunc.length ≤ 2 && c.syncCh.all (fun x => x.getD 0 < 16)
    && c.preds.all (fun x => x.1 < 1024 && x.2 < 1024)
    && (c.vdlSlot :: (c.capSlot ++ c.curSlot ++ c.balSlot ++ c.psSlot ++ c.fluxSlot)).all (· < 1024)

/-- R263, R264, R578: the array's settings. -/
def Dev.arrayOk (t : Dev) (c : CatDecl) : Bool :=
  t.get F.ARR_MOD.M_MAX ≤ 1000 && t.get F.ARR_MOD.I_ARM_NOM != 0
    && (List.range (t.get F.ARR_CTRL.HOP_LAST + 1)).all (fun h => 40000 ≤ t.get F.ARR_DAB_HALF.HALF h && t.get F.ARR_DAB_HALF.HALF h ≤ 160000)
    && c.lanes.all (fun l => t.get F.LEDGER_C_NOM.C_NOM l.lane != 0 && decide (t.getS F.DT_RANGE_I.I_LO l.lane < t.getS F.DT_RANGE_I.I_HI l.lane)
      && t.get F.DT_RANGE_V.V_LO l.lane < t.get F.DT_RANGE_V.V_HI l.lane)

/-- The fields that hold the Loop Engine's numbers. -/
def loopNumbers : List Fld :=
  [F.SLOT_K_IN.K_IN, F.SLOT_REF.REF, F.SLOT_FF_GAIN.FF_GAIN, F.SLOT_YMIN.YMIN, F.SLOT_YMAX.YMAX, F.SLOT_Y_INIT.Y_INIT, F.SLOT_B.B, F.SLOT_A.A, F.LE_T.ENTRY]

/-- R253, R293, R297, R301: slots, their words (one that is not stored holds its reset value, a number) and the schedule. (DESIGN CHOICE: note 86.) -/
def Dev.slotsOk (t : Dev) (c : CatDecl) : Bool :=
  let en := those 1024 (fun k => t.bit F.SLOT_CFG.EN k)
  t.regs.all (fun y => match fieldOfKey y.1 with
      | some (f, a, _, _) => !(loopNumbers.contains f && fRejected (y.2 ^^^ f.reset a))
      | none => true)
    && t.heads.all (fun k => fLt (t.get F.SLOT_YMIN.YMIN k) (t.get F.SLOT_YMAX.YMAX k) && (t.owner k != 1 || t.get F.SLOT_CFG.RELEASE k ≤ 282))
    && en.all (fun k => t.owner k != 0 || (t.get F.SLOT_SRC.SRC_A k != 0 && t.get F.SLOT_SRC.SRC_B k != 1 && !t.bit F.SLOT_CFG.FF_EN k))
    && t.scheduleOk (declLinks c)

/-- R253, R286, R287: the slots of the array's loops are its own, one for each string and each cell. (DESIGN CHOICE: note 86.) -/
def Dev.rolesOk (t : Dev) (c : CatDecl) : Bool :=
  let own := fun k => decide (k < 1024) && t.owner k == 1
  own c.vdlSlot && (List.range c.strings).all (fun s => own (c.capSlot.getD s 1024) && own (c.curSlot.getD s 1024))
    && c.lanes.all (fun l => own (c.balSlot.getD l.lane 1024) && own (c.psSlot.getD l.lane 1024) && own (c.fluxSlot.getD l.lane 1024))

/-- R334, R352, R357: the output stage's groups, their slots, and the chopper. (DESIGN CHOICE: note 86.) -/
def Dev.outputOk (t : Dev) (c : CatDecl) : Bool :=
  (those 2 (fun g => !(t.phasesOf g).isEmpty)).all (fun g =>
    let vs := t.get F.GRP_SLOTS.VSLOT g
    let is := t.get F.GRP_SLOTS.ISLOT g
    let rel := fun k => t.get F.SLOT_CFG.RELEASE k
    t.owner vs == 2 && t.owner is == 2 && c.preds.contains (vs, is) && 100 ≤ t.get F.GRP_PERIOD.PERIOD g && t.get F.GRP_PERIOD.PERIOD g ≤ 1048576
      && (t.phasesOf g).all (fun k => let j := t.get F.GRP_SLOTS.SHARE_BASE g + k
                                      decide (j < 1024) && t.owner j == 2 && rel j ≤ rel is))
    && (!t.bit F.OS_CTRL.BRAKE_DECL || t.get F.OS_BRAKE.OFF_V < t.get F.OS_BRAKE.ON_V)

/-- R358, R359: a channel has a function that is in use: its phase, the chopper or the actuator is declared. -/
def Dev.serves (t : Dev) (c : Nat) : Bool :=
  match t.get F.PW_CFG.FUNC c with
  | 1 => c < 24 && t.flag F.OS_CTRL.PHASE_DECL (c / 2)
  | 2 => t.bit F.OS_CTRL.BRAKE_DECL
  | 3 => t.get F.COL_CFG.KIND != 0
  | _ => false

/-- R359, R365, R366, R367: PWM and gate channels, where the Catalogue assigns them (`assigned`: it has an Output stage section, R94) every channel with
a function, otherwise those whose function is declared. (DESIGN CHOICE: note 86.) -/
def Dev.pwmOk (t : Dev) (assigned : Bool) : Bool :=
  let cs := those 32 (fun c => if assigned then t.get F.PW_CFG.FUNC c != 0 else t.serves c)
  let per := fun c => 64 * (if t.get F.PW_CFG.FUNC c = 1 then t.get F.GRP_PERIOD.PERIOD (if t.flag F.OS_CTRL.GROUP_B (c / 2) then 1 else 0) else t.get F.COL_DRIVE.PERIOD)
  (cs.map t.gateOf).Nodup && cs.all (fun c => t.bit F.GD_CFG.DECLARED (t.gateOf c))
    && (List.range 32).all (fun x => !t.bit F.GD_CFG.DECLARED x || cs.any (fun c => t.gateOf c == x))
    && cs.all (fun c => t.get F.PW_CFG.FUNC c == 2 || (t.bit F.PW_CFG.PAIR (c / 2 * 2)
      && (!t.serves c || 2 * (t.get F.PW_DT.DEADTIME (c / 2 * 2) + max (t.get F.PW_DT.MIN_PULSE (c / 2 * 2)) (t.get F.PW_DT.MIN_PULSE (c / 2 * 2 + 1))) ≤ per c)))
    && cs.all (fun c => !t.bit F.GD_CFG.BOOTSTRAP (t.gateOf c) || (c % 2 == 0 && t.bit F.PW_CFG.PAIR c
      && t.get F.PW_DT.DEADTIME c + t.get F.PW_DT.MIN_PULSE (c + 1) ≤ t.get F.GD_REFRESH.T_REFRESH (t.gateOf c)))

/-- R397, R404, R416, R420: a Catalogue with a Collector section; equal ends make no contact zone. -/
def Dev.collectorOk (t : Dev) (c : CatDecl) : Bool :=
  let lo := t.getS F.COL_TRAVEL_MIN.MIN
  let hi := t.getS F.COL_TRAVEL_MAX.MAX
  let inside := fun (p : Int) => decide (lo ≤ p ∧ p < hi)
  let pos := t.get F.COL_SLOTS.POS
  let ssi := t.get F.SSI_START.START + t.ssiLen
  (t.get F.COL_CFG.KIND == 0 || t.get F.COL_CFG.ENC2_MODE != 0)
    && [pos, t.get F.COL_SLOTS.SPD, t.get F.COL_SLOTS.FRIC].all (fun k => t.owner k == 3)
    && c.preds.contains (pos, t.get F.COL_SLOTS.SPD) && t.bit F.SLOT_CFG.FF_EN (t.get F.COL_SLOTS.FRIC)
    && decide (lo < hi) && decide (hi - lo ≤ 2 ^ 30)
    && (t.getS F.COL_CONTACT_LO.LO == t.getS F.COL_CONTACT_HI.HI || (decide (lo ≤ t.getS F.COL_CONTACT_LO.LO) && decide (t.getS F.COL_CONTACT_LO.LO ≤ hi)
      && decide (lo ≤ t.getS F.COL_CONTACT_HI.HI) && decide (t.getS F.COL_CONTACT_HI.HI ≤ hi))) && inside (t.getS F.COL_SAFE_POS.POS) && inside (t.getS F.COL_HOME_POS.POS)
    && (t.get F.COL_CFG.ENC2_MODE != 2 || ssi ≤ 1024 * (t.get F.SSI_CFG.EVERY + 1)) && 2 * t.get F.SSI_CFG.DLY < t.get F.SSI_CFG.DIV
    && 100 ≤ t.get F.COL_DRIVE.PERIOD && t.get F.COL_DRIVE.PERIOD ≤ 1048576 && t.get F.HALL_CFG.MIN_TICKS != 0

/-- R426, R431, R439: metering channels and elements. -/
def Dev.meteringOk (t : Dev) : Bool :=
  (List.range 8).all (fun e => !t.bit F.MET_EL_CFG.DECLARED e
      || (t.bit F.MET_CH_CFG.DECLARED (t.get F.MET_EL_CFG.V_CH e) && t.bit F.MET_CH_CFG.DECLARED (t.get F.MET_EL_CFG.I_CH e)
        && !t.bit F.MET_CH_CFG.KIND (t.get F.MET_EL_CFG.V_CH e) && t.bit F.MET_CH_CFG.KIND (t.get F.MET_EL_CFG.I_CH e)))
    && (List.range 16).all (fun m => decide (-4096 ≤ t.getS F.MET_CH_DELAY.DELAY m ∧ t.getS F.MET_CH_DELAY.DELAY m ≤ 4096))
    && (List.range 8).all (fun e => !t.bit F.MET_EL_CFG.DECLARED e
      || t.get F.MET_CH_CFG.CLASS (t.get F.MET_EL_CFG.V_CH e) == t.get F.MET_CH_CFG.CLASS (t.get F.MET_EL_CFG.I_CH e))
    && 86400 % t.get F.MET_CTRL.INTERVAL == 0

/-- R471, R475: the bit times and rates of the controllers that are on, and their transmit frames. (DESIGN CHOICE: note 86.) -/
def Dev.canOk (t : Dev) : Bool :=
  (those 2 (fun c => t.bit F.CAN_CFG.EN c)).all fun c =>
    let fd := t.bit F.CAN_CFG.FD c
    1 ≤ t.get F.CAN_NBT.TSEG1 c && 1 ≤ t.get F.CAN_NBT.TSEG2 c
      && 80 ≤ (t.get F.CAN_NBT.BRP c + 1) * (t.get F.CAN_NBT.TSEG1 c + t.get F.CAN_NBT.TSEG2 c + 3)
      && (!fd || !t.bit F.CAN_CFG.BRS c || 16 ≤ (t.get F.CAN_DBT.BRP c + 1) * (t.get F.CAN_DBT.TSEG1 c + t.get F.CAN_DBT.TSEG2 c + 3))
      && (those 4 (fun f => t.bit F.CAN_TX.EN c f)).all (fun f =>
        let n := t.get F.CAN_TX_PER.LEN c f
        t.get F.CAN_TX_PER.PERIOD_MS c f != 0 && t.get F.CAN_TX_SRC.SRC c f % 4 == 0
          && (n ≤ 8 || (fd && t.bit F.CAN_TX.FDF c f && [12, 16, 20, 24, 32, 48, 64].contains n)))

/-- R528: the order of the thresholds of each declared set that a Catalogue writes. (DESIGN CHOICE: note 86.) -/
def Dev.thresholdsOk (t : Dev) : Bool :=
  (List.range 32 ++ (List.range 12).map (· + 48)).all fun n =>
    let v := [F.HK_WARN.WARN, F.HK_DERATE_AT.DERATE_AT, F.HK_STOP_AT.STOP_AT, F.HK_LIMIT.LIMIT].map (fun f => fRat (t.get f n))
    let v := if t.bit F.HK_SET_CFG.DIR n then v.map (- ·) else v
    !t.bit F.HK_SET_CFG.DECLARED n || (decide (v.getD 0 0 ≤ v.getD 1 0) && decide (v.getD 1 0 ≤ v.getD 2 0) && decide (v.getD 2 0 < v.getD 3 0))

/-- R96 check 6 over the state the Catalogue would write. (DESIGN CHOICE: note 86.) -/
def Dev.check6 (t : Dev) (x : CatImage) : Bool :=
  x.settings.all settingOk && declOk x.decl && t.layoutOk x.decl && t.arrayOk x.decl && t.slotsOk x.decl && t.rolesOk x.decl && t.outputOk x.decl && t.pwmOk (hasSection x 4)
    && (!hasSection x 5 || t.collectorOk x.decl) && t.meteringOk && t.canOk && t.thresholdsOk && safetyImageOk x.safety

/-- R96: the first check that fails. -/
def Dev.catCheck (d : Dev) (supplied : Nat) (img : Option CatImage) : Option Nat :=
  match img with
  | none => some 1
  | some x =>
    if x.length < 256 ∨ 262144 < x.length ∨ x.length ≠ supplied ∨ x.magic ≠ 0x54414343 ∨ x.format ≠ 1 ∨ x.device ≠ 0x960 ∨ !x.reservedZero then some 1
    else if 4 ≤ x.keySlot ∨ !(d.mram.keys.getD x.keySlot .empty == .digest x.keyDigest && x.sigOk) then some 2
    else if x.revision < d.get F.GLB_CAT_FLOOR.FLOOR then some 3
    else if !dirOk x then some 4
    else if !sectionsOk x then some 5
    else
      let t := d.catWrite x
      if !t.check6 x then some 6
      else if t.get F.LOAN_CHIP.BUDGET < t.runFloor ∨ t.get F.LOAN_CHIP.BUDGET < d.loansOut false then some 7
      else if [8, 9, 10].any (fun i => t.get F.LOAN_SITE.BUDGET < t.get F.LOAN_OP_COST.COST i) then some 8
      else none

/-! Loading and unloading (R92, R97, R103) -/

/-- R92, R277: the ledger at a load: the save's summaries where CAT_ID and REVISION match, otherwise zero with Ĉ at C_NOM. (DESIGN CHOICE: note 54.) -/
def Dev.ledgerLoad (d : Dev) (x : CatImage) : Dev :=
  let d := { d with regs := d.regs.filter (fun y => !ledgerKey y.1), cells := List.replicate 96 Cell.init }
  match d.mram.saveUse with
  | some y => if y.catId = x.catId ∧ y.catRev = x.revision then d.regsBack (y.regs.filter (fun z => ledgerKey z.1))
    else d.each x.decl.lanes (fun d l => d.set F.LEDGER_C.C_EST (d.get F.LEDGER_C_NOM.C_NOM l.lane) l.lane)
  | none => d.each x.decl.lanes (fun d l => d.set F.LEDGER_C.C_EST (d.get F.LEDGER_C_NOM.C_NOM l.lane) l.lane)

/-- R97: the Catalogue received from host memory goes to the spare copy, which becomes the active one. -/
def Dev.catKeep (d : Dev) (x : Option CatFile) : Dev :=
  { d with mram := { d.mram with cats := d.mram.cats.set (1 - d.mram.active) x, active := 1 - d.mram.active } }

/-- R97, R100, R103: what follows when every check has passed. -/
def Dev.catCommit (d : Dev) (c : HostCmd) (x : CatImage) : Dev :=
  let d := ((d.catWrite x).loanSync).ledgerLoad x
  let d := ((d.setB F.GLB_CAT.LOADED true).set F.GLB_CAT_ID.ID x.catId).set F.GLB_CAT_REV.REVISION x.revision
  let d := { d with prov := { d.prov with catSafetyCrc := crc32 x.safety }, arr := { d.arr with fails := [], preAt := List.replicate 6 d.tick }, met := { d.met with declared := hasSection x 6 }
                    pwr := { d.pwr with canStb := [!d.bit F.CAN_CFG.EN 0, !d.bit F.CAN_CFG.EN 1], canHeld := [false, false] }, os := { d.os with undeclared := [] } }
  -- R246: every lane is in OFF: each declared cell is absent
  let d := (d.each (List.range 96) (fun d k => d.set F.CELL_STATUS.ROLE 0 k)).each (List.range 6) (fun d s => d.stringSync s)
  let d := ((d.failSync).safetyMatch).safetyStage (Orig.cmd c) x.safety
  let d := ((d.arcDepth).canStart).enterStaged (Orig.cmd c)
  -- R383, R100: the status carriers of the declared channels are evaluated from here; check 21 allows them 2 ms
  let d := d.each (List.range 32) (fun d n => if d.bit F.GD_CFG.DECLARED n then d.arm (.carrier n) (msT 2) else d.disarm (.carrier n))
  -- R370: a trip input already active is evaluated from here
  let d := d.each (those 4 (fun n => d.bit F.XTRIP_CFG.ACTIVE n)) (fun d n => d.xtripAct n (d.tick * 64))
  let d := d.pllDemand 1 0
  let d := if d.met.declared then d.pllDemand 1 1 else d
  let d := if (List.range 2).any (fun n => d.get F.ETH_CFG.MODE n != 0) then d.pllDemand 3 4 else d.pllDrop 3 4
  let d := d.each (those 2 (fun n => d.get F.ETH_CFG.MODE n == 0)) (fun d n => d.ethDown n)
  let d := (d.metStart).lanesStage
  d.each (those 96 (fun k => !d.bit F.LANE_CTRL.DECLARED k && !(unit d.lanes k).prsHigh)) (fun d k => d.raise 7 0 k)

/-- R96: the bytes supplied: P2 of them from host memory, which the fetch has brought, or those of the active copy in MRAM. -/
def catSupplied (c : HostCmd) (host : Bool) (file : Option CatFile) : Nat :=
  match file with
  | some x => if host && x.bytes.length != arg c 2 then 0 else x.bytes.length
  | none => 0

/-- R96, R97, R577: CAT_LOAD. A failed check is shown in GLB_STAGE_FAIL. (DESIGN CHOICE: notes 86, 87.) -/
def execCatLoad (c : HostCmd) (s : State) : Host.Outcome State Fault Refusal := onMain s fun d =>
  d.checked 0x20 c fun d =>
    let host := !(arg c 3).testBit 0
    let file := if host then (match c.payload with | .catalogue x => some x | _ => none) else d.mram.cats.getD d.mram.active none
    let img := file.map catalogueOf
    match d.catCheck (catSupplied c host file) img, img with
    | none, some x => ((if host then d.catKeep file else d).catCommit c x, none)
    | some k, _ => ((((d.cond host (·.fetchAer c)).set F.GLB_STAGE_FAIL.CODE k).set F.GLB_STAGE_FAIL.COUNT 0).set F.GLB_STAGE_FAIL.OBJECT 0, some k)
    | none, none => (d, some 1)

/-- R103, R104, R155, R325: CAT_UNLOAD. (DESIGN CHOICE: note 89.) -/
def execCatUnload (c : HostCmd) (s : State) : Host.Outcome State Fault Refusal := onMain s fun d =>
  d.simple 0x21 c fun d =>
    let d := ((d.startEnd).lanesOff true).metStop
    let d := ((d.pllDrop 1 0).pllDrop 1 1).pllDrop 3 4
    -- R103: standing loans are returned, the collector's with its drive; R20: no phase is declared any more
    let d := if 1 ≤ d.get F.COL_STATUS.STATE ∧ d.get F.COL_STATUS.STATE ≤ 6 then d.colOff else d
    let d := (d.offUndeclared true).unstage
    let d := d.each (List.range 32) (fun d n => d.disarm (.carrier n))
    let d := d.saveSlot
    let d := ((d.setB F.GLB_CAT.LOADED false).set F.GLB_CAT_ID.ID 0).set F.GLB_CAT_REV.REVISION 0
    let d := ({ d with prov := { d.prov with decl := none }, arr := { d.arr with fails := [] }, met := { d.met with declared := false } }).failSync
    ((d.safetyMatch).setState QUIET (Orig.cmd c))

/-- R97: SET_FLOOR. -/
def execSetFloor (c : HostCmd) (s : State) : Host.Outcome State Fault Refusal := onMain s fun d =>
  d.simple 0x22 c fun d =>
    let n := max (d.get F.GLB_CAT_FLOOR.FLOOR) (d.get F.GLB_CAT_REV.REVISION)
    { d.set F.GLB_CAT_FLOOR.FLOOR n with mram := { d.mram with catFloor := n } }

/-! The checks of STAGED and LINKED (R100 to R102) -/

/-- R100: a check from 21 on holds now on its object. -/
def Dev.checkHolds (d : Dev) (code obj : Nat) : Bool :=
  match code with
  | 21 =>
    let g := unit d.gates obj
    if d.bit F.GD_CFG.DECLARED obj then
      g.lastP.isSome && g.lastN.isSome && !g.lostNow && !d.bit F.GD_STATUS.UV_NEG obj && !d.bit F.GD_STATUS.CARRIER_LOST obj
        && (!d.bit F.GD_STATUS.UV_POS obj || d.bit F.GD_CFG.BOOTSTRAP obj)
    else !d.os.undeclared.any (fun u => u.1 == obj)
  | 22 => !d.flag F.OS_SENSE_LOST.LOST obj
  | 23 => if obj = 2 then d.col.ssiSeen && d.col.badSsi < 3 else 1 ≤ d.get F.HALL_STATUS.STATE && d.get F.HALL_STATUS.STATE ≤ 6
  | 24 => d.bit F.MET_STATUS.RUN && !(unit d.metCh obj).lostNow && 52 ≤ (unit d.metCh obj).lostBack
  | 25 => (unit d.hk.points obj).seen && !(unit d.hk.points obj).invalid
  | 26 => [0, 1].all (fun part => !(d.pairAt part obj).fault && !(d.pairAt part obj).chatter)
  | _ => true

/-- R100: the objects of the checks from 21 on. -/
def Dev.checkList (d : Dev) : List (Nat × Nat) :=
  (List.range 32).map (fun n => (21, n)) ++ (those 16 (fun m => d.bit F.SNS_DECL.DECLARED m)).map (fun n => (22, n))
    ++ (if d.get F.COL_CFG.KIND = 0 then [] else (23, 0) :: (if d.get F.COL_CFG.ENC2_MODE = 2 then [(23, 2)] else []))
    ++ d.metChs.map (fun n => (24, n)) ++ (those 32 (fun n => d.bit F.HK_SET_CFG.DECLARED n)).map (fun n => (25, n))
    ++ (those 8 (fun n => d.bit F.SAF_PAIR_CFG.DECLARED n)).map (fun n => (26, n))

/-- R101: every check has passed: each declared lane is ACTIVE, the apply phase is safe, the sense inputs have been biased for 200 µs, and nothing
fails. -/
def Dev.stageReady (d : Dev) : Bool :=
  d.arr.fails.isEmpty && (List.range 96).all (fun k => !d.bit F.LANE_CTRL.DECLARED k || d.laneUp k)
    && d.get F.GLB_ESAP.TICKS ≤ d.get F.ARR_APPLY.PHASE && d.get F.GLB_STATE_SINCE.BEAT * 1024 + 20000 ≤ d.tick
    && d.checkList.all (fun x => d.checkHolds x.1 x.2)

/-- The next beat boundary that has not begun. -/
def Dev.nextBeat (d : Dev) : Dev := d.elapse (1024 - d.phase)

/-- R101: every check has passed: LINKED at the next beat boundary. -/
def execEnterLinked (s : State) : Host.Outcome State Fault Refusal := onMain s fun d =>
  if d.st = STAGED ∧ d.stageReady then (d.nextBeat).setState LINKED else d

/-- R101: STAGE_RETRY: the failed checks run again, and lanes held are released. -/
def execStageRetry (c : HostCmd) (s : State) : Host.Outcome State Fault Refusal := onMain s fun d =>
  d.simple 0x23 c fun d =>
    let d := d.each d.arr.fails (fun d (x : Nat × Nat) =>
      if 21 ≤ x.1 then (if d.checkHolds x.1 x.2 then d.checkPass x.1 x.2 else d)
      else if 17 ≤ x.1 ∧ d.bit F.LANE_STATUS.HELD x.2 then d.checkPass x.1 x.2 else d)
    d.lanesRetry

/-! START, STOP and RELEASE (R103, R104) -/

/-- R104, R509, R537: the first check of START that fails. (DESIGN CHOICE: note 90.) -/
def Dev.startCheck (d : Dev) : Option Nat :=
  let linked := d.st == LINKED
  if linked && (!d.bit F.SAF_STATE.SDO_C || !d.bit F.SAF_STATE.SDO_D || d.get F.SAF_STATE.DEMAND != 0) then some 1
  else if d.hk.points.any (·.stop) then some 2
  else if linked && !d.bit F.GLB_CAT.SAFETY_MATCH then some 3
  else none

/-- R103: in STOP, every active cell and the DC link within the hold tolerance. (DESIGN CHOICE: note 90.) -/
def Dev.stillCharged (d : Dev) : Bool :=
  let act := (List.range d.dcl.strings).flatMap d.actOf
  let near := fun (x nom tol : Rat) => decide (nom - tol ≤ x ∧ x ≤ nom + tol)
  let mv := fun (n : Nat) => ((n : Nat) : Rat) / 1000
  act.all (fun k => (unit d.cells k).seen && near (d.xEnd k) (mv (d.get F.ARR_VCREF.VC)) (mv d.dcl.holdTolMv))
    && near (d.sns 14) (mv (d.get F.ARR_VREF.VDL)) (mv d.dcl.holdTolMv)

/-- A stop's ramp and fast stop end. (DESIGN CHOICE: note 90.) -/
def Dev.stopClear (d : Dev) : Dev := { d with arr := { d.arr with ramp := none, fastFrom := none, zeroBeats := 0, zeroPower := false } }

/-- R105: a string enters a precharge phase. (DESIGN CHOICE: note 39.) -/
def Dev.preEnter (d : Dev) (s ph : Nat) : Dev :=
  let c := d.dcl
  let tmax := match ph with | 2 => c.passiveTmaxMs | 3 => c.activeTmaxMs | 4 => c.linkTmaxMs | _ => c.holdTmaxMs
  let v : Rat := if ph = 4 then d.sns 14 else meanOf (d.actOf s) d.xEnd
  let d := (d.prePhase s ph).arm (.prechPhase s) (msT tmax)
  { d with arr := { d.arr with preV := d.arr.preV.set s (v * 1000000).floor, preMet := d.arr.preMet.set s none } }

/-- R78, R105: the string loans are filed in the Catalogue's precharge order, one REFCLK cycle apart. A refusal at filing ends the precharge. (DESIGN CHOICE: note 39.) -/
def Dev.preFile (d : Dev) : Dev :=
  (d.each (List.range d.dcl.preOrder.length) fun d j =>
    if d.st ≠ PRECHARGE then d
    else
      let s := d.dcl.preOrder.getD j 0
      let d := ((d.prePhase s 1).setB F.GLB_PRECHARGE.LINK (j + 1 == d.dcl.preOrder.length) s).loanFile 8 s
      { d with loanWait := d.loanWait.map (fun (q : LoanReq) => if q.op == 8 && q.inst == s then { q with filed := q.filed + 4 * j } else q) })

/-- R103, R105, R299, R352, R368, R416, R508: entry to PRECHARGE. -/
def Dev.enterPrecharge (d : Dev) (o : Orig) : Dev :=
  let d := (({ d with arr := { d.arr with starting := false } }).stopClear).disarm .startLock
  let d := d.setState PRECHARGE o
  let d := if d.bit F.SAF_STATE.LOOP_ON then d else d.loopStart
  let d := ((d.pwPrecharge).brakeArm).loopEntry true
  let d := d.arm .loopLoan (msT 1)
  let d := { d with col := { d.col with inZone := false, lostZone := false, parkDue := false } }
  d.preFile

/-- R77, R81, R104: START from LINKED files its two loans. -/
def Dev.startFile (d : Dev) : Dev :=
    let d := ({ d with arr := { d.arr with starting := true } }).loanFile 4 0
    let d := if d.arr.starting then d.pllDemand 2 2 else d
    if d.arr.starting && d.clk.starting.getD 2 false then d.arm .startLock (msT 1) else d

/-- R103, R104, R537: START; a second one while one waits changes nothing. (DESIGN CHOICE: note 90.) -/
def execStart (c : HostCmd) (s : State) : Host.Outcome State Fault Refusal := onMain s fun d =>
  d.checked 0x30 c fun d =>
    if d.st = LINKED ∧ d.arr.starting then (d, none)
    else match d.startCheck with
    | some k => (d, some k)
    | none =>
      if d.st = LINKED then (d.startFile, none)
      else if d.stillCharged then (((d.stopClear).setState RUN (Orig.cmd c)), none)
      else (d.enterPrecharge (Orig.cmd c), none)

/-- R104, R99: at a beat boundary with both loans granted, PLL-S locked and the committed safety parameters still those of the Catalogue, the device
enters PRECHARGE. -/
def execEnterPrecharge (s : State) : Host.Outcome State Fault Refusal := onMain s fun d =>
  if d.st = LINKED ∧ d.arr.starting ∧ d.hasLoan 4 0 ∧ d.bit F.PLL_STATUS.LOCKED 2 ∧ d.bit F.GLB_CAT.SAFETY_MATCH then
    (d.toPhase 0).enterPrecharge .registrar
  else d

/-- R104: PLL-S has not locked within 1 ms of its grant. -/
def execStartLockTimeout (s : State) : Host.Outcome State Fault Refusal := onMain s fun d =>
  d.fire .startLock fun d => if d.arr.starting then (d.raise 10 1 0).startEnd else d

/-- R279: STOP. -/
def execStop (c : HostCmd) (s : State) : Host.Outcome State Fault Refusal := onMain s fun d => d.simple 0x31 c (·.orderlyStop (Orig.cmd c))

/-- R77, R103, R348: RELEASE. -/
def execRelease (c : HostCmd) (s : State) : Host.Outcome State Fault Refusal := onMain s fun d =>
  d.simple 0x32 c fun d =>
    let d := (((d.stopClear).loanReturn 4 0).disarm .loopLoan).pllDrop 2 2
    ((d.grpRelease).setState LINKED (Orig.cmd c))

/-! Precharge (R105 to R107) -/

/-- R105: every string but the last has ended its precharge. (DESIGN CHOICE: note 91.) -/
def Dev.othersDone (d : Dev) (s : Nat) : Bool := d.dcl.preOrder.all (fun x => x == s || d.get F.GLB_PRECHARGE.PHASE x == 6)

/-- R106: a string's Hold ends: its loan goes back; after the last, RUN at the next beat boundary. -/
def Dev.preDone (d : Dev) (s : Nat) : Dev :=
  let d := ((d.prePhase s 6).disarm (.prechPhase s)).loanReturn 8 s
  if d.dcl.preOrder.all (fun x => d.get F.GLB_PRECHARGE.PHASE x == 6) then ((d.nextBeat).setState RUN) else d

/-- R5, R105, R106: a string's phase meets its end condition, before the end of its limit. (DESIGN CHOICE: note 90.) -/
def execPrechargePhaseEnd (s : Fin 6) (st : State) : Host.Outcome State Fault Refusal := onMain st fun d =>
  match d.arr.preMet.getD s none with
  | none => d
  | some t =>
    let ph := d.get F.GLB_PRECHARGE.PHASE s
    let last := d.dcl.preOrder.getLast? == some s.val
    let at_ := t + (if ph = 2 then msT 100 else if ph = 5 then msT d.dcl.holdMs else 0)
    let late := match d.due (.prechPhase s) with | some x => decide (x ≤ at_) | none => false
    if d.st ≠ PRECHARGE || late then d
    else d.wait at_ fun d =>
      match ph with
      | 2 => d.preEnter s 3
      | 3 => if !last then d.preEnter s 5 else if d.othersDone s then d.preEnter s 4 else d.disarm (.prechPhase s)
      | 4 => d.preEnter s 5
      | 5 => d.preDone s
      | _ => d

/-- R107: a phase is not reached within its maximum. -/
def execPrechargeTimeout (s : Fin 6) (st : State) : Host.Outcome State Fault Refusal := onMain st fun d =>
  d.fire (.prechPhase s) fun d => if d.st = PRECHARGE then d.preFail s (d.get F.GLB_PRECHARGE.PHASE s) else d

/-! Grants and refusals (R78, R79) -/

/-- R77, R81: what a grant starts, by operation. -/
def Dev.grantEffect (d : Dev) (op inst : Nat) : Dev :=
  match op with
  | 0 => ({ d with clk := { d.clk with lpddrExiting := true } }).arm .refreshExit 500
  | 1 | 2 | 3 =>
    let d := ({ d with clk := { d.clk with starting := d.clk.starting.set op true } }).setB F.PLL_STATUS.LOAN_WAIT false op
    if op = 2 ∧ d.arr.starting then d.arm .startLock (msT 1) else d
  | 5 => d.groupGo inst
  | 6 => d.dumpRun
  | 7 => d.harmGrant
  | 8 => d.preEnter inst 2
  | 9 => d.grpStart inst
  | 10 => d.colReady
  | _ => d

/-- R78: the first waiting request of the chip budget (0) or the site budget (1) is granted where its cost fits. (DESIGN CHOICE: note 37.) -/
def execLoanGrant (b : Fin 2) (s : State) : Host.Outcome State Fault Refusal := onMain s fun d =>
  match d.reqFirst (b == 1) with
  | none => d
  | some q =>
    if d.pwr.saveWin || d.reg.loanStop || d.loanAvail (b == 1) < q.cost then d
    else
      let before := d.loanAvail (b == 1)
      let d := d.loanDrop q.op q.inst
      let d := ((({ d with loans := ⟨q.op, q.inst, q.cost⟩ :: d.loans }).loanSync).inc F.LOAN_OP_GRANTED.COUNT 1 q.op).loanLog 1 q.op q.inst before
      (d.raise 13 0 q.op [q.inst % 256]).grantEffect q.op q.inst

/-- R79: a request is not granted within its wait limit. -/
def execLoanRefusedWait (op : Fin 11) (inst : Nat) (s : State) : Host.Outcome State Fault Refusal := onMain s fun d =>
  match d.loanWait.find? (fun q => q.op == op.val && q.inst == inst) with
  | none => d
  | some q => d.wait (q.filed + msT (d.get F.LOAN_OP_WAIT.WAIT_MS op)) fun d => (d.loanDrop op inst).refuse op inst 1

end Sys2Proof.Machine
end

