-- ==== Sys2Proof/Machine/HostSet.lean ====
section
/-! DEFINITION. The commands that set the loops, the output stage and the collector, and LOCKOUT_RESET (R302 to R305, R354, R355, R412, R413,
R516). -/

namespace Sys2Proof.Machine

/-- R302, R303: a SLOT_WRITE of an item. -/
def slotCommand (item : Nat) (c : HostCmd) (s : State) : Host.Outcome State Fault Refusal := onMain s fun d =>
  d.checked 0x48 c (·.slotWrite c.target item (c.p.map (· % 2 ^ 32)))

def execSlotWriteCoefficients (c : HostCmd) (s : State) : Host.Outcome State Fault Refusal := slotCommand 1 c s
def execSlotWriteLimits (c : HostCmd) (s : State) : Host.Outcome State Fault Refusal := slotCommand 2 c s
def execSlotWriteInputs (c : HostCmd) (s : State) : Host.Outcome State Fault Refusal := slotCommand 3 c s
def execSlotWriteFeedForward (c : HostCmd) (s : State) : Host.Outcome State Fault Refusal := slotCommand 4 c s
def execSlotWriteHistoryPreset (c : HostCmd) (s : State) : Host.Outcome State Fault Refusal := slotCommand 5 c s
def execSlotWriteConfiguration (c : HostCmd) (s : State) : Host.Outcome State Fault Refusal := slotCommand 6 c s
def execSlotWriteInputScale (c : HostCmd) (s : State) : Host.Outcome State Fault Refusal := slotCommand 7 c s

/-- R304, R577: TABLE_WRITE: the entries fetched, or detail 1 where the fetch failed. -/
def execTableWrite (c : HostCmd) (s : State) : Host.Outcome State Fault Refusal := onMain s fun d =>
  d.checked 0x49 c fun d => match c.payload with
    | .words ws => (d.tableWrite c.target (arg c 0 % 4096) ((ws.take (arg c 1)).map (· % 2 ^ 32)), none)
    | _ => (d.fetchAer c, some 1)

/-- R354: V_SET. -/
def execOutputSetVSet (c : HostCmd) (s : State) : Host.Outcome State Fault Refusal := onMain s fun d =>
  d.simple 0x50 c (·.set F.GRP_VSET.VSET (arg c 1) c.target)

/-- R354: ISET; detail 1 above I_MAX. -/
def execOutputSetIset (c : HostCmd) (s : State) : Host.Outcome State Fault Refusal := onMain s fun d =>
  d.checked 0x50 c fun d =>
    let f := arg c 1 % 65536
    let r := arg c 1 / 65536
    if d.get F.GRP_IMAX.I_MAX c.target < max f r then (d, some 1) else ((d.set F.GRP_ISET.FWD f c.target).set F.GRP_ISET.REV r c.target, none)

/-- R354: the enables of shedding and burst mode. -/
def execOutputSetEnables (c : HostCmd) (s : State) : Host.Outcome State Fault Refusal := onMain s fun d =>
  d.simple 0x50 c fun d => (d.set F.GRP_SHED.SHED_EN (arg c 1) c.target).set F.GRP_SHED.BURST_EN (arg c 1 / 2) c.target

/-- R354: the truncation limit. -/
def execOutputSetTrunc (c : HostCmd) (s : State) : Host.Outcome State Fault Refusal := onMain s fun d =>
  d.simple 0x50 c (·.set F.GRP_TRUNC.TRUNC (arg c 1) c.target)

/-- R348, R355: GROUP_ENABLE with P0[0] at 1: detail 1 where an input it needs shows LOST; RESULT[0] says whether something changed. -/
def execGroupEnable (c : HostCmd) (s : State) : Host.Outcome State Fault Refusal := onMain s fun d =>
  (d.command 0x51 c fun d => if d.grpSenseLost c.target then (d, .failed 1) else let (x, b) := d.grpEnable c.target; (x, .applied (b2n b))).1

/-- R349, R355: GROUP_ENABLE with P0[0] at 0. -/
def execGroupDisable (c : HostCmd) (s : State) : Host.Outcome State Fault Refusal := onMain s fun d =>
  (d.command 0x51 c fun d => let (x, b) := d.grpDisable c.target; (x, .applied (b2n b))).1

/-- R412, R413: a COLLECTOR_MOVE of an item. -/
def moveCommand (item : Nat) (c : HostCmd) (s : State) : Host.Outcome State Fault Refusal := onMain s fun d =>
  d.checked 0x58 c (·.colCommand item (toS 32 (arg c 1)) (arg c 2) (arg c 3))

def execMoveTo (c : HostCmd) (s : State) : Host.Outcome State Fault Refusal := moveCommand 1 c s
def execTrack (c : HostCmd) (s : State) : Host.Outcome State Fault Refusal := moveCommand 2 c s
def execHold (c : HostCmd) (s : State) : Host.Outcome State Fault Refusal := moveCommand 3 c s
def execDriveOff (c : HostCmd) (s : State) : Host.Outcome State Fault Refusal := moveCommand 4 c s
def execHome (c : HostCmd) (s : State) : Host.Outcome State Fault Refusal := moveCommand 5 c s
def execPark (c : HostCmd) (s : State) : Host.Outcome State Fault Refusal := moveCommand 6 c s

/-- R516: LOCKOUT_RESET. -/
def execLockoutReset (c : HostCmd) (s : State) : Host.Outcome State Fault Refusal := onMain s fun d => d.checked 0x33 c (·.lockoutReset c)

end Sys2Proof.Machine
end

