-- ==== Sys2Proof/Machine/Wire.lean ====
section
/-! DEFINITION. What the block writes to host memory, byte by byte: completions (R131), events and loss records (R135, R137), stream pages (R139),
write-backs (R134), copies of log entries (R163), the Archive's records (R492); and what its configuration
space reports (R109, R546). The trace `Dev.out` holds what is written by its fields; these functions lay it out. (DESIGN CHOICE: notes 5, 7.) -/

namespace Sys2Proof.Machine

/-- R131: the 32 bytes of a completion record. -/
def Completion.bytes (phase : Nat) (c : Completion) : List Nat :=
  leBytes 8 c.tag ++ leBytes 4 c.index
    ++ leBytes 4 (c.opcode % 2 ^ 16 + (c.status % 256) * 2 ^ 16 + b2n c.held * 2 ^ 24 + (phase % 2) * 2 ^ 31)
    ++ leBytes 8 (c.beat % 2 ^ 48 + (c.reason % 2 ^ 16) * 2 ^ 48) ++ leBytes 8 c.result

/-- R135: the 32 bytes of an event record. -/
def Event.bytes (phase seq : Nat) (x : Event) : List Nat :=
  leBytes 8 x.tick
    ++ leBytes 4 (x.source % 256 + (x.cls % 8) * 2 ^ 8 + b2n x.merged * 2 ^ 11 + b2n x.forced * 2 ^ 12 + (x.sub % 64) * 2 ^ 18 + (phase % 2) * 2 ^ 31)
    ++ leBytes 4 seq ++ leBytes 4 x.object ++ (x.data ++ List.replicate 12 0).take 12

/-- R135, R137: the 32 bytes of a loss record. -/
def lossBytes (phase seq lost : Nat) : List Nat :=
  leBytes 8 0 ++ leBytes 4 (2 ^ 13 + (phase % 2) * 2 ^ 31) ++ leBytes 4 seq ++ leBytes 4 lost ++ List.replicate 12 0

/-- R139: the 4,096 bytes of a stream page of `n` signals a record, taken every `decim` beats. -/
def pageBytes (decim n phase seq firstBeat lost : Nat) (records : List (List Nat)) : List Nat :=
  let head := leBytes 8 seq ++ leBytes 8 (firstBeat % 2 ^ 48)
    ++ leBytes 4 (decim % 2 ^ 16 + ((n + 31) % 32) * 2 ^ 16 + (records.length % 1024) * 2 ^ 21 + (phase % 2) * 2 ^ 31) ++ leBytes 4 0 ++ leBytes 8 lost
    ++ List.replicate 32 0
  (head ++ (records.map (fun (r : List Nat) => (r.map (leBytes 4)).flatten)).flatten ++ List.replicate 4096 0).take 4096

/-- R134: the 8 bytes of a write-back. -/
def writeBackBytes (index : Nat) (fault stall : Bool) : List Nat := leBytes 8 (index % 2 ^ 32 + b2n fault * 2 ^ 32 + b2n stall * 2 ^ 33)

/-- R492: bytes of one number of a record's body: samples of cells and of sense inputs are 16 bits, of metering channels 32, marker bodies bytes. -/
def ArcRec.width (r : ArcRec) : Nat := if r.type = 2 ∨ r.type = 3 then 2 else if r.type = 4 then 4 else 1

/-- R492: the header of a record up to its CRC. -/
def ArcRec.header (r : ArcRec) : List Nat :=
  leBytes 4 (r.type % 256 + (r.flags % 256) * 2 ^ 8 + (r.len % 2 ^ 16) * 2 ^ 16) ++ leBytes 4 r.object ++ leBytes 8 r.time ++ leBytes 8 r.aux ++ leBytes 4 0

/-- R492: the bytes of a record: the header, its CRC over header and body, the body. -/
def ArcRec.bytes (r : ArcRec) : List Nat :=
  let body := (r.body.map (fun x => leBytes r.width (ofS (8 * r.width) x))).flatten
  r.header ++ leBytes 4 (crc32 (r.header ++ body)) ++ body

/-- R492: the SEGMENT record that begins segment `n` of a ring, with the offset of the first record that starts in the segment. -/
def segmentBytes (n tick first : Nat) : List Nat :=
  ArcRec.bytes { type := 1, flags := 0, object := n, time := tick, aux := first % 2 ^ 16, body := [], len := 32 }

/-- R163: a log copy: entries from `first`, `n` of them, as they stand (`entries` is newest first). -/
def logCopyBytes (entries : List LogEntry) (first n : Nat) : List Nat :=
  (((entries.filter (fun e => first ≤ e.seq && e.seq < first + n)).reverse).map LogEntry.bytes).flatten

/-- What an element of the trace puts into host memory; none where it is no write to it. A page's DECIM and NSIG are the registers of its ring. -/
def Dev.hostBytes (d : Dev) : Out → Option (List Nat)
  | .completion _ _ phase c => some (c.bytes phase)
  | .event _ _ phase seq x => some (x.bytes phase seq)
  | .lossRecord _ _ phase seq lost => some (lossBytes phase seq lost)
  | .writeBack _ i fault stall => some (writeBackBytes i fault stall)
  | .page s _ phase seq first lost records => some (pageBytes (d.get F.STRM_DEC.DECIM s) (d.get F.STRM_DEC.NSIG s + 1) phase seq first lost records)
  | .logCopy _ _ first n => some (logCopyBytes d.prov.entries first n)
  | _ => none

/-- R109, R546: what the configuration space of a function reports: vendor, device, revision, class code, subsystem vendor, subsystem. -/
def Dev.configSpace (d : Dev) (f : Fin 2) : List Nat :=
  [d.get F.GLB_ID.VENDOR, 0x0960 + f.val, d.get F.GLB_STEP.STEP, 0x118000, d.get F.GLB_ID.VENDOR, d.get F.GLB_VARIANT.VARIANT + 1]

end Sys2Proof.Machine
end

