-- ==== Sys2Proof/Machine/Access.lean ====
section
/-! DEFINITION. Host accesses to BAR0 and BAR2 (R7 to R13, R110, R111, R138, R147 to R149, R161, R541, R542): reads of 64-bit registers, register
writes with the rules of each field, forces, and LOG_ACK, which ends the hold of writes. -/

namespace Sys2Proof.Machine

/-! What a field's write does -/

/-- R11: the source of a W1C flag is still active. A safety input's wake and VIN's return are events without a lasting source. (DESIGN CHOICE: notes 31, 59.) -/
def Dev.flagHeld (d : Dev) (x : Fld) (a bit : Nat) : Bool :=
  if x = F.GLB_CONSERVE.FAULT then d.reg.active.contains (193, bit + 1)
  else if x = F.RSV_WAKE_CAUSE.WAKE0 then d.pwr.wakeHigh.getD 0 false
  else if x = F.RSV_WAKE_CAUSE.WAKE1 then d.pwr.wakeHigh.getD 1 false
  else if x = F.RSV_WAKE_CAUSE.CATP then d.bit F.RSV_CATP.LEVEL
  else if x = F.RSV_WAKE_CAUSE.CAN0 then d.pwr.canStb.getD 0 false && d.pwr.canLow.getD 0 false
  else if x = F.RSV_WAKE_CAUSE.CAN1 then d.pwr.canStb.getD 1 false && d.pwr.canLow.getD 1 false
  else if x = F.RSV_WAKE_CAUSE.ALARM then d.get F.RSV_ALARM.AT != 0 && d.get F.RSV_TIME.COUNT == d.get F.RSV_ALARM.AT
  else if x = F.PLL_STATUS.REF_LOST then !d.bit F.RSV_STATUS.REFCLK_OK
  else if x = F.PLLS_SYNC.LOST then d.reg.active.contains (12, 0)
  else if x = F.HOST_WD.EXPIRED then d.reg.active.contains (19, 0)
  else if x = F.xQ_STATUS.FAULT then d.bit F.xQ_CTRL.EN a
  else if x = F.SLOT_STATUS.NUMERIC then (unit d.slots a).numAt == some d.beat
  else if x = F.OS_SENSE_LOST.LOST then d.get F.OS_SENSE.SENSE_BEATS ≤ d.os.rail.getD bit 0
  else if x = F.XTRIP_CFG.TRIP then d.bit F.XTRIP_CFG.ACTIVE a
  else if x = F.HALL_STATUS.FAULT then d.get F.HALL_STATUS.STATE == 0 || d.get F.HALL_STATUS.STATE == 7
  else if x = F.GD_STATUS.TRIP then d.bit F.GD_STATUS.T_ACTIVE a
  else if x = F.GD_STATUS.UV_POS then (unit d.gates a).lowPos
  else if x = F.GD_STATUS.UV_NEG then (unit d.gates a).lowNeg
  else if x = F.GD_STATUS.CARRIER_LOST then (unit d.gates a).lostNow
  else if x = F.MET_CH_FLAGS.LOST then (unit d.metCh bit).lostNow
  else if x = F.MET_CH_FLAGS.OVR then (unit d.metCh bit).ovrNow
  else if x = F.MET_ZC.TIMEOUT then (unit d.metCh bit).zcOut
  else if x = F.REG_RSW.RSW then d.reg.active.any (fun e => e.1 / 4 == bit)
  else false

/-- What follows the clear of a flag. -/
def Dev.flagCleared (d : Dev) (x : Fld) (a : Nat) : Dev :=
  if x = F.xQ_STATUS.FAULT then d.set F.xQ_STATUS.FAULT_CODE 0 a
  else if x = F.GD_STATUS.UV_POS ∨ x = F.GD_STATUS.UV_NEG ∨ x = F.GD_STATUS.CARRIER_LOST then (d.lockSync a).check21 a
  else if x = F.ENC_STATUS.LINE_FAULT then d.colValid
  else d

/-- R9, R11: a W1C write, flag by flag: the device, whether a flag cleared, whether one was refused. (DESIGN CHOICE: note 59.) -/
def Dev.flagWrite (d : Dev) (x : Fld) (a b v : Nat) : Dev × Bool × Bool :=
  let hit := those x.w (fun i => v.testBit i && (d.get x a b).testBit i)
  let gone := hit.filter (fun i => !d.flagHeld x a i)
  if hit.isEmpty then (d, false, false)
  else
    let e := (d.set x (gone.foldl (fun w i => putBits w i 1 0) (d.get x a b)) a b).free
    (if gone.isEmpty then e else e.flagCleared x a, !gone.isEmpty, gone.length < hit.length)

/-- R488: the highest class that a source's chapter gives it in the present state. (DESIGN CHOICE: note 60.) -/
def Dev.forceClass (d : Dev) (n : Nat) : Nat :=
  let e := d.energy
  if n ∈ [8, 9] then (if e then 5 else 1)
  else if n ∈ [2, 96, 130, 193, 226] then (if e then 4 else 1)
  else if n ∈ [32, 225] then (if e then 2 else 1)
  else if n = 160 then (if e then 4 else 1)
  else if n = 163 then (if e then 3 else 1)
  else if n = 19 then (if e then d.get F.HOST_WD.CLASS else 1)
  else if n ∈ [3, 7, 13, 18, 22, 109, 144, 145, 164, 180, 196, 197] then 0
  else if n ∈ [38, 39, 65, 66, 68, 104, 106, 148, 149, 150, 228] then 2
  else if n ∈ [72, 111, 151] then 3
  else if n ∈ [5, 10, 21, 70, 71, 97, 105, 107, 128, 129, 131, 132, 194] then 4
  else if n = 192 then 5
  else 1

/-- R488: bits of REG_FORCE[w]: the permitted sources are forced at the next tick; true where a bit is refused. -/
def Dev.forceWrite (d : Dev) (w v : Nat) : Dev × Bool × Bool :=
  let bits := those 32 (fun b => v.testBit b)
  let ok := bits.filter (fun b => !reservedSrc (32 * w + b) && !(208 ≤ 32 * w + b && 32 * w + b ≤ 223))
  let d := if ok.isEmpty then d else (d.elapse 1).each ok (fun d b => d.force (32 * w + b) (d.forceClass (32 * w + b)))
  (d, !ok.isEmpty, ok.length < bits.length)

/-- R75: the phase step, up to ±32,767 sub-ticks: spread, or added to OFFSET while SYNC_IN is followed. A sum outside OFFSET's format is free. The one
value beyond the range, 0x8000, is refused as a step and added as a part of OFFSET. (DESIGN CHOICE: note 34.) -/
def Dev.stepWrite (d : Dev) (v : Nat) : Dev × Bool × Bool :=
  if v = 0 then (d, false, false)
  else if d.bit F.PLLS_PSTEP.BUSY then (d, false, true)
  else if d.bit F.PLLS_SYNC.EN then
    let n := d.getS F.PLLS_SYNC.OFFSET + toS 16 v
    (if n < -32768 ∨ 32767 < n then (d.set F.PLLS_SYNC.OFFSET (Config.freeNat d.freeCtr)).free else d.setS F.PLLS_SYNC.OFFSET n, true, false)
  else
    let n := toS 16 v
    if n = -32768 then (d, false, true) else
    ((({ d with clk := { d.clk with pstep := n, pstepAt := d.tick } }).setB F.PLLS_PSTEP.BUSY true).arm .pstep (d.osTicks n.natAbs), true, false)

/-- A write of a WO field; the saturating counters restart at the start of the next tick (R328): the device, whether it acted, whether it was refused. -/
def Dev.woWrite (d : Dev) (x : Fld) (a v : Nat) : Dev × Bool × Bool :=
  if v = 0 then (d, false, false)
  else if x = F.GLB_SATCLR.CLEAR then ((d.elapse 1).satClear, true, false)
  else if x = F.PLLS_PSTEP.STEPS then d.stepWrite v
  else if x = F.LANE_SLIP.SLIP then (if d.slipOk a then (d.slip a, true, false) else (d, false, true))
  else if x = F.CHR_SNAP.TAKE then (d.snap, true, false)
  else if x = F.REG_FORCE.FORCE then d.forceWrite a v
  else (d, false, false)

/-- R71: a hop entry's frequency; none where it is refused. (DESIGN CHOICE: note 35.) -/
def Dev.hopWrite (d : Dev) (h v : Nat) : Option Dev :=
  let used := h == d.get F.PLLS_SEL.ENTRY || (d.bit F.PLLS_SEL.HOP_BUSY && h == d.clk.hopFrom)
  if used || (v != 0 && !(90000000 ≤ v && v ≤ 110000000)) then none
  else
    let d := ((d.set F.PLLS_HOP.FREQ v h).setB F.PLLS_HOP.VALID false h)
    some (if v = 0 then d.disarm (.hopSearch h) else d.arm (.hopSearch h) (usT 300))

/-- R72: a hop; refused while one runs, while SYNC_IN is followed, and to an unused entry. (DESIGN CHOICE: note 35.) -/
def Dev.selWrite (d : Dev) (v : Nat) : Option Dev :=
  if d.bit F.PLLS_SEL.HOP_BUSY || d.bit F.PLLS_SYNC.EN || d.get F.PLLS_HOP.FREQ v == 0 then none
  else
    let d := { d with clk := { d.clk with hopFrom := d.get F.PLLS_SEL.ENTRY } }
    some (((d.set F.PLLS_SEL.ENTRY v).setB F.PLLS_SEL.HOP_BUSY true).arm .hopLock (if d.bit F.PLLS_HOP.VALID v then usT 20 else usT 300))

/-- R116: the enable of a ring. (DESIGN CHOICE: notes 41, 42.) -/
def Dev.ringEnable (d : Dev) (r : Nat) (on : Bool) : Option Dev :=
  if on then
    if r < 16 ∧ !(d.bit F.xQ_CTRL.EN (16 + r) && d.get F.xQ_CTRL.OWNER (16 + r) == d.get F.xQ_CTRL.OWNER r
        && d.get F.xQ_CTRL.LOG2SIZE r ≤ d.get F.xQ_CTRL.LOG2SIZE (16 + r)) then none
    else some (d.ringOn r)
  else if 16 ≤ r ∧ r < 32 ∧ (d.bit F.xQ_CTRL.EN (r - 16) || d.get F.xQ_STATUS.PENDING (r - 16) != 0) then none
  else some (d.ringOff r true)

/-- R76: a budget, not below the loans outstanding. -/
def Dev.budgetWrite (d : Dev) (x : Fld) (site : Bool) (v : Nat) : Option Dev :=
  if v < d.loansOut site then none else some ((d.set x v).loanSync)

/-- R457: arm a host set of network time. (DESIGN CHOICE: note 58.) -/
def Dev.setAtWrite (d : Dev) (v : Nat) : Option Dev :=
  if v < d.tick + 1024 ∨ (d.get F.CHR_SERVO.SOURCE ≠ 0 ∧ d.get F.CHR_STATE.NT_STATE = 3) ∨ d.bit F.CHR_STATE.SET_ARMED then none
  else some (((d.set F.CHR_SET_AT.TICK v).setB F.CHR_STATE.SET_ARMED true).arm .set (v - d.tick))

/-- R458, R65: a port's mode: the link of the old one is down; a port with a mode demands PLL-E. -/
def Dev.ethMode (d : Dev) (n v : Nat) : Dev :=
  let d := (d.ethDown n).set F.ETH_CFG.MODE v n
  if (List.range 2).any (fun n => d.get F.ETH_CFG.MODE n != 0) then d.pllDemand 3 4 else d.pllDrop 3 4

/-- R471, R57: a CAN controller's enable drives its standby output low; one held low since a CAN wake stays low until CAT_LOAD. (DESIGN CHOICE: note 109.) -/
def Dev.canEnable (d : Dev) (c : Nat) (on : Bool) : Dev :=
  let d := d.setB F.CAN_CFG.EN on c
  { d with pwr := { d.pwr with canStb := d.pwr.canStb.set c !(on || d.pwr.canHeld.getD c false) } }

/-- R65: a PLL forced on or let go. (DESIGN CHOICE: note 58.) -/
def Dev.forceOn (d : Dev) (p : Nat) (on : Bool) : Dev :=
  let d := d.setB F.PLL_CTRL.FORCE_ON on p
  if on then d.pllAsk p else if (d.clk.demand.getD p []).isEmpty ∧ d.pllBusy p then d.arm (.pllStop p) (msT 100) else d

/-- R73: SYNC_IN followed from now, or no longer. -/
def Dev.syncEnable (d : Dev) (on : Bool) : Dev :=
  let d := (d.setB F.PLLS_SYNC.EN on).setB F.PLLS_SYNC.LOCKED false
  ({ d with clk := { d.clk with syncLast := none, syncGood := 0, syncBack := 0 } }).condOff 12 0

/-- R9: the write of a new value to an RW field, or to an RWC field before commit; none where a rule of the field refuses it. (DESIGN CHOICE: notes 57, 58.) -/
def Dev.rwWrite (d : Dev) (x : Fld) (a b c v : Nat) : Option Dev :=
  if !inRange refuseRange x v then none
  else if x = F.RSV_CTRL.IDLE_SLEEP then some ((d.set x v).disarm .idleSleep)
  else if x = F.PLL_CTRL.FORCE_ON then some (d.forceOn a (v == 1))
  else if x = F.PLL_CTRL.REF_MODE then (if d.bit F.PLL_STATUS.LOCKED a || d.clk.starting.getD a false then none else some (d.set x v a))
  else if x = F.PLLS_SEL.ENTRY then d.selWrite v
  else if x = F.PLLS_HOP.FREQ then d.hopWrite a v
  else if x = F.PLLS_SYNC.EN then some (d.syncEnable (v == 1))
  else if x = F.LOAN_CHIP.BUDGET then d.budgetWrite x false v
  else if x = F.LOAN_SITE.BUDGET then d.budgetWrite x true v
  else if x = F.HOST_WD.TIMEOUT_MS then some ((d.set x v).wdRestart)
  else if x = F.xQ_BASE.ADDR ∨ x = F.xQ_WB.ADDR ∨ x = F.xQ_CTRL.LOG2SIZE ∨ x = F.xQ_CTRL.OWNER then (if d.bit F.xQ_CTRL.EN a then none else some (d.set x v a))
  else if x = F.xQ_CTRL.EN then d.ringEnable a (v == 1)
  else if x = F.STRM_DEC.DECIM ∨ x = F.STRM_DEC.NSIG then (if d.bit F.xQ_CTRL.EN (36 + a) then none else some (d.set x v a))
  else if x = F.STRM_SIG.OFFSET then (if v % 4 = 0 then some (d.set x v a b) else none)
  else if x = F.LANE_CTRL.TEST_HOLD then (if d.st = STAGED ∨ d.st = LINKED then some (d.testHold a (v == 1)) else none)
  else if x = F.LANE_CTRL.MANUAL_ALIGN then (if d.st = STAGED ∨ d.st = LINKED then some (d.set x v a) else none)
  else if x = F.CHR_SET_AT.TICK then d.setAtWrite v
  else if x = F.OS_CTRL.PHASE_DECL ∨ x = F.PW_CFG.FUNC then some ((d.set x v a b c).offUndeclared false)
  else if x = F.ETH_CFG.MODE then some (d.ethMode a v)
  else if x = F.CAN_CFG.EN then some (d.canEnable a (v == 1))
  else if x = F.REG_SRC.CLASS_FLOOR ∨ x = F.REG_SRC.TRIG then (if reservedSrc a then none else some (d.set x v a))
  else if x = F.REG_SRC.DERATE then (if reservedSrc a || derateFixed a then none else some (d.set x v a))
  else some (d.set x v a b c)

/-- R9, R10, R98: what a write of bits `v` does to one field: the device, whether something changed, whether something was refused. -/
def Dev.fieldWrite (d : Dev) (x : Fld) (a b c v : Nat) : Dev × Bool × Bool :=
  match x.code a with
  | .ro => (d, false, false)
  | .w1c => d.flagWrite x a b v
  | .wo => d.woWrite x a v
  | k =>
    let v := if x = F.xQ_CTRL.IRQ_EN ∧ a < 16 then 0 else storedAs x v
    if x = F.PW_FORCE.FORCE then d.forceAccess a v
    else if v = d.get x a b c then (d, false, false)
    else if k = .rwc ∧ d.bit F.GLB_CAT.LOADED then (d, false, true)
    else match d.rwWrite x a b c v with
      | some e => (e, true, false)
      | none => (d, false, true)

/-! What a register's write does -/

/-- A register as one number: both words where it is 64 bits wide. -/
def Dev.regNow (d : Dev) (base : Nat) (wide : Bool) : Nat := d.readWord base + (if wide then d.readWord (base + 4) * 2 ^ 32 else 0)

/-- The fields of the register at `base`, in ascending order, that the covered bits [lo, lo + n) reach. -/
def fieldsIn (base lo n : Nat) : List (Fld × Nat × Nat × Nat) :=
  ((fieldsAt base).filter (fun x => !x.2.2.2.2 && x.1.lo < lo + n && lo < x.1.lo + x.1.w)).map (fun x => (x.1, x.2.1, x.2.2.1, x.2.2.2.1))

/-- R10: the fields of a register one after another; bits of a field that the access does not cover keep their value, and as flags read 0. -/
def Dev.regApply (d : Dev) (base lo n v : Nat) : Dev × Bool × Bool :=
  (fieldsIn base lo n).foldl (fun (r : Dev × Bool × Bool) x =>
    let f := x.1
    let keep := match f.code x.2.1 with | .w1c | .wo => 0 | _ => r.1.get f x.2.1 x.2.2.1 x.2.2.2
    let nv := (List.range f.w).foldl (fun w i => if lo ≤ f.lo + i && f.lo + i < lo + n then putBits w i 1 (bitsAt v (f.lo + i) 1) else w) keep
    let (e, ch, rf) := r.1.fieldWrite f x.2.1 x.2.2.1 x.2.2.2 nv
    (e, r.2.1 || ch, r.2.2 || rf)) (d, false, false)

/-- R148: the bits written into WO fields, which stand in NEW in place of the fields. -/
def woBits (base lo n v : Nat) : Nat :=
  ((fieldsIn base lo n).filter (fun x => x.1.code x.2.1 == .wo)).foldl (fun w x => w ||| (bitsAt v x.1.lo x.1.w * 2 ^ x.1.lo)) 0

/-- R148, R541: a write of the bits [lo, lo + n) of the register at `base`, with its entries. True where something changed. (DESIGN CHOICE: notes 28, 50, 51, 56.) -/
def Dev.regWrite (d : Dev) (f base : Nat) (wide : Bool) (lo n aux v : Nat) : Dev × Bool :=
  let old := d.regNow base wide
  let want := old - bitsAt old lo n * 2 ^ lo + bitsAt v lo n * 2 ^ lo
  let (t, ch, rf) := d.regApply base lo n v
  if ch then
    let d := (d.log 1 (.host f) base aux old (t.regNow base wide ||| woBits base lo n v))
    let e := (d.regApply base lo n v).1
    (if rf then e.attempt f base aux (e.regNow base wide) want true else e, true)
  else (t.attempt f base aux (t.regNow base wide) want rf, false)

/-- R157: the byte enables of an access of `n` bytes at an offset, from the start of its word: [3:0] the low word, [7:4] the high word. -/
def byteEnables (off n : Nat) : Nat := (those 8 (fun i => off % 4 ≤ i && i < off % 4 + n)).foldl (fun w i => w + 2 ^ i) 0

/-- R148: a write that is refused as a whole: its entry gives the register it addresses as it stands, 64 bits wide where that register is or the access
covers two words, and the bytes it would have written. (DESIGN CHOICE: note 56.) -/
def Dev.refuseWrite (d : Dev) (f off n v : Nat) : Dev :=
  let w := off / 4 * 4
  match fieldsAt (aliasOff w) with
  | x :: _ =>
    let base := if x.1.wide ∧ x.2.2.2.2 then w - 4 else w
    d.attempt f off (byteEnables off n * (if base = w then 1 else 16) % 256) (d.regNow base (x.1.wide || 4 < n)) v true
  | [] => d.attempt f off (byteEnables off n) (d.regNow w (decide (4 < n))) v true

/-- R14, R541, R89: a word that no host write reaches. -/
def Dev.barred (d : Dev) (off : Nat) : Bool := (0xD00000 ≤ off && off < 0xE00000) || !isUsed off || !d.offers off

/-- R541: the low words that function `f` holds. -/
def Dev.heldLow (d : Dev) (f : Nat) : List (Nat × Nat) := d.rings.lowHold.getD f []

/-- R541: function `f` holds the low word `v` for the register at `base`, or none any more. -/
def Dev.holdLow (d : Dev) (f base : Nat) (v : Option Nat) : Dev :=
  let rest := (d.heldLow f).filter (fun x => x.1 != base)
  { d with rings := { d.rings with lowHold := d.rings.lowHold.set f (match v with | some w => (base, w) :: rest | none => rest) } }

/-- R541: a 32-bit access at a word offset. -/
def Dev.wordWrite (d : Dev) (f off v : Nat) : Dev × Bool :=
  let v := v % 2 ^ 32
  if d.barred off then (d.refuseWrite f off 4 v, false)
  else match fieldsAt off with
    | [] => (d.attempt f off 15 (d.readWord off) v false, false)
    | x :: _ =>
      if !x.1.wide then d.regWrite f off false 0 32 15 v
      else
        let hi := x.2.2.2.2
        let base := if hi then off - 4 else off
        if isHeld base then
          if hi then
            let low := ((d.heldLow f).find? (fun x => x.1 == base)).map (·.2)
            let d := d.holdLow f base none
            d.regWrite f base true 0 64 (if low.isSome then 255 else 240) (v * 2 ^ 32 + low.getD (d.readWord base))
          else (d.holdLow f base (some v), true)
        else if hi then d.regWrite f base true 32 32 240 (v * 2 ^ 32) else d.regWrite f base true 0 32 15 v

/-- R541, R148: a 64-bit access: one 64-bit register, or two words, the lower first; one that reaches neither is one refused write. -/
def Dev.quadWrite (d : Dev) (f off v : Nat) : Dev × Bool :=
  let wide : Bool := match fieldsAt off with | x :: _ => x.1.wide && !x.2.2.2.2 | [] => false
  if d.barred off ∧ d.barred (off + 4) then (d.refuseWrite f off 8 v, false)
  else if wide ∧ !d.barred off then d.regWrite f off true 0 64 255 (v % 2 ^ 64)
  else
    let (d, a) := d.wordWrite f off v
    let (d, b) := d.wordWrite f (off + 4) (v / 2 ^ 32)
    (d, a || b)

/-- R13, R111, R147, R542: a write to BAR0. True where something changed. A write of PF1 is answered as R13 says whatever its size, and is not counted in
RING_STRAY. (DESIGN CHOICE: note 56.) -/
def Dev.bar0Write (d : Dev) (w : RegWrite) : Dev × Bool :=
  if w.f.val = 1 then ((d.emit (.unsupported 1)).refuseWrite 1 w.offset w.bytes w.v, false)
  else if !(w.bytes == 4 || w.bytes == 8) || w.offset % w.bytes != 0 then
    ((d.inc F.RING_STRAY.COUNT 1).refuseWrite 0 w.offset w.bytes w.v, false)
  else if w.bytes = 4 then d.wordWrite 0 w.offset w.v else d.quadWrite 0 w.offset w.v

/-- R110, R138: one word of a function's MSI-X table; a vector unmasked with a cause pending sends its message. -/
def Dev.msixWord (d : Dev) (f off v : Nat) : Dev :=
  let n := 64 * f + off / 16
  let k := 1024 * f + off
  let d := { d with rings := { d.rings with msixTable := (k, v % 2 ^ 32) :: d.rings.msixTable.filter (fun x => x.1 != k) } }
  if off % 16 ≠ 12 then d
  else if v % 2 = 1 then { d with rings := { d.rings with masked := n :: d.rings.masked.filter (· != n) } }
  else
    let d := { d with rings := { d.rings with masked := d.rings.masked.filter (· != n) } }
    if d.rings.msixPend.contains n then ({ d with rings := { d.rings with msixPend := d.rings.msixPend.filter (· != n) } }).msix f (off / 16) else d

/-- R110, R111, R161: a write to BAR2: the doorbells and the MSI-X table; no posted write arrives while the hold of writes is full. (DESIGN CHOICE: note 56.) -/
def bar2Write (w : RegWrite) (s : State) : Host.Outcome State Fault Refusal :=
  let o := w.offset
  if s.dev.creditsOut then onMain s id
  else if s.dev.deaf w.f then onMain s (·.emit (.unsupported w.f))
  else if !(w.bytes == 4 || w.bytes == 8) || o % w.bytes != 0 then onMain s fun d => (d.inc F.RING_STRAY.COUNT 1).attempt w.f.val o (byteEnables o w.bytes) 0 w.v true
  else if 0x2000 ≤ o ∧ o < 0x2400 then
    onMain s fun d => (d.msixWord w.f.val (o - 0x2000) w.v).cond (w.bytes == 8) (fun d => d.msixWord w.f.val (o - 0x2000 + 4) (w.v / 2 ^ 32))
  else if o % 8 ≠ 0 then .next s
  else if o < 0x80 then execCmdqTailDoorbell w.f (Fin.ofNat 16 (o / 8)) w.v s
  else if 0x100 ≤ o ∧ o < 0x180 then execCplqHeadDoorbell w.f (Fin.ofNat 16 ((o - 0x100) / 8)) w.v s
  else if 0x200 ≤ o ∧ o < 0x220 then execEvqHeadDoorbell w.f (Fin.ofNat 4 ((o - 0x200) / 8)) w.v s
  else if 0x300 ≤ o ∧ o < 0x340 then execStrmHeadDoorbell w.f (Fin.ofNat 8 ((o - 0x300) / 8)) w.v s
  else .next s

/-- R161: a write to BAR0 while the log holds waits, up to 64; one that would change nothing is counted at once. (DESIGN CHOICE: notes 44, 53.) -/
def Dev.hostWrite (d : Dev) (w : RegWrite) : Dev :=
  if d.creditsOut then d
  else if d.deaf w.f then d.emit (.unsupported w.f)
  else if d.bit F.VP_LOG_STATUS.HOLDING then
    let (t, ch) := d.bar0Write w
    if ch then { d with prov := { d.prov with holdWrites := d.prov.holdWrites ++ [w] } } else t
  else (d.bar0Write w).1

/-- R138: the messages of a function's pending vectors that nothing masks any more are sent. -/
def Dev.msixFlush (d : Dev) (f : Nat) : Dev :=
  d.each (those 64 (fun v => d.rings.msixPend.contains (64 * f + v))) (fun d v =>
    ({ d with rings := { d.rings with msixPend := d.rings.msixPend.filter (· != 64 * f + v) } }).msix f v)

/-- R109, R138, R143: what the host leaves in a function's configuration space: clearing Bus Master Enable stops the rings of both functions, D3hot those of
the function, and messages no longer held back are sent. (PRESUMED: note 11.) -/
def Dev.configWrite (d : Dev) (f : Nat) (x : PcieFn) : Dev :=
  let old := unit d.rings.fn f
  let d := if old.busMaster && !x.busMaster then (d.ringsOff 0).ringsOff 1 else if x.d3hot && !old.d3hot then d.ringsOff f else d
  (d.fnSet f (fun _ => x)).msixFlush f

/-- R10: a host write. -/
def execRegisterWrite (w : RegWrite) (s : State) : Host.Outcome State Fault Refusal :=
  match w.target with
  | .bar0 => onMain s (·.hostWrite w)
  | .bar2 => bar2Write w s
  | .config x => onMain s (·.configWrite w.f x)

/-- A 4-byte write of function `f` to one element of a field's register. -/
def wordAt (f : Fin 2) (off v : Nat) : RegWrite := ⟨f, .bar0, off, 4, v⟩

/-- R71. -/
def execPllsHopFreqWrite (f : Fin 2) (h : Fin 16) (v : Nat) (s : State) : Host.Outcome State Fault Refusal :=
  onMain s (·.hostWrite (wordAt f (F.PLLS_HOP.FREQ.off h 0 0) v))
/-- R72. -/
def execPllsSelWrite (f : Fin 2) (v : Nat) (s : State) : Host.Outcome State Fault Refusal := onMain s (·.hostWrite (wordAt f F.PLLS_SEL.ENTRY.base v))
/-- R75. -/
def execPllsPstepWrite (f : Fin 2) (v : Nat) (s : State) : Host.Outcome State Fault Refusal := onMain s (·.hostWrite (wordAt f F.PLLS_PSTEP.STEPS.base v))
/-- R76. -/
def execLoanChipBudgetWrite (f : Fin 2) (v : Nat) (s : State) : Host.Outcome State Fault Refusal := onMain s (·.hostWrite (wordAt f F.LOAN_CHIP.BUDGET.base v))
/-- R76. -/
def execLoanSiteBudgetWrite (f : Fin 2) (v : Nat) (s : State) : Host.Outcome State Fault Refusal := onMain s (·.hostWrite (wordAt f F.LOAN_SITE.BUDGET.base v))
/-- R12. -/
def execGlbSatclrWrite (f : Fin 2) (v : Nat) (s : State) : Host.Outcome State Fault Refusal := onMain s (·.hostWrite (wordAt f F.GLB_SATCLR.CLEAR.base v))
/-- R488. -/
def execRegForceWrite (f : Fin 2) (w : Fin 8) (v : Nat) (s : State) : Host.Outcome State Fault Refusal :=
  onMain s (·.hostWrite (wordAt f (F.REG_FORCE.FORCE.off w 0 0) v))
/-- R454. -/
def execChrSnapTake (f : Fin 2) (v : Nat) (s : State) : Host.Outcome State Fault Refusal := onMain s (·.hostWrite (wordAt f F.CHR_SNAP.TAKE.base v))
/-- R457: a 64-bit write. -/
def execChrSetAtWrite (f : Fin 2) (v : Nat) (s : State) : Host.Outcome State Fault Refusal := onMain s (·.hostWrite ⟨f, .bar0, F.CHR_SET_AT.TICK.base, 8, v⟩)
/-- R186. -/
def execLaneSlipWrite (f : Fin 2) (k : Fin 96) (v : Nat) (s : State) : Host.Outcome State Fault Refusal :=
  onMain s (·.hostWrite (wordAt f (F.LANE_SLIP.SLIP.off k 0 0) v))
/-- R199. -/
def execLaneTestHoldWrite (f : Fin 2) (k : Fin 96) (v : Nat) (s : State) : Host.Outcome State Fault Refusal :=
  onMain s (·.hostWrite (wordAt f (F.LANE_CTRL.TEST_HOLD.off k 0 0) v))
/-- R368. -/
def execPwForceWrite (f : Fin 2) (c : Fin 32) (v : Nat) (s : State) : Host.Outcome State Fault Refusal :=
  onMain s (·.hostWrite (wordAt f (F.PW_FORCE.FORCE.off c 0 0) v))
/-- R116. -/
def execRingCtrlWrite (f : Fin 2) (r : Fin 44) (v : Nat) (s : State) : Host.Outcome State Fault Refusal :=
  onMain s (·.hostWrite (wordAt f (F.xQ_CTRL.EN.off r 0 0) v))

/-! Host reads (R8, R110, R111, R117, R542) -/

/-- R8: a 64-bit register that the CX96 updates while running: some field of it is not the host's alone to write. -/
def isUpdated (base : Nat) : Bool := (fieldsAt base).any (fun x => match x.1.code x.2.1 with | .ro | .w1c => true | _ => false)

/-- R110, R117, R138: a 32-bit word of a function's BAR2: the index last accepted of each ring, its MSI-X table with the mask in each entry's last word,
and the pending bits. -/
def Dev.bar2Word (d : Dev) (f off : Nat) : Nat :=
  let bell := fun (r : Nat) (cmd : Bool) => if off % 8 = 0 then (if cmd then d.get F.xQ_PROD.INDEX r else d.get F.xQ_CONS.INDEX r) else 0
  if off < 0x80 then bell (off / 8) true
  else if 0x100 ≤ off ∧ off < 0x180 then bell (16 + (off - 0x100) / 8) false
  else if 0x200 ≤ off ∧ off < 0x220 then bell (32 + (off - 0x200) / 8) false
  else if 0x300 ≤ off ∧ off < 0x340 then bell (36 + (off - 0x300) / 8) false
  else if 0x2000 ≤ off ∧ off < 0x2400 then
    let o := off - 0x2000
    let w := ((d.rings.msixTable.find? (fun x => x.1 == 1024 * f + o)).map (·.2)).getD 0
    if o % 16 = 12 then putBits w 0 1 (b2n (d.rings.masked.contains (64 * f + o / 16))) else w
  else if 0x3000 ≤ off ∧ off < 0x3008 then
    (those 32 (fun i => d.rings.msixPend.contains (64 * f + 8 * (off - 0x3000) + i))).foldl (fun w i => w + 2 ^ i) 0
  else 0

/-- R109, R546: a 32-bit word of a function's configuration space: its identity and class as `configSpace` gives them, and the command word with the
capabilities of power management, MSI-X, PCI Express and Advanced Error Reporting, which show what the host has set. (PRESUMED: note 11.) -/
def Dev.cfgWord (d : Dev) (f : Fin 2) (off : Nat) : Nat :=
  let c := d.configSpace f
  let x := unit d.rings.fn f
  let size := fun (n : Nat) => Nat.log2 (n / 128)
  match off with
  | 0x00 => c.getD 0 0 + c.getD 1 0 * 2 ^ 16
  | 0x04 => 2 + 4 * b2n x.busMaster + 2 ^ 20
  | 0x08 => c.getD 2 0 % 256 + c.getD 3 0 * 2 ^ 8
  | 0x2C => c.getD 4 0 + c.getD 5 0 * 2 ^ 16
  | 0x34 => 0x40
  | 0x40 => 0x00035001
  | 0x44 => 3 * b2n x.d3hot + 8
  | 0x50 => 0x7011 + (63 + b2n x.msixMask * 2 ^ 14 + b2n x.msixOn * 2 ^ 15) * 2 ^ 16
  | 0x54 => 0x2002
  | 0x58 => 0x3002
  | 0x70 => 0x00020010
  | 0x74 => 2 + 2 ^ 28
  | 0x78 => size x.payload * 2 ^ 5 + size x.readReq * 2 ^ 12
  | 0x100 => 0x00020001
  | _ => 0

/-- The 32-bit word of a space that holds an offset. -/
def Dev.spaceWord (d : Dev) (f : Fin 2) (space : Space) (off : Nat) : Nat :=
  match space with
  | .bar0 => d.hostWord off
  | .bar2 => d.bar2Word f off
  | .config => d.cfgWord f off

/-- R111: the bytes addressed, whatever their number and alignment. -/
def Dev.bytesAt (d : Dev) (f : Fin 2) (space : Space) (off n : Nat) : Nat :=
  let w := off / 4 * 4
  (d.spaceWord f space w + d.spaceWord f space (w + 4) * 2 ^ 32 + d.spaceWord f space (w + 8) * 2 ^ 64) / 2 ^ (8 * (off % 4)) % 2 ^ (8 * n)

/-- R8: what a 4-byte read of BAR0 answers, and the function's latch after it: the low word of a 64-bit register that the CX96 updates latches its high
word, which the next read of that high word returns, through either address of the register (R549). (DESIGN CHOICE: note 55.) -/
def Dev.wordRead (d : Dev) (f off : Nat) : Dev × Nat :=
  let v := d.hostWord off
  let a := aliasOff off
  match fieldsAt a with
  | x :: _ =>
    if !x.1.wide then (d, v)
    else if x.2.2.2.2 then
      (match d.rings.latch.getD f none with
       | some (o, w) => if o = a - 4 then ({ d with rings := { d.rings with latch := d.rings.latch.set f none } }, w) else (d, v)
       | none => (d, v))
    else if isUpdated a then ({ d with rings := { d.rings with latch := d.rings.latch.set f (some (a, d.hostWord (off + 4))) } }, v)
    else (d, v)
  | [] => (d, v)

/-- R8, R110, R111: a host read. -/
def execLowWordRead (f : Fin 2) (x : ReadAt) (s : State) : Host.Outcome State Fault Refusal := onMain s fun d =>
  if d.deaf f ∧ x.space ≠ .config then d.emit (.unsupported f)
  else if x.space = .bar0 ∧ x.bytes = 4 ∧ x.offset % 4 = 0 then (let r := d.wordRead f x.offset; r.1.emit (.readData f r.2))
  else d.emit (.readData f (d.bytesAt f x.space x.offset x.bytes))

/-! The end of the hold -/

/-- R161: the writes that waited take effect in order while the log does not hold, then the attempts counted are reported. (DESIGN CHOICE: note 53.) -/
def Dev.holdDrain (d : Dev) : Dev :=
  let d := d.prov.holdWrites.foldl (fun (d : Dev) w =>
    if d.bit F.VP_LOG_STATUS.HOLDING then d
    else ((({ d with prov := { d.prov with holdWrites := d.prov.holdWrites.drop 1 } }).bar0Write w).1).logTiers) d
  if d.bit F.VP_LOG_STATUS.HOLDING then d else d.attemptSum

/-- R164, R161: LOG_ACK. (DESIGN CHOICE: note 50.) -/
def execLogAck (c : HostCmd) (s : State) : Host.Outcome State Fault Refusal := onMain s fun d =>
  ((d.checked 0x71 c (·.logAck c)).logTiers).holdDrain

end Sys2Proof.Machine
end

