-- ==== Sys2Proof/Machine/Admit.lean ====
section
/-! DEFINITION. Admission of command descriptors (R120 to R127, R317, R318): exposure, the checks in order, the pending store and rejections. -/

namespace Sys2Proof.Machine

/-- A descriptor as its 16 words spell it (R120). -/
structure Desc where
  op : Nat
  next : Bool
  noIrq : Bool
  clean : Bool
  target : Nat
  beat : Nat
  tag : Nat
  p : List Nat
  crcOk : Bool
  deriving DecidableEq, Repr, Inhabited

/-- R120, R121: the fields of a descriptor. -/
def Desc.read (ws : List Nat) : Desc :=
  let w := fun i => ws.getD i 0 % 2 ^ 32
  { op := w 0 % 65536, next := (w 0).testBit 16, noIrq := (w 0).testBit 17, clean := w 0 / 2 ^ 18 == 0 && w 3 / 65536 == 0
    target := w 1, beat := w 2 + w 3 % 65536 * 2 ^ 32, tag := w 4 + w 5 * 2 ^ 32, p := (List.range 9).map (fun k => w (6 + k))
    crcOk := crc32 ((List.range 15).flatMap (fun k => leBytes 4 (w k))) == w 15 }

/-- R122: the opcodes. -/
def opcodes : List Nat :=
  [0x01, 0x10, 0x11, 0x12, 0x13, 0x14, 0x20, 0x21, 0x22, 0x23, 0x24, 0x30, 0x31, 0x32, 0x33, 0x40, 0x41, 0x42, 0x48, 0x49, 0x50, 0x51, 0x58, 0x68, 0x69,
   0x6A, 0x70, 0x71]

/-- R122: the lead of an opcode; 3 for an unknown one (R131). -/
def leadOf (op : Nat) : Nat := if op ∈ [0x12, 0x13, 0x14, 0x20] then 10000 else 3

/-- R122: the opcodes of both views. -/
def visitor (op : Nat) : Bool := op == 0x01 || op == 0x70

/-- R120: the parameter words from `k` on are zero. -/
def zeroFrom (p : List Nat) (k : Nat) : Bool := (p.drop k).all (· == 0)

/-- R282: the range of an ARRAY_SET value. -/
def Dev.arrayRange (d : Dev) (item v : Nat) : Bool :=
  match item with
  | 1 => 100000 ≤ v && v ≤ 1500000
  | 2 => true
  | 3 => d.prov.decl.isSome && (max v d.dcl.vcMv - min v d.dcl.vcMv) * 10 ≤ d.dcl.vcMv
  | 4 => v < 65536
  | 5 => v < 2
  | 6 => v < 4096
  | 7 => v < 1024
  | _ => false

/-- R302: the last parameter word an item of SLOT_WRITE uses. -/
def slotWords (item : Nat) : Nat := match item with | 1 => 7 | 2 => 2 | 3 => 3 | 4 => 2 | _ => 1

/-- R412: the parameters of a COLLECTOR_MOVE. -/
def Dev.moveRange (d : Dev) (item : Nat) (p : List Nat) : Bool :=
  let v := fun i => p.getD i 0
  let pace := v 2 ≤ d.get F.COL_VMAX.V_MAX && v 3 ≤ d.get F.COL_AMAX.A_MAX
  match item with
  | 1 | 2 => d.getS F.COL_TRAVEL_MIN.MIN ≤ toS 32 (v 1) && toS 32 (v 1) < d.getS F.COL_TRAVEL_MAX.MAX && pace
  | 3 | 4 => zeroFrom p 1
  | 5 => v 1 < 2 && zeroFrom p 2
  | 6 => v 1 == 0 && pace
  | _ => false

/-- R120, R125 check 4: reserved words zero, TARGET and parameters in range. (DESIGN CHOICE: note 48.) (DEDUCED: note 49.) -/
def Dev.descRange (d : Dev) (op target : Nat) (p : List Nat) : Bool :=
  let v := fun i => p.getD i 0
  match op with
  | 0x12 | 0x14 => target == 0 && zeroFrom p 3
  | 0x13 | 0x71 => target == 0 && zeroFrom p 2
  | 0x20 => target == 0 && zeroFrom p 4 && v 3 < 2 && (v 3 == 0 || (p.take 3).all (· == 0))
  | 0x24 => target == 0 && (match v 0 with
    | 1 => 64 ≤ v 3 && v 3 ≤ 16384 && zeroFrom p 4
    | 2 => v 1 == 0 && v 2 == 0 && v 3 == 0 && zeroFrom p 5
    | 3 => zeroFrom p 1
    | _ => false)
  | 0x40 => (v 0 == 4 || v 0 == 5 || target == 0) && zeroFrom p 2 && d.arrayRange (v 0) (v 1)
  | 0x41 | 0x42 => zeroFrom p 0
  | 0x48 => v 0 < 256 && zeroFrom p (slotWords (v 0) + 1) && slotAdmit target (v 0) p
  | 0x49 => target < 4 && v 0 < 4096 && 1 ≤ v 1 && v 0 + v 1 ≤ 4096 && v 2 % 4 == 0 && zeroFrom p 4
  | 0x50 => target < 2 && zeroFrom p 2 && (match v 0 with | 1 => v 1 ≤ 1500000 | 2 => true | 3 => v 1 < 4 | 4 => v 1 < 65536 | _ => false)
  | 0x51 => target < 2 && v 0 < 2 && zeroFrom p 1
  | 0x58 => target == 0 && zeroFrom p 4 && d.moveRange (v 0) p
  | 0x68 => target == 0 && zeroFrom p 1
  | 0x69 => target == 0 && v 0 % 4096 == 0 && 1 ≤ v 3 && v 4 < 2 && zeroFrom p 5
  | 0x70 => target == 0 && v 0 % 64 == 0 && 1 ≤ v 4 && v 4 ≤ 65536 && zeroFrom p 5
  | _ => target == 0 && zeroFrom p 0

/-- R125 check 4, R282, R283, R354: TARGET is declared in the Catalogue where the opcode needs one. (DESIGN CHOICE: note 48.) -/
def Dev.descDeclared (d : Dev) (op target item : Nat) : Bool :=
  match op with
  | 0x40 => !(item == 4 || item == 5) || (d.prov.decl.isSome && target < d.dcl.strings)
  | 0x41 | 0x42 => d.cellsDecl.contains target
  | 0x50 | 0x51 => !(d.phasesOf target).isEmpty
  | _ => true

/-- The tick of the oldest doorbell kept whose value has passed an index. -/
def passedAt (l : List (Nat × Nat)) (i : Nat) : Option Nat :=
  (l.reverse.find? (fun x => (x.1 + 2 ^ 32 - i - 1) % 2 ^ 32 < 65536)).map Prod.snd

/-- R124: the tick of the tail doorbell that exposed the next descriptor of a CMDQ. -/
def Dev.tailAt (d : Dev) (q : Nat) : Nat := (passedAt (d.rings.tails.getD q []) (d.get F.xQ_CONS.INDEX q)).getD d.tick

/-- R124: the exposing instant of the next descriptor of a CMDQ: its tail doorbell, or the head doorbell that freed its completion slot; the enabling
of the CPLQ, kept as a first head doorbell, frees the slots of the first lap. (DESIGN CHOICE: note 45.) -/
def Dev.exposedAt (d : Dev) (q : Nat) : Nat :=
  let tail := d.tailAt q
  let n := d.get F.xQ_PROD.INDEX (16 + q) + d.rings.reserved.getD q 0
  max tail ((passedAt (d.rings.heads.getD q []) ((n + 2 ^ 32 - d.ringSize (16 + q)) % 2 ^ 32)).getD tail)

/-- R125: the status and reason of a descriptor that is rejected, or none. (DESIGN CHOICE: note 48.) -/
def Dev.descCheck (d : Dev) (x : Desc) (func b beat : Nat) : Option (Nat × Nat) :=
  if !x.crcOk then some (2, 0x01)
  else if !opcodes.contains x.op then some (2, 0x02)
  else if func = 1 ∧ !visitor x.op then some (3, 0x08)
  else if !x.clean ∨ !d.descRange x.op x.target x.p then some (2, 0x03)
  else if !d.descDeclared x.op x.target (x.p.getD 0 0) then some (2, 0x09)
  else if (beat - 1) * 1024 ≤ d.tick then some (1, 0x05)
  else if beat < b + leadOf x.op then some (1, 0x04)
  else if b + 2 ^ 20 < beat then some (2, 0x06)
  else if 4096 ≤ d.rings.pend.length + d.rings.held.length then some (2, 0x07)
  else none

/-- R123, R125: a descriptor is taken, then admitted or rejected. -/
def Dev.descTake (d : Dev) (q : Nat) (f : Fetch) : Dev :=
  let i := d.get F.xQ_CONS.INDEX q
  let b := d.exposedAt q / 1024
  let x := Desc.read f.words
  let func := d.get F.xQ_CTRL.OWNER q
  let beat := if x.crcOk ∧ x.next then b + leadOf x.op else x.beat
  let d := (d.set F.xQ_CONS.INDEX (i + 1) q).inc F.xQ_COUNT.COUNT 1 q
  let d := { d with rings := { d.rings with reserved := d.rings.reserved.modify q (· + 1), taken := d.rings.taken.modify q (· + 1) } }
  let d := d.writeBack q
  match d.descCheck x func b beat with
  | some (st, why) =>
    let earliest := max (b + leadOf x.op) (d.beat + 2)
    d.complete ⟨q, x.tag, i, if x.crcOk then x.op else 0xFFFF, st, false, beat % 2 ^ 48, why, if st = 1 then earliest else 0, x.noIrq⟩
  | none =>
    let d := d.inc F.RING_ADMIT_SEQ.COUNT 1
    let c : HostCmd := ⟨d.get F.RING_ADMIT_SEQ.COUNT, q, func, i, x.tag, beat, x.noIrq, x.target, x.p, f.payload⟩
    ({ d with rings := { d.rings with pend := d.rings.pend ++ [(⟨x.op, c⟩ : Pend)] } }).pendSync

/-- R123: no completion slot is free. -/
def Dev.ringStall (d : Dev) (q : Nat) : Dev :=
  if d.bit F.xQ_STATUS.STALL q then d else ((d.setB F.xQ_STATUS.STALL true q).raise 17 1 (ringCode q)).writeBack q

/-- R123, R144: a CMDQ may take a descriptor: it has one, its CPLQ can move and no held completion comes first. (DEDUCED: note 45.) -/
def Dev.mayTake (d : Dev) (q : Nat) : Bool := d.ringUp q && d.ringUsed q != 0 && d.ringUp (16 + q) && !d.holds q

/-- R124: of two CMDQs whose next descriptors were exposed in the same tick, the doorbell of which comes first: that of PF0, then the CMDQ_TAIL before the
CPLQ_HEAD, then the lower ring. -/
def Dev.exposedBefore (d : Dev) (a b : Nat) : Bool :=
  let key := fun (q : Nat) => d.get F.xQ_CTRL.OWNER q * 32 + b2n (decide (d.tailAt q < d.exposedAt q)) * 16 + q
  d.exposedAt a == d.exposedAt b && decide (key a < key b)

/-- R124: another CMDQ's descriptor comes first. -/
def Dev.outranked (d : Dev) (q : Nat) : Bool := (List.range 16).any (fun a => d.mayTake a && d.freeSlots a != 0 && d.exposedBefore a q)

/-- R123, R124, R125, R142, R144, R161: the next descriptor of a CMDQ. Admission pauses while the log holds. (DESIGN CHOICE: note 45.) -/
def execDescriptorAdmission (q : Fin 16) (f : Fetch) (s : State) : Host.Outcome State Fault Refusal := onMain s fun d =>
  if !d.mayTake q ∨ d.bit F.VP_LOG_STATUS.HOLDING then d
  else if d.freeSlots q = 0 then d.ringStall q
  else if d.outranked q then d
  else if f.error then (d.emit (.aer (d.get F.xQ_CTRL.OWNER q))).ringFault q 3
  else (d.unstall q).descTake q f

end Sys2Proof.Machine
end

