-- ==== Sys2Proof/Machine/Beat.lean ====
section
/-! DEFINITION. The start of a beat (R128, R149, R294, R319, R320, R322): internal work and protective actions, then the commands of the beat in admission order,
then the computations that see their effect. -/

namespace Sys2Proof.Machine

/-- R122, R128: a pending command meets the meaning of its opcode and item. -/
def pendExec (p : Pend) (s : State) : Host.Outcome State Fault Refusal :=
  let c := p.c
  let item := arg c 0 % 256
  match p.op with
  | 0x01 => execNop c s
  | 0x10 => execSleep c s
  | 0x11 => execDeviceReset c s
  | 0x12 => execFwUpdate c s
  | 0x13 => execKeyEnrol c s
  | 0x14 => execKeyChange c s
  | 0x20 => execCatLoad c s
  | 0x21 => execCatUnload c s
  | 0x22 => execSetFloor c s
  | 0x23 => execStageRetry c s
  | 0x24 => if item % 4 = 1 then execSafetyCommitStage c s else if item % 4 = 2 then execSafetyCommitConfirm c s else execSafetyCommitDiscard c s
  | 0x30 => execStart c s
  | 0x31 => execStop c s
  | 0x32 => execRelease c s
  | 0x33 => execLockoutReset c s
  | 0x40 =>
    (match item with
     | 1 => execArraySetVdl c s
     | 2 => execArraySetLimits c s
     | 3 => execArraySetVc c s
     | 4 => execArraySetIq c s
     | 5 => execArraySetBalMode c s
     | 6 => execArraySetHopping c s
     | _ => execArraySetApplyPhase c s)
  | 0x41 => execCellBypass c s
  | 0x42 => execCellRestore c s
  | 0x48 =>
    (match item with
     | 1 => execSlotWriteCoefficients c s
     | 2 => execSlotWriteLimits c s
     | 3 => execSlotWriteInputs c s
     | 4 => execSlotWriteFeedForward c s
     | 5 => execSlotWriteHistoryPreset c s
     | 6 => execSlotWriteConfiguration c s
     | _ => execSlotWriteInputScale c s)
  | 0x49 => execTableWrite c s
  | 0x50 =>
    (match item with
     | 1 => execOutputSetVSet c s
     | 2 => execOutputSetIset c s
     | 3 => execOutputSetEnables c s
     | _ => execOutputSetTrunc c s)
  | 0x51 => if item % 2 = 1 then execGroupEnable c s else execGroupDisable c s
  | 0x58 =>
    (match item with
     | 1 => execMoveTo c s
     | 2 => execTrack c s
     | 3 => execHold c s
     | 4 => execDriveOff c s
     | 5 => execHome c s
     | _ => execPark c s)
  | 0x68 => execArchiveTrigger c s
  | 0x69 => execArchiveDump c s
  | 0x6A => execArchiveRelease c s
  | 0x70 => execLogRead c s
  | 0x71 => execLogAck c s
  | _ => .next s

/-- R128: one command of the beat, where it is still pending. -/
def pendStep (s : State) (p : Pend) : State :=
  if s.dev.live && s.dev.rings.pend.contains p then (match pendExec p s with | .next t => t | _ => s) else s

/-- R322: promise 1: of each CMDQ the descriptors taken equal those completed, pending and held. -/
def Dev.completionCheck (d : Dev) : Dev :=
  let r := d.rings
  let gap := fun (q : Nat) =>
    let n := r.completed.getD q 0 + (r.pend.filter (fun p => p.c.q == q)).length + (r.held.filter (fun c => c.q == q)).length
    let t := r.taken.getD q 0
    max t n - min t n
  let n := ((List.range 16).map gap).sum
  if n = 0 then d.condOff 193 1 else (if d.reg.active.contains (193, 1) then d else (d.condOn 193 1).conserve 1 n)

/-- R149, R278, R294, R484: what stands at the boundary before the commands of the beat. (DESIGN CHOICE: note 47.) -/
def Dev.beatBefore (d : Dev) (sense : List (List Nat)) : Dev :=
  let d := if d.bit F.REG_INC.RUNNING ∧ (d.get F.REG_INC.CLASS = 3 ∨ d.get F.REG_INC.CLASS = 4) ∧ (!d.reg.energy ∨ (d.st = STOP ∧ d.arr.zeroPower)) then d.incidentEnd else d
  let d := (d.completionCheck).arcOutput sense
  let d := { d with reg := { d.reg with beatBytes := d.reg.sampleBytes } }
  let d := (((d.ppsUse).derateBeat).metBeat).each (List.range 96) (fun d k => d.laneBeat k)
  let d := if d.prov.decl.isSome then d.each (List.range 96) (fun d k => d.cellBeat k) else d
  ((d.osSense sense).colSense).loopBeat

/-- R102: in LINKED the checks are repeated; in STAGED those that fail are shown (R101). The model looks once a beat. (DESIGN CHOICE: note 88.) -/
def Dev.checkBeat (d : Dev) : Dev := if d.st = STAGED ∨ d.st = LINKED then (d.esapSync).checksNow else d

/-- R294: what follows the commands of the beat. (DESIGN CHOICE: notes 47, 92.) -/
def Dev.beatAfter (d : Dev) : Dev := if d.live then ((d.checkBeat).osBeat).colBeat else d

/-- R128: the start of the next beat whose start has not been processed. (DESIGN CHOICE: notes 46, 47.) -/
def execBeatStart (i : SensedBeat) (s : State) : Host.Outcome State Fault Refusal :=
  if !s.dev.live then .next s
  else
    let d := if s.dev.phase = 0 ∧ s.dev.arr.beat ≠ some s.dev.beat then s.dev else s.dev.nextBeat
    let d := { d with arr := { d.arr with beat := some d.beat } }
    let due := d.rings.pend.filter (fun p => p.c.beat == d.beat)
    let s := due.foldl pendStep { s with dev := d.beatBefore i.sense }
    done s s.dev.beatAfter

end Sys2Proof.Machine
end

