-- ==== Sys2Proof/Machine/Housekeeping.lean ====
section
/-! DEFINITION. Housekeeping (R524 to R538): values of a round, ranges, votes, rates, thresholds, the derate factor and the stop. -/

namespace Sys2Proof.Machine

/-- R525 to R528: points 0 to 31 are AN0 to AN31, 32 to 39 on the die, then 48 + 12·cell + item; the set that serves a point, and its OBJECT (R538). -/
def hkSet (p : Nat) : Nat := if p < 48 then p else 48 + (p - 48) % 12
def hkObj (p : Nat) : Nat := if p < 48 then p * 128 else hkSet p * 128 + (p - 48) / 12

/-- R528: the points evaluated, in ascending set and cell order. -/
def Dev.hkPoints (d : Dev) : List Nat :=
  (those 60 (fun t => d.bit F.HK_SET_CFG.DECLARED t)).flatMap (fun t =>
    if t < 40 then [t] else if t < 48 then [] else d.cellsDecl.map (fun k => 48 + 12 * k + (t - 48)))

/-- R526: item `i` of a cell over the round: °C for items 0 to 7, V for 8 to 11; none with no occurrence. -/
def Dev.hkItem (d : Dev) (k i : Nat) : Option Nat :=
  let c := unit d.cells k
  let n := c.aux.cnt.getD i 0
  if n = 0 then none
  else
    let m : Rat := ((c.aux.sum.getD i 0 : Nat) : Rat) / (n : Rat)
    some (fRnd (if i < 8 then m / 10 - 50 else m / 100))

/-- R525 to R527: the value of a point in the round, a binary32 word. -/
def Dev.hkVal (d : Dev) (r : HkRound) (p : Nat) : Option Nat :=
  if p < 32 then some (fRnd (fRat (d.get F.HK_SCALE.SCALE p) * ((r.an.getD p 0 : Nat) : Rat) / 64 + fRat (d.get F.HK_OFFSET.OFFSET p)))
  else if p < 48 then some (r.die.getD (p - 32) 0)
  else d.hkItem ((p - 48) / 12) ((p - 48) % 12)

/-- R528: a value, threshold or rate turned so that danger lies upward. -/
def Dev.hkUp (d : Dev) (t : Nat) (x : Rat) : Rat := if d.bit F.HK_SET_CFG.DIR t then -x else x
def Dev.hkThr (d : Dev) (f : Fld) (t : Nat) : Rat := d.hkUp t (fRat (d.get f t))

/-- An event of the round, to be raised at its end. -/
def Dev.hkSay (d : Dev) (src cls obj : Nat) (data : List Nat) (factor : Option Nat) : Dev :=
  { d with hk := { d.hk with events := d.hk.events ++ [⟨src, cls, obj, data, factor⟩] } }

/-- R476, R524: the events of the round fall in one tick and are taken in ascending source number. -/
def Dev.hkRaise (d : Dev) : Dev :=
  let l := d.hk.events
  let d := { d with hk := { d.hk with events := [] } }
  d.each ([224, 225, 226, 227, 228, 229, 230].flatMap (fun s => l.filter (fun x => x.src == s))) (fun d x => d.raise x.src x.cls x.obj x.data none x.factor)

/-- An episode begins or ends: the source's condition, and the event where it begins. (DESIGN CHOICE: note 118.) -/
def Dev.hkEpisode (d : Dev) (src cls obj : Nat) (was now : Bool) (data : List Nat) (factor : Option Nat) : Dev :=
  if now then (if was then d else (d.condOn src obj).hkSay src cls obj data factor) else if was then d.condOff src obj else d

/-- R529: the range of a point with a value; the on-die points have none (R527). (DESIGN CHOICE: note 116.) -/
def Dev.hkRange (d : Dev) (p x : Nat) : Dev :=
  let t := hkSet p
  let bad := !(decide (32 ≤ p) && decide (p < 48)) && !(fLe (d.get F.HK_RANGE_LO.LO t) x && fLt x (d.get F.HK_RANGE_HI.HI t))
  let was := (unit d.hk.points p).invalid
  let d := d.hkp p (fun y => { y with invalid := bad, seen := true })
  let d := d.hkEpisode 227 1 (hkObj p) was bad (leBytes 4 x) none
  if p < 32 then d.check 25 p (!bad) else d

/-- R530: the vote groups: key, OBJECT, points. (DESIGN CHOICE: note 116.) -/
def Dev.hkGroups (d : Dev) (ps : List Nat) : List (Nat × Nat × List Nat) :=
  (List.range 30).map (fun g => (g + 1, g + 1, ps.filter (fun p => p < 32 && d.get F.HK_SET_CFG.GROUP p == g + 1)))
    ++ [(0, 0, ps.filter (fun p => 32 ≤ p && p < 36))]
    ++ (List.range d.dcl.strings).flatMap (fun s => (List.range 12).map (fun i =>
        (100 + 16 * s + i, 16 * s + i, ps.filter (fun p => 48 ≤ p && (p - 48) % 12 == i && d.strOf ((p - 48) / 12) == s))))

/-- R530: the median of a list of values. (PRESUMED: note 117.) -/
def hkMedian (l : List Rat) : Rat :=
  let l := l.mergeSort (fun a b => decide (a ≤ b))
  let n := l.length
  if n % 2 = 1 then l.getD (n / 2) 0 else (l.getD (n / 2 - 1) 0 + l.getD (n / 2) 0) / 2

/-- R530, R531: one vote. (DESIGN CHOICE: note 116.) -/
def Dev.hkVote (d : Dev) (vals : List (Nat × Nat)) (g : Nat × Nat × List Nat) : Dev :=
  let v := vals.filter (fun x => g.2.2.contains x.1 && !(unit d.hk.points x.1).invalid)
  -- a round without a valid value breaks the rounds in a row
  let d := d.each (g.2.2.filter (fun p => !v.any (fun x => x.1 == p))) (fun d p => d.hkp p (fun y => { y with within := 0 }))
  if v.isEmpty ∨ g.2.2.length < 2 then d else
  let m := hkMedian (v.map (fun x => fRat x.2))
  let near := fun (x : Nat × Nat) => decide (max (fRat x.2 - m) (m - fRat x.2) ≤ fRat (d.get F.HK_VOTE_TOL.TOL (hkSet x.1)))
  let apart := match v with
    | [a, b] => decide (fRat (d.get F.HK_VOTE_TOL.TOL (hkSet a.1)) < max (fRat a.2 - fRat b.2) (fRat b.2 - fRat a.2))
    | _ => false
  let fail := apart || decide ((v.filter near).length * 2 ≤ v.length)
  let was := d.hk.voteBad.contains g.1
  let d := { d with hk := { d.hk with voteBad := if fail then (if was then d.hk.voteBad else g.1 :: d.hk.voteBad) else d.hk.voteBad.filter (· != g.1) } }
  let d := d.hkEpisode 229 1 g.2.1 was fail (leBytes 4 (fRnd m)) none
  v.foldl (fun d x =>
    let t := hkSet x.1
    let y := unit d.hk.points x.1
    if y.outvoted then
      let n := if near x then y.within + 1 else 0
      let back := d.get F.HK_CTRL.VOTE_ROUNDS ≤ n
      let d := d.hkp x.1 (fun y => { y with within := if back then 0 else n, outvoted := !back, hist := [] })
      if back then d.condOff 228 (hkObj x.1) else d
    else if fail || near x then d
    else
      let danger := d.hkUp t m < d.hkUp t (fRat x.2)
      (d.hkp x.1 (fun y => { y with within := 0, outvoted := true, hist := [] })).hkEpisode 228 (if danger then 2 else 1) (hkObj x.1) false true
        (leBytes 4 x.2 ++ leBytes 4 (fRnd m)) (if danger then some (d.get F.HK_SET_CFG.DERATE_MIN t) else none)) d

/-- R532: the least-squares slope of values newest first, in units per second, as a binary32 word. -/
def hkSlope (h : List Nat) : Nat :=
  let n := h.length
  let xs := h.reverse.map fRat
  let jm : Rat := ((n : Rat) - 1) / 2
  let xm : Rat := xs.sum / (n : Rat)
  let a := ((xs.zipIdx).map (fun (x : Rat × Nat) => ((x.2 : Rat) - jm) * (x.1 - xm))).sum
  let b := ((List.range n).map (fun j => ((j : Rat) - jm) * ((j : Rat) - jm))).sum
  fRnd (100 * a / b)

/-- R532: a point's history after the round. -/
def Dev.hkHist (d : Dev) (p : Nat) (x : Option Nat) : Dev :=
  d.hkp p (fun y => { y with hist := match x with
    | some x => if y.invalid || y.outvoted then [] else (x :: y.hist).take (d.get F.HK_CTRL.RATE_ROUNDS)
    | none => [] })

/-- R532: the rate of a point with a whole history. -/
def Dev.hkRate (d : Dev) (p : Nat) : Option Nat :=
  let h := (unit d.hk.points p).hist
  if h.length < d.get F.HK_CTRL.RATE_ROUNDS then none else some (hkSlope h)

/-- R533: an episode of a threshold: it begins at the threshold and ends below it by HYST. -/
def hkLatch (was : Bool) (x thr hyst : Rat) : Bool := decide (thr ≤ x) || (was && !decide (x < thr - hyst))

/-- R533: the episodes of an evaluated point after the round. -/
def Dev.hkNext (d : Dev) (p x : Nat) : HkPoint :=
  let t := hkSet p
  let y := unit d.hk.points p
  let u := d.hkUp t (fRat x)
  let hy := fRat (d.get F.HK_HYST.HYST t)
  let stopE := d.bit F.HK_SET_CFG.STOP_EN t
  let rateE := d.bit F.HK_SET_CFG.RATE_EN t
  let hot := decide (d.hkThr F.HK_STOP_AT.STOP_AT t ≤ u)
  let cool := decide (u < d.hkThr F.HK_STOP_AT.STOP_AT t - hy)
  let fast := match d.hkRate p with
    | some r => decide (fRat (d.get F.HK_RATE_MAX.RATE_MAX t) ≤ d.hkUp t (fRat r))
    | none => false
  let calm := (d.hkRate p).isSome && !fast
  { y with warn := d.bit F.HK_SET_CFG.WARN_EN t && hkLatch y.warn u (d.hkThr F.HK_WARN.WARN t) hy
           derate := d.bit F.HK_SET_CFG.DERATE_EN t && hkLatch y.derate u (d.hkThr F.HK_DERATE_AT.DERATE_AT t) hy
           stop := (stopE && hot) || (rateE && fast) || (y.stop && ((stopE && !cool) || (rateE && !calm)))
           limit := stopE && hkLatch y.limit u (d.hkThr F.HK_LIMIT.LIMIT t) hy }

/-- R534: the factor of a point in derate. -/
def Dev.hkFactor (d : Dev) (p x : Nat) : Nat :=
  let t := hkSet p
  let u := d.hkUp t (fRat x)
  let a := d.hkThr F.HK_DERATE_AT.DERATE_AT t
  let b := d.hkThr F.HK_STOP_AT.STOP_AT t
  let m := d.get F.HK_SET_CFG.DERATE_MIN t
  if b ≤ u then m else if u ≤ a then 1024 else ((1024 : Rat) - ((1024 - m : Nat) : Rat) * (u - a) / (b - a)).floor.toNat

/-- R535: the predicted time to the limit in ms; none where it is infinite. (DESIGN CHOICE: note 118.) -/
def Dev.hkTime (d : Dev) (p x : Nat) : Option Rat :=
  let t := hkSet p
  let u := d.hkUp t (fRat x)
  let l := d.hkThr F.HK_LIMIT.LIMIT t
  if l ≤ u then some 0
  else match d.hkRate p with
    | some r => let r := d.hkUp t (fRat r); if r ≤ 0 then none else some (1000 * (l - u) / r)
    | none => none

/-- R535: the stop time needed, in ms. (DESIGN CHOICE: note 118.) -/
def Dev.hkNeed (d : Dev) : Rat :=
  let w := d.arrPower
  d.quot (max w (-w) / 1000) ((d.get F.ARR_STOP.STOP_RAMP : Nat) : Rat) + ((d.get F.HK_CTRL.STOP_MARGIN : Nat) : Rat)

/-- R535: the shorter of two times. -/
def hkSooner (a b : Option Rat) : Bool :=
  match a, b with
  | some x, some y => decide (x < y)
  | some _, none => true
  | _, _ => false

/-- R538: a time in whole ms, all ones where it is infinite or beyond the field. -/
def hkMs (t : Option Rat) : Nat := match t with | some t => min 0xFFFFFFFF (rRound t).toNat | none => 0xFFFFFFFF

/-- R535, R536: the stop of the round, for the point with the shortest time among those that newly stop and, while a stop of class C3 runs, those
that the time needed has overtaken. (DESIGN CHOICE: note 118.) -/
def Dev.hkStop (d : Dev) (fresh : List (Nat × Nat)) (all : List (Nat × Nat)) : Dev :=
  let need := d.hkNeed
  let d := d.set F.HK_TNEED.T_NEED (min 0xFFFFFFFF (rRound need).toNat)
  let d := { d with hk := { d.hk with soft := d.hk.soft && d.st == STOP && !d.arr.zeroPower } }
  let late := fun (x : Nat × Nat) => match d.hkTime x.1 x.2 with | some t => decide (t ≤ need) | none => false
  let pool := fresh ++ (if d.hk.soft then all.filter (fun x => d.bit F.HK_SET_CFG.STOP_EN (hkSet x.1) && late x) else [])
  match pool with
  | [] => d
  | a :: r =>
    let x := r.foldl (fun m y => if hkSooner (d.hkTime y.1 y.2) (d.hkTime m.1 m.2) then y else m) a
    let cls := if d.energy then (if late x then 4 else 3) else 1
    let d := (d.setB F.HK_STATUS.FAST (cls == 4)).condOn 226 (hkObj x.1)
    let d := d.hkSay 226 cls (hkObj x.1) (leBytes 4 (hkMs (d.hkTime x.1 x.2)) ++ leBytes 4 (hkMs (some need))) none
    { d with hk := { d.hk with soft := if cls = 3 then true else if cls = 4 then false else d.hk.soft } }

/-- R533 to R536: the thresholds of the evaluated points. (DESIGN CHOICE: note 119.) -/
def Dev.hkThresholds (d : Dev) (vals : List (Nat × Nat)) : Dev :=
  let ev := vals.filter (fun x => !(unit d.hk.points x.1).invalid && !(unit d.hk.points x.1).outvoted)
  let old := d.hk.points
  let d := ev.foldl (fun d x => let y := d.hkNext x.1 x.2; d.hkp x.1 (fun _ => y)) d
  let now := d.hk.points
  -- R534: the factor of the round
  let low := ((ev.filter (fun x => (unit now x.1).derate)).map (fun x => d.hkFactor x.1 x.2)).foldl min 1024
  let f := if now.any (·.derate) then min (d.get F.HK_STATUS.FACTOR) (min low (d.get F.REG_SRC.DERATE 225)) else 1024
  let d := (d.set F.HK_STATUS.FACTOR f).setB F.HK_STATUS.DERATING (now.any (·.derate))
  let d := if d.reg.derates.any (fun x => x.1 == 225) ∧ now.any (·.derate) then { d with reg := { d.reg with derates := (225, f) :: d.reg.derates } } else d
  let d := ev.foldl (fun d x =>
    let o := unit old x.1
    let n := unit now x.1
    let d := d.hkEpisode 224 1 (hkObj x.1) o.warn n.warn (leBytes 4 x.2) none
    let d := d.hkEpisode 225 (if d.energy then 2 else 1) (hkObj x.1) o.derate n.derate (leBytes 2 f) (some f)
    if n.stop || n.limit then d.condOn 226 (hkObj x.1) else d.condOff 226 (hkObj x.1)) d
  let d := d.setB F.HK_STATUS.STOP_REQ (now.any (fun y => y.stop || y.limit))
  d.hkStop (ev.filter (fun x => ((unit now x.1).stop && !(unit old x.1).stop) || ((unit now x.1).limit && !(unit old x.1).limit))) ev

/-- R526: item 15 of a cell. (DESIGN CHOICE: note 120.) -/
def Dev.hkNode (d : Dev) (k : Nat) : Dev :=
  let c := unit d.cells k
  let was := d.hk.nodeBad.contains k
  let now := if c.aux.node ≠ 0 then true else if c.aux.cnt.getD 15 0 ≠ 0 then false else was
  let d := { d with hk := { d.hk with nodeBad := if now then (if was then d.hk.nodeBad else k :: d.hk.nodeBad) else d.hk.nodeBad.filter (· != k) } }
  let d := if c.aux.node = 0 then d else d.set F.HK_CELL_CHECK.FLAGS c.aux.node k
  (d.setB F.HK_CELL_FLAGS.NODE_CHECK now k).hkEpisode 230 1 k was now (leBytes 4 c.aux.node) none

/-- A point that is not declared keeps nothing, and its conditions end. (DESIGN CHOICE: note 120.) -/
def Dev.hkClear (d : Dev) (p : Nat) : Dev :=
  if unit d.hk.points p = default then d
  else [224, 225, 226, 227, 228].foldl (fun d src => d.condOff src (hkObj p)) (d.hkp p (fun _ => default))

/-- R539: the registers of one set; for a cell item, of the cell nearest its limit. (DESIGN CHOICE: note 120.) -/
def Dev.hkShow (d : Dev) (vals : List (Nat × Nat)) (t : Nat) : Dev :=
  let mine := vals.filter (fun x => hkSet x.1 == t)
  let ps := if t < 48 then [unit d.hk.points t] else (List.range 96).map (fun k => unit d.hk.points (48 + 12 * k + (t - 48)))
  let good := mine.filter (fun x => !(unit d.hk.points x.1).invalid && !(unit d.hk.points x.1).outvoted)
  let near := if t < 48 then mine else
    match good with
    | [] => []
    | a :: r => [r.foldl (fun m y => if d.hkUp t (fRat m.2) < d.hkUp t (fRat y.2) then y else m) a]
  let d := match near with
    | [] => d
    | x :: _ =>
      let d := (d.set F.HK_VALUE.X x.2 t).set F.HK_RATE.RHO ((d.hkRate x.1).getD 0) t
      if t < 48 then d else d.set F.HK_SET_STATE.CELL ((x.1 - 48) / 12) t
  let d := (d.setB F.HK_SET_STATE.WARN (ps.any (·.warn)) t).setB F.HK_SET_STATE.DERATE (ps.any (·.derate)) t
  let d := (d.setB F.HK_SET_STATE.STOP (ps.any (fun y => y.stop || y.limit)) t).setB F.HK_SET_STATE.RANGE (ps.any (·.invalid)) t
  d.setB F.HK_SET_STATE.OUTVOTED (ps.any (·.outvoted)) t

/-- R539: the window of one cell; its sums start again. (DESIGN CHOICE: note 120.) -/
def Dev.hkCell (d : Dev) (k : Nat) : Dev :=
  let d := d.each (List.range 12) (fun d i => match d.hkItem k i with | some x => d.set F.HK_CELL_ITEM.X x k i | none => d)
  let bits := fun (g : HkPoint → Bool) => ((those 12 (fun i => g (unit d.hk.points (48 + 12 * k + i)))).map (2 ^ ·)).sum
  let d := (d.set F.HK_CELL_FLAGS.OUTVOTED (bits (·.outvoted)) k).set F.HK_CELL_FLAGS.RANGE (bits (·.invalid)) k
  d.cell k (fun c => { c with aux := c.auxNext, auxNext := Aux.init })

/-- R524, R533: the evaluation of a round. -/
def Dev.hkEvaluate (d : Dev) (r : HkRound) : Dev :=
  let d := ((d.inc F.HK_ROUNDS.COUNT 1).set F.HK_VIN.V r.vin).set F.HK_VKEEP.V r.vkeep
  let ps := d.hkPoints
  let d := d.each ((List.range 1200).filter (fun p => !ps.contains p)) Dev.hkClear
  let vals := ps.filterMap (fun p => (d.hkVal r p).map (fun x => (p, x)))
  let d := d.each d.cellsDecl Dev.hkNode
  let d := d.each vals (fun d x => d.hkRange x.1 x.2)
  -- R530: a group of one point is never voted
  let groups := d.hkGroups ps
  let voted := (groups.filter (fun g => 2 ≤ g.2.2.length)).flatMap (·.2.2)
  let d := d.each (ps.filter (fun p => !voted.contains p && (unit d.hk.points p).outvoted)) (fun d p =>
    (d.hkp p (fun y => { y with outvoted := false, within := 0 })).condOff 228 (hkObj p))
  let d := d.each groups (fun d g => d.hkVote vals g)
  let d := d.each ps (fun d p => d.hkHist p (vals.lookup p))
  let d := d.hkThresholds vals
  let d := d.each (those 60 (fun t => d.bit F.HK_SET_CFG.DECLARED t)) (fun d t => d.hkShow vals t)
  (d.each d.cellsDecl Dev.hkCell).hkRaise

/-- R524: the next round is the one to evaluate. -/
def Dev.hkNextRound (d : Dev) : Dev := { d with hk := { d.hk with round := d.hk.round + 1 } }

/-- R524, R533: a round ends; its evaluation completes within 20,000 ticks. It is the round after the last one evaluated, or, where that is long past, the
one that runs. (DESIGN CHOICE: note 115.) -/
def execHkRoundEnd (r : HkRound) (s : State) : Host.Outcome State Fault Refusal := onMain s fun d =>
  let n := if d.hk.round * 1000000 + 1020000 < d.tick then d.tick / 1000000 else d.hk.round
  d.wait ((n + 1) * 1000000 + Config.freeNat d.freeCtr % 20001) fun d =>
  let d := d.free
  ({ d with hk := { d.hk with round := n } }.hkEvaluate r).hkNextRound

end Sys2Proof.Machine
end

