-- ==== Sys2Proof/Machine/Dispatch.lean ====
section
/-! DEFINITION. One arm per command: the one place where a command meets its meaning. -/

namespace Sys2Proof.Machine

/-- The effect of one command on everything but the queue. -/
def exec (i : Instr) (s : State) : Host.Outcome State Fault Refusal :=
  match i with
  | .reserveStart testEn supplies => Sys2Proof.Machine.execReserveStart testEn supplies s
  | .reserveReset => Sys2Proof.Machine.execReserveReset s
  | .vinBelowVwarn => Sys2Proof.Machine.execVinBelowVwarn s
  | .saveWindowEnd => Sys2Proof.Machine.execSaveWindowEnd s
  | .vinBelow4v4 => Sys2Proof.Machine.execVinBelow4v4 s
  | .vsdoLost => Sys2Proof.Machine.execVsdoLost s
  | .mrstNLow => Sys2Proof.Machine.execMrstNLow s
  | .perstNLow => Sys2Proof.Machine.execPerstNLow s
  | .pcieLinkLoss => Sys2Proof.Machine.execPcieLinkLoss s
  | .functionLevelReset f => Sys2Proof.Machine.execFunctionLevelReset f s
  | .mainResetRelease selfTest => Sys2Proof.Machine.execMainResetRelease selfTest s
  | .keeperWdExpiry core => Sys2Proof.Machine.execKeeperWdExpiry core s
  | .keeperWdReset => Sys2Proof.Machine.execKeeperWdReset s
  | .xkeepRcSwitch => Sys2Proof.Machine.execXkeepRcSwitch s
  | .xkeepRetry good => Sys2Proof.Machine.execXkeepRetry good s
  | .wakePin x => Sys2Proof.Machine.execWakePin x s
  | .catpWake => Sys2Proof.Machine.execCatpWake s
  | .safetyInputWake n => Sys2Proof.Machine.execSafetyInputWake n s
  | .canWake x => Sys2Proof.Machine.execCanWake x s
  | .alarm => Sys2Proof.Machine.execAlarm s
  | .vinReturn => Sys2Proof.Machine.execVinReturn s
  | .wakeSequence => Sys2Proof.Machine.execWakeSequence s
  | .sleepRestartDelay => Sys2Proof.Machine.execSleepRestartDelay s
  | .idleSleepTimeout => Sys2Proof.Machine.execIdleSleepTimeout s
  | .tickRecordWrite => Sys2Proof.Machine.execTickRecordWrite s
  | .pllLock p => Sys2Proof.Machine.execPllLock p s
  | .pllStopTimeout p => Sys2Proof.Machine.execPllStopTimeout p s
  | .pllLockLost p => Sys2Proof.Machine.execPllLockLost p s
  | .refclkLost => Sys2Proof.Machine.execRefclkLost s
  | .pllLossReset => Sys2Proof.Machine.execPllLossReset s
  | .pllsHopFreqWrite f h v => Sys2Proof.Machine.execPllsHopFreqWrite f h v s
  | .pllsHopSearchDone h => Sys2Proof.Machine.execPllsHopSearchDone h s
  | .pllsSelWrite f v => Sys2Proof.Machine.execPllsSelWrite f v s
  | .pllsHopSwitch => Sys2Proof.Machine.execPllsHopSwitch s
  | .syncInEdge instant => Sys2Proof.Machine.execSyncInEdge instant s
  | .syncInLost => Sys2Proof.Machine.execSyncInLost s
  | .pllsPstepWrite f v => Sys2Proof.Machine.execPllsPstepWrite f v s
  | .pllsPstepDone => Sys2Proof.Machine.execPllsPstepDone s
  | .loanChipBudgetWrite f v => Sys2Proof.Machine.execLoanChipBudgetWrite f v s
  | .loanSiteBudgetWrite f v => Sys2Proof.Machine.execLoanSiteBudgetWrite f v s
  | .loanGrant b => Sys2Proof.Machine.execLoanGrant b s
  | .loanRefusedWait op inst => Sys2Proof.Machine.execLoanRefusedWait op inst s
  | .lpddr5SelfRefreshEntry => Sys2Proof.Machine.execLpddr5SelfRefreshEntry s
  | .lpddr5AccessAfterRefresh => Sys2Proof.Machine.execLpddr5AccessAfterRefresh s
  | .registerWrite w => Sys2Proof.Machine.execRegisterWrite w s
  | .anchorTimed => Sys2Proof.Machine.execAnchorTimed s
  | .glbSatclrWrite f v => Sys2Proof.Machine.execGlbSatclrWrite f v s
  | .regForceWrite f w v => Sys2Proof.Machine.execRegForceWrite f w v s
  | .chrSnapTake f v => Sys2Proof.Machine.execChrSnapTake f v s
  | .chrSetAtWrite f v => Sys2Proof.Machine.execChrSetAtWrite f v s
  | .chrSetApply => Sys2Proof.Machine.execChrSetApply s
  | .laneSlipWrite f k v => Sys2Proof.Machine.execLaneSlipWrite f k v s
  | .laneTestHoldWrite f k v => Sys2Proof.Machine.execLaneTestHoldWrite f k v s
  | .pwForceWrite f c v => Sys2Proof.Machine.execPwForceWrite f c v s
  | .ringCtrlWrite f r v => Sys2Proof.Machine.execRingCtrlWrite f r v s
  | .cmdqTailDoorbell f q v => Sys2Proof.Machine.execCmdqTailDoorbell f q v s
  | .cplqHeadDoorbell f q v => Sys2Proof.Machine.execCplqHeadDoorbell f q v s
  | .evqHeadDoorbell f e v => Sys2Proof.Machine.execEvqHeadDoorbell f e v s
  | .strmHeadDoorbell f j v => Sys2Proof.Machine.execStrmHeadDoorbell f j v s
  | .descriptorAdmission q x => Sys2Proof.Machine.execDescriptorAdmission q x s
  | .ringHostError r write => Sys2Proof.Machine.execRingHostError r write s
  | .hostWdExpiry => Sys2Proof.Machine.execHostWdExpiry s
  | .msixHoldoffExpiry f v => Sys2Proof.Machine.execMsixHoldoffExpiry f v s
  | .streamRecord j => Sys2Proof.Machine.execStreamRecord j s
  | .streamPageAge j => Sys2Proof.Machine.execStreamPageAge j s
  | .nop c => Sys2Proof.Machine.execNop c s
  | .sleep c => Sys2Proof.Machine.execSleep c s
  | .deviceReset c => Sys2Proof.Machine.execDeviceReset c s
  | .fwUpdate c => Sys2Proof.Machine.execFwUpdate c s
  | .keyEnrol c => Sys2Proof.Machine.execKeyEnrol c s
  | .keyChange c => Sys2Proof.Machine.execKeyChange c s
  | .catLoad c => Sys2Proof.Machine.execCatLoad c s
  | .catUnload c => Sys2Proof.Machine.execCatUnload c s
  | .setFloor c => Sys2Proof.Machine.execSetFloor c s
  | .stageRetry c => Sys2Proof.Machine.execStageRetry c s
  | .safetyCommitStage c => Sys2Proof.Machine.execSafetyCommitStage c s
  | .safetyCrcDone faultC faultD => Sys2Proof.Machine.execSafetyCrcDone faultC faultD s
  | .safetyCommitConfirm c => Sys2Proof.Machine.execSafetyCommitConfirm c s
  | .safetyCommitDiscard c => Sys2Proof.Machine.execSafetyCommitDiscard c s
  | .start c => Sys2Proof.Machine.execStart c s
  | .stop c => Sys2Proof.Machine.execStop c s
  | .release c => Sys2Proof.Machine.execRelease c s
  | .lockoutReset c => Sys2Proof.Machine.execLockoutReset c s
  | .arraySetVdl c => Sys2Proof.Machine.execArraySetVdl c s
  | .arraySetLimits c => Sys2Proof.Machine.execArraySetLimits c s
  | .arraySetVc c => Sys2Proof.Machine.execArraySetVc c s
  | .arraySetIq c => Sys2Proof.Machine.execArraySetIq c s
  | .arraySetBalMode c => Sys2Proof.Machine.execArraySetBalMode c s
  | .arraySetHopping c => Sys2Proof.Machine.execArraySetHopping c s
  | .arraySetApplyPhase c => Sys2Proof.Machine.execArraySetApplyPhase c s
  | .cellBypass c => Sys2Proof.Machine.execCellBypass c s
  | .cellRestore c => Sys2Proof.Machine.execCellRestore c s
  | .slotWriteCoefficients c => Sys2Proof.Machine.execSlotWriteCoefficients c s
  | .slotWriteLimits c => Sys2Proof.Machine.execSlotWriteLimits c s
  | .slotWriteInputs c => Sys2Proof.Machine.execSlotWriteInputs c s
  | .slotWriteFeedForward c => Sys2Proof.Machine.execSlotWriteFeedForward c s
  | .slotWriteHistoryPreset c => Sys2Proof.Machine.execSlotWriteHistoryPreset c s
  | .slotWriteConfiguration c => Sys2Proof.Machine.execSlotWriteConfiguration c s
  | .slotWriteInputScale c => Sys2Proof.Machine.execSlotWriteInputScale c s
  | .tableWrite c => Sys2Proof.Machine.execTableWrite c s
  | .outputSetVSet c => Sys2Proof.Machine.execOutputSetVSet c s
  | .outputSetIset c => Sys2Proof.Machine.execOutputSetIset c s
  | .outputSetEnables c => Sys2Proof.Machine.execOutputSetEnables c s
  | .outputSetTrunc c => Sys2Proof.Machine.execOutputSetTrunc c s
  | .groupEnable c => Sys2Proof.Machine.execGroupEnable c s
  | .groupDisable c => Sys2Proof.Machine.execGroupDisable c s
  | .moveTo c => Sys2Proof.Machine.execMoveTo c s
  | .track c => Sys2Proof.Machine.execTrack c s
  | .hold c => Sys2Proof.Machine.execHold c s
  | .driveOff c => Sys2Proof.Machine.execDriveOff c s
  | .home c => Sys2Proof.Machine.execHome c s
  | .park c => Sys2Proof.Machine.execPark c s
  | .archiveTrigger c => Sys2Proof.Machine.execArchiveTrigger c s
  | .archiveDump c => Sys2Proof.Machine.execArchiveDump c s
  | .archiveRelease c => Sys2Proof.Machine.execArchiveRelease c s
  | .logRead c => Sys2Proof.Machine.execLogRead c s
  | .logReadDone => Sys2Proof.Machine.execLogReadDone s
  | .logAck c => Sys2Proof.Machine.execLogAck c s
  | .xcvrCheckTimeout k => Sys2Proof.Machine.execXcvrCheckTimeout k s
  | .enterLinked => Sys2Proof.Machine.execEnterLinked s
  | .enterPrecharge => Sys2Proof.Machine.execEnterPrecharge s
  | .startLockTimeout => Sys2Proof.Machine.execStartLockTimeout s
  | .prechargePhaseEnd j => Sys2Proof.Machine.execPrechargePhaseEnd j s
  | .prechargeTimeout j => Sys2Proof.Machine.execPrechargeTimeout j s
  | .arrayZeroPower => Sys2Proof.Machine.execArrayZeroPower s
  | .lanePrsLost k => Sys2Proof.Machine.execLanePrsLost k s
  | .laneDetectEntry k => Sys2Proof.Machine.execLaneDetectEntry k s
  | .laneTrainStart k => Sys2Proof.Machine.execLaneTrainStart k s
  | .laneLos k => Sys2Proof.Machine.execLaneLos k s
  | .laneSymbolLock k x => Sys2Proof.Machine.execLaneSymbolLock k x s
  | .laneBlockLock k first rest => Sys2Proof.Machine.execLaneBlockLock k first rest s
  | .laneFrameLock k frames => Sys2Proof.Machine.execLaneFrameLock k frames s
  | .laneLockEntry k => Sys2Proof.Machine.execLaneLockEntry k s
  | .laneAttemptTimeout k => Sys2Proof.Machine.execLaneAttemptTimeout k s
  | .laneLockTimeout k => Sys2Proof.Machine.execLaneLockTimeout k s
  | .laneRetryGapEnd k => Sys2Proof.Machine.execLaneRetryGapEnd k s
  | .laneExchangeEntry k => Sys2Proof.Machine.execLaneExchangeEntry k s
  | .capUp k bad c => Sys2Proof.Machine.execCapUp k bad c s
  | .echo k e => Sys2Proof.Machine.execEcho k e s
  | .echoTimeout k id => Sys2Proof.Machine.execEchoTimeout k id s
  | .tsyncReport k h index e => Sys2Proof.Machine.execTsyncReport k h index e s
  | .laneExchangeTimeout k => Sys2Proof.Machine.execLaneExchangeTimeout k s
  | .laneRttRepeat k => Sys2Proof.Machine.execLaneRttRepeat k s
  | .laneQualityWindowEnd k c => Sys2Proof.Machine.execLaneQualityWindowEnd k c s
  | .idle k rxLocked x => Sys2Proof.Machine.execIdle k rxLocked x s
  | .shift k count => Sys2Proof.Machine.execShift k count s
  | .shiftTimeout k => Sys2Proof.Machine.execShiftTimeout k s
  | .sample k bad m => Sys2Proof.Machine.execSample k bad m s
  | .status k bad m => Sys2Proof.Machine.execStatus k bad m s
  | .capturePage k bad m => Sys2Proof.Machine.execCapturePage k bad m s
  | .credit k h rcvd freed => Sys2Proof.Machine.execCredit k h rcvd freed s
  | .bypassRepeat k => Sys2Proof.Machine.execBypassRepeat k s
  | .captureRepeat k => Sys2Proof.Machine.execCaptureRepeat k s
  | .beatStart j => Sys2Proof.Machine.execBeatStart j s
  | .arrayLatch j => Sys2Proof.Machine.execArrayLatch j s
  | .slotRelease k late => Sys2Proof.Machine.execSlotRelease k late s
  | .escapement miss dnLatest => Sys2Proof.Machine.execEscapement miss dnLatest s
  | .bypassTimeout j => Sys2Proof.Machine.execBypassTimeout j s
  | .retrainTimeout j => Sys2Proof.Machine.execRetrainTimeout j s
  | .capEstimatePeriodEnd => Sys2Proof.Machine.execCapEstimatePeriodEnd s
  | .closureWindowEnd => Sys2Proof.Machine.execClosureWindowEnd s
  | .derateRiseStep => Sys2Proof.Machine.execDerateRiseStep s
  | .osShadowWrite g => Sys2Proof.Machine.execOsShadowWrite g s
  | .pwmPeriodBoundary c j => Sys2Proof.Machine.execPwmPeriodBoundary c j s
  | .osTruncation g code => Sys2Proof.Machine.execOsTruncation g code s
  | .brakeDecision code => Sys2Proof.Machine.execBrakeDecision code s
  | .osBurstWake g code => Sys2Proof.Machine.execOsBurstWake g code s
  | .osSsTimeout g => Sys2Proof.Machine.execOsSsTimeout g s
  | .gdTrip x e => Sys2Proof.Machine.execGdTrip x e s
  | .blankingEnd x active => Sys2Proof.Machine.execBlankingEnd x active s
  | .xtrip n e => Sys2Proof.Machine.execXtrip n e s
  | .softOffStep c => Sys2Proof.Machine.execSoftOffStep c s
  | .statusCarrierFrame x period high => Sys2Proof.Machine.execStatusCarrierFrame x period high s
  | .carrierLost x => Sys2Proof.Machine.execCarrierLost x s
  | .bootstrapProofTimeout x => Sys2Proof.Machine.execBootstrapProofTimeout x s
  | .hallChange h => Sys2Proof.Machine.execHallChange h s
  | .encoderEdge n a b instant => Sys2Proof.Machine.execEncoderEdge n a b instant s
  | .encoderIndex n z => Sys2Proof.Machine.execEncoderIndex n z s
  | .colReversal n => Sys2Proof.Machine.execColReversal n s
  | .ssiFrame x => Sys2Proof.Machine.execSsiFrame x s
  | .colBrakeEnd => Sys2Proof.Machine.execColBrakeEnd s
  | .meterSample x => Sys2Proof.Machine.execMeterSample x s
  | .zcTimeout m => Sys2Proof.Machine.execZcTimeout m s
  | .harmonicBurstDone => Sys2Proof.Machine.execHarmonicBurstDone s
  | .meterIntervalClose e => Sys2Proof.Machine.execMeterIntervalClose e s
  | .meterClosureWindow => Sys2Proof.Machine.execMeterClosureWindow s
  | .ptpAnnounce n a => Sys2Proof.Machine.execPtpAnnounce n a s
  | .ptpMasterLost n => Sys2Proof.Machine.execPtpMasterLost n s
  | .ptpSync n m => Sys2Proof.Machine.execPtpSync n m s
  | .ptpDelayResp n m => Sys2Proof.Machine.execPtpDelayResp n m s
  | .ptpPdelayReq n m => Sys2Proof.Machine.execPtpPdelayReq n m s
  | .ethFrameForward n x => Sys2Proof.Machine.execEthFrameForward n x s
  | .ethLinkDown n => Sys2Proof.Machine.execEthLinkDown n s
  | .holdoverStart => Sys2Proof.Machine.execHoldoverStart s
  | .holdoverExpiry => Sys2Proof.Machine.execHoldoverExpiry s
  | .ppsInEdge instant => Sys2Proof.Machine.execPpsInEdge instant s
  | .ppsInTimeout => Sys2Proof.Machine.execPpsInTimeout s
  | .ppsOutPulse rise => Sys2Proof.Machine.execPpsOutPulse rise s
  | .canFrameRx c x => Sys2Proof.Machine.execCanFrameRx c x s
  | .canTxPeriod c f => Sys2Proof.Machine.execCanTxPeriod c f s
  | .canBusoff c recovered => Sys2Proof.Machine.execCanBusoff c recovered s
  | .incidentEndC2 => Sys2Proof.Machine.execIncidentEndC2 s
  | .registrarHeartbeatLost => Sys2Proof.Machine.execRegistrarHeartbeatLost s
  | .archiveFreeze => Sys2Proof.Machine.execArchiveFreeze s
  | .arcDumpDone outcome => Sys2Proof.Machine.execArcDumpDone outcome s
  | .arcMem ring segment => Sys2Proof.Machine.execArcMem ring segment s
  | .safetyInputChange part n ch r => Sys2Proof.Machine.execSafetyInputChange part n ch r s
  | .discrepancyTimeout part n => Sys2Proof.Machine.execDiscrepancyTimeout part n s
  | .delayedOffExpiry part n => Sys2Proof.Machine.execDelayedOffExpiry part n s
  | .safetyFaultClear n => Sys2Proof.Machine.execSafetyFaultClear n s
  | .sdoEnergise => Sys2Proof.Machine.execSdoEnergise s
  | .safetyDiagFail x => Sys2Proof.Machine.execSafetyDiagFail x s
  | .sdoOffPulseTest o volts tenths => Sys2Proof.Machine.execSdoOffPulseTest o volts tenths s
  | .lorPress apart => Sys2Proof.Machine.execLorPress apart s
  | .lorRelease held => Sys2Proof.Machine.execLorRelease held s
  | .lorHoldTimeout levels => Sys2Proof.Machine.execLorHoldTimeout levels s
  | .resetWindowExpiry => Sys2Proof.Machine.execResetWindowExpiry s
  | .hkRoundEnd x => Sys2Proof.Machine.execHkRoundEnd x s
  | .lowWordRead f x => Sys2Proof.Machine.execLowWordRead f x s
  | .selfRefreshExitDone => Sys2Proof.Machine.execSelfRefreshExitDone s
  | .loopEngineLoanReduction => Sys2Proof.Machine.execLoopEngineLoanReduction s
  | .pwmCompare c => Sys2Proof.Machine.execPwmCompare c s
  | .deadTimeEnd c => Sys2Proof.Machine.execDeadTimeEnd c s
  | .laneTp1Lock k mode1 mode2 => Sys2Proof.Machine.execLaneTp1Lock k mode1 mode2 s
  | .laneTp1End k => Sys2Proof.Machine.execLaneTp1End k s
  | .metChannelLost m density => Sys2Proof.Machine.execMetChannelLost m density s
  | .ethLinkUp n => Sys2Proof.Machine.execEthLinkUp n s
  | .ptpFollowUp n m => Sys2Proof.Machine.execPtpFollowUp n m s
  | .ptpPdelayResp n m => Sys2Proof.Machine.execPtpPdelayResp n m s
  | .pcieLinkUp => Sys2Proof.Machine.execPcieLinkUp s
  | .errFaultHoldEnd => Sys2Proof.Machine.execErrFaultHoldEnd s
  | .registrarMemoryError => Sys2Proof.Machine.execRegistrarMemoryError s
  | .safeLoopEdge readback => Sys2Proof.Machine.execSafeLoopEdge readback s
  | .collectorDriveHandover => Sys2Proof.Machine.execCollectorDriveHandover s

end Sys2Proof.Machine
end

