-- ==== Sys2Proof/Safety.lean ====
section
/-! DEFINITION. What counts as a safe run, in the terms the statements use: no command stops the block, and the relations that stand between its
registers at the end of every step hold throughout. -/

namespace Sys2Proof.Machine

/-- R285: the mode the array shows in each device state. -/
def modeOf (d : Dev) : Nat :=
  if d.st = PRECHARGE then 1 else if d.st = RUN then 2
  else if d.st = STOP then (if d.arr.fastFrom.isSome then 5 else if d.arr.zeroPower then 4 else 3) else 0

/-- R285: ARR_STATE.MODE is that mode. -/
def ModeShown (d : Dev) : Prop := d.get F.ARR_STATE.MODE = modeOf d

/-- R489: while a cause stands the ERR pair shows fault (N high, P low) with that cause. -/
def ErrShown (d : Dev) : Prop := d.errCause ≠ 0 → d.bit F.REG_ERR.N = true ∧ d.bit F.REG_ERR.P = false ∧ d.get F.REG_ERR.CAUSE = d.errCause

/-- R322, promise 3: loans outstanding plus available equal each budget, or the failure of that promise is an active condition of source 193. -/
def LoansKept (d : Dev) : Prop :=
  (d.get F.LOAN_CHIP_STATE.OUT + d.get F.LOAN_CHIP_STATE.AVAIL = d.get F.LOAN_CHIP.BUDGET
    ∧ d.get F.LOAN_SITE_STATE.OUT + d.get F.LOAN_SITE_STATE.AVAIL = d.get F.LOAN_SITE.BUDGET)
  ∨ (193, 3) ∈ d.reg.active

/-- The invariant of the block: while the main domain runs, the array's mode, the ERR pair and the loans' sums agree with what they are taken from. -/
def Inv (s : State) : Prop := s.dev.live = true → ModeShown s.dev ∧ ErrShown s.dev ∧ LoansKept s.dev

/-- An outcome is a next state. -/
def Answers (o : Host.Outcome State Fault Refusal) : Prop := ∃ t, o = .next t

/-- The command answers a next state, leaves the queue as it is, and `P` holds of the block after it. -/
def After (c : Instr) (s : State) (P : Dev → Prop) : Prop := ∃ t, exec c s = .next t ∧ t.pending = s.pending ∧ P t.dev

/-- The command answers a next state that is its own effect, of which `P` holds, brought to the end of the step (`Dev.settle`: the log's tiers, the
LPDDR5, promise 3, the ERR pair and the array's mode), with the queue as it is. -/
def Leaves (c : Instr) (s : State) (P : Dev → Prop) : Prop := ∃ e : Dev, exec c s = .next { s with dev := e.settle } ∧ P e

/-- R122, R128, R129: nothing in the state keeps a command of an opcode from its effect: the main domain runs, the device state permits it, its effect
beat has not passed, and no reaction supersedes it. -/
abbrev Ready (op : Nat) (c : HostCmd) (s : State) : Prop :=
  s.dev.live = true ∧ s.dev.permits op = true ∧ s.dev.beat ≤ c.beat ∧ (yields op = true → s.dev.inForce = false)

/-- R128: the block as a command finds it at its effect beat: time has come to the beat, and the command has left the pending store. -/
def Dev.atBeat (d : Dev) (op : Nat) (c : HostCmd) : Dev :=
  let e := d.until (c.beat * 1024)
  { ({ e with rings := { e.rings with pend := e.rings.pend.erase ⟨op, c⟩ } }).pendSync with out := [] }

/-- R109, R161, R37: a register write takes effect at once: the main domain runs, the function is in D0, the log does not hold, and the boot succeeded. -/
abbrev Writable (s : State) : Prop :=
  s.dev.live = true ∧ s.dev.deaf 0 = false ∧ s.dev.bit F.VP_LOG_STATUS.HOLDING = false ∧ s.dev.creditsOut = false ∧ s.dev.pwr.bootFailed = false

/-- R131: the completion of a command with a status: written to its ring, or held. -/
def Completed (d : Dev) (op status : Nat) (c : HostCmd) : Prop :=
  ∃ x : Completion, x.q = c.q ∧ x.tag = c.tag ∧ x.opcode = op ∧ x.status = status
    ∧ ((∃ r slot phase, Out.completion r slot phase x ∈ d.out) ∨ { x with held := true } ∈ d.rings.held)

/-- R130: the completion of a command that its own check refuses: REJECTED_INVALID, reason 0x0C, with a detail code. -/
def Failed (d : Dev) (op detail : Nat) (c : HostCmd) : Prop :=
  ∃ x : Completion, x.q = c.q ∧ x.tag = c.tag ∧ x.opcode = op ∧ x.status = 2 ∧ x.reason = 0x0C + 256 * detail
    ∧ ((∃ r slot phase, Out.completion r slot phase x ∈ d.out) ∨ { x with held := true } ∈ d.rings.held)

/-! What every command may reach -/

/-- The fields that reactions, completions, the log and the end of a step may write. -/
def hotFields : List Fld :=
  [F.ARC_MARK_LOST.COUNT, F.ARC_STATE.CAUSE, F.ARC_STATE.STATE, F.ARC_TRIG_LOST.COUNT, F.ARC_TRIG_TICK.TICK, F.ARR_STATE.MODE,
   F.COL_STATUS.STATE, F.GD_STATUS.CMD, F.GD_STATUS.PENDING, F.GD_STATUS.UNPROVEN, F.GLB_CONSERVE.FAULT, F.GLB_PRECHARGE.ELAPSED,
   F.GLB_PRECHARGE.PHASE, F.GLB_STATE.DEVICE, F.GLB_STATE_SINCE.BEAT, F.GRP_STATUS.BURST_SLEEP, F.GRP_STATUS.N_ACTIVE, F.GRP_STATUS.SHEDDING,
   F.GRP_STATUS.STATE, F.LE_STATUS.RATE, F.LOAN_CHIP_STATE.AVAIL, F.LOAN_CHIP_STATE.OUT, F.LOAN_OP_REFUSED.COUNT, F.LOAN_OP_WAIT.WAITING,
   F.LOAN_SITE_STATE.AVAIL, F.LOAN_SITE_STATE.OUT, F.OS_STATUS.BRAKE_ARMED, F.OS_STATUS.BRAKE_ON, F.PH_STATUS.STATE, F.PLL_STATUS.DEMAND,
   F.PLL_STATUS.LOAN_WAIT, F.PWM_STAGE.HELD, F.PW_STATUS.DEAD, F.PW_STATUS.LEVEL, F.REG_AQ_COUNT.COUNT, F.REG_ERR.CAUSE, F.REG_ERR.N,
   F.REG_ERR.P, F.REG_EVENTS.COUNT, F.REG_INC.CLASS, F.REG_INC.OPEN_SRC, F.REG_INC.RUNNING, F.REG_INC_NUM.NUM, F.REG_INC_TICK.TICK,
   F.REG_MERGED.COUNT, F.REG_RSW.RSW, F.REG_RSW_ACTIVE.ACTIVE, F.REG_SRC.ACTIVE, F.REG_SRC_COUNT.COUNT, F.RING_HELD.COUNT,
   F.SAF_LATCH_CAUSE.OBJECT, F.SAF_LATCH_CAUSE.SOURCE, F.SAF_LATCH_TICK.TICK, F.SAF_LOCKOUTS.COUNT, F.SAF_STATE.CURATOR_OK,
   F.SAF_STATE.DETENT_OK, F.SAF_STATE.LATCHED, F.SAF_STATE.LOOP_ON, F.SAF_STATE.RB_C, F.SAF_STATE.RB_D, F.SAF_STATE.SDO_C, F.SAF_STATE.SDO_D,
   F.VP_ANCHOR_NEWEST.INDEX, F.VP_ANCHOR_NEWEST.T_INDEX, F.VP_LOG_HEAD.SEQ, F.VP_LOG_STATUS.FREE, F.VP_LOG_STATUS.FULL, F.VP_LOG_STATUS.HOLDING,
   F.VP_LOG_STATUS.LOW, F.xQ_COUNT.COUNT, F.xQ_LOST.COUNT, F.xQ_PROD.INDEX]

/-- A field with one index. -/
def Fld.flat (f : Fld) : Bool := f.n2 == 1 && f.n3 == 1 && decide (f.lo < 64) && (decide (0 < f.s1) || decide (f.n1 ≤ 1))

/-- The last offset of a field. -/
def Fld.top (f : Fld) : Nat := f.base + (f.n1 - 1) * f.s1 + (f.n2 - 1) * f.s2 + (f.n3 - 1) * f.s3

/-- The first and the last place of a field's elements within one stride of its first index. -/
def Fld.low (f : Fld) : Nat := f.base % f.s1
/-- The last. -/
def Fld.high (f : Fld) : Nat := f.base % f.s1 + (f.n2 - 1) * f.s2 + (f.n3 - 1) * f.s3

/-- No element of one field has the key of an element of the other: other bits, other offsets, or other places in arrays of one stride. -/
def Fld.apart (f g : Fld) : Bool :=
  decide (f.lo < 64) && decide (g.lo < 64) && (f.lo != g.lo || decide (f.top < g.base) || decide (g.top < f.base)
    || (f.s1 == g.s1 && decide (f.high < f.s1) && decide (g.high < g.s1) && (decide (f.high < g.low) || decide (g.high < f.low))))

/-- A field no element of which the shared operations write. -/
def Fld.calm (f : Fld) : Bool := hotFields.all (fun g => f.apart g && g.flat)

/-- Beside the fields `dest`, the registers read as before: all but those that a completion, a log entry, an event with its reactions or the end of a
step may write (`hotFields`), and RSV_TIME.COUNT, which follows time. -/
def Kept (dest : List Fld) (d e : Dev) : Prop :=
  ∀ (f : Fld) (a b c : Nat), f.calm = true → f.apart F.RSV_TIME.COUNT = true → (∀ g ∈ dest, f.apart g = true) →
    a < f.n1 → b < f.n2 → c < f.n3 → e.get f a b c = d.get f a b c

/-- The units of the output phases are as before, but for the mark of a phase that runs its last period, which a reaction takes back (R350). -/
def PhasesKept (d e : Dev) : Prop :=
  e.phases.map (fun p => ({ p with ending := false } : Phase)) = d.phases.map (fun p => ({ p with ending := false } : Phase))

/-- The units of the slots are as before, unless the step can lead back to STAGED (R102), where histories are preset (R299). -/
def SlotsKept (d e : Dev) : Prop := d.st = LINKED ∨ d.st = PRECHARGE ∨ e.slots = d.slots

/-! The groups of commands that the frames speak of -/

/-- The Chronometer and the networks (R453 to R474), after a set has been armed. -/
def isNetwork : Instr → Bool
  | .chrSetApply | .holdoverStart | .holdoverExpiry | .ptpAnnounce _ _ | .ptpMasterLost _ | .ptpSync _ _ | .ptpFollowUp _ _ | .ptpDelayResp _ _
  | .ptpPdelayResp _ _ | .ptpPdelayReq _ _ | .ethFrameForward _ _ | .ethLinkUp _ | .ethLinkDown _ | .ppsInEdge _ | .ppsInTimeout | .ppsOutPulse _
  | .canFrameRx _ _ | .canTxPeriod _ _ | .canBusoff _ _ => true
  | _ => false

/-- The registers of the Chronometer and the networks that these commands write. -/
def networkFields : List Fld :=
  [F.CAN_LATE.COUNT, F.CAN_LOST.COUNT, F.CAN_MB_DATA.DATA, F.CAN_MB_ID.FDF, F.CAN_MB_ID.ID, F.CAN_MB_ID.IDE, F.CAN_MB_ID.NEW, F.CAN_MB_LEN.LEN,
   F.CAN_MB_TICK.TICK, F.CAN_STATUS.REC, F.CAN_STATUS.STATE, F.CAN_STATUS.TEC, F.CHR_INC.INC, F.CHR_OFFSET.THETA, F.CHR_RATE.R,
   F.CHR_STATE.NT_STATE, F.CHR_STATE.SET_ARMED, F.CHR_STATE.VALID, F.CHR_STEPS.COUNT, F.ETH_DELAY.DELAY, F.ETH_DROP.COUNT, F.ETH_FWD.COUNT,
   F.ETH_GM.CLOCK_ID, F.ETH_RX.COUNT, F.ETH_STATUS.LINK, F.ETH_STATUS.MASTER, F.ETH_STATUS.SELECTED, F.ETH_TC_OVF.COUNT, F.ETH_TX.COUNT,
   F.PPS_IN_ERR.COUNT, F.PPS_IN_TS.SUBTICK, F.PPS_IN_TS.TICK]

/-- Metering (R422 to R447). -/
def isMetering : Instr → Bool
  | .meterSample _ | .zcTimeout _ | .metChannelLost _ _ | .meterIntervalClose _ | .harmonicBurstDone | .meterClosureWindow => true
  | _ => false

/-- The registers they write. -/
def meteringFields : List Fld :=
  [F.COL_STATUS.REFERENCED, F.COL_STATUS.VALID, F.GLB_STAGE_FAIL.CODE, F.GLB_STAGE_FAIL.COUNT, F.GLB_STAGE_FAIL.OBJECT,
   F.GLB_STAGE_LANES.FAILED, F.LANE_STATUS.FAIL, F.MET_CAL_RANGE.CAL, F.MET_CH_FLAGS.LOST, F.MET_CH_FLAGS.OVR, F.MET_CH_FREQ.F,
   F.MET_CH_MEAN.MEAN, F.MET_CH_RMS.RMS, F.MET_EL_CLOSE.D, F.MET_EL_OPEN.START, F.MET_EL_P.P, F.MET_EL_PF.PF, F.MET_EL_Q.Q, F.MET_EL_RECS.SEQ,
   F.MET_EL_S.S, F.MET_EL_THD_I.THD, F.MET_EL_THD_V.THD, F.MET_EL_TOT_EXP.MJ, F.MET_EL_TOT_IMP.MJ, F.MET_EL_TOT_Q.MVARS,
   F.MET_HARM_SKIPPED.COUNT, F.MET_HARM_WIN.WINDOW, F.MET_SAMPLES.COUNT, F.MET_STATUS.TICK_ALIGNED, F.MET_ZC.TIMEOUT, F.SLOT_E.E, F.SLOT_Y.Y]

/-- The lanes and their messages (R166 to R239). -/
def isLink : Instr → Bool
  | .xcvrCheckTimeout _ | .lanePrsLost _ | .laneDetectEntry _ | .laneTrainStart _ | .laneLos _ | .laneTp1Lock _ _ _ | .laneTp1End _ | .laneSymbolLock _ _
  | .laneBlockLock _ _ _ | .laneFrameLock _ _ | .laneLockEntry _ | .laneAttemptTimeout _ | .laneLockTimeout _ | .laneRetryGapEnd _ | .laneExchangeEntry _
  | .capUp _ _ _ | .echo _ _ | .echoTimeout _ _ | .tsyncReport _ _ _ _ | .laneExchangeTimeout _ | .laneRttRepeat _ | .laneQualityWindowEnd _ _
  | .idle _ _ _ | .shift _ _ | .shiftTimeout _ | .sample _ _ _ | .status _ _ _ | .capturePage _ _ _ | .credit _ _ _ _ | .bypassRepeat _
  | .captureRepeat _ => true
  | _ => false

/-- The registers they write: the lane's own, GLB_ESAP (R313), and the cell's role and carriers (R266). -/
def linkFields : List Fld :=
  [F.ARR_STRING_STATUS.ABSENT, F.ARR_STRING_STATUS.ACTIVE, F.ARR_STRING_STATUS.BYPASSED, F.ARR_STRING_STATUS.RESPREAD, F.CELL_CARRIER.PHASE,
   F.CELL_STATUS.ROLE, F.COL_STATUS.REFERENCED, F.COL_STATUS.VALID, F.GLB_ESAP.TICKS, F.GLB_STAGE_FAIL.CODE, F.GLB_STAGE_FAIL.COUNT,
   F.GLB_STAGE_FAIL.OBJECT, F.GLB_STAGE_LANES.FAILED, F.LANE_BUDGET.ESAP_K, F.LANE_BUDGET.UP_SLACK, F.LANE_CAP.AUTO_BYPASS,
   F.LANE_CAP.BYPASS_KIND, F.LANE_CAP.CELL_CLASS, F.LANE_CAP.HOLD_BEATS, F.LANE_CAP.PREP_TICKS, F.LANE_CAP.PROTO_MINOR, F.LANE_CNT.COUNT,
   F.LANE_CREDIT.DN_AVAIL, F.LANE_CREDIT.DN_SLOTS, F.LANE_CREDIT.UP_OUT, F.LANE_DNODE.TURNAROUND, F.LANE_LAT.ONE_WAY, F.LANE_MCNT.COUNT,
   F.LANE_NODE.STATE, F.LANE_NODE_BEAT.APPLIED_BEAT, F.LANE_NODE_TRIP.LAST_CTRL_SEQ, F.LANE_NODE_TRIP.TRIP_MASK, F.LANE_QWIN.CORR,
   F.LANE_QWIN.UNCORR, F.LANE_RTT.RTT, F.LANE_RTT.RUNS, F.LANE_RTT.SPREAD, F.LANE_RTT.VALID, F.LANE_SERIAL.SERIAL, F.LANE_SLIP.DONE,
   F.LANE_STATUS.ATTEMPT, F.LANE_STATUS.BLK_LOCK, F.LANE_STATUS.FAIL, F.LANE_STATUS.FRM_LOCK, F.LANE_STATUS.HELD, F.LANE_STATUS.LOS,
   F.LANE_STATUS.MODE, F.LANE_STATUS.PEER_LOCKED, F.LANE_STATUS.PRS, F.LANE_STATUS.STATE, F.LANE_STATUS.STEP, F.LANE_STATUS.SYM_LOCK,
   F.LANE_TSYNC.ERR, F.SLOT_E.E, F.SLOT_Y.Y]

/-- The Safety Island but for the reset's own effect (R503 to R517). -/
def isSafety : Instr → Bool
  | .safetyInputChange _ _ _ _ | .discrepancyTimeout _ _ | .delayedOffExpiry _ _ | .safetyFaultClear _ | .sdoEnergise | .safetyDiagFail _
  | .sdoOffPulseTest _ _ _ | .lorPress _ | .lorHoldTimeout _ | .resetWindowExpiry | .registrarHeartbeatLost | .registrarMemoryError | .safeLoopEdge _ => true
  | _ => false

/-- The registers they write. -/
def safetyFields : List Fld :=
  [F.COL_STATUS.REFERENCED, F.COL_STATUS.VALID, F.GLB_STAGE_FAIL.CODE, F.GLB_STAGE_FAIL.COUNT, F.GLB_STAGE_FAIL.OBJECT,
   F.GLB_STAGE_LANES.FAILED, F.LANE_STATUS.FAIL, F.SAF_PAIR_DEMANDS.COUNT, F.SAF_PAIR_FAULTS.COUNT, F.SAF_PAIR_STATUS.A, F.SAF_PAIR_STATUS.B,
   F.SAF_PAIR_STATUS.CHATTER, F.SAF_PAIR_STATUS.C_DEMAND, F.SAF_PAIR_STATUS.DEMAND, F.SAF_PAIR_STATUS.DISC_FAULT, F.SAF_PAIR_STATUS.TRANS,
   F.SAF_PAIR_STATUS.WINDOW, F.SAF_STATE.DEMAND, F.SAF_STATE.FAULT, F.SAF_STATE.RESET_STEP, F.SLOT_E.E, F.SLOT_Y.Y]

/-- Trips, soft-off, dead time, status carriers, encoders and the SSI (R366 to R410). -/
def isDrive : Instr → Bool
  | .gdTrip _ _ | .blankingEnd _ _ | .xtrip _ _ | .softOffStep _ | .deadTimeEnd _ | .statusCarrierFrame _ _ _ | .carrierLost _ | .bootstrapProofTimeout _
  | .encoderEdge _ _ _ _ | .colReversal _ | .ssiFrame _ => true
  | _ => false

/-- The registers they write. -/
def driveFields : List Fld :=
  [F.COL_OFFSET.OFFSET, F.COL_STATUS.REFERENCED, F.COL_STATUS.VALID, F.COL_STATUS.XCHK_FAIL, F.ENC_COUNT.COUNT, F.ENC_OVR_COUNT.COUNT,
   F.ENC_REVERSALS.COUNT, F.ENC_STATUS.DIR, F.ENC_STATUS.EDGE_OVR, F.ENC_STATUS.LEVELS, F.GD_BLANKED.COUNT, F.GD_FRAME_ERR.COUNT,
   F.GD_STATUS.CARRIER_LOST, F.GD_STATUS.LOCKED, F.GD_STATUS.TRIP, F.GD_STATUS.T_ACTIVE, F.GD_STATUS.UV_NEG, F.GD_STATUS.UV_POS,
   F.GD_SUPPLY.VNEG, F.GD_SUPPLY.VPOS, F.GD_TRIP_COUNT.COUNT, F.GD_TRIP_TICK.SUBTICK, F.GD_TRIP_TICK.TICK, F.GLB_STAGE_FAIL.CODE,
   F.GLB_STAGE_FAIL.COUNT, F.GLB_STAGE_FAIL.OBJECT, F.GLB_STAGE_LANES.FAILED, F.LANE_STATUS.FAIL, F.SLOT_E.E, F.SLOT_Y.Y, F.SSI_ERR_COUNT.COUNT,
   F.SSI_STATUS.ENC_ERR, F.SSI_STATUS.LAST_OK, F.SSI_VALUE.VALUE, F.XTRIP_CFG.ACTIVE, F.XTRIP_CFG.TRIP]

/-- ARRAY_SET and OUTPUT_SET (R282, R354). -/
def isSet : Instr → Bool
  | .arraySetVdl _ | .arraySetLimits _ | .arraySetVc _ | .arraySetIq _ | .arraySetBalMode _ | .arraySetHopping _ | .arraySetApplyPhase _
  | .outputSetVSet _ | .outputSetIset _ | .outputSetEnables _ | .outputSetTrunc _ => true
  | _ => false

/-- The registers they write: what each item sets, and the counts of pending commands (R146). -/
def setFields : List Fld :=
  [F.ARR_APPLY.PHASE, F.ARR_CTRL.HOP_BEATS, F.ARR_CTRL.HOP_FIXED, F.ARR_LIMIT.EXPORT, F.ARR_LIMIT.IMPORT, F.ARR_STRING_CFG.BAL_MODE,
   F.ARR_STRING_RANK.I_Q, F.ARR_VCREF.VC, F.ARR_VREF.VDL, F.GRP_ISET.FWD, F.GRP_ISET.REV, F.GRP_SHED.BURST_EN, F.GRP_SHED.SHED_EN,
   F.GRP_TRUNC.TRUNC, F.GRP_VSET.VSET, F.RING_PENDING.COUNT, F.xQ_STATUS.PENDING]

/-- The host rings, the log's and the Archive's own events (R109 to R165, R484 to R499). -/
def isHost : Instr → Bool
  | .cmdqTailDoorbell _ _ _ | .cplqHeadDoorbell _ _ _ | .evqHeadDoorbell _ _ _ | .strmHeadDoorbell _ _ _ | .descriptorAdmission _ _
  | .ringHostError _ _ | .hostWdExpiry | .msixHoldoffExpiry _ _ | .streamRecord _ | .streamPageAge _ | .anchorTimed | .logReadDone
  | .archiveFreeze | .arcDumpDone _ | .arcMem _ _ | .incidentEndC2 | .errFaultHoldEnd | .lowWordRead _ _ | .pcieLinkUp | .perstNLow
  | .pcieLinkLoss | .functionLevelReset _ => true
  | _ => false

/-- The registers they write. -/
def hostFields : List Fld :=
  [F.ARC_DUMPED.BYTES, F.ARC_FREEZES.COUNT, F.ARC_IMAGE_SEGS.SEGS, F.ARC_MARK_SEGS.SEGS, F.ARC_MARK_TRIG_SEG.SEG, F.ARC_STATE.DUMPING,
   F.ARC_TRIG_SEG.SEG, F.HOST_WD.EXPIRED, F.RING_ADMIT_SEQ.COUNT, F.RING_PENDING.COUNT, F.RING_STRAY.COUNT, F.SLOT_STATUS.FROZEN,
   F.xQ_CONS.INDEX, F.xQ_CTRL.EN, F.xQ_STATUS.ACTIVE, F.xQ_STATUS.FAULT, F.xQ_STATUS.FAULT_CODE, F.xQ_STATUS.PENDING, F.xQ_STATUS.STALL]

/-- Wake sources, clocks and loans (R54 to R79), but for the lock of a PLL and a grant, after which what waited for them goes on, and a fall of VIN, which
opens the save window (R45). -/
def isClock : Instr → Bool
  | .wakePin ⟨.wake0, _, _⟩ | .wakePin ⟨.wake1, _, _⟩ | .wakePin ⟨.catp, _, _⟩ | .wakePin ⟨.vinGood, _, _⟩ | .wakePin ⟨.vkeep, _, _⟩
  | .wakePin ⟨.vsdo, _, _⟩ | .wakePin ⟨.vwarn, true, _⟩ | .catpWake | .safetyInputWake _ | .canWake _ | .alarm | .xkeepRcSwitch | .xkeepRetry _ | .tickRecordWrite | .pllStopTimeout _
  | .pllsHopSearchDone _ | .pllsHopSwitch | .syncInEdge _ | .syncInLost | .pllsPstepDone | .loanRefusedWait _ _ | .lpddr5SelfRefreshEntry
  | .lpddr5AccessAfterRefresh | .selfRefreshExitDone | .loopEngineLoanReduction => true
  | _ => false

/-- The registers they write. -/
def clockFields : List Fld :=
  [F.CHR_STATE.FULL_RES, F.MET_HARM_SKIPPED.COUNT, F.PLLS_HOP.BAND, F.PLLS_HOP.CAP, F.PLLS_HOP.VALID, F.PLLS_PSTEP.BUSY, F.PLLS_SEL.HOP_BUSY,
   F.PLLS_SYNC.LOCKED, F.PLLS_SYNC.LOST, F.PLL_STATUS.LOCKED, F.RSV_CATP.LEVEL, F.RSV_STATUS.VIN_OK,
   F.RSV_STATUS.VKEEP_OK, F.RSV_STATUS.XKEEP_RC, F.RSV_VWARN.BELOW, F.RSV_WAKE_CAUSE.VIN, F.RSV_WAKE_CAUSE.ALARM,
   F.RSV_WAKE_CAUSE.CAN0, F.RSV_WAKE_CAUSE.CAN1, F.RSV_WAKE_CAUSE.CATP, F.RSV_WAKE_CAUSE.SI, F.RSV_WAKE_CAUSE.WAKE0, F.RSV_WAKE_CAUSE.WAKE1]

/-- Commands of the module, the log, the Archive, the safety commit, STOP, LOCKOUT_RESET, the output groups and the collector (R87 to R95, R152 to R165,
R355, R412, R494). -/
def isCommand : Instr → Bool
  | .nop _ | .fwUpdate _ | .keyEnrol _ | .keyChange _ | .setFloor _ | .stageRetry _ | .safetyCommitStage _ | .safetyCrcDone _ _
  | .safetyCommitConfirm _ | .safetyCommitDiscard _ | .stop _ | .lockoutReset _ | .groupEnable _ | .groupDisable _ | .moveTo _ | .track _
  | .hold _ | .driveOff _ | .home _ | .park _ | .archiveTrigger _ | .archiveDump _ | .archiveRelease _ | .logRead _ => true
  | _ => false

/-- The registers they write. -/
def commandFields : List Fld :=
  [F.ARC_IMAGE_SEGS.SEGS, F.ARC_MARK_SEGS.SEGS, F.ARC_MARK_TRIG_SEG.SEG, F.ARC_TRIG_SEG.SEG, F.CELL_DROPPED.COUNT, F.COL_MOVES.COUNT,
   F.COL_TARGET.TARGET, F.COL_U.U, F.GD_STATUS.LOCKED, F.GD_STATUS.TRIP, F.GD_TRIP_COUNT.COUNT, F.GD_TRIP_TICK.SUBTICK, F.GD_TRIP_TICK.TICK,
   F.GLB_CAT.SAFETY_MATCH, F.GLB_CAT_FLOOR.FLOOR, F.GLB_STAGE_FAIL.CODE, F.GLB_STAGE_FAIL.COUNT, F.GLB_STAGE_FAIL.OBJECT,
   F.GLB_STAGE_LANES.FAILED, F.HALL_STATUS.FAULT, F.LANE_RTT.VALID, F.LANE_STATUS.HELD, F.LANE_STATUS.STATE,
   F.MET_HARM_SKIPPED.COUNT, F.PW_SHADOW.CMP, F.RING_PENDING.COUNT, F.SAF_GLOBAL.RESET_WIN, F.SAF_GLOBAL.SDO_TEST, F.SAF_PAIR_CFG.CLASS,
   F.SAF_PAIR_CFG.DECLARED, F.SAF_PAIR_CFG.KIND, F.SAF_PAIR_CFG.T_DISC, F.SAF_PAIR_DEMANDS.COUNT, F.SAF_PAIR_STATUS.A, F.SAF_PAIR_STATUS.B,
   F.SAF_PAIR_STATUS.CHATTER, F.SAF_PAIR_STATUS.C_DEMAND, F.SAF_PAIR_STATUS.DEMAND, F.SAF_PAIR_STATUS.DISC_FAULT, F.SAF_PAIR_STATUS.TRANS,
   F.SAF_PAIR_STATUS.WINDOW, F.SAF_PAIR_TIME.DELAY, F.SAF_PAIR_TIME.TP_MAX, F.SAF_STATE.DEMAND, F.SAF_STATE.FAULT, F.SAF_STATE.RESET_STEP,
   F.SLOT_STATUS.FROZEN, F.VP_SAFE_CRC_C.CRC, F.VP_SAFE_CRC_D.CRC, F.VP_SAFE_IN_FORCE.CRC, F.VP_SAFE_STAGE.CRC_DONE, F.VP_SAFE_STAGE.STAGED,
   F.xQ_STATUS.PENDING]

/-- The Loop Engine (R289 to R305). -/
def isLoop : Instr → Bool
  | .slotWriteCoefficients _ | .slotWriteLimits _ | .slotWriteInputs _ | .slotWriteFeedForward _ | .slotWriteHistoryPreset _
  | .slotWriteConfiguration _ | .slotWriteInputScale _ | .tableWrite _ | .slotRelease _ _ => true
  | _ => false

/-- The registers they write. -/
def loopFields : List Fld :=
  [F.LE_LOAD.SCHED, F.LE_NUMERIC.COUNT, F.LE_OVERRUN.COUNT, F.LE_STATUS.ENABLED, F.LE_T.ENTRY, F.LE_TABLE_CFG.BANK, F.LE_UPDATES.COUNT,
   F.RING_PENDING.COUNT, F.SLOT_A.A, F.SLOT_B.B, F.SLOT_CFG.AW, F.SLOT_CFG.EN, F.SLOT_CFG.FF_EN, F.SLOT_CFG.FF_TABLE, F.SLOT_CFG.MEMBER,
   F.SLOT_CFG.MEMBERS, F.SLOT_CFG.ORDER, F.SLOT_CFG.RELEASE, F.SLOT_E.E, F.SLOT_FF_GAIN.FF_GAIN, F.SLOT_K_IN.K_IN, F.SLOT_LIMCNT.COUNT,
   F.SLOT_OWN_A.OWN_A, F.SLOT_REF.REF, F.SLOT_SRC.IDX_A, F.SLOT_SRC.IDX_B, F.SLOT_SRC.SRC_A, F.SLOT_SRC.SRC_B, F.SLOT_STATUS.DONE,
   F.SLOT_STATUS.FROZEN, F.SLOT_STATUS.HOLDING, F.SLOT_STATUS.LANE, F.SLOT_STATUS.LIM_HI, F.SLOT_STATUS.LIM_LO, F.SLOT_STATUS.NUMERIC,
   F.SLOT_STATUS.READY, F.SLOT_Y.Y, F.SLOT_YMAX.YMAX, F.SLOT_YMIN.YMIN, F.SLOT_Y_OUT.Y_LIM, F.xQ_STATUS.PENDING]

/-- The output stage, the PWM channels and the collector's index (R336 to R410). -/
def isOutput : Instr → Bool
  | .osShadowWrite _ | .pwmPeriodBoundary _ _ | .pwmCompare _ | .osTruncation _ _ | .brakeDecision _ | .osBurstWake _ _ | .osSsTimeout _
  | .hallChange _ | .encoderIndex _ _ | .colBrakeEnd | .collectorDriveHandover => true
  | _ => false

/-- The registers they write. -/
def outputFields : List Fld :=
  [F.CELL_DROPPED.COUNT, F.COL_OFFSET.OFFSET, F.COL_STATUS.REFERENCED, F.COL_STATUS.VALID, F.COL_U.U, F.ENC_IDX.LATCH, F.ENC_IDX_DIFF.D,
   F.ENC_STATUS.IDX_SEEN, F.ENC_STATUS.LEVELS, F.ENC_STATUS.LINE_FAULT, F.GD_STATUS.TRIP, F.GD_TRIP_COUNT.COUNT, F.GD_TRIP_TICK.SUBTICK,
   F.GD_TRIP_TICK.TICK, F.GLB_STAGE_FAIL.CODE, F.GLB_STAGE_FAIL.COUNT, F.GLB_STAGE_FAIL.OBJECT, F.GLB_STAGE_LANES.FAILED,
   F.GRP_BURST_COUNT.COUNT, F.GRP_STATUS.CAP_LIMITED, F.GRP_TRUNC_COUNT.COUNT, F.HALL_COUNT.COUNT, F.HALL_STATUS.DIR, F.HALL_STATUS.FAULT,
   F.HALL_STATUS.STATE, F.LANE_STATUS.FAIL, F.OS_BRAKE_COUNT.COUNT, F.PH_COMPARE.COMPARE, F.PH_IAVG.I, F.PH_OFFSET.OFFSET, F.PH_STATUS.SLOT,
   F.PH_TRIM.TRIM, F.PW_CMP.CMP, F.PW_DROP.COUNT, F.PW_EVT_COUNT.COUNT, F.PW_PERIOD.PERIOD, F.PW_PHASE.OFFSET, F.PW_REFRESH_COUNT.COUNT,
   F.PW_SHADOW.CMP, F.PW_STATUS.COUNT, F.PW_STRETCH.COUNT, F.SLOT_E.E, F.SLOT_Y.Y]

/-- The array, its cells and precharge (R104 to R107, R245 to R284). -/
def isArray : Instr → Bool
  | .bypassTimeout _ | .retrainTimeout _ | .capEstimatePeriodEnd | .closureWindowEnd | .derateRiseStep | .escapement _ _ | .arrayLatch _
  | .prechargePhaseEnd _ | .enterLinked | .startLockTimeout | .prechargeTimeout _ | .arrayZeroPower | .cellBypass _ | .cellRestore _ => true
  | _ => false

/-- The registers they write. -/
def arrayFields : List Fld :=
  [F.ARR_DERATE.FACTOR, F.ARR_HOP_LFSR.STATE, F.ARR_STRING_CLOSE.D, F.ARR_STRING_STATUS.ABSENT, F.ARR_STRING_STATUS.ACTIVE,
   F.ARR_STRING_STATUS.BYPASSED, F.ARR_STRING_STATUS.RESPREAD, F.ARR_STRING_STATUS.SAT, F.CELL_CARRIER.PHASE, F.CELL_DROPPED.COUNT,
   F.CELL_FILLED.COUNT, F.CELL_STATUS.CLAMPED, F.CELL_STATUS.C_RANGE, F.CELL_STATUS.DT_RANGE, F.CELL_STATUS.FILLED, F.CELL_STATUS.RANK,
   F.CELL_STATUS.ROLE, F.CELL_STATUS.VOID, F.COL_STATUS.REFERENCED, F.COL_STATUS.VALID, F.GLB_ESAP.TICKS, F.GLB_STAGE_FAIL.CODE,
   F.GLB_STAGE_FAIL.COUNT, F.GLB_STAGE_FAIL.OBJECT, F.GLB_STAGE_LANES.FAILED, F.GLB_TIMING.DN_LATEST, F.GLB_TIMING.UP_LATEST,
   F.GLB_TIMING_MISS.COUNT, F.LANE_CNT.COUNT, F.LANE_CREDIT.DN_AVAIL, F.LANE_CREDIT.UP_OUT, F.LANE_MCNT.COUNT, F.LANE_STATUS.ATTEMPT,
   F.LANE_STATUS.BLK_LOCK, F.LANE_STATUS.FAIL, F.LANE_STATUS.FRM_LOCK, F.LANE_STATUS.HELD, F.LANE_STATUS.MODE, F.LANE_STATUS.PEER_LOCKED,
   F.LANE_STATUS.STATE, F.LANE_STATUS.STEP, F.LANE_STATUS.SYM_LOCK, F.LEDGER_ACCOUNT.NC, F.LEDGER_C.C_EST, F.LEDGER_C_RANGE.VHI,
   F.LEDGER_C_RANGE.VLO, F.LEDGER_FRAC.FRAC, F.LEDGER_GAPS.COUNT, F.LEDGER_OFFSET.OFFSET_MA, F.LEDGER_POSTINGS.COUNT, F.LEDGER_RESID.S,
   F.RING_PENDING.COUNT, F.SLOT_E.E, F.SLOT_OWN_A.OWN_A, F.SLOT_OWN_IDX.OWN_IDX, F.SLOT_STATUS.FROZEN, F.SLOT_Y.Y, F.VP_ATTEMPTS.COUNT,
   F.xQ_STATUS.PENDING]

/-- Housekeeping (R519 to R535). -/
def isHousekeeping : Instr → Bool
  | .hkRoundEnd _ => true
  | _ => false

/-- The registers they write. -/
def housekeepingFields : List Fld :=
  [F.COL_STATUS.REFERENCED, F.COL_STATUS.VALID, F.GLB_STAGE_FAIL.CODE, F.GLB_STAGE_FAIL.COUNT, F.GLB_STAGE_FAIL.OBJECT,
   F.GLB_STAGE_LANES.FAILED, F.HK_CELL_CHECK.FLAGS, F.HK_CELL_FLAGS.NODE_CHECK, F.HK_CELL_FLAGS.OUTVOTED, F.HK_CELL_FLAGS.RANGE,
   F.HK_CELL_ITEM.X, F.HK_DERATE_AT.DERATE_AT, F.HK_LIMIT.LIMIT, F.HK_RATE.RHO, F.HK_ROUNDS.COUNT, F.HK_SET_STATE.CELL, F.HK_SET_STATE.DERATE,
   F.HK_SET_STATE.OUTVOTED, F.HK_SET_STATE.RANGE, F.HK_SET_STATE.STOP, F.HK_SET_STATE.WARN, F.HK_STATUS.DERATING, F.HK_STATUS.FACTOR,
   F.HK_STATUS.FAST, F.HK_STATUS.STOP_REQ, F.HK_STOP_AT.STOP_AT, F.HK_TNEED.T_NEED, F.HK_VALUE.X, F.HK_VIN.V, F.HK_VKEEP.V, F.HK_WARN.WARN,
   F.LANE_STATUS.FAIL, F.SLOT_E.E, F.SLOT_Y.Y]

/-- Writes of one register with an effect of its own (R71 to R76, R116, R186, R199, R368, R454, R457, R488). -/
def isRegister : Instr → Bool
  | .pllsHopFreqWrite _ _ _ | .pllsSelWrite _ _ | .pllsPstepWrite _ _ | .loanChipBudgetWrite _ _ | .loanSiteBudgetWrite _ _
  | .regForceWrite _ _ _ | .chrSnapTake _ _ | .chrSetAtWrite _ _ | .laneSlipWrite _ _ _ | .laneTestHoldWrite _ _ _ | .pwForceWrite _ _ _
  | .ringCtrlWrite _ _ _ => true
  | _ => false

/-- The registers they write. -/
def registerFields : List Fld :=
  [F.ARR_STRING_STATUS.ABSENT, F.ARR_STRING_STATUS.ACTIVE, F.ARR_STRING_STATUS.BYPASSED, F.ARR_STRING_STATUS.RESPREAD, F.CELL_CARRIER.PHASE,
   F.CELL_DROPPED.COUNT, F.CELL_STATUS.ROLE, F.CHR_SET_AT.TICK, F.CHR_SNAP.TAKE, F.CHR_SNAP_NS.FRAC, F.CHR_SNAP_NS.NS, F.CHR_SNAP_SEC.SEC,
   F.CHR_SNAP_TICK.TICK, F.CHR_STATE.SET_ARMED, F.COL_STATUS.REFERENCED, F.COL_STATUS.VALID, F.GD_STATUS.TRIP, F.GD_TRIP_COUNT.COUNT,
   F.GD_TRIP_TICK.SUBTICK, F.GD_TRIP_TICK.TICK, F.GLB_ESAP.TICKS, F.GLB_STAGE_FAIL.CODE, F.GLB_STAGE_FAIL.COUNT, F.GLB_STAGE_FAIL.OBJECT,
   F.GLB_STAGE_LANES.FAILED, F.LANE_CNT.COUNT, F.LANE_CTRL.DECLARED, F.LANE_CTRL.FB_ALLOWED, F.LANE_CTRL.FIBRE_CLASS, F.LANE_CTRL.MANUAL_ALIGN,
   F.LANE_CTRL.TEST_HOLD, F.LANE_CTRL.XCVR_CLASS, F.LANE_SLIP.DONE, F.LANE_SLIP.SLIP, F.LANE_STATUS.ATTEMPT, F.LANE_STATUS.BLK_LOCK,
   F.LANE_STATUS.FAIL, F.LANE_STATUS.FRM_LOCK, F.LANE_STATUS.HELD, F.LANE_STATUS.MODE, F.LANE_STATUS.PEER_LOCKED, F.LANE_STATUS.STATE,
   F.LANE_STATUS.STEP, F.LANE_STATUS.SYM_LOCK, F.LOAN_CHIP.BUDGET, F.LOAN_SITE.BUDGET, F.PLLS_HOP.BAND, F.PLLS_HOP.CAP, F.PLLS_HOP.FREQ,
   F.PLLS_HOP.VALID, F.PLLS_PSTEP.BUSY, F.PLLS_PSTEP.STEPS, F.PLLS_SEL.ENTRY, F.PLLS_SEL.HOP_BUSY, F.PLLS_SYNC.OFFSET, F.PW_FORCE.FORCE,
   F.PW_FORCE.REFUSED, F.PW_STATUS.FORCED, F.REG_FORCE.FORCE, F.SLOT_E.E, F.SLOT_Y.Y, F.VP_ATTEMPTS.COUNT, F.xQ_CONS.INDEX, F.xQ_CTRL.EN,
   F.xQ_CTRL.IRQ_EN, F.xQ_CTRL.LOG2SIZE, F.xQ_CTRL.OWNER, F.xQ_CTRL.VECTOR, F.xQ_STATUS.ACTIVE, F.xQ_STATUS.FAULT, F.xQ_STATUS.FAULT_CODE,
   F.xQ_STATUS.STALL]

/-- A run of `n` steps that answers throughout and keeps the invariant. -/
def SafeRun : Nat → State → Prop
  | 0, s => Inv s
  | n + 1, s => Inv s ∧ ∃ t, step s = .next t ∧ SafeRun n t

end Sys2Proof.Machine
end

