-- ==== Sys2Proof/WellFormed.lean ====
section
/-! DEFINITION. Which operands a command can carry: the widths and ranges that the spec gives the words, messages and samples it stands for. -/

namespace Sys2Proof

/-- A list of `n` numbers below `b`. -/
def wordsOk (n b : Nat) (l : List Nat) : Bool := l.length == n && l.all (· < b)

/-- R120: nine parameter words, a target word, a 48-bit beat and a 64-bit tag, from one of 16 rings of one of two functions. -/
def HostCmd.wf (c : HostCmd) : Bool :=
  wordsOk 9 (2 ^ 32) c.p && decide (c.target < 2 ^ 32) && decide (c.tag < 2 ^ 64) && decide (c.beat < 2 ^ 48) && decide (c.q < 16) && decide (c.func < 2)

/-- R120: 16 words of 32 bits, or an error. -/
def Fetch.wf (f : Fetch) : Bool := f.error || wordsOk 16 (2 ^ 32) f.words

/-- R109: 128, 256 or 512 bytes of payload; read requests of 128 to 4,096 bytes. -/
def PcieFn.wf (x : PcieFn) : Bool := [128, 256, 512].contains x.payload && [128, 256, 512, 1024, 2048, 4096].contains x.readReq

/-- R109, R110: the bytes of BAR0 (64 MiB), of BAR2 (16 KiB) and of a configuration space. -/
def Space.size : Space → Nat
  | .bar0 => 2 ^ 26
  | .bar2 => 2 ^ 14
  | .config => 4096

/-- R110: the space a write goes to. -/
def Target.space : Target → Space
  | .bar0 => .bar0
  | .bar2 => .bar2
  | .config _ => .config

/-- R109, R110, R111: a write of 1 to 8 bytes inside its space, with settings a function can have. -/
def RegWrite.wf (w : RegWrite) : Bool :=
  decide (w.offset < w.target.space.size) && decide (1 ≤ w.bytes) && decide (w.bytes ≤ 8) && decide (w.v < 2 ^ (8 * w.bytes))
    && (match w.target with | .config x => x.wf | _ => true)

/-- R110: a read inside a space, of 1 to 8 bytes. -/
def ReadAt.wf (x : ReadAt) : Bool := decide (x.offset < x.space.size) && decide (1 ≤ x.bytes) && decide (x.bytes ≤ 8)

/-- R216: the low 32 bits of a beat. -/
def UpHead.wf (h : UpHead) : Bool := decide (h.beat < 2 ^ 32)

/-- R238: the field widths of CAP_UP. -/
def CapUp.wf (c : CapUp) : Bool :=
  [c.protoMajor, c.protoMinor, c.dnSlots, c.prepTicks].all (· < 256) && decide (c.cellClass < 4) && decide (c.bypassKind < 4) && decide (c.string < 8)
    && decide (c.position < 32) && decide (c.holdBeats < 32) && [c.deadtime, c.minPulse, c.dabDeadtime, c.sampleDelay].all (· < 65536) && wordsOk 5 65536 c.fs
    && decide (c.serial < 2 ^ 64) && decide (c.prbsErr < 2 ^ 64) && decide (c.beat < 2 ^ 32)

/-- R205: a 16-bit identifier. -/
def Echo.wf (e : Echo) : Bool := decide (e.id < 65536)

/-- R200: a quality window has 65,536 frames. -/
def FrameCounts.wf (c : FrameCounts) : Bool := decide (c.corrFrames + c.uncorr ≤ 65536)

/-- R222: 24 codes of 16 bits. -/
def SampleMsg.wf (m : SampleMsg) : Bool :=
  decide (m.seq < 65536) && decide (m.beat < 2 ^ 32) && decide (m.part < 16) && m.codes.length == 24 && m.codes.all (fun c => decide (-32768 ≤ c) && decide (c < 32768))

/-- R225: the field widths of STATUS. -/
def StatusMsg.wf (m : StatusMsg) : Bool :=
  [m.beat, m.w08, m.applied].all (· < 2 ^ 32) && [m.seq, m.tripMask, m.lastCtrlSeq, m.lateCnt, m.discardCnt, m.unsentCnt].all (· < 65536)

/-- R227: one of 16 pages. -/
def PageMsg.wf (m : PageMsg) : Bool := decide (m.seq < 65536) && decide (m.beat < 2 ^ 32) && decide (m.page < 16)

/-- R330: 16 inputs of 256 codes of 14 bits (R333: 97 % of full scale is code 15,892). -/
def SensedBeat.wf (i : SensedBeat) : Bool := i.sense.length == 16 && i.sense.all (wordsOk 256 16384)

/-- R328: a beat phase. -/
def SensedLink.wf (i : SensedLink) : Bool := decide (i.upLatest < 1024)

/-- R331: codes of 14 bits. -/
def PhaseMean.wf (i : PhaseMean) : Bool := i.codes.all (· < 16384)

/-- R404: at most 31 data bits. -/
def SsiFrame.wf (x : SsiFrame) : Bool := decide (x.turns.Pairwise (· < ·))

/-- R463: the widths of the fields compared. -/
def Announce.wf (a : Announce) : Bool :=
  [a.domain, a.priority1, a.clockClass, a.accuracy, a.priority2].all (· < 256) && [a.variance, a.stepsRemoved].all (· < 65536) && decide (a.identity < 2 ^ 64)

/-- R463: the widths of a message's header fields. -/
def PtpSync.wf (m : PtpSync) : Bool := decide (m.domain < 256) && decide (m.seq < 65536)
/-- R463. -/
def PtpDelay.wf (m : PtpDelay) : Bool := decide (m.domain < 256) && decide (m.seq < 65536)

/-- R462: the addresses and the EtherType at least, in bytes, forwarded after it arrived. -/
def EthFrame.wf (x : EthFrame) : Bool := decide (14 ≤ x.bytes.length) && x.bytes.all (· < 256) && decide (x.rx ≤ x.tx)

/-- R471: an 11-bit or 29-bit identifier and at most 64 bytes. -/
def CanFrame.wf (x : CanFrame) : Bool := decide (x.id < (if x.ide then 2 ^ 29 else 2 ^ 11)) && decide (x.data.length ≤ 64) && x.data.all (· < 256)

/-- R513: what a diagnostic's event carries. -/
def Diag.wf (x : Diag) : Bool :=
  match x with
  | .readback _ v => decide (v < 65536)
  | .paramCrc _ v => decide (v < 2 ^ 32)
  | _ => true

/-- R525: sums of 64 codes of 12 bits, and binary32 words. -/
def HkRound.wf (x : HkRound) : Bool := wordsOk 32 262081 x.an && wordsOk 8 (2 ^ 32) x.die && decide (x.vin < 2 ^ 32) && decide (x.vkeep < 2 ^ 32)

/-- The operands of a command are ones it can carry. -/
def Instr.wf (i : Instr) : Bool :=
  match i with
  | .reserveStart _ _ => true
  | .reserveReset => true
  | .vinBelowVwarn => true
  | .saveWindowEnd => true
  | .vinBelow4v4 => true
  | .vsdoLost => true
  | .mrstNLow => true
  | .perstNLow => true
  | .pcieLinkLoss => true
  | .functionLevelReset _ => true
  | .mainResetRelease _ => true
  | .keeperWdExpiry _ => true
  | .keeperWdReset => true
  | .xkeepRcSwitch => true
  | .xkeepRetry _ => true
  | .wakePin _ => true
  | .catpWake => true
  | .safetyInputWake _ => true
  | .canWake _ => true
  | .alarm => true
  | .vinReturn => true
  | .wakeSequence => true
  | .sleepRestartDelay => true
  | .idleSleepTimeout => true
  | .tickRecordWrite => true
  | .pllLock _ => true
  | .pllStopTimeout _ => true
  | .pllLockLost _ => true
  | .refclkLost => true
  | .pllLossReset => true
  | .pllsHopFreqWrite _ _ v => decide (v < 2 ^ 32)
  | .pllsHopSearchDone _ => true
  | .pllsSelWrite _ v => decide (v < 2 ^ 32)
  | .pllsHopSwitch => true
  | .syncInEdge _ => true
  | .syncInLost => true
  | .pllsPstepWrite _ v => decide (v < 2 ^ 32)
  | .pllsPstepDone => true
  | .loanChipBudgetWrite _ v => decide (v < 2 ^ 32)
  | .loanSiteBudgetWrite _ v => decide (v < 2 ^ 32)
  | .loanGrant _ => true
  | .loanRefusedWait _ inst => decide (inst < 256)
  | .lpddr5SelfRefreshEntry => true
  | .lpddr5AccessAfterRefresh => true
  | .registerWrite w => w.wf
  | .anchorTimed => true
  | .glbSatclrWrite _ v => decide (v < 2 ^ 32)
  | .regForceWrite _ _ v => decide (v < 2 ^ 32)
  | .chrSnapTake _ v => decide (v < 2 ^ 32)
  | .chrSetAtWrite _ v => decide (v < 2 ^ 64)
  | .chrSetApply => true
  | .laneSlipWrite _ _ v => decide (v < 2 ^ 32)
  | .laneTestHoldWrite _ _ v => decide (v < 2 ^ 32)
  | .pwForceWrite _ _ v => decide (v < 2 ^ 32)
  | .ringCtrlWrite _ _ v => decide (v < 2 ^ 32)
  | .cmdqTailDoorbell _ _ v => decide (v < 2 ^ 64)
  | .cplqHeadDoorbell _ _ v => decide (v < 2 ^ 64)
  | .evqHeadDoorbell _ _ v => decide (v < 2 ^ 64)
  | .strmHeadDoorbell _ _ v => decide (v < 2 ^ 64)
  | .descriptorAdmission _ x => x.wf
  | .ringHostError _ _ => true
  | .hostWdExpiry => true
  | .msixHoldoffExpiry _ _ => true
  | .streamRecord _ => true
  | .streamPageAge _ => true
  | .nop c => c.wf
  | .sleep c => c.wf
  | .deviceReset c => c.wf
  | .fwUpdate c => c.wf
  | .keyEnrol c => c.wf
  | .keyChange c => c.wf
  | .catLoad c => c.wf
  | .catUnload c => c.wf
  | .setFloor c => c.wf
  | .stageRetry c => c.wf
  | .safetyCommitStage c => c.wf
  | .safetyCrcDone faultC faultD => decide (faultC < 2 ^ 32) && decide (faultD < 2 ^ 32)
  | .safetyCommitConfirm c => c.wf
  | .safetyCommitDiscard c => c.wf
  | .start c => c.wf
  | .stop c => c.wf
  | .release c => c.wf
  | .lockoutReset c => c.wf
  | .arraySetVdl c => c.wf
  | .arraySetLimits c => c.wf
  | .arraySetVc c => c.wf
  | .arraySetIq c => c.wf
  | .arraySetBalMode c => c.wf
  | .arraySetHopping c => c.wf
  | .arraySetApplyPhase c => c.wf
  | .cellBypass c => c.wf
  | .cellRestore c => c.wf
  | .slotWriteCoefficients c => c.wf
  | .slotWriteLimits c => c.wf
  | .slotWriteInputs c => c.wf
  | .slotWriteFeedForward c => c.wf
  | .slotWriteHistoryPreset c => c.wf
  | .slotWriteConfiguration c => c.wf
  | .slotWriteInputScale c => c.wf
  | .tableWrite c => c.wf
  | .outputSetVSet c => c.wf
  | .outputSetIset c => c.wf
  | .outputSetEnables c => c.wf
  | .outputSetTrunc c => c.wf
  | .groupEnable c => c.wf
  | .groupDisable c => c.wf
  | .moveTo c => c.wf
  | .track c => c.wf
  | .hold c => c.wf
  | .driveOff c => c.wf
  | .home c => c.wf
  | .park c => c.wf
  | .archiveTrigger c => c.wf
  | .archiveDump c => c.wf
  | .archiveRelease c => c.wf
  | .logRead c => c.wf
  | .logReadDone => true
  | .logAck c => c.wf
  | .xcvrCheckTimeout _ => true
  | .enterLinked => true
  | .enterPrecharge => true
  | .startLockTimeout => true
  | .prechargePhaseEnd _ => true
  | .prechargeTimeout _ => true
  | .arrayZeroPower => true
  | .lanePrsLost _ => true
  | .laneDetectEntry _ => true
  | .laneTrainStart _ => true
  | .laneLos _ => true
  | .laneSymbolLock _ _ => true
  | .laneBlockLock _ _ _ => true
  | .laneFrameLock _ _ => true
  | .laneLockEntry _ => true
  | .laneAttemptTimeout _ => true
  | .laneLockTimeout _ => true
  | .laneRetryGapEnd _ => true
  | .laneExchangeEntry _ => true
  | .capUp _ _ c => c.wf
  | .echo _ e => e.wf
  | .echoTimeout _ _ => true
  | .tsyncReport _ h index _ => h.wf && decide (index < 65536)
  | .laneExchangeTimeout _ => true
  | .laneRttRepeat _ => true
  | .laneQualityWindowEnd _ c => c.wf
  | .idle _ _ _ => true
  | .shift _ count => decide (count < 16)
  | .shiftTimeout _ => true
  | .sample _ _ m => m.wf
  | .status _ _ m => m.wf
  | .capturePage _ _ m => m.wf
  | .credit _ h rcvd freed => h.wf && decide (rcvd < 65536) && decide (freed < 65536)
  | .bypassRepeat _ => true
  | .captureRepeat _ => true
  | .beatStart i => i.wf
  | .arrayLatch i => i.wf
  | .slotRelease _ _ => true
  | .escapement miss dnLatest => (miss.all (fun x => decide (x.1 < 96))) && decide (dnLatest < 1024)
  | .bypassTimeout _ => true
  | .retrainTimeout _ => true
  | .capEstimatePeriodEnd => true
  | .closureWindowEnd => true
  | .derateRiseStep => true
  | .osShadowWrite _ => true
  | .pwmPeriodBoundary _ i => i.wf
  | .osTruncation _ code => decide (code < 16384)
  | .brakeDecision code => decide (code < 16384)
  | .osBurstWake _ code => decide (code < 16384)
  | .osSsTimeout _ => true
  | .gdTrip _ _ => true
  | .blankingEnd _ _ => true
  | .xtrip _ _ => true
  | .softOffStep _ => true
  | .statusCarrierFrame _ period f => decide (0 < period) && decide (f.ticks ≤ period)
  | .carrierLost _ => true
  | .bootstrapProofTimeout _ => true
  | .hallChange _ => true
  | .encoderEdge _ _ _ _ => true
  | .encoderIndex _ _ => true
  | .colReversal _ => true
  | .ssiFrame x => x.wf
  | .colBrakeEnd => true
  | .meterSample x => (x.length == 16)
  | .zcTimeout _ => true
  | .harmonicBurstDone => true
  | .meterIntervalClose _ => true
  | .meterClosureWindow => true
  | .ptpAnnounce _ a => a.wf
  | .ptpMasterLost _ => true
  | .ptpSync _ m => m.wf
  | .ptpDelayResp _ m => m.wf
  | .ptpPdelayReq _ m => m.wf
  | .ethFrameForward _ x => x.wf
  | .ethLinkDown _ => true
  | .holdoverStart => true
  | .holdoverExpiry => true
  | .ppsInEdge _ => true
  | .ppsInTimeout => true
  | .ppsOutPulse _ => true
  | .canFrameRx _ x => x.wf
  | .canTxPeriod _ _ => true
  | .canBusoff _ _ => true
  | .incidentEndC2 => true
  | .registrarHeartbeatLost => true
  | .archiveFreeze => true
  | .arcDumpDone _ => true
  | .arcMem _ segment => decide (segment < 245760)
  | .safetyInputChange _ _ _ _ => true
  | .discrepancyTimeout _ _ => true
  | .delayedOffExpiry _ _ => true
  | .safetyFaultClear _ => true
  | .sdoEnergise => true
  | .safetyDiagFail x => x.wf
  | .sdoOffPulseTest _ _ _ => true
  | .lorPress _ => true
  | .lorRelease _ => true
  | .lorHoldTimeout _ => true
  | .resetWindowExpiry => true
  | .hkRoundEnd x => x.wf
  | .lowWordRead _ x => x.wf
  | .selfRefreshExitDone => true
  | .loopEngineLoanReduction => true
  | .pwmCompare _ => true
  | .deadTimeEnd _ => true
  | .laneTp1Lock _ mode1 mode2 => decide (mode1 < 2 ^ 64) && decide (mode2 < 2 ^ 64)
  | .laneTp1End _ => true
  | .metChannelLost _ density => decide (density < 1001)
  | .ethLinkUp _ => true
  | .ptpFollowUp _ m => m.wf
  | .ptpPdelayResp _ m => m.wf
  | .pcieLinkUp => true
  | .errFaultHoldEnd => true
  | .registrarMemoryError => true
  | .safeLoopEdge _ => true
  | .collectorDriveHandover => true

end Sys2Proof
end

