-- ==== Sys2Proof/Certificates/Slice0/Obligations.lean ====
section
/-! DEFINITION. The statements about the model, for the provers. `After c s P`: the command answers a next state of which `P` holds, the queue as it
is. `Leaves c s P`: the same of the command's own effect, before the end of the step brings the log's tiers, the LPDDR5, promise 3, the ERR pair and
the array's mode up to date. Every statement is made in the model's own conventions on the queue (note 1), on how time passes (note 2), on a command whose
event cannot occur (note 3), on operands (note 7) and on the end of a step (note 122); the further choices of the model that a statement rests on stand by
their numbers in its docstring. -/

open Sys2Proof Sys2Proof.Machine

/-! ## Supplies, resets, the Reserve domain and SLEEP -/

/-- R43, R44, R45, R42, R56: what a change of a supply or of MRST_N leaves.
R45, R55, R91: the save window opens, ends with a save slot written and the main domain held, and the tick-count record is written.
(The model's choices: notes 9, 20, 21, 22.) -/
def Obligations.SuppliesAndSaveWindow : Prop :=
  (∀ (s : State) (testEn : Bool) (supplies : Supplies), s.dev.pwr.reserveOn = false →
    After (.reserveStart testEn supplies) s fun d =>
      d.pwr.reserveOn = true ∧ d.pwr.main = .held ∧ d.pwr.testEn = testEn ∧ d.pwr.vinOk = supplies.vin ∧ d.get F.RSV_TIME.COUNT = 0
        ∧ d.bit F.RSV_STATUS.VIN_OK = supplies.vin ∧ d.bit F.RSV_STATUS.VKEEP_OK = supplies.vkeep ∧ d.bit F.RSV_VWARN.BELOW = !supplies.vin)
  ∧ (∀ s : State, s.dev.pwr.reserveOn = true →
    After .reserveReset s fun d => d.pwr.reserveOn = false ∧ d.pwr.main = .off ∧ d.regs = [] ∧ d.mram = s.dev.mram)
  ∧ (∀ s : State, s.dev.pwr.reserveOn = true →
    After .vinBelow4v4 s fun d => d.pwr.vinOk = false ∧ d.pwr.vinFell = true ∧ d.live = false
      ∧ d.bit F.RSV_VWARN.BELOW = true ∧ d.bit F.RSV_STATUS.VIN_OK = false)
  ∧ (∀ s : State, s.dev.pwr.reserveOn = true → s.dev.pwr.vinOk = false →
    After .vinReturn s fun d => d.pwr.vinOk = true ∧ d.pwr.vinFell = false ∧ (s.dev.pwr.vinFell = true → d.bit F.RSV_WAKE_CAUSE.VIN = true)
      ∧ d.bit F.RSV_VWARN.BELOW = false ∧ d.bit F.RSV_STATUS.VIN_OK = true)
  ∧ (∀ s : State, s.dev.pwr.reserveOn = true →
    After .mrstNLow s fun d => d.pwr.mrstLow = true ∧ d.live = false)
  ∧ (∀ s : State, s.dev.pwr.reserveOn = true →
    Leaves .vsdoLost s fun d => d.pwr.vsdoOk = false ∧ d.bit F.SAF_STATE.SDO_C = false ∧ d.bit F.SAF_STATE.SDO_D = false
      ∧ d.bit F.SAF_STATE.RB_C = false ∧ d.bit F.SAF_STATE.RB_D = false)
  ∧ (∀ s : State, s.dev.pwr.reserveOn = true → s.dev.live = true → s.dev.pwr.saveWin = false →
    Leaves .vinBelowVwarn s fun d => d.pwr.saveWin = true ∧ d.pwr.vinOk = false ∧ d.due .saveEnd = some (s.dev.tick + usT 2100)
      ∧ d.bit F.RSV_VWARN.BELOW = true ∧ d.bit F.RSV_STATUS.VIN_OK = false ∧ d.get F.LE_STATUS.RATE = 0
      ∧ (∀ k < 96, d.get F.LANE_STATUS.STATE k = 0) ∧ (s.dev.mram.tickRecs.length = 2 → ∃ y : MramSlot TickRec,
        d.mram.tickRecs.getD (mramSpare TickRec.bytes s.dev.mram.tickRecs) none = some y ∧ y.good TickRec.bytes = true ∧ y.body.tick = d.stamp))
  ∧ (∀ (s : State) (x : Nat), s.dev.live = true → s.dev.pwr.saveWin = true → s.dev.due .saveEnd = some x → s.dev.ahead x = true → s.dev.mram.saves.length = 2 →
    After .saveWindowEnd s fun d => d.pwr.main = .held ∧ d.pwr.saveWin = false
      ∧ ∃ y : Save, d.mram.saves.getD s.dev.mram.saveSpare none = some y ∧ y.good = true ∧ y.tick = max s.dev.tick x)
  ∧ (∀ (s : State) (x : Nat), s.dev.live = true → s.dev.due .tickRec = some x → s.dev.ahead x = true →
    After .tickRecordWrite s fun d => d.tick = max s.dev.tick x ∧ d.due .tickRec = some (d.tick + 2 ^ 30)
      ∧ (s.dev.mram.tickRecs.length = 2 → ∃ y : MramSlot TickRec,
        d.mram.tickRecs.getD (mramSpare TickRec.bytes s.dev.mram.tickRecs) none = some y ∧ y.good TickRec.bytes = true ∧ y.body.tick = d.stamp
          ∧ y.body.sec * 1000000000 + y.body.ns = (d.ntNs (d.stamp * 64)).toNat))

/-- R54, R56, R57: an enabled wake source latches its cause; the crystal's switch and its return.
(The model's choices: notes 3, 31.) -/
def Obligations.WakeCauses : Prop :=
  (∀ (s : State) (cycles : Nat), s.dev.pwr.reserveOn = true → s.dev.bit F.RSV_WAKE_EN.WAKE0 = true →
      max 1 (s.dev.get F.RSV_WAKE_FILT.WAKE_FILT) ≤ cycles →
    After (.wakePin ⟨.wake0, true, cycles⟩) s fun d => d.bit F.RSV_WAKE_CAUSE.WAKE0 = true)
  ∧ (∀ (s : State) (present : Bool) (cycles : Nat), s.dev.pwr.reserveOn = true →
    After (.wakePin ⟨.vkeep, present, cycles⟩) s fun d => d.bit F.RSV_STATUS.VKEEP_OK = present)
  ∧ (∀ (s : State) (cycles : Nat), s.dev.pwr.reserveOn = true →
    After (.wakePin ⟨.vinGood, false, cycles⟩) s fun d => d.bit F.RSV_STATUS.VIN_OK = false)
  ∧ (∀ (s : State) (cycles : Nat), s.dev.pwr.reserveOn = true →
    After (.wakePin ⟨.vwarn, true, cycles⟩) s fun d => d.bit F.RSV_VWARN.BELOW = false)
  ∧ (∀ (s : State) (cycles : Nat), s.dev.pwr.reserveOn = true → 328 ≤ cycles →
    After (.wakePin ⟨.vinGood, true, cycles⟩) s fun d => d.bit F.RSV_STATUS.VIN_OK = true ∧ d.pwr.vinFell = false
      ∧ (s.dev.pwr.vinFell = true → d.bit F.RSV_WAKE_CAUSE.VIN = true))
  ∧ (∀ (s : State) (cycles : Nat), s.dev.pwr.reserveOn = true → s.dev.bit F.RSV_WAKE_EN.WAKE1 = true →
      max 1 (s.dev.get F.RSV_WAKE_FILT.WAKE_FILT) ≤ cycles →
    After (.wakePin ⟨.wake1, true, cycles⟩) s fun d => d.bit F.RSV_WAKE_CAUSE.WAKE1 = true)
  ∧ (∀ (s : State) (present : Bool) (cycles : Nat), s.dev.pwr.reserveOn = true →
    After (.wakePin ⟨.catp, present, cycles⟩) s fun d => d.bit F.RSV_CATP.LEVEL = present
      ∧ (present = true → s.dev.bit F.RSV_WAKE_EN.CATP = true → max 1 (s.dev.get F.RSV_WAKE_FILT.CATP_FILT) ≤ cycles →
        d.bit F.RSV_WAKE_CAUSE.CATP = true))
  ∧ (∀ s : State, s.dev.pwr.reserveOn = true →
    After .catpWake s fun d => d.bit F.RSV_CATP.LEVEL = true ∧ (s.dev.bit F.RSV_WAKE_EN.CATP = true → d.bit F.RSV_WAKE_CAUSE.CATP = true))
  ∧ (∀ (s : State) (n : Fin 8), s.dev.pwr.reserveOn = true → s.dev.flag F.RSV_WAKE_EN.SI n = true →
    After (.safetyInputWake n) s fun d => d.flag F.RSV_WAKE_CAUSE.SI n = true)
  ∧ (∀ (s : State) (cycles : Nat), s.dev.pwr.reserveOn = true → s.dev.pwr.canStb.getD 0 false = true → s.dev.bit F.RSV_WAKE_EN.CAN0 = true →
      max 1 (s.dev.get F.RSV_WAKE_FILT.CAN_FILT) ≤ cycles →
    After (.canWake ⟨0, true, cycles⟩) s fun d => d.bit F.RSV_WAKE_CAUSE.CAN0 = true)
  ∧ (∀ (s : State) (cycles : Nat), s.dev.pwr.reserveOn = true → s.dev.pwr.canStb.getD 1 false = true → s.dev.bit F.RSV_WAKE_EN.CAN1 = true →
      max 1 (s.dev.get F.RSV_WAKE_FILT.CAN_FILT) ≤ cycles →
    After (.canWake ⟨1, true, cycles⟩) s fun d => d.bit F.RSV_WAKE_CAUSE.CAN1 = true)
  ∧ (∀ s : State, s.dev.pwr.reserveOn = true → s.dev.bit F.RSV_WAKE_EN.ALARM = true → s.dev.get F.RSV_ALARM.AT ≠ 0 →
      s.dev.get F.RSV_TIME.COUNT ≤ s.dev.get F.RSV_ALARM.AT →
    After .alarm s fun d => d.bit F.RSV_WAKE_CAUSE.ALARM = true)
  ∧ (∀ s : State, s.dev.pwr.reserveOn = true → s.dev.bit F.RSV_STATUS.XKEEP_RC = false →
    After .xkeepRcSwitch s fun d => d.bit F.RSV_STATUS.XKEEP_RC = true ∧ d.pwr.xkeepAt = s.dev.get F.RSV_TIME.COUNT + 32768
      ∧ (s.dev.live = false → d.pwr.xkeepEvent = true))
  ∧ (∀ (s : State) (good : Nat), s.dev.pwr.reserveOn = true → s.dev.bit F.RSV_STATUS.XKEEP_RC = true →
    After (.xkeepRetry good) s fun d => d.bit F.RSV_STATUS.XKEEP_RC = decide (good < 1024)
      ∧ (good < 1024 → d.pwr.xkeepAt = s.dev.pwr.xkeepAt + 32768))

/-- R60 to R63, R88, R90: SLEEP by idleness, waking from it, the Keeper's watchdog and the boot.
(The model's choices: notes 18, 19, 28.) -/
def Obligations.SleepAndBoot : Prop :=
  (∀ s : State, s.dev.live = true → s.dev.st = QUIET → s.dev.get F.RSV_CTRL.IDLE_SLEEP ≠ 0 → s.dev.sleepBusy = false →
      s.dev.ahead ((s.dev.due .idleSleep).getD (s.dev.rings.lastCmd + s.dev.get F.RSV_CTRL.IDLE_SLEEP * 6000000000)) = true →
    After .idleSleepTimeout s fun d => d.pwr.asleep = true ∧ d.pwr.main = .off ∧ d.pwr.canStb = [true, true])
  ∧ (∀ s : State, s.dev.pwr.reserveOn = true → s.dev.pwr.asleep = true → s.dev.pwr.main = .off → s.dev.bit F.RSV_STATUS.VIN_OK = true →
      s.dev.anyCause = true → s.dev.due .sleepRestart = none →
    After .wakeSequence s fun d => d.pwr.asleep = false ∧ d.pwr.main = .held ∧ d.pwr.cause = s.dev.pwr.cause ||| 2 ^ 7)
  ∧ (∀ (s : State) (x : Nat), s.dev.pwr.reserveOn = true → s.dev.pwr.asleep = true → s.dev.pwr.main = .off → s.dev.bit F.RSV_STATUS.VIN_OK = true →
      s.dev.anyCause = true → s.dev.due .sleepRestart = some x → s.dev.ahead x = true →
    After .sleepRestartDelay s fun d => d.pwr.asleep = false ∧ d.pwr.main = .held ∧ d.pwr.cause = s.dev.pwr.cause ||| 2 ^ 7)
  ∧ (∀ (s : State) (core : Fin 2), s.dev.live = true → s.dev.due .keeperReset = none →
    After (.keeperWdExpiry core) s fun d => d.due .keeperReset = some (s.dev.tick + msT 10))
  ∧ (∀ (s : State) (x : Nat), s.dev.live = true → s.dev.due .keeperReset = some x → s.dev.ahead x = true →
    After .keeperWdReset s fun d => d.pwr.main = .held ∧ d.pwr.cause = s.dev.pwr.cause ||| 2 ^ 5)
  ∧ (∀ (s : State) (selfTest : Bool), s.dev.pwr.reserveOn = true → s.dev.pwr.main = .held → s.dev.pwr.vinOk = true →
    After (.mainResetRelease selfTest) s fun d => d.live = true
      ∧ (s.dev.mram.bootRecs.length = 2 → ∃ y : MramSlot Nat, d.mram.bootRecs.getD (mramSpare (leBytes 4) s.dev.mram.bootRecs) none = some y
        ∧ y.good (leBytes 4) = true ∧ y.body = (s.dev.mram.boots + 1) % 2 ^ 32)
      ∧ d.bit F.GLB_BOOT.SELFTEST_OK = selfTest ∧ d.get F.GLB_RESET_CAUSE.CAUSE = s.dev.pwr.cause % 256)

/-- R42, R109, R143: the endpoint and its rings; a ring whose function goes is disabled.
(The model's choices: note 42.) -/
def Obligations.LinkEvents : Prop :=
  (∀ s : State, s.dev.live = true →
    After .perstNLow s fun d => d.pwr.linkUp = false ∧ ∀ r < 44, d.bit F.xQ_CTRL.EN r = false)
  ∧ (∀ s : State, s.dev.live = true →
    After (.pcieLinkLoss) s fun d => d.pwr.linkUp = false ∧ ∀ r < 44, d.bit F.xQ_CTRL.EN r = false)
  ∧ (∀ (s : State) (f : Fin 2) (x : PcieFn) (o n v : Nat), s.dev.live = true → f.val < s.dev.rings.fn.length →
    After (.registerWrite ⟨f, .config x, o, n, v⟩) s fun d => d.pwr.linkUp = s.dev.pwr.linkUp ∧ unit d.rings.fn f.val = x
      ∧ ((unit s.dev.rings.fn f.val).busMaster = true → x.busMaster = false → ∀ r < 44, d.bit F.xQ_CTRL.EN r = false))
  ∧ (∀ (s : State) (f : Fin 2) (o n : Nat), s.dev.live = true → s.dev.deaf f = true →
    Leaves (.lowWordRead f ⟨.bar0, o, n⟩) s fun e => e.out = .unsupported f :: s.dev.out)
  ∧ (∀ s : State, s.dev.live = true → After .pcieLinkUp s fun d => d.pwr.linkUp = true ∧ d.rings.fn = s.dev.rings.fn)
  ∧ (∀ (s : State) (f : Fin 2), s.dev.live = true →
    After (.functionLevelReset f) s fun d => (∀ r < 44, s.dev.get F.xQ_CTRL.OWNER r = f.val → d.bit F.xQ_CTRL.EN r = false)
      ∧ ∀ v < 64, 64 * f.val + v ∈ d.rings.masked)


/-! ## Clocks and loans -/

/-- R64 to R66, R69, R70, R86: a start that locks, a stop after the last demand, a loss of lock, of the reference, and the reset they lead to.
R71 to R75: PLL-S finds a hop entry's codes, switches, follows SYNC_IN, loses it, and ends a phase step.
(The model's choices: notes 17, 32, 33, 34, 35.) -/
def Obligations.ClockEvents : Prop :=
  ((∀ (s : State) (p : Fin 4), s.dev.live = true → s.dev.clk.starting.getD p false = true →
    After (.pllLock p) s fun d => d.bit F.PLL_STATUS.LOCKED p = true)
  ∧ (∀ (s : State) (p : Fin 4) (x : Nat), s.dev.live = true → s.dev.due (.pllStop p) = some x → s.dev.ahead x = true → s.dev.clk.demand.getD p [] = [] →
      s.dev.bit F.PLL_CTRL.FORCE_ON p = false →
    After (.pllStopTimeout p) s fun d => d.bit F.PLL_STATUS.LOCKED p = false)
  ∧ (∀ (s : State) (p : Fin 4), s.dev.live = true → s.dev.bit F.PLL_STATUS.LOCKED p = true →
    After (.pllLockLost p) s fun d => d.bit F.PLL_STATUS.LOCKED p = false ∧ d.bit F.PLL_STATUS.LOCK_LOST p = true
      ∧ d.get F.PLL_LOSS_COUNT.COUNT p = (s.dev.get F.PLL_LOSS_COUNT.COUNT p + 1) % 2 ^ 64)
  ∧ (∀ s : State, s.dev.live = true → s.dev.bit F.RSV_STATUS.REFCLK_OK = true →
    After .refclkLost s fun d => d.bit F.RSV_STATUS.REFCLK_OK = false ∧ ∀ p < 4, d.bit F.PLL_STATUS.REF_LOST p = true)
  ∧ (∀ (s : State) (x : Nat), s.dev.live = true → s.dev.due .pllReset = some x → s.dev.ahead x = true →
    After .pllLossReset s fun d => d.pwr.main = .held ∧ d.pwr.cause = s.dev.pwr.cause ||| 2 ^ 4))
  ∧ ((∀ (s : State) (h : Fin 16) (x : Nat), s.dev.live = true → s.dev.due (.hopSearch h) = some x → s.dev.ahead x = true →
    After (.pllsHopSearchDone h) s fun d => d.bit F.PLLS_HOP.VALID h = true)
  ∧ (∀ (s : State) (x : Nat), s.dev.live = true → s.dev.due .hopLock = some x → s.dev.ahead x = true →
    After .pllsHopSwitch s fun d => d.bit F.PLLS_SEL.HOP_BUSY = false)
  ∧ (∀ (s : State) (instant : Nat), s.dev.live = true → s.dev.bit F.PLLS_SYNC.EN = true → s.dev.bit F.PLL_STATUS.LOCKED 2 = true →
      s.dev.clk.syncLast = none →
    After (.syncInEdge instant) s fun d => d.clk.syncLast = some instant ∧ d.tick = max s.dev.tick (instant / 64))
  ∧ (∀ (s : State) (t : Nat), s.dev.live = true → s.dev.bit F.PLLS_SYNC.EN = true → s.dev.clk.syncLast = some t → (12, 0) ∉ s.dev.reg.active →
      s.dev.ahead ((t + s.dev.osAfter 0 (64 * s.dev.get F.PW_PERIOD.PERIOD (s.dev.get F.PWM_SYNC.MASTER)) * 3 / 2 + 63) / 64) = true →
    After .syncInLost s fun d => d.bit F.PLLS_SYNC.LOST = true ∧ d.bit F.PLLS_SYNC.LOCKED = false ∧ d.clk.syncLast = none)
  ∧ (∀ (s : State) (x : Nat), s.dev.live = true → s.dev.due .pstep = some x → s.dev.ahead x = true →
    After .pllsPstepDone s fun d => d.bit F.PLLS_PSTEP.BUSY = false ∧ d.clk.pstep = 0))

/-- R77, R78, R79: the grant of the request that stands first, a refusal at its limit, and the loans of the LPDDR5 and the Loop Engine.
(The model's choices: notes 36, 37, 38.) -/
def Obligations.LoanEvents : Prop :=
  (∀ (s : State) (b : Fin 2) (q : LoanReq), s.dev.live = true → s.dev.reqFirst (b == 1) = some q → s.dev.pwr.saveWin = false →
      s.dev.reg.loanStop = false → q.cost ≤ s.dev.loanAvail (b == 1) → q.op < 11 →
    After (.loanGrant b) s fun d => d.get F.LOAN_OP_GRANTED.COUNT q.op = (s.dev.get F.LOAN_OP_GRANTED.COUNT q.op + 1) % 2 ^ 64)
  ∧ (∀ (s : State) (op : Fin 11) (inst : Nat), s.dev.live = true → (s.dev.loanWait.any fun q => q.op == op.val && q.inst == inst) = true →
      (∀ q ∈ s.dev.loanWait, q.op = op.val → q.inst = inst → s.dev.ahead (q.filed + msT (s.dev.get F.LOAN_OP_WAIT.WAIT_MS op)) = true) →
    Leaves (.loanRefusedWait op inst) s fun e => e.get F.LOAN_OP_REFUSED.COUNT op = (s.dev.get F.LOAN_OP_REFUSED.COUNT op + 1) % 2 ^ 64
      ∧ (op ≠ 0 → ∀ q ∈ e.loanWait, ¬ (q.op = op.val ∧ q.inst = inst)))
  ∧ (∀ (s : State) (x : Nat), s.dev.live = true → s.dev.due .lpddrIdle = some x → s.dev.ahead x = true → s.dev.st = QUIET ∨ s.dev.st = STAGED →
      s.dev.bit F.ARC_STATE.DUMPING = false → s.dev.prov.reads = [] →
    After .lpddr5SelfRefreshEntry s fun d => d.clk.lpddrAwake = false)
  ∧ (∀ s : State, s.dev.live = true →
    Leaves .lpddr5AccessAfterRefresh s fun e =>
      (s.dev.clk.lpddrAwake = true → e.due .lpddrIdle = some (s.dev.tick + msT 100))
        ∧ (s.dev.clk.lpddrAwake = false → e.clk.lpddrWait = s.dev.clk.lpddrWait + 1 ∧ e.clk.lpddrAwake = false))
  ∧ (∀ (s : State) (x : Nat), s.dev.live = true → s.dev.due .refreshExit = some x → s.dev.ahead x = true →
    After .selfRefreshExitDone s fun d => d.clk.lpddrAwake = true ∧ d.clk.lpddrExiting = false)
  ∧ (∀ (s : State) (x : Nat), s.dev.live = true → s.dev.due .loopLoan = some x → s.dev.ahead x = true →
    Leaves .loopEngineLoanReduction s fun e => ∀ l ∈ e.loans, l.op = 4 → l.inst = 0 → l.amount ≤ s.dev.get F.LOAN_OP_COST.STANDING 4)


/-! ## Register writes and reads -/

/-- R9, R10, R541: a host write of a register with plain fields, one of them held to its range (LANE_FB), and of one that only a module without a
Catalogue may write; a 64-bit register is read as its latched halves (R8).
(The model's choices: notes 44, 56.) -/
def Obligations.PlainRegisters : Prop :=
  (∀ (s : State) (k : Fin 96) (v : Nat), Writable s →
    After (.registerWrite ⟨0, .bar0, F.LANE_FB.CORR_LIM.off k 0 0, 4, v⟩) s fun d =>
      d.get F.LANE_FB.CORR_LIM k = v % 65536 ∧ d.get F.LANE_FB.UNCORR_LIM k = max 1 (v / 65536 % 256))
  ∧ (∀ (s : State) (v : Nat), Writable s →
    After (.loanChipBudgetWrite 0 v) s fun d => d.get F.LOAN_CHIP.BUDGET =
      if s.dev.bit F.GLB_CAT.LOADED = true ∨ v % 65536 < s.dev.loansOut false then s.dev.get F.LOAN_CHIP.BUDGET else v % 65536)
  ∧ (∀ (s : State) (v : Nat), Writable s →
    After (.loanSiteBudgetWrite 0 v) s fun d => d.get F.LOAN_SITE.BUDGET =
      if s.dev.bit F.GLB_CAT.LOADED = true ∨ v % 65536 < s.dev.loansOut true then s.dev.get F.LOAN_SITE.BUDGET else v % 65536)
  ∧ (∀ (s : State) (v : Nat), Writable s → s.dev.bit F.GLB_CAT.LOADED = false → s.dev.loansOut false ≤ v % 65536 →
    After (.registerWrite ⟨0, .bar0, F.LOAN_CHIP.BUDGET.base, 4, v⟩) s fun d => d.get F.LOAN_CHIP.BUDGET = v % 65536)
  ∧ (∀ (s : State) (r : Fin 44) (v : Nat), Writable s → s.dev.bit F.xQ_CTRL.EN r = false →
    After (.registerWrite ⟨0, .bar0, F.xQ_BASE.ADDR.off r 0 0, 8, v * 4096⟩) s fun d => d.get F.xQ_BASE.ADDR r = v * 4096 % 2 ^ 64 / 2 ^ F.xQ_BASE.ADDR.lo)
  ∧ (∀ (s : State) (f : Fin 2) (offset : Nat), s.dev.live = true → s.dev.deaf f = false → offset % 4 = 0 → s.dev.rings.latch.getD f none = none →
    Leaves (.lowWordRead f ⟨.bar0, offset, 4⟩) s fun e => e.out.head? = some (.readData f (s.dev.hostWord offset)))
  ∧ (∀ (s : State) (f : Fin 2) (x : ReadAt), s.dev.live = true → s.dev.deaf f = false ∨ x.space = .config → (x.space = .bar0 → x.bytes ≠ 4 ∨ x.offset % 4 ≠ 0) →
    Leaves (.lowWordRead f x) s fun e => e.out.head? = some (.readData f (s.dev.bytesAt f x.space x.offset x.bytes)))
  ∧ (∀ (s : State) (f : Fin 2) (p : Fin 4), s.dev.live = true → s.dev.deaf f = false → s.dev.rings.latch.length = 2 →
    Leaves (.lowWordRead f ⟨.bar0, F.PLL_LOSS_COUNT.COUNT.off p 0 0, 4⟩) s fun e =>
      e.rings.latch.getD f none = some (F.PLL_LOSS_COUNT.COUNT.off p 0 0, s.dev.hostWord (F.PLL_LOSS_COUNT.COUNT.off p 0 0 + 4)))
  ∧ (∀ (s : State) (f : Fin 2) (p : Fin 4) (w : Nat), s.dev.live = true → s.dev.deaf f = false →
      s.dev.rings.latch.getD f none = some (F.PLL_LOSS_COUNT.COUNT.off p 0 0, w) →
    Leaves (.lowWordRead f ⟨.bar0, F.PLL_LOSS_COUNT.COUNT.off p 0 0 + 4, 4⟩) s fun e =>
      e.out.head? = some (.readData f w) ∧ e.rings.latch.getD f none = none)

/-- R71, R72, R75: a hop entry, a hop and a phase step by register.
(The model's choices: notes 17, 35.) -/
def Obligations.ClockRegisters : Prop :=
  (∀ (s : State) (h : Fin 16) (v : Nat), Writable s → h.val ≠ s.dev.get F.PLLS_SEL.ENTRY →
      (s.dev.bit F.PLLS_SEL.HOP_BUSY = true → h.val ≠ s.dev.clk.hopFrom) → 90000000 ≤ v → v ≤ 110000000 →
    After (.pllsHopFreqWrite 0 h v) s fun d => d.get F.PLLS_HOP.FREQ h = v
      ∧ (v ≠ s.dev.get F.PLLS_HOP.FREQ h → d.bit F.PLLS_HOP.VALID h = false ∧ d.due (.hopSearch h) = some (s.dev.tick + usT 300)))
  ∧ (∀ (s : State) (v : Nat), Writable s → s.dev.bit F.PLLS_SEL.HOP_BUSY = false → s.dev.bit F.PLLS_SYNC.EN = false →
      v % 16 ≠ s.dev.get F.PLLS_SEL.ENTRY → s.dev.get F.PLLS_HOP.FREQ (v % 16) ≠ 0 →
    After (.pllsSelWrite 0 v) s fun d => d.get F.PLLS_SEL.ENTRY = v % 16 ∧ d.bit F.PLLS_SEL.HOP_BUSY = true
      ∧ d.due .hopLock = some (s.dev.tick + (if s.dev.bit F.PLLS_HOP.VALID (v % 16) then usT 20 else usT 300)))
  ∧ (∀ (s : State) (v : Nat), Writable s → v % 65536 ≠ 0 → v % 65536 ≠ 32768 → s.dev.bit F.PLLS_PSTEP.BUSY = false → s.dev.bit F.PLLS_SYNC.EN = false →
    After (.pllsPstepWrite 0 v) s fun d => d.bit F.PLLS_PSTEP.BUSY = true ∧ d.clk.pstep = toS 16 (v % 65536))

/-- R12, R454, R457, R488: the counters' clear, a snapshot, an armed set of network time, and a forced event.
R116, R186, R199, R368: slips and holds of a lane, the force of a PWM channel, and a ring's enable.
(The model's choices: notes 42, 58, 59, 60.) -/
def Obligations.ServiceAndControlRegisters : Prop :=
  ((∀ (s : State) (v : Nat), Writable s → v % 2 = 1 →
    Leaves (.glbSatclrWrite 0 v) s fun d => d.tick = s.dev.tick + 1 ∧ ∀ f ∈ saturating, ∀ a < f.n1, d.get f a = 0)
  ∧ (∀ (s : State) (w : Fin 8) (b : Fin 32), Writable s → reservedSrc (32 * w.val + b.val) = false → 32 * w.val + b.val ≠ 193 → ¬ (208 ≤ 32 * w.val + b.val ∧ 32 * w.val + b.val ≤ 223) →
    Leaves (.regForceWrite 0 w (2 ^ b.val)) s fun e =>
      e.get F.REG_SRC_COUNT.COUNT (32 * w.val + b.val) = (s.dev.get F.REG_SRC_COUNT.COUNT (32 * w.val + b.val) + 1) % 2 ^ 64)
  ∧ (∀ (s : State) (v : Nat), Writable s → v % 2 = 1 →
    After (.chrSnapTake 0 v) s fun d => 
      let t := (s.dev.ntAt (s.dev.stamp * 64)).toNat
      d.get F.CHR_SNAP_TICK.TICK = s.dev.stamp % 2 ^ 64 ∧ d.get F.CHR_SNAP_SEC.SEC = t / (1000000000 * 2 ^ 32) % 2 ^ 48
        ∧ d.get F.CHR_SNAP_NS.NS = t % (1000000000 * 2 ^ 32) / 2 ^ 32 % 2 ^ 32 ∧ d.get F.CHR_SNAP_NS.FRAC = t % 2 ^ 32)
  ∧ (∀ (s : State) (v : Nat), Writable s → s.dev.tick + 1024 ≤ v → v < 2 ^ 64 → v ≠ s.dev.get F.CHR_SET_AT.TICK →
      ¬ (s.dev.get F.CHR_SERVO.SOURCE ≠ 0 ∧ s.dev.get F.CHR_STATE.NT_STATE = 3) → s.dev.bit F.CHR_STATE.SET_ARMED = false →
    After (.chrSetAtWrite 0 v) s fun d => d.get F.CHR_SET_AT.TICK = v ∧ d.bit F.CHR_STATE.SET_ARMED = true ∧ d.due .set = some v))
  ∧ ((∀ (s : State) (k : Fin 96) (v : Nat), Writable s → v % 2 = 1 → s.dev.slipOk k = true →
    After (.laneSlipWrite 0 k v) s fun d => d.bit F.LANE_SLIP.DONE k = true)
  ∧ (∀ (s : State) (k : Fin 96) (v : Nat), Writable s → s.dev.st = STAGED ∨ s.dev.st = LINKED →
    After (.laneTestHoldWrite 0 k v) s fun d => d.bit F.LANE_CTRL.TEST_HOLD k = v.testBit 8)
  ∧ (∀ (s : State) (c : Fin 32) (v : Nat), Writable s → v % 4 < 2 →
    After (.pwForceWrite 0 c v) s fun d => d.get F.PW_FORCE.FORCE c = v % 4)
  ∧ (∀ (s : State) (r : Fin 44) (v : Nat), Writable s → 16 ≤ r.val → s.dev.bit F.xQ_CTRL.EN r = false → 6 ≤ v % 32 → v % 32 ≤ 16 →
      v.testBit 6 = true →
    After (.ringCtrlWrite 0 r v) s fun d => d.bit F.xQ_CTRL.EN r = true ∧ d.get F.xQ_CTRL.LOG2SIZE r = v % 32 ∧ d.bit F.xQ_STATUS.ACTIVE r = true)
  ∧ (∀ (s : State) (r : Fin 44) (v : Nat), Writable s → ¬ (16 ≤ r.val ∧ r.val < 32) → v.testBit 6 = false →
    After (.ringCtrlWrite 0 r v) s fun d => d.bit F.xQ_CTRL.EN r = false))


/-! ## Host rings -/

/-- R113, R115, R118, R124, R145: a doorbell that the ring takes.
R123, R125, R138, R139, R140, R142, R145: a descriptor taken, errors on host memory, the watchdog, moderation and streams.
(The model's choices: notes 40, 41, 43, 45, 55.) -/
def Obligations.HostRings : Prop :=
  (∀ (s : State) (f : Fin 2) (q : Fin 16) (v : Nat), s.dev.live = true → s.dev.creditsOut = false → s.dev.bellTaken f q = true →
      (v % 2 ^ 32 + 2 ^ 32 - s.dev.get F.xQ_CONS.INDEX q) % 2 ^ 32 ≤ s.dev.ringSize q →
      (v % 2 ^ 32 + 2 ^ 32 - s.dev.get F.xQ_PROD.INDEX q) % 2 ^ 32 ≤ s.dev.ringSize q → v % 2 ^ 32 ≠ s.dev.get F.xQ_PROD.INDEX q →
    Leaves (.cmdqTailDoorbell f q v) s fun e => e.get F.xQ_PROD.INDEX q = v % 2 ^ 32 ∧ e.rings.lastCmd = s.dev.tick
      ∧ (q.val < s.dev.rings.tails.length → (e.rings.tails.getD q []).head? = some (v % 2 ^ 32, s.dev.tick)))
  ∧ (∀ (s : State) (f : Fin 2) (q : Fin 16) (v : Nat), s.dev.live = true → s.dev.creditsOut = false → s.dev.bellTaken f (16 + q.val) = true →
      (v % 2 ^ 32 + 2 ^ 32 - s.dev.get F.xQ_CONS.INDEX (16 + q.val)) % 2 ^ 32
        ≤ (s.dev.get F.xQ_PROD.INDEX (16 + q.val) + 2 ^ 32 - s.dev.get F.xQ_CONS.INDEX (16 + q.val)) % 2 ^ 32 →
    After (.cplqHeadDoorbell f q v) s fun d => d.get F.xQ_CONS.INDEX (16 + q.val) = v % 2 ^ 32)
  ∧ (∀ (s : State) (f : Fin 2) (e : Fin 4) (v : Nat), s.dev.live = true → s.dev.creditsOut = false → s.dev.bellTaken f (32 + e.val) = true →
      (v % 2 ^ 32 + 2 ^ 32 - s.dev.get F.xQ_CONS.INDEX (32 + e.val)) % 2 ^ 32
        ≤ (s.dev.get F.xQ_PROD.INDEX (32 + e.val) + 2 ^ 32 - s.dev.get F.xQ_CONS.INDEX (32 + e.val)) % 2 ^ 32 →
    After (.evqHeadDoorbell f e v) s fun d => d.get F.xQ_CONS.INDEX (32 + e.val) = v % 2 ^ 32)
  ∧ (∀ (s : State) (f : Fin 2) (j : Fin 8) (v : Nat), s.dev.live = true → s.dev.creditsOut = false → s.dev.bellTaken f (36 + j.val) = true →
      (v % 2 ^ 32 + 2 ^ 32 - s.dev.get F.xQ_CONS.INDEX (36 + j.val)) % 2 ^ 32
        ≤ (s.dev.get F.xQ_PROD.INDEX (36 + j.val) + 2 ^ 32 - s.dev.get F.xQ_CONS.INDEX (36 + j.val)) % 2 ^ 32 →
    After (.strmHeadDoorbell f j v) s fun d => d.get F.xQ_CONS.INDEX (36 + j.val) = v % 2 ^ 32)
  ∧ (∀ (s : State) (q : Fin 16) (x : Fetch), s.dev.live = true → s.dev.mayTake q = true → s.dev.outranked q = false →
      s.dev.bit F.VP_LOG_STATUS.HOLDING = false → s.dev.freeSlots q ≠ 0 → x.error = false →
    After (.descriptorAdmission q x) s fun d => d.get F.xQ_CONS.INDEX q = (s.dev.get F.xQ_CONS.INDEX q + 1) % 2 ^ 32)
  ∧ (∀ (s : State) (r : Fin 44) (write : Bool), s.dev.live = true → s.dev.ringUp r = true → (write = true ∨ r.val < 16) →
    After (.ringHostError r write) s fun d => d.bit F.xQ_STATUS.FAULT r = true ∧ d.bit F.xQ_STATUS.ACTIVE r = false
      ∧ d.get F.xQ_STATUS.FAULT_CODE r = if write then 4 else 3)
  ∧ (∀ (s : State) (x : Nat), s.dev.live = true → s.dev.due .hostWd = some x → s.dev.ahead x = true →
    After .hostWdExpiry s fun d => d.bit F.HOST_WD.EXPIRED = true)
  ∧ (∀ (s : State) (f : Fin 2) (v : Fin 64) (x : Nat), s.dev.live = true → s.dev.due (.holdoff (64 * f.val + v.val)) = some x → s.dev.ahead x = true →
      64 * f.val + v.val ∈ s.dev.rings.collected → 64 * f.val + v.val ∉ s.dev.rings.masked →
      (unit s.dev.rings.fn f).msixOn = true → (unit s.dev.rings.fn f).msixMask = false →
    Leaves (.msixHoldoffExpiry f v) s fun e => e.out = .msix f v :: s.dev.out ∧ 64 * f.val + v.val ∉ e.rings.collected)
  ∧ (∀ (s : State) (j : Fin 8), s.dev.live = true → s.dev.ringUp (36 + j.val) = true →
      (s.dev.beat + 1) % max 1 (s.dev.get F.STRM_DEC.DECIM j) = 0 → s.dev.ringUsed (36 + j.val) < s.dev.ringSize (36 + j.val) →
      j.val < s.dev.rings.pages.length →
      (unit s.dev.rings.pages j).records.length + 1 < 4032 / (4 * (s.dev.get F.STRM_DEC.NSIG j + 1)) →
    After (.streamRecord j) s fun d => (unit d.rings.pages j).records.length = (unit s.dev.rings.pages j).records.length + 1)
  ∧ (∀ (s : State) (j : Fin 8) (x : Nat), s.dev.live = true → s.dev.due (.pageAge j) = some x → s.dev.ahead x = true → s.dev.ringUp (36 + j.val) = true →
      (unit s.dev.rings.pages j).records ≠ [] → j.val < s.dev.rings.pages.length →
    After (.streamPageAge j) s fun d => (unit d.rings.pages j).records = []
      ∧ (unit d.rings.pages j).seq = (unit s.dev.rings.pages j).seq + 1)


/-! ## Provenance, the safety commit, the Archive and the Registrar -/

/-- R160, R163, R164: a timed anchor, reading the log and acknowledging it.
R152 to R155: an image is staged and its CRC computed by both parts; CONFIRM with that CRC commits it; DISCARD drops it.
(The model's choices: notes 25, 48, 50, 51, 53.) -/
def Obligations.LogAndCommit : Prop :=
  (∀ s : State, s.dev.live = true → s.dev.prov.dirty = true → s.dev.ahead (s.dev.prov.anchorTick + 2 ^ 30) = true →
    Leaves .anchorTimed s fun e => e.prov.dirty = false ∧ e.tick = max s.dev.tick (s.dev.prov.anchorTick + 2 ^ 30)
      ∧ e.mram.eventRing.head? = some ⟨s.dev.get F.VP_LOG_HEAD.SEQ - 1, e.stamp, s.dev.prov.chain, s.dev.mram.boots, 1⟩)
  ∧ (∀ (s : State) (c : HostCmd), Ready 0x70 c s → arg2 c 2 < s.dev.get F.VP_LOG_HEAD.SEQ →
      (s.dev.prov.entries.any fun e => e.seq == arg2 c 2) = true →
    Leaves (.logRead c) s fun e => Completed e 0x70 0 c
      ∧ e.prov.reads = s.dev.prov.reads ++ [(c.func, arg2 c 0, arg2 c 2, min (arg c 4) (s.dev.get F.VP_LOG_HEAD.SEQ - arg2 c 2))])
  ∧ (∀ (s : State) (f addr first n : Nat) (r : List (Nat × Nat × Nat × Nat)), s.dev.live = true → s.dev.clk.lpddrAwake = true →
      s.dev.prov.reads = (f, addr, first, n) :: r →
    Leaves .logReadDone s fun e => e.prov.reads = r ∧ Out.logCopy f addr first n ∈ e.out)
  ∧ (∀ (s : State) (c : HostCmd), Ready 0x71 c s → s.dev.get F.VP_LOG_ACKED.SEQ ≤ arg2 c 0 → arg2 c 0 ≤ s.dev.get F.VP_LOG_HEAD.SEQ →
      s.dev.get F.VP_LOG_HEAD.SEQ + 1 < 2 ^ 64 → s.dev.prov.holdWrites = [] →
    After (.logAck c) s fun d => d.get F.VP_LOG_ACKED.SEQ = arg2 c 0)
  ∧ (∀ (s : State) (c : HostCmd) (b : List Nat), Ready 0x24 c s → c.payload = .bytes b →
    After (.safetyCommitStage c) s fun d => d.prov.staged = some b ∧ d.bit F.VP_SAFE_STAGE.STAGED = true
      ∧ d.bit F.VP_SAFE_STAGE.CRC_DONE = false ∧ d.due .safeCrc = some (max s.dev.tick (c.beat * 1024) + msT 5))
  ∧ (∀ (s : State) (b : List Nat) (faultC faultD : Nat), s.dev.live = true → s.dev.prov.staged = some b → s.dev.due .safeCrc ≠ none →
    After (.safetyCrcDone faultC faultD) s fun d => d.bit F.VP_SAFE_STAGE.CRC_DONE = true ∧ d.get F.VP_SAFE_CRC_C.CRC = (crc32 b ^^^ faultC) % 2 ^ 32
      ∧ d.get F.VP_SAFE_CRC_D.CRC = (crc32 b ^^^ faultD) % 2 ^ 32 ∧ d.due .safeCrc = none)
  ∧ (∀ (s : State) (c : HostCmd) (b : List Nat), Ready 0x24 c s → s.dev.prov.staged = some b → s.dev.bit F.VP_SAFE_STAGE.CRC_DONE = true →
      s.dev.get F.VP_SAFE_CRC_C.CRC = s.dev.get F.VP_SAFE_CRC_D.CRC → arg c 4 = s.dev.get F.VP_SAFE_CRC_C.CRC → safetyImageOk b = true →
    After (.safetyCommitConfirm c) s fun d => d.prov.staged = none ∧ d.bit F.VP_SAFE_STAGE.STAGED = false
      ∧ (∃ t, d.prov.safeWrite = some (t, b) ∧ t ≤ max s.dev.tick (c.beat * 1024) + msT 10) ∧ d.get F.VP_SAFE_IN_FORCE.CRC = arg c 4 ∧ d.prov.inForce = b.take 128)
  ∧ (∀ (s : State) (c : HostCmd), Ready 0x24 c s →
    After (.safetyCommitDiscard c) s fun d => d.prov.staged = none ∧ d.bit F.VP_SAFE_STAGE.STAGED = false
      ∧ d.get F.VP_SAFE_IN_FORCE.CRC = s.dev.get F.VP_SAFE_IN_FORCE.CRC ∧ (s.dev.prov.safeWrite = none → d.mram.safety = s.dev.mram.safety))
  ∧ (∀ (d : Dev) (t : Nat) (b : List Nat), d.prov.safeWrite = some (t, b) → t ≤ d.tick → d.mram.safety.length = 2 →
    d.safeFlush.prov.safeWrite = none
      ∧ ∃ x : MramSlot (List Nat), d.safeFlush.mram.safety.getD (mramSpare id d.mram.safety) none = some x ∧ x.good id = true ∧ x.body = b)

/-- R494, R496 to R499: the Archive's commands, its freeze, the end of a dump and a memory error.
R484, R489: a C2 incident ends when its merged sources are inactive; the ERR pair returns to healthy when no cause is left.
(The model's choices: notes 92, 110, 111, 113, 114.) -/
def Obligations.ArchiveAndIncidents : Prop :=
  (∀ (s : State) (c : HostCmd), Ready 0x68 c s → s.dev.get F.ARC_STATE.STATE = 1 →
    Leaves (.archiveTrigger c) s fun e => Completed e 0x68 0 c ∧ e.get F.ARC_STATE.STATE = 2 ∧ e.get F.ARC_STATE.CAUSE = 0x100)
  ∧ (∀ (s : State) (c : HostCmd), Ready 0x69 c s → s.dev.get F.ARC_STATE.STATE = 3 → s.dev.reg.dump = none → 0 < arg c 3 →
      arg c 2 + arg c 3 ≤ (if (arg c 4).testBit 0 then s.dev.get F.ARC_MARK_SEGS.SEGS else s.dev.get F.ARC_IMAGE_SEGS.SEGS) →
      s.dev.pwr.saveWin = false → s.dev.get F.LOAN_OP_COST.COST 6 ≤ s.dev.get F.LOAN_CHIP.BUDGET → s.dev.get F.LOAN_OP_WAIT.WAIT_MS 6 ≠ 0 →
    Leaves (.archiveDump c) s fun e => Completed e 0x69 0 c ∧ e.reg.dump = some (arg2 c 0, arg c 2, arg c 3, arg c 4 % 2))
  ∧ (∀ (s : State) (c : HostCmd), Ready 0x6A c s → s.dev.reg.dump = none → s.dev.get F.ARC_STATE.STATE = 3 ∨ s.dev.get F.ARC_STATE.STATE = 4 →
    Leaves (.archiveRelease c) s fun e => Completed e 0x6A 0 c ∧ e.get F.ARC_IMAGE_SEGS.SEGS = 0 ∧ e.reg.samples = []
      ∧ e.get F.ARC_STATE.STATE = if LINKED ≤ s.dev.st ∧ s.dev.st ≤ STOP then 1 else 0)
  ∧ (∀ (s : State) (x : Nat), s.dev.live = true → s.dev.due .freeze = some x → s.dev.ahead x = true → s.dev.get F.ARC_STATE.STATE = 2 →
    After .archiveFreeze s fun d => d.get F.ARC_FREEZES.COUNT = (s.dev.get F.ARC_FREEZES.COUNT + 1) % 2 ^ 64
      ∧ d.get F.ARC_IMAGE_SEGS.SEGS = min ((s.dev.reg.sampleBytes + 65503) / 65504) 245760
      ∧ d.get F.ARC_MARK_SEGS.SEGS = min ((s.dev.reg.markerBytes + 65503) / 65504) 4096)
  ∧ (∀ (s : State) (addr first n image : Nat) (outcome : Fin 4), s.dev.live = true → s.dev.reg.dump = some (addr, first, n, image) →
      s.dev.bit F.ARC_STATE.DUMPING = true → outcome ≠ 1 → s.dev.clk.lpddrAwake = true →
      s.dev.ahead (if outcome.val = 0 then s.dev.reg.dumpAt + (6553600 * n + max 1 (s.dev.get F.ARC_DUMP.MBPS) - 1) / max 1 (s.dev.get F.ARC_DUMP.MBPS)
        else s.dev.tick) = true →
    After (.arcDumpDone outcome) s fun d => d.bit F.ARC_STATE.DUMPING = false
      ∧ (outcome = 0 → d.get F.ARC_DUMPED.BYTES = 65536 * n % 2 ^ 64))
  ∧ (∀ (s : State) (ring : Fin 2) (segment : Nat), s.dev.live = true →
    Leaves (.arcMem ring segment) s fun e => e.get F.REG_SRC_COUNT.COUNT 198 = (s.dev.get F.REG_SRC_COUNT.COUNT 198 + 1) % 2 ^ 64)
  ∧ (∀ s : State, s.dev.live = true → s.dev.bit F.REG_INC.RUNNING = true → s.dev.get F.REG_INC.CLASS = 2 →
      (s.dev.reg.merged.all fun x => !s.dev.isActive x.1) = true →
      s.dev.ahead (s.dev.reg.lastMerge + max 1 (msT (s.dev.get F.REG_CTRL.C2_HOLD))) = true →
    Leaves .incidentEndC2 s fun e => e.bit F.REG_INC.RUNNING = false ∧ e.reg.derates = [] ∧ e.reg.merged = [])
  ∧ (∀ (s : State) (t : Nat), s.dev.live = true → s.dev.reg.errSince = some t → s.dev.errCause = 0 → s.dev.ahead (t + msT 1) = true →
    Leaves .errFaultHoldEnd s fun e => e.bit F.REG_ERR.P = true ∧ e.bit F.REG_ERR.N = false ∧ e.get F.REG_ERR.CAUSE = 0 ∧ e.reg.errSince = none)

/-- R128: the start of a beat with no command pending: the next beat whose start has not been processed, and its first tick.
(The model's choices: notes 2, 47.) -/
def Obligations.BeatStart : Prop :=
  ∀ (s : State) (i : SensedBeat), s.dev.live = true → s.dev.rings.pend = [] →
    After (.beatStart i) s fun d =>
      let b := if s.dev.phase = 0 ∧ s.dev.arr.beat ≠ some s.dev.beat then s.dev.beat else s.dev.beat + 1
      d.arr.beat = some b ∧ d.tick = 1024 * b


/-! ## Host commands -/

/-- R60, R87, R89, R95, R122: commands of the module: NOP, SLEEP, DEVICE_RESET, FW_UPDATE, KEY_ENROL and KEY_CHANGE.
(The model's choices: notes 7, 19, 23, 24, 46.) -/
def Obligations.ModuleCommands : Prop :=
  (∀ (s : State) (c : HostCmd), Ready 0x01 c s →
    Leaves (.nop c) s fun e => Completed e 0x01 0 c ∧ e.st = s.dev.st ∧ e.mram.keys = s.dev.mram.keys ∧ e.mram.fw = s.dev.mram.fw)
  ∧ (∀ (s : State) (c : HostCmd), Ready 0x10 c s → s.dev.sleepBusy = false →
    After (.sleep c) s fun d => d.pwr.asleep = true ∧ d.pwr.main = .off ∧ d.pwr.canStb = [true, true])
  ∧ (∀ (s : State) (c : HostCmd), Ready 0x11 c s →
    After (.deviceReset c) s fun d => d.pwr.main = .held ∧ d.pwr.cause = s.dev.pwr.cause ||| 2 ^ 6)
  ∧ (∀ (s : State) (c : HostCmd) (x : FwImage), Ready 0x12 c s → c.payload = .firmware x →
    After (.fwUpdate c) s fun d => d.mram.fw = s.dev.mram.fw.set (1 - s.dev.get F.GLB_BOOT.IMAGE) (some x))
  ∧ (∀ (s : State) (c : HostCmd) (k : List Nat), Ready 0x13 c s → c.payload = .key k → (s.dev.mram.keys.all fun x => x == .empty) = true →
    After (.keyEnrol c) s fun d => d.mram.keys = s.dev.mram.keys.set 0 (.digest (sha256 k)))
  ∧ (∀ (s : State) (c : HostCmd) (i j k : Nat), Ready 0x14 c s → (s.dev.mram.keys.getD i .empty).live = true →
    (c.payload = .keyChange (some i) (some (j, k)) none → s.dev.mram.keys.getD j .revoked = .empty →
      After (.keyChange c) s fun d => d.mram.keys = s.dev.mram.keys.set j (.digest k))
    ∧ (c.payload = .keyChange (some i) none (some j) →
      After (.keyChange c) s fun d => d.mram.keys = s.dev.mram.keys.set j .revoked))

/-- R96, R97, R101, R103: a Catalogue that passes every check is loaded; it is unloaded; the floor rises; STAGE_RETRY.
(The model's choices: notes 7, 46, 86, 89.) -/
def Obligations.CatalogueCommands : Prop :=
  (∀ (s : State) (c : HostCmd) (x : CatFile), Ready 0x20 c s → (arg c 3).testBit 0 = false → c.payload = .catalogue x → x.bytes.length = arg c 2 →
      (s.dev.atBeat 0x20 c).catCheck (arg c 2) (some (catalogueOf x)) = none →
    After (.catLoad c) s fun d => d.bit F.GLB_CAT.LOADED = true ∧ d.get F.GLB_CAT_ID.ID = leAt x.bytes 0xC 4 % 2 ^ 32
      ∧ d.get F.GLB_CAT_REV.REVISION = leAt x.bytes 0x10 4 % 2 ^ 32 ∧ d.prov.decl = some x.decl
      ∧ d.mram.active = 1 - s.dev.mram.active ∧ (s.dev.mram.cats.length = 2 → d.mram.cats.getD d.mram.active none = some x))
  ∧ (∀ (s : State) (c : HostCmd) (x : CatFile), Ready 0x20 c s → (arg c 3).testBit 0 = true → s.dev.mram.cats.getD s.dev.mram.active none = some x →
      (s.dev.atBeat 0x20 c).catCheck x.bytes.length (some (catalogueOf x)) = none →
    After (.catLoad c) s fun d => d.bit F.GLB_CAT.LOADED = true ∧ d.get F.GLB_CAT_ID.ID = leAt x.bytes 0xC 4 % 2 ^ 32
      ∧ d.prov.decl = some x.decl ∧ d.mram.cats = s.dev.mram.cats)
  ∧ (∀ (s : State) (c : HostCmd), Ready 0x21 c s →
    After (.catUnload c) s fun d => d.bit F.GLB_CAT.LOADED = false ∧ d.get F.GLB_CAT_ID.ID = 0 ∧ d.get F.GLB_CAT_REV.REVISION = 0 ∧ d.prov.decl = none)
  ∧ (∀ (s : State) (c : HostCmd), Ready 0x22 c s →
    After (.setFloor c) s fun d => d.mram.catFloor = max (s.dev.get F.GLB_CAT_FLOOR.FLOOR) (s.dev.get F.GLB_CAT_REV.REVISION)
      ∧ d.get F.GLB_CAT_FLOOR.FLOOR = max (s.dev.get F.GLB_CAT_FLOOR.FLOOR) (s.dev.get F.GLB_CAT_REV.REVISION) % 2 ^ 32)
  ∧ (∀ (s : State) (c : HostCmd), Ready 0x23 c s →
    Leaves (.stageRetry c) s fun e => Completed e 0x23 0 c ∧ ∀ k < 96, s.dev.bit F.LANE_STATUS.HELD k = true → e.bit F.LANE_STATUS.HELD k = false)

/-- R103, R104, R279, R516: START, STOP, RELEASE and LOCKOUT_RESET.
(The model's choices: notes 46, 90.) -/
def Obligations.EnergyCommands : Prop :=
  (∀ (s : State) (c : HostCmd), Ready 0x30 c s → s.dev.st = LINKED → s.dev.startCheck = none → s.dev.arr.starting = false → s.dev.pwr.saveWin = false →
      (∀ op ∈ [2, 4], s.dev.get F.LOAN_OP_COST.COST op ≤ s.dev.get F.LOAN_CHIP.BUDGET ∧ s.dev.get F.LOAN_OP_WAIT.WAIT_MS op ≠ 0) →
    Leaves (.start c) s fun e => Completed e 0x30 0 c ∧ e.arr.starting = true ∧ e.st = LINKED)
  ∧ (∀ (s : State) (c : HostCmd), Ready 0x30 c s → s.dev.st = LINKED → s.dev.arr.starting = true →
    Leaves (.start c) s fun e => Completed e 0x30 0 c ∧ e.arr.starting = true ∧ e.st = LINKED ∧ e.loans = s.dev.loans ∧ e.loanWait = s.dev.loanWait)
  ∧ (∀ (s : State) (c : HostCmd), Ready 0x30 c s → s.dev.st = STOP → s.dev.startCheck = none → (s.dev.atBeat 0x30 c).stillCharged = true →
    Leaves (.start c) s fun e => Completed e 0x30 0 c ∧ e.st = RUN ∧ e.arr.ramp = none ∧ e.arr.fastFrom = none)
  ∧ (∀ (s : State) (c : HostCmd), Ready 0x31 c s →
    Leaves (.stop c) s fun e => Completed e 0x31 0 c ∧ e.st = STOP
      ∧ e.arr.ramp = some (((s.dev.get F.ARR_LIMIT.IMPORT * 1000000 : Nat) : Int), ((s.dev.get F.ARR_LIMIT.EXPORT * 1000000 : Nat) : Int)))
  ∧ (∀ (s : State) (c : HostCmd), Ready 0x32 c s →
    Leaves (.release c) s fun e => Completed e 0x32 0 c ∧ e.st = LINKED ∧ e.arr.ramp = none ∧ e.arr.fastFrom = none)
  ∧ (∀ (s : State) (c : HostCmd), Ready 0x33 c s → (s.dev.atBeat 0x33 c).resetCheck = none → s.dev.get F.SAF_STATE.RESET_STEP = 0 →
    After (.lockoutReset c) s fun d => d.get F.SAF_STATE.RESET_STEP = 1
      ∧ d.due .resetWin = some (max s.dev.tick (c.beat * 1024) + s.dev.get F.SAF_GLOBAL.RESET_WIN * 100000000))

/-- R282, R261: what each item of ARRAY_SET sets, where it is admitted.
(The model's choices: notes 46, 74, 80.) -/
def Obligations.ArrayCommands : Prop :=
  ∀ (s : State) (c : HostCmd), Ready 0x40 c s →
    After (.arraySetVdl c) s (fun d => d.get F.ARR_VREF.VDL = arg c 1)
    ∧ After (.arraySetLimits c) s (fun d => d.get F.ARR_LIMIT.IMPORT = arg c 1 % 65536 ∧ d.get F.ARR_LIMIT.EXPORT = arg c 1 / 65536)
    ∧ (s.dev.st = LINKED ∨ s.dev.st = STOP → After (.arraySetVc c) s fun d => d.get F.ARR_VCREF.VC = arg c 1)
    ∧ (s.dev.dcSource = false → c.target < 6 → After (.arraySetIq c) s fun d => d.get F.ARR_STRING_RANK.I_Q c.target = arg c 1 % 65536)
    ∧ (s.dev.st = LINKED ∨ s.dev.st = STOP → c.target < 6 →
        After (.arraySetBalMode c) s fun d => d.get F.ARR_STRING_CFG.BAL_MODE c.target = arg c 1 % 2)
    ∧ (bitsAt (arg c 1) 8 4 ≤ s.dev.get F.ARR_CTRL.HOP_LAST →
        After (.arraySetHopping c) s fun d => d.get F.ARR_CTRL.HOP_BEATS = arg c 1 % 256 ∧ d.get F.ARR_CTRL.HOP_FIXED = bitsAt (arg c 1) 8 4)
    ∧ (s.dev.st = LINKED ∨ s.dev.st = STOP → s.dev.get F.GLB_ESAP.TICKS ≤ arg c 1 →
        After (.arraySetApplyPhase c) s fun d => d.get F.ARR_APPLY.PHASE = arg c 1 % 1024)

/-- R268, R269, R272, R283: a cell is bypassed on command, and a restore begins.
(The model's choices: notes 46, 70.) -/
def Obligations.CellCommands : Prop :=
  (∀ (s : State) (c : HostCmd), Ready 0x41 c s → c.target < 96 → s.dev.cellRole c.target ≠ 2 → s.dev.cellRole c.target ≠ 3 →
      (s.dev.st = RUN → s.dev.cellsOut (s.dev.strOf c.target) + b2n (s.dev.cellRole c.target == 1) ≤ s.dev.get F.ARR_STRING_CFG.K (s.dev.strOf c.target)) →
      s.dev.get F.LANE_CAP.BYPASS_KIND c.target ≠ 0 →
    After (.cellBypass c) s fun d => d.get F.CELL_STATUS.ROLE c.target = 2)
  ∧ (∀ (s : State) (c : HostCmd), Ready 0x42 c s → c.target < s.dev.cells.length → s.dev.cellRole c.target = 3 → s.dev.laneUp c.target = true →
    After (.cellRestore c) s fun d => (unit d.cells c.target).restoreAt = some (max s.dev.tick (c.beat * 1024) / 1024 + 3)
      ∧ d.get F.CELL_STATUS.ROLE c.target = 3)

/-- R302 to R304: what each item of SLOT_WRITE writes, and TABLE_WRITE.
(The model's choices: note 46.) -/
def Obligations.LoopCommands : Prop :=
  (∀ (s : State) (c : HostCmd), Ready 0x48 c s → c.target < 1024 →
    let p := c.p.map (· % 2 ^ 32)
    let ok := fun (item : Nat) => let d := s.dev.atBeat 0x48 c; d.slotCheck (d.slotPut c.target item p) c.target item p = none
    let one := fun (d : Dev) => d.get F.LE_UPDATES.COUNT = (s.dev.get F.LE_UPDATES.COUNT + 1) % 2 ^ 64
    (ok 1 → After (.slotWriteCoefficients c) s fun d => one d ∧ (∀ j < 4, d.get F.SLOT_B.B c.target j = arg c (j + 1))
        ∧ ∀ j < 3, d.get F.SLOT_A.A c.target j = arg c (j + 5))
    ∧ (ok 2 → After (.slotWriteLimits c) s fun d => one d ∧ d.get F.SLOT_YMIN.YMIN c.target = arg c 1 ∧ d.get F.SLOT_YMAX.YMAX c.target = arg c 2)
    ∧ (ok 3 → After (.slotWriteInputs c) s fun d => one d ∧ d.get F.SLOT_K_IN.K_IN c.target = arg c 1 ∧ d.get F.SLOT_REF.REF c.target = arg c 2
        ∧ d.get F.SLOT_SRC.SRC_A c.target = arg c 3 % 4 ∧ d.get F.SLOT_SRC.SRC_B c.target = arg c 3 / 4 % 4
        ∧ d.get F.SLOT_SRC.IDX_A c.target = arg c 3 / 16 % 1024 ∧ d.get F.SLOT_SRC.IDX_B c.target = arg c 3 / 2 ^ 14 % 1024)
    ∧ (ok 4 → After (.slotWriteFeedForward c) s fun d => one d ∧ d.get F.SLOT_FF_GAIN.FF_GAIN c.target = arg c 1
        ∧ d.get F.SLOT_CFG.FF_EN c.target = arg c 2 % 2 ∧ d.get F.SLOT_CFG.FF_TABLE c.target = arg c 2 / 2 % 4)
    ∧ (ok 5 → After (.slotWriteHistoryPreset c) s fun d => one d ∧ ∀ j < 3, d.get F.SLOT_Y.Y c.target j = arg c 1 ∧ d.get F.SLOT_E.E c.target j = 0)
    ∧ (ok 6 → After (.slotWriteConfiguration c) s fun d => one d ∧ d.get F.SLOT_CFG.EN c.target = arg c 1 % 2 ∧ d.get F.SLOT_CFG.ORDER c.target = arg c 1 / 2 % 2
        ∧ d.get F.SLOT_CFG.AW c.target = arg c 1 / 4 % 2 ∧ d.get F.SLOT_CFG.FF_EN c.target = arg c 1 / 8 % 2
        ∧ d.get F.SLOT_CFG.MEMBERS c.target = arg c 1 / 64 % 8 ∧ d.get F.SLOT_CFG.RELEASE c.target = arg c 1 / 2 ^ 16 % 1024)
    ∧ (ok 7 → After (.slotWriteInputScale c) s fun d => one d ∧ d.get F.SLOT_K_IN.K_IN c.target = arg c 1))
  ∧ (∀ (s : State) (c : HostCmd) (ws : List Nat), Ready 0x49 c s → c.target < 4 → c.payload = .words ws →
    After (.tableWrite c) s fun d => d.get F.LE_UPDATES.COUNT = (s.dev.get F.LE_UPDATES.COUNT + 1) % 2 ^ 64
      ∧ ∀ i < min ws.length (arg c 1), arg c 0 % 4096 + i < 4096 → d.get F.LE_T.ENTRY c.target (arg c 0 % 4096 + i) = ws.getD i 0 % 2 ^ 32)

/-- R348, R349, R354, R355: OUTPUT_SET and GROUP_ENABLE.
(The model's choices: notes 46, 95, 96.) -/
def Obligations.OutputCommands : Prop :=
  (∀ (s : State) (c : HostCmd), Ready 0x50 c s → c.target < 2 →
    After (.outputSetVSet c) s (fun d => d.get F.GRP_VSET.VSET c.target = arg c 1)
    ∧ (max (arg c 1 % 65536) (arg c 1 / 65536) ≤ s.dev.get F.GRP_IMAX.I_MAX c.target →
        After (.outputSetIset c) s fun d => d.get F.GRP_ISET.FWD c.target = arg c 1 % 65536 ∧ d.get F.GRP_ISET.REV c.target = arg c 1 / 65536)
    ∧ After (.outputSetEnables c) s (fun d => d.get F.GRP_SHED.SHED_EN c.target = arg c 1 % 2 ∧ d.get F.GRP_SHED.BURST_EN c.target = arg c 1 / 2 % 2)
    ∧ After (.outputSetTrunc c) s (fun d => d.get F.GRP_TRUNC.TRUNC c.target = arg c 1 % 65536))
  ∧ (∀ (s : State) (c : HostCmd), Ready 0x51 c s → c.target < 2 → s.dev.grpSenseLost c.target = false → s.dev.get F.GRP_STATUS.STATE c.target = 0 →
      s.dev.pwr.saveWin = false → s.dev.get F.LOAN_OP_COST.COST 9 ≤ s.dev.get F.LOAN_SITE.BUDGET → s.dev.get F.LOAN_OP_WAIT.WAIT_MS 9 ≠ 0 →
    Leaves (.groupEnable c) s fun e => Completed e 0x51 0 c ∧ e.get F.GRP_STATUS.STATE c.target = 1)
  ∧ (∀ (s : State) (c : HostCmd), Ready 0x51 c s → c.target < 2 → 2 ≤ s.dev.get F.GRP_STATUS.STATE c.target → s.dev.get F.GRP_STATUS.STATE c.target ≤ 4 →
    Leaves (.groupDisable c) s fun e => Completed e 0x51 0 c ∧ e.get F.GRP_STATUS.STATE c.target = 5)

/-- R409, R412, R413: the items of COLLECTOR_MOVE: each move sets its target, HOLD takes the stop profile, DRIVE_OFF brakes.
(The model's choices: notes 46, 97.) -/
def Obligations.CollectorCommands : Prop :=
  (∀ (s : State) (c : HostCmd), Ready 0x58 c s → (s.dev.atBeat 0x58 c).colCheck 1 (toS 32 (arg c 1)) = none →
    After (.moveTo c) s fun d => d.get F.COL_TARGET.TARGET = arg c 1)
  ∧ (∀ (s : State) (c : HostCmd), Ready 0x58 c s → (s.dev.atBeat 0x58 c).colCheck 2 (toS 32 (arg c 1)) = none →
    After (.track c) s fun d => d.get F.COL_TARGET.TARGET = arg c 1)
  ∧ (∀ (s : State) (c : HostCmd), Ready 0x58 c s → (s.dev.atBeat 0x58 c).colCheck 6 (s.dev.getS F.COL_SAFE_POS.POS) = none →
    After (.park c) s fun d => d.getS F.COL_TARGET.TARGET = s.dev.getS F.COL_SAFE_POS.POS)
  ∧ (∀ (s : State) (c : HostCmd), Ready 0x58 c s → arg c 1 < 2 → (s.dev.atBeat 0x58 c).colCheck 5 (s.dev.getS F.COL_TARGET.TARGET) = none →
    After (.home c) s fun d => d.getS F.COL_TARGET.TARGET = if arg c 1 = 0 then 2 ^ 31 - 1 else -(2 ^ 31))
  ∧ (∀ (s : State) (c : HostCmd), Ready 0x58 c s → (s.dev.atBeat 0x58 c).colCheck 3 (s.dev.getS F.COL_TARGET.TARGET) = none →
      1 ≤ s.dev.get F.COL_STATUS.STATE → s.dev.get F.COL_STATUS.STATE ≤ 5 →
    Leaves (.hold c) s fun e => Completed e 0x58 0 c ∧ e.col.stopping = true)
  ∧ (∀ (s : State) (c : HostCmd), Ready 0x58 c s → (s.dev.atBeat 0x58 c).colCheck 4 (s.dev.getS F.COL_TARGET.TARGET) = none → s.dev.colMoving = true →
    Leaves (.driveOff c) s fun e => Completed e 0x58 0 c ∧ e.get F.COL_STATUS.STATE = 6)


/-! ## Output stage, PWM and gate channels -/

/-- R336, R361 to R365: shadow writes, period boundaries, compares and the end of dead time.
R339, R343, R348, R352: truncation, the brake, the end of a burst sleep, and a soft-start that has not ended in time.
(The model's choices: notes 93, 95, 96.) -/
def Obligations.PwmAndOutputEvents : Prop :=
  (∀ (s : State) (g : Fin 2), s.dev.live = true → s.dev.phasesOf g ≠ [] → s.dev.energy = true →
      s.dev.ahead (s.dev.tick + ((s.dev.get F.SLOT_CFG.RELEASE (s.dev.get F.GRP_SLOTS.ISLOT g) + 2) % 1024 + 1024 - s.dev.phase) % 1024) = true →
    After (.osShadowWrite g) s fun d => ∀ k ∈ s.dev.phIn g 1, 2 * k < s.dev.pwm.length → (unit d.pwm (2 * k)).shPeriod = s.dev.get F.GRP_PERIOD.PERIOD g)
  ∧ (∀ (s : State) (c : Fin 32) (i : PhaseMean), s.dev.live = true → (unit s.dev.pwm c).length ≠ 0 → ¬ (c.val % 2 = 1 ∧ s.dev.partner c ≠ none) →
      (s.dev.stageOf c = 0 → (unit s.dev.phases (c.val / 2)).ending = false) →
    After (.pwmPeriodBoundary c i) s fun d => d.get F.PW_PERIOD.PERIOD c = (unit s.dev.pwm c).shPeriod % 2 ^ 21
      ∧ (s.dev.stageOf c ≠ 2 → d.get F.PW_PHASE.OFFSET c = (unit s.dev.pwm c).shOffset % 2 ^ 26))
  ∧ (∀ (s : State) (c : Fin 32) (i : PhaseMean), s.dev.live = true → (unit s.dev.pwm c).length ≠ 0 → ¬ (c.val % 2 = 1 ∧ s.dev.partner c ≠ none) →
      s.dev.stageOf c = 0 → (unit s.dev.phases (c.val / 2)).ending = true →
    After (.pwmPeriodBoundary c i) s fun d => (unit d.pwm c).length = 0 ∧ (unit d.phases (c.val / 2)).ending = false)
  ∧ (∀ (s : State) (c : Fin 32), s.dev.live = true → (unit s.dev.pwm c).cmpDone = false → fullDuty (s.dev.get F.PW_CMP.CMP c) (unit s.dev.pwm c).length = false →
    After (.pwmCompare c) s fun d => (unit d.pwm c).cmpDone = true)
  ∧ (∀ (s : State) (c : Fin 32) (x : Nat), s.dev.live = true → s.dev.due (.dead (c.val / 2 * 2)) = some x → s.dev.ahead x = true →
    Leaves (.deadTimeEnd c) s fun e => e.bit F.PW_STATUS.DEAD (c.val / 2 * 2) = false ∧ e.bit F.PW_STATUS.DEAD (c.val / 2 * 2 + 1) = false)
  ∧ (∀ (s : State) (g : Fin 2) (code : Nat), s.dev.live = true → 2 ≤ s.dev.get F.GRP_STATUS.STATE g → s.dev.get F.GRP_STATUS.STATE g ≤ 5 →
      0 ≤ s.dev.iRef g →
    After (.osTruncation g code) s fun d => ∀ k ∈ s.dev.phIn g 1, 2 * k < s.dev.pwm.length → (unit s.dev.phases k).trunc ≠ 0 →
      (((unit s.dev.phases k).trunc : Nat) : Rat) / 10 ≤ s.dev.snsVal (voIn g) ((code : Nat) : Rat) - (unit s.dev.groups g).vref →
      (unit d.pwm (2 * k)).cut = true)
  ∧ (∀ (s : State) (code : Nat), s.dev.live = true → s.dev.bit F.OS_STATUS.BRAKE_ARMED = true → s.dev.bit F.OS_STATUS.BRAKE_ON = false →
      s.dev.pwBlocked 24 = false → (∀ c ∈ [24, 25], s.dev.bit F.GD_STATUS.T_ACTIVE (s.dev.gateOf c) = false) →
      ((s.dev.get F.OS_BRAKE.ON_V : Nat) : Rat) ≤ s.dev.snsVal 14 ((code : Nat) : Rat) →
    Leaves (.brakeDecision code) s fun e => e.bit F.OS_STATUS.BRAKE_ON = true
      ∧ e.get F.OS_BRAKE_COUNT.COUNT = (s.dev.get F.OS_BRAKE_COUNT.COUNT + 1) % 2 ^ 64)
  ∧ (∀ (s : State) (g : Fin 2) (code : Nat), s.dev.live = true → s.dev.get F.GRP_STATUS.STATE g = 4 → s.dev.bit F.GRP_STATUS.BURST_SLEEP g = true →
      s.dev.get F.GRP_BURST_V.SLEEP_MAX g ≤ (unit s.dev.groups g).sleepBeats →
    Leaves (.osBurstWake g code) s fun e => e.bit F.GRP_STATUS.BURST_SLEEP g = false)
  ∧ (∀ (s : State) (g : Fin 2) (x : Nat), s.dev.live = true → s.dev.due (.ssMax g) = some x → s.dev.ahead x = true → s.dev.get F.GRP_STATUS.STATE g = 2 →
    After (.osSsTimeout g) s fun d => ∀ k ∈ s.dev.phasesOf g, (unit d.pwm (2 * k)).length = 0)

/-- R370, R371, R374: a trip acts unless a blanking window is open, the window's end, XTRIP, and the OFF step of a soft-off.
R100, R382, R383, R384, R386, R388: the status carrier of a channel, its loss, a bootstrap supply not proven, and a Hall change.
(The model's choices: notes 71, 94.) -/
def Obligations.TripsAndCarriers : Prop :=
  ((∀ (s : State) (x : Fin 32) (instant c : Nat), s.dev.live = true → s.dev.chanOf x = some c → s.dev.bit F.GD_CFG.DECLARED x = true →
      s.dev.get F.PW_STATUS.LEVEL c ≠ 0 →
    (s.dev.due (.blank x) = none → s.dev.bit F.GD_STATUS.PENDING x = false →
      After (.gdTrip x ⟨true, instant⟩) s fun d => d.bit F.GD_STATUS.TRIP x = true ∧ d.bit F.GD_STATUS.T_ACTIVE x = true
        ∧ d.get F.GD_TRIP_COUNT.COUNT x = (s.dev.get F.GD_TRIP_COUNT.COUNT x + 1) % 2 ^ 64 ∧ d.get F.GD_TRIP_TICK.TICK x = s.dev.stampAt instant / 64 % 2 ^ 58)
    ∧ (∀ t, s.dev.due (.blank x) = some t → max s.dev.tick (instant / 64 + s.dev.osTicks (s.dev.get F.GD_CFG.T_FILT x)) < t →
      Leaves (.gdTrip x ⟨true, instant⟩) s fun e => e.bit F.GD_STATUS.PENDING x = true ∧ e.bit F.GD_STATUS.TRIP x = s.dev.bit F.GD_STATUS.TRIP x))
  ∧ (∀ (s : State) (x : Fin 32) (instant : Nat), s.dev.live = true →
    After (.gdTrip x ⟨false, instant⟩) s fun d => d.bit F.GD_STATUS.T_ACTIVE x = false ∧ d.tick = max s.dev.tick (instant / 64))
  ∧ (∀ (s : State) (x : Fin 32) (active : Bool) (t : Nat), s.dev.live = true → s.dev.due (.blank x) = some t → s.dev.ahead t = true →
    After (.blankingEnd x active) s fun d => d.bit F.GD_STATUS.T_ACTIVE x = active
      ∧ (s.dev.bit F.GD_STATUS.PENDING x = true → active = true → d.bit F.GD_STATUS.TRIP x = true)
      ∧ (s.dev.bit F.GD_STATUS.PENDING x = true → active = false → d.get F.GD_BLANKED.COUNT x = min (2 ^ 32 - 1) (s.dev.get F.GD_BLANKED.COUNT x + 1)))
  ∧ (∀ (s : State) (n : Fin 4) (instant : Nat), s.dev.live = true →
    After (.xtrip n ⟨true, instant⟩) s (fun d => d.bit F.XTRIP_CFG.ACTIVE n = true
      ∧ d.bit F.XTRIP_CFG.TRIP n = (s.dev.bit F.XTRIP_CFG.EN n || s.dev.bit F.XTRIP_CFG.TRIP n))
    ∧ After (.xtrip n ⟨false, instant⟩) s (fun d => d.bit F.XTRIP_CFG.ACTIVE n = false ∧ d.bit F.XTRIP_CFG.TRIP n = s.dev.bit F.XTRIP_CFG.TRIP n))
  ∧ (∀ (s : State) (c : Fin 32) (x : Nat), s.dev.live = true → s.dev.due (.softOff c) = some x → s.dev.ahead x = true →
    Leaves (.softOffStep c) s fun e => e.get F.PW_STATUS.LEVEL c = 0))
  ∧ ((∀ (s : State) (x : Fin 32) (period : Nat) (f : FrameHigh), s.dev.live = true → s.dev.bit F.GD_CFG.DECLARED x = false →
    Leaves (.statusCarrierFrame x period f) s fun e => e.tick = max s.dev.tick f.end_ ∧ (x.val, f.end_) ∈ e.os.undeclared)
  ∧ (∀ (s : State) (x : Fin 32) (period : Nat) (f : FrameHigh), s.dev.live = true → s.dev.bit F.GD_CFG.DECLARED x = true →
    let high := f.ticks
    (period < 800 ∨ 1200 < period →
      After (.statusCarrierFrame x period f) s fun d => d.get F.GD_FRAME_ERR.COUNT x = (s.dev.get F.GD_FRAME_ERR.COUNT x + 1) % 2 ^ 64
        ∧ (unit d.gates x).good = 0)
    ∧ (800 ≤ period → period ≤ 1200 → 512 ≤ 4096 * high / period → 4096 * high / period ≤ 1791 → (unit s.dev.gates x).band ≠ 1 →
      After (.statusCarrierFrame x period f) s fun d => d.get F.GD_SUPPLY.VPOS x = 5000 + 20 * (4096 * high / period - 512))
    ∧ (800 ≤ period → period ≤ 1200 → 2304 ≤ 4096 * high / period → 4096 * high / period ≤ 3583 → (unit s.dev.gates x).band ≠ 2 →
      After (.statusCarrierFrame x period f) s fun d => d.get F.GD_SUPPLY.VNEG x = 10 * (4096 * high / period - 2304)))
  ∧ (∀ (s : State) (x : Fin 32) (t : Nat), s.dev.live = true → s.dev.due (.carrier x) = some t → s.dev.ahead t = true → s.dev.bit F.GD_CFG.DECLARED x = true →
      x.val < s.dev.gates.length →
    After (.carrierLost x) s fun d => d.bit F.GD_STATUS.CARRIER_LOST x = true ∧ (unit d.gates x).lostNow = true)
  ∧ (∀ (s : State) (x : Fin 32) (t c : Nat), s.dev.live = true → s.dev.due (.proof x) = some t → s.dev.ahead t = true → s.dev.bit F.GD_STATUS.UNPROVEN x = true →
      s.dev.energy = true → s.dev.chanOf x = some c → x.val < s.dev.gates.length →
    After (.bootstrapProofTimeout x) s fun d => (unit d.gates x).bridge = true)
  ∧ (∀ (s : State) (h : HallRun), s.dev.live = true → s.dev.get F.HALL_STATUS.STATE ≠ h.state →
    (max 1 (s.dev.get F.HALL_CFG.FILT) ≤ h.samples →
      After (.hallChange h) s fun d => d.get F.HALL_STATUS.STATE = h.state ∧ d.os.hallTick = s.dev.tick)
    ∧ (h.samples < max 1 (s.dev.get F.HALL_CFG.FILT) →
      After (.hallChange h) s fun d => d.get F.HALL_STATUS.STATE = s.dev.get F.HALL_STATUS.STATE ∧ d.os.hallTick = s.dev.os.hallTick)))


/-! ## Collector servo -/

/-- R398 to R402, R404, R405, R409: encoder edges and indices, collected reversals, SSI frames, the drive handed over, and the end of braking.
(The model's choices: notes 97, 98.) -/
def Obligations.CollectorEvents : Prop :=
  (∀ (s : State) (n : Fin 2) (a b : Bool) (instant : Nat), s.dev.live = true → s.dev.encOn n = false →
    After (.encoderEdge n a b instant) s fun d => d.get F.ENC_STATUS.LEVELS n = (b2n a + 2 * b2n b + s.dev.get F.ENC_STATUS.LEVELS n / 4 * 4) % 8
      ∧ d.get F.ENC_COUNT.COUNT n = s.dev.get F.ENC_COUNT.COUNT n)
  ∧ (∀ (s : State) (n : Fin 2) (a b : Bool) (instant : Nat), s.dev.live = true → s.dev.encOn n = true →
    let a0 := (s.dev.get F.ENC_STATUS.LEVELS n).testBit 0
    let b0 := (s.dev.get F.ENC_STATUS.LEVELS n).testBit 1
    let up := (if a ≠ a0 then a != b else a == b) != s.dev.bit F.ENC_CFG.INV n
    (¬ (a ≠ a0 ↔ b ≠ b0) →
      After (.encoderEdge n a b instant) s fun d => d.bit F.ENC_STATUS.DIR n = !up
        ∧ d.get F.ENC_COUNT.COUNT n = (s.dev.get F.ENC_COUNT.COUNT n + (if up then 1 else 2 ^ 32 - 1)) % 2 ^ 32)
    ∧ (a ≠ a0 → b ≠ b0 →
      After (.encoderEdge n a b instant) s fun d => d.get F.ENC_COUNT.COUNT n = s.dev.get F.ENC_COUNT.COUNT n
        ∧ d.bit F.ENC_STATUS.EDGE_OVR n = true ∧ d.get F.ENC_OVR_COUNT.COUNT n = (s.dev.get F.ENC_OVR_COUNT.COUNT n + 1) % 2 ^ 64))
  ∧ (∀ (s : State) (n : Fin 2) (z : Bool), s.dev.live = true → s.dev.encOn n = true → z ≠ (s.dev.get F.ENC_STATUS.LEVELS n).testBit 2 →
      z ≠ s.dev.bit F.ENC_STATUS.DIR n →
    After (.encoderIndex n z) s fun d => d.get F.ENC_IDX.LATCH n = s.dev.get F.ENC_COUNT.COUNT n % 2 ^ 32 ∧ d.bit F.ENC_STATUS.IDX_SEEN n = true)
  ∧ (∀ (s : State) (n : Fin 2) (x : Nat), s.dev.live = true → s.dev.due (.reversal n) = some x → s.dev.ahead x = true →
    After (.colReversal n) s fun d => (unit d.enc n).revs = 0)
  ∧ (∀ (s : State) (x : SsiFrame), s.dev.live = true → s.dev.get F.COL_CFG.ENC2_MODE = 2 →
    let good := s.dev.ssiGood x
    (good = false →
      After (.ssiFrame x) s fun d => d.bit F.SSI_STATUS.LAST_OK = false ∧ d.get F.SSI_ERR_COUNT.COUNT = (s.dev.get F.SSI_ERR_COUNT.COUNT + 1) % 2 ^ 64)
    ∧ (good = true →
      After (.ssiFrame x) s fun d => d.bit F.SSI_STATUS.LAST_OK = true
        ∧ (s.dev.bit F.SSI_CFG.GRAY = false → d.get F.SSI_VALUE.VALUE = s.dev.ssiData x % 2 ^ 32)))
  ∧ (∀ s : State, s.dev.live = true → s.dev.get F.COL_CFG.KIND ≠ 0 → s.dev.slotRuns (s.dev.get F.COL_SLOTS.SPD) = true →
      s.dev.ahead (s.dev.tick + ((s.dev.get F.SLOT_CFG.RELEASE (s.dev.get F.COL_SLOTS.SPD) + 2) % 1024 + 1024 - s.dev.phase) % 1024) = true →
    After .collectorDriveHandover s fun d => ∀ c ∈ [26, 28, 30], c < s.dev.pwm.length →
      (unit d.pwm c).shPeriod = s.dev.get F.COL_DRIVE.PERIOD)
  ∧ (∀ (s : State) (x : Nat), s.dev.live = true → s.dev.due .brake = some x → s.dev.ahead x = true → s.dev.get F.COL_STATUS.STATE = 6 →
    Leaves .colBrakeEnd s fun e => e.get F.COL_STATUS.STATE = 0)


/-! ## Safety island and housekeeping -/

/-- R502, R504, R510, R511: what a part recognises on a safety input, the end of a discrepancy window, of a DELAY, and of a fault's condition.
(The model's choices: note 99.) -/
def Obligations.SafetyInputs : Prop :=
  (∀ (s : State) (part : Fin 2) (n : Fin 8) (ch : Fin 2) (r : LevelRun), s.dev.live = true → part.val < s.dev.saf.pairs.length →
      n.val < (unit s.dev.saf.pairs part).length →
    After (.safetyInputChange part n ch r) s fun d =>
      if s.dev.recognised part n r.high r.samples = true then (if ch = 0 then (d.pairAt part n).a else (d.pairAt part n).b) = r.high
      else d.saf.pairs = s.dev.saf.pairs)
  ∧ (∀ (s : State) (part : Fin 2) (n : Fin 8) (x : Nat), s.dev.live = true → s.dev.due (.disc part n) = some x → s.dev.ahead x = true →
    After (.discrepancyTimeout part n) s fun d => (d.pairAt part n).window = none)
  ∧ (∀ (s : State) (part : Fin 2) (n : Fin 8) (x : Nat), s.dev.live = true → s.dev.due (.delayOff part n) = some x → s.dev.ahead x = true →
    After (.delayedOffExpiry part n) s fun d => (d.pairAt part n).delayed = false)
  ∧ (∀ (s : State) (n : Fin 8) (x : Nat), s.dev.live = true → s.dev.due (.safeClear n) = some x → s.dev.ahead x = true →
    After (.safetyFaultClear n) s fun d => (d.pairAt 0 n).cond = false ∧ (d.pairAt 1 n).cond = false)

/-- R506, R508, R513: the outputs energise; a failed diagnostic or off-pulse test makes a part unhealthy; a half-period of SAFE_LOOP.
R490, R515: the Registrar fails: the Detent acts as for class C5.
R516, R517: the steps of the lock-out reset: the press, the release that clears the latch, and what closes the window without a reset.
(The model's choices: notes 30, 99.) -/
def Obligations.SafetyOutputsAndReset : Prop :=
  ((∀ s : State, s.dev.live = true → s.dev.sdoOk 0 = true → s.dev.sdoOk 1 = true → (s.dev.bit F.SAF_STATE.SDO_C && s.dev.bit F.SAF_STATE.SDO_D) = false →
    Leaves .sdoEnergise s fun e => e.bit F.SAF_STATE.SDO_C = true ∧ e.bit F.SAF_STATE.SDO_D = true
      ∧ e.bit F.SAF_STATE.RB_C = s.dev.pwr.vsdoOk ∧ e.bit F.SAF_STATE.RB_D = s.dev.pwr.vsdoOk)
  ∧ (∀ (s : State) (x : Diag), s.dev.live = true →
    After (.safetyDiagFail x) s fun d => match x with
      | .lockstep => d.bit F.SAF_STATE.CURATOR_OK = false ∧ d.saf.permit = false
      | .permit => d.bit F.SAF_STATE.DETENT_OK = false ∧ d.saf.permit = false
      | .clock | .loop => d.bit F.SAF_STATE.DETENT_OK = false
      | .disagree n => ∀ t, s.dev.saf.diffAt.getD n none = some t → s.dev.bit F.SAF_PAIR_CFG.DECLARED n = true →
          s.dev.ahead (t + msT 2) = true → d.bit F.SAF_STATE.CURATOR_OK = false ∧ d.bit F.SAF_STATE.DETENT_OK = false ∧ d.tick = max s.dev.tick (t + msT 2)
      | .readback p _ => if p = 0 then d.bit F.SAF_STATE.CURATOR_OK = false else d.bit F.SAF_STATE.DETENT_OK = false
      | .paramCrc p v => v ≠ s.dev.get F.VP_SAFE_IN_FORCE.CRC →
          if p = 0 then d.bit F.SAF_STATE.CURATOR_OK = false else d.bit F.SAF_STATE.DETENT_OK = false)
  ∧ (∀ (s : State) (o : Fin 2) (volts x : Nat) (tenths : Fin 10), s.dev.live = true → s.dev.due (.offPulse o) = some x → s.dev.ahead x = true →
    After (.sdoOffPulseTest o volts tenths) s fun d => d.tick = max s.dev.tick x ∧ d.due (.offPulse o) = some (max s.dev.tick x + msT 10000)
      ∧ (s.dev.bit F.SAF_GLOBAL.SDO_TEST = true → (if o = 0 then s.dev.bit F.SAF_STATE.SDO_C else s.dev.bit F.SAF_STATE.SDO_D) = true → 1 ≤ volts →
        if o = 0 then d.bit F.SAF_STATE.CURATOR_OK = false else d.bit F.SAF_STATE.DETENT_OK = false))
  ∧ (∀ (s : State) (x : Nat), s.dev.live = true → s.dev.due .loopEdge = some x → s.dev.ahead x = true →
    Leaves (.safeLoopEdge (!s.dev.pwr.loopLevel)) s (fun e => e.pwr.loopLevel = !s.dev.pwr.loopLevel ∧ e.due .loopEdge = some (max s.dev.tick x + 6250))
    ∧ After (.safeLoopEdge s.dev.pwr.loopLevel) s (fun d => d.bit F.SAF_STATE.DETENT_OK = false)))
  ∧ ((∀ s : State, s.dev.live = true → s.dev.ahead (s.dev.tick + usT 10) = true →
    Leaves .registrarHeartbeatLost s fun e => e.pwr.regSelf = some 2 ∧ e.bit F.SAF_STATE.LATCHED = true
      ∧ e.bit F.SAF_STATE.SDO_C = false ∧ e.bit F.SAF_STATE.SDO_D = false ∧ (s.dev.pwr.testEn = false →
        if (e.pwm.any fun p => p.offAt.isSome) = true then e.saf.lockDue ≠ none else e.st = LOCKOUT))
  ∧ (∀ s : State, s.dev.live = true → Leaves .registrarMemoryError s fun e => e.bit F.SAF_STATE.LATCHED = true))
  ∧ (∀ (s : State) (apart w : Nat), s.dev.live = true → s.dev.get F.SAF_STATE.RESET_STEP = 1 → s.dev.due .resetWin = some w →
    After (.lorPress apart) s fun d => if s.dev.tick < w ∧ apart ≤ msT 100 then d.get F.SAF_STATE.RESET_STEP = 2 ∧ d.saf.pressAt = some s.dev.tick
      else d.get F.SAF_STATE.RESET_STEP = 0)
  ∧ (∀ (s : State) (held p w : Nat), s.dev.live = true → s.dev.get F.SAF_STATE.RESET_STEP = 2 → s.dev.saf.pressAt = some p → s.dev.due .resetWin = some w →
      max s.dev.tick (p + held) < w → s.dev.st = LOCKOUT → s.dev.ahead (p + held) = true →
    (msT 100 ≤ held → held ≤ msT 5000 → (s.dev.until (p + held)).resetCheck = none →
      After (.lorRelease held) s fun d => d.get F.SAF_STATE.RESET_STEP = 0 ∧ d.get F.SAF_RESETS.COUNT = (s.dev.get F.SAF_RESETS.COUNT + 1) % 2 ^ 64
        ∧ d.saf.pressAt = none)
    ∧ (held < msT 100 ∨ msT 5000 < held →
      After (.lorRelease held) s fun d => d.get F.SAF_STATE.RESET_STEP = 0 ∧ d.get F.SAF_RESETS.COUNT = s.dev.get F.SAF_RESETS.COUNT))
  ∧ (∀ s : State, s.dev.live = true →
    (s.dev.get F.SAF_STATE.RESET_STEP = 2 → s.dev.ahead (s.dev.saf.pressAt.getD s.dev.tick + msT 5000 + 1) = true →
      After (.lorHoldTimeout 1) s fun d => d.get F.SAF_STATE.RESET_STEP = 0)
    ∧ (s.dev.get F.SAF_STATE.RESET_STEP ≠ 0 → s.dev.ahead (s.dev.tick + msT 100) = true → After (.lorHoldTimeout 0) s fun d => d.get F.SAF_STATE.RESET_STEP = 0)
    ∧ (s.dev.get F.SAF_STATE.RESET_STEP ≠ 0 → s.dev.ahead (s.dev.tick + msT 100) = true → After (.lorHoldTimeout 3) s fun d => d.get F.SAF_STATE.RESET_STEP = 0))
  ∧ (∀ (s : State) (x : Nat), s.dev.live = true → s.dev.due .resetWin = some x → s.dev.ahead x = true →
    After .resetWindowExpiry s fun d => d.get F.SAF_STATE.RESET_STEP = 0)

/-- R524, R533: a housekeeping round is evaluated.
(The model's choices: notes 115, 116, 118.) -/
def Obligations.HousekeepingRound : Prop :=
  ∀ (s : State) (r : HkRound), s.dev.live = true →
    let n := if s.dev.hk.round * 1000000 + 1020000 < s.dev.tick then s.dev.tick / 1000000 else s.dev.hk.round
    s.dev.ahead ((n + 1) * 1000000 + Config.freeNat s.dev.freeCtr % 20001) = true →
    After (.hkRoundEnd r) s fun d =>
      d.get F.HK_ROUNDS.COUNT = (s.dev.get F.HK_ROUNDS.COUNT + 1) % 2 ^ 64
      ∧ d.get F.HK_VIN.V = r.vin % 2 ^ 32 ∧ d.get F.HK_VKEEP.V = r.vkeep % 2 ^ 32
        ∧ d.tick = max s.dev.tick ((n + 1) * 1000000 + Config.freeNat s.dev.freeCtr % 20001) ∧ d.hk.round = n + 1


/-! ## The Brodrel Link's line and message layers -/

/-- R100, R191, R192, R195: transceiver, light and the training attempts up to TP3.
R188, R189, R192, R195: block and frame lock, LOCK and EXCHANGE, and the attempts that fail.
(The model's choices: notes 61, 62, 63.) -/
def Obligations.LaneTraining : Prop :=
  (∀ (s : State) (k : Fin 96), s.dev.live = true →
     After (.lanePrsLost k) s (fun d => d.bit F.LANE_STATUS.PRS k = false)
     ∧ After (.laneDetectEntry k) s (fun d => d.bit F.LANE_STATUS.PRS k = true ∧ (unit d.lanes k).prsHigh = false)
     ∧ (∀ x, s.dev.laneSt k = 1 → s.dev.due (.losClear k) = some x → s.dev.ahead x = true → After (.laneTrainStart k) s fun d => d.bit F.LANE_STATUS.LOS k = false)
     ∧ (s.dev.ahead (s.dev.tick + if 2 ≤ s.dev.laneSt k ∧ s.dev.laneSt k ≤ 4 ∧ !s.dev.inGap k then usT 2 else 0) = true →
       After (.laneLos k) s fun d => d.bit F.LANE_STATUS.LOS k = true)
     ∧ (∀ x, s.dev.due (.xcvr k) = some x → s.dev.ahead x = true → (unit s.dev.lanes k).prsHigh = true ∨ (unit s.dev.lanes k).los = true → s.dev.st = STAGED ∨ s.dev.st = LINKED →
       After (.xcvrCheckTimeout k) s fun d => (16, k.val) ∈ d.arr.fails)
     ∧ (∀ m, s.dev.laneSt k = 2 → s.dev.inGap k = false → (unit s.dev.lanes k).tp1 = false → s.dev.get F.LANE_STATUS.STEP k < 2 →
         m = (if s.dev.bit F.LANE_STATUS.MODE k then 0xFF00FF00F0F0F0F0 else 0x00FF00FF0F0F0F0F) → k.val < s.dev.lanes.length →
       After (.laneTp1Lock k m m) s fun d => (unit d.lanes k).tp1 = true ∧ d.bit F.LANE_STATUS.LOS k = false)
     ∧ (∀ x, s.dev.due (.tp1 k) = some x → s.dev.ahead x = true → After (.laneTp1End k) s fun d => d.get F.LANE_STATUS.STEP k = 1)
     ∧ (∀ x : Tp2Check, s.dev.laneSt k = 2 → s.dev.get F.LANE_STATUS.STEP k = 1 → (unit s.dev.lanes k).tp1 = true →
       After (.laneSymbolLock k x) s fun d => (4096 ≤ x.clean → d.bit F.LANE_STATUS.SYM_LOCK k = true
           ∧ d.get F.LANE_STATUS.STEP k = (if s.dev.bit F.LANE_CTRL.TEST_HOLD k then 1 else 2))
         ∧ d.get F.LANE_CNT.COUNT k 7 = (s.dev.get F.LANE_CNT.COUNT k 7 + x.errors) % 2 ^ 64))
  ∧ (∀ (s : State) (k : Fin 96), s.dev.live = true →
     (∀ h : HeaderTest, s.dev.hunting k = true ∨ s.dev.bit F.LANE_STATUS.BLK_LOCK k = true → k.val < s.dev.lanes.length →
         (s.dev.bit F.LANE_STATUS.BLK_LOCK k = false → ∀ t, (unit s.dev.lanes k).slipTick = some t → t + 8 ≤ h.end_) →
       After (.laneBlockLock k h []) s fun d =>
         d.bit F.LANE_STATUS.BLK_LOCK k = (({ (unit s.dev.lanes k).align with lock := s.dev.bit F.LANE_STATUS.BLK_LOCK k } : Aligner).step h.valid).lock
           ∧ d.get F.LANE_CNT.COUNT k 0 = (s.dev.get F.LANE_CNT.COUNT k 0 + b2n (!h.valid)) % 2 ^ 64)
     ∧ (∀ (h : HeaderTest) (t : Nat), s.dev.bit F.LANE_STATUS.BLK_LOCK k = false → (unit s.dev.lanes k).slipTick = some t → h.end_ < t + 8 →
       After (.laneBlockLock k h []) s fun d => d.lanes = s.dev.lanes ∧ d.get F.LANE_CNT.COUNT k 0 = s.dev.get F.LANE_CNT.COUNT k 0)
     ∧ (∀ frames, s.dev.bit F.LANE_STATUS.MODE k = false → s.dev.bit F.LANE_STATUS.BLK_LOCK k = true →
       After (.laneFrameLock k frames) s fun d =>
         let r := ({ (unit s.dev.lanes k).framer with lock := s.dev.bit F.LANE_STATUS.FRM_LOCK k } : Framer).take frames
         d.bit F.LANE_STATUS.FRM_LOCK k = r.1.lock
           ∧ d.get F.LANE_CNT.COUNT k 5 = (s.dev.get F.LANE_CNT.COUNT k 5 + (r.2.filter fun e => 4 < e).length) % 2 ^ 64)
     ∧ (s.dev.laneSt k = 2 → s.dev.get F.LANE_STATUS.STEP k = 2 → s.dev.ownLocks k = true → 16 ≤ (unit s.dev.lanes k).idleRun →
         ((s.dev.due (.attempt k)).all fun x => s.dev.tick < x) = true →
       After (.laneLockEntry k) s fun d => d.laneSt k = 3 ∧ d.bit F.LANE_STATUS.PEER_LOCKED k = true)
     ∧ (let last := if s.dev.bit F.LANE_CTRL.FB_ALLOWED k || (unit s.dev.lanes k).twoLevel then 6 else 3
        let tried := fun (d : Dev) => if last ≤ s.dev.get F.LANE_STATUS.ATTEMPT k then
            d.laneSt k = 0 ∧ d.bit F.LANE_STATUS.HELD k = true ∧ d.get F.LANE_STATUS.FAIL k = 17
          else d.laneSt k = 2 ∧ d.due (.gap k) = some (d.tick + usT 200)
        (∀ x, s.dev.due (.attempt k) = some x → s.dev.ahead x = true → After (.laneAttemptTimeout k) s tried)
        ∧ (∀ x, s.dev.due (.lockState k) = some x → s.dev.ahead x = true → After (.laneLockTimeout k) s tried))
     ∧ (∀ x, s.dev.due (.gap k) = some x → s.dev.ahead x = true →
       After (.laneRetryGapEnd k) s fun d => d.laneSt k = 2 ∧ d.get F.LANE_STATUS.ATTEMPT k = (s.dev.get F.LANE_STATUS.ATTEMPT k + 1) % 16)
     ∧ (s.dev.laneSt k = 3 → s.dev.ownLocks k = true → 256 ≤ (unit s.dev.lanes k).idleRun →
         ((s.dev.due (.lockState k)).all fun x => s.dev.tick < x) = true →
       After (.laneExchangeEntry k) s fun d => d.laneSt k = 4 ∧ d.due (.exchange k) = some (s.dev.tick + msT 5)))
  ∧ (∀ a : Aligner,
     (a.lock = false → a.run = 0 →
       ((List.replicate 64 true).foldl Aligner.step a).lock = true ∧ ((List.replicate 63 true).foldl Aligner.step a).lock = false)
     ∧ (a.lock = true → a.last = [] →
       ((List.replicate 16 false).foldl Aligner.step a).lock = false ∧ ((List.replicate 15 false).foldl Aligner.step a).lock = true))
  ∧ (∀ a : Framer,
     (∀ x ∈ [0, 1], ∀ y ∈ [0, 1], ∀ z ∈ [0, 1], a.lock = false → a.run = 0 → (a.take [x, y, z]).1.lock = true)
     ∧ (∀ e, 4 < e → a.lock = true → a.last = [] → (a.take (List.replicate 8 e)).1.lock = false ∧ (a.take (List.replicate 7 e)).1.lock = true))

/-- R204 to R206, R209, R236, R238, R239: EXCHANGE: the capability record, ECHOs, the TSYNC_REPORT that completes it, its timeout, and the repeat.
(The model's choices: notes 65, 68, 69.) -/
def Obligations.LaneExchange : Prop :=
  ∀ (s : State) (k : Fin 96), s.dev.live = true →
    (∀ c, s.dev.laneSt k = 4 → s.dev.ownLocks k = true → (unit s.dev.lanes k).capOk = false → k.val < s.dev.lanes.length →
        (s.dev.beatOf c.beat - (s.dev.beat : Int)).natAbs ≤ 4 →
      (s.dev.capMatches k c = true → After (.capUp k 0 c) s fun d => (unit d.lanes k).capOk = true ∧ d.get F.LANE_SERIAL.SERIAL k = c.serial % 2 ^ 64
        ∧ d.get F.LANE_RTT.RUNS k = 1)
      ∧ (s.dev.capMatches k c = false → After (.capUp k 0 c) s fun d => d.laneSt k = 0 ∧ d.bit F.LANE_STATUS.HELD k = true ∧ d.get F.LANE_STATUS.FAIL k = 18))
    ∧ (∀ c, After (.capUp k 1 c) s fun d => d.get F.LANE_MCNT.COUNT k 0 = (s.dev.get F.LANE_MCNT.COUNT k 0 + 1) % 2 ^ 64 ∧ d.lanes = s.dev.lanes)
    ∧ (∀ c, 4 < (s.dev.beatOf c.beat - (s.dev.beat : Int)).natAbs →
      After (.capUp k 0 c) s fun d => d.get F.LANE_MCNT.COUNT k 1 = (s.dev.get F.LANE_MCNT.COUNT k 1 + 1) % 2 ^ 64 ∧ d.lanes = s.dev.lanes)
    ∧ (∀ e, s.dev.laneSt k = 4 ∨ s.dev.laneSt k = 5 → s.dev.ownLocks k = true →
      After (.echo k e) s fun d => d.get F.LANE_DNODE.TURNAROUND k = e.turnaround % 2 ^ 32)
    ∧ (∀ (id : Fin 16) (x : Nat), id.val ∈ (unit s.dev.lanes k).waiting → s.dev.due (.echo k id) = some x → s.dev.ahead x = true →
      After (.echoTimeout k id) s fun d => d.due (.echo k id) = some (max s.dev.tick x + usT 20) ∧ d.get F.LANE_CNT.COUNT k 13 = (s.dev.get F.LANE_CNT.COUNT k 13 + 1) % 2 ^ 64)
    ∧ (∀ b e, s.dev.laneSt k = 4 → s.dev.ownLocks k = true → (unit s.dev.lanes k).rttOk = true → (unit s.dev.lanes k).tsyncInit = true →
        (s.dev.beatOf b - (s.dev.beat : Int)).natAbs ≤ 4 → ((s.dev.due (.exchange k)).all fun x => s.dev.tick < x) = true →
      After (.tsyncReport k ⟨0, b⟩ (unit s.dev.lanes k).tsyncIdx e) s fun d => d.laneSt k = 5)
    ∧ (∀ x, s.dev.due (.exchange k) = some x → s.dev.ahead x = true → After (.laneExchangeTimeout k) s fun d => d.laneSt k = 0 ∧ d.bit F.LANE_STATUS.HELD k = true
        ∧ d.get F.LANE_STATUS.FAIL k = if (unit s.dev.lanes k).capOk && !(unit s.dev.lanes k).rttOk then 19 else 18)
    ∧ (∀ x, s.dev.due (.rtt k) = some x → s.dev.ahead x = true → k.val < s.dev.lanes.length →
      After (.laneRttRepeat k) s fun d => (unit d.lanes k).waiting = [0])

/-- R200 to R203: quality windows, IDLE blocks, the receiver's switch in a shift, and a shift that is not complete in time.
(The model's choices: notes 66, 67.) -/
def Obligations.LaneQuality : Prop :=
  ∀ (s : State) (k : Fin 96), s.dev.live = true →
    (∀ c, After (.laneQualityWindowEnd k c) s fun d => d.get F.LANE_CNT.COUNT k 3 = (s.dev.get F.LANE_CNT.COUNT k 3 + c.corrFrames) % 2 ^ 64
      ∧ d.get F.LANE_CNT.COUNT k 4 = (s.dev.get F.LANE_CNT.COUNT k 4 + c.corrBytes) % 2 ^ 64
      ∧ d.get F.LANE_CNT.COUNT k 5 = (s.dev.get F.LANE_CNT.COUNT k 5 + c.uncorr) % 2 ^ 64)
    ∧ (∀ (c : FrameCounts) (x : Nat), s.dev.due (.qwin k) = some x → s.dev.ahead x = true → k.val < s.dev.lanes.length →
        (unit s.dev.lanes k).qCorr + c.corrBytes ≤ s.dev.get F.LANE_FB.CORR_LIM k → (unit s.dev.lanes k).qUncorr + c.uncorr < s.dev.get F.LANE_FB.UNCORR_LIM k →
      After (.laneQualityWindowEnd k c) s fun d => d.get F.LANE_QWIN.CORR k = 0 ∧ d.get F.LANE_QWIN.UNCORR k = 0
        ∧ d.due (.qwin k) = some (max s.dev.tick x + 4190208))
    ∧ (∀ rx fb n, s.dev.ownLocks k = true → n ≠ 0 → k.val < s.dev.lanes.length →
      After (.idle k rx ⟨fb, n⟩) s fun d => d.bit F.LANE_STATUS.PEER_LOCKED k = rx
        ∧ (unit d.lanes k).idleRun = if rx then (unit s.dev.lanes k).idleRun + n else 0)
    ∧ (s.dev.laneHears k = true → (unit s.dev.lanes k).shifting = true → (unit s.dev.lanes k).shiftRx = false → k.val < s.dev.lanes.length →
      After (.shift k 0) s fun d => (unit d.lanes k).shiftRx = true ∧ d.bit F.LANE_STATUS.BLK_LOCK k = false)
    ∧ (∀ x, s.dev.due (.shift k) = some x → s.dev.ahead x = true → (unit s.dev.lanes k).shifting = true → After (.shiftTimeout k) s fun d => d.laneSt k ≠ 5)

/-- R222, R225 to R227, R230, R243: upstream messages of an ACTIVE lane, and the repeats of BYPASS and CAPTURE_REQ.
(The model's choices: notes 70, 72.) -/
def Obligations.LaneMessages : Prop :=
  ∀ (s : State) (k : Fin 96), s.dev.live = true → k.val < s.dev.lanes.length →
    (∀ m : SampleMsg, s.dev.laneHears k = true → m.part < 16 → 0 ≤ s.dev.beatOf m.beat → s.dev.beatOf m.beat ≤ (s.dev.beat : Int) →
        s.dev.taken (s.dev.beatOf m.beat) = false →
        ((unit s.dev.lanes k).parts.any fun p => p.1 == (s.dev.beatOf m.beat).toNat && p.2.1 == m.part) = false →
      After (.sample k 0 m) s fun d => ((s.dev.beatOf m.beat).toNat, m.part, m.codes) ∈ (unit d.lanes k).parts)
    ∧ (∀ m : StatusMsg, s.dev.laneHears k = true → statusOk m.w08 = true → 0 ≤ s.dev.beatOf m.beat → s.dev.beatOf m.beat ≤ (s.dev.beat : Int) →
        s.dev.taken (s.dev.beatOf m.beat) = false →
      After (.status k 0 m) s fun d => d.get F.LANE_NODE_BEAT.APPLIED_BEAT k = m.applied % 2 ^ 32 ∧ d.get F.LANE_NODE.STATE k = m.w08 % 2 ^ 32
        ∧ d.get F.LANE_NODE_TRIP.TRIP_MASK k = m.tripMask % 2 ^ 16)
    ∧ (∀ m : PageMsg, s.dev.laneHears k = true → m.page ≤ 15 → (s.dev.beatOf m.beat - (s.dev.beat : Int)).natAbs ≤ 4 → After (.capturePage k 0 m) s fun d => m.page ∉ (unit d.lanes k).capWait)
    ∧ (∀ rcvd freed b, s.dev.laneHears k = true → (s.dev.beatOf b - (s.dev.beat : Int)).natAbs ≤ 4 → After (.credit k ⟨0, b⟩ rcvd freed) s fun d => (unit d.lanes k).dnRcvd = rcvd % 65536
        ∧ (unit d.lanes k).dnFreed = freed % 65536 ∧ (unit d.lanes k).creditBeat = s.dev.beat)
    ∧ (∀ x b, s.dev.due (.bypRep k) = some x → s.dev.ahead x = true → (unit s.dev.lanes k).byp = some b → b.reps < 3 →
      After (.bypassRepeat k) s fun d => d.get F.LANE_MCNT.COUNT k 9 = (s.dev.get F.LANE_MCNT.COUNT k 9 + 1) % 2 ^ 64
        ∧ ∃ b', (unit d.lanes k).byp = some b' ∧ b'.action = b.action ∧ b'.reps = b.reps + 1 ∧ b'.sent = false)
    ∧ (∀ x, s.dev.due (.capRep k) = some x → s.dev.ahead x = true → (unit s.dev.lanes k).capWait ≠ [] → ((unit s.dev.lanes k).capAcked && (unit s.dev.lanes k).capAgain) = false →
      After (.captureRepeat k) s fun d => (unit d.lanes k).capAgain = ((unit s.dev.lanes k).capAgain || (unit s.dev.lanes k).capAcked)
        ∧ d.get F.LANE_MCNT.COUNT k 9 = (s.dev.get F.LANE_MCNT.COUNT k 9 + 1) % 2 ^ 64)


/-! ## Array Engine, Loop Engine and bring-up events -/

/-- R249, R247, R269, R271, R275, R276: the latch of the bursts, the hand-over of the commands, and what ends for cells and strings.
R278, R279, R484: F rises by one, and the end of a stop at zero power.
(The model's choices: notes 70, 75, 77, 78, 84, 92.) -/
def Obligations.ArrayEvents : Prop :=
  (∀ (s : State) (i : SensedLink), s.dev.live = true → s.dev.prov.decl ≠ none →
    let b := if s.dev.phase ≤ 140 then s.dev.beat else s.dev.beat + 1
    s.dev.arr.latched ≠ some b → s.dev.ahead (s.dev.tick + (140 + 1024 - s.dev.phase) % 1024) = true → After (.arrayLatch i) s fun d => d.arr.latched = some b ∧ d.get F.GLB_TIMING.UP_LATEST = i.upLatest % 1024)
  ∧ (∀ (s : State) (miss : List (Nat × Nat)) (n : Nat), s.dev.live = true → s.dev.prov.decl ≠ none →
    s.dev.arr.handed ≠ some (if s.dev.phase ≤ 290 then s.dev.beat else s.dev.beat + 1) →
      s.dev.ahead (s.dev.tick + (290 + 1024 - s.dev.phase) % 1024) = true →
    After (.escapement miss n) s fun d => d.get F.GLB_TIMING.DN_LATEST = n % 1024)
  ∧ (∀ (s : State) (k : Fin 96) (x : Nat), s.dev.live = true → s.dev.due (.bypassMax k) = some x → s.dev.ahead x = true → s.dev.cellRole k = 2 →
    Leaves (.bypassTimeout k) s fun e => e.get F.REG_SRC_COUNT.COUNT 70 = (s.dev.get F.REG_SRC_COUNT.COUNT 70 + 1) % 2 ^ 64)
  ∧ (∀ (s : State) (k : Fin 96) (x : Nat), s.dev.live = true → s.dev.due (.retrain k) = some x → s.dev.ahead x = true → s.dev.cellRole k = 0 → s.dev.laneUp k = false →
    After (.retrainTimeout k) s fun d => d.cellRole k = 3)
  ∧ (∀ s : State, s.dev.live = true → s.dev.ahead ((s.dev.tick + 65536 * 1024 - 1) / (65536 * 1024) * (65536 * 1024)) = true →
    After .capEstimatePeriodEnd s fun d => ∀ k ∈ s.dev.cellsDecl, k < s.dev.cells.length → (unit d.cells k).capA = 0 ∧ (unit d.cells k).capB = 0
      ∧ (unit d.cells k).vLo = none ∧ (unit d.cells k).vHi = none)
  ∧ (∀ s : State, s.dev.live = true → s.dev.ahead ((s.dev.tick + 256 * 1024 - 1) / (256 * 1024) * (256 * 1024)) = true →
    After .closureWindowEnd s fun d => ∀ n < s.dev.dcl.strings, n < 6 → d.get F.ARR_STRING_CLOSE.D n = 0)
  ∧ (∀ s : State, s.dev.live = true → s.dev.get F.ARR_DERATE.FACTOR < s.dev.derateMin →
      s.dev.ahead ((s.dev.beat + (64 - s.dev.reg.rise)) * 1024) = true →
    After .derateRiseStep s fun d => d.get F.ARR_DERATE.FACTOR = (s.dev.get F.ARR_DERATE.FACTOR + 1) % 2 ^ 11)
  ∧ (∀ s : State, s.dev.live = true → s.dev.st = STOP → 100 ≤ s.dev.arr.zeroBeats → s.dev.arr.zeroPower = false →
    Leaves .arrayZeroPower s fun e => e.arr.zeroPower = true ∧ e.st = STOP)

/-- R289, R295, R298, R300: a slot's release: frozen, not complete in time, or evaluated by the difference equation (here a free slot without
members, feed-forward and anti-windup hold).
(The model's choices: notes 7, 80.) -/
def Obligations.SlotRelease : Prop :=
  ∀ (s : State) (k : Fin 1024) (late : Option Nat), s.dev.live = true → s.dev.bit F.SLOT_CFG.EN k = true → s.dev.bit F.SLOT_CFG.MEMBER k = false →
      s.dev.slotRuns k = true → s.dev.ahead (s.dev.tick + (s.dev.get F.SLOT_CFG.RELEASE k + 1024 - s.dev.phase) % 1024) = true →
    ((unit s.dev.slots k).frozen = true →
      After (.slotRelease k late) s fun d => d.bit F.SLOT_STATUS.FROZEN k = true ∧ d.get F.SLOT_Y_OUT.Y_LIM k = s.dev.get F.SLOT_Y_OUT.Y_LIM k)
    ∧ (∀ p, (unit s.dev.slots k).frozen = false → late = some p →
      After (.slotRelease k late) s fun d => d.get F.LE_OVERRUN.COUNT = (s.dev.get F.LE_OVERRUN.COUNT + 1) % 2 ^ 64
        ∧ d.get F.SLOT_Y_OUT.Y_LIM k = s.dev.get F.SLOT_Y_OUT.Y_LIM k)
    ∧ ((unit s.dev.slots k).frozen = false → late = none → s.dev.owner k = 0 → s.dev.get F.SLOT_CFG.MEMBERS k = 0 → s.dev.bit F.SLOT_CFG.FF_EN k = false →
        s.dev.bit F.SLOT_CFG.AW k = false →
      let x := fSubt (s.dev.slotSrc (s.dev.get F.SLOT_SRC.SRC_A k) (s.dev.get F.SLOT_SRC.IDX_A k) (s.dev.get F.SLOT_REF.REF k))
        (s.dev.slotSrc (s.dev.get F.SLOT_SRC.SRC_B k) (s.dev.get F.SLOT_SRC.IDX_B k) 0)
      let e := fMul (s.dev.get F.SLOT_K_IN.K_IN k) x
      let y := fAdd (s.dev.slotAcc k e) 0
      fBad x = false → fBad e = false → fBad (s.dev.slotAcc k e) = false → fBad y = false →
      After (.slotRelease k late) s fun d => d.get F.SLOT_Y_OUT.Y_LIM k = fMin (fMax y (s.dev.slotLo k)) (s.dev.slotHi k) % 2 ^ 32)

/-- R101, R104 to R107: LINKED, PRECHARGE, the phases of a string's precharge, and what ends a START or a precharge.
(The model's choices: notes 90, 91.) -/
def Obligations.BringUpEvents : Prop :=
  (∀ s : State, s.dev.live = true → s.dev.st = STAGED → s.dev.stageReady = true →
    Leaves .enterLinked s fun e => e.st = LINKED ∧ e.get F.GLB_STATE_SINCE.BEAT = (s.dev.beat + 1) % 2 ^ 48)
  ∧ (∀ s : State, s.dev.live = true → s.dev.st = LINKED → s.dev.arr.starting = true → s.dev.hasLoan 4 0 = true → s.dev.bit F.PLL_STATUS.LOCKED 2 = true →
      s.dev.bit F.GLB_CAT.SAFETY_MATCH = true →
      s.dev.pwr.saveWin = false → s.dev.get F.LOAN_OP_COST.COST 8 ≤ s.dev.get F.LOAN_SITE.BUDGET → s.dev.get F.LOAN_OP_WAIT.WAIT_MS 8 ≠ 0 →
    Leaves .enterPrecharge s fun e => e.st = PRECHARGE ∧ e.arr.starting = false)
  ∧ (∀ (s : State) (x : Nat), s.dev.live = true → s.dev.due .startLock = some x → s.dev.ahead x = true → s.dev.arr.starting = true →
    Leaves .startLockTimeout s fun e => e.arr.starting = false)
  ∧ (∀ (s : State) (n : Fin 6) (t : Nat), s.dev.live = true → s.dev.st = PRECHARGE → s.dev.arr.preMet.getD n none = some t →
    (s.dev.get F.GLB_PRECHARGE.PHASE n = 2 → ((s.dev.due (.prechPhase n)).all fun x => t + msT 100 < x) = true →
      s.dev.ahead (t + msT 100) = true →
      Leaves (.prechargePhaseEnd n) s fun e => e.get F.GLB_PRECHARGE.PHASE n = 3)
    ∧ (s.dev.get F.GLB_PRECHARGE.PHASE n = 3 → ((s.dev.due (.prechPhase n)).all fun x => t < x) = true → s.dev.ahead t = true → s.dev.dcl.preOrder.getLast? ≠ some n.val →
      Leaves (.prechargePhaseEnd n) s fun e => e.get F.GLB_PRECHARGE.PHASE n = 5)
    ∧ (s.dev.get F.GLB_PRECHARGE.PHASE n = 4 → ((s.dev.due (.prechPhase n)).all fun x => t < x) = true → s.dev.ahead t = true →
      Leaves (.prechargePhaseEnd n) s fun e => e.get F.GLB_PRECHARGE.PHASE n = 5))
  ∧ (∀ (s : State) (n : Fin 6) (x : Nat), s.dev.live = true → s.dev.st = PRECHARGE → s.dev.due (.prechPhase n) = some x → s.dev.ahead x = true →
    Leaves (.prechargeTimeout n) s fun e => e.get F.REG_SRC_COUNT.COUNT 72 = (s.dev.get F.REG_SRC_COUNT.COUNT 72 + 1) % 2 ^ 64)


/-! ## Metering -/

/-- R422, R423, R428, R436, R439, R447: a sample instant, a channel lost, a zero-crossing timeout, an interval, a harmonic burst, a closure window.
(The model's choices: notes 100, 101, 102, 103.) -/
def Obligations.MeteringEvents : Prop :=
  ∀ s : State, s.dev.live = true →
    (∀ x, s.dev.bit F.MET_STATUS.RUN = true → After (.meterSample x) s fun d =>
      d.get F.MET_SAMPLES.COUNT = (s.dev.get F.MET_SAMPLES.COUNT + 1) % 2 ^ 64 ∧ d.met.k = s.dev.met.k + 1)
    ∧ (∀ (m : Fin 16) (density : Nat), s.dev.bit F.MET_CH_CFG.DECLARED m = true → s.dev.bit F.MET_STATUS.RUN = true →
        (unit s.dev.metCh m).lostNow = false → m.val < s.dev.metCh.length →
      After (.metChannelLost m density) s fun d => d.flag F.MET_CH_FLAGS.LOST m = true ∧ (unit d.metCh m).lostNow = true)
    ∧ (∀ (m : Fin 16) (x : Nat), s.dev.due (.zc m) = some x → s.dev.ahead x = true → s.dev.bit F.MET_STATUS.RUN = true → s.dev.acVolt m = true → m.val < s.dev.metCh.length →
      After (.zcTimeout m) s fun d => (unit d.metCh m).zcOut = true ∧ (unit d.metCh m).periods = []
        ∧ d.due (.zc m) = some (max s.dev.tick x + msT (s.dev.get F.MET_CH_ZC.ZC_TMO m)))
    ∧ (∀ (e : Fin 8) (v : Interval), (unit s.dev.metEl e).open_ = some v → s.dev.bit F.MET_STATUS.RUN = true → v.stop ≤ sampleAt s.dev.met.k →
      After (.meterIntervalClose e) s fun d => d.get F.MET_EL_RECS.SEQ e = (s.dev.get F.MET_EL_RECS.SEQ e + 1) % 2 ^ 64
        ∧ d.get F.MET_EL_OPEN.START e = v.stop / 64 % 2 ^ 64
        ∧ d.get F.MET_EL_TOT_IMP.MJ e = (s.dev.get F.MET_EL_TOT_IMP.MJ e + v.imp / 2 ^ 32) % 2 ^ 64
        ∧ d.get F.MET_EL_TOT_EXP.MJ e = (s.dev.get F.MET_EL_TOT_EXP.MJ e + v.exp / 2 ^ 32) % 2 ^ 64)
    ∧ (∀ x, s.dev.due .harm = some x → s.dev.ahead x = true → After .harmonicBurstDone s fun d =>
        d.met.bursting = none ∧ d.get F.MET_HARM_WIN.WINDOW = s.dev.met.bursting.getD 0 % 2 ^ 64 ∧ d.due .harm = none)
    ∧ (∀ (e : Fin 8) (k : Nat) (sum : Int) (abs : Nat) (l : List Rat), s.dev.bit F.MET_EL_CFG.DECLARED e = true → s.dev.bit F.MET_EL_CFG.CLOSE_EN e = true →
        (unit s.dev.metEl e).prev = some (k, sum, abs) → s.dev.arr.metPrev = some (k, l) → s.dev.met.runPrev = some (k, true) → e.val < s.dev.metEl.length →
      After .meterClosureWindow s fun d => (unit d.metEl e).prev = none ∧ d.get F.MET_EL_CLOSE.D e
        = ofS 32 (rAway (((sum : Rat) * 1000 / ((2 ^ 32 : Nat) : Rat) - l.getD (s.dev.get F.MET_EL_CFG.STRING e) 0) / 1000000)))

/-! ## The Chronometer and the networks -/

/-- R456, R457, R467: a set applies at its tick; holdover starts and ends.
R451, R468, R469: the PPS input and output.
(The model's choices: notes 58, 105.) -/
def Obligations.ChronometerEvents : Prop :=
  (∀ s : State, s.dev.live = true →
    (∀ x, s.dev.due .set = some x → s.dev.ahead x = true → After .chrSetApply s fun d =>
      d.bit F.CHR_STATE.SET_ARMED = false ∧ d.due .set = none
        ∧ (s.dev.get F.CHR_SERVO.SOURCE = 0 → d.get F.CHR_STATE.NT_STATE = 1 ∧ d.bit F.CHR_STATE.VALID = true))
    ∧ (∀ x, s.dev.get F.CHR_STATE.NT_STATE = 3 → s.dev.get F.CHR_SERVO.SOURCE ≠ 0 → s.dev.due .measure = some x → s.dev.ahead x = true → After .holdoverStart s fun d =>
      d.get F.CHR_STATE.NT_STATE = 4 ∧ d.bit F.CHR_STATE.VALID = true ∧ d.due .measure = none
        ∧ d.due .holdover = some (max s.dev.tick x + s.dev.get F.CHR_HOLD.HOLDOVER_S * 100000000) ∧ d.chr.r = -s.dev.chr.i)
    ∧ (∀ x, s.dev.get F.CHR_STATE.NT_STATE = 4 → s.dev.due .holdover = some x → s.dev.ahead x = true → After .holdoverExpiry s fun d =>
      d.get F.CHR_STATE.NT_STATE = 0 ∧ d.bit F.CHR_STATE.VALID = false ∧ d.due .holdover = none))
  ∧ (∀ s : State, s.dev.live = true →
    (∀ instant, s.dev.bit F.PPS_CFG.IN_EN = true → After (.ppsInEdge instant) s fun d =>
      d.get F.PPS_IN_TS.SUBTICK = s.dev.stampAt instant % 64 ∧ d.get F.PPS_IN_TS.TICK = s.dev.stampAt instant / 64 % 2 ^ 58
        ∧ (s.dev.chr.ppsHold = none → d.due .ppsIn = some (max s.dev.tick (instant / 64) + 200000000)))
    ∧ (∀ x, s.dev.get F.CHR_SERVO.SOURCE = 4 → s.dev.due .ppsIn = some x → s.dev.ahead x = true → s.dev.get F.CHR_STATE.NT_STATE = 3 → After .ppsInTimeout s fun d =>
      d.get F.CHR_STATE.NT_STATE = 4)
    ∧ (let inc := max 1 (s.dev.get F.CHR_INC.INC)
       let t := s.dev.tick * 64 + ((1000000000 * 2 ^ 32 - s.dev.chr.frac) * 64 + inc - 1) / inc
       s.dev.bit F.PPS_CFG.OUT_EN = true → s.dev.bit F.CHR_STATE.VALID = true → s.dev.pwr.ppsOut = false → s.dev.ahead (t / 64) = true →
       After (.ppsOutPulse true) s fun d => d.pwr.ppsOut = true ∧ d.pwr.ppsAt = t ∧ d.due .ppsFall = some (d.tick + msT 100))
    ∧ (∀ x, s.dev.due .ppsFall = some x → s.dev.ahead x = true → After (.ppsOutPulse false) s fun d => d.pwr.ppsOut = false))

/-- R460, R463: Announces and their loss, and the PTP exchanges.
R458, R462, R474: a port's link, and the frames that pass through.
(The model's choices: notes 106, 107, 108.) -/
def Obligations.EthernetEvents : Prop :=
  (∀ (s : State) (n : Fin 2), s.dev.live = true → n.val < s.dev.ports.length →
    (∀ a, s.dev.ptpOn n a.domain a.udp = true → After (.ptpAnnounce n a) s fun d =>
      (a, s.dev.tick) ∈ (unit d.ports n).masters ∧ d.bit F.ETH_STATUS.MASTER n = (unit d.ports n).best.isSome)
    ∧ (∀ x, s.dev.due (.announce n) = some x → s.dev.ahead x = true → After (.ptpMasterLost n) s fun d =>
      ∀ y ∈ (unit d.ports n).masters, max s.dev.tick x < y.2 + lostAfter y.1)
    ∧ (∀ m : PtpSync, s.dev.ptpOn n m.domain m.udp = true → s.dev.fromBest n m.sender = true →
      (m.twoStep = true → After (.ptpSync n m) s fun d =>
        (unit d.ports n).syncRx.map Prod.fst = some m ∧ d.get F.ETH_RX.COUNT n = (s.dev.get F.ETH_RX.COUNT n + 1) % 2 ^ 64)
      ∧ (m.twoStep = false → s.dev.bit F.ETH_CFG.P2P n = false → After (.ptpSync n m) s fun d =>
        (unit d.ports n).req.map Prod.fst = some (unit s.dev.ports n).seq ∧ d.get F.ETH_TX.COUNT n = (s.dev.get F.ETH_TX.COUNT n + 1) % 2 ^ 64))
    ∧ (∀ (m y : PtpSync) (t2 : Int), s.dev.ptpOn n m.domain m.udp = true → (unit s.dev.ports n).syncRx = some (y, t2) → s.dev.fromBest n m.sender = true →
        y.sender = m.sender → y.seq = m.seq →
      After (.ptpFollowUp n m) s fun d => (unit d.ports n).syncRx = none)
    ∧ (∀ (m : PtpDelay) (t1 t2 t3 : Rat), s.dev.ptpOn n m.domain m.udp = true → s.dev.bit F.ETH_CFG.P2P n = false → s.dev.fromBest n m.sender = true →
        s.dev.reqOf n m.seq = some t3 → (unit s.dev.ports n).last = some (t2, t1) →
      After (.ptpDelayResp n m) s fun d => (unit d.ports n).req = none ∧ d.get F.ETH_DELAY.DELAY n = fRnd (unit d.ports n).delay % 2 ^ 32
        ∧ 2 * (unit d.ports n).delay = t2 - t1 + ((m.peerRx : Rat) - t3) - (m.correction : Rat) / 65536)
    ∧ (∀ (m : PtpDelay) (t1 : Rat), s.dev.ptpOn n m.domain m.udp = true → s.dev.bit F.ETH_CFG.P2P n = true → s.dev.reqOf n m.seq = some t1 →
      After (.ptpPdelayResp n m) s fun d => (unit d.ports n).req = none ∧ d.get F.ETH_DELAY.DELAY n = fRnd (unit d.ports n).delay % 2 ^ 32
        ∧ 2 * (unit d.ports n).delay = s.dev.rxNs n m.rx m.pos - t1 - ((m.peerTx - m.peerRx : Int) : Rat) - (m.correction : Rat) / 65536)
    ∧ (∀ m : PtpSync, s.dev.ptpOn n m.domain m.udp = true → s.dev.bit F.ETH_CFG.P2P n = true → Leaves (.ptpPdelayReq n m) s fun e =>
      Out.pdelayResp n m.seq (m.correction + s.dev.dwell n n m.rx m.pos (m.rx + Config.freeNat s.dev.freeCtr)) 0 (s.dev.udpSum n) ∈ e.out
        ∧ e.get F.ETH_TX.COUNT n = (s.dev.get F.ETH_TX.COUNT n + 1) % 2 ^ 64))
  ∧ (∀ (s : State) (x : EthModule), s.dev.live = true →
    (s.dev.get F.ETH_CFG.MODE x.port ≠ 0 → s.dev.bit F.PLL_STATUS.LOCKED 3 = true → (s.dev.ethPins x).ethDark x.port = false →
      After (.ethLinkUp x) s fun d => d.bit F.ETH_STATUS.LINK x.port = true)
    ∧ After (.ethLinkDown x) s (fun d => d.bit F.ETH_STATUS.LINK x.port = false
      ∧ (x.port.val < s.dev.ports.length → (unit d.ports x.port).absent = (x.absent && ((unit s.dev.ports x.port).absent || decide (2 ≤ x.ticks))))))
  ∧ (∀ (s : State) (n : Fin 2) (x : EthFrame), s.dev.live = true → s.dev.bit F.ETH_STATUS.LINK n = true →
    let dest := beAt x.bytes 0 6
    let own := dest = s.dev.get F.ETH_MAC.MAC 0 ∨ dest = s.dev.get F.ETH_MAC.MAC 1
    let held := s.dev.bit F.ETH_CFG.P2P n = true ∧ (ptpKind x.bytes = some 2 ∨ ptpKind x.bytes = some 3)
    (own → After (.ethFrameForward n x) s fun d =>
      d.get F.ETH_RX.COUNT n = (s.dev.get F.ETH_RX.COUNT n + 1) % 2 ^ 64
        ∧ d.get F.ETH_DROP.COUNT n = (if (ptpAt x.bytes).isSome then s.dev.get F.ETH_DROP.COUNT n else (s.dev.get F.ETH_DROP.COUNT n + 1) % 2 ^ 64)
        ∧ d.get F.ETH_FWD.COUNT n = s.dev.get F.ETH_FWD.COUNT n)
    ∧ (¬ own → held → After (.ethFrameForward n x) s fun d =>
      d.get F.ETH_FWD.COUNT n = s.dev.get F.ETH_FWD.COUNT n ∧ d.get F.ETH_DROP.COUNT n = s.dev.get F.ETH_DROP.COUNT n)
    ∧ (¬ own → ¬ held → s.dev.bit F.ETH_CFG.PASS 0 = true → s.dev.bit F.ETH_CFG.PASS 1 = true →
        ((unit s.dev.ports n).queue.filter (fun t => decide (x.rx < t))).length < 16 → n.val < s.dev.ports.length →
      After (.ethFrameForward n x) s fun d =>
        d.get F.ETH_FWD.COUNT n = (s.dev.get F.ETH_FWD.COUNT n + 1) % 2 ^ 64
          ∧ d.get F.ETH_TX.COUNT (1 - n.val) = (s.dev.get F.ETH_TX.COUNT (1 - n.val) + 1) % 2 ^ 64
          ∧ d.get F.ETH_DROP.COUNT n = s.dev.get F.ETH_DROP.COUNT n ∧ x.tx ∈ (unit d.ports n).queue))

/-- R471 to R473: a CAN frame received, a transmit period, and bus-off.
(The model's choices: note 109.) -/
def Obligations.CanEvents : Prop :=
  ∀ (s : State) (c : Fin 2), s.dev.live = true →
    (∀ (x : CanFrame) (j : Nat), s.dev.bit F.CAN_CFG.EN c = true → s.dev.get F.CAN_STATUS.STATE c ≠ 2 → (x.fdf = true → s.dev.bit F.CAN_CFG.FD c = true) →
        s.dev.canMatch c x = some j →
      After (.canFrameRx c x) s fun d => d.bit F.CAN_MB_ID.NEW c j = true ∧ d.get F.CAN_MB_ID.ID c j = x.id % 2 ^ 29 ∧ d.bit F.CAN_MB_ID.IDE c j = x.ide
        ∧ d.get F.CAN_MB_LEN.LEN c j = x.data.length % 128 ∧ d.get F.CAN_MB_TICK.TICK c j = s.dev.stamp % 2 ^ 64
        ∧ d.get F.CAN_LOST.COUNT c = (if s.dev.bit F.CAN_MB_ID.NEW c j then (s.dev.get F.CAN_LOST.COUNT c + 1) % 2 ^ 64 else s.dev.get F.CAN_LOST.COUNT c))
    ∧ (∀ x : CanFrame, s.dev.canMatch c x = none → Leaves (.canFrameRx c x) s fun e =>
      e = if s.dev.bit F.CAN_CFG.EN c = true ∧ s.dev.get F.CAN_STATUS.STATE c ≠ 2 ∧ (x.fdf = true → s.dev.bit F.CAN_CFG.FD c = true) then s.dev.canHeard c else s.dev)
    ∧ (∀ (y : CanSlot) (x : Nat), s.dev.due (.canTx c y.frame) = some x → s.dev.ahead x = true → After (.canTxPeriod c y) s fun d =>
      d.due (.canTx c y.frame) = some (max s.dev.tick x + msT (s.dev.get F.CAN_TX_PER.PERIOD_MS c y.frame)))
    ∧ (∀ x : CanErrors, s.dev.bit F.CAN_CFG.EN c = true →
      let tec := s.dev.get F.CAN_STATUS.TEC c + 8 * x.tx
      let rec_ := min 255 (s.dev.get F.CAN_STATUS.REC c + x.rx)
      (x.recovered = true → s.dev.get F.CAN_STATUS.STATE c = 2 → After (.canBusoff c x) s fun d =>
        d.get F.CAN_STATUS.STATE c = 0 ∧ d.get F.CAN_STATUS.TEC c = 0 ∧ d.get F.CAN_STATUS.REC c = 0)
      ∧ (x.recovered = false → s.dev.get F.CAN_STATUS.STATE c ≠ 2 → 256 ≤ tec → After (.canBusoff c x) s fun d => d.get F.CAN_STATUS.STATE c = 2)
      ∧ (x.recovered = false → s.dev.get F.CAN_STATUS.STATE c ≠ 2 → tec < 256 → After (.canBusoff c x) s fun d =>
        d.get F.CAN_STATUS.TEC c = tec ∧ d.get F.CAN_STATUS.REC c = rec_ ∧ d.get F.CAN_STATUS.STATE c = if 128 ≤ tec ∨ 128 ≤ rec_ then 1 else 0))


/-! ## The whole block -/

/-- A step runs the command at the front of the queue on the queue's rest (the model's own rule for a block that takes commands: note 1). -/
def Obligations.StepRunsFront : Prop :=
  ∀ (s : State) (c : Instr), step { s with pending := c :: s.pending } = exec c s

/-- On an empty queue a step passes one tick of the main domain's clock (R2) and changes nothing else but the Keeper's count of its own cycles and
network time (DESIGN CHOICE: note 1). -/
def Obligations.IdleStep : Prop :=
  ∀ s : State, s.pending = [] → ∃ t, step s = .next t ∧ t.pending = [] ∧ (s.dev.live = true → t.dev.tick = s.dev.tick + 1)
    ∧ t.dev.timers = s.dev.timers ∧ t.dev.out = s.dev.out ∧ t.dev.rings = s.dev.rings ∧ t.dev.loans = s.dev.loans
    ∧ ∀ (f : Fld) (a b c : Nat), f.apart F.RSV_TIME.COUNT = true → a < f.n1 → b < f.n2 → c < f.n3 → t.dev.get f a b c = s.dev.get f a b c

/-- Right after reset the Reserve domain holds the main domain, in QUIET, with every field at its Reset column (R543) but the two bits that show the
supplies, which the column leaves open and which show them present (note 9), no command waiting, no loan, an empty log with chain value 0 (R159), and the
invariant. (Which instant "right after reset" is, is the model's choice: note 9.) -/
def Obligations.ResetState : Prop :=
  Inv State.reset ∧ State.reset.pending = [] ∧ State.reset.dev.live = false ∧ State.reset.dev.st = QUIET
    ∧ (∀ (f : Fld) (a b c : Nat), f.key a b c ≠ F.RSV_STATUS.VKEEP_OK.key 0 0 0 → f.key a b c ≠ F.RSV_STATUS.VIN_OK.key 0 0 0 →
      State.reset.dev.get f a b c = f.reset a)
    ∧ State.reset.dev.bit F.RSV_STATUS.VKEEP_OK = true ∧ State.reset.dev.bit F.RSV_STATUS.VIN_OK = true
    ∧ State.reset.dev.loans = [] ∧ State.reset.dev.prov.entries = [] ∧ State.reset.dev.prov.chain = 0

/-- R322 (promise 3), R285, R489: every step, of every command and of the clock, keeps the invariant. -/
def Obligations.StepKeepsInv : Prop :=
  ∀ s t : State, Inv s → step s = .next t → Inv t

/-- No command ever stops the block: each answers a next state and leaves the queue to the step. -/
def Obligations.EveryCommandAnswers : Prop :=
  ∀ (c : Instr) (s : State), ∃ t, exec c s = .next t ∧ t.pending = s.pending

/-- R87: "DEVICE_RESET is refused as REJECTED_STATE in PRECHARGE, RUN and STOP": the completion says so, and the main domain runs on. -/
def Obligations.DeviceResetRefused : Prop :=
  ∀ (s : State) (c : HostCmd), s.dev.live = true → s.dev.beat ≤ c.beat → s.dev.st = PRECHARGE ∨ s.dev.st = RUN ∨ s.dev.st = STOP →
    Leaves (.deviceReset c) s fun e => Completed e 0x11 4 c ∧ e.live = true ∧ e.st = s.dev.st

/-- R153: a CONFIRM is checked in the order of the table; the first failure completes it as REJECTED_INVALID, reason 0x0C, with the detail code, and what
is staged stays. -/
def Obligations.ConfirmRefused : Prop :=
  ∀ (s : State) (c : HostCmd), Ready 0x24 c s →
    let same := s.dev.get F.VP_SAFE_CRC_C.CRC = s.dev.get F.VP_SAFE_CRC_D.CRC
    let no := fun k => Leaves (.safetyCommitConfirm c) s fun e => Failed e 0x24 k c ∧ e.prov.staged = s.dev.prov.staged
    (s.dev.prov.staged = none → no 1)
    ∧ (s.dev.prov.staged ≠ none → s.dev.bit F.VP_SAFE_STAGE.CRC_DONE = false → no 2)
    ∧ (s.dev.prov.staged ≠ none → s.dev.bit F.VP_SAFE_STAGE.CRC_DONE = true → ¬ same → no 3)
    ∧ (s.dev.prov.staged ≠ none → s.dev.bit F.VP_SAFE_STAGE.CRC_DONE = true → same → arg c 4 ≠ s.dev.get F.VP_SAFE_CRC_C.CRC → no 4)

/-- R482: with no incident running an event of class C2 or above opens one, of its own class and with the next number; an event of class C0 or C1 opens
none; while one runs none is opened. -/
def Obligations.IncidentOpens : Prop :=
  ∀ (d : Dev) (src cls obj : Nat), cls ≤ 5 →
    (d.bit F.REG_INC.RUNNING = false → 2 ≤ cls →
      let e := (d.incidentTake src cls obj).1
      e.bit F.REG_INC.RUNNING = true ∧ e.get F.REG_INC.CLASS = cls ∧ e.get F.REG_INC_NUM.NUM = (d.get F.REG_INC_NUM.NUM + 1) % 2 ^ 32
        ∧ (d.incidentTake src cls obj).2 = (false, true))
    ∧ (d.bit F.REG_INC.RUNNING = false → cls < 2 → d.incidentTake src cls obj = (d, false, false))
    ∧ (d.bit F.REG_INC.RUNNING = true →
      let e := (d.incidentTake src cls obj).1
      e.get F.REG_INC_NUM.NUM = d.get F.REG_INC_NUM.NUM ∧ (d.incidentTake src cls obj).2 = (true, false))

/-! ## Frames -/

/-- What the commands of the Chronometer and the networks leave alone: every register but those named (`networkFields`) and those any event may reach, and
the units of the other chapters. -/
def Obligations.NetworkFrame : Prop :=
  ∀ (c : Instr) (s t : State), isNetwork c = true → exec c s = .next t →
    Kept networkFields s.dev t.dev ∧ t.dev.lanes = s.dev.lanes ∧ t.dev.cells = s.dev.cells ∧ t.dev.slots = s.dev.slots ∧ t.dev.bank2 = s.dev.bank2
      ∧ PhasesKept s.dev t.dev ∧ t.dev.gates = s.dev.gates ∧ t.dev.enc = s.dev.enc ∧ t.dev.metCh = s.dev.metCh ∧ t.dev.hk = s.dev.hk
      ∧ t.dev.mram.keys = s.dev.mram.keys ∧ t.dev.mram.fw = s.dev.mram.fw

/-- The same of Metering. -/
def Obligations.MeteringFrame : Prop :=
  ∀ (c : Instr) (s t : State), isMetering c = true → exec c s = .next t →
    Kept meteringFields s.dev t.dev ∧ t.dev.lanes = s.dev.lanes ∧ t.dev.cells = s.dev.cells ∧ SlotsKept s.dev t.dev ∧ t.dev.bank2 = s.dev.bank2
      ∧ PhasesKept s.dev t.dev ∧ t.dev.gates = s.dev.gates ∧ t.dev.enc = s.dev.enc ∧ t.dev.ports = s.dev.ports ∧ t.dev.hk = s.dev.hk
      ∧ t.dev.mram.keys = s.dev.mram.keys ∧ t.dev.mram.fw = s.dev.mram.fw

/-- The same of the lanes and their messages: among the registers they write (`linkFields`) are GLB_ESAP (R313) and what follows a cell's loss (R266). -/
def Obligations.LinkFrame : Prop :=
  ∀ (c : Instr) (s t : State), isLink c = true → exec c s = .next t →
    Kept linkFields s.dev t.dev ∧ SlotsKept s.dev t.dev ∧ t.dev.bank2 = s.dev.bank2
      ∧ PhasesKept s.dev t.dev ∧ t.dev.gates = s.dev.gates ∧ t.dev.enc = s.dev.enc ∧ t.dev.metCh = s.dev.metCh ∧ t.dev.metEl = s.dev.metEl
      ∧ t.dev.ports = s.dev.ports ∧ t.dev.hk = s.dev.hk ∧ t.dev.mram.keys = s.dev.mram.keys ∧ t.dev.mram.fw = s.dev.mram.fw

/-- The same of the Safety Island's inputs, diagnostics and reset sequence. -/
def Obligations.SafetyFrame : Prop :=
  ∀ (c : Instr) (s t : State), isSafety c = true → exec c s = .next t →
    Kept safetyFields s.dev t.dev ∧ t.dev.lanes = s.dev.lanes ∧ t.dev.cells = s.dev.cells ∧ SlotsKept s.dev t.dev ∧ t.dev.bank2 = s.dev.bank2
      ∧ PhasesKept s.dev t.dev ∧ t.dev.gates = s.dev.gates ∧ t.dev.enc = s.dev.enc ∧ t.dev.metCh = s.dev.metCh ∧ t.dev.metEl = s.dev.metEl
      ∧ t.dev.met = s.dev.met ∧ t.dev.ports = s.dev.ports ∧ t.dev.hk = s.dev.hk ∧ t.dev.mram.keys = s.dev.mram.keys ∧ t.dev.mram.fw = s.dev.mram.fw

/-- The same of trips, soft-off, status carriers, encoders and the SSI. -/
def Obligations.DriveFrame : Prop :=
  ∀ (c : Instr) (s t : State), isDrive c = true → exec c s = .next t →
    Kept driveFields s.dev t.dev ∧ t.dev.lanes = s.dev.lanes ∧ t.dev.cells = s.dev.cells ∧ SlotsKept s.dev t.dev ∧ t.dev.bank2 = s.dev.bank2
      ∧ PhasesKept s.dev t.dev ∧ t.dev.metCh = s.dev.metCh ∧ t.dev.metEl = s.dev.metEl
      ∧ t.dev.met = s.dev.met ∧ t.dev.ports = s.dev.ports ∧ t.dev.hk = s.dev.hk ∧ t.dev.mram.keys = s.dev.mram.keys ∧ t.dev.mram.fw = s.dev.mram.fw

/-- The same of ARRAY_SET and OUTPUT_SET: beside the registers they set they reach the counts of pending commands (R146). -/
def Obligations.SetFrame : Prop :=
  ∀ (c : Instr) (s t : State), isSet c = true → exec c s = .next t →
    Kept setFields s.dev t.dev ∧ t.dev.lanes = s.dev.lanes ∧ t.dev.cells = s.dev.cells ∧ t.dev.slots = s.dev.slots ∧ t.dev.bank2 = s.dev.bank2
      ∧ PhasesKept s.dev t.dev ∧ t.dev.gates = s.dev.gates ∧ t.dev.enc = s.dev.enc ∧ t.dev.metCh = s.dev.metCh ∧ t.dev.metEl = s.dev.metEl
      ∧ t.dev.met = s.dev.met ∧ t.dev.ports = s.dev.ports ∧ t.dev.hk = s.dev.hk ∧ t.dev.mram.keys = s.dev.mram.keys ∧ t.dev.mram.fw = s.dev.mram.fw

/-- The same of the host rings', the log's and the Archive's own events. -/
def Obligations.HostFrame : Prop :=
  ∀ (c : Instr) (s t : State), isHost c = true → exec c s = .next t →
    Kept hostFields s.dev t.dev ∧ t.dev.cells = s.dev.cells ∧ t.dev.bank2 = s.dev.bank2 ∧ PhasesKept s.dev t.dev ∧ t.dev.gates = s.dev.gates
      ∧ t.dev.enc = s.dev.enc ∧ t.dev.metCh = s.dev.metCh ∧ t.dev.metEl = s.dev.metEl ∧ t.dev.met = s.dev.met ∧ t.dev.ports = s.dev.ports
      ∧ t.dev.hk = s.dev.hk ∧ t.dev.mram.keys = s.dev.mram.keys ∧ t.dev.mram.fw = s.dev.mram.fw

/-- The same of wake sources, clocks and loans, where nothing waits for the event but the register it shows in. -/
def Obligations.ClockFrame : Prop :=
  ∀ (c : Instr) (s t : State), isClock c = true → exec c s = .next t →
    Kept clockFields s.dev t.dev ∧ t.dev.lanes = s.dev.lanes ∧ t.dev.cells = s.dev.cells ∧ t.dev.slots = s.dev.slots ∧ t.dev.bank2 = s.dev.bank2
      ∧ PhasesKept s.dev t.dev ∧ t.dev.gates = s.dev.gates ∧ t.dev.metCh = s.dev.metCh ∧ t.dev.metEl = s.dev.metEl ∧ t.dev.ports = s.dev.ports
      ∧ t.dev.hk = s.dev.hk ∧ t.dev.mram.keys = s.dev.mram.keys ∧ t.dev.mram.fw = s.dev.mram.fw

/-- The same of the commands of the module, the log, the Archive, the safety commit (with what a pair newly declared begins, R518), STOP, LOCKOUT_RESET, the
output groups and the collector. -/
def Obligations.CommandFrame : Prop :=
  ∀ (c : Instr) (s t : State), isCommand c = true → exec c s = .next t →
    Kept commandFields s.dev t.dev ∧ t.dev.lanes = s.dev.lanes ∧ t.dev.bank2 = s.dev.bank2 ∧ PhasesKept s.dev t.dev ∧ t.dev.enc = s.dev.enc
      ∧ t.dev.metCh = s.dev.metCh ∧ t.dev.metEl = s.dev.metEl ∧ t.dev.ports = s.dev.ports ∧ t.dev.hk = s.dev.hk

/-- The same of SLOT_WRITE, TABLE_WRITE and a slot's release: among the registers they write are the schedule's (R302). -/
def Obligations.LoopFrame : Prop :=
  ∀ (c : Instr) (s t : State), isLoop c = true → exec c s = .next t →
    Kept loopFields s.dev t.dev ∧ t.dev.cells = s.dev.cells ∧ PhasesKept s.dev t.dev ∧ t.dev.gates = s.dev.gates ∧ t.dev.enc = s.dev.enc
      ∧ t.dev.metCh = s.dev.metCh ∧ t.dev.metEl = s.dev.metEl ∧ t.dev.met = s.dev.met ∧ t.dev.ports = s.dev.ports ∧ t.dev.hk = s.dev.hk
      ∧ t.dev.mram.keys = s.dev.mram.keys ∧ t.dev.mram.fw = s.dev.mram.fw

/-- The same of the PWM channels, the output stage, the Hall inputs and the index pulses. -/
def Obligations.OutputFrame : Prop :=
  ∀ (c : Instr) (s t : State), isOutput c = true → exec c s = .next t →
    Kept outputFields s.dev t.dev ∧ t.dev.lanes = s.dev.lanes ∧ SlotsKept s.dev t.dev ∧ t.dev.bank2 = s.dev.bank2 ∧ t.dev.metCh = s.dev.metCh
      ∧ t.dev.metEl = s.dev.metEl ∧ t.dev.met = s.dev.met ∧ t.dev.ports = s.dev.ports ∧ t.dev.hk = s.dev.hk ∧ t.dev.mram.keys = s.dev.mram.keys
      ∧ t.dev.mram.fw = s.dev.mram.fw

/-- The same of the array, its cells and precharge: among the registers they write are the lanes' that a cell's loss or a bypass reaches (R266, R313). -/
def Obligations.ArrayFrame : Prop :=
  ∀ (c : Instr) (s t : State), isArray c = true → exec c s = .next t →
    Kept arrayFields s.dev t.dev ∧ t.dev.bank2 = s.dev.bank2 ∧ PhasesKept s.dev t.dev ∧ t.dev.gates = s.dev.gates ∧ t.dev.enc = s.dev.enc
      ∧ t.dev.metCh = s.dev.metCh ∧ t.dev.metEl = s.dev.metEl ∧ t.dev.met = s.dev.met ∧ t.dev.ports = s.dev.ports ∧ t.dev.hk = s.dev.hk
      ∧ t.dev.mram.keys = s.dev.mram.keys ∧ t.dev.mram.fw = s.dev.mram.fw

/-- The same of a housekeeping round. -/
def Obligations.HousekeepingFrame : Prop :=
  ∀ (c : Instr) (s t : State), isHousekeeping c = true → exec c s = .next t →
    Kept housekeepingFields s.dev t.dev ∧ SlotsKept s.dev t.dev ∧ t.dev.bank2 = s.dev.bank2 ∧ PhasesKept s.dev t.dev
      ∧ t.dev.gates = s.dev.gates ∧ t.dev.enc = s.dev.enc ∧ t.dev.metCh = s.dev.metCh ∧ t.dev.metEl = s.dev.metEl ∧ t.dev.met = s.dev.met
      ∧ t.dev.ports = s.dev.ports ∧ t.dev.mram.keys = s.dev.mram.keys ∧ t.dev.mram.fw = s.dev.mram.fw

/-- The same of the writes of one register with an effect of its own: among the registers written are all fields of that register, and what TEST_HOLD and
PW_FORCE bring about (R199, R368). -/
def Obligations.RegisterFrame : Prop :=
  ∀ (c : Instr) (s t : State), isRegister c = true → exec c s = .next t →
    Kept registerFields s.dev t.dev ∧ SlotsKept s.dev t.dev ∧ t.dev.bank2 = s.dev.bank2 ∧ PhasesKept s.dev t.dev ∧ t.dev.enc = s.dev.enc
      ∧ t.dev.metCh = s.dev.metCh ∧ t.dev.metEl = s.dev.metEl ∧ t.dev.met = s.dev.met ∧ t.dev.ports = s.dev.ports ∧ t.dev.hk = s.dev.hk
      ∧ t.dev.mram.keys = s.dev.mram.keys ∧ t.dev.mram.fw = s.dev.mram.fw
end

