-- ==== Sys2Proof/Laws/Store.lean ====
section
/-! SUPPORT. The laws of the register store: what a read finds after a write, that every write keeps the canonical form, and the same of a
field's element. -/

namespace Sys2Proof.Machine

theorem regGet_regDel_same (l : List (Nat × Nat)) (x : Nat) : regGet (regDel l x) x = 0 := by
  induction l with
  | nil => rfl
  | cons p r ih =>
    by_cases h : p.1 = x
    · simpa [regDel, h] using ih
    · simp [regDel, h] at ih ⊢; simp [regGet, h, ih]

theorem regGet_regDel_ne (l : List (Nat × Nat)) {x y : Nat} (h : y ≠ x) : regGet (regDel l x) y = regGet l y := by
  induction l with
  | nil => rfl
  | cons p r ih =>
    obtain ⟨k, v⟩ := p
    by_cases hk : k = x
    · subst hk; simp only [regDel, bne_self_eq_false, Bool.false_eq_true, not_false_eq_true, List.filter_cons_of_neg]
      simp only [regDel] at ih
      simp [regGet, ih, Ne.symm h]
    · simp only [regDel] at ih
      simp [regDel, hk, regGet, ih]

theorem regGet_regIns_ne (l : List (Nat × Nat)) {x y : Nat} (v : Nat) (h : y ≠ x) : regGet (regIns l x v) y = regGet l y := by
  induction l with
  | nil => simp [regIns, regGet, Ne.symm h]
  | cons p r ih =>
    obtain ⟨k, u⟩ := p
    unfold regIns; split
    · simp [regGet, Ne.symm h]
    · simp [regGet, ih]

theorem regGet_regIns_same (l : List (Nat × Nat)) (x v : Nat) (h : ∀ p ∈ l, p.1 ≠ x) : regGet (regIns l x v) x = v := by
  induction l with
  | nil => simp [regIns, regGet]
  | cons p r ih =>
    obtain ⟨k, u⟩ := p
    have hk : k ≠ x := h (k, u) (by simp)
    unfold regIns; split
    · simp [regGet]
    · simp [regGet, hk, ih (fun q hq => h q (by simp [hq]))]

/-- Reading a key that was just written gives the value written. -/
theorem regGet_regPut_same (l : List (Nat × Nat)) (x v : Nat) : regGet (regPut l x v) x = v := by
  unfold regPut; split
  · rename_i h; rw [regGet_regDel_same, h]
  · exact regGet_regIns_same _ _ _ (fun p hp => by simpa using (List.mem_filter.mp hp).2)

/-- A write leaves every other key alone. -/
theorem regGet_regPut_ne (l : List (Nat × Nat)) {x y : Nat} (v : Nat) (h : y ≠ x) : regGet (regPut l x v) y = regGet l y := by
  unfold regPut; split
  · exact regGet_regDel_ne l h
  · rw [regGet_regIns_ne _ _ h, regGet_regDel_ne l h]

/-! The canonical form -/

/-- The canonical form, as an ordered chain of listed non-zero values. -/
theorem regWf_iff (l : List (Nat × Nat)) : regWf l = true ↔ (l.Pairwise (fun a b => a.1 < b.1)) ∧ ∀ p ∈ l, p.2 ≠ 0 := by
  induction l with
  | nil => simp [regWf]
  | cons p r ih =>
    obtain ⟨k, v⟩ := p
    cases r with
    | nil => simp [regWf]
    | cons q r =>
      obtain ⟨k', v'⟩ := q
      have : regWf ((k, v) :: (k', v') :: r) = true ↔ v ≠ 0 ∧ k < k' ∧ regWf ((k', v') :: r) = true := by
        rw [regWf]; simp [and_assoc]
      rw [this, ih]
      simp only [List.pairwise_cons, List.mem_cons, forall_eq_or_imp]
      constructor
      · rintro ⟨a, b, ⟨c, e⟩, f⟩
        exact ⟨⟨⟨b, fun x hx => lt_trans b (c x hx)⟩, c, e⟩, a, f⟩
      · rintro ⟨⟨⟨b, _⟩, c, e⟩, a, f⟩
        exact ⟨a, b, ⟨c, e⟩, f⟩

theorem regDel_wf {l : List (Nat × Nat)} (x : Nat) (h : regWf l = true) : regWf (regDel l x) = true := by
  rw [regWf_iff] at h ⊢
  exact ⟨h.1.filter _, fun p hp => h.2 p (List.mem_filter.mp hp).1⟩

theorem regIns_mem {l : List (Nat × Nat)} {x v : Nat} {p : Nat × Nat} (h : p ∈ regIns l x v) : p = (x, v) ∨ p ∈ l := by
  induction l with
  | nil => simpa [regIns] using h
  | cons q r ih =>
    obtain ⟨k, u⟩ := q
    unfold regIns at h; split at h
    · simpa using h
    · rcases List.mem_cons.mp h with h | h
      · exact Or.inr (by simp [h])
      · rcases ih h with h | h
        · exact Or.inl h
        · exact Or.inr (by simp [h])

theorem regIns_wf {l : List (Nat × Nat)} {x v : Nat} (hv : v ≠ 0) (hx : ∀ p ∈ l, p.1 ≠ x) (h : regWf l = true) : regWf (regIns l x v) = true := by
  rw [regWf_iff] at h ⊢
  refine ⟨?_, fun p hp => by rcases regIns_mem hp with rfl | hp; exacts [hv, h.2 p hp]⟩
  induction l with
  | nil => simp [regIns]
  | cons q r ih =>
    obtain ⟨k, u⟩ := q
    have hk : k ≠ x := hx (k, u) (by simp)
    obtain ⟨hp, hn⟩ := h
    rw [List.pairwise_cons] at hp
    unfold regIns; split
    · rename_i hlt
      refine List.pairwise_cons.mpr ⟨?_, List.pairwise_cons.mpr hp⟩
      intro y hy
      rcases List.mem_cons.mp hy with rfl | hy
      · exact hlt
      · exact lt_trans hlt (hp.1 y hy)
    · refine List.pairwise_cons.mpr ⟨?_, ih (fun p hp => hx p (by simp [hp])) ⟨hp.2, fun p hp => hn p (by simp [hp])⟩⟩
      intro y hy
      rcases regIns_mem hy with rfl | hy
      · simp only; omega
      · exact hp.1 y hy

/-- Every write keeps the canonical form. -/
theorem regPut_wf {l : List (Nat × Nat)} (x v : Nat) (h : regWf l = true) : regWf (regPut l x v) = true := by
  unfold regPut; split
  · exact regDel_wf x h
  · exact regIns_wf (by assumption) (fun p hp => by simpa using (List.mem_filter.mp hp).2) (regDel_wf x h)

/-- A filtered store keeps the canonical form (a reset, an unload). -/
theorem regFilter_wf {l : List (Nat × Nat)} (q : Nat × Nat → Bool) (h : regWf l = true) : regWf (l.filter q) = true := by
  rw [regWf_iff] at h ⊢
  exact ⟨h.1.filter _, fun p hp => h.2 p (List.mem_filter.mp hp).1⟩

/-! Fields -/

/-- A write of an element inside its array reads back, kept to the field's width. -/
theorem Dev.get_set_same (d : Dev) (f : Fld) (v : Nat) {a b c : Nat} (h : a < f.n1 ∧ b < f.n2 ∧ c < f.n3) :
    (d.set f v a b c).get f a b c = v % 2 ^ f.w := by
  simp [Dev.set, h, Dev.get, regGet_regPut_same]

/-- A write leaves every element of another key alone. -/
theorem Dev.get_set_ne (d : Dev) (f g : Fld) (v : Nat) {a b c a' b' c' : Nat} (h : g.key a' b' c' ≠ f.key a b c) :
    (d.set f v a b c).get g a' b' c' = d.get g a' b' c' := by
  unfold Dev.set; split
  · simp [Dev.get, regGet_regPut_ne _ _ h]
  · rfl

/-- A write outside a field's array changes nothing. -/
theorem Dev.set_outside (d : Dev) (f : Fld) (v : Nat) {a b c : Nat} (h : ¬(a < f.n1 ∧ b < f.n2 ∧ c < f.n3)) : d.set f v a b c = d := by
  simp [Dev.set, h]

theorem Dev.set_wf (d : Dev) (f : Fld) (v a b c : Nat) (h : regWf d.regs = true) : regWf (d.set f v a b c).regs = true := by
  unfold Dev.set; split
  · exact regPut_wf _ _ h
  · exact h

end Sys2Proof.Machine
end

