-- ==== Sys2Proof/Laws/State.lean ====
section
/-! SUPPORT. What each small update of the block leaves alone: one lemma per field per update, all by unfolding one record update. -/

namespace Sys2Proof.Machine

/-! A register write changes the register store only. -/

@[simp] theorem Dev.set_tick (d : Dev) (f : Fld) (v a b c : Nat) : (d.set f v a b c).tick = d.tick := by unfold Dev.set; split <;> rfl
@[simp] theorem Dev.set_freeCtr (d : Dev) (f : Fld) (v a b c : Nat) : (d.set f v a b c).freeCtr = d.freeCtr := by unfold Dev.set; split <;> rfl
@[simp] theorem Dev.set_timers (d : Dev) (f : Fld) (v a b c : Nat) : (d.set f v a b c).timers = d.timers := by unfold Dev.set; split <;> rfl
@[simp] theorem Dev.set_out (d : Dev) (f : Fld) (v a b c : Nat) : (d.set f v a b c).out = d.out := by unfold Dev.set; split <;> rfl
@[simp] theorem Dev.set_pwr (d : Dev) (f : Fld) (v a b c : Nat) : (d.set f v a b c).pwr = d.pwr := by unfold Dev.set; split <;> rfl
@[simp] theorem Dev.set_clk (d : Dev) (f : Fld) (v a b c : Nat) : (d.set f v a b c).clk = d.clk := by unfold Dev.set; split <;> rfl
@[simp] theorem Dev.set_loans (d : Dev) (f : Fld) (v a b c : Nat) : (d.set f v a b c).loans = d.loans := by unfold Dev.set; split <;> rfl
@[simp] theorem Dev.set_loanWait (d : Dev) (f : Fld) (v a b c : Nat) : (d.set f v a b c).loanWait = d.loanWait := by unfold Dev.set; split <;> rfl
@[simp] theorem Dev.set_mram (d : Dev) (f : Fld) (v a b c : Nat) : (d.set f v a b c).mram = d.mram := by unfold Dev.set; split <;> rfl
@[simp] theorem Dev.set_rings (d : Dev) (f : Fld) (v a b c : Nat) : (d.set f v a b c).rings = d.rings := by unfold Dev.set; split <;> rfl
@[simp] theorem Dev.set_prov (d : Dev) (f : Fld) (v a b c : Nat) : (d.set f v a b c).prov = d.prov := by unfold Dev.set; split <;> rfl
@[simp] theorem Dev.set_reg (d : Dev) (f : Fld) (v a b c : Nat) : (d.set f v a b c).reg = d.reg := by unfold Dev.set; split <;> rfl
@[simp] theorem Dev.set_lanes (d : Dev) (f : Fld) (v a b c : Nat) : (d.set f v a b c).lanes = d.lanes := by unfold Dev.set; split <;> rfl
@[simp] theorem Dev.set_cells (d : Dev) (f : Fld) (v a b c : Nat) : (d.set f v a b c).cells = d.cells := by unfold Dev.set; split <;> rfl
@[simp] theorem Dev.set_arr (d : Dev) (f : Fld) (v a b c : Nat) : (d.set f v a b c).arr = d.arr := by unfold Dev.set; split <;> rfl
@[simp] theorem Dev.set_slots (d : Dev) (f : Fld) (v a b c : Nat) : (d.set f v a b c).slots = d.slots := by unfold Dev.set; split <;> rfl
@[simp] theorem Dev.set_bank2 (d : Dev) (f : Fld) (v a b c : Nat) : (d.set f v a b c).bank2 = d.bank2 := by unfold Dev.set; split <;> rfl
@[simp] theorem Dev.set_phases (d : Dev) (f : Fld) (v a b c : Nat) : (d.set f v a b c).phases = d.phases := by unfold Dev.set; split <;> rfl
@[simp] theorem Dev.set_groups (d : Dev) (f : Fld) (v a b c : Nat) : (d.set f v a b c).groups = d.groups := by unfold Dev.set; split <;> rfl
@[simp] theorem Dev.set_pwm (d : Dev) (f : Fld) (v a b c : Nat) : (d.set f v a b c).pwm = d.pwm := by unfold Dev.set; split <;> rfl
@[simp] theorem Dev.set_gates (d : Dev) (f : Fld) (v a b c : Nat) : (d.set f v a b c).gates = d.gates := by unfold Dev.set; split <;> rfl
@[simp] theorem Dev.set_os (d : Dev) (f : Fld) (v a b c : Nat) : (d.set f v a b c).os = d.os := by unfold Dev.set; split <;> rfl
@[simp] theorem Dev.set_enc (d : Dev) (f : Fld) (v a b c : Nat) : (d.set f v a b c).enc = d.enc := by unfold Dev.set; split <;> rfl
@[simp] theorem Dev.set_col (d : Dev) (f : Fld) (v a b c : Nat) : (d.set f v a b c).col = d.col := by unfold Dev.set; split <;> rfl
@[simp] theorem Dev.set_metCh (d : Dev) (f : Fld) (v a b c : Nat) : (d.set f v a b c).metCh = d.metCh := by unfold Dev.set; split <;> rfl
@[simp] theorem Dev.set_metEl (d : Dev) (f : Fld) (v a b c : Nat) : (d.set f v a b c).metEl = d.metEl := by unfold Dev.set; split <;> rfl
@[simp] theorem Dev.set_met (d : Dev) (f : Fld) (v a b c : Nat) : (d.set f v a b c).met = d.met := by unfold Dev.set; split <;> rfl
@[simp] theorem Dev.set_ports (d : Dev) (f : Fld) (v a b c : Nat) : (d.set f v a b c).ports = d.ports := by unfold Dev.set; split <;> rfl
@[simp] theorem Dev.set_chr (d : Dev) (f : Fld) (v a b c : Nat) : (d.set f v a b c).chr = d.chr := by unfold Dev.set; split <;> rfl
@[simp] theorem Dev.set_saf (d : Dev) (f : Fld) (v a b c : Nat) : (d.set f v a b c).saf = d.saf := by unfold Dev.set; split <;> rfl
@[simp] theorem Dev.set_hk (d : Dev) (f : Fld) (v a b c : Nat) : (d.set f v a b c).hk = d.hk := by unfold Dev.set; split <;> rfl

/-! `arm` changes `timers` only. -/

@[simp] theorem Dev.arm_get (d : Dev) (t : Timer) (n : Nat) (f : Fld) (a b c : Nat) : (d.arm t n).get f a b c = d.get f a b c := rfl
@[simp] theorem Dev.arm_regs (d : Dev) (t : Timer) (n : Nat) : (d.arm t n).regs = d.regs := rfl
@[simp] theorem Dev.arm_tick (d : Dev) (t : Timer) (n : Nat) : (d.arm t n).tick = d.tick := rfl
@[simp] theorem Dev.arm_freeCtr (d : Dev) (t : Timer) (n : Nat) : (d.arm t n).freeCtr = d.freeCtr := rfl
@[simp] theorem Dev.arm_out (d : Dev) (t : Timer) (n : Nat) : (d.arm t n).out = d.out := rfl
@[simp] theorem Dev.arm_pwr (d : Dev) (t : Timer) (n : Nat) : (d.arm t n).pwr = d.pwr := rfl
@[simp] theorem Dev.arm_clk (d : Dev) (t : Timer) (n : Nat) : (d.arm t n).clk = d.clk := rfl
@[simp] theorem Dev.arm_loans (d : Dev) (t : Timer) (n : Nat) : (d.arm t n).loans = d.loans := rfl
@[simp] theorem Dev.arm_loanWait (d : Dev) (t : Timer) (n : Nat) : (d.arm t n).loanWait = d.loanWait := rfl
@[simp] theorem Dev.arm_mram (d : Dev) (t : Timer) (n : Nat) : (d.arm t n).mram = d.mram := rfl
@[simp] theorem Dev.arm_rings (d : Dev) (t : Timer) (n : Nat) : (d.arm t n).rings = d.rings := rfl
@[simp] theorem Dev.arm_prov (d : Dev) (t : Timer) (n : Nat) : (d.arm t n).prov = d.prov := rfl
@[simp] theorem Dev.arm_reg (d : Dev) (t : Timer) (n : Nat) : (d.arm t n).reg = d.reg := rfl
@[simp] theorem Dev.arm_lanes (d : Dev) (t : Timer) (n : Nat) : (d.arm t n).lanes = d.lanes := rfl
@[simp] theorem Dev.arm_cells (d : Dev) (t : Timer) (n : Nat) : (d.arm t n).cells = d.cells := rfl
@[simp] theorem Dev.arm_arr (d : Dev) (t : Timer) (n : Nat) : (d.arm t n).arr = d.arr := rfl
@[simp] theorem Dev.arm_slots (d : Dev) (t : Timer) (n : Nat) : (d.arm t n).slots = d.slots := rfl
@[simp] theorem Dev.arm_bank2 (d : Dev) (t : Timer) (n : Nat) : (d.arm t n).bank2 = d.bank2 := rfl
@[simp] theorem Dev.arm_phases (d : Dev) (t : Timer) (n : Nat) : (d.arm t n).phases = d.phases := rfl
@[simp] theorem Dev.arm_groups (d : Dev) (t : Timer) (n : Nat) : (d.arm t n).groups = d.groups := rfl
@[simp] theorem Dev.arm_pwm (d : Dev) (t : Timer) (n : Nat) : (d.arm t n).pwm = d.pwm := rfl
@[simp] theorem Dev.arm_gates (d : Dev) (t : Timer) (n : Nat) : (d.arm t n).gates = d.gates := rfl
@[simp] theorem Dev.arm_os (d : Dev) (t : Timer) (n : Nat) : (d.arm t n).os = d.os := rfl
@[simp] theorem Dev.arm_enc (d : Dev) (t : Timer) (n : Nat) : (d.arm t n).enc = d.enc := rfl
@[simp] theorem Dev.arm_col (d : Dev) (t : Timer) (n : Nat) : (d.arm t n).col = d.col := rfl
@[simp] theorem Dev.arm_metCh (d : Dev) (t : Timer) (n : Nat) : (d.arm t n).metCh = d.metCh := rfl
@[simp] theorem Dev.arm_metEl (d : Dev) (t : Timer) (n : Nat) : (d.arm t n).metEl = d.metEl := rfl
@[simp] theorem Dev.arm_met (d : Dev) (t : Timer) (n : Nat) : (d.arm t n).met = d.met := rfl
@[simp] theorem Dev.arm_ports (d : Dev) (t : Timer) (n : Nat) : (d.arm t n).ports = d.ports := rfl
@[simp] theorem Dev.arm_chr (d : Dev) (t : Timer) (n : Nat) : (d.arm t n).chr = d.chr := rfl
@[simp] theorem Dev.arm_saf (d : Dev) (t : Timer) (n : Nat) : (d.arm t n).saf = d.saf := rfl
@[simp] theorem Dev.arm_hk (d : Dev) (t : Timer) (n : Nat) : (d.arm t n).hk = d.hk := rfl

/-! `disarm` changes `timers` only. -/

@[simp] theorem Dev.disarm_get (d : Dev) (t : Timer) (f : Fld) (a b c : Nat) : (d.disarm t).get f a b c = d.get f a b c := rfl
@[simp] theorem Dev.disarm_regs (d : Dev) (t : Timer) : (d.disarm t).regs = d.regs := rfl
@[simp] theorem Dev.disarm_tick (d : Dev) (t : Timer) : (d.disarm t).tick = d.tick := rfl
@[simp] theorem Dev.disarm_freeCtr (d : Dev) (t : Timer) : (d.disarm t).freeCtr = d.freeCtr := rfl
@[simp] theorem Dev.disarm_out (d : Dev) (t : Timer) : (d.disarm t).out = d.out := rfl
@[simp] theorem Dev.disarm_pwr (d : Dev) (t : Timer) : (d.disarm t).pwr = d.pwr := rfl
@[simp] theorem Dev.disarm_clk (d : Dev) (t : Timer) : (d.disarm t).clk = d.clk := rfl
@[simp] theorem Dev.disarm_loans (d : Dev) (t : Timer) : (d.disarm t).loans = d.loans := rfl
@[simp] theorem Dev.disarm_loanWait (d : Dev) (t : Timer) : (d.disarm t).loanWait = d.loanWait := rfl
@[simp] theorem Dev.disarm_mram (d : Dev) (t : Timer) : (d.disarm t).mram = d.mram := rfl
@[simp] theorem Dev.disarm_rings (d : Dev) (t : Timer) : (d.disarm t).rings = d.rings := rfl
@[simp] theorem Dev.disarm_prov (d : Dev) (t : Timer) : (d.disarm t).prov = d.prov := rfl
@[simp] theorem Dev.disarm_reg (d : Dev) (t : Timer) : (d.disarm t).reg = d.reg := rfl
@[simp] theorem Dev.disarm_lanes (d : Dev) (t : Timer) : (d.disarm t).lanes = d.lanes := rfl
@[simp] theorem Dev.disarm_cells (d : Dev) (t : Timer) : (d.disarm t).cells = d.cells := rfl
@[simp] theorem Dev.disarm_arr (d : Dev) (t : Timer) : (d.disarm t).arr = d.arr := rfl
@[simp] theorem Dev.disarm_slots (d : Dev) (t : Timer) : (d.disarm t).slots = d.slots := rfl
@[simp] theorem Dev.disarm_bank2 (d : Dev) (t : Timer) : (d.disarm t).bank2 = d.bank2 := rfl
@[simp] theorem Dev.disarm_phases (d : Dev) (t : Timer) : (d.disarm t).phases = d.phases := rfl
@[simp] theorem Dev.disarm_groups (d : Dev) (t : Timer) : (d.disarm t).groups = d.groups := rfl
@[simp] theorem Dev.disarm_pwm (d : Dev) (t : Timer) : (d.disarm t).pwm = d.pwm := rfl
@[simp] theorem Dev.disarm_gates (d : Dev) (t : Timer) : (d.disarm t).gates = d.gates := rfl
@[simp] theorem Dev.disarm_os (d : Dev) (t : Timer) : (d.disarm t).os = d.os := rfl
@[simp] theorem Dev.disarm_enc (d : Dev) (t : Timer) : (d.disarm t).enc = d.enc := rfl
@[simp] theorem Dev.disarm_col (d : Dev) (t : Timer) : (d.disarm t).col = d.col := rfl
@[simp] theorem Dev.disarm_metCh (d : Dev) (t : Timer) : (d.disarm t).metCh = d.metCh := rfl
@[simp] theorem Dev.disarm_metEl (d : Dev) (t : Timer) : (d.disarm t).metEl = d.metEl := rfl
@[simp] theorem Dev.disarm_met (d : Dev) (t : Timer) : (d.disarm t).met = d.met := rfl
@[simp] theorem Dev.disarm_ports (d : Dev) (t : Timer) : (d.disarm t).ports = d.ports := rfl
@[simp] theorem Dev.disarm_chr (d : Dev) (t : Timer) : (d.disarm t).chr = d.chr := rfl
@[simp] theorem Dev.disarm_saf (d : Dev) (t : Timer) : (d.disarm t).saf = d.saf := rfl
@[simp] theorem Dev.disarm_hk (d : Dev) (t : Timer) : (d.disarm t).hk = d.hk := rfl

/-! `emit` changes `out` only. -/

@[simp] theorem Dev.emit_get (d : Dev) (o : Out) (f : Fld) (a b c : Nat) : (d.emit o).get f a b c = d.get f a b c := rfl
@[simp] theorem Dev.emit_regs (d : Dev) (o : Out) : (d.emit o).regs = d.regs := rfl
@[simp] theorem Dev.emit_tick (d : Dev) (o : Out) : (d.emit o).tick = d.tick := rfl
@[simp] theorem Dev.emit_freeCtr (d : Dev) (o : Out) : (d.emit o).freeCtr = d.freeCtr := rfl
@[simp] theorem Dev.emit_timers (d : Dev) (o : Out) : (d.emit o).timers = d.timers := rfl
@[simp] theorem Dev.emit_pwr (d : Dev) (o : Out) : (d.emit o).pwr = d.pwr := rfl
@[simp] theorem Dev.emit_clk (d : Dev) (o : Out) : (d.emit o).clk = d.clk := rfl
@[simp] theorem Dev.emit_loans (d : Dev) (o : Out) : (d.emit o).loans = d.loans := rfl
@[simp] theorem Dev.emit_loanWait (d : Dev) (o : Out) : (d.emit o).loanWait = d.loanWait := rfl
@[simp] theorem Dev.emit_mram (d : Dev) (o : Out) : (d.emit o).mram = d.mram := rfl
@[simp] theorem Dev.emit_rings (d : Dev) (o : Out) : (d.emit o).rings = d.rings := rfl
@[simp] theorem Dev.emit_prov (d : Dev) (o : Out) : (d.emit o).prov = d.prov := rfl
@[simp] theorem Dev.emit_reg (d : Dev) (o : Out) : (d.emit o).reg = d.reg := rfl
@[simp] theorem Dev.emit_lanes (d : Dev) (o : Out) : (d.emit o).lanes = d.lanes := rfl
@[simp] theorem Dev.emit_cells (d : Dev) (o : Out) : (d.emit o).cells = d.cells := rfl
@[simp] theorem Dev.emit_arr (d : Dev) (o : Out) : (d.emit o).arr = d.arr := rfl
@[simp] theorem Dev.emit_slots (d : Dev) (o : Out) : (d.emit o).slots = d.slots := rfl
@[simp] theorem Dev.emit_bank2 (d : Dev) (o : Out) : (d.emit o).bank2 = d.bank2 := rfl
@[simp] theorem Dev.emit_phases (d : Dev) (o : Out) : (d.emit o).phases = d.phases := rfl
@[simp] theorem Dev.emit_groups (d : Dev) (o : Out) : (d.emit o).groups = d.groups := rfl
@[simp] theorem Dev.emit_pwm (d : Dev) (o : Out) : (d.emit o).pwm = d.pwm := rfl
@[simp] theorem Dev.emit_gates (d : Dev) (o : Out) : (d.emit o).gates = d.gates := rfl
@[simp] theorem Dev.emit_os (d : Dev) (o : Out) : (d.emit o).os = d.os := rfl
@[simp] theorem Dev.emit_enc (d : Dev) (o : Out) : (d.emit o).enc = d.enc := rfl
@[simp] theorem Dev.emit_col (d : Dev) (o : Out) : (d.emit o).col = d.col := rfl
@[simp] theorem Dev.emit_metCh (d : Dev) (o : Out) : (d.emit o).metCh = d.metCh := rfl
@[simp] theorem Dev.emit_metEl (d : Dev) (o : Out) : (d.emit o).metEl = d.metEl := rfl
@[simp] theorem Dev.emit_met (d : Dev) (o : Out) : (d.emit o).met = d.met := rfl
@[simp] theorem Dev.emit_ports (d : Dev) (o : Out) : (d.emit o).ports = d.ports := rfl
@[simp] theorem Dev.emit_chr (d : Dev) (o : Out) : (d.emit o).chr = d.chr := rfl
@[simp] theorem Dev.emit_saf (d : Dev) (o : Out) : (d.emit o).saf = d.saf := rfl
@[simp] theorem Dev.emit_hk (d : Dev) (o : Out) : (d.emit o).hk = d.hk := rfl

/-! `free` changes `freeCtr` only. -/

@[simp] theorem Dev.free_get (d : Dev) (f : Fld) (a b c : Nat) : (d.free).get f a b c = d.get f a b c := rfl
@[simp] theorem Dev.free_regs (d : Dev) : (d.free).regs = d.regs := rfl
@[simp] theorem Dev.free_tick (d : Dev) : (d.free).tick = d.tick := rfl
@[simp] theorem Dev.free_timers (d : Dev) : (d.free).timers = d.timers := rfl
@[simp] theorem Dev.free_out (d : Dev) : (d.free).out = d.out := rfl
@[simp] theorem Dev.free_pwr (d : Dev) : (d.free).pwr = d.pwr := rfl
@[simp] theorem Dev.free_clk (d : Dev) : (d.free).clk = d.clk := rfl
@[simp] theorem Dev.free_loans (d : Dev) : (d.free).loans = d.loans := rfl
@[simp] theorem Dev.free_loanWait (d : Dev) : (d.free).loanWait = d.loanWait := rfl
@[simp] theorem Dev.free_mram (d : Dev) : (d.free).mram = d.mram := rfl
@[simp] theorem Dev.free_rings (d : Dev) : (d.free).rings = d.rings := rfl
@[simp] theorem Dev.free_prov (d : Dev) : (d.free).prov = d.prov := rfl
@[simp] theorem Dev.free_reg (d : Dev) : (d.free).reg = d.reg := rfl
@[simp] theorem Dev.free_lanes (d : Dev) : (d.free).lanes = d.lanes := rfl
@[simp] theorem Dev.free_cells (d : Dev) : (d.free).cells = d.cells := rfl
@[simp] theorem Dev.free_arr (d : Dev) : (d.free).arr = d.arr := rfl
@[simp] theorem Dev.free_slots (d : Dev) : (d.free).slots = d.slots := rfl
@[simp] theorem Dev.free_bank2 (d : Dev) : (d.free).bank2 = d.bank2 := rfl
@[simp] theorem Dev.free_phases (d : Dev) : (d.free).phases = d.phases := rfl
@[simp] theorem Dev.free_groups (d : Dev) : (d.free).groups = d.groups := rfl
@[simp] theorem Dev.free_pwm (d : Dev) : (d.free).pwm = d.pwm := rfl
@[simp] theorem Dev.free_gates (d : Dev) : (d.free).gates = d.gates := rfl
@[simp] theorem Dev.free_os (d : Dev) : (d.free).os = d.os := rfl
@[simp] theorem Dev.free_enc (d : Dev) : (d.free).enc = d.enc := rfl
@[simp] theorem Dev.free_col (d : Dev) : (d.free).col = d.col := rfl
@[simp] theorem Dev.free_metCh (d : Dev) : (d.free).metCh = d.metCh := rfl
@[simp] theorem Dev.free_metEl (d : Dev) : (d.free).metEl = d.metEl := rfl
@[simp] theorem Dev.free_met (d : Dev) : (d.free).met = d.met := rfl
@[simp] theorem Dev.free_ports (d : Dev) : (d.free).ports = d.ports := rfl
@[simp] theorem Dev.free_chr (d : Dev) : (d.free).chr = d.chr := rfl
@[simp] theorem Dev.free_saf (d : Dev) : (d.free).saf = d.saf := rfl
@[simp] theorem Dev.free_hk (d : Dev) : (d.free).hk = d.hk := rfl

/-! `lane` changes `lanes` only. -/

@[simp] theorem Dev.lane_get (d : Dev) (k : Nat) (g : Lane → Lane) (f : Fld) (a b c : Nat) : (d.lane k g).get f a b c = d.get f a b c := rfl
@[simp] theorem Dev.lane_regs (d : Dev) (k : Nat) (g : Lane → Lane) : (d.lane k g).regs = d.regs := rfl
@[simp] theorem Dev.lane_tick (d : Dev) (k : Nat) (g : Lane → Lane) : (d.lane k g).tick = d.tick := rfl
@[simp] theorem Dev.lane_freeCtr (d : Dev) (k : Nat) (g : Lane → Lane) : (d.lane k g).freeCtr = d.freeCtr := rfl
@[simp] theorem Dev.lane_timers (d : Dev) (k : Nat) (g : Lane → Lane) : (d.lane k g).timers = d.timers := rfl
@[simp] theorem Dev.lane_out (d : Dev) (k : Nat) (g : Lane → Lane) : (d.lane k g).out = d.out := rfl
@[simp] theorem Dev.lane_pwr (d : Dev) (k : Nat) (g : Lane → Lane) : (d.lane k g).pwr = d.pwr := rfl
@[simp] theorem Dev.lane_clk (d : Dev) (k : Nat) (g : Lane → Lane) : (d.lane k g).clk = d.clk := rfl
@[simp] theorem Dev.lane_loans (d : Dev) (k : Nat) (g : Lane → Lane) : (d.lane k g).loans = d.loans := rfl
@[simp] theorem Dev.lane_loanWait (d : Dev) (k : Nat) (g : Lane → Lane) : (d.lane k g).loanWait = d.loanWait := rfl
@[simp] theorem Dev.lane_mram (d : Dev) (k : Nat) (g : Lane → Lane) : (d.lane k g).mram = d.mram := rfl
@[simp] theorem Dev.lane_rings (d : Dev) (k : Nat) (g : Lane → Lane) : (d.lane k g).rings = d.rings := rfl
@[simp] theorem Dev.lane_prov (d : Dev) (k : Nat) (g : Lane → Lane) : (d.lane k g).prov = d.prov := rfl
@[simp] theorem Dev.lane_reg (d : Dev) (k : Nat) (g : Lane → Lane) : (d.lane k g).reg = d.reg := rfl
@[simp] theorem Dev.lane_cells (d : Dev) (k : Nat) (g : Lane → Lane) : (d.lane k g).cells = d.cells := rfl
@[simp] theorem Dev.lane_arr (d : Dev) (k : Nat) (g : Lane → Lane) : (d.lane k g).arr = d.arr := rfl
@[simp] theorem Dev.lane_slots (d : Dev) (k : Nat) (g : Lane → Lane) : (d.lane k g).slots = d.slots := rfl
@[simp] theorem Dev.lane_bank2 (d : Dev) (k : Nat) (g : Lane → Lane) : (d.lane k g).bank2 = d.bank2 := rfl
@[simp] theorem Dev.lane_phases (d : Dev) (k : Nat) (g : Lane → Lane) : (d.lane k g).phases = d.phases := rfl
@[simp] theorem Dev.lane_groups (d : Dev) (k : Nat) (g : Lane → Lane) : (d.lane k g).groups = d.groups := rfl
@[simp] theorem Dev.lane_pwm (d : Dev) (k : Nat) (g : Lane → Lane) : (d.lane k g).pwm = d.pwm := rfl
@[simp] theorem Dev.lane_gates (d : Dev) (k : Nat) (g : Lane → Lane) : (d.lane k g).gates = d.gates := rfl
@[simp] theorem Dev.lane_os (d : Dev) (k : Nat) (g : Lane → Lane) : (d.lane k g).os = d.os := rfl
@[simp] theorem Dev.lane_enc (d : Dev) (k : Nat) (g : Lane → Lane) : (d.lane k g).enc = d.enc := rfl
@[simp] theorem Dev.lane_col (d : Dev) (k : Nat) (g : Lane → Lane) : (d.lane k g).col = d.col := rfl
@[simp] theorem Dev.lane_metCh (d : Dev) (k : Nat) (g : Lane → Lane) : (d.lane k g).metCh = d.metCh := rfl
@[simp] theorem Dev.lane_metEl (d : Dev) (k : Nat) (g : Lane → Lane) : (d.lane k g).metEl = d.metEl := rfl
@[simp] theorem Dev.lane_met (d : Dev) (k : Nat) (g : Lane → Lane) : (d.lane k g).met = d.met := rfl
@[simp] theorem Dev.lane_ports (d : Dev) (k : Nat) (g : Lane → Lane) : (d.lane k g).ports = d.ports := rfl
@[simp] theorem Dev.lane_chr (d : Dev) (k : Nat) (g : Lane → Lane) : (d.lane k g).chr = d.chr := rfl
@[simp] theorem Dev.lane_saf (d : Dev) (k : Nat) (g : Lane → Lane) : (d.lane k g).saf = d.saf := rfl
@[simp] theorem Dev.lane_hk (d : Dev) (k : Nat) (g : Lane → Lane) : (d.lane k g).hk = d.hk := rfl

/-! `cell` changes `cells` only. -/

@[simp] theorem Dev.cell_get (d : Dev) (k : Nat) (g : Cell → Cell) (f : Fld) (a b c : Nat) : (d.cell k g).get f a b c = d.get f a b c := rfl
@[simp] theorem Dev.cell_regs (d : Dev) (k : Nat) (g : Cell → Cell) : (d.cell k g).regs = d.regs := rfl
@[simp] theorem Dev.cell_tick (d : Dev) (k : Nat) (g : Cell → Cell) : (d.cell k g).tick = d.tick := rfl
@[simp] theorem Dev.cell_freeCtr (d : Dev) (k : Nat) (g : Cell → Cell) : (d.cell k g).freeCtr = d.freeCtr := rfl
@[simp] theorem Dev.cell_timers (d : Dev) (k : Nat) (g : Cell → Cell) : (d.cell k g).timers = d.timers := rfl
@[simp] theorem Dev.cell_out (d : Dev) (k : Nat) (g : Cell → Cell) : (d.cell k g).out = d.out := rfl
@[simp] theorem Dev.cell_pwr (d : Dev) (k : Nat) (g : Cell → Cell) : (d.cell k g).pwr = d.pwr := rfl
@[simp] theorem Dev.cell_clk (d : Dev) (k : Nat) (g : Cell → Cell) : (d.cell k g).clk = d.clk := rfl
@[simp] theorem Dev.cell_loans (d : Dev) (k : Nat) (g : Cell → Cell) : (d.cell k g).loans = d.loans := rfl
@[simp] theorem Dev.cell_loanWait (d : Dev) (k : Nat) (g : Cell → Cell) : (d.cell k g).loanWait = d.loanWait := rfl
@[simp] theorem Dev.cell_mram (d : Dev) (k : Nat) (g : Cell → Cell) : (d.cell k g).mram = d.mram := rfl
@[simp] theorem Dev.cell_rings (d : Dev) (k : Nat) (g : Cell → Cell) : (d.cell k g).rings = d.rings := rfl
@[simp] theorem Dev.cell_prov (d : Dev) (k : Nat) (g : Cell → Cell) : (d.cell k g).prov = d.prov := rfl
@[simp] theorem Dev.cell_reg (d : Dev) (k : Nat) (g : Cell → Cell) : (d.cell k g).reg = d.reg := rfl
@[simp] theorem Dev.cell_lanes (d : Dev) (k : Nat) (g : Cell → Cell) : (d.cell k g).lanes = d.lanes := rfl
@[simp] theorem Dev.cell_arr (d : Dev) (k : Nat) (g : Cell → Cell) : (d.cell k g).arr = d.arr := rfl
@[simp] theorem Dev.cell_slots (d : Dev) (k : Nat) (g : Cell → Cell) : (d.cell k g).slots = d.slots := rfl
@[simp] theorem Dev.cell_bank2 (d : Dev) (k : Nat) (g : Cell → Cell) : (d.cell k g).bank2 = d.bank2 := rfl
@[simp] theorem Dev.cell_phases (d : Dev) (k : Nat) (g : Cell → Cell) : (d.cell k g).phases = d.phases := rfl
@[simp] theorem Dev.cell_groups (d : Dev) (k : Nat) (g : Cell → Cell) : (d.cell k g).groups = d.groups := rfl
@[simp] theorem Dev.cell_pwm (d : Dev) (k : Nat) (g : Cell → Cell) : (d.cell k g).pwm = d.pwm := rfl
@[simp] theorem Dev.cell_gates (d : Dev) (k : Nat) (g : Cell → Cell) : (d.cell k g).gates = d.gates := rfl
@[simp] theorem Dev.cell_os (d : Dev) (k : Nat) (g : Cell → Cell) : (d.cell k g).os = d.os := rfl
@[simp] theorem Dev.cell_enc (d : Dev) (k : Nat) (g : Cell → Cell) : (d.cell k g).enc = d.enc := rfl
@[simp] theorem Dev.cell_col (d : Dev) (k : Nat) (g : Cell → Cell) : (d.cell k g).col = d.col := rfl
@[simp] theorem Dev.cell_metCh (d : Dev) (k : Nat) (g : Cell → Cell) : (d.cell k g).metCh = d.metCh := rfl
@[simp] theorem Dev.cell_metEl (d : Dev) (k : Nat) (g : Cell → Cell) : (d.cell k g).metEl = d.metEl := rfl
@[simp] theorem Dev.cell_met (d : Dev) (k : Nat) (g : Cell → Cell) : (d.cell k g).met = d.met := rfl
@[simp] theorem Dev.cell_ports (d : Dev) (k : Nat) (g : Cell → Cell) : (d.cell k g).ports = d.ports := rfl
@[simp] theorem Dev.cell_chr (d : Dev) (k : Nat) (g : Cell → Cell) : (d.cell k g).chr = d.chr := rfl
@[simp] theorem Dev.cell_saf (d : Dev) (k : Nat) (g : Cell → Cell) : (d.cell k g).saf = d.saf := rfl
@[simp] theorem Dev.cell_hk (d : Dev) (k : Nat) (g : Cell → Cell) : (d.cell k g).hk = d.hk := rfl

/-! `slot` changes `slots` only. -/

@[simp] theorem Dev.slot_get (d : Dev) (k : Nat) (g : Slot → Slot) (f : Fld) (a b c : Nat) : (d.slot k g).get f a b c = d.get f a b c := rfl
@[simp] theorem Dev.slot_regs (d : Dev) (k : Nat) (g : Slot → Slot) : (d.slot k g).regs = d.regs := rfl
@[simp] theorem Dev.slot_tick (d : Dev) (k : Nat) (g : Slot → Slot) : (d.slot k g).tick = d.tick := rfl
@[simp] theorem Dev.slot_freeCtr (d : Dev) (k : Nat) (g : Slot → Slot) : (d.slot k g).freeCtr = d.freeCtr := rfl
@[simp] theorem Dev.slot_timers (d : Dev) (k : Nat) (g : Slot → Slot) : (d.slot k g).timers = d.timers := rfl
@[simp] theorem Dev.slot_out (d : Dev) (k : Nat) (g : Slot → Slot) : (d.slot k g).out = d.out := rfl
@[simp] theorem Dev.slot_pwr (d : Dev) (k : Nat) (g : Slot → Slot) : (d.slot k g).pwr = d.pwr := rfl
@[simp] theorem Dev.slot_clk (d : Dev) (k : Nat) (g : Slot → Slot) : (d.slot k g).clk = d.clk := rfl
@[simp] theorem Dev.slot_loans (d : Dev) (k : Nat) (g : Slot → Slot) : (d.slot k g).loans = d.loans := rfl
@[simp] theorem Dev.slot_loanWait (d : Dev) (k : Nat) (g : Slot → Slot) : (d.slot k g).loanWait = d.loanWait := rfl
@[simp] theorem Dev.slot_mram (d : Dev) (k : Nat) (g : Slot → Slot) : (d.slot k g).mram = d.mram := rfl
@[simp] theorem Dev.slot_rings (d : Dev) (k : Nat) (g : Slot → Slot) : (d.slot k g).rings = d.rings := rfl
@[simp] theorem Dev.slot_prov (d : Dev) (k : Nat) (g : Slot → Slot) : (d.slot k g).prov = d.prov := rfl
@[simp] theorem Dev.slot_reg (d : Dev) (k : Nat) (g : Slot → Slot) : (d.slot k g).reg = d.reg := rfl
@[simp] theorem Dev.slot_lanes (d : Dev) (k : Nat) (g : Slot → Slot) : (d.slot k g).lanes = d.lanes := rfl
@[simp] theorem Dev.slot_cells (d : Dev) (k : Nat) (g : Slot → Slot) : (d.slot k g).cells = d.cells := rfl
@[simp] theorem Dev.slot_arr (d : Dev) (k : Nat) (g : Slot → Slot) : (d.slot k g).arr = d.arr := rfl
@[simp] theorem Dev.slot_bank2 (d : Dev) (k : Nat) (g : Slot → Slot) : (d.slot k g).bank2 = d.bank2 := rfl
@[simp] theorem Dev.slot_phases (d : Dev) (k : Nat) (g : Slot → Slot) : (d.slot k g).phases = d.phases := rfl
@[simp] theorem Dev.slot_groups (d : Dev) (k : Nat) (g : Slot → Slot) : (d.slot k g).groups = d.groups := rfl
@[simp] theorem Dev.slot_pwm (d : Dev) (k : Nat) (g : Slot → Slot) : (d.slot k g).pwm = d.pwm := rfl
@[simp] theorem Dev.slot_gates (d : Dev) (k : Nat) (g : Slot → Slot) : (d.slot k g).gates = d.gates := rfl
@[simp] theorem Dev.slot_os (d : Dev) (k : Nat) (g : Slot → Slot) : (d.slot k g).os = d.os := rfl
@[simp] theorem Dev.slot_enc (d : Dev) (k : Nat) (g : Slot → Slot) : (d.slot k g).enc = d.enc := rfl
@[simp] theorem Dev.slot_col (d : Dev) (k : Nat) (g : Slot → Slot) : (d.slot k g).col = d.col := rfl
@[simp] theorem Dev.slot_metCh (d : Dev) (k : Nat) (g : Slot → Slot) : (d.slot k g).metCh = d.metCh := rfl
@[simp] theorem Dev.slot_metEl (d : Dev) (k : Nat) (g : Slot → Slot) : (d.slot k g).metEl = d.metEl := rfl
@[simp] theorem Dev.slot_met (d : Dev) (k : Nat) (g : Slot → Slot) : (d.slot k g).met = d.met := rfl
@[simp] theorem Dev.slot_ports (d : Dev) (k : Nat) (g : Slot → Slot) : (d.slot k g).ports = d.ports := rfl
@[simp] theorem Dev.slot_chr (d : Dev) (k : Nat) (g : Slot → Slot) : (d.slot k g).chr = d.chr := rfl
@[simp] theorem Dev.slot_saf (d : Dev) (k : Nat) (g : Slot → Slot) : (d.slot k g).saf = d.saf := rfl
@[simp] theorem Dev.slot_hk (d : Dev) (k : Nat) (g : Slot → Slot) : (d.slot k g).hk = d.hk := rfl

/-! `grp` changes `groups` only. -/

@[simp] theorem Dev.grp_get (d : Dev) (k : Nat) (g : Group → Group) (f : Fld) (a b c : Nat) : (d.grp k g).get f a b c = d.get f a b c := rfl
@[simp] theorem Dev.grp_regs (d : Dev) (k : Nat) (g : Group → Group) : (d.grp k g).regs = d.regs := rfl
@[simp] theorem Dev.grp_tick (d : Dev) (k : Nat) (g : Group → Group) : (d.grp k g).tick = d.tick := rfl
@[simp] theorem Dev.grp_freeCtr (d : Dev) (k : Nat) (g : Group → Group) : (d.grp k g).freeCtr = d.freeCtr := rfl
@[simp] theorem Dev.grp_timers (d : Dev) (k : Nat) (g : Group → Group) : (d.grp k g).timers = d.timers := rfl
@[simp] theorem Dev.grp_out (d : Dev) (k : Nat) (g : Group → Group) : (d.grp k g).out = d.out := rfl
@[simp] theorem Dev.grp_pwr (d : Dev) (k : Nat) (g : Group → Group) : (d.grp k g).pwr = d.pwr := rfl
@[simp] theorem Dev.grp_clk (d : Dev) (k : Nat) (g : Group → Group) : (d.grp k g).clk = d.clk := rfl
@[simp] theorem Dev.grp_loans (d : Dev) (k : Nat) (g : Group → Group) : (d.grp k g).loans = d.loans := rfl
@[simp] theorem Dev.grp_loanWait (d : Dev) (k : Nat) (g : Group → Group) : (d.grp k g).loanWait = d.loanWait := rfl
@[simp] theorem Dev.grp_mram (d : Dev) (k : Nat) (g : Group → Group) : (d.grp k g).mram = d.mram := rfl
@[simp] theorem Dev.grp_rings (d : Dev) (k : Nat) (g : Group → Group) : (d.grp k g).rings = d.rings := rfl
@[simp] theorem Dev.grp_prov (d : Dev) (k : Nat) (g : Group → Group) : (d.grp k g).prov = d.prov := rfl
@[simp] theorem Dev.grp_reg (d : Dev) (k : Nat) (g : Group → Group) : (d.grp k g).reg = d.reg := rfl
@[simp] theorem Dev.grp_lanes (d : Dev) (k : Nat) (g : Group → Group) : (d.grp k g).lanes = d.lanes := rfl
@[simp] theorem Dev.grp_cells (d : Dev) (k : Nat) (g : Group → Group) : (d.grp k g).cells = d.cells := rfl
@[simp] theorem Dev.grp_arr (d : Dev) (k : Nat) (g : Group → Group) : (d.grp k g).arr = d.arr := rfl
@[simp] theorem Dev.grp_slots (d : Dev) (k : Nat) (g : Group → Group) : (d.grp k g).slots = d.slots := rfl
@[simp] theorem Dev.grp_bank2 (d : Dev) (k : Nat) (g : Group → Group) : (d.grp k g).bank2 = d.bank2 := rfl
@[simp] theorem Dev.grp_phases (d : Dev) (k : Nat) (g : Group → Group) : (d.grp k g).phases = d.phases := rfl
@[simp] theorem Dev.grp_pwm (d : Dev) (k : Nat) (g : Group → Group) : (d.grp k g).pwm = d.pwm := rfl
@[simp] theorem Dev.grp_gates (d : Dev) (k : Nat) (g : Group → Group) : (d.grp k g).gates = d.gates := rfl
@[simp] theorem Dev.grp_os (d : Dev) (k : Nat) (g : Group → Group) : (d.grp k g).os = d.os := rfl
@[simp] theorem Dev.grp_enc (d : Dev) (k : Nat) (g : Group → Group) : (d.grp k g).enc = d.enc := rfl
@[simp] theorem Dev.grp_col (d : Dev) (k : Nat) (g : Group → Group) : (d.grp k g).col = d.col := rfl
@[simp] theorem Dev.grp_metCh (d : Dev) (k : Nat) (g : Group → Group) : (d.grp k g).metCh = d.metCh := rfl
@[simp] theorem Dev.grp_metEl (d : Dev) (k : Nat) (g : Group → Group) : (d.grp k g).metEl = d.metEl := rfl
@[simp] theorem Dev.grp_met (d : Dev) (k : Nat) (g : Group → Group) : (d.grp k g).met = d.met := rfl
@[simp] theorem Dev.grp_ports (d : Dev) (k : Nat) (g : Group → Group) : (d.grp k g).ports = d.ports := rfl
@[simp] theorem Dev.grp_chr (d : Dev) (k : Nat) (g : Group → Group) : (d.grp k g).chr = d.chr := rfl
@[simp] theorem Dev.grp_saf (d : Dev) (k : Nat) (g : Group → Group) : (d.grp k g).saf = d.saf := rfl
@[simp] theorem Dev.grp_hk (d : Dev) (k : Nat) (g : Group → Group) : (d.grp k g).hk = d.hk := rfl

/-! `phs` changes `phases` only. -/

@[simp] theorem Dev.phs_get (d : Dev) (k : Nat) (g : Phase → Phase) (f : Fld) (a b c : Nat) : (d.phs k g).get f a b c = d.get f a b c := rfl
@[simp] theorem Dev.phs_regs (d : Dev) (k : Nat) (g : Phase → Phase) : (d.phs k g).regs = d.regs := rfl
@[simp] theorem Dev.phs_tick (d : Dev) (k : Nat) (g : Phase → Phase) : (d.phs k g).tick = d.tick := rfl
@[simp] theorem Dev.phs_freeCtr (d : Dev) (k : Nat) (g : Phase → Phase) : (d.phs k g).freeCtr = d.freeCtr := rfl
@[simp] theorem Dev.phs_timers (d : Dev) (k : Nat) (g : Phase → Phase) : (d.phs k g).timers = d.timers := rfl
@[simp] theorem Dev.phs_out (d : Dev) (k : Nat) (g : Phase → Phase) : (d.phs k g).out = d.out := rfl
@[simp] theorem Dev.phs_pwr (d : Dev) (k : Nat) (g : Phase → Phase) : (d.phs k g).pwr = d.pwr := rfl
@[simp] theorem Dev.phs_clk (d : Dev) (k : Nat) (g : Phase → Phase) : (d.phs k g).clk = d.clk := rfl
@[simp] theorem Dev.phs_loans (d : Dev) (k : Nat) (g : Phase → Phase) : (d.phs k g).loans = d.loans := rfl
@[simp] theorem Dev.phs_loanWait (d : Dev) (k : Nat) (g : Phase → Phase) : (d.phs k g).loanWait = d.loanWait := rfl
@[simp] theorem Dev.phs_mram (d : Dev) (k : Nat) (g : Phase → Phase) : (d.phs k g).mram = d.mram := rfl
@[simp] theorem Dev.phs_rings (d : Dev) (k : Nat) (g : Phase → Phase) : (d.phs k g).rings = d.rings := rfl
@[simp] theorem Dev.phs_prov (d : Dev) (k : Nat) (g : Phase → Phase) : (d.phs k g).prov = d.prov := rfl
@[simp] theorem Dev.phs_reg (d : Dev) (k : Nat) (g : Phase → Phase) : (d.phs k g).reg = d.reg := rfl
@[simp] theorem Dev.phs_lanes (d : Dev) (k : Nat) (g : Phase → Phase) : (d.phs k g).lanes = d.lanes := rfl
@[simp] theorem Dev.phs_cells (d : Dev) (k : Nat) (g : Phase → Phase) : (d.phs k g).cells = d.cells := rfl
@[simp] theorem Dev.phs_arr (d : Dev) (k : Nat) (g : Phase → Phase) : (d.phs k g).arr = d.arr := rfl
@[simp] theorem Dev.phs_slots (d : Dev) (k : Nat) (g : Phase → Phase) : (d.phs k g).slots = d.slots := rfl
@[simp] theorem Dev.phs_bank2 (d : Dev) (k : Nat) (g : Phase → Phase) : (d.phs k g).bank2 = d.bank2 := rfl
@[simp] theorem Dev.phs_groups (d : Dev) (k : Nat) (g : Phase → Phase) : (d.phs k g).groups = d.groups := rfl
@[simp] theorem Dev.phs_pwm (d : Dev) (k : Nat) (g : Phase → Phase) : (d.phs k g).pwm = d.pwm := rfl
@[simp] theorem Dev.phs_gates (d : Dev) (k : Nat) (g : Phase → Phase) : (d.phs k g).gates = d.gates := rfl
@[simp] theorem Dev.phs_os (d : Dev) (k : Nat) (g : Phase → Phase) : (d.phs k g).os = d.os := rfl
@[simp] theorem Dev.phs_enc (d : Dev) (k : Nat) (g : Phase → Phase) : (d.phs k g).enc = d.enc := rfl
@[simp] theorem Dev.phs_col (d : Dev) (k : Nat) (g : Phase → Phase) : (d.phs k g).col = d.col := rfl
@[simp] theorem Dev.phs_metCh (d : Dev) (k : Nat) (g : Phase → Phase) : (d.phs k g).metCh = d.metCh := rfl
@[simp] theorem Dev.phs_metEl (d : Dev) (k : Nat) (g : Phase → Phase) : (d.phs k g).metEl = d.metEl := rfl
@[simp] theorem Dev.phs_met (d : Dev) (k : Nat) (g : Phase → Phase) : (d.phs k g).met = d.met := rfl
@[simp] theorem Dev.phs_ports (d : Dev) (k : Nat) (g : Phase → Phase) : (d.phs k g).ports = d.ports := rfl
@[simp] theorem Dev.phs_chr (d : Dev) (k : Nat) (g : Phase → Phase) : (d.phs k g).chr = d.chr := rfl
@[simp] theorem Dev.phs_saf (d : Dev) (k : Nat) (g : Phase → Phase) : (d.phs k g).saf = d.saf := rfl
@[simp] theorem Dev.phs_hk (d : Dev) (k : Nat) (g : Phase → Phase) : (d.phs k g).hk = d.hk := rfl

/-! `pw` changes `pwm` only. -/

@[simp] theorem Dev.pw_get (d : Dev) (k : Nat) (g : Pwm → Pwm) (f : Fld) (a b c : Nat) : (d.pw k g).get f a b c = d.get f a b c := rfl
@[simp] theorem Dev.pw_regs (d : Dev) (k : Nat) (g : Pwm → Pwm) : (d.pw k g).regs = d.regs := rfl
@[simp] theorem Dev.pw_tick (d : Dev) (k : Nat) (g : Pwm → Pwm) : (d.pw k g).tick = d.tick := rfl
@[simp] theorem Dev.pw_freeCtr (d : Dev) (k : Nat) (g : Pwm → Pwm) : (d.pw k g).freeCtr = d.freeCtr := rfl
@[simp] theorem Dev.pw_timers (d : Dev) (k : Nat) (g : Pwm → Pwm) : (d.pw k g).timers = d.timers := rfl
@[simp] theorem Dev.pw_out (d : Dev) (k : Nat) (g : Pwm → Pwm) : (d.pw k g).out = d.out := rfl
@[simp] theorem Dev.pw_pwr (d : Dev) (k : Nat) (g : Pwm → Pwm) : (d.pw k g).pwr = d.pwr := rfl
@[simp] theorem Dev.pw_clk (d : Dev) (k : Nat) (g : Pwm → Pwm) : (d.pw k g).clk = d.clk := rfl
@[simp] theorem Dev.pw_loans (d : Dev) (k : Nat) (g : Pwm → Pwm) : (d.pw k g).loans = d.loans := rfl
@[simp] theorem Dev.pw_loanWait (d : Dev) (k : Nat) (g : Pwm → Pwm) : (d.pw k g).loanWait = d.loanWait := rfl
@[simp] theorem Dev.pw_mram (d : Dev) (k : Nat) (g : Pwm → Pwm) : (d.pw k g).mram = d.mram := rfl
@[simp] theorem Dev.pw_rings (d : Dev) (k : Nat) (g : Pwm → Pwm) : (d.pw k g).rings = d.rings := rfl
@[simp] theorem Dev.pw_prov (d : Dev) (k : Nat) (g : Pwm → Pwm) : (d.pw k g).prov = d.prov := rfl
@[simp] theorem Dev.pw_reg (d : Dev) (k : Nat) (g : Pwm → Pwm) : (d.pw k g).reg = d.reg := rfl
@[simp] theorem Dev.pw_lanes (d : Dev) (k : Nat) (g : Pwm → Pwm) : (d.pw k g).lanes = d.lanes := rfl
@[simp] theorem Dev.pw_cells (d : Dev) (k : Nat) (g : Pwm → Pwm) : (d.pw k g).cells = d.cells := rfl
@[simp] theorem Dev.pw_arr (d : Dev) (k : Nat) (g : Pwm → Pwm) : (d.pw k g).arr = d.arr := rfl
@[simp] theorem Dev.pw_slots (d : Dev) (k : Nat) (g : Pwm → Pwm) : (d.pw k g).slots = d.slots := rfl
@[simp] theorem Dev.pw_bank2 (d : Dev) (k : Nat) (g : Pwm → Pwm) : (d.pw k g).bank2 = d.bank2 := rfl
@[simp] theorem Dev.pw_phases (d : Dev) (k : Nat) (g : Pwm → Pwm) : (d.pw k g).phases = d.phases := rfl
@[simp] theorem Dev.pw_groups (d : Dev) (k : Nat) (g : Pwm → Pwm) : (d.pw k g).groups = d.groups := rfl
@[simp] theorem Dev.pw_gates (d : Dev) (k : Nat) (g : Pwm → Pwm) : (d.pw k g).gates = d.gates := rfl
@[simp] theorem Dev.pw_os (d : Dev) (k : Nat) (g : Pwm → Pwm) : (d.pw k g).os = d.os := rfl
@[simp] theorem Dev.pw_enc (d : Dev) (k : Nat) (g : Pwm → Pwm) : (d.pw k g).enc = d.enc := rfl
@[simp] theorem Dev.pw_col (d : Dev) (k : Nat) (g : Pwm → Pwm) : (d.pw k g).col = d.col := rfl
@[simp] theorem Dev.pw_metCh (d : Dev) (k : Nat) (g : Pwm → Pwm) : (d.pw k g).metCh = d.metCh := rfl
@[simp] theorem Dev.pw_metEl (d : Dev) (k : Nat) (g : Pwm → Pwm) : (d.pw k g).metEl = d.metEl := rfl
@[simp] theorem Dev.pw_met (d : Dev) (k : Nat) (g : Pwm → Pwm) : (d.pw k g).met = d.met := rfl
@[simp] theorem Dev.pw_ports (d : Dev) (k : Nat) (g : Pwm → Pwm) : (d.pw k g).ports = d.ports := rfl
@[simp] theorem Dev.pw_chr (d : Dev) (k : Nat) (g : Pwm → Pwm) : (d.pw k g).chr = d.chr := rfl
@[simp] theorem Dev.pw_saf (d : Dev) (k : Nat) (g : Pwm → Pwm) : (d.pw k g).saf = d.saf := rfl
@[simp] theorem Dev.pw_hk (d : Dev) (k : Nat) (g : Pwm → Pwm) : (d.pw k g).hk = d.hk := rfl

/-! `gd` changes `gates` only. -/

@[simp] theorem Dev.gd_get (d : Dev) (k : Nat) (g : Gate → Gate) (f : Fld) (a b c : Nat) : (d.gd k g).get f a b c = d.get f a b c := rfl
@[simp] theorem Dev.gd_regs (d : Dev) (k : Nat) (g : Gate → Gate) : (d.gd k g).regs = d.regs := rfl
@[simp] theorem Dev.gd_tick (d : Dev) (k : Nat) (g : Gate → Gate) : (d.gd k g).tick = d.tick := rfl
@[simp] theorem Dev.gd_freeCtr (d : Dev) (k : Nat) (g : Gate → Gate) : (d.gd k g).freeCtr = d.freeCtr := rfl
@[simp] theorem Dev.gd_timers (d : Dev) (k : Nat) (g : Gate → Gate) : (d.gd k g).timers = d.timers := rfl
@[simp] theorem Dev.gd_out (d : Dev) (k : Nat) (g : Gate → Gate) : (d.gd k g).out = d.out := rfl
@[simp] theorem Dev.gd_pwr (d : Dev) (k : Nat) (g : Gate → Gate) : (d.gd k g).pwr = d.pwr := rfl
@[simp] theorem Dev.gd_clk (d : Dev) (k : Nat) (g : Gate → Gate) : (d.gd k g).clk = d.clk := rfl
@[simp] theorem Dev.gd_loans (d : Dev) (k : Nat) (g : Gate → Gate) : (d.gd k g).loans = d.loans := rfl
@[simp] theorem Dev.gd_loanWait (d : Dev) (k : Nat) (g : Gate → Gate) : (d.gd k g).loanWait = d.loanWait := rfl
@[simp] theorem Dev.gd_mram (d : Dev) (k : Nat) (g : Gate → Gate) : (d.gd k g).mram = d.mram := rfl
@[simp] theorem Dev.gd_rings (d : Dev) (k : Nat) (g : Gate → Gate) : (d.gd k g).rings = d.rings := rfl
@[simp] theorem Dev.gd_prov (d : Dev) (k : Nat) (g : Gate → Gate) : (d.gd k g).prov = d.prov := rfl
@[simp] theorem Dev.gd_reg (d : Dev) (k : Nat) (g : Gate → Gate) : (d.gd k g).reg = d.reg := rfl
@[simp] theorem Dev.gd_lanes (d : Dev) (k : Nat) (g : Gate → Gate) : (d.gd k g).lanes = d.lanes := rfl
@[simp] theorem Dev.gd_cells (d : Dev) (k : Nat) (g : Gate → Gate) : (d.gd k g).cells = d.cells := rfl
@[simp] theorem Dev.gd_arr (d : Dev) (k : Nat) (g : Gate → Gate) : (d.gd k g).arr = d.arr := rfl
@[simp] theorem Dev.gd_slots (d : Dev) (k : Nat) (g : Gate → Gate) : (d.gd k g).slots = d.slots := rfl
@[simp] theorem Dev.gd_bank2 (d : Dev) (k : Nat) (g : Gate → Gate) : (d.gd k g).bank2 = d.bank2 := rfl
@[simp] theorem Dev.gd_phases (d : Dev) (k : Nat) (g : Gate → Gate) : (d.gd k g).phases = d.phases := rfl
@[simp] theorem Dev.gd_groups (d : Dev) (k : Nat) (g : Gate → Gate) : (d.gd k g).groups = d.groups := rfl
@[simp] theorem Dev.gd_pwm (d : Dev) (k : Nat) (g : Gate → Gate) : (d.gd k g).pwm = d.pwm := rfl
@[simp] theorem Dev.gd_os (d : Dev) (k : Nat) (g : Gate → Gate) : (d.gd k g).os = d.os := rfl
@[simp] theorem Dev.gd_enc (d : Dev) (k : Nat) (g : Gate → Gate) : (d.gd k g).enc = d.enc := rfl
@[simp] theorem Dev.gd_col (d : Dev) (k : Nat) (g : Gate → Gate) : (d.gd k g).col = d.col := rfl
@[simp] theorem Dev.gd_metCh (d : Dev) (k : Nat) (g : Gate → Gate) : (d.gd k g).metCh = d.metCh := rfl
@[simp] theorem Dev.gd_metEl (d : Dev) (k : Nat) (g : Gate → Gate) : (d.gd k g).metEl = d.metEl := rfl
@[simp] theorem Dev.gd_met (d : Dev) (k : Nat) (g : Gate → Gate) : (d.gd k g).met = d.met := rfl
@[simp] theorem Dev.gd_ports (d : Dev) (k : Nat) (g : Gate → Gate) : (d.gd k g).ports = d.ports := rfl
@[simp] theorem Dev.gd_chr (d : Dev) (k : Nat) (g : Gate → Gate) : (d.gd k g).chr = d.chr := rfl
@[simp] theorem Dev.gd_saf (d : Dev) (k : Nat) (g : Gate → Gate) : (d.gd k g).saf = d.saf := rfl
@[simp] theorem Dev.gd_hk (d : Dev) (k : Nat) (g : Gate → Gate) : (d.gd k g).hk = d.hk := rfl

/-! `en` changes `enc` only. -/

@[simp] theorem Dev.en_get (d : Dev) (k : Nat) (g : Enc → Enc) (f : Fld) (a b c : Nat) : (d.en k g).get f a b c = d.get f a b c := rfl
@[simp] theorem Dev.en_regs (d : Dev) (k : Nat) (g : Enc → Enc) : (d.en k g).regs = d.regs := rfl
@[simp] theorem Dev.en_tick (d : Dev) (k : Nat) (g : Enc → Enc) : (d.en k g).tick = d.tick := rfl
@[simp] theorem Dev.en_freeCtr (d : Dev) (k : Nat) (g : Enc → Enc) : (d.en k g).freeCtr = d.freeCtr := rfl
@[simp] theorem Dev.en_timers (d : Dev) (k : Nat) (g : Enc → Enc) : (d.en k g).timers = d.timers := rfl
@[simp] theorem Dev.en_out (d : Dev) (k : Nat) (g : Enc → Enc) : (d.en k g).out = d.out := rfl
@[simp] theorem Dev.en_pwr (d : Dev) (k : Nat) (g : Enc → Enc) : (d.en k g).pwr = d.pwr := rfl
@[simp] theorem Dev.en_clk (d : Dev) (k : Nat) (g : Enc → Enc) : (d.en k g).clk = d.clk := rfl
@[simp] theorem Dev.en_loans (d : Dev) (k : Nat) (g : Enc → Enc) : (d.en k g).loans = d.loans := rfl
@[simp] theorem Dev.en_loanWait (d : Dev) (k : Nat) (g : Enc → Enc) : (d.en k g).loanWait = d.loanWait := rfl
@[simp] theorem Dev.en_mram (d : Dev) (k : Nat) (g : Enc → Enc) : (d.en k g).mram = d.mram := rfl
@[simp] theorem Dev.en_rings (d : Dev) (k : Nat) (g : Enc → Enc) : (d.en k g).rings = d.rings := rfl
@[simp] theorem Dev.en_prov (d : Dev) (k : Nat) (g : Enc → Enc) : (d.en k g).prov = d.prov := rfl
@[simp] theorem Dev.en_reg (d : Dev) (k : Nat) (g : Enc → Enc) : (d.en k g).reg = d.reg := rfl
@[simp] theorem Dev.en_lanes (d : Dev) (k : Nat) (g : Enc → Enc) : (d.en k g).lanes = d.lanes := rfl
@[simp] theorem Dev.en_cells (d : Dev) (k : Nat) (g : Enc → Enc) : (d.en k g).cells = d.cells := rfl
@[simp] theorem Dev.en_arr (d : Dev) (k : Nat) (g : Enc → Enc) : (d.en k g).arr = d.arr := rfl
@[simp] theorem Dev.en_slots (d : Dev) (k : Nat) (g : Enc → Enc) : (d.en k g).slots = d.slots := rfl
@[simp] theorem Dev.en_bank2 (d : Dev) (k : Nat) (g : Enc → Enc) : (d.en k g).bank2 = d.bank2 := rfl
@[simp] theorem Dev.en_phases (d : Dev) (k : Nat) (g : Enc → Enc) : (d.en k g).phases = d.phases := rfl
@[simp] theorem Dev.en_groups (d : Dev) (k : Nat) (g : Enc → Enc) : (d.en k g).groups = d.groups := rfl
@[simp] theorem Dev.en_pwm (d : Dev) (k : Nat) (g : Enc → Enc) : (d.en k g).pwm = d.pwm := rfl
@[simp] theorem Dev.en_gates (d : Dev) (k : Nat) (g : Enc → Enc) : (d.en k g).gates = d.gates := rfl
@[simp] theorem Dev.en_os (d : Dev) (k : Nat) (g : Enc → Enc) : (d.en k g).os = d.os := rfl
@[simp] theorem Dev.en_col (d : Dev) (k : Nat) (g : Enc → Enc) : (d.en k g).col = d.col := rfl
@[simp] theorem Dev.en_metCh (d : Dev) (k : Nat) (g : Enc → Enc) : (d.en k g).metCh = d.metCh := rfl
@[simp] theorem Dev.en_metEl (d : Dev) (k : Nat) (g : Enc → Enc) : (d.en k g).metEl = d.metEl := rfl
@[simp] theorem Dev.en_met (d : Dev) (k : Nat) (g : Enc → Enc) : (d.en k g).met = d.met := rfl
@[simp] theorem Dev.en_ports (d : Dev) (k : Nat) (g : Enc → Enc) : (d.en k g).ports = d.ports := rfl
@[simp] theorem Dev.en_chr (d : Dev) (k : Nat) (g : Enc → Enc) : (d.en k g).chr = d.chr := rfl
@[simp] theorem Dev.en_saf (d : Dev) (k : Nat) (g : Enc → Enc) : (d.en k g).saf = d.saf := rfl
@[simp] theorem Dev.en_hk (d : Dev) (k : Nat) (g : Enc → Enc) : (d.en k g).hk = d.hk := rfl

/-! `mch` changes `metCh` only. -/

@[simp] theorem Dev.mch_get (d : Dev) (k : Nat) (g : MetCh → MetCh) (f : Fld) (a b c : Nat) : (d.mch k g).get f a b c = d.get f a b c := rfl
@[simp] theorem Dev.mch_regs (d : Dev) (k : Nat) (g : MetCh → MetCh) : (d.mch k g).regs = d.regs := rfl
@[simp] theorem Dev.mch_tick (d : Dev) (k : Nat) (g : MetCh → MetCh) : (d.mch k g).tick = d.tick := rfl
@[simp] theorem Dev.mch_freeCtr (d : Dev) (k : Nat) (g : MetCh → MetCh) : (d.mch k g).freeCtr = d.freeCtr := rfl
@[simp] theorem Dev.mch_timers (d : Dev) (k : Nat) (g : MetCh → MetCh) : (d.mch k g).timers = d.timers := rfl
@[simp] theorem Dev.mch_out (d : Dev) (k : Nat) (g : MetCh → MetCh) : (d.mch k g).out = d.out := rfl
@[simp] theorem Dev.mch_pwr (d : Dev) (k : Nat) (g : MetCh → MetCh) : (d.mch k g).pwr = d.pwr := rfl
@[simp] theorem Dev.mch_clk (d : Dev) (k : Nat) (g : MetCh → MetCh) : (d.mch k g).clk = d.clk := rfl
@[simp] theorem Dev.mch_loans (d : Dev) (k : Nat) (g : MetCh → MetCh) : (d.mch k g).loans = d.loans := rfl
@[simp] theorem Dev.mch_loanWait (d : Dev) (k : Nat) (g : MetCh → MetCh) : (d.mch k g).loanWait = d.loanWait := rfl
@[simp] theorem Dev.mch_mram (d : Dev) (k : Nat) (g : MetCh → MetCh) : (d.mch k g).mram = d.mram := rfl
@[simp] theorem Dev.mch_rings (d : Dev) (k : Nat) (g : MetCh → MetCh) : (d.mch k g).rings = d.rings := rfl
@[simp] theorem Dev.mch_prov (d : Dev) (k : Nat) (g : MetCh → MetCh) : (d.mch k g).prov = d.prov := rfl
@[simp] theorem Dev.mch_reg (d : Dev) (k : Nat) (g : MetCh → MetCh) : (d.mch k g).reg = d.reg := rfl
@[simp] theorem Dev.mch_lanes (d : Dev) (k : Nat) (g : MetCh → MetCh) : (d.mch k g).lanes = d.lanes := rfl
@[simp] theorem Dev.mch_cells (d : Dev) (k : Nat) (g : MetCh → MetCh) : (d.mch k g).cells = d.cells := rfl
@[simp] theorem Dev.mch_arr (d : Dev) (k : Nat) (g : MetCh → MetCh) : (d.mch k g).arr = d.arr := rfl
@[simp] theorem Dev.mch_slots (d : Dev) (k : Nat) (g : MetCh → MetCh) : (d.mch k g).slots = d.slots := rfl
@[simp] theorem Dev.mch_bank2 (d : Dev) (k : Nat) (g : MetCh → MetCh) : (d.mch k g).bank2 = d.bank2 := rfl
@[simp] theorem Dev.mch_phases (d : Dev) (k : Nat) (g : MetCh → MetCh) : (d.mch k g).phases = d.phases := rfl
@[simp] theorem Dev.mch_groups (d : Dev) (k : Nat) (g : MetCh → MetCh) : (d.mch k g).groups = d.groups := rfl
@[simp] theorem Dev.mch_pwm (d : Dev) (k : Nat) (g : MetCh → MetCh) : (d.mch k g).pwm = d.pwm := rfl
@[simp] theorem Dev.mch_gates (d : Dev) (k : Nat) (g : MetCh → MetCh) : (d.mch k g).gates = d.gates := rfl
@[simp] theorem Dev.mch_os (d : Dev) (k : Nat) (g : MetCh → MetCh) : (d.mch k g).os = d.os := rfl
@[simp] theorem Dev.mch_enc (d : Dev) (k : Nat) (g : MetCh → MetCh) : (d.mch k g).enc = d.enc := rfl
@[simp] theorem Dev.mch_col (d : Dev) (k : Nat) (g : MetCh → MetCh) : (d.mch k g).col = d.col := rfl
@[simp] theorem Dev.mch_metEl (d : Dev) (k : Nat) (g : MetCh → MetCh) : (d.mch k g).metEl = d.metEl := rfl
@[simp] theorem Dev.mch_met (d : Dev) (k : Nat) (g : MetCh → MetCh) : (d.mch k g).met = d.met := rfl
@[simp] theorem Dev.mch_ports (d : Dev) (k : Nat) (g : MetCh → MetCh) : (d.mch k g).ports = d.ports := rfl
@[simp] theorem Dev.mch_chr (d : Dev) (k : Nat) (g : MetCh → MetCh) : (d.mch k g).chr = d.chr := rfl
@[simp] theorem Dev.mch_saf (d : Dev) (k : Nat) (g : MetCh → MetCh) : (d.mch k g).saf = d.saf := rfl
@[simp] theorem Dev.mch_hk (d : Dev) (k : Nat) (g : MetCh → MetCh) : (d.mch k g).hk = d.hk := rfl

/-! `mel` changes `metEl` only. -/

@[simp] theorem Dev.mel_get (d : Dev) (k : Nat) (g : MetEl → MetEl) (f : Fld) (a b c : Nat) : (d.mel k g).get f a b c = d.get f a b c := rfl
@[simp] theorem Dev.mel_regs (d : Dev) (k : Nat) (g : MetEl → MetEl) : (d.mel k g).regs = d.regs := rfl
@[simp] theorem Dev.mel_tick (d : Dev) (k : Nat) (g : MetEl → MetEl) : (d.mel k g).tick = d.tick := rfl
@[simp] theorem Dev.mel_freeCtr (d : Dev) (k : Nat) (g : MetEl → MetEl) : (d.mel k g).freeCtr = d.freeCtr := rfl
@[simp] theorem Dev.mel_timers (d : Dev) (k : Nat) (g : MetEl → MetEl) : (d.mel k g).timers = d.timers := rfl
@[simp] theorem Dev.mel_out (d : Dev) (k : Nat) (g : MetEl → MetEl) : (d.mel k g).out = d.out := rfl
@[simp] theorem Dev.mel_pwr (d : Dev) (k : Nat) (g : MetEl → MetEl) : (d.mel k g).pwr = d.pwr := rfl
@[simp] theorem Dev.mel_clk (d : Dev) (k : Nat) (g : MetEl → MetEl) : (d.mel k g).clk = d.clk := rfl
@[simp] theorem Dev.mel_loans (d : Dev) (k : Nat) (g : MetEl → MetEl) : (d.mel k g).loans = d.loans := rfl
@[simp] theorem Dev.mel_loanWait (d : Dev) (k : Nat) (g : MetEl → MetEl) : (d.mel k g).loanWait = d.loanWait := rfl
@[simp] theorem Dev.mel_mram (d : Dev) (k : Nat) (g : MetEl → MetEl) : (d.mel k g).mram = d.mram := rfl
@[simp] theorem Dev.mel_rings (d : Dev) (k : Nat) (g : MetEl → MetEl) : (d.mel k g).rings = d.rings := rfl
@[simp] theorem Dev.mel_prov (d : Dev) (k : Nat) (g : MetEl → MetEl) : (d.mel k g).prov = d.prov := rfl
@[simp] theorem Dev.mel_reg (d : Dev) (k : Nat) (g : MetEl → MetEl) : (d.mel k g).reg = d.reg := rfl
@[simp] theorem Dev.mel_lanes (d : Dev) (k : Nat) (g : MetEl → MetEl) : (d.mel k g).lanes = d.lanes := rfl
@[simp] theorem Dev.mel_cells (d : Dev) (k : Nat) (g : MetEl → MetEl) : (d.mel k g).cells = d.cells := rfl
@[simp] theorem Dev.mel_arr (d : Dev) (k : Nat) (g : MetEl → MetEl) : (d.mel k g).arr = d.arr := rfl
@[simp] theorem Dev.mel_slots (d : Dev) (k : Nat) (g : MetEl → MetEl) : (d.mel k g).slots = d.slots := rfl
@[simp] theorem Dev.mel_bank2 (d : Dev) (k : Nat) (g : MetEl → MetEl) : (d.mel k g).bank2 = d.bank2 := rfl
@[simp] theorem Dev.mel_phases (d : Dev) (k : Nat) (g : MetEl → MetEl) : (d.mel k g).phases = d.phases := rfl
@[simp] theorem Dev.mel_groups (d : Dev) (k : Nat) (g : MetEl → MetEl) : (d.mel k g).groups = d.groups := rfl
@[simp] theorem Dev.mel_pwm (d : Dev) (k : Nat) (g : MetEl → MetEl) : (d.mel k g).pwm = d.pwm := rfl
@[simp] theorem Dev.mel_gates (d : Dev) (k : Nat) (g : MetEl → MetEl) : (d.mel k g).gates = d.gates := rfl
@[simp] theorem Dev.mel_os (d : Dev) (k : Nat) (g : MetEl → MetEl) : (d.mel k g).os = d.os := rfl
@[simp] theorem Dev.mel_enc (d : Dev) (k : Nat) (g : MetEl → MetEl) : (d.mel k g).enc = d.enc := rfl
@[simp] theorem Dev.mel_col (d : Dev) (k : Nat) (g : MetEl → MetEl) : (d.mel k g).col = d.col := rfl
@[simp] theorem Dev.mel_metCh (d : Dev) (k : Nat) (g : MetEl → MetEl) : (d.mel k g).metCh = d.metCh := rfl
@[simp] theorem Dev.mel_met (d : Dev) (k : Nat) (g : MetEl → MetEl) : (d.mel k g).met = d.met := rfl
@[simp] theorem Dev.mel_ports (d : Dev) (k : Nat) (g : MetEl → MetEl) : (d.mel k g).ports = d.ports := rfl
@[simp] theorem Dev.mel_chr (d : Dev) (k : Nat) (g : MetEl → MetEl) : (d.mel k g).chr = d.chr := rfl
@[simp] theorem Dev.mel_saf (d : Dev) (k : Nat) (g : MetEl → MetEl) : (d.mel k g).saf = d.saf := rfl
@[simp] theorem Dev.mel_hk (d : Dev) (k : Nat) (g : MetEl → MetEl) : (d.mel k g).hk = d.hk := rfl

/-! `port` changes `ports` only. -/

@[simp] theorem Dev.port_get (d : Dev) (k : Nat) (g : Port → Port) (f : Fld) (a b c : Nat) : (d.port k g).get f a b c = d.get f a b c := rfl
@[simp] theorem Dev.port_regs (d : Dev) (k : Nat) (g : Port → Port) : (d.port k g).regs = d.regs := rfl
@[simp] theorem Dev.port_tick (d : Dev) (k : Nat) (g : Port → Port) : (d.port k g).tick = d.tick := rfl
@[simp] theorem Dev.port_freeCtr (d : Dev) (k : Nat) (g : Port → Port) : (d.port k g).freeCtr = d.freeCtr := rfl
@[simp] theorem Dev.port_timers (d : Dev) (k : Nat) (g : Port → Port) : (d.port k g).timers = d.timers := rfl
@[simp] theorem Dev.port_out (d : Dev) (k : Nat) (g : Port → Port) : (d.port k g).out = d.out := rfl
@[simp] theorem Dev.port_pwr (d : Dev) (k : Nat) (g : Port → Port) : (d.port k g).pwr = d.pwr := rfl
@[simp] theorem Dev.port_clk (d : Dev) (k : Nat) (g : Port → Port) : (d.port k g).clk = d.clk := rfl
@[simp] theorem Dev.port_loans (d : Dev) (k : Nat) (g : Port → Port) : (d.port k g).loans = d.loans := rfl
@[simp] theorem Dev.port_loanWait (d : Dev) (k : Nat) (g : Port → Port) : (d.port k g).loanWait = d.loanWait := rfl
@[simp] theorem Dev.port_mram (d : Dev) (k : Nat) (g : Port → Port) : (d.port k g).mram = d.mram := rfl
@[simp] theorem Dev.port_rings (d : Dev) (k : Nat) (g : Port → Port) : (d.port k g).rings = d.rings := rfl
@[simp] theorem Dev.port_prov (d : Dev) (k : Nat) (g : Port → Port) : (d.port k g).prov = d.prov := rfl
@[simp] theorem Dev.port_reg (d : Dev) (k : Nat) (g : Port → Port) : (d.port k g).reg = d.reg := rfl
@[simp] theorem Dev.port_lanes (d : Dev) (k : Nat) (g : Port → Port) : (d.port k g).lanes = d.lanes := rfl
@[simp] theorem Dev.port_cells (d : Dev) (k : Nat) (g : Port → Port) : (d.port k g).cells = d.cells := rfl
@[simp] theorem Dev.port_arr (d : Dev) (k : Nat) (g : Port → Port) : (d.port k g).arr = d.arr := rfl
@[simp] theorem Dev.port_slots (d : Dev) (k : Nat) (g : Port → Port) : (d.port k g).slots = d.slots := rfl
@[simp] theorem Dev.port_bank2 (d : Dev) (k : Nat) (g : Port → Port) : (d.port k g).bank2 = d.bank2 := rfl
@[simp] theorem Dev.port_phases (d : Dev) (k : Nat) (g : Port → Port) : (d.port k g).phases = d.phases := rfl
@[simp] theorem Dev.port_groups (d : Dev) (k : Nat) (g : Port → Port) : (d.port k g).groups = d.groups := rfl
@[simp] theorem Dev.port_pwm (d : Dev) (k : Nat) (g : Port → Port) : (d.port k g).pwm = d.pwm := rfl
@[simp] theorem Dev.port_gates (d : Dev) (k : Nat) (g : Port → Port) : (d.port k g).gates = d.gates := rfl
@[simp] theorem Dev.port_os (d : Dev) (k : Nat) (g : Port → Port) : (d.port k g).os = d.os := rfl
@[simp] theorem Dev.port_enc (d : Dev) (k : Nat) (g : Port → Port) : (d.port k g).enc = d.enc := rfl
@[simp] theorem Dev.port_col (d : Dev) (k : Nat) (g : Port → Port) : (d.port k g).col = d.col := rfl
@[simp] theorem Dev.port_metCh (d : Dev) (k : Nat) (g : Port → Port) : (d.port k g).metCh = d.metCh := rfl
@[simp] theorem Dev.port_metEl (d : Dev) (k : Nat) (g : Port → Port) : (d.port k g).metEl = d.metEl := rfl
@[simp] theorem Dev.port_met (d : Dev) (k : Nat) (g : Port → Port) : (d.port k g).met = d.met := rfl
@[simp] theorem Dev.port_chr (d : Dev) (k : Nat) (g : Port → Port) : (d.port k g).chr = d.chr := rfl
@[simp] theorem Dev.port_saf (d : Dev) (k : Nat) (g : Port → Port) : (d.port k g).saf = d.saf := rfl
@[simp] theorem Dev.port_hk (d : Dev) (k : Nat) (g : Port → Port) : (d.port k g).hk = d.hk := rfl

/-! `pair` changes `saf` only. -/

@[simp] theorem Dev.pair_get (d : Dev) (p n : Nat) (g : Pair → Pair) (f : Fld) (a b c : Nat) : (d.pair p n g).get f a b c = d.get f a b c := rfl
@[simp] theorem Dev.pair_regs (d : Dev) (p n : Nat) (g : Pair → Pair) : (d.pair p n g).regs = d.regs := rfl
@[simp] theorem Dev.pair_tick (d : Dev) (p n : Nat) (g : Pair → Pair) : (d.pair p n g).tick = d.tick := rfl
@[simp] theorem Dev.pair_freeCtr (d : Dev) (p n : Nat) (g : Pair → Pair) : (d.pair p n g).freeCtr = d.freeCtr := rfl
@[simp] theorem Dev.pair_timers (d : Dev) (p n : Nat) (g : Pair → Pair) : (d.pair p n g).timers = d.timers := rfl
@[simp] theorem Dev.pair_out (d : Dev) (p n : Nat) (g : Pair → Pair) : (d.pair p n g).out = d.out := rfl
@[simp] theorem Dev.pair_pwr (d : Dev) (p n : Nat) (g : Pair → Pair) : (d.pair p n g).pwr = d.pwr := rfl
@[simp] theorem Dev.pair_clk (d : Dev) (p n : Nat) (g : Pair → Pair) : (d.pair p n g).clk = d.clk := rfl
@[simp] theorem Dev.pair_loans (d : Dev) (p n : Nat) (g : Pair → Pair) : (d.pair p n g).loans = d.loans := rfl
@[simp] theorem Dev.pair_loanWait (d : Dev) (p n : Nat) (g : Pair → Pair) : (d.pair p n g).loanWait = d.loanWait := rfl
@[simp] theorem Dev.pair_mram (d : Dev) (p n : Nat) (g : Pair → Pair) : (d.pair p n g).mram = d.mram := rfl
@[simp] theorem Dev.pair_rings (d : Dev) (p n : Nat) (g : Pair → Pair) : (d.pair p n g).rings = d.rings := rfl
@[simp] theorem Dev.pair_prov (d : Dev) (p n : Nat) (g : Pair → Pair) : (d.pair p n g).prov = d.prov := rfl
@[simp] theorem Dev.pair_reg (d : Dev) (p n : Nat) (g : Pair → Pair) : (d.pair p n g).reg = d.reg := rfl
@[simp] theorem Dev.pair_lanes (d : Dev) (p n : Nat) (g : Pair → Pair) : (d.pair p n g).lanes = d.lanes := rfl
@[simp] theorem Dev.pair_cells (d : Dev) (p n : Nat) (g : Pair → Pair) : (d.pair p n g).cells = d.cells := rfl
@[simp] theorem Dev.pair_arr (d : Dev) (p n : Nat) (g : Pair → Pair) : (d.pair p n g).arr = d.arr := rfl
@[simp] theorem Dev.pair_slots (d : Dev) (p n : Nat) (g : Pair → Pair) : (d.pair p n g).slots = d.slots := rfl
@[simp] theorem Dev.pair_bank2 (d : Dev) (p n : Nat) (g : Pair → Pair) : (d.pair p n g).bank2 = d.bank2 := rfl
@[simp] theorem Dev.pair_phases (d : Dev) (p n : Nat) (g : Pair → Pair) : (d.pair p n g).phases = d.phases := rfl
@[simp] theorem Dev.pair_groups (d : Dev) (p n : Nat) (g : Pair → Pair) : (d.pair p n g).groups = d.groups := rfl
@[simp] theorem Dev.pair_pwm (d : Dev) (p n : Nat) (g : Pair → Pair) : (d.pair p n g).pwm = d.pwm := rfl
@[simp] theorem Dev.pair_gates (d : Dev) (p n : Nat) (g : Pair → Pair) : (d.pair p n g).gates = d.gates := rfl
@[simp] theorem Dev.pair_os (d : Dev) (p n : Nat) (g : Pair → Pair) : (d.pair p n g).os = d.os := rfl
@[simp] theorem Dev.pair_enc (d : Dev) (p n : Nat) (g : Pair → Pair) : (d.pair p n g).enc = d.enc := rfl
@[simp] theorem Dev.pair_col (d : Dev) (p n : Nat) (g : Pair → Pair) : (d.pair p n g).col = d.col := rfl
@[simp] theorem Dev.pair_metCh (d : Dev) (p n : Nat) (g : Pair → Pair) : (d.pair p n g).metCh = d.metCh := rfl
@[simp] theorem Dev.pair_metEl (d : Dev) (p n : Nat) (g : Pair → Pair) : (d.pair p n g).metEl = d.metEl := rfl
@[simp] theorem Dev.pair_met (d : Dev) (p n : Nat) (g : Pair → Pair) : (d.pair p n g).met = d.met := rfl
@[simp] theorem Dev.pair_ports (d : Dev) (p n : Nat) (g : Pair → Pair) : (d.pair p n g).ports = d.ports := rfl
@[simp] theorem Dev.pair_chr (d : Dev) (p n : Nat) (g : Pair → Pair) : (d.pair p n g).chr = d.chr := rfl
@[simp] theorem Dev.pair_hk (d : Dev) (p n : Nat) (g : Pair → Pair) : (d.pair p n g).hk = d.hk := rfl

/-! `hkp` changes `hk` only. -/

@[simp] theorem Dev.hkp_get (d : Dev) (k : Nat) (g : HkPoint → HkPoint) (f : Fld) (a b c : Nat) : (d.hkp k g).get f a b c = d.get f a b c := rfl
@[simp] theorem Dev.hkp_regs (d : Dev) (k : Nat) (g : HkPoint → HkPoint) : (d.hkp k g).regs = d.regs := rfl
@[simp] theorem Dev.hkp_tick (d : Dev) (k : Nat) (g : HkPoint → HkPoint) : (d.hkp k g).tick = d.tick := rfl
@[simp] theorem Dev.hkp_freeCtr (d : Dev) (k : Nat) (g : HkPoint → HkPoint) : (d.hkp k g).freeCtr = d.freeCtr := rfl
@[simp] theorem Dev.hkp_timers (d : Dev) (k : Nat) (g : HkPoint → HkPoint) : (d.hkp k g).timers = d.timers := rfl
@[simp] theorem Dev.hkp_out (d : Dev) (k : Nat) (g : HkPoint → HkPoint) : (d.hkp k g).out = d.out := rfl
@[simp] theorem Dev.hkp_pwr (d : Dev) (k : Nat) (g : HkPoint → HkPoint) : (d.hkp k g).pwr = d.pwr := rfl
@[simp] theorem Dev.hkp_clk (d : Dev) (k : Nat) (g : HkPoint → HkPoint) : (d.hkp k g).clk = d.clk := rfl
@[simp] theorem Dev.hkp_loans (d : Dev) (k : Nat) (g : HkPoint → HkPoint) : (d.hkp k g).loans = d.loans := rfl
@[simp] theorem Dev.hkp_loanWait (d : Dev) (k : Nat) (g : HkPoint → HkPoint) : (d.hkp k g).loanWait = d.loanWait := rfl
@[simp] theorem Dev.hkp_mram (d : Dev) (k : Nat) (g : HkPoint → HkPoint) : (d.hkp k g).mram = d.mram := rfl
@[simp] theorem Dev.hkp_rings (d : Dev) (k : Nat) (g : HkPoint → HkPoint) : (d.hkp k g).rings = d.rings := rfl
@[simp] theorem Dev.hkp_prov (d : Dev) (k : Nat) (g : HkPoint → HkPoint) : (d.hkp k g).prov = d.prov := rfl
@[simp] theorem Dev.hkp_reg (d : Dev) (k : Nat) (g : HkPoint → HkPoint) : (d.hkp k g).reg = d.reg := rfl
@[simp] theorem Dev.hkp_lanes (d : Dev) (k : Nat) (g : HkPoint → HkPoint) : (d.hkp k g).lanes = d.lanes := rfl
@[simp] theorem Dev.hkp_cells (d : Dev) (k : Nat) (g : HkPoint → HkPoint) : (d.hkp k g).cells = d.cells := rfl
@[simp] theorem Dev.hkp_arr (d : Dev) (k : Nat) (g : HkPoint → HkPoint) : (d.hkp k g).arr = d.arr := rfl
@[simp] theorem Dev.hkp_slots (d : Dev) (k : Nat) (g : HkPoint → HkPoint) : (d.hkp k g).slots = d.slots := rfl
@[simp] theorem Dev.hkp_bank2 (d : Dev) (k : Nat) (g : HkPoint → HkPoint) : (d.hkp k g).bank2 = d.bank2 := rfl
@[simp] theorem Dev.hkp_phases (d : Dev) (k : Nat) (g : HkPoint → HkPoint) : (d.hkp k g).phases = d.phases := rfl
@[simp] theorem Dev.hkp_groups (d : Dev) (k : Nat) (g : HkPoint → HkPoint) : (d.hkp k g).groups = d.groups := rfl
@[simp] theorem Dev.hkp_pwm (d : Dev) (k : Nat) (g : HkPoint → HkPoint) : (d.hkp k g).pwm = d.pwm := rfl
@[simp] theorem Dev.hkp_gates (d : Dev) (k : Nat) (g : HkPoint → HkPoint) : (d.hkp k g).gates = d.gates := rfl
@[simp] theorem Dev.hkp_os (d : Dev) (k : Nat) (g : HkPoint → HkPoint) : (d.hkp k g).os = d.os := rfl
@[simp] theorem Dev.hkp_enc (d : Dev) (k : Nat) (g : HkPoint → HkPoint) : (d.hkp k g).enc = d.enc := rfl
@[simp] theorem Dev.hkp_col (d : Dev) (k : Nat) (g : HkPoint → HkPoint) : (d.hkp k g).col = d.col := rfl
@[simp] theorem Dev.hkp_metCh (d : Dev) (k : Nat) (g : HkPoint → HkPoint) : (d.hkp k g).metCh = d.metCh := rfl
@[simp] theorem Dev.hkp_metEl (d : Dev) (k : Nat) (g : HkPoint → HkPoint) : (d.hkp k g).metEl = d.metEl := rfl
@[simp] theorem Dev.hkp_met (d : Dev) (k : Nat) (g : HkPoint → HkPoint) : (d.hkp k g).met = d.met := rfl
@[simp] theorem Dev.hkp_ports (d : Dev) (k : Nat) (g : HkPoint → HkPoint) : (d.hkp k g).ports = d.ports := rfl
@[simp] theorem Dev.hkp_chr (d : Dev) (k : Nat) (g : HkPoint → HkPoint) : (d.hkp k g).chr = d.chr := rfl
@[simp] theorem Dev.hkp_saf (d : Dev) (k : Nat) (g : HkPoint → HkPoint) : (d.hkp k g).saf = d.saf := rfl

/-! The queue is no part of the block. -/

@[simp] theorem State.setDev_pending (s : State) (d : Dev) : ({ s with dev := d } : State).pending = s.pending := rfl
@[simp] theorem State.setDev_dev (s : State) (d : Dev) : ({ s with dev := d } : State).dev = d := rfl

end Sys2Proof.Machine
end

