-- ==== Sys2Proof/Laws/Calm.lean ====
section
/-! SUPPORT. What the operations every command shares leave alone: writing a log entry, completing a command, raising an event with all its reactions,
loans, device states but STAGED and the end of a step write the registers of `hotFields` and no other; they change no lane, cell, slot, gate, encoder,
metering, network or housekeeping unit, and no time; of the other units they change only what `still` clears. One lemma per operation. -/

namespace Sys2Proof.Machine

/-- A key of an element of a flat field. -/
def Fld.has (f : Fld) (k : Nat) : Bool :=
  k % 64 == f.lo && f.base ≤ k / 64 && (k / 64 - f.base) % f.s1 == 0 && decide ((k / 64 - f.base) / f.s1 < f.n1)

/-- A key that no shared operation writes. -/
def calmKey (k : Nat) : Bool := hotFields.all (fun f => !f.has k)

/-- A field the shared operations may write. -/
def Fld.hot (f : Fld) : Bool := hotFields.contains f && f.flat

/-- A deadline that they neither start nor stop. -/
def Timer.calm : Timer → Bool
  | .anchor | .lpddrIdle | .holdoff _ | .ssMax _ | .pllStop _ | .freeze | .softOff _ | .blank _ | .dead _ | .errHold | .loopLoan | .prechPhase _ | .brake
  | .startLock | .loopEdge => false
  | _ => true

/-- Pwr less what the shared operations change of it. -/
def Pwr.still (p : Pwr) : Pwr := { p with loopLevel := false }
@[simp] theorem Pwr.still_mk (x_reserveOn x_main x_vinOk x_vinFell x_vsdoOk x_testEn x_saveWin x_cause x_sleepEntry x_asleep x_bootFailed x_mrstLow x_canStb x_xkeepEvent x_xkeepAt x_wakeHigh x_canLow x_canHeld x_linkUp x_perstLow x_mclk x_syncOutUntil x_ppsOut x_ppsAt x_loopLevel x_rsvAcc x_regSelf) : (Pwr.mk x_reserveOn x_main x_vinOk x_vinFell x_vsdoOk x_testEn x_saveWin x_cause x_sleepEntry x_asleep x_bootFailed x_mrstLow x_canStb x_xkeepEvent x_xkeepAt x_wakeHigh x_canLow x_canHeld x_linkUp x_perstLow x_mclk x_syncOutUntil x_ppsOut x_ppsAt x_loopLevel x_rsvAcc x_regSelf).still
    = Pwr.mk x_reserveOn x_main x_vinOk x_vinFell x_vsdoOk x_testEn x_saveWin x_cause x_sleepEntry x_asleep x_bootFailed x_mrstLow x_canStb x_xkeepEvent x_xkeepAt x_wakeHigh x_canLow x_canHeld x_linkUp x_perstLow x_mclk x_syncOutUntil x_ppsOut x_ppsAt false x_rsvAcc x_regSelf := by unfold Pwr.still; rfl
@[simp] theorem Pwr.still_eta (p : Pwr) : Pwr.mk p.reserveOn p.main p.vinOk p.vinFell p.vsdoOk p.testEn p.saveWin p.cause p.sleepEntry p.asleep p.bootFailed p.mrstLow p.canStb p.xkeepEvent p.xkeepAt p.wakeHigh p.canLow p.canHeld p.linkUp p.perstLow p.mclk p.syncOutUntil p.ppsOut p.ppsAt false p.rsvAcc p.regSelf = p.still := by unfold Pwr.still; rfl
@[simp] theorem Pwr.still_still (p : Pwr) : p.still.still = p.still := by unfold Pwr.still; rfl
/-- Rings less what the shared operations change of it. -/
def Rings.still (p : Rings) : Rings := { p with held := [], reserved := [], completed := [], evHold := [], evLost := [], msixPend := [], collected := [] }
@[simp] theorem Rings.still_mk (x_pend x_held x_reserved x_taken x_completed x_tails x_heads x_evHold x_evLost x_masked x_msixPend x_collected x_msixTable x_pages x_latch x_lowHold x_lastCmd x_fn) : (Rings.mk x_pend x_held x_reserved x_taken x_completed x_tails x_heads x_evHold x_evLost x_masked x_msixPend x_collected x_msixTable x_pages x_latch x_lowHold x_lastCmd x_fn).still
    = Rings.mk x_pend [] [] x_taken [] x_tails x_heads [] [] x_masked [] [] x_msixTable x_pages x_latch x_lowHold x_lastCmd x_fn := by unfold Rings.still; rfl
@[simp] theorem Rings.still_eta (p : Rings) : Rings.mk p.pend [] [] p.taken [] p.tails p.heads [] [] p.masked [] [] p.msixTable p.pages p.latch p.lowHold p.lastCmd p.fn = p.still := by unfold Rings.still; rfl
@[simp] theorem Rings.still_still (p : Rings) : p.still.still = p.still := by unfold Rings.still; rfl
/-- Clk less what the shared operations change of it. -/
def Clk.still (p : Clk) : Clk := { p with demand := [], lpddrWait := 0 }
@[simp] theorem Clk.still_mk (x_demand x_losses x_dead x_starting x_hopFrom x_hopReady x_pstep x_pstepAt x_freq x_syncLast x_syncGood x_syncBack x_lpddrAwake x_lpddrExiting x_lpddrWait) : (Clk.mk x_demand x_losses x_dead x_starting x_hopFrom x_hopReady x_pstep x_pstepAt x_freq x_syncLast x_syncGood x_syncBack x_lpddrAwake x_lpddrExiting x_lpddrWait).still
    = Clk.mk [] x_losses x_dead x_starting x_hopFrom x_hopReady x_pstep x_pstepAt x_freq x_syncLast x_syncGood x_syncBack x_lpddrAwake x_lpddrExiting 0 := by unfold Clk.still; rfl
@[simp] theorem Clk.still_eta (p : Clk) : Clk.mk [] p.losses p.dead p.starting p.hopFrom p.hopReady p.pstep p.pstepAt p.freq p.syncLast p.syncGood p.syncBack p.lpddrAwake p.lpddrExiting 0 = p.still := by unfold Clk.still; rfl
@[simp] theorem Clk.still_still (p : Clk) : p.still.still = p.still := by unfold Clk.still; rfl
/-- Mram less what the shared operations change of it. -/
def Mram.still (p : Mram) : Mram := { p with blockRing := [], eventRing := [], blockAt := 0, eventAt := 0 }
@[simp] theorem Mram.still_mk (x_keys x_fw x_secFloor x_catFloor x_cats x_active x_saves x_bootRecs x_latch x_tickRecs x_safety x_blockRing x_eventRing x_blockAt x_eventAt) : (Mram.mk x_keys x_fw x_secFloor x_catFloor x_cats x_active x_saves x_bootRecs x_latch x_tickRecs x_safety x_blockRing x_eventRing x_blockAt x_eventAt).still
    = Mram.mk x_keys x_fw x_secFloor x_catFloor x_cats x_active x_saves x_bootRecs x_latch x_tickRecs x_safety [] [] 0 0 := by unfold Mram.still; rfl
@[simp] theorem Mram.still_eta (p : Mram) : Mram.mk p.keys p.fw p.secFloor p.catFloor p.cats p.active p.saves p.bootRecs p.latch p.tickRecs p.safety [] [] 0 0 = p.still := by unfold Mram.still; rfl
@[simp] theorem Mram.still_still (p : Mram) : p.still.still = p.still := by unfold Mram.still; rfl
/-- Prov less what the shared operations change of it. -/
def Prov.still (p : Prov) : Prov := { p with entries := [], chain := 0, anchorTick := 0, dirty := false, anchorWrite := none }
@[simp] theorem Prov.still_mk (x_entries x_chain x_anchorTick x_dirty x_holdWrites x_attempts x_staged x_inForce x_safeWrite x_anchorWrite x_decl x_catSafetyCrc x_committed x_reads) : (Prov.mk x_entries x_chain x_anchorTick x_dirty x_holdWrites x_attempts x_staged x_inForce x_safeWrite x_anchorWrite x_decl x_catSafetyCrc x_committed x_reads).still
    = Prov.mk [] 0 0 false x_holdWrites x_attempts x_staged x_inForce x_safeWrite none x_decl x_catSafetyCrc x_committed x_reads := by unfold Prov.still; rfl
@[simp] theorem Prov.still_eta (p : Prov) : Prov.mk [] 0 0 false p.holdWrites p.attempts p.staged p.inForce p.safeWrite none p.decl p.catSafetyCrc p.committed p.reads = p.still := by unfold Prov.still; rfl
@[simp] theorem Prov.still_still (p : Prov) : p.still.still = p.still := by unfold Prov.still; rfl
/-- Saf less what the shared operations change of it. -/
def Saf.still (p : Saf) : Saf := { p with latch := none, silenced := false, health := [], latchAt := none, lockDue := none }
@[simp] theorem Saf.still_mk (x_pairs x_latch x_silenced x_permit x_pressAt x_cmd x_dropped x_health x_diffAt x_latchAt x_lockDue) : (Saf.mk x_pairs x_latch x_silenced x_permit x_pressAt x_cmd x_dropped x_health x_diffAt x_latchAt x_lockDue).still
    = Saf.mk x_pairs none false x_permit x_pressAt x_cmd x_dropped [] x_diffAt none none := by unfold Saf.still; rfl
@[simp] theorem Saf.still_eta (p : Saf) : Saf.mk p.pairs none false p.permit p.pressAt p.cmd p.dropped [] p.diffAt none none = p.still := by unfold Saf.still; rfl
@[simp] theorem Saf.still_still (p : Saf) : p.still.still = p.still := by unfold Saf.still; rfl
/-- Col less what the shared operations change of it. -/
def Col.still (p : Col) : Col := { p with stopping := false, parkDue := false }
@[simp] theorem Col.still_mk (x_r x_v x_speed x_accel x_peak x_item x_stopping x_band x_stall x_quiet x_badSsi x_ssiSeen x_ssiAt x_home x_fell x_inZone x_lostZone x_fric x_u x_parkDue x_guard) : (Col.mk x_r x_v x_speed x_accel x_peak x_item x_stopping x_band x_stall x_quiet x_badSsi x_ssiSeen x_ssiAt x_home x_fell x_inZone x_lostZone x_fric x_u x_parkDue x_guard).still
    = Col.mk x_r x_v x_speed x_accel x_peak x_item false x_band x_stall x_quiet x_badSsi x_ssiSeen x_ssiAt x_home x_fell x_inZone x_lostZone x_fric x_u false x_guard := by unfold Col.still; rfl
@[simp] theorem Col.still_eta (p : Col) : Col.mk p.r p.v p.speed p.accel p.peak p.item false p.band p.stall p.quiet p.badSsi p.ssiSeen p.ssiAt p.home p.fell p.inZone p.lostZone p.fric p.u false p.guard = p.still := by unfold Col.still; rfl
@[simp] theorem Col.still_still (p : Col) : p.still.still = p.still := by unfold Col.still; rfl
/-- Arr less what the shared operations change of it. -/
def Arr.still (p : Arr) : Arr := { p with ramp := none, zeroBeats := 0, zeroPower := false, fastFrom := none, preAt := [], starting := false }
@[simp] theorem Arr.still_mk (x_dabAt x_dabNeg x_dabHalf x_hop x_hopBeat x_ramp x_zeroBeats x_zeroPower x_fastFrom x_closeD x_closeM x_metM x_metK x_metPrev x_preAt x_preV x_preMet x_fails x_starting x_beat x_latched x_handed) : (Arr.mk x_dabAt x_dabNeg x_dabHalf x_hop x_hopBeat x_ramp x_zeroBeats x_zeroPower x_fastFrom x_closeD x_closeM x_metM x_metK x_metPrev x_preAt x_preV x_preMet x_fails x_starting x_beat x_latched x_handed).still
    = Arr.mk x_dabAt x_dabNeg x_dabHalf x_hop x_hopBeat none 0 false none x_closeD x_closeM x_metM x_metK x_metPrev [] x_preV x_preMet x_fails false x_beat x_latched x_handed := by unfold Arr.still; rfl
@[simp] theorem Arr.still_eta (p : Arr) : Arr.mk p.dabAt p.dabNeg p.dabHalf p.hop p.hopBeat none 0 false none p.closeD p.closeM p.metM p.metK p.metPrev [] p.preV p.preMet p.fails false p.beat p.latched p.handed = p.still := by unfold Arr.still; rfl
@[simp] theorem Arr.still_still (p : Arr) : p.still.still = p.still := by unfold Arr.still; rfl
/-- Os less what the shared operations change of it. -/
def Os.still (p : Os) : Os := { p with lastOff := 0 }
@[simp] theorem Os.still_mk (x_brakeJ x_brakeSum x_brakeOver x_rail x_calBack x_lastOff x_sub x_driveCmp x_hallTick x_drive x_undeclared x_linkWas x_linkAt) : (Os.mk x_brakeJ x_brakeSum x_brakeOver x_rail x_calBack x_lastOff x_sub x_driveCmp x_hallTick x_drive x_undeclared x_linkWas x_linkAt).still
    = Os.mk x_brakeJ x_brakeSum x_brakeOver x_rail x_calBack 0 x_sub x_driveCmp x_hallTick x_drive x_undeclared x_linkWas x_linkAt := by unfold Os.still; rfl
@[simp] theorem Os.still_eta (p : Os) : Os.mk p.brakeJ p.brakeSum p.brakeOver p.rail p.calBack 0 p.sub p.driveCmp p.hallTick p.drive p.undeclared p.linkWas p.linkAt = p.still := by unfold Os.still; rfl
@[simp] theorem Os.still_still (p : Os) : p.still.still = p.still := by unfold Os.still; rfl
/-- Pwm less what the shared operations change of it. -/
def Pwm.still (p : Pwm) : Pwm := { p with wait := none, offAt := none, edge := 0 }
@[simp] theorem Pwm.still_mk (x_start x_length x_wait x_waitAt x_offAt x_edge x_shPeriod x_shOffset x_presc x_cut x_cmpDone x_hold) : (Pwm.mk x_start x_length x_wait x_waitAt x_offAt x_edge x_shPeriod x_shOffset x_presc x_cut x_cmpDone x_hold).still
    = Pwm.mk x_start x_length none x_waitAt none 0 x_shPeriod x_shOffset x_presc x_cut x_cmpDone x_hold := by unfold Pwm.still; rfl
@[simp] theorem Pwm.still_eta (p : Pwm) : Pwm.mk p.start p.length none p.waitAt none 0 p.shPeriod p.shOffset p.presc p.cut p.cmpDone p.hold = p.still := by unfold Pwm.still; rfl
@[simp] theorem Pwm.still_still (p : Pwm) : p.still.still = p.still := by unfold Pwm.still; rfl
/-- Group less what the shared operations change of it. -/
def Group.still (p : Group) : Group := { p with cStop := none, quiet := 0, sleepBeats := 0, stopBeat := 0 }
@[simp] theorem Group.still_mk (x_vref x_ssTick x_within x_cStop x_quiet x_stopBeat x_iref x_shedBelow x_holdOff x_burstBelow x_sleepBeats x_iout x_cross) : (Group.mk x_vref x_ssTick x_within x_cStop x_quiet x_stopBeat x_iref x_shedBelow x_holdOff x_burstBelow x_sleepBeats x_iout x_cross).still
    = Group.mk x_vref x_ssTick x_within none 0 0 x_iref x_shedBelow x_holdOff x_burstBelow 0 x_iout x_cross := by unfold Group.still; rfl
@[simp] theorem Group.still_eta (p : Group) : Group.mk p.vref p.ssTick p.within none 0 0 p.iref p.shedBelow p.holdOff p.burstBelow 0 p.iout p.cross = p.still := by unfold Group.still; rfl
@[simp] theorem Group.still_still (p : Group) : p.still.still = p.still := by unfold Group.still; rfl
/-- Phase less what the shared operations change of it. -/
def Phase.still (p : Phase) : Phase := { p with ending := false }
@[simp] theorem Phase.still_mk (x_openCnt x_burst x_move x_ending x_trunc x_iavg x_trim) : (Phase.mk x_openCnt x_burst x_move x_ending x_trunc x_iavg x_trim).still
    = Phase.mk x_openCnt x_burst x_move false x_trunc x_iavg x_trim := by unfold Phase.still; rfl
@[simp] theorem Phase.still_eta (p : Phase) : Phase.mk p.openCnt p.burst p.move false p.trunc p.iavg p.trim = p.still := by unfold Phase.still; rfl
@[simp] theorem Phase.still_still (p : Phase) : p.still.still = p.still := by unfold Phase.still; rfl
/-- What stays. -/
structure Calm where
  reg : Nat → Nat
  due : Timer → Option Nat
  tick : Nat
  lanes : List Lane
  cells : List Cell
  slots : List Slot
  bank2 : List (Nat × Nat × Nat)
  gates : List Gate
  enc : List Enc
  metCh : List MetCh
  metEl : List MetEl
  met : Met
  ports : List Port
  chr : Chr
  hk : Hk
  pwr : Pwr
  rings : Rings
  clk : Clk
  mram : Mram
  prov : Prov
  saf : Saf
  col : Col
  arr : Arr
  os : Os
  pwm : List Pwm
  groups : List Group
  phases : List Phase

/-- The calm part of a register store, and the calm deadlines. -/
def calmRegs (l : List (Nat × Nat)) (k : Nat) : Nat := if calmKey k then regGet l k else 0
def calmDue (l : List (Timer × Nat)) (t : Timer) : Option Nat := if t.calm then (l.find? (fun x => x.1 == t)).map (·.2) else none

/-- The calm part of the block. -/
def Dev.calm (d : Dev) : Calm :=
  ⟨calmRegs d.regs, calmDue d.timers, d.tick, d.lanes, d.cells, d.slots, d.bank2, d.gates, d.enc, d.metCh, d.metEl, d.met, d.ports, d.chr, d.hk, d.pwr.still, d.rings.still, d.clk.still, d.mram.still, d.prov.still, d.saf.still, d.col.still, d.arr.still, d.os.still, d.pwm.map Pwm.still, d.groups.map Group.still, d.phases.map Phase.still⟩
@[simp] theorem calm_mk (regs tick freeCtr timers out pwr clk loans loanWait mram rings prov reg lanes cells arr slots bank2 phases groups pwm gates os enc col metCh metEl met ports chr saf hk) :
    (Dev.mk regs tick freeCtr timers out pwr clk loans loanWait mram rings prov reg lanes cells arr slots bank2 phases groups pwm gates os enc col metCh metEl met ports chr saf hk).calm
      = ⟨calmRegs regs, calmDue timers, tick, lanes, cells, slots, bank2, gates, enc, metCh, metEl, met, ports, chr, hk, pwr.still, rings.still, clk.still, mram.still, prov.still, saf.still, col.still, arr.still, os.still, pwm.map Pwm.still, groups.map Group.still, phases.map Phase.still⟩ := rfl
@[simp] theorem calm_eta (d : Dev) :
    (⟨calmRegs d.regs, calmDue d.timers, d.tick, d.lanes, d.cells, d.slots, d.bank2, d.gates, d.enc, d.metCh, d.metEl, d.met, d.ports, d.chr, d.hk, d.pwr.still, d.rings.still, d.clk.still, d.mram.still, d.prov.still, d.saf.still, d.col.still, d.arr.still, d.os.still, d.pwm.map Pwm.still, d.groups.map Group.still, d.phases.map Phase.still⟩ : Calm) = d.calm := rfl

theorem hot_key {f : Fld} (h : f.hot = true) {a b c : Nat} (hb : a < f.n1 ∧ b < f.n2 ∧ c < f.n3) : calmKey (f.key a b c) = false := by
  simp only [Fld.hot, Fld.flat, Bool.and_eq_true, Bool.or_eq_true, List.contains_iff_mem, beq_iff_eq, decide_eq_true_eq] at h
  obtain ⟨hm, ⟨⟨h2, h3⟩, hl⟩, hs⟩ := h
  rw [calmKey, List.all_eq_false]
  refine ⟨f, hm, ?_⟩
  have e : f.key a b c = (f.base + f.s1 * a) * 64 + f.lo := by
    unfold Fld.key Fld.off
    have : b = 0 := by omega
    have : c = 0 := by omega
    subst_vars; simp
  have e1 : f.key a b c % 64 = f.lo := by omega
  have e2 : f.key a b c / 64 = f.base + f.s1 * a := by omega
  have e3 : f.key a b c / 64 - f.base = f.s1 * a := by omega
  have e4 : f.s1 * a / f.s1 < f.n1 := by
    rcases hs with hs | hs
    · rw [Nat.mul_div_cancel_left _ hs]; exact hb.1
    · have : a = 0 := by omega
      subst this; simp; omega
  simp [Fld.has, e1, e2, e4]

/-- A write of a hot field leaves the calm part alone. -/
@[simp] theorem calm_set (d : Dev) (f : Fld) (v a b c : Nat) (h : f.hot = true) : (d.set f v a b c).calm = d.calm := by
  have : calmRegs (d.set f v a b c).regs = calmRegs d.regs := by
    funext k
    unfold Dev.set; split
    · rename_i hb
      unfold calmRegs; split
      · rename_i hk
        exact regGet_regPut_ne _ _ (fun e => by rw [e, hot_key h hb] at hk; exact absurd hk (by simp))
      · rfl
    · rfl
  unfold Dev.calm
  rw [this]
  simp only [Dev.set_timers, Dev.set_tick, Dev.set_lanes, Dev.set_cells, Dev.set_slots, Dev.set_bank2, Dev.set_gates, Dev.set_enc, Dev.set_metCh, Dev.set_metEl, Dev.set_met, Dev.set_ports, Dev.set_chr, Dev.set_hk, Dev.set_pwr, Dev.set_rings, Dev.set_clk, Dev.set_mram, Dev.set_prov, Dev.set_saf, Dev.set_col, Dev.set_arr, Dev.set_os, Dev.set_pwm, Dev.set_groups, Dev.set_phases]

theorem calm_each {α : Type} (l : List α) (g : Dev → α → Dev) (d : Dev) (h : ∀ d x, (g d x).calm = d.calm) : (d.each l g).calm = d.calm := by
  unfold Dev.each
  induction l generalizing d with
  | nil => rfl
  | cons x r ih => rw [List.foldl_cons, ih, h]

/-- A calm register reads the same. -/
theorem calm_get {d e : Dev} (h : e.calm = d.calm) (f : Fld) {a b c : Nat} (hk : calmKey (f.key a b c) = true) : e.get f a b c = d.get f a b c := by
  have := congrFun (congrArg Calm.reg h) (f.key a b c)
  simp only [Dev.calm, calmRegs, hk, if_true] at this
  simp [Dev.get, this]

theorem Fld.key_div (f : Fld) (h : f.lo < 64) (a b c : Nat) : f.key a b c % 64 = f.lo ∧ f.key a b c / 64 = f.off a b c := by
  unfold Fld.key; omega

theorem Fld.off_le (f : Fld) {a b c : Nat} (ha : a < f.n1) (hb : b < f.n2) (hc : c < f.n3) : f.base ≤ f.off a b c ∧ f.off a b c ≤ f.top := by
  unfold Fld.off Fld.top
  have h1 : f.s1 * a ≤ (f.n1 - 1) * f.s1 := by rw [Nat.mul_comm]; exact Nat.mul_le_mul_right _ (by omega)
  have h2 : f.s2 * b ≤ (f.n2 - 1) * f.s2 := by rw [Nat.mul_comm]; exact Nat.mul_le_mul_right _ (by omega)
  have h3 : f.s3 * c ≤ (f.n3 - 1) * f.s3 := by rw [Nat.mul_comm]; exact Nat.mul_le_mul_right _ (by omega)
  omega

/-- An element lies between the first and the last place of its field within a stride. -/
theorem Fld.off_place {f : Fld} (h : f.high < f.s1) {a b c : Nat} (hb : b < f.n2) (hc : c < f.n3) :
    f.low ≤ f.off a b c % f.s1 ∧ f.off a b c % f.s1 ≤ f.high := by
  have h2 : f.s2 * b ≤ (f.n2 - 1) * f.s2 := by rw [Nat.mul_comm]; exact Nat.mul_le_mul_right _ (by omega)
  have h3 : f.s3 * c ≤ (f.n3 - 1) * f.s3 := by rw [Nat.mul_comm]; exact Nat.mul_le_mul_right _ (by omega)
  have e : f.off a b c = f.base % f.s1 + f.s2 * b + f.s3 * c + f.s1 * (f.base / f.s1 + a) := by
    have := Nat.mod_add_div f.base f.s1
    unfold Fld.off
    rw [Nat.mul_add]
    omega
  rw [e, Nat.add_mul_mod_self_left, Nat.mod_eq_of_lt (by unfold Fld.high at h; omega)]
  unfold Fld.low Fld.high
  omega

/-- Elements of fields that are apart have different keys. -/
theorem Fld.apart_key {f g : Fld} (h : f.apart g = true) {a b c a' b' c' : Nat} (ha : a < f.n1) (hb : b < f.n2) (hc : c < f.n3)
    (ha' : a' < g.n1) (hb' : b' < g.n2) (hc' : c' < g.n3) : f.key a b c ≠ g.key a' b' c' := by
  simp only [Fld.apart, Bool.and_eq_true, Bool.or_eq_true, bne_iff_ne, beq_iff_eq, decide_eq_true_eq] at h
  obtain ⟨⟨hf, hg⟩, h⟩ := h
  have kf := f.key_div hf a b c
  have kg := g.key_div hg a' b' c'
  have of := f.off_le ha hb hc
  have og := g.off_le ha' hb' hc'
  intro e
  rw [e] at kf
  rcases h with ((h | h) | h) | ⟨⟨⟨hs, h1⟩, h2⟩, hm⟩
  · omega
  · omega
  · omega
  · have p := Fld.off_place h1 (a := a) hb hc
    have q := Fld.off_place h2 (a := a') hb' hc'
    have : f.off a b c = g.off a' b' c' := by omega
    rw [← this, ← hs] at q
    omega

theorem Fld.calm_key {f : Fld} (h : f.calm = true) {a b c : Nat} (ha : a < f.n1) (hb : b < f.n2) (hc : c < f.n3) : calmKey (f.key a b c) = true := by
  simp only [Fld.calm, List.all_eq_true, Bool.and_eq_true] at h
  simp only [calmKey, List.all_eq_true, Bool.not_eq_true']
  intro g hg
  obtain ⟨hap, hfl⟩ := h g hg
  by_contra hc'
  simp only [Bool.not_eq_false, Fld.has, Bool.and_eq_true, beq_iff_eq, decide_eq_true_eq] at hc'
  obtain ⟨⟨⟨h1, h2⟩, h3⟩, h4⟩ := hc'
  simp only [Fld.flat, Bool.and_eq_true, beq_iff_eq, decide_eq_true_eq] at hfl
  refine Fld.apart_key hap ha hb hc (a' := (f.key a b c / 64 - g.base) / g.s1) (b' := 0) (c' := 0) h4 (by omega) (by omega) ?_
  have e := Nat.div_add_mod (f.key a b c / 64 - g.base) g.s1
  rw [h3] at e
  unfold Fld.key Fld.off at *
  simp only [Nat.mul_zero, Nat.add_zero] at e ⊢
  omega

/-- A calm deadline stands. -/
theorem calm_due {d e : Dev} (h : e.calm = d.calm) (t : Timer) (ht : t.calm = true) : e.due t = d.due t := by
  have := congrFun (congrArg Calm.due h) t
  simp only [Dev.calm, calmDue, ht, if_true] at this
  exact this

theorem calmDue_cons (l : List (Timer × Nat)) (t : Timer) (n : Nat) (h : t.calm = false) :
    calmDue ((t, n) :: l.filter (fun x => x.1 != t)) = calmDue l := by
  funext u
  unfold calmDue
  split
  · rename_i hu
    have hne : t ≠ u := fun e => by rw [e, hu] at h; exact absurd h (by simp)
    have hb : (t == u) = false := beq_eq_false_iff_ne.mpr hne
    rw [List.find?_cons, hb]
    simp only
    congr 1
    induction l with
    | nil => rfl
    | cons x r ih =>
      rcases x with ⟨y, m⟩
      by_cases hy : y = t
      · subst hy; simp [hb, ih]
      · by_cases hz : y = u
        · subst hz; simp [hy]
        · simp [hy, hz, ih]
  · rfl

theorem calmDue_filter (l : List (Timer × Nat)) (t : Timer) (h : t.calm = false) :
    calmDue (l.filter (fun x => x.1 != t)) = calmDue l := by
  rw [← calmDue_cons l t 0 h]
  funext u
  unfold calmDue
  split
  · rename_i hu
    have hne : t ≠ u := fun e => by rw [e, hu] at h; exact absurd h (by simp)
    have hb : (t == u) = false := beq_eq_false_iff_ne.mpr hne
    rw [List.find?_cons, hb]
  · rfl

theorem modify_map {α : Type} (f g : α → α) (h : ∀ x, f (g x) = f x) (l : List α) (k : Nat) : (l.modify k g).map f = l.map f := by
  induction l generalizing k with
  | nil => simp
  | cons x r ih => cases k <;> simp [List.modify_succ_cons, h, ih]

/-! Fields the shared operations write -/

@[simp] theorem hot_ARC_MARK_LOST_COUNT : F.ARC_MARK_LOST.COUNT.hot = true := by decide
@[simp] theorem hot_ARC_STATE_CAUSE : F.ARC_STATE.CAUSE.hot = true := by decide
@[simp] theorem hot_ARC_STATE_STATE : F.ARC_STATE.STATE.hot = true := by decide
@[simp] theorem hot_ARC_TRIG_LOST_COUNT : F.ARC_TRIG_LOST.COUNT.hot = true := by decide
@[simp] theorem hot_ARC_TRIG_TICK_TICK : F.ARC_TRIG_TICK.TICK.hot = true := by decide
@[simp] theorem hot_ARR_STATE_MODE : F.ARR_STATE.MODE.hot = true := by decide
@[simp] theorem hot_COL_STATUS_STATE : F.COL_STATUS.STATE.hot = true := by decide
@[simp] theorem hot_GD_STATUS_CMD : F.GD_STATUS.CMD.hot = true := by decide
@[simp] theorem hot_GD_STATUS_PENDING : F.GD_STATUS.PENDING.hot = true := by decide
@[simp] theorem hot_GD_STATUS_UNPROVEN : F.GD_STATUS.UNPROVEN.hot = true := by decide
@[simp] theorem hot_GLB_CONSERVE_FAULT : F.GLB_CONSERVE.FAULT.hot = true := by decide
@[simp] theorem hot_GLB_PRECHARGE_ELAPSED : F.GLB_PRECHARGE.ELAPSED.hot = true := by decide
@[simp] theorem hot_GLB_PRECHARGE_PHASE : F.GLB_PRECHARGE.PHASE.hot = true := by decide
@[simp] theorem hot_GLB_STATE_DEVICE : F.GLB_STATE.DEVICE.hot = true := by decide
@[simp] theorem hot_GLB_STATE_SINCE_BEAT : F.GLB_STATE_SINCE.BEAT.hot = true := by decide
@[simp] theorem hot_GRP_STATUS_BURST_SLEEP : F.GRP_STATUS.BURST_SLEEP.hot = true := by decide
@[simp] theorem hot_GRP_STATUS_N_ACTIVE : F.GRP_STATUS.N_ACTIVE.hot = true := by decide
@[simp] theorem hot_GRP_STATUS_SHEDDING : F.GRP_STATUS.SHEDDING.hot = true := by decide
@[simp] theorem hot_GRP_STATUS_STATE : F.GRP_STATUS.STATE.hot = true := by decide
@[simp] theorem hot_LE_STATUS_RATE : F.LE_STATUS.RATE.hot = true := by decide
@[simp] theorem hot_LOAN_CHIP_STATE_AVAIL : F.LOAN_CHIP_STATE.AVAIL.hot = true := by decide
@[simp] theorem hot_LOAN_CHIP_STATE_OUT : F.LOAN_CHIP_STATE.OUT.hot = true := by decide
@[simp] theorem hot_LOAN_OP_REFUSED_COUNT : F.LOAN_OP_REFUSED.COUNT.hot = true := by decide
@[simp] theorem hot_LOAN_OP_WAIT_WAITING : F.LOAN_OP_WAIT.WAITING.hot = true := by decide
@[simp] theorem hot_LOAN_SITE_STATE_AVAIL : F.LOAN_SITE_STATE.AVAIL.hot = true := by decide
@[simp] theorem hot_LOAN_SITE_STATE_OUT : F.LOAN_SITE_STATE.OUT.hot = true := by decide
@[simp] theorem hot_OS_STATUS_BRAKE_ARMED : F.OS_STATUS.BRAKE_ARMED.hot = true := by decide
@[simp] theorem hot_OS_STATUS_BRAKE_ON : F.OS_STATUS.BRAKE_ON.hot = true := by decide
@[simp] theorem hot_PH_STATUS_STATE : F.PH_STATUS.STATE.hot = true := by decide
@[simp] theorem hot_PLL_STATUS_DEMAND : F.PLL_STATUS.DEMAND.hot = true := by decide
@[simp] theorem hot_PLL_STATUS_LOAN_WAIT : F.PLL_STATUS.LOAN_WAIT.hot = true := by decide
@[simp] theorem hot_PWM_STAGE_HELD : F.PWM_STAGE.HELD.hot = true := by decide
@[simp] theorem hot_PW_STATUS_DEAD : F.PW_STATUS.DEAD.hot = true := by decide
@[simp] theorem hot_PW_STATUS_LEVEL : F.PW_STATUS.LEVEL.hot = true := by decide
@[simp] theorem hot_REG_AQ_COUNT_COUNT : F.REG_AQ_COUNT.COUNT.hot = true := by decide
@[simp] theorem hot_REG_ERR_CAUSE : F.REG_ERR.CAUSE.hot = true := by decide
@[simp] theorem hot_REG_ERR_N : F.REG_ERR.N.hot = true := by decide
@[simp] theorem hot_REG_ERR_P : F.REG_ERR.P.hot = true := by decide
@[simp] theorem hot_REG_EVENTS_COUNT : F.REG_EVENTS.COUNT.hot = true := by decide
@[simp] theorem hot_REG_INC_CLASS : F.REG_INC.CLASS.hot = true := by decide
@[simp] theorem hot_REG_INC_OPEN_SRC : F.REG_INC.OPEN_SRC.hot = true := by decide
@[simp] theorem hot_REG_INC_RUNNING : F.REG_INC.RUNNING.hot = true := by decide
@[simp] theorem hot_REG_INC_NUM_NUM : F.REG_INC_NUM.NUM.hot = true := by decide
@[simp] theorem hot_REG_INC_TICK_TICK : F.REG_INC_TICK.TICK.hot = true := by decide
@[simp] theorem hot_REG_MERGED_COUNT : F.REG_MERGED.COUNT.hot = true := by decide
@[simp] theorem hot_REG_RSW_RSW : F.REG_RSW.RSW.hot = true := by decide
@[simp] theorem hot_REG_RSW_ACTIVE_ACTIVE : F.REG_RSW_ACTIVE.ACTIVE.hot = true := by decide
@[simp] theorem hot_REG_SRC_ACTIVE : F.REG_SRC.ACTIVE.hot = true := by decide
@[simp] theorem hot_REG_SRC_COUNT_COUNT : F.REG_SRC_COUNT.COUNT.hot = true := by decide
@[simp] theorem hot_RING_HELD_COUNT : F.RING_HELD.COUNT.hot = true := by decide
@[simp] theorem hot_SAF_LATCH_CAUSE_OBJECT : F.SAF_LATCH_CAUSE.OBJECT.hot = true := by decide
@[simp] theorem hot_SAF_LATCH_CAUSE_SOURCE : F.SAF_LATCH_CAUSE.SOURCE.hot = true := by decide
@[simp] theorem hot_SAF_LATCH_TICK_TICK : F.SAF_LATCH_TICK.TICK.hot = true := by decide
@[simp] theorem hot_SAF_LOCKOUTS_COUNT : F.SAF_LOCKOUTS.COUNT.hot = true := by decide
@[simp] theorem hot_SAF_STATE_CURATOR_OK : F.SAF_STATE.CURATOR_OK.hot = true := by decide
@[simp] theorem hot_SAF_STATE_DETENT_OK : F.SAF_STATE.DETENT_OK.hot = true := by decide
@[simp] theorem hot_SAF_STATE_LATCHED : F.SAF_STATE.LATCHED.hot = true := by decide
@[simp] theorem hot_SAF_STATE_LOOP_ON : F.SAF_STATE.LOOP_ON.hot = true := by decide
@[simp] theorem hot_SAF_STATE_RB_C : F.SAF_STATE.RB_C.hot = true := by decide
@[simp] theorem hot_SAF_STATE_RB_D : F.SAF_STATE.RB_D.hot = true := by decide
@[simp] theorem hot_SAF_STATE_SDO_C : F.SAF_STATE.SDO_C.hot = true := by decide
@[simp] theorem hot_SAF_STATE_SDO_D : F.SAF_STATE.SDO_D.hot = true := by decide
@[simp] theorem hot_VP_ANCHOR_NEWEST_INDEX : F.VP_ANCHOR_NEWEST.INDEX.hot = true := by decide
@[simp] theorem hot_VP_ANCHOR_NEWEST_T_INDEX : F.VP_ANCHOR_NEWEST.T_INDEX.hot = true := by decide
@[simp] theorem hot_VP_LOG_HEAD_SEQ : F.VP_LOG_HEAD.SEQ.hot = true := by decide
@[simp] theorem hot_VP_LOG_STATUS_FREE : F.VP_LOG_STATUS.FREE.hot = true := by decide
@[simp] theorem hot_VP_LOG_STATUS_FULL : F.VP_LOG_STATUS.FULL.hot = true := by decide
@[simp] theorem hot_VP_LOG_STATUS_HOLDING : F.VP_LOG_STATUS.HOLDING.hot = true := by decide
@[simp] theorem hot_VP_LOG_STATUS_LOW : F.VP_LOG_STATUS.LOW.hot = true := by decide
@[simp] theorem hot_xQ_COUNT_COUNT : F.xQ_COUNT.COUNT.hot = true := by decide
@[simp] theorem hot_xQ_LOST_COUNT : F.xQ_LOST.COUNT.hot = true := by decide
@[simp] theorem hot_xQ_PROD_INDEX : F.xQ_PROD.INDEX.hot = true := by decide
@[simp] theorem timer_anchor : Timer.anchor.calm = false := by simp [Timer.calm]
@[simp] theorem timer_lpddrIdle : Timer.lpddrIdle.calm = false := by simp [Timer.calm]
@[simp] theorem timer_holdoff (n : Nat) : (Timer.holdoff n).calm = false := by simp [Timer.calm]
@[simp] theorem timer_ssMax (n : Nat) : (Timer.ssMax n).calm = false := by simp [Timer.calm]
@[simp] theorem timer_pllStop (n : Nat) : (Timer.pllStop n).calm = false := by simp [Timer.calm]
@[simp] theorem timer_freeze : Timer.freeze.calm = false := by simp [Timer.calm]
@[simp] theorem timer_softOff (n : Nat) : (Timer.softOff n).calm = false := by simp [Timer.calm]
@[simp] theorem timer_blank (n : Nat) : (Timer.blank n).calm = false := by simp [Timer.calm]
@[simp] theorem timer_dead (n : Nat) : (Timer.dead n).calm = false := by simp [Timer.calm]
@[simp] theorem timer_errHold : Timer.errHold.calm = false := by simp [Timer.calm]
@[simp] theorem timer_loopLoan : Timer.loopLoan.calm = false := by simp [Timer.calm]
@[simp] theorem timer_prechPhase (n : Nat) : (Timer.prechPhase n).calm = false := by simp [Timer.calm]
@[simp] theorem timer_brake : Timer.brake.calm = false := by simp [Timer.calm]
@[simp] theorem timer_startLock : Timer.startLock.calm = false := by simp [Timer.calm]
@[simp] theorem timer_loopEdge : Timer.loopEdge.calm = false := by simp [Timer.calm]

@[simp] theorem calmRegs_set (d : Dev) (f : Fld) (v a b c : Nat) (h : f.hot = true) : calmRegs (d.set f v a b c).regs = calmRegs d.regs :=
  congrArg Calm.reg (calm_set d f v a b c h)
@[simp] theorem calm_setB (d : Dev) (f : Fld) (v : Bool) (a b c : Nat) (h : f.hot = true) : (d.setB f v a b c).calm = d.calm := calm_set _ _ _ _ _ _ h
@[simp] theorem calm_inc (d : Dev) (f : Fld) (n a b c : Nat) (h : f.hot = true) : (d.inc f n a b c).calm = d.calm := calm_set _ _ _ _ _ _ h
@[simp] theorem calm_setFlag (d : Dev) (f : Fld) (i : Nat) (v : Bool) (h : f.hot = true) : (d.setFlag f i v).calm = d.calm := calm_set _ _ _ _ _ _ h
@[simp] theorem calm_arm (d : Dev) (t : Timer) (n : Nat) (h : t.calm = false) : (d.arm t n).calm = d.calm := by
  unfold Dev.arm Dev.calm; simp only [calmDue_cons _ _ _ h]
@[simp] theorem calm_disarm (d : Dev) (t : Timer) (h : t.calm = false) : (d.disarm t).calm = d.calm := by
  unfold Dev.disarm Dev.calm; simp only [calmDue_filter _ _ h]
@[simp] theorem calmDue_arm (d : Dev) (t : Timer) (n : Nat) (h : t.calm = false) : calmDue (d.arm t n).timers = calmDue d.timers := calmDue_cons _ _ _ h
@[simp] theorem calmDue_disarm (d : Dev) (t : Timer) (h : t.calm = false) : calmDue (d.disarm t).timers = calmDue d.timers := calmDue_filter _ _ h
@[simp] theorem calm_emit (d : Dev) (o : Out) : (d.emit o).calm = d.calm := rfl
@[simp] theorem calm_pw (d : Dev) (k : Nat) (g : Pwm → Pwm) (h : ∀ p, (g p).still = p.still) : (d.pw k g).calm = d.calm := by
  unfold Dev.pw Dev.calm; simp only [modify_map _ _ h]
@[simp] theorem calm_grp (d : Dev) (k : Nat) (g : Group → Group) (h : ∀ p, (g p).still = p.still) : (d.grp k g).calm = d.calm := by
  unfold Dev.grp Dev.calm; simp only [modify_map _ _ h]
@[simp] theorem calm_phs (d : Dev) (k : Nat) (g : Phase → Phase) (h : ∀ p, (g p).still = p.still) : (d.phs k g).calm = d.calm := by
  unfold Dev.phs Dev.calm; simp only [modify_map _ _ h]
@[simp] theorem calm_free (d : Dev) : d.free.calm = d.calm := rfl
@[simp] theorem calm_cond (d : Dev) (b : Bool) (g : Dev → Dev) (h : (g d).calm = d.calm) : (d.cond b g).calm = d.calm := by
  unfold Dev.cond; split <;> simp [h]

/-! The log, rings, loans -/

@[simp] theorem calm_anchorPut (d : Dev) (a : Anchor) : (d.anchorPut a).calm = d.calm := by simp [Dev.anchorPut, apply_ite Dev.calm]
@[simp] theorem calm_anchored (d : Dev) : (d.anchored).calm = d.calm := by simp [Dev.anchored]
@[simp] theorem calm_anchorFlush (d : Dev) : (d.anchorFlush).calm = d.calm := by
  unfold Dev.anchorFlush
  split
  · split <;> simp
  · rfl
@[simp] theorem calm_anchor (d : Dev) (t : Nat) : (d.anchor t).calm = d.calm := by simp [Dev.anchor]
@[simp] theorem calm_logFree (d : Dev) : (d.logFree).calm = d.calm := by simp [Dev.logFree]
@[simp] theorem calm_lpddrTouch (d : Dev) : (d.lpddrTouch).calm = d.calm := by simp [Dev.lpddrTouch, apply_ite Dev.calm]
@[simp] theorem calm_log (d : Dev) (kind : Nat) (o : Orig) (object aux old new r x : Nat) : (d.log kind o object aux old new r x).calm = d.calm := by simp [Dev.log, apply_ite Dev.calm]
@[simp] theorem calm_writeBack (d : Dev) (r : Nat) : (d.writeBack r).calm = d.calm := by simp [Dev.writeBack]
@[simp] theorem calm_msix (d : Dev) (f v : Nat) : (d.msix f v).calm = d.calm := by
  simp only [Dev.msix]
  repeat' split
  all_goals simp
@[simp] theorem calm_ringPush (d : Dev) (r : Nat) : (d.ringPush r).calm = d.calm := by simp [Dev.ringPush]
@[simp] theorem calm_complete (d : Dev) (c : Completion) : (d.complete c).calm = d.calm := by simp [Dev.complete, apply_ite Dev.calm]
@[simp] theorem calm_evWrite (d : Dev) (e : Nat) (x : Event) : (d.evWrite e x).calm = d.calm := by simp [Dev.evWrite, apply_ite Dev.calm]
@[simp] theorem calm_evLoss (d : Dev) (e : Nat) : (d.evLoss e).calm = d.calm := by simp [Dev.evLoss]
@[simp] theorem calm_evDrain (d : Dev) (e n : Nat) : (d.evDrain e n).calm = d.calm := by
  induction n generalizing d with
  | zero => rfl
  | succ n ih => unfold Dev.evDrain; simp only; repeat' split
                 all_goals simp [ih]
@[simp] theorem calm_evPut (d : Dev) (e : Nat) (x : Event) : (d.evPut e x).calm = d.calm := by simp [Dev.evPut, apply_ite Dev.calm]
@[simp] theorem calm_loanSync (d : Dev) : (d.loanSync).calm = d.calm := by simp [Dev.loanSync]
@[simp] theorem calm_waitSync (d : Dev) : (d.waitSync).calm = d.calm := calm_each _ _ _ (fun _ _ => by simp)
@[simp] theorem calm_loanLog (d : Dev) (w op inst b : Nat) : (d.loanLog w op inst b).calm = d.calm := by simp [Dev.loanLog]
@[simp] theorem calm_loanReturn (d : Dev) (op inst : Nat) : (d.loanReturn op inst).calm = d.calm := by simp [Dev.loanReturn, apply_ite Dev.calm]
@[simp] theorem calm_loanReduce (d : Dev) (op inst : Nat) : (d.loanReduce op inst).calm = d.calm := by simp [Dev.loanReduce, apply_ite Dev.calm]
@[simp] theorem calm_loanDrop (d : Dev) (op inst : Nat) : (d.loanDrop op inst).calm = d.calm := by simp [Dev.loanDrop, apply_ite Dev.calm]
@[simp] theorem calm_loanEnd (d : Dev) (op : Nat) : (d.loanEnd op).calm = d.calm := by
  unfold Dev.loanEnd
  exact (calm_each _ _ _ (fun _ _ => by simp)).trans (calm_each _ _ _ (fun _ _ => by simp))
@[simp] theorem calm_pllDrop (d : Dev) (p u : Nat) : (d.pllDrop p u).calm = d.calm := by simp [Dev.pllDrop, apply_ite Dev.calm]

/-! The Archive, device states, stops -/

@[simp] theorem calm_arcMark (d : Dev) (ty fl ob aux : Nat) (body : List Int) (len : Nat) : (d.arcMark ty fl ob aux body len).calm = d.calm := by simp [Dev.arcMark, apply_ite Dev.calm]
@[simp] theorem calm_arcTrigger (d : Dev) (cause aux : Nat) : (d.arcTrigger cause aux).calm = d.calm := by
  unfold Dev.arcTrigger; split <;> simp
@[simp] theorem calm_arcStart (d : Dev) : (d.arcStart).calm = d.calm := by simp [Dev.arcStart]
@[simp] theorem calm_loopSilence (d : Dev) : (d.loopSilence).calm = d.calm := by simp [Dev.loopSilence]
@[simp] theorem calm_sdoDrop (d : Dev) (c x : Bool) : (d.sdoDrop c x).calm = d.calm := by simp [Dev.sdoDrop, apply_ite Dev.calm]
@[simp] theorem calm_level (d : Dev) (c l : Nat) : (d.level c l).calm = d.calm := by
  have h : ((((d.set F.PW_STATUS.LEVEL l c).set F.GD_STATUS.CMD l (d.gateOf c)).pw c fun p => { p with edge := d.now })).calm = d.calm :=
    by refine (calm_pw _ _ _ ?_).trans (by simp); exact fun _ => rfl
  unfold Dev.level
  dsimp only
  generalize ((d.set F.PW_STATUS.LEVEL l c).set F.GD_STATUS.CMD l (d.gateOf c)).pw c _ = e at *
  split
  · split <;> simp [h]
  · split <;> simp [h]
@[simp] theorem calm_loopRate (d : Dev) : (d.loopRate).calm = d.calm := by simp [Dev.loopRate]
/-- Entry to a device state other than STAGED. -/
@[simp] theorem calm_setState (d : Dev) (s : Nat) (o : Orig) (h : s ≠ STAGED) : (d.setState s o).calm = d.calm := by
  have h1 : ∀ e : Dev, (e.each (List.range 32) fun d x => d.setB F.GD_STATUS.UNPROVEN (d.bit F.GD_CFG.BOOTSTRAP x && d.bit F.GD_CFG.DECLARED x) x).calm = e.calm :=
    fun e => calm_each _ _ _ (fun _ _ => by simp)
  have h2 : ∀ e : Dev, (e.each [24, 25] fun d c => d.level c 0).calm = e.calm :=
    fun e => calm_each _ _ _ (fun _ _ => by simp)
  simp [Dev.setState, apply_ite Dev.calm, h1, h2, h]
@[simp] theorem staged_linked : LINKED ≠ STAGED := by decide
@[simp] theorem staged_stop : STOP ≠ STAGED := by decide
@[simp] theorem staged_lockout : LOCKOUT ≠ STAGED := by decide
@[simp] theorem calm_deadEnd (d : Dev) (c : Nat) : (d.deadEnd c).calm = d.calm := by simp [Dev.deadEnd]
@[simp] theorem calm_softOffChan (d : Dev) (s c : Nat) : (d.softOffChan s c).calm = d.calm := by simp [Dev.softOffChan, apply_ite Dev.calm]
@[simp] theorem calm_softOffs (d : Dev) (ss : List Nat) : (d.softOffs ss).calm = d.calm := by
  have h1 : ∀ (e : Dev) (l : List Nat), (e.each l fun d c => d.softOffChan (d.stageOf c) c).calm = e.calm := fun e l => calm_each _ _ _ (fun _ _ => by simp)
  have h2 : ∀ (e : Dev) (l : List Nat), (e.each l fun d s => d.setB F.PWM_STAGE.HELD true s).calm = e.calm := fun e l => calm_each _ _ _ (fun _ _ => by simp)
  unfold Dev.softOffs
  dsimp only
  split <;> simp [h1, h2]
@[simp] theorem calm_softOff (d : Dev) (s : Nat) : (d.softOff s).calm = d.calm := by simp [Dev.softOff]
@[simp] theorem calm_grpLoanEnd (d : Dev) (g : Nat) : (d.grpLoanEnd g).calm = d.calm := by simp [Dev.grpLoanEnd]
@[simp] theorem calm_grpStop (d : Dev) (g : Nat) : (d.grpStop g).calm = d.calm := by simp [Dev.grpStop, apply_ite Dev.calm]
@[simp] theorem calm_grpPhasesOff (d : Dev) (g : Nat) : (d.grpPhasesOff g).calm = d.calm := by
  unfold Dev.grpPhasesOff
  rw [calm_set _ _ _ _ _ _ (by decide)]
  refine calm_each _ _ _ fun e k => ?_
  rw [calm_phs _ _ (fun x => { x with ending := false }) (fun _ => rfl)]
  split <;> simp
@[simp] theorem calm_grpFast (d : Dev) (g : Nat) : (d.grpFast g).calm = d.calm := by simp [Dev.grpFast, apply_ite Dev.calm]
@[simp] theorem calm_colStop (d : Dev) : (d.colStop).calm = d.calm := by simp [Dev.colStop, apply_ite Dev.calm]
@[simp] theorem calm_colHeld (d : Dev) : (d.colHeld).calm = d.calm := by simp [Dev.colHeld, apply_ite Dev.calm]
@[simp] theorem calm_prePhase (d : Dev) (s ph : Nat) : (d.prePhase s ph).calm = d.calm := by simp [Dev.prePhase]
@[simp] theorem calm_preEnd (d : Dev) : (d.preEnd).calm = d.calm := by
  unfold Dev.preEnd
  refine (calm_each _ _ _ ?_).trans (by simp)
  exact fun e s => (calm_cond _ _ _ (calm_prePhase _ _ _)).trans (calm_disarm _ _ rfl)
@[simp] theorem calm_precharge0 (d : Dev) (o : Orig) : (d.precharge0 o).calm = d.calm := by simp [Dev.precharge0]
@[simp] theorem calm_orderlyStop (d : Dev) (o : Orig) : (d.orderlyStop o).calm = d.calm := by simp [Dev.orderlyStop, apply_ite Dev.calm]
@[simp] theorem calm_fastStop (d : Dev) (o : Orig) (b : Bool) : (d.fastStop o b).calm = d.calm := by
  unfold Dev.fastStop
  split
  · have h : ∀ x : Option Nat, (((({ d with arr := { d.arr with fastFrom := x, zeroBeats := 0, zeroPower := false } }).softOff 0).grpFast 0).grpFast 1 : Dev).calm = d.calm :=
      fun x => ((calm_grpFast _ _).trans ((calm_grpFast _ _).trans (calm_softOff _ _))).trans rfl
    dsimp only
    have h2 : ∀ e : Dev, e.calm = d.calm → (let f := e.cond (!b) (·.colStop); if f.st = RUN then f.setState STOP o else if f.st = PRECHARGE then f.precharge0 o else f : Dev).calm = d.calm := by
      intro e he
      have h3 := calm_cond e (!b) (·.colStop) (calm_colStop _)
      dsimp only
      generalize e.cond (!b) (·.colStop) = f at *
      split
      · simp [h3, he]
      · split <;> simp [h3, he]
    exact h2 _ (h _)
  · rfl
@[simp] theorem calm_latchSet (d : Dev) (s ob : Nat) : (d.latchSet s ob).calm = d.calm := by simp [Dev.latchSet, apply_ite Dev.calm]
@[simp] theorem calm_lockEnter (d : Dev) (o : Orig) : (d.lockEnter o).calm = d.calm := by
  have h : ∀ e : Dev, ({ e with saf := { e.saf with lockDue := none } } : Dev).calm = e.calm := fun _ => rfl
  simp [Dev.lockEnter, h]
@[simp] theorem calm_lockTry (d : Dev) : (d.lockTry).calm = d.calm := by
  unfold Dev.lockTry
  split
  · split <;> simp
  · rfl
@[simp] theorem calm_safeOff (d : Dev) (s ob : Nat) (o : Orig) : (d.safeOff s ob o).calm = d.calm := by
  have h1 : ∀ e : Dev, (if e.energy then { e with arr := { e.arr with fastFrom := some (e.arr.fastFrom.getD (if e.phase < 290 then e.beat else e.beat + 1)) } } else e : Dev).calm = e.calm :=
    fun e => by split <;> rfl
  have h2 : ∀ (e : Dev) (x : Option Orig), ({ e with saf := { e.saf with lockDue := x } } : Dev).calm = e.calm := fun _ _ => rfl
  have h3 : ∀ e : Dev, ({ e with arr := { e.arr with starting := false } } : Dev).calm = e.calm := fun _ => rfl
  unfold Dev.safeOff
  simp only [calm_lockTry, h2, timer_startLock, timer_loopLoan, calm_disarm, h3, hot_OS_STATUS_BRAKE_ON, calm_setB, calm_colHeld, calm_grpFast, calm_softOffs, h1, calm_sdoDrop,
    calm_loopSilence, calm_latchSet]

/-! Events and the end of a step -/

@[simp] theorem calm_activeSync (d : Dev) (s : Nat) : (d.activeSync s).calm = d.calm := by simp [Dev.activeSync]
@[simp] theorem calm_condOn (d : Dev) (s ob : Nat) : (d.condOn s ob).calm = d.calm := by simp [Dev.condOn]
@[simp] theorem calm_condOff (d : Dev) (s ob : Nat) : (d.condOff s ob).calm = d.calm := by simp [Dev.condOff, apply_ite Dev.calm]
@[simp] theorem calm_earlyMerge (d : Dev) : (d.earlyMerge).calm = d.calm := by simp [Dev.earlyMerge]
@[simp] theorem calm_earlyNote (d : Dev) (s ob : Nat) (i : Option Nat) : (d.earlyNote s ob i).calm = d.calm := by simp [Dev.earlyNote, apply_ite Dev.calm]
@[simp] theorem calm_incidentEnd (d : Dev) : (d.incidentEnd).calm = d.calm := by simp [Dev.incidentEnd, apply_ite Dev.calm]
@[simp] theorem calm_stopReached (d : Dev) : (d.stopReached).calm = d.calm := by simp [Dev.stopReached, apply_ite Dev.calm]
@[simp] theorem calm_aqEnter (d : Dev) (x : Event) (opened : Bool) : (d.aqEnter x opened).calm = d.calm := by
  simp only [Dev.aqEnter]
  split <;> simp
@[simp] theorem calm_incidentTake (d : Dev) (s c ob : Nat) : (d.incidentTake s c ob).1.calm = d.calm := by
  simp [Dev.incidentTake, apply_ite Prod.fst, apply_ite Dev.calm]
@[simp] theorem calm_errSync (d : Dev) : (d.errSync).calm = d.calm := by simp [Dev.errSync, apply_ite Dev.calm]
@[simp] theorem calm_react (d : Dev) (s c ob f : Nat) : (d.react s c ob f).calm = d.calm := by
  simp only [Dev.react]
  repeat' split
  all_goals simp
@[simp] theorem calm_latchOnly (d : Dev) (s c ob : Nat) (data : List Nat) (i : Option Nat) (fo : Bool) : (d.latchOnly s c ob data i fo).calm = d.calm := by
  have h : ∀ (e : Dev) l x, (e.each l fun d n => d.evPut n x).calm = e.calm := fun e l x => calm_each _ _ _ (fun _ _ => by simp)
  simp [Dev.latchOnly, apply_ite Dev.calm, h]
@[simp] theorem calm_latchEvent (d : Dev) (s c ob : Nat) (data : List Nat) (i : Option Nat) (fo : Bool) (fac : Option Nat) : (d.latchEvent s c ob data i fo fac).calm = d.calm := by simp [Dev.latchEvent]
@[simp] theorem calm_conserve (d : Dev) (c n : Nat) : (d.conserve c n).calm = d.calm := by simp [Dev.conserve]
@[simp] theorem calm_countCheck (d : Dev) : (d.countCheck).calm = d.calm := by simp [Dev.countCheck, apply_ite Dev.calm]
@[simp] theorem calm_raise (d : Dev) (s c ob : Nat) (data : List Nat) (i : Option Nat) (fac : Option Nat) : (d.raise s c ob data i fac).calm = d.calm := by simp [Dev.raise]
@[simp] theorem calm_record (d : Dev) (s c ob : Nat) (data : List Nat) : (d.record s c ob data).calm = d.calm := by simp [Dev.record]
@[simp] theorem calm_force (d : Dev) (s c : Nat) : (d.force s c).calm = d.calm := by simp [Dev.force]
@[simp] theorem calm_logTiers (d : Dev) : (d.logTiers).calm = d.calm := by simp [Dev.logTiers, apply_ite Dev.calm]
@[simp] theorem calm_startEnd (d : Dev) : (d.startEnd).calm = d.calm := by simp [Dev.startEnd, apply_ite Dev.calm]
@[simp] theorem calm_loanFile0 (d : Dev) (i : Nat) : (d.loanFile 0 i).calm = d.calm := by
  simp [Dev.loanFile, Dev.refuse, Dev.refuseRec, Dev.refuseEffect, apply_ite Dev.calm]
@[simp] theorem calm_lpddrAsk (d : Dev) : (d.lpddrAsk).calm = d.calm := by simp [Dev.lpddrAsk, apply_ite Dev.calm]
@[simp] theorem calm_arrMode (d : Dev) : (d.arrMode).calm = d.calm := by simp [Dev.arrMode]
@[simp] theorem calm_loanCheck (d : Dev) : (d.loanCheck).calm = d.calm := by simp [Dev.loanCheck, apply_ite Dev.calm]
@[simp] theorem calm_healthOf (d : Dev) (p : Nat) : (d.healthOf p).calm = d.calm := by
  unfold Dev.healthOf
  split
  · split
    · by_cases h : p = 0 <;> simp [h, Dev.setB]
    · rfl
  · rfl
/-- The end of a step leaves the calm part alone. -/
@[simp] theorem calm_settle (d : Dev) : d.settle.calm = d.calm := by simp [Dev.settle, apply_ite Dev.calm]

end Sys2Proof.Machine
end

