-- ==== Sys2Proof/Laws/Line.lean ====
section
/-! SUPPORT. What a receiver undoes of the line code: symbol pairs, levels, scrambling, control blocks. -/

namespace Sys2Proof.Machine

/-- R173: two-level symbols of levels. -/
theorem level2_inj (a b : Bool) (h : level2 a = level2 b) : a = b := by
  cases a <;> cases b <;> simp_all [level2]

/-- R170: the pair of a pair's symbol. -/
@[simp] theorem ofGray_grayOf (a b : Bool) : ofGray (grayOf a b) = [a, b] := by cases a <;> cases b <;> rfl

/-- R177: descrambling undoes scrambling, with the same state on both sides. -/
theorem descramble_scramble (d : List Bool) : ∀ s, (descramble s (scramble s d).1).1 = d := by
  induction d with
  | nil => intro s; rfl
  | cons x r ih =>
    intro s
    simp only [scramble, scrambleBit, descramble, descrambleBit, List.cons.injEq]
    exact ⟨by cases x <;> cases s.getD 38 false <;> cases s.getD 57 false <;> rfl, ih _⟩

/-- R175: a control block is read as it was sent. -/
theorem Ctl.ofPayload_payload (c : Ctl) (h : match c with | .idle _ _ => True | .mark id => id < 256 | .echo id t => id < 256 ∧ t < 2 ^ 32 | .shift n => n < 256) :
    Ctl.ofPayload c.payload = some c := by
  cases c with
  | idle a b => cases a <;> cases b <;> rfl
  | mark id => simp only [Ctl.payload, Ctl.ofPayload, Nat.mod_eq_of_lt h]
  | echo id t =>
    obtain ⟨h1, h2⟩ := h
    simp only [Ctl.payload, leBytes, List.cons_append, List.nil_append, Ctl.ofPayload, ofLe, Nat.mod_eq_of_lt h1, Option.some.injEq, Ctl.echo.injEq, true_and]
    omega
  | shift n => simp only [Ctl.payload, Ctl.ofPayload, Nat.mod_eq_of_lt h]

/-- R185: the receiver removes what the transmitter stuffed, with no violation, and its count stays the transmitter's. -/
theorem unstuff_stuff (d : List Bool) : ∀ b n, n < 24 → unstuff (b, n) (stuff (b, n) d).1 = (d, 0, (stuff (b, n) d).2) := by
  induction d with
  | nil => intro b n _; rfl
  | cons x r ih =>
    intro b n h
    by_cases hm : (if x = b ∧ n ≠ 0 then n + 1 else 1) = 24
    · simp only [stuff, hm, if_true, unstuff, if_neg (Nat.ne_of_lt h), ih (!x) 1 (by omega)]
      cases x <;> rfl
    · have hl : (if x = b ∧ n ≠ 0 then n + 1 else 1) < 24 := by
        by_cases hx : x = b ∧ n ≠ 0
        · rw [if_pos hx] at hm ⊢; omega
        · rw [if_neg hx]; omega
      simp only [stuff, if_neg hm, unstuff, if_neg (Nat.ne_of_lt h), ih x _ hl]

end Sys2Proof.Machine
end

