-- ==== Sys2Proof/Laws/Step.lean ====
section
/-! SUPPORT. How a step is taken apart: the domains a command needs, deadlines, the passing of time, the end of a step, and what a field reads after
them. -/

namespace Sys2Proof.Machine

/-! Reading after writing -/

/-- A write leaves every element of a field that is apart alone. -/
theorem Dev.get_set_apart (d : Dev) {f g : Fld} (h : g.apart f = true) (v : Nat) {a b c a' b' c' : Nat}
    (ha : a' < g.n1) (hb : b' < g.n2) (hc : c' < g.n3) : (d.set f v a b c).get g a' b' c' = d.get g a' b' c' := by
  by_cases hs : a < f.n1 ∧ b < f.n2 ∧ c < f.n3
  · exact Dev.get_set_ne _ _ _ _ (Fld.apart_key h ha hb hc hs.1 hs.2.1 hs.2.2)
  · rw [Dev.set_outside d f v hs]

/-- A write leaves every field at other bits alone. -/
theorem Dev.get_set_bits (d : Dev) {f g : Fld} (h : g.lo ≠ f.lo) (hf : f.lo < 64) (hg : g.lo < 64) (v a b c a' b' c' : Nat) :
    (d.set f v a b c).get g a' b' c' = d.get g a' b' c' := by
  refine Dev.get_set_ne _ _ _ _ ?_
  have := f.key_div hf a b c
  have := g.key_div hg a' b' c'
  omega

/-! Domains, deadlines and time -/

theorem onMain_live {s : State} (h : s.dev.live = true) (f : Dev → Dev) : onMain s f = .next { s with dev := (f s.dev).settle } := by
  simp [onMain, done, h]

theorem onMain_dead {s : State} (h : s.dev.live = false) (f : Dev → Dev) : onMain s f = .next s := by simp [onMain, h]

theorem onReserve_on {s : State} (h : s.dev.pwr.reserveOn = true) (f : Dev → Dev) : onReserve s f = .next { s with dev := (f s.dev).settle } := by
  simp [onReserve, done, h]

theorem settle_dead {d : Dev} (h : d.live = false) : d.settle = d := by simp [Dev.settle, h]

theorem fire_due {d : Dev} {t : Timer} {x : Nat} (h : d.due t = some x) (ha : d.ahead x = true) (g : Dev → Dev) : d.fire t g = g ((d.until x).disarm t) := by
  simp [Dev.fire, Dev.wait, h, ha]

theorem wait_ahead {d : Dev} {x : Nat} (h : d.ahead x = true) (g : Dev → Dev) : d.wait x g = g (d.until x) := by simp [Dev.wait, h]

theorem after_main {c : Instr} {s : State} {f : Dev → Dev} {P : Dev → Prop} (h : exec c s = onMain s f) (hl : s.dev.live = true)
    (hp : P (f s.dev).settle) : After c s P := ⟨_, h.trans (onMain_live hl f), rfl, hp⟩

theorem leaves_main {c : Instr} {s : State} {f : Dev → Dev} {P : Dev → Prop} (h : exec c s = onMain s f) (hl : s.dev.live = true)
    (hp : P (f s.dev)) : Leaves c s P := ⟨_, h.trans (onMain_live hl f), hp⟩

theorem after_reserve {c : Instr} {s : State} {f : Dev → Dev} {P : Dev → Prop} (h : exec c s = onReserve s f) (hl : s.dev.pwr.reserveOn = true)
    (hp : P (f s.dev).settle) : After c s P := ⟨_, h.trans (onReserve_on hl f), rfl, hp⟩

theorem leaves_reserve {c : Instr} {s : State} {f : Dev → Dev} {P : Dev → Prop} (h : exec c s = onReserve s f) (hl : s.dev.pwr.reserveOn = true)
    (hp : P (f s.dev)) : Leaves c s P := ⟨_, h.trans (onReserve_on hl f), hp⟩

/-- A calm register reads the same at the end of the step. -/
theorem settle_get (d : Dev) {f : Fld} (h : f.calm = true) {a b c : Nat} (ha : a < f.n1 := by decide) (hb : b < f.n2 := by decide)
    (hc : c < f.n3 := by decide) : d.settle.get f a b c = d.get f a b c := calm_get (calm_settle d) f (Fld.calm_key h ha hb hc)

theorem raise_get (d : Dev) {f : Fld} (h : f.calm = true) {a b c : Nat} (ha : a < f.n1) (hb : b < f.n2) (hc : c < f.n3) (s k o : Nat) (l : List Nat)
    (u : Nat) (m : Option Nat) : (d.raise s k o l u m).get f a b c = d.get f a b c := calm_get (calm_raise ..) f (Fld.calm_key h ha hb hc)

/-! What the passing of time leaves alone -/

theorem elapse_get (d : Dev) (n : Nat) {g : Fld} (h : g.apart F.RSV_TIME.COUNT = true) {a b c : Nat} (ha : a < g.n1) (hb : b < g.n2) (hc : c < g.n3) :
    (d.elapse n).get g a b c = d.get g a b c := by
  have k : ∀ (e : Dev) m, (e.inc F.RSV_TIME.COUNT m).get g a b c = e.get g a b c := fun e m => Dev.get_set_apart e h _ ha hb hc
  simp only [Dev.elapse]
  split <;> split <;> first | rfl | exact k _ _

@[simp] theorem elapse_timers (d : Dev) (n : Nat) : (d.elapse n).timers = d.timers := by simp only [Dev.elapse]; split <;> split <;> simp [Dev.inc]
@[simp] theorem elapse_freeCtr (d : Dev) (n : Nat) : (d.elapse n).freeCtr = d.freeCtr := by simp only [Dev.elapse]; split <;> split <;> simp [Dev.inc]
@[simp] theorem elapse_out (d : Dev) (n : Nat) : (d.elapse n).out = d.out := by simp only [Dev.elapse]; split <;> split <;> simp [Dev.inc]
@[simp] theorem elapse_clk (d : Dev) (n : Nat) : (d.elapse n).clk = d.clk := by simp only [Dev.elapse]; split <;> split <;> simp [Dev.inc]
@[simp] theorem elapse_loans (d : Dev) (n : Nat) : (d.elapse n).loans = d.loans := by simp only [Dev.elapse]; split <;> split <;> simp [Dev.inc]
@[simp] theorem elapse_loanWait (d : Dev) (n : Nat) : (d.elapse n).loanWait = d.loanWait := by simp only [Dev.elapse]; split <;> split <;> simp [Dev.inc]
@[simp] theorem elapse_mram (d : Dev) (n : Nat) : (d.elapse n).mram = d.mram := by simp only [Dev.elapse]; split <;> split <;> simp [Dev.inc]
@[simp] theorem elapse_rings (d : Dev) (n : Nat) : (d.elapse n).rings = d.rings := by simp only [Dev.elapse]; split <;> split <;> simp [Dev.inc]
@[simp] theorem elapse_prov (d : Dev) (n : Nat) : (d.elapse n).prov = d.prov := by simp only [Dev.elapse]; split <;> split <;> simp [Dev.inc]
@[simp] theorem elapse_reg (d : Dev) (n : Nat) : (d.elapse n).reg = d.reg := by simp only [Dev.elapse]; split <;> split <;> simp [Dev.inc]
@[simp] theorem elapse_lanes (d : Dev) (n : Nat) : (d.elapse n).lanes = d.lanes := by simp only [Dev.elapse]; split <;> split <;> simp [Dev.inc]
@[simp] theorem elapse_cells (d : Dev) (n : Nat) : (d.elapse n).cells = d.cells := by simp only [Dev.elapse]; split <;> split <;> simp [Dev.inc]
@[simp] theorem elapse_arr (d : Dev) (n : Nat) : (d.elapse n).arr = d.arr := by simp only [Dev.elapse]; split <;> split <;> simp [Dev.inc]
@[simp] theorem elapse_slots (d : Dev) (n : Nat) : (d.elapse n).slots = d.slots := by simp only [Dev.elapse]; split <;> split <;> simp [Dev.inc]
@[simp] theorem elapse_bank2 (d : Dev) (n : Nat) : (d.elapse n).bank2 = d.bank2 := by simp only [Dev.elapse]; split <;> split <;> simp [Dev.inc]
@[simp] theorem elapse_phases (d : Dev) (n : Nat) : (d.elapse n).phases = d.phases := by simp only [Dev.elapse]; split <;> split <;> simp [Dev.inc]
@[simp] theorem elapse_groups (d : Dev) (n : Nat) : (d.elapse n).groups = d.groups := by simp only [Dev.elapse]; split <;> split <;> simp [Dev.inc]
@[simp] theorem elapse_pwm (d : Dev) (n : Nat) : (d.elapse n).pwm = d.pwm := by simp only [Dev.elapse]; split <;> split <;> simp [Dev.inc]
@[simp] theorem elapse_gates (d : Dev) (n : Nat) : (d.elapse n).gates = d.gates := by simp only [Dev.elapse]; split <;> split <;> simp [Dev.inc]
@[simp] theorem elapse_os (d : Dev) (n : Nat) : (d.elapse n).os = d.os := by simp only [Dev.elapse]; split <;> split <;> simp [Dev.inc]
@[simp] theorem elapse_enc (d : Dev) (n : Nat) : (d.elapse n).enc = d.enc := by simp only [Dev.elapse]; split <;> split <;> simp [Dev.inc]
@[simp] theorem elapse_col (d : Dev) (n : Nat) : (d.elapse n).col = d.col := by simp only [Dev.elapse]; split <;> split <;> simp [Dev.inc]
@[simp] theorem elapse_metCh (d : Dev) (n : Nat) : (d.elapse n).metCh = d.metCh := by simp only [Dev.elapse]; split <;> split <;> simp [Dev.inc]
@[simp] theorem elapse_metEl (d : Dev) (n : Nat) : (d.elapse n).metEl = d.metEl := by simp only [Dev.elapse]; split <;> split <;> simp [Dev.inc]
@[simp] theorem elapse_met (d : Dev) (n : Nat) : (d.elapse n).met = d.met := by simp only [Dev.elapse]; split <;> split <;> simp [Dev.inc]
@[simp] theorem elapse_ports (d : Dev) (n : Nat) : (d.elapse n).ports = d.ports := by simp only [Dev.elapse]; split <;> split <;> simp [Dev.inc]
@[simp] theorem elapse_saf (d : Dev) (n : Nat) : (d.elapse n).saf = d.saf := by simp only [Dev.elapse]; split <;> split <;> simp [Dev.inc]
@[simp] theorem elapse_hk (d : Dev) (n : Nat) : (d.elapse n).hk = d.hk := by simp only [Dev.elapse]; split <;> split <;> simp [Dev.inc]
@[simp] theorem elapse_main (d : Dev) (n : Nat) : (d.elapse n).pwr.main = d.pwr.main := by simp only [Dev.elapse]; split <;> split <;> simp [Dev.inc]
@[simp] theorem elapse_live (d : Dev) (n : Nat) : (d.elapse n).live = d.live := by simp [Dev.live]
@[simp] theorem elapse_due (d : Dev) (n : Nat) (t : Timer) : (d.elapse n).due t = d.due t := by simp [Dev.due]
theorem elapse_tick (d : Dev) (n : Nat) (h : d.live = true) : (d.elapse n).tick = d.tick + n := by
  have : ∀ m, (({ d with pwr := { d.pwr with rsvAcc := m } } : Dev)).live = true := fun m => h
  simp only [Dev.elapse]; split <;> simp_all [Dev.live, Dev.inc]

/-- Time passes to an instant, or it has passed already. -/
theorem until_tick (d : Dev) (t : Nat) (h : d.live = true) : (d.until t).tick = max d.tick t := by
  rw [Dev.until, elapse_tick d _ h]; omega

/-- What passing time does to the Reserve's clock leaves network time and its increment alone. -/
theorem rsv_calm (d : Dev) (n : Nat) : ∀ e : Dev, e = (if d.pwr.reserveOn then
      ({ d with pwr := { d.pwr with rsvAcc := (d.pwr.rsvAcc + n * 32768) % 100000000 } }).inc F.RSV_TIME.COUNT ((d.pwr.rsvAcc + n * 32768) / 100000000) else d) →
    e.get F.CHR_INC.INC = d.get F.CHR_INC.INC ∧ e.chr = d.chr ∧ e.live = d.live := by
  rintro e rfl
  split
  · refine ⟨?_, by simp [Dev.inc], by simp [Dev.live, Dev.inc]⟩
    rw [Dev.inc, Dev.get_set_apart _ (by decide) _ (by decide) (by decide) (by decide)]; rfl
  · exact ⟨rfl, rfl, rfl⟩

theorem elapse_edge0 (d : Dev) (n : Nat) (h : d.live = true) : (d.elapse n).chr.edge0 = d.chr.edge0 := by
  obtain ⟨-, h2, h3⟩ := rsv_calm d n _ rfl
  simp only [Dev.elapse, h2, h3, h, if_true]

/-- R451: while the count runs from REFCLK, each of its cycles moves the count that a time-stamp carries by 4. -/
theorem stamp_refclk (d : Dev) (h : d.live = true) (hf : d.bit F.CHR_STATE.FULL_RES = false) (he : d.chr.edge0 ≤ d.tick) :
    (d.elapse 4).stamp = d.stamp + 4 := by
  have hb : (d.elapse 4).bit F.CHR_STATE.FULL_RES = false := by
    rw [← hf]; simp only [Dev.bit, elapse_get d 4 (g := F.CHR_STATE.FULL_RES) (by decide) (a := 0) (b := 0) (c := 0) (by decide) (by decide) (by decide)]
  simp only [Dev.stamp, hb, hf, elapse_edge0 d 4 h, elapse_tick d 4 h, Bool.false_eq_true, if_false]
  omega

/-- R453: each tick adds INC to network time, and so each REFCLK cycle 4·INC. -/
theorem elapse_nt (d : Dev) (n : Nat) (h : d.live = true) : (d.elapse n).nt = d.nt + n * d.get F.CHR_INC.INC := by
  obtain ⟨h1, h2, h3⟩ := rsv_calm d n _ rfl
  simp only [Dev.elapse, h1, h2, h3, h, if_true, Dev.nt]
  omega

/-- The deadline armed last stands at its instant. -/
theorem due_arm (d : Dev) (t : Timer) (n : Nat) : (d.arm t n).due t = some (d.tick + n) := by simp [Dev.arm, Dev.due]

theorem due_disarm (d : Dev) (t : Timer) : (d.disarm t).due t = none := by simp [Dev.disarm, Dev.due]

end Sys2Proof.Machine
end

