-- ==== Sys2Proof/Machine/Pins.lean ====
section
/-! DEFINITION. The levels of the module's output balls (R25, R36, R37) and the test access port (R41): read from the state, so that no command has to
drive them. -/

namespace Sys2Proof.Machine

/-- What an output ball shows (R36). `idle` stands for a transmitter that sends nothing, `training` for one that trains its link, `active` for one that sends or a clock that runs. -/
inductive Level | highZ | low | high | idle | training | active | off | on
  deriving DecidableEq, Repr, Inhabited

/-- The output balls of R36. -/
inductive Ball
  | clTx (k : Fin 96) | clTxdis (k : Fin 96)
  | gdA (x : Fin 32) | gdB (x : Fin 32)
  | syncOut | mclk (n : Fin 4) | anref
  | sdoC | sdoD | safeLoop | errP | errN
  | ssiClk | pcieTx | clkreq
  | ethTx (n : Fin 2) | ethTxdis (n : Fin 2)
  | canTxd (n : Fin 2) | canStb (n : Fin 2)
  deriving DecidableEq, Repr, Inhabited

/-- High where it holds, low where it does not. -/
def Level.of (b : Bool) : Level := if b then .high else .low

/-- R36, R25: the balls of domains K and D: their "Reset" state whenever the Reserve domain runs, and what the Detent drives. -/
def Dev.detentBall (d : Dev) (b : Ball) : Option Level :=
  match b with
  | .sdoC => some (if d.pwr.reserveOn && d.pwr.vsdoOk && d.bit F.SAF_STATE.SDO_C then .on else .off)
  | .sdoD => some (if d.pwr.reserveOn && d.pwr.vsdoOk && d.bit F.SAF_STATE.SDO_D then .on else .off)
  | .safeLoop => some (.of (d.pwr.reserveOn && d.pwr.loopLevel))
  | .canStb n => some (if d.pwr.reserveOn then .of (d.pwr.canStb.getD n true) else .highZ)
  | _ => none

/-- R36: a ball of domain M whose domain is unpowered, as in SLEEP: held by its pull, or undriven. -/
def deadBall (b : Ball) : Level :=
  match b with
  | .gdA _ | .gdB _ | .syncOut | .mclk _ | .errP | .errN => .low
  | .anref => .off
  | _ => .highZ

/-- R36: a ball of domain M while the domain is held in reset. -/
def heldBall (b : Ball) : Level :=
  match b with
  | .clTx _ | .ethTx _ | .pcieTx => .idle
  | .clTxdis _ | .ethTxdis _ | .canTxd _ | .ssiClk => .high
  | .clkreq => .highZ
  | .anref => .off
  | _ => .low

/-- R404: SSI_CLK: half low and half high in each period of a frame, high outside one. -/
def Dev.ssiClock (d : Dev) : Bool :=
  let span := 1024 * (d.get F.SSI_CFG.EVERY + 1)
  let off := d.get F.SSI_START.START
  let x := (d.tick + span - off % span) % span
  d.get F.COL_CFG.ENC2_MODE != 2 || decide (d.ssiLen ≤ x) || decide (d.get F.SSI_CFG.DIV ≤ 2 * (x % d.get F.SSI_CFG.DIV))

/-- R36, R371, R379, R489: a ball of domain M while the domain runs. Between the frames it sends, a CAN output is recessive. -/
def Dev.liveBall (d : Dev) (b : Ball) : Level :=
  match b with
  | .clTx k => if (unit d.lanes k).txdis then .idle else .active
  | .clTxdis k => .of (unit d.lanes k).txdis
  | .gdA x => .of (d.get F.GD_STATUS.CMD x == 3)
  | .gdB x => .of (d.get F.GD_STATUS.CMD x != 0)
  | .syncOut => .of (decide (d.tick < d.pwr.syncOutUntil))
  | .mclk _ => if d.pwr.mclk then .active else .low
  | .anref => .on
  | .errP => .of (d.bit F.REG_ERR.P)
  | .errN => .of (d.bit F.REG_ERR.N)
  | .pcieTx => if d.pwr.perstLow then .idle else if d.pwr.linkUp then .active else .training
  | .clkreq => .low
  | .ethTx n => if d.get F.ETH_CFG.MODE n = 0 then .idle else .active
  | .ethTxdis n => .of (d.get F.ETH_CFG.MODE n == 0 || !d.bit F.PLL_STATUS.LOCKED 3 || d.ethDark n)
  | .canTxd _ => .high
  | .ssiClk => .of d.ssiClock
  | _ => .low

/-- R36, R43: the level of an output ball; below 4.4 V domain M has no supply and is as in SLEEP. (DEDUCED: note 126.) -/
def Dev.ball (d : Dev) (b : Ball) : Level :=
  match d.detentBall b with
  | some l => l
  | none => match d.pwr.main with
    | .off => deadBall b
    | .held => if d.pwr.vinFell && !d.pwr.vinOk then deadBall b else heldBall b
    | .running => d.liveBall b

/-- What the test access port offers (R41). -/
inductive Tap | dead | identity | boundaryScan
  deriving DecidableEq, Repr, Inhabited

/-- R41: boundary scan where TEST_EN read high when the Reserve domain started; otherwise the identity instruction alone. -/
def Dev.tap (d : Dev) : Tap := if !d.pwr.reserveOn then .dead else if d.pwr.testEn then .boundaryScan else .identity

end Sys2Proof.Machine
end

