-- ==== Sys2Proof/Tests/Slice0.lean ====
section
/-! SUPPORT. Tests: the spec's own worked figures, ill-formed operands that WellFormed refuses, and for every statement that has hypotheses inputs that
meet them. -/

namespace Sys2Proof.Tests
open Sys2Proof Sys2Proof.Machine

set_option Elab.async false

/-! ## States and commands the tests use -/

/-- The block right after its first reset with the main domain running. -/
def live : Dev := { State.reset.dev with pwr := { Pwr.first with main := .running } }

/-- The state whose block is `f` of a running one. -/
def on (f : Dev → Dev) : State := { State.reset with dev := f live }

/-- A command without parameters, due at its admission. -/
def cmd : HostCmd := { (default : HostCmd) with tag := 7 }

/-- A safety image that keeps the layout and the ranges (R518): what a device that has never committed holds, with the reset values of the Registrar and the Archive. -/
def image : List Nat := Prov.neverCommitted ++ leBytes 4 3 ++ leBytes 4 (3 + 12500 * 256) ++ (List.replicate 256 (leBytes 4 0x2000)).flatten

/-- A public key, and the signature its owner gives to the Catalogue below. -/
def key : List Nat :=
  chainBytes 0xd360332fad9bc83afaff4a740de8a516bf1b8fb3fde360ff1d03979c1f943ee2 ++ chainBytes 0xe8a66007fd276b0271265c6db092c4a0c5eb8c45fdc436502c8a095f5d5745f2
def signature : List Nat :=
  chainBytes 0x70da02cf2389338f3c6e3281547b7997f64b78955cd0cce70904f02659335dad ++ chainBytes 0xded0e01047c31cc561a46faf7ecd5d5b995d3c28176d7f26b2fc88dc76475f29

/-- A Catalogue of one string with one cell on lane 0: header, directory, four sections of four bytes, the Safety section and the trailer. -/
def catalogue : CatFile :=
  let entry := fun (t o n c : Nat) => leBytes 2 t ++ leBytes 2 1 ++ leBytes 4 o ++ leBytes 4 n ++ leBytes 4 c
  { bytes := leBytes 4 0x54414343 ++ leBytes 2 1 ++ leBytes 2 5 ++ leBytes 4 1384 ++ leBytes 4 9 ++ leBytes 4 1 ++ leBytes 4 0 ++ leBytes 4 0x960
      ++ List.replicate 36 0 ++ entry 1 144 4 0x2144DF1C ++ entry 2 148 4 0x2144DF1C ++ entry 3 152 4 0x2144DF1C ++ entry 8 156 4 0x2144DF1C
      ++ entry 11 160 1160 0xDC7316D3 ++ List.replicate 16 0 ++ image ++ signature
    key := key
    settings := [(F.LANE_CTRL.DECLARED.key 0 0 0, 1), (F.ARR_STRING_CFG.CELLS.key 0 0 0, 1), (F.LEDGER_C_NOM.C_NOM.key 0 0 0, 0x3F800000),
      (F.DT_RANGE_I.I_HI.key 0 0 0, 1), (F.DT_RANGE_V.V_HI.key 0 0 0, 1)] ++ (List.range 6).map (fun k => (F.SLOT_CFG.OWNER.key k 0 0, 1))
    decl := { (default : CatDecl) with
      strings := 1, lanes := [⟨0, 0, 0, 2, 0, none⟩], preOrder := [0], vdlMv := 400000, vdlSlot := 0, capSlot := [1], curSlot := [2], balSlot := [3]
      psSlot := [4], fluxSlot := [5] } }

/-- A command answers a next state of which `p` holds. -/
def shows (o : Host.Outcome State Fault Refusal) (p : State → Bool) : Bool := match o with | .next t => p t | _ => false

/-! ## Figures of the spec -/

/-- R121: the CRC of the nine digits. -/
theorem test_crc32_check : crc32 [0x31, 0x32, 0x33, 0x34, 0x35, 0x36, 0x37, 0x38, 0x39] = 0xCBF43926 := by decide +kernel

/-- R157: the SHA-256 of "abc", as FIPS 180-4 prints it. -/
theorem test_sha256_abc : sha256 [97, 98, 99] = 0xba7816bf8f01cfea414140de5dae2223b00361a396177a9cb410ff61f20015ad := by decide +kernel

/-- R93: the signature of RFC 6979 (A.2.5) over "sample" verifies with its public key; over another message it does not. -/
theorem test_ecdsa_rfc6979 :
    let key := chainBytes 0x60fed4ba255a9d31c961eb74c6356d68c049b8923b61fa6ce669622e60f29fb6 ++ chainBytes 0x7903fe1008b8bc99a41ae9e95628bc64f2f1b20c2d7e9f5177a3c294d4462299
    let sig := chainBytes 0xefd48b2aacb6a8fd1140dd9cd45e81d69d2c877b56aaf991c34d0ea84eaf3716 ++ chainBytes 0xf7cb1c942d657c41d436c7a1b6e29f65f3e900dbb9aff4064dc4ab2f843acda8
    (ecdsaOk key sig [0x73, 0x61, 0x6D, 0x70, 0x6C, 0x65], ecdsaOk key sig [0x73, 0x61, 0x6D, 0x70, 0x6C, 0x66]) = (true, false) := by decide +kernel

/-- R255, the depot charger's beat: cell 7 of 30 has its carrier 7,646 sub-ticks on. -/
theorem test_carrier_phase : (live.set F.ARR_CTRL.CARRIER_BEATS 1).carPhase 0 7 30 = 7646 := by decide +kernel

/-- R257, the depot charger's beat: with m = 0.5858523 and the apply instant at tick 512,000,640, leg X starts off, turns on at 6,239 and off at 58,205. -/
theorem test_leg_x :
    let a := 512000640 * 64
    let s0 := a - (a - 7646) % 65536
    let m : Rat := 5858523 / 10000000
    let w := legWindow a (crossings s0 65536 65536 ((1 + m) / 4) ((3 - m) / 4))
    (w.1, w.2.map (· - a)) = (false, [6239, 58205]) := by decide +kernel

/-- The same of leg Y: off, on at 25,437, off at 39,007. -/
theorem test_leg_y :
    let a := 512000640 * 64
    let s0 := a - (a - 7646) % 65536
    let m : Rat := 5858523 / 10000000
    let w := legWindow a (crossings s0 65536 65536 ((1 - m) / 4) ((3 + m) / 4))
    (w.1, w.2.map (· - a)) = (false, [25437, 39007]) := by decide +kernel

/-- R83, the depot charger: twelve groups and an Ethernet port need 18,370 mW. -/
theorem test_run_floor :
    (((List.range 12).foldl (fun d g => d.setB F.LANE_CTRL.DECLARED true (8 * g)) live).set F.ETH_CFG.MODE 1 0).runFloor = 18370 := by decide +kernel

/-- R157, the trolley truck: HOST_WD written with 0x000301F4 over its reset value. -/
theorem test_log_host_wd :
    shows (exec (.registerWrite ⟨0, .bar0, 0x200018, 4, 0x301F4⟩) (on fun d => d.set F.VP_LOG_HEAD.SEQ 1048575)) (fun t =>
      (t.dev.prov.entries.map fun e => (e.seq, e.kind, e.origin, e.object, e.aux, e.old, e.new)) == [(1048575, 1, 1, 0x200018, 0xF, 0x30000, 0x301F4)]) = true := by decide +kernel

/-- R158: that entry closes a block of 4,096, and an anchor of type 0 follows it. -/
theorem test_log_block_anchor :
    shows (exec (.registerWrite ⟨0, .bar0, 0x200018, 4, 0x301F4⟩) (on fun d => d.set F.VP_LOG_HEAD.SEQ 1048575)) (fun t =>
      (t.dev.mram.blockRing.map fun a => (a.seq, a.type)) == [(1048575, 0)]) = true := by decide +kernel

/-- R116, the depot charger's rings: CMDQ1 and CPLQ1 of 256 records, CPLQ1 first, with vector 1 and its interrupt. -/
theorem test_ring_ctrl :
    shows (exec (.ringCtrlWrite 0 17 0x20C8) (on fun d => d)) (fun t => shows (exec (.ringCtrlWrite 0 1 0x48) t) (fun u =>
      (u.dev.bit F.xQ_CTRL.EN 17, u.dev.bit F.xQ_CTRL.EN 1, u.dev.get F.xQ_CTRL.VECTOR 17, u.dev.ringSize 1) == (true, true, 1, 256))) = true := by decide +kernel

/-- R534, the housekeeping example: 104.0 °C between 100.0 and 110.0 with DERATE_MIN 512 gives 819. -/
theorem test_derate_factor :
    ((((live.set F.HK_DERATE_AT.DERATE_AT 0x42C80000 0).set F.HK_STOP_AT.STOP_AT 0x42DC0000 0).set F.HK_SET_CFG.DERATE_MIN 512 0).hkFactor 0 0x42D00000) = 819 := by
  decide +kernel

/-- R87: DEVICE_RESET in RUN leaves the device in RUN. -/
theorem test_device_reset_in_run :
    shows (exec (.deviceReset cmd) (on fun d => d.set F.GLB_STATE.DEVICE RUN)) (fun t => t.dev.st == RUN && t.dev.live) = true := by decide +kernel

/-- R87: DEVICE_RESET in QUIET holds the main domain. -/
theorem test_device_reset_in_quiet :
    shows (exec (.deviceReset cmd) (on fun d => d)) (fun t => t.dev.pwr.main == .held) = true := by decide +kernel

/-- R213: the CRC-32C of the nine digits. -/
theorem test_crc32c_check : crc32c [0x31, 0x32, 0x33, 0x34, 0x35, 0x36, 0x37, 0x38, 0x39] = 0xE3069283 := by decide +kernel

/-- R218, the example: the words of the depot charger's CELL_CMD as the chapter prints them. -/
theorem test_cell_cmd_words :
    let m := messageBytes 0x01 5 0x2A31 1000 [0x13540280, 0xB4CC34CC, 0xF4EC74EC, 0x000008FC, 0x00313880, 0x00001450, 0]
    (m.length, (List.range 9).map (fun i => wordAtByte m (4 * i)))
      = (40, [0x2A310501, 0x000003E8, 0x13540280, 0xB4CC34CC, 0xF4EC74EC, 0x000008FC, 0x00313880, 0x00001450, 0]) := by decide +kernel

/-- R178: zeros after the downstream seed: 39 zeros, then 19 ones. -/
theorem test_scramble_down : (scramble seedDown (List.replicate 58 false)).1 = List.replicate 39 false ++ List.replicate 19 true := by decide +kernel

/-- R178: zeros after the upstream seed: zeros but for bits 38 and 57. -/
theorem test_scramble_up : (scramble seedUp (List.replicate 58 false)).1 = (List.range 58).map (fun i => i == 38 || i == 57) := by decide +kernel

/-- R174: a data header is the symbol 3, a control header the symbol 1. -/
theorem test_header_symbols : (grays (headerBits false), grays (headerBits true)) = ([3], [1]) := by decide +kernel

/-- R180, R181: message bytes (leading zeros dropped) with their parity are a code word, and one wrong byte shows. -/
theorem test_rs_code :
    let m := (List.range 12).map (fun i => (7 * i + 1) % 256)
    let c := m ++ rsParity m
    (rsSyndromes c, (rsSyndromes (c.set 5 0)).all (· == 0)) = (List.replicate 8 0, false) := by decide +kernel

/-- An idle step from reset starts nothing (the model's choice: note 1). -/
theorem test_step_idle : shows (step State.reset) (fun t => t.pending == [] && !t.dev.live) = true := by decide +kernel

/-! ## WellFormed -/

/-- A parameter list and a command that keep the widths. -/
def goodCmd : HostCmd := { cmd with p := List.replicate 9 0 }

/-- R120: a command with eight words, a word, a target, a tag, a beat, a ring or a function outside its width. -/
theorem test_wf_command :
    (Instr.nop goodCmd).wf = true ∧ [{ goodCmd with p := List.replicate 8 0 }, { goodCmd with p := List.replicate 9 (2 ^ 32) }, { goodCmd with target := 2 ^ 32 },
      { goodCmd with tag := 2 ^ 64 }, { goodCmd with beat := 2 ^ 48 }, { goodCmd with q := 16 }, { goodCmd with func := 2 }].all (fun c => !(Instr.nop c).wf) = true := by
  decide +kernel

/-- R110, R111, R120: descriptors and accesses. -/
theorem test_wf_access :
    [Instr.descriptorAdmission 0 ⟨false, List.replicate 15 0, .none⟩, .descriptorAdmission 0 ⟨false, List.replicate 16 (2 ^ 32), .none⟩,
      .registerWrite ⟨0, .bar0, 2 ^ 26, 4, 0⟩, .registerWrite ⟨0, .bar2, 2 ^ 14, 4, 0⟩, .registerWrite ⟨0, .bar0, 0, 0, 0⟩, .registerWrite ⟨0, .bar0, 0, 9, 0⟩,
      .registerWrite ⟨0, .bar0, 0, 4, 2 ^ 32⟩, .lowWordRead 0 ⟨.bar0, 2 ^ 26, 4⟩, .lowWordRead 0 ⟨.bar2, 2 ^ 14, 4⟩, .lowWordRead 1 ⟨.config, 4096, 4⟩, .lowWordRead 0 ⟨.bar0, 0, 0⟩, .lowWordRead 0 ⟨.bar0, 0, 9⟩, .pllsHopFreqWrite 0 0 (2 ^ 32), .pllsSelWrite 0 (2 ^ 32), .pllsPstepWrite 0 (2 ^ 32),
      .loanChipBudgetWrite 0 (2 ^ 32), .loanSiteBudgetWrite 0 (2 ^ 32), .glbSatclrWrite 0 (2 ^ 32), .regForceWrite 0 0 (2 ^ 32), .chrSnapTake 0 (2 ^ 32),
      .chrSetAtWrite 0 (2 ^ 64), .laneSlipWrite 0 0 (2 ^ 32), .laneTestHoldWrite 0 0 (2 ^ 32), .pwForceWrite 0 0 (2 ^ 32), .ringCtrlWrite 0 0 (2 ^ 32),
      .cmdqTailDoorbell 0 0 (2 ^ 64), .cplqHeadDoorbell 0 0 (2 ^ 64), .evqHeadDoorbell 0 0 (2 ^ 64), .strmHeadDoorbell 0 0 (2 ^ 64), .loanRefusedWait 0 256,
      .safetyCrcDone (2 ^ 32) 0, .safetyCrcDone 0 (2 ^ 32)].all (fun i => !i.wf) = true := by decide +kernel

/-- R109: a payload or a read-request size that PCIe does not have, or a write past the end of the space. -/
theorem test_wf_config_write :
    let x : PcieFn := ⟨true, false, true, false, 256, 512⟩
    (Instr.registerWrite ⟨1, .config x, 4, 2, 6⟩).wf = true ∧ (Instr.registerWrite ⟨1, .config { x with payload := 1024 }, 4, 2, 6⟩).wf = false
      ∧ (Instr.registerWrite ⟨1, .config { x with readReq := 64 }, 4, 2, 6⟩).wf = false ∧ (Instr.registerWrite ⟨1, .config x, 4096, 2, 6⟩).wf = false := by decide +kernel

/-- R205 to R239: messages and what the line layer reports. -/
theorem test_wf_link :
    [Instr.echo 0 ⟨65536, 0, 0⟩, .tsyncReport 0 ⟨0, 0⟩ 65536 0, .tsyncReport 0 ⟨0, 2 ^ 32⟩ 0 0, .laneQualityWindowEnd 0 ⟨0, 65536, 1, 0, 0, 0⟩, .shift 0 16, .credit 0 ⟨0, 0⟩ 65536 0, .credit 0 ⟨0, 0⟩ 0 65536, .credit 0 ⟨0, 2 ^ 32⟩ 0 0,
      .sample 0 0 ⟨65536, 0, 0, false, List.replicate 24 0⟩, .sample 0 0 ⟨0, 2 ^ 32, 0, false, List.replicate 24 0⟩, .sample 0 0 ⟨0, 0, 16, false, List.replicate 24 0⟩,
      .sample 0 0 ⟨0, 0, 0, false, List.replicate 23 0⟩, .sample 0 0 ⟨0, 0, 0, false, List.replicate 24 32768⟩, .sample 0 0 ⟨0, 0, 0, false, List.replicate 24 (-32769)⟩,
      .status 0 0 ⟨0, 2 ^ 32, 0, 0, 0, 0, 0, 0, 0⟩, .status 0 0 ⟨65536, 0, 0, 0, 0, 0, 0, 0, 0⟩, .capturePage 0 0 ⟨65536, 0, 0, false, []⟩, .capturePage 0 0 ⟨0, 0, 16, false, []⟩, .capturePage 0 0 ⟨0, 2 ^ 32, 0, false, []⟩,
      .laneTp1Lock 0 (2 ^ 64) 0, .laneTp1Lock 0 0 (2 ^ 64)].all (fun i => !i.wf) = true := by decide +kernel

/-- R238: one field of CAP_UP at a time outside its width. -/
theorem test_wf_cap :
    let c : CapUp := { (default : CapUp) with fs := [0, 0, 0, 0, 0] }
    c.wf = true ∧ [{ c with protoMajor := 256 }, { c with protoMinor := 256 }, { c with dnSlots := 256 }, { c with prepTicks := 256 }, { c with cellClass := 4 },
      { c with bypassKind := 4 }, { c with string := 8 }, { c with position := 32 }, { c with holdBeats := 32 }, { c with deadtime := 65536 }, { c with minPulse := 65536 },
      { c with dabDeadtime := 65536 }, { c with sampleDelay := 65536 }, { c with fs := [0] }, { c with fs := [65536, 0, 0, 0, 0] }, { c with serial := 2 ^ 64 },
      { c with prbsErr := 2 ^ 64 }, { c with beat := 2 ^ 32 }].all (fun c => !(Instr.capUp 0 0 c).wf) = true := by decide +kernel

/-- Samples, events and frames. -/
theorem test_wf_samples :
    [Instr.beatStart ⟨List.replicate 15 (List.replicate 256 0)⟩, .beatStart ⟨List.replicate 16 (List.replicate 256 16384)⟩, .beatStart ⟨List.replicate 16 (List.replicate 255 0)⟩,
      .arrayLatch ⟨1024⟩, .escapement [(96, 0)] 0, .escapement [] 1024, .pwmPeriodBoundary 0 ⟨[16384]⟩, .osTruncation 0 16384,
      .brakeDecision 16384, .osBurstWake 0 16384, .statusCarrierFrame 0 0 ⟨0, 0⟩, .statusCarrierFrame 0 5 ⟨6, 5⟩, .ssiFrame ⟨true, [5, 5]⟩, .meterSample [],
      .metChannelLost 0 1001, .arcMem 0 245760, .safetyDiagFail (.readback 0 65536), .safetyDiagFail (.paramCrc 0 (2 ^ 32)),
      .hkRoundEnd ⟨[], List.replicate 8 0, 0, 0⟩, .hkRoundEnd ⟨List.replicate 32 262081, List.replicate 8 0, 0, 0⟩, .hkRoundEnd ⟨List.replicate 32 0, [], 0, 0⟩,
      .hkRoundEnd ⟨List.replicate 32 0, List.replicate 8 0, 2 ^ 32, 0⟩, .hkRoundEnd ⟨List.replicate 32 0, List.replicate 8 0, 0, 2 ^ 32⟩].all (fun i => !i.wf) = true := by
  decide +kernel

/-- R461 to R471: PTP messages, Ethernet frames and CAN frames. -/
theorem test_wf_networks :
    [Instr.ptpAnnounce 0 { (default : Announce) with domain := 256 }, .ptpAnnounce 0 { (default : Announce) with variance := 65536 },
      .ptpAnnounce 0 { (default : Announce) with identity := 2 ^ 64 }, .ptpSync 0 { (default : PtpSync) with domain := 256 }, .ptpSync 0 { (default : PtpSync) with seq := 65536 },
      .ptpDelayResp 0 { (default : PtpDelay) with domain := 256 }, .ethFrameForward 0 ⟨List.replicate 14 256, 0, 0, 0⟩, .ethFrameForward 0 ⟨List.replicate 13 0, 0, 0, 0⟩, .ethFrameForward 0 ⟨List.replicate 14 0, 1, 0, 0⟩,
      .canFrameRx 0 ⟨2 ^ 11, false, false, []⟩, .canFrameRx 0 ⟨2 ^ 29, true, false, []⟩, .canFrameRx 0 ⟨0, false, true, List.replicate 65 0⟩,
      .canFrameRx 0 ⟨0, false, false, [256]⟩].all (fun i => !i.wf) = true := by decide +kernel

/-! ## Inputs that meet the hypotheses of the statements -/

/-- An outcome that is a next state. -/
def goes (o : Host.Outcome State Fault Refusal) : Bool := match o with | .next _ => true | _ => false

/-- It is one. -/
theorem goes_next {o : Host.Outcome State Fault Refusal} (h : goes o = true) : ∃ t, o = .next t := by
  cases o with
  | next t => exact ⟨t, rfl⟩
  | fault f => cases h
  | refused r => cases h

/-- A fact beside it. -/
theorem goes_next_and {p : Prop} {o : Host.Outcome State Fault Refusal} (hp : p) (h : goes o = true) : ∃ t, p ∧ o = .next t :=
  (goes_next h).imp fun _ ht => ⟨hp, ht⟩

/-- A field that is neither of the two bits of the supplies. -/
theorem test_wit_reset_state : ∃ (f : Fld) (a b c : Nat), f.key a b c ≠ F.RSV_STATUS.VKEEP_OK.key 0 0 0 ∧ f.key a b c ≠ F.RSV_STATUS.VIN_OK.key 0 0 0 :=
  ⟨F.LOAN_CHIP.BUDGET, 0, 0, 0, by decide⟩

/-- Inputs that meet the hypotheses of StepKeepsInv: from a state of the running block that keeps the invariant, a command answers. -/
theorem test_wit_step_keeps_inv : ∃ s t : State, Inv s ∧ s.dev.live = true ∧ step s = .next t := by
  have hs : step { (on fun d => d.settle) with pending := [.hallChange ⟨5, 1⟩] } = exec (.hallChange ⟨5, 1⟩) (on fun d => d.settle) := rfl
  obtain ⟨t, ht⟩ := goes_next (o := exec (.hallChange ⟨5, 1⟩) (on fun d => d.settle)) (by decide +kernel)
  refine ⟨{ (on fun d => d.settle) with pending := [.hallChange ⟨5, 1⟩] }, t, fun _ => ⟨?_, ?_, ?_⟩, by decide +kernel, hs.trans ht⟩
  · exact (by decide +kernel : live.settle.get F.ARR_STATE.MODE = modeOf live.settle)
  · exact fun h => absurd (by decide +kernel : live.settle.errCause = 0) h
  · exact .inl (by decide +kernel)

/-- Inputs that meet the hypotheses of NetworkFrame. -/
theorem test_wit_network_frame : ∃ (c : Instr) (s t : State), isNetwork c = true ∧ exec c s = .next t :=
  ⟨.ethLinkDown ⟨1, true, true, 200⟩, on fun d => d, goes_next_and rfl (by decide +kernel)⟩

/-- Inputs that meet the hypotheses of MeteringFrame. -/
theorem test_wit_metering_frame : ∃ (c : Instr) (s t : State), isMetering c = true ∧ exec c s = .next t :=
  ⟨.meterClosureWindow, on fun d => d, goes_next_and rfl (by decide +kernel)⟩

/-- Inputs that meet the hypotheses of LinkFrame. -/
theorem test_wit_link_frame : ∃ (c : Instr) (s t : State), isLink c = true ∧ exec c s = .next t :=
  ⟨.laneLos 95, on fun d => d, goes_next_and rfl (by decide +kernel)⟩

/-- Inputs that meet the hypotheses of SafetyFrame. -/
theorem test_wit_safety_frame : ∃ (c : Instr) (s t : State), isSafety c = true ∧ exec c s = .next t :=
  ⟨.safetyDiagFail .loop, on fun d => d, goes_next_and rfl (by decide +kernel)⟩

/-- Inputs that meet the hypotheses of DriveFrame. -/
theorem test_wit_drive_frame : ∃ (c : Instr) (s t : State), isDrive c = true ∧ exec c s = .next t :=
  ⟨.xtrip 3 ⟨true, 64⟩, on fun d => d, goes_next_and rfl (by decide +kernel)⟩

/-- Inputs that meet the hypotheses of SetFrame. -/
theorem test_wit_set_frame : ∃ (c : Instr) (s t : State), isSet c = true ∧ exec c s = .next t :=
  ⟨.arraySetVdl cmd, on fun d => d, goes_next_and rfl (by decide +kernel)⟩

/-- Inputs that meet the hypotheses of HostFrame. -/
theorem test_wit_host_frame : ∃ (c : Instr) (s t : State), isHost c = true ∧ exec c s = .next t :=
  ⟨.evqHeadDoorbell 0 3 0, on fun d => d, goes_next_and rfl (by decide +kernel)⟩

/-- Inputs that meet the hypotheses of ClockFrame. -/
theorem test_wit_clock_frame : ∃ (c : Instr) (s t : State), isClock c = true ∧ exec c s = .next t :=
  ⟨.safetyInputWake 7, on fun d => d.setFlag F.RSV_WAKE_EN.SI 7 true, goes_next_and rfl (by decide +kernel)⟩

/-- Inputs that meet the hypotheses of CommandFrame. -/
theorem test_wit_command_frame : ∃ (c : Instr) (s t : State), isCommand c = true ∧ exec c s = .next t :=
  ⟨.nop cmd, on fun d => d, goes_next_and rfl (by decide +kernel)⟩

/-- Inputs that meet the hypotheses of LoopFrame. -/
theorem test_wit_loop_frame : ∃ (c : Instr) (s t : State), isLoop c = true ∧ exec c s = .next t :=
  ⟨.tableWrite cmd, on fun d => d, goes_next_and rfl (by decide +kernel)⟩

/-- Inputs that meet the hypotheses of OutputFrame. -/
theorem test_wit_output_frame : ∃ (c : Instr) (s t : State), isOutput c = true ∧ exec c s = .next t :=
  ⟨.hallChange ⟨7, 1⟩, on fun d => d, goes_next_and rfl (by decide +kernel)⟩

/-- Inputs that meet the hypotheses of ArrayFrame. -/
theorem test_wit_array_frame : ∃ (c : Instr) (s t : State), isArray c = true ∧ exec c s = .next t :=
  ⟨.cellRestore { cmd with target := 95 }, on fun d => d, goes_next_and rfl (by decide +kernel)⟩

/-- Inputs that meet the hypotheses of HousekeepingFrame. -/
theorem test_wit_housekeeping_frame : ∃ (c : Instr) (s t : State), isHousekeeping c = true ∧ exec c s = .next t :=
  ⟨.hkRoundEnd default, on fun d => d, goes_next_and rfl (by decide +kernel)⟩

/-- Inputs that meet the hypotheses of RegisterFrame. -/
theorem test_wit_register_frame : ∃ (c : Instr) (s t : State), isRegister c = true ∧ exec c s = .next t :=
  ⟨.pllsSelWrite 0 15, on fun d => d, goes_next_and rfl (by decide +kernel)⟩

/-- Inputs that meet the hypotheses of SuppliesAndSaveWindow. -/
theorem test_wit_supplies_and_save_window :
    (∃ (s : State), s.dev.pwr.reserveOn = false)
    ∧ (∃ (s : State), s.dev.pwr.reserveOn = true)
    ∧ (∃ (s : State), s.dev.pwr.reserveOn = true ∧ s.dev.pwr.vinOk = false)
    ∧ (∃ (s : State), s.dev.pwr.reserveOn = true ∧ s.dev.live = true ∧ s.dev.pwr.saveWin = false)
    ∧ (∃ (s : State) (x : Nat), s.dev.live = true ∧ s.dev.pwr.saveWin = true ∧ s.dev.due .saveEnd = some x ∧ s.dev.ahead x = true ∧ s.dev.mram.saves.length = 2)
    ∧ (∃ (s : State) (x : Nat), s.dev.live = true ∧ s.dev.due .tickRec = some x ∧ s.dev.ahead x = true) :=
  ⟨⟨{ State.reset with dev := { State.reset.dev with pwr := { Pwr.first with reserveOn := false } } }, by decide +kernel⟩,
   ⟨on fun d => d, by decide +kernel⟩,
   ⟨on fun d => { d with pwr := { d.pwr with vinFell := true, vinOk := false } }, by decide +kernel⟩,
   ⟨on fun d => d, by decide +kernel⟩,
   ⟨on fun d => { d with pwr := { d.pwr with saveWin := true } }.arm .saveEnd 5, 5, by decide +kernel⟩,
   ⟨on fun d => d.arm .tickRec 5, 5, by decide +kernel⟩⟩

/-- Inputs that meet the hypotheses of WakeCauses. -/
theorem test_wit_wake_causes :
    (∃ (s : State) (cycles : Nat), s.dev.pwr.reserveOn = true ∧ s.dev.bit F.RSV_WAKE_EN.WAKE0 = true ∧ max 1 (s.dev.get F.RSV_WAKE_FILT.WAKE_FILT) ≤ cycles)
    ∧ (∃ (s : State), s.dev.pwr.reserveOn = true)
    ∧ (∃ (s : State) (cycles : Nat), s.dev.pwr.reserveOn = true ∧ 328 ≤ cycles)
    ∧ (∃ (s : State) (cycles : Nat), s.dev.pwr.reserveOn = true ∧ s.dev.bit F.RSV_WAKE_EN.WAKE1 = true ∧ max 1 (s.dev.get F.RSV_WAKE_FILT.WAKE_FILT) ≤ cycles)
    ∧ (∃ (s : State) (n : Fin 8), s.dev.pwr.reserveOn = true ∧ s.dev.flag F.RSV_WAKE_EN.SI n = true)
    ∧ (∃ (s : State) (cycles : Nat), s.dev.pwr.reserveOn = true ∧ s.dev.pwr.canStb.getD 0 false = true ∧ s.dev.bit F.RSV_WAKE_EN.CAN0 = true ∧ max 1 (s.dev.get F.RSV_WAKE_FILT.CAN_FILT) ≤ cycles)
    ∧ (∃ (s : State) (cycles : Nat), s.dev.pwr.reserveOn = true ∧ s.dev.pwr.canStb.getD 1 false = true ∧ s.dev.bit F.RSV_WAKE_EN.CAN1 = true ∧ max 1 (s.dev.get F.RSV_WAKE_FILT.CAN_FILT) ≤ cycles)
    ∧ (∃ (s : State), s.dev.pwr.reserveOn = true ∧ s.dev.bit F.RSV_WAKE_EN.ALARM = true ∧ s.dev.get F.RSV_ALARM.AT ≠ 0 ∧ s.dev.get F.RSV_TIME.COUNT ≤ s.dev.get F.RSV_ALARM.AT)
    ∧ (∃ (s : State), s.dev.pwr.reserveOn = true ∧ s.dev.bit F.RSV_STATUS.XKEEP_RC = false)
    ∧ (∃ (s : State), s.dev.pwr.reserveOn = true ∧ s.dev.bit F.RSV_STATUS.XKEEP_RC = true) :=
  ⟨⟨on fun d => d.setB F.RSV_WAKE_EN.WAKE0 true, 100000, by decide +kernel⟩,
   ⟨on fun d => d, by decide +kernel⟩,
   ⟨on fun d => { d with pwr := { d.pwr with vinFell := true } }, 328, by decide +kernel⟩,
   ⟨on fun d => d.setB F.RSV_WAKE_EN.WAKE1 true, 100000, by decide +kernel⟩,
   ⟨on fun d => d.setFlag F.RSV_WAKE_EN.SI 7 true, 7, by decide +kernel⟩,
   ⟨on fun d => ({ d with pwr := { d.pwr with canStb := [true, true] } }).setB F.RSV_WAKE_EN.CAN0 true, 100000, by decide +kernel⟩,
   ⟨on fun d => ({ d with pwr := { d.pwr with canStb := [true, true] } }).setB F.RSV_WAKE_EN.CAN1 true, 100000, by decide +kernel⟩,
   ⟨on fun d => (d.setB F.RSV_WAKE_EN.ALARM true).set F.RSV_ALARM.AT 1, by decide +kernel⟩,
   ⟨on fun d => d, by decide +kernel⟩,
   ⟨on fun d => d.setB F.RSV_STATUS.XKEEP_RC true, by decide +kernel⟩⟩

/-- Inputs that meet the hypotheses of SleepAndBoot. -/
theorem test_wit_sleep_and_boot :
    (∃ (s : State), s.dev.live = true ∧ s.dev.st = QUIET ∧ s.dev.get F.RSV_CTRL.IDLE_SLEEP ≠ 0 ∧ s.dev.sleepBusy = false ∧ s.dev.ahead ((s.dev.due .idleSleep).getD (s.dev.rings.lastCmd + s.dev.get F.RSV_CTRL.IDLE_SLEEP * 6000000000)) = true)
    ∧ (∃ (s : State), s.dev.pwr.reserveOn = true ∧ s.dev.pwr.asleep = true ∧ s.dev.pwr.main = .off ∧ s.dev.bit F.RSV_STATUS.VIN_OK = true ∧ s.dev.anyCause = true ∧ s.dev.due .sleepRestart = none)
    ∧ (∃ (s : State) (x : Nat), s.dev.pwr.reserveOn = true ∧ s.dev.pwr.asleep = true ∧ s.dev.pwr.main = .off ∧ s.dev.bit F.RSV_STATUS.VIN_OK = true ∧ s.dev.anyCause = true ∧ s.dev.due .sleepRestart = some x ∧ s.dev.ahead x = true)
    ∧ (∃ (s : State), s.dev.live = true ∧ s.dev.due .keeperReset = none)
    ∧ (∃ (s : State) (x : Nat), s.dev.live = true ∧ s.dev.due .keeperReset = some x ∧ s.dev.ahead x = true)
    ∧ (∃ (s : State), s.dev.pwr.reserveOn = true ∧ s.dev.pwr.main = .held ∧ s.dev.pwr.vinOk = true) :=
  ⟨⟨on fun d => d.set F.RSV_CTRL.IDLE_SLEEP 1, by decide +kernel⟩,
   ⟨on fun d => { d with pwr := { d.pwr with asleep := true, main := .off, vinOk := true } }.setB F.RSV_WAKE_CAUSE.WAKE0 true, by decide +kernel⟩,
   ⟨on fun d => ({ d with pwr := { d.pwr with asleep := true, main := .off, vinOk := true } }.setB F.RSV_WAKE_CAUSE.WAKE0 true).arm .sleepRestart 5, 5, by decide +kernel⟩,
   ⟨on fun d => d, by decide +kernel⟩,
   ⟨on fun d => d.arm .keeperReset 5, 5, by decide +kernel⟩,
   ⟨on fun d => { d with pwr := { d.pwr with main := .held } }, by decide +kernel⟩⟩

/-- Inputs that meet the hypotheses of LinkEvents. -/
theorem test_wit_link_events :
    (∃ (s : State), s.dev.live = true)
    ∧ (∃ (s : State) (f : Fin 2), s.dev.live = true ∧ f.val < s.dev.rings.fn.length)
    ∧ (∃ (s : State) (f : Fin 2), s.dev.live = true ∧ s.dev.deaf f = true) :=
  ⟨⟨on fun d => d, by decide +kernel⟩,
   ⟨on fun d => d.fnSet 1 (fun x => { x with busMaster := true }), 1, by decide +kernel⟩,
   ⟨on fun d => d.fnSet 1 (fun x => { x with d3hot := true }), 1, by decide +kernel⟩⟩

/-- Inputs that meet the hypotheses of ClockEvents. -/
theorem test_wit_clock_events :
    (∃ (s : State) (p : Fin 4), s.dev.live = true ∧ s.dev.clk.starting.getD p false = true)
    ∧ (∃ (s : State) (p : Fin 4) (x : Nat), s.dev.live = true ∧ s.dev.due (.pllStop p) = some x ∧ s.dev.ahead x = true ∧ s.dev.clk.demand.getD p [] = [] ∧ s.dev.bit F.PLL_CTRL.FORCE_ON p = false)
    ∧ (∃ (s : State) (p : Fin 4), s.dev.live = true ∧ s.dev.bit F.PLL_STATUS.LOCKED p = true)
    ∧ (∃ (s : State), s.dev.live = true ∧ s.dev.bit F.RSV_STATUS.REFCLK_OK = true)
    ∧ (∃ (s : State) (x : Nat), s.dev.live = true ∧ s.dev.due .pllReset = some x ∧ s.dev.ahead x = true)
    ∧ (∃ (s : State) (h : Fin 16) (x : Nat), s.dev.live = true ∧ s.dev.due (.hopSearch h) = some x ∧ s.dev.ahead x = true)
    ∧ (∃ (s : State) (x : Nat), s.dev.live = true ∧ s.dev.due .hopLock = some x ∧ s.dev.ahead x = true)
    ∧ (∃ (s : State), s.dev.live = true ∧ s.dev.bit F.PLLS_SYNC.EN = true ∧ s.dev.bit F.PLL_STATUS.LOCKED 2 = true ∧ s.dev.clk.syncLast = none)
    ∧ (∃ (s : State) (t : Nat), s.dev.live = true ∧ s.dev.bit F.PLLS_SYNC.EN = true ∧ s.dev.clk.syncLast = some t ∧ (12, 0) ∉ s.dev.reg.active ∧ s.dev.ahead ((t + s.dev.osAfter 0 (64 * s.dev.get F.PW_PERIOD.PERIOD (s.dev.get F.PWM_SYNC.MASTER)) * 3 / 2 + 63) / 64) = true)
    ∧ (∃ (s : State) (x : Nat), s.dev.live = true ∧ s.dev.due .pstep = some x ∧ s.dev.ahead x = true) :=
  ⟨⟨on fun d => { d with clk := { d.clk with starting := [false, true, false, false] } }, 1, by decide +kernel⟩,
   ⟨on fun d => d.arm (.pllStop 3) 5, 3, 5, by decide +kernel⟩,
   ⟨on fun d => d.setB F.PLL_STATUS.LOCKED true 2, 2, by decide +kernel⟩,
   ⟨on fun d => d.setB F.RSV_STATUS.REFCLK_OK true, by decide +kernel⟩,
   ⟨on fun d => d.arm .pllReset 5, 5, by decide +kernel⟩,
   ⟨on fun d => d.arm (.hopSearch 15) 5, 15, 5, by decide +kernel⟩,
   ⟨on fun d => d.arm .hopLock 5, 5, by decide +kernel⟩,
   ⟨on fun d => (d.setB F.PLLS_SYNC.EN true).setB F.PLL_STATUS.LOCKED true 2, by decide +kernel⟩,
   ⟨on fun d => { d with clk := { d.clk with syncLast := some 3 } }.setB F.PLLS_SYNC.EN true, 3, by decide +kernel⟩,
   ⟨on fun d => d.arm .pstep 5, 5, by decide +kernel⟩⟩

/-- Inputs that meet the hypotheses of LoanEvents. -/
theorem test_wit_loan_events :
    (∃ (s : State) (b : Fin 2) (q : LoanReq), s.dev.live = true ∧ s.dev.reqFirst (b == 1) = some q ∧ s.dev.pwr.saveWin = false ∧ s.dev.reg.loanStop = false ∧ q.cost ≤ s.dev.loanAvail (b == 1) ∧ q.op < 11)
    ∧ (∃ (s : State) (op : Fin 11) (inst : Nat), s.dev.live = true ∧ (s.dev.loanWait.any fun q => q.op == op.val && q.inst == inst) = true ∧ ((∀ q ∈ s.dev.loanWait, q.op = op.val → q.inst = inst → s.dev.ahead (q.filed + msT (s.dev.get F.LOAN_OP_WAIT.WAIT_MS op)) = true)))
    ∧ (∃ (s : State) (x : Nat), s.dev.live = true ∧ s.dev.due .lpddrIdle = some x ∧ s.dev.ahead x = true ∧ (s.dev.st = QUIET ∨ s.dev.st = STAGED) ∧ s.dev.bit F.ARC_STATE.DUMPING = false ∧ s.dev.prov.reads = [])
    ∧ (∃ (s : State), s.dev.live = true)
    ∧ (∃ (s : State) (x : Nat), s.dev.live = true ∧ s.dev.due .refreshExit = some x ∧ s.dev.ahead x = true)
    ∧ (∃ (s : State) (x : Nat), s.dev.live = true ∧ s.dev.due .loopLoan = some x ∧ s.dev.ahead x = true) :=
  ⟨⟨on fun d => { d with loanWait := [⟨10, 0, 1000, 0⟩] }.set F.LOAN_SITE_STATE.AVAIL 1000, 1, ⟨10, 0, 1000, 0⟩, by decide +kernel⟩,
   ⟨on fun d => { d with loanWait := [⟨10, 3, 1000, 0⟩] }, 10, 3, by decide +kernel⟩,
   ⟨on fun d => d.arm .lpddrIdle 5, 5, by decide +kernel⟩,
   ⟨on fun d => d, by decide +kernel⟩,
   ⟨on fun d => d.arm .refreshExit 5, 5, by decide +kernel⟩,
   ⟨on fun d => d.arm .loopLoan 5, 5, by decide +kernel⟩⟩

/-- Inputs that meet the hypotheses of PlainRegisters. -/
theorem test_wit_plain_registers :
    (∃ (s : State), Writable s)
    ∧ (∃ (s : State) (v : Nat), Writable s ∧ s.dev.bit F.GLB_CAT.LOADED = false ∧ s.dev.loansOut false ≤ v % 65536)
    ∧ (∃ (s : State) (r : Fin 44), Writable s ∧ s.dev.bit F.xQ_CTRL.EN r = false)
    ∧ (∃ (s : State) (f : Fin 2) (offset : Nat), s.dev.live = true ∧ s.dev.deaf f = false ∧ offset % 4 = 0 ∧ s.dev.rings.latch.getD f none = none)
    ∧ (∃ (s : State) (f : Fin 2) (x : ReadAt), s.dev.live = true ∧ (s.dev.deaf f = false ∨ x.space = .config) ∧ ((x.space = .bar0 → x.bytes ≠ 4 ∨ x.offset % 4 ≠ 0)))
    ∧ (∃ (s : State) (f : Fin 2), s.dev.live = true ∧ s.dev.deaf f = false ∧ s.dev.rings.latch.length = 2)
    ∧ (∃ (s : State) (f : Fin 2) (p : Fin 4) (w : Nat), s.dev.live = true ∧ s.dev.deaf f = false ∧ s.dev.rings.latch.getD f none = some (F.PLL_LOSS_COUNT.COUNT.off p 0 0, w)) :=
  ⟨⟨on fun d => d, by decide +kernel⟩,
   ⟨on fun d => d, 3000, by decide +kernel⟩,
   ⟨on fun d => d, 43, by decide +kernel⟩,
   ⟨on fun d => d, 1, 8, by decide +kernel⟩,
   ⟨on fun d => d, 0, ⟨.bar2, 16, 8⟩, by decide +kernel⟩,
   ⟨on fun d => d, 1, by decide +kernel⟩,
   ⟨on fun d => { d with rings := { d.rings with latch := [some (F.PLL_LOSS_COUNT.COUNT.off 3 0 0, 9), none] } }, 0, 3, 9, by decide +kernel⟩⟩

/-- Inputs that meet the hypotheses of ClockRegisters. -/
theorem test_wit_clock_registers :
    (∃ (s : State) (h : Fin 16) (v : Nat), Writable s ∧ h.val ≠ s.dev.get F.PLLS_SEL.ENTRY ∧ ((s.dev.bit F.PLLS_SEL.HOP_BUSY = true → h.val ≠ s.dev.clk.hopFrom)) ∧ 90000000 ≤ v ∧ v ≤ 110000000)
    ∧ (∃ (s : State) (v : Nat), Writable s ∧ s.dev.bit F.PLLS_SEL.HOP_BUSY = false ∧ s.dev.bit F.PLLS_SYNC.EN = false ∧ v % 16 ≠ s.dev.get F.PLLS_SEL.ENTRY ∧ s.dev.get F.PLLS_HOP.FREQ (v % 16) ≠ 0)
    ∧ (∃ (s : State) (v : Nat), Writable s ∧ v % 65536 ≠ 0 ∧ v % 65536 ≠ 32768 ∧ s.dev.bit F.PLLS_PSTEP.BUSY = false ∧ s.dev.bit F.PLLS_SYNC.EN = false) :=
  ⟨⟨on fun d => d, 15, 90000000, by decide +kernel⟩,
   ⟨on fun d => d.set F.PLLS_HOP.FREQ 100000000 15, 15, by decide +kernel⟩,
   ⟨on fun d => d, 1, by decide +kernel⟩⟩

/-- Inputs that meet the hypotheses of ServiceAndControlRegisters. -/
theorem test_wit_service_and_control_registers :
    (∃ (s : State) (v : Nat), Writable s ∧ v % 2 = 1)
    ∧ (∃ (s : State) (w : Fin 8) (b : Fin 32), Writable s ∧ reservedSrc (32 * w.val + b.val) = false ∧ 32 * w.val + b.val ≠ 193 ∧ ¬ (208 ≤ 32 * w.val + b.val ∧ 32 * w.val + b.val ≤ 223))
    ∧ (∃ (s : State) (v : Nat), Writable s ∧ s.dev.tick + 1024 ≤ v ∧ v < 2 ^ 64 ∧ v ≠ s.dev.get F.CHR_SET_AT.TICK ∧ ¬ (s.dev.get F.CHR_SERVO.SOURCE ≠ 0 ∧ s.dev.get F.CHR_STATE.NT_STATE = 3) ∧ s.dev.bit F.CHR_STATE.SET_ARMED = false)
    ∧ (∃ (s : State) (k : Fin 96) (v : Nat), Writable s ∧ v % 2 = 1 ∧ s.dev.slipOk k = true)
    ∧ (∃ (s : State), Writable s ∧ (s.dev.st = STAGED ∨ s.dev.st = LINKED))
    ∧ (∃ (s : State) (v : Nat), Writable s ∧ v % 4 < 2)
    ∧ (∃ (s : State) (r : Fin 44) (v : Nat), Writable s ∧ 16 ≤ r.val ∧ s.dev.bit F.xQ_CTRL.EN r = false ∧ 6 ≤ v % 32 ∧ v % 32 ≤ 16 ∧ v.testBit 6 = true)
    ∧ (∃ (s : State) (r : Fin 44) (v : Nat), Writable s ∧ ¬ (16 ≤ r.val ∧ r.val < 32) ∧ v.testBit 6 = false) :=
  ⟨⟨on fun d => d, 1, by decide +kernel⟩,
   ⟨on fun d => d, 5, 0, by decide +kernel⟩,
   ⟨on fun d => d, 1024, by decide +kernel⟩,
   ⟨on fun d => d.setB F.LANE_CTRL.MANUAL_ALIGN true 95, 95, 1, by decide +kernel⟩,
   ⟨on fun d => (d.set F.GLB_STATE.DEVICE STAGED), by decide +kernel⟩,
   ⟨on fun d => d, 1, by decide +kernel⟩,
   ⟨on fun d => d, 16, 64 + 6, by decide +kernel⟩,
   ⟨on fun d => d, 43, 0, by decide +kernel⟩⟩

/-- Inputs that meet the hypotheses of HostRings. -/
theorem test_wit_host_rings :
    (∃ (s : State) (f : Fin 2) (q : Fin 16) (v : Nat), s.dev.live = true ∧ s.dev.creditsOut = false ∧ s.dev.bellTaken f q = true ∧ (v % 2 ^ 32 + 2 ^ 32 - s.dev.get F.xQ_CONS.INDEX q) % 2 ^ 32 ≤ s.dev.ringSize q ∧ (v % 2 ^ 32 + 2 ^ 32 - s.dev.get F.xQ_PROD.INDEX q) % 2 ^ 32 ≤ s.dev.ringSize q ∧ v % 2 ^ 32 ≠ s.dev.get F.xQ_PROD.INDEX q)
    ∧ (∃ (s : State) (f : Fin 2) (q : Fin 16) (v : Nat), s.dev.live = true ∧ s.dev.creditsOut = false ∧ s.dev.bellTaken f (16 + q.val) = true ∧ (v % 2 ^ 32 + 2 ^ 32 - s.dev.get F.xQ_CONS.INDEX (16 + q.val)) % 2 ^ 32 ≤ (s.dev.get F.xQ_PROD.INDEX (16 + q.val) + 2 ^ 32 - s.dev.get F.xQ_CONS.INDEX (16 + q.val)) % 2 ^ 32)
    ∧ (∃ (s : State) (f : Fin 2) (e : Fin 4) (v : Nat), s.dev.live = true ∧ s.dev.creditsOut = false ∧ s.dev.bellTaken f (32 + e.val) = true ∧ (v % 2 ^ 32 + 2 ^ 32 - s.dev.get F.xQ_CONS.INDEX (32 + e.val)) % 2 ^ 32 ≤ (s.dev.get F.xQ_PROD.INDEX (32 + e.val) + 2 ^ 32 - s.dev.get F.xQ_CONS.INDEX (32 + e.val)) % 2 ^ 32)
    ∧ (∃ (s : State) (f : Fin 2) (j : Fin 8) (v : Nat), s.dev.live = true ∧ s.dev.creditsOut = false ∧ s.dev.bellTaken f (36 + j.val) = true ∧ (v % 2 ^ 32 + 2 ^ 32 - s.dev.get F.xQ_CONS.INDEX (36 + j.val)) % 2 ^ 32 ≤ (s.dev.get F.xQ_PROD.INDEX (36 + j.val) + 2 ^ 32 - s.dev.get F.xQ_CONS.INDEX (36 + j.val)) % 2 ^ 32)
    ∧ (∃ (s : State) (q : Fin 16) (x : Fetch), s.dev.live = true ∧ s.dev.mayTake q = true ∧ s.dev.outranked q = false ∧ s.dev.bit F.VP_LOG_STATUS.HOLDING = false ∧ s.dev.freeSlots q ≠ 0 ∧ x.error = false)
    ∧ (∃ (s : State) (r : Fin 44) (write : Bool), s.dev.live = true ∧ s.dev.ringUp r = true ∧ ((write = true ∨ r.val < 16)))
    ∧ (∃ (s : State) (x : Nat), s.dev.live = true ∧ s.dev.due .hostWd = some x ∧ s.dev.ahead x = true)
    ∧ (∃ (s : State) (f : Fin 2) (v : Fin 64) (x : Nat), s.dev.live = true ∧ s.dev.due (.holdoff (64 * f.val + v.val)) = some x ∧ s.dev.ahead x = true ∧ 64 * f.val + v.val ∈ s.dev.rings.collected ∧ 64 * f.val + v.val ∉ s.dev.rings.masked ∧ (unit s.dev.rings.fn f).msixOn = true ∧ (unit s.dev.rings.fn f).msixMask = false)
    ∧ (∃ (s : State) (j : Fin 8), s.dev.live = true ∧ s.dev.ringUp (36 + j.val) = true ∧ (s.dev.beat + 1) % max 1 (s.dev.get F.STRM_DEC.DECIM j) = 0 ∧ s.dev.ringUsed (36 + j.val) < s.dev.ringSize (36 + j.val) ∧ j.val < s.dev.rings.pages.length ∧ (unit s.dev.rings.pages j).records.length + 1 < 4032 / (4 * (s.dev.get F.STRM_DEC.NSIG j + 1)))
    ∧ (∃ (s : State) (j : Fin 8) (x : Nat), s.dev.live = true ∧ s.dev.due (.pageAge j) = some x ∧ s.dev.ahead x = true ∧ s.dev.ringUp (36 + j.val) = true ∧ (unit s.dev.rings.pages j).records ≠ [] ∧ j.val < s.dev.rings.pages.length) :=
  ⟨⟨on fun d => ((d.setB F.xQ_CTRL.EN true 15).set F.xQ_CTRL.LOG2SIZE 10 15), 0, 15, 1024, by decide +kernel⟩,
   ⟨on fun d => ((d.setB F.xQ_CTRL.EN true 31).set F.xQ_CTRL.LOG2SIZE 10 31).set F.xQ_PROD.INDEX 3 31, 0, 15, 3, by decide +kernel⟩,
   ⟨on fun d => ((d.setB F.xQ_CTRL.EN true 35).set F.xQ_CTRL.LOG2SIZE 10 35).set F.xQ_PROD.INDEX 3 35, 0, 3, 0, by decide +kernel⟩,
   ⟨on fun d => ((d.setB F.xQ_CTRL.EN true 43).set F.xQ_CTRL.LOG2SIZE 10 43).set F.xQ_PROD.INDEX 3 43, 0, 7, 3, by decide +kernel⟩,
   ⟨on fun d => ((((d.setB F.xQ_CTRL.EN true 0).set F.xQ_CTRL.LOG2SIZE 10 0).set F.xQ_PROD.INDEX 1 0).set F.xQ_CTRL.LOG2SIZE 6 16).setB F.xQ_CTRL.EN true 16, 0, ⟨false, [], .none⟩, by decide +kernel⟩,
   ⟨on fun d => ((d.setB F.xQ_CTRL.EN true 43).set F.xQ_CTRL.LOG2SIZE 10 43), 43, true, by decide +kernel⟩,
   ⟨on fun d => d.arm .hostWd 5, 5, by decide +kernel⟩,
   ⟨on fun d => { d with rings := { d.rings with collected := [127], masked := [], fn := [default, { (default : PcieFn) with msixOn := true }] } }.arm (.holdoff 127) 5, 1, 63, 5, by decide +kernel⟩,
   ⟨on fun d => ((d.setB F.xQ_CTRL.EN true 43).set F.xQ_CTRL.LOG2SIZE 10 43), 7, by decide +kernel⟩,
   ⟨on fun d => { ((d.setB F.xQ_CTRL.EN true 43).set F.xQ_CTRL.LOG2SIZE 10 43) with rings := { d.rings with pages := List.replicate 8 { (default : StrmPage) with records := [[]] } } }.arm (.pageAge 7) 5, 7, 5, by decide +kernel⟩⟩

/-- Inputs that meet the hypotheses of LogAndCommit. -/
theorem test_wit_log_and_commit :
    (∃ (s : State), s.dev.live = true ∧ s.dev.prov.dirty = true ∧ s.dev.ahead (s.dev.prov.anchorTick + 2 ^ 30) = true)
    ∧ (∃ (s : State) (c : HostCmd), Ready 0x70 c s ∧ arg2 c 2 < s.dev.get F.VP_LOG_HEAD.SEQ ∧ (s.dev.prov.entries.any fun e => e.seq == arg2 c 2) = true)
    ∧ (∃ (s : State) (f : Nat) (addr : Nat) (first : Nat) (n : Nat) (r : List (Nat × Nat × Nat × Nat)), s.dev.live = true ∧ s.dev.clk.lpddrAwake = true ∧ s.dev.prov.reads = (f, addr, first, n) :: r)
    ∧ (∃ (s : State) (c : HostCmd), Ready 0x71 c s ∧ s.dev.get F.VP_LOG_ACKED.SEQ ≤ arg2 c 0 ∧ arg2 c 0 ≤ s.dev.get F.VP_LOG_HEAD.SEQ ∧ s.dev.get F.VP_LOG_HEAD.SEQ + 1 < 2 ^ 64 ∧ s.dev.prov.holdWrites = [])
    ∧ (∃ (s : State) (c : HostCmd) (b : List Nat), Ready 0x24 c s ∧ c.payload = .bytes b)
    ∧ (∃ (s : State) (b : List Nat), s.dev.live = true ∧ s.dev.prov.staged = some b ∧ s.dev.due .safeCrc ≠ none)
    ∧ (∃ (s : State) (c : HostCmd) (b : List Nat), Ready 0x24 c s ∧ s.dev.prov.staged = some b ∧ s.dev.bit F.VP_SAFE_STAGE.CRC_DONE = true ∧ s.dev.get F.VP_SAFE_CRC_C.CRC = s.dev.get F.VP_SAFE_CRC_D.CRC ∧ arg c 4 = s.dev.get F.VP_SAFE_CRC_C.CRC ∧ safetyImageOk b = true)
    ∧ (∃ (s : State) (c : HostCmd), Ready 0x24 c s)
    ∧ (∃ (d : Dev) (t : Nat) (b : List Nat), d.prov.safeWrite = some (t, b) ∧ t ≤ d.tick ∧ d.mram.safety.length = 2) :=
  ⟨⟨on fun d => { d with prov := { d.prov with dirty := true } }, by decide +kernel⟩,
   ⟨on fun d => { d with prov := { d.prov with entries := [{ (default : LogEntry) with seq := 2 }] } }.set F.VP_LOG_HEAD.SEQ 3, { cmd with p := [0, 0, 2, 0, 1] }, by decide +kernel⟩,
   ⟨on fun d => { d with prov := { d.prov with reads := [(0, 64, 1, 1)] }, clk := { d.clk with lpddrAwake := true } }, 0, 64, 1, 1, [], by decide +kernel⟩,
   ⟨on fun d => d.set F.VP_LOG_HEAD.SEQ 3, { cmd with p := [3] }, by decide +kernel⟩,
   ⟨on fun d => d, { cmd with payload := .bytes [1] }, [1], by decide +kernel⟩,
   ⟨on fun d => { d with prov := { d.prov with staged := some [] } }.arm .safeCrc 5, [], by decide +kernel⟩,
   ⟨on fun d => (({ d with prov := { d.prov with staged := some image } }.setB F.VP_SAFE_STAGE.CRC_DONE true).set F.VP_SAFE_CRC_C.CRC 9).set F.VP_SAFE_CRC_D.CRC 9, { cmd with p := [2, 0, 0, 0, 9] }, image, by decide +kernel⟩,
   ⟨on fun d => d, cmd, by decide +kernel⟩,
   ⟨{ live with prov := { live.prov with safeWrite := some (0, [1]) } }, 0, [1], by decide +kernel⟩⟩

/-- Inputs that meet the hypotheses of ArchiveAndIncidents. -/
theorem test_wit_archive_and_incidents :
    (∃ (s : State) (c : HostCmd), Ready 0x68 c s ∧ s.dev.get F.ARC_STATE.STATE = 1)
    ∧ (∃ (s : State) (c : HostCmd), Ready 0x69 c s ∧ s.dev.get F.ARC_STATE.STATE = 3 ∧ s.dev.reg.dump = none ∧ 0 < arg c 3 ∧ arg c 2 + arg c 3 ≤ (if (arg c 4).testBit 0 then s.dev.get F.ARC_MARK_SEGS.SEGS else s.dev.get F.ARC_IMAGE_SEGS.SEGS) ∧ s.dev.pwr.saveWin = false ∧ s.dev.get F.LOAN_OP_COST.COST 6 ≤ s.dev.get F.LOAN_CHIP.BUDGET ∧ s.dev.get F.LOAN_OP_WAIT.WAIT_MS 6 ≠ 0)
    ∧ (∃ (s : State) (c : HostCmd), Ready 0x6A c s ∧ s.dev.reg.dump = none ∧ (s.dev.get F.ARC_STATE.STATE = 3 ∨ s.dev.get F.ARC_STATE.STATE = 4))
    ∧ (∃ (s : State) (x : Nat), s.dev.live = true ∧ s.dev.due .freeze = some x ∧ s.dev.ahead x = true ∧ s.dev.get F.ARC_STATE.STATE = 2)
    ∧ (∃ (s : State) (addr : Nat) (first : Nat) (n : Nat) (image : Nat) (outcome : Fin 4), s.dev.live = true ∧ s.dev.reg.dump = some (addr, first, n, image) ∧ s.dev.bit F.ARC_STATE.DUMPING = true ∧ outcome ≠ 1 ∧ s.dev.clk.lpddrAwake = true ∧ s.dev.ahead (if outcome.val = 0 then s.dev.reg.dumpAt + (6553600 * n + max 1 (s.dev.get F.ARC_DUMP.MBPS) - 1) / max 1 (s.dev.get F.ARC_DUMP.MBPS) else s.dev.tick) = true)
    ∧ (∃ (s : State), s.dev.live = true)
    ∧ (∃ (s : State), s.dev.live = true ∧ s.dev.bit F.REG_INC.RUNNING = true ∧ s.dev.get F.REG_INC.CLASS = 2 ∧ (s.dev.reg.merged.all fun x => !s.dev.isActive x.1) = true ∧ s.dev.ahead (s.dev.reg.lastMerge + max 1 (msT (s.dev.get F.REG_CTRL.C2_HOLD))) = true)
    ∧ (∃ (s : State) (t : Nat), s.dev.live = true ∧ s.dev.reg.errSince = some t ∧ s.dev.errCause = 0 ∧ s.dev.ahead (t + msT 1) = true) :=
  ⟨⟨on fun d => d.set F.ARC_STATE.STATE 1, cmd, by decide +kernel⟩,
   ⟨on fun d => ((d.set F.ARC_STATE.STATE 3).set F.ARC_IMAGE_SEGS.SEGS 5).set F.LOAN_OP_WAIT.WAIT_MS 1 6, { cmd with p := [0, 0, 4, 1, 0] }, by decide +kernel⟩,
   ⟨on fun d => d.set F.ARC_STATE.STATE 4, cmd, by decide +kernel⟩,
   ⟨on fun d => (d.set F.ARC_STATE.STATE 2).arm .freeze 5, 5, by decide +kernel⟩,
   ⟨on fun d => { d with reg := { d.reg with dump := some (0, 0, 1, 0) }, clk := { d.clk with lpddrAwake := true } }.setB F.ARC_STATE.DUMPING true, 0, 0, 1, 0, 0, by decide +kernel⟩,
   ⟨on fun d => d, by decide +kernel⟩,
   ⟨on fun d => (d.setB F.REG_INC.RUNNING true).set F.REG_INC.CLASS 2, by decide +kernel⟩,
   ⟨on fun d => { d with reg := { d.reg with errSince := some 0 } }, 0, by decide +kernel⟩⟩

/-- Inputs that meet the hypotheses of BeatStart. -/
theorem test_wit_beat_start :
    (∃ (s : State), s.dev.live = true ∧ s.dev.rings.pend = []) :=
  ⟨on fun d => d, by decide +kernel⟩

/-- Inputs that meet the hypotheses of ModuleCommands. -/
theorem test_wit_module_commands :
    (∃ (s : State) (c : HostCmd), Ready 0x01 c s)
    ∧ (∃ (s : State) (c : HostCmd), Ready 0x10 c s ∧ s.dev.sleepBusy = false)
    ∧ (∃ (s : State) (c : HostCmd), Ready 0x11 c s)
    ∧ (∃ (s : State) (c : HostCmd) (x : FwImage), Ready 0x12 c s ∧ c.payload = .firmware x)
    ∧ (∃ (s : State) (c : HostCmd) (k : List Nat), Ready 0x13 c s ∧ c.payload = .key k ∧ (s.dev.mram.keys.all fun x => x == .empty) = true)
    ∧ (∃ (s : State) (c : HostCmd) (i : Nat) (j : Nat) (k : Nat), Ready 0x14 c s ∧ (s.dev.mram.keys.getD i .empty).live = true ∧ c.payload = .keyChange (some i) (some (j, k)) none ∧ s.dev.mram.keys.getD j .revoked = .empty)
    ∧ (∃ (s : State) (c : HostCmd) (i : Nat) (j : Nat), Ready 0x14 c s ∧ (s.dev.mram.keys.getD i .empty).live = true ∧ c.payload = .keyChange (some i) none (some j)) :=
  ⟨⟨on fun d => d, cmd, by decide +kernel⟩,
   ⟨on fun d => d, cmd, by decide +kernel⟩,
   ⟨on fun d => (d.set F.GLB_STATE.DEVICE LOCKOUT), cmd, by decide +kernel⟩,
   ⟨on fun d => d, { cmd with payload := .firmware ⟨2, 0, true, true⟩ }, ⟨2, 0, true, true⟩, by decide +kernel⟩,
   ⟨on fun d => d, { cmd with payload := .key [5] }, [5], by decide +kernel⟩,
   ⟨on fun d => { d with mram := { d.mram with keys := [.digest 5, .empty, .empty, .empty] } }, { cmd with payload := .keyChange (some 0) (some (3, 6)) none }, 0, 3, 6, by decide +kernel⟩,
   ⟨on fun d => { d with mram := { d.mram with keys := [.digest 5, .empty, .empty, .empty] } }, { cmd with payload := .keyChange (some 0) none (some 0) }, 0, 0, by decide +kernel⟩⟩

/-- The block with the Catalogue's key enrolled and the Catalogue stored. -/
def enrolled : State :=
  on fun d => { d with mram := { d.mram with keys := [.digest (sha256 key), .empty, .empty, .empty], cats := [some catalogue, none], active := 0 } }

/-- The CAT_LOAD that names the Catalogue's length and carries it. -/
def loadCmd : HostCmd := { cmd with p := [0, 0, 1384, 0], payload := .catalogue catalogue }

set_option maxRecDepth 100000 in
/-- The Catalogue above passes every check (R96). -/
theorem test_catalogue_passes : (enrolled.dev.atBeat 0x20 loadCmd).catCheck 1384 (some (catalogueOf catalogue)) = none := by decide +kernel

/-- Its length. -/
theorem test_catalogue_length : catalogue.bytes.length = 1384 := by decide +kernel

/-- Inputs that meet the hypotheses of CatalogueCommands. -/
theorem test_wit_catalogue_commands :
    (∃ (s : State) (c : HostCmd) (x : CatFile), Ready 0x20 c s ∧ (arg c 3).testBit 0 = false ∧ c.payload = .catalogue x ∧ x.bytes.length = arg c 2
      ∧ (s.dev.atBeat 0x20 c).catCheck (arg c 2) (some (catalogueOf x)) = none)
    ∧ (∃ (s : State) (c : HostCmd) (x : CatFile), Ready 0x20 c s ∧ (arg c 3).testBit 0 = true ∧ s.dev.mram.cats.getD s.dev.mram.active none = some x
      ∧ (s.dev.atBeat 0x20 c).catCheck x.bytes.length (some (catalogueOf x)) = none)
    ∧ (∃ (s : State) (c : HostCmd), Ready 0x21 c s) ∧ (∃ (s : State) (c : HostCmd), Ready 0x22 c s) ∧ (∃ (s : State) (c : HostCmd), Ready 0x23 c s) :=
  ⟨⟨enrolled, loadCmd, catalogue, by decide +kernel, by decide +kernel, rfl, test_catalogue_length, test_catalogue_passes⟩,
   ⟨enrolled, { cmd with p := [0, 0, 0, 1] }, catalogue, by decide +kernel, by decide +kernel, rfl, by rw [test_catalogue_length]; exact test_catalogue_passes⟩,
   ⟨on fun d => d.set F.GLB_STATE.DEVICE LINKED, cmd, by decide +kernel⟩,
   ⟨on fun d => d.set F.GLB_STATE.DEVICE STAGED, cmd, by decide +kernel⟩,
   ⟨on fun d => d.set F.GLB_STATE.DEVICE STAGED, cmd, by decide +kernel⟩⟩

/-- Inputs that meet the hypotheses of EnergyCommands. -/
theorem test_wit_energy_commands :
    (∃ (s : State) (c : HostCmd), Ready 0x30 c s ∧ s.dev.st = LINKED ∧ s.dev.startCheck = none ∧ s.dev.arr.starting = false ∧ s.dev.pwr.saveWin = false ∧ ((∀ op ∈ ([2, 4] : List Nat), s.dev.get F.LOAN_OP_COST.COST op ≤ s.dev.get F.LOAN_CHIP.BUDGET ∧ s.dev.get F.LOAN_OP_WAIT.WAIT_MS op ≠ 0)))
    ∧ (∃ (s : State) (c : HostCmd), Ready 0x30 c s ∧ s.dev.st = LINKED ∧ s.dev.arr.starting = true)
    ∧ (∃ (s : State) (c : HostCmd), Ready 0x30 c s ∧ s.dev.st = STOP ∧ s.dev.startCheck = none ∧ (s.dev.atBeat 0x30 c).stillCharged = true)
    ∧ (∃ (s : State) (c : HostCmd), Ready 0x31 c s)
    ∧ (∃ (s : State) (c : HostCmd), Ready 0x32 c s)
    ∧ (∃ (s : State) (c : HostCmd), Ready 0x33 c s ∧ (s.dev.atBeat 0x33 c).resetCheck = none ∧ s.dev.get F.SAF_STATE.RESET_STEP = 0) :=
  ⟨⟨on fun d => (((((d.set F.GLB_STATE.DEVICE LINKED).setB F.SAF_STATE.SDO_C true).setB F.SAF_STATE.SDO_D true).setB F.GLB_CAT.SAFETY_MATCH true).set F.LOAN_OP_WAIT.WAIT_MS 1 2).set F.LOAN_OP_WAIT.WAIT_MS 1 4, cmd, by decide +kernel⟩,
   ⟨on fun d => { (d.set F.GLB_STATE.DEVICE LINKED) with arr := { d.arr with starting := true }, clk := { d.clk with lpddrAwake := true } }, cmd, by decide +kernel⟩,
   ⟨on fun d => (d.set F.GLB_STATE.DEVICE STOP).set F.ARR_VREF.VDL 0, cmd, by decide +kernel⟩,
   ⟨on fun d => (d.set F.GLB_STATE.DEVICE RUN), cmd, by decide +kernel⟩,
   ⟨on fun d => { (d.set F.GLB_STATE.DEVICE STOP) with arr := { d.arr with zeroPower := true } }, cmd, by decide +kernel⟩,
   ⟨on fun d => ((d.set F.GLB_STATE.DEVICE LOCKOUT).setB F.SAF_STATE.CURATOR_OK true).setB F.SAF_STATE.DETENT_OK true, cmd, by decide +kernel⟩⟩

/-- Inputs that meet the hypotheses of ArrayCommands. -/
theorem test_wit_array_commands :
    (∃ (s : State) (c : HostCmd), Ready 0x40 c s)
    ∧ (∃ (s : State) (c : HostCmd), Ready 0x40 c s ∧ (s.dev.st = LINKED ∨ s.dev.st = STOP))
    ∧ (∃ (s : State) (c : HostCmd), Ready 0x40 c s ∧ s.dev.dcSource = false ∧ c.target < 6)
    ∧ (∃ (s : State) (c : HostCmd), Ready 0x40 c s ∧ (s.dev.st = LINKED ∨ s.dev.st = STOP) ∧ c.target < 6)
    ∧ (∃ (s : State) (c : HostCmd), Ready 0x40 c s ∧ bitsAt (arg c 1) 8 4 ≤ s.dev.get F.ARR_CTRL.HOP_LAST)
    ∧ (∃ (s : State) (c : HostCmd), Ready 0x40 c s ∧ (s.dev.st = LINKED ∨ s.dev.st = STOP) ∧ s.dev.get F.GLB_ESAP.TICKS ≤ arg c 1) :=
  ⟨⟨on fun d => (d.set F.GLB_STATE.DEVICE RUN), cmd, by decide +kernel⟩,
   ⟨on fun d => (d.set F.GLB_STATE.DEVICE STOP), cmd, by decide +kernel⟩,
   ⟨on fun d => { (d.set F.GLB_STATE.DEVICE RUN) with prov := { d.prov with decl := some { (default : CatDecl) with threePhase := true } } }, { cmd with target := 5 }, by decide +kernel⟩,
   ⟨on fun d => (d.set F.GLB_STATE.DEVICE LINKED), { cmd with target := 5 }, by decide +kernel⟩,
   ⟨on fun d => (d.set F.GLB_STATE.DEVICE RUN), { cmd with p := [6, 0] }, by decide +kernel⟩,
   ⟨on fun d => (d.set F.GLB_STATE.DEVICE STOP), { cmd with p := [7, 1023] }, by decide +kernel⟩⟩

/-- Inputs that meet the hypotheses of CellCommands. -/
theorem test_wit_cell_commands :
    (∃ (s : State) (c : HostCmd), Ready 0x41 c s ∧ c.target < 96 ∧ s.dev.cellRole c.target ≠ 2 ∧ s.dev.cellRole c.target ≠ 3 ∧ ((s.dev.st = RUN → s.dev.cellsOut (s.dev.strOf c.target) + b2n (s.dev.cellRole c.target == 1) ≤ s.dev.get F.ARR_STRING_CFG.K (s.dev.strOf c.target))) ∧ s.dev.get F.LANE_CAP.BYPASS_KIND c.target ≠ 0)
    ∧ (∃ (s : State) (c : HostCmd), Ready 0x42 c s ∧ c.target < s.dev.cells.length ∧ s.dev.cellRole c.target = 3 ∧ s.dev.laneUp c.target = true) :=
  ⟨⟨on fun d => (((d.set F.GLB_STATE.DEVICE RUN).set F.CELL_STATUS.ROLE 1 95).set F.LANE_CAP.BYPASS_KIND 1 95).set F.ARR_STRING_CFG.K 1 0, { cmd with target := 95 }, by decide +kernel⟩,
   ⟨on fun d => ((d.set F.GLB_STATE.DEVICE STOP).set F.CELL_STATUS.ROLE 3 95).set F.LANE_STATUS.STATE 5 95, { cmd with target := 95 }, by decide +kernel⟩⟩

/-- Inputs that meet the hypotheses of LoopCommands. -/
theorem test_wit_loop_commands :
    (∃ (s : State) (c : HostCmd), Ready 0x48 c s ∧ c.target < 1024 ∧ (s.dev.atBeat 0x48 c).slotCheck ((s.dev.atBeat 0x48 c).slotPut c.target 1 (c.p.map (· % 2 ^ 32))) c.target 1 (c.p.map (· % 2 ^ 32)) = none)
    ∧ (∃ (s : State) (c : HostCmd), Ready 0x48 c s ∧ c.target < 1024 ∧ (s.dev.atBeat 0x48 c).slotCheck ((s.dev.atBeat 0x48 c).slotPut c.target 2 (c.p.map (· % 2 ^ 32))) c.target 2 (c.p.map (· % 2 ^ 32)) = none)
    ∧ (∃ (s : State) (c : HostCmd), Ready 0x48 c s ∧ c.target < 1024 ∧ (s.dev.atBeat 0x48 c).slotCheck ((s.dev.atBeat 0x48 c).slotPut c.target 3 (c.p.map (· % 2 ^ 32))) c.target 3 (c.p.map (· % 2 ^ 32)) = none)
    ∧ (∃ (s : State) (c : HostCmd), Ready 0x48 c s ∧ c.target < 1024 ∧ (s.dev.atBeat 0x48 c).slotCheck ((s.dev.atBeat 0x48 c).slotPut c.target 4 (c.p.map (· % 2 ^ 32))) c.target 4 (c.p.map (· % 2 ^ 32)) = none)
    ∧ (∃ (s : State) (c : HostCmd), Ready 0x48 c s ∧ c.target < 1024 ∧ (s.dev.atBeat 0x48 c).slotCheck ((s.dev.atBeat 0x48 c).slotPut c.target 5 (c.p.map (· % 2 ^ 32))) c.target 5 (c.p.map (· % 2 ^ 32)) = none)
    ∧ (∃ (s : State) (c : HostCmd), Ready 0x48 c s ∧ c.target < 1024 ∧ (s.dev.atBeat 0x48 c).slotCheck ((s.dev.atBeat 0x48 c).slotPut c.target 6 (c.p.map (· % 2 ^ 32))) c.target 6 (c.p.map (· % 2 ^ 32)) = none)
    ∧ (∃ (s : State) (c : HostCmd), Ready 0x48 c s ∧ c.target < 1024 ∧ (s.dev.atBeat 0x48 c).slotCheck ((s.dev.atBeat 0x48 c).slotPut c.target 7 (c.p.map (· % 2 ^ 32))) c.target 7 (c.p.map (· % 2 ^ 32)) = none)
    ∧ (∃ (s : State) (c : HostCmd) (ws : List Nat), Ready 0x49 c s ∧ c.target < 4 ∧ c.payload = .words ws) :=
  ⟨⟨on fun d => (d.set F.GLB_STATE.DEVICE STAGED), { cmd with target := 1023, p := [] }, by decide +kernel⟩,
   ⟨on fun d => (d.set F.GLB_STATE.DEVICE STAGED), { cmd with target := 1023, p := [] }, by decide +kernel⟩,
   ⟨on fun d => (d.set F.GLB_STATE.DEVICE STAGED), { cmd with target := 1023, p := [] }, by decide +kernel⟩,
   ⟨on fun d => (d.set F.GLB_STATE.DEVICE STAGED).set F.SLOT_CFG.OWNER 1 1023, { cmd with target := 1023 }, by decide +kernel⟩,
   ⟨on fun d => (d.set F.GLB_STATE.DEVICE STAGED), { cmd with target := 1023, p := [] }, by decide +kernel⟩,
   ⟨on fun d => (d.set F.GLB_STATE.DEVICE STAGED), { cmd with target := 1023, p := [] }, by decide +kernel⟩,
   ⟨on fun d => (d.set F.GLB_STATE.DEVICE STAGED).set F.SLOT_CFG.OWNER 1 1023, { cmd with target := 1023 }, by decide +kernel⟩,
   ⟨on fun d => (d.set F.GLB_STATE.DEVICE STAGED), { cmd with target := 3, payload := .words [0] }, [0], by decide +kernel⟩⟩

/-- Inputs that meet the hypotheses of OutputCommands. -/
theorem test_wit_output_commands :
    (∃ (s : State) (c : HostCmd), Ready 0x50 c s ∧ c.target < 2)
    ∧ (∃ (s : State) (c : HostCmd), Ready 0x50 c s ∧ c.target < 2 ∧ max (arg c 1 % 65536) (arg c 1 / 65536) ≤ s.dev.get F.GRP_IMAX.I_MAX c.target)
    ∧ (∃ (s : State) (c : HostCmd), Ready 0x51 c s ∧ c.target < 2 ∧ s.dev.grpSenseLost c.target = false ∧ s.dev.get F.GRP_STATUS.STATE c.target = 0 ∧ s.dev.pwr.saveWin = false ∧ s.dev.get F.LOAN_OP_COST.COST 9 ≤ s.dev.get F.LOAN_SITE.BUDGET ∧ s.dev.get F.LOAN_OP_WAIT.WAIT_MS 9 ≠ 0)
    ∧ (∃ (s : State) (c : HostCmd), Ready 0x51 c s ∧ c.target < 2 ∧ 2 ≤ s.dev.get F.GRP_STATUS.STATE c.target ∧ s.dev.get F.GRP_STATUS.STATE c.target ≤ 4) :=
  ⟨⟨on fun d => (d.set F.GLB_STATE.DEVICE RUN), { cmd with target := 1 }, by decide +kernel⟩,
   ⟨on fun d => (d.set F.GLB_STATE.DEVICE RUN).set F.GRP_IMAX.I_MAX 100 1, { cmd with target := 1, p := [2, 100] }, by decide +kernel⟩,
   ⟨on fun d => ((d.set F.GLB_STATE.DEVICE RUN).set F.LOAN_OP_WAIT.WAIT_MS 1 9).set F.GRP_STATUS.STATE 0 1, { cmd with target := 1 }, by decide +kernel⟩,
   ⟨on fun d => (d.set F.GLB_STATE.DEVICE RUN).set F.GRP_STATUS.STATE 4 1, { cmd with target := 1 }, by decide +kernel⟩⟩

/-- Inputs that meet the hypotheses of CollectorCommands. -/
theorem test_wit_collector_commands :
    (∃ (s : State) (c : HostCmd), Ready 0x58 c s ∧ (s.dev.atBeat 0x58 c).colCheck 1 (toS 32 (arg c 1)) = none)
    ∧ (∃ (s : State) (c : HostCmd), Ready 0x58 c s ∧ (s.dev.atBeat 0x58 c).colCheck 2 (toS 32 (arg c 1)) = none)
    ∧ (∃ (s : State) (c : HostCmd), Ready 0x58 c s ∧ (s.dev.atBeat 0x58 c).colCheck 6 (s.dev.getS F.COL_SAFE_POS.POS) = none)
    ∧ (∃ (s : State) (c : HostCmd), Ready 0x58 c s ∧ arg c 1 < 2 ∧ (s.dev.atBeat 0x58 c).colCheck 5 (s.dev.getS F.COL_TARGET.TARGET) = none)
    ∧ (∃ (s : State) (c : HostCmd), Ready 0x58 c s ∧ (s.dev.atBeat 0x58 c).colCheck 3 (s.dev.getS F.COL_TARGET.TARGET) = none ∧ 1 ≤ s.dev.get F.COL_STATUS.STATE ∧ s.dev.get F.COL_STATUS.STATE ≤ 5)
    ∧ (∃ (s : State) (c : HostCmd), Ready 0x58 c s ∧ (s.dev.atBeat 0x58 c).colCheck 4 (s.dev.getS F.COL_TARGET.TARGET) = none ∧ s.dev.colMoving = true) :=
  ⟨⟨on fun d => (d.set F.GLB_STATE.DEVICE STAGED).setB F.COL_STATUS.VALID true, cmd, by decide +kernel⟩,
   ⟨on fun d => (d.set F.GLB_STATE.DEVICE STAGED).setB F.COL_STATUS.VALID true, cmd, by decide +kernel⟩,
   ⟨on fun d => (d.set F.GLB_STATE.DEVICE STAGED).setB F.COL_STATUS.VALID true, cmd, by decide +kernel⟩,
   ⟨on fun d => (d.set F.GLB_STATE.DEVICE STAGED).set F.COL_CFG.ENC2_MODE 1, cmd, by decide +kernel⟩,
   ⟨on fun d => ((d.set F.GLB_STATE.DEVICE STAGED).setB F.COL_STATUS.VALID true).set F.COL_STATUS.STATE 5, cmd, by decide +kernel⟩,
   ⟨on fun d => (d.set F.GLB_STATE.DEVICE STAGED).set F.COL_STATUS.STATE 2, cmd, by decide +kernel⟩⟩

/-- Inputs that meet the hypotheses of PwmAndOutputEvents. -/
theorem test_wit_pwm_and_output_events :
    (∃ (s : State) (g : Fin 2), s.dev.live = true ∧ s.dev.phasesOf g ≠ [] ∧ s.dev.energy = true ∧ s.dev.ahead (s.dev.tick + ((s.dev.get F.SLOT_CFG.RELEASE (s.dev.get F.GRP_SLOTS.ISLOT g) + 2) % 1024 + 1024 - s.dev.phase) % 1024) = true)
    ∧ (∃ (s : State) (c : Fin 32), s.dev.live = true ∧ (unit s.dev.pwm c).length ≠ 0 ∧ ¬ (c.val % 2 = 1 ∧ s.dev.partner c ≠ none) ∧ ((s.dev.stageOf c = 0 → (unit s.dev.phases (c.val / 2)).ending = false)))
    ∧ (∃ (s : State) (c : Fin 32), s.dev.live = true ∧ (unit s.dev.pwm c).length ≠ 0 ∧ ¬ (c.val % 2 = 1 ∧ s.dev.partner c ≠ none) ∧ s.dev.stageOf c = 0 ∧ (unit s.dev.phases (c.val / 2)).ending = true)
    ∧ (∃ (s : State) (c : Fin 32), s.dev.live = true ∧ (unit s.dev.pwm c).cmpDone = false ∧ fullDuty (s.dev.get F.PW_CMP.CMP c) (unit s.dev.pwm c).length = false)
    ∧ (∃ (s : State) (c : Fin 32) (x : Nat), s.dev.live = true ∧ s.dev.due (.dead (c.val / 2 * 2)) = some x ∧ s.dev.ahead x = true)
    ∧ (∃ (s : State) (g : Fin 2), s.dev.live = true ∧ 2 ≤ s.dev.get F.GRP_STATUS.STATE g ∧ s.dev.get F.GRP_STATUS.STATE g ≤ 5 ∧ 0 ≤ s.dev.iRef g)
    ∧ (∃ (s : State) (code : Nat), s.dev.live = true ∧ s.dev.bit F.OS_STATUS.BRAKE_ARMED = true ∧ s.dev.bit F.OS_STATUS.BRAKE_ON = false ∧ s.dev.pwBlocked 24 = false ∧ ((∀ c ∈ ([24, 25] : List Nat), s.dev.bit F.GD_STATUS.T_ACTIVE (s.dev.gateOf c) = false)) ∧ ((s.dev.get F.OS_BRAKE.ON_V : Nat) : Rat) ≤ s.dev.snsVal 14 ((code : Nat) : Rat))
    ∧ (∃ (s : State) (g : Fin 2), s.dev.live = true ∧ s.dev.get F.GRP_STATUS.STATE g = 4 ∧ s.dev.bit F.GRP_STATUS.BURST_SLEEP g = true ∧ s.dev.get F.GRP_BURST_V.SLEEP_MAX g ≤ (unit s.dev.groups g).sleepBeats)
    ∧ (∃ (s : State) (g : Fin 2) (x : Nat), s.dev.live = true ∧ s.dev.due (.ssMax g) = some x ∧ s.dev.ahead x = true ∧ s.dev.get F.GRP_STATUS.STATE g = 2) :=
  ⟨⟨on fun d => (d.set F.GLB_STATE.DEVICE RUN).setFlag F.OS_CTRL.PHASE_DECL 11 true, 0, by decide +kernel⟩,
   ⟨on fun d => { d with pwm := List.replicate 32 { (default : Pwm) with length := 64, presc := [0, 0, 0] } }, 30, by decide +kernel⟩,
   ⟨on fun d => { d with pwm := List.replicate 32 { (default : Pwm) with length := 64, presc := [0, 0, 0] }, phases := List.replicate 12 { (default : Phase) with ending := true } }.set F.PW_CFG.FUNC 1 2, 2, by decide +kernel⟩,
   ⟨on fun d => { d with pwm := List.replicate 32 { (default : Pwm) with length := 64, presc := [0, 0, 0] } }, 31, by decide +kernel⟩,
   ⟨on fun d => d.arm (.dead 30) 5, 31, 5, by decide +kernel⟩,
   ⟨on fun d => ({ (d.set F.GLB_STATE.DEVICE RUN) with groups := List.replicate 2 { (default : Group) with vref := -1000000 }, phases := List.replicate 12 { (default : Phase) with trunc := 1 } }.set F.GRP_STATUS.STATE 5 1), 1, by decide +kernel⟩,
   ⟨on fun d => (((d.setB F.OS_STATUS.BRAKE_ARMED true).set F.PW_CFG.FUNC 2 24).set F.OS_BRAKE.ON_V 0), 0, by decide +kernel⟩,
   ⟨on fun d => ({ d with groups := List.replicate 2 { (default : Group) with sleepBeats := 100000 } }.set F.GRP_STATUS.STATE 4 1).setB F.GRP_STATUS.BURST_SLEEP true 1, 1, by decide +kernel⟩,
   ⟨on fun d => (d.arm (.ssMax 1) 5).set F.GRP_STATUS.STATE 2 1, 1, 5, by decide +kernel⟩⟩

/-- Inputs that meet the hypotheses of TripsAndCarriers. -/
theorem test_wit_trips_and_carriers :
    (∃ (s : State) (x : Fin 32) (c : Nat), s.dev.live = true ∧ s.dev.chanOf x = some c ∧ s.dev.bit F.GD_CFG.DECLARED x = true ∧ s.dev.get F.PW_STATUS.LEVEL c ≠ 0 ∧ s.dev.due (.blank x) = none ∧ s.dev.bit F.GD_STATUS.PENDING x = false)
    ∧ (∃ (s : State) (x : Fin 32) (instant : Nat) (c : Nat) (t : Nat), s.dev.live = true ∧ s.dev.chanOf x = some c ∧ s.dev.bit F.GD_CFG.DECLARED x = true ∧ s.dev.get F.PW_STATUS.LEVEL c ≠ 0 ∧ s.dev.due (.blank x) = some t ∧ max s.dev.tick (instant / 64 + s.dev.osTicks (s.dev.get F.GD_CFG.T_FILT x)) < t)
    ∧ (∃ (s : State), s.dev.live = true)
    ∧ (∃ (s : State) (x : Fin 32) (t : Nat), s.dev.live = true ∧ s.dev.due (.blank x) = some t ∧ s.dev.ahead t = true)
    ∧ (∃ (s : State) (c : Fin 32) (x : Nat), s.dev.live = true ∧ s.dev.due (.softOff c) = some x ∧ s.dev.ahead x = true)
    ∧ (∃ (s : State) (x : Fin 32), s.dev.live = true ∧ s.dev.bit F.GD_CFG.DECLARED x = false)
    ∧ (∃ (s : State) (x : Fin 32) (period : Nat), s.dev.live = true ∧ s.dev.bit F.GD_CFG.DECLARED x = true ∧ (period < 800 ∨ 1200 < period))
    ∧ (∃ (s : State) (x : Fin 32) (period : Nat) (f : FrameHigh), let high := f.ticks; s.dev.live = true ∧ s.dev.bit F.GD_CFG.DECLARED x = true ∧ 800 ≤ period ∧ period ≤ 1200 ∧ 512 ≤ 4096 * high / period ∧ 4096 * high / period ≤ 1791 ∧ (unit s.dev.gates x).band ≠ 1)
    ∧ (∃ (s : State) (x : Fin 32) (period : Nat) (f : FrameHigh), let high := f.ticks; s.dev.live = true ∧ s.dev.bit F.GD_CFG.DECLARED x = true ∧ 800 ≤ period ∧ period ≤ 1200 ∧ 2304 ≤ 4096 * high / period ∧ 4096 * high / period ≤ 3583 ∧ (unit s.dev.gates x).band ≠ 2)
    ∧ (∃ (s : State) (x : Fin 32) (t : Nat), s.dev.live = true ∧ s.dev.due (.carrier x) = some t ∧ s.dev.ahead t = true ∧ s.dev.bit F.GD_CFG.DECLARED x = true ∧ x.val < s.dev.gates.length)
    ∧ (∃ (s : State) (x : Fin 32) (t : Nat) (c : Nat), s.dev.live = true ∧ s.dev.due (.proof x) = some t ∧ s.dev.ahead t = true ∧ s.dev.bit F.GD_STATUS.UNPROVEN x = true ∧ s.dev.energy = true ∧ s.dev.chanOf x = some c ∧ x.val < s.dev.gates.length)
    ∧ (∃ (s : State) (h : HallRun), s.dev.live = true ∧ s.dev.get F.HALL_STATUS.STATE ≠ h.state ∧ max 1 (s.dev.get F.HALL_CFG.FILT) ≤ h.samples)
    ∧ (∃ (s : State) (h : HallRun), s.dev.live = true ∧ s.dev.get F.HALL_STATUS.STATE ≠ h.state ∧ h.samples < max 1 (s.dev.get F.HALL_CFG.FILT)) :=
  ⟨⟨on fun d => (((d.set F.PW_CFG.FUNC 1 23).set F.PW_CFG.GATE 31 23).setB F.GD_CFG.DECLARED true 31).set F.PW_STATUS.LEVEL 3 23, 31, 23, by decide +kernel⟩,
   ⟨on fun d => ((((d.set F.PW_CFG.FUNC 1 23).set F.PW_CFG.GATE 31 23).setB F.GD_CFG.DECLARED true 31).set F.PW_STATUS.LEVEL 3 23).arm (.blank 31) 100, 31, 640, 23, 100, by decide +kernel⟩,
   ⟨on fun d => d.setB F.GD_STATUS.T_ACTIVE true 31, by decide +kernel⟩,
   ⟨on fun d => d.arm (.blank 31) 5, 31, 5, by decide +kernel⟩,
   ⟨on fun d => d.arm (.softOff 31) 5, 31, 5, by decide +kernel⟩,
   ⟨on fun d => d, 31, by decide +kernel⟩,
   ⟨on fun d => d.setB F.GD_CFG.DECLARED true 31, 31, 799, by decide +kernel⟩,
   ⟨on fun d => d.setB F.GD_CFG.DECLARED true 31, 31, 800, ⟨100, 5000⟩, by dsimp only; decide +kernel⟩,
   ⟨on fun d => d.setB F.GD_CFG.DECLARED true 31, 31, 1200, ⟨675, 5000⟩, by dsimp only; decide +kernel⟩,
   ⟨on fun d => (d.arm (.carrier 31) 5).setB F.GD_CFG.DECLARED true 31, 31, 5, by decide +kernel⟩,
   ⟨on fun d => (((((d.set F.GLB_STATE.DEVICE RUN).set F.PW_CFG.FUNC 1 23).set F.PW_CFG.GATE 31 23)).setB F.GD_STATUS.UNPROVEN true 31).arm (.proof 31) 5, 31, 5, 23, by decide +kernel⟩,
   ⟨on fun d => d.set F.HALL_CFG.FILT 3, ⟨5, 3⟩, by decide +kernel⟩,
   ⟨on fun d => d.set F.HALL_CFG.FILT 3, ⟨5, 2⟩, by decide +kernel⟩⟩

/-- Inputs that meet the hypotheses of CollectorEvents. -/
theorem test_wit_collector_events :
    (∃ (s : State) (n : Fin 2), s.dev.live = true ∧ s.dev.encOn n = false)
    ∧ (∃ (s : State) (n : Fin 2) (a : Bool) (b : Bool), let a0 := (s.dev.get F.ENC_STATUS.LEVELS n).testBit 0; let b0 := (s.dev.get F.ENC_STATUS.LEVELS n).testBit 1; s.dev.live = true ∧ s.dev.encOn n = true ∧ ¬ (a ≠ a0 ↔ b ≠ b0))
    ∧ (∃ (s : State) (n : Fin 2) (a : Bool) (b : Bool), let a0 := (s.dev.get F.ENC_STATUS.LEVELS n).testBit 0; let b0 := (s.dev.get F.ENC_STATUS.LEVELS n).testBit 1; s.dev.live = true ∧ s.dev.encOn n = true ∧ a ≠ a0 ∧ b ≠ b0)
    ∧ (∃ (s : State) (n : Fin 2) (z : Bool), s.dev.live = true ∧ s.dev.encOn n = true ∧ z ≠ (s.dev.get F.ENC_STATUS.LEVELS n).testBit 2 ∧ z ≠ s.dev.bit F.ENC_STATUS.DIR n)
    ∧ (∃ (s : State) (n : Fin 2) (x : Nat), s.dev.live = true ∧ s.dev.due (.reversal n) = some x ∧ s.dev.ahead x = true)
    ∧ (∃ (s : State) (x : SsiFrame), let good := s.dev.ssiGood x; s.dev.live = true ∧ s.dev.get F.COL_CFG.ENC2_MODE = 2 ∧ good = false)
    ∧ (∃ (s : State) (x : SsiFrame), let good := s.dev.ssiGood x; s.dev.live = true ∧ s.dev.get F.COL_CFG.ENC2_MODE = 2 ∧ good = true)
    ∧ (∃ (s : State), s.dev.live = true ∧ s.dev.get F.COL_CFG.KIND ≠ 0 ∧ s.dev.slotRuns (s.dev.get F.COL_SLOTS.SPD) = true ∧ s.dev.ahead (s.dev.tick + ((s.dev.get F.SLOT_CFG.RELEASE (s.dev.get F.COL_SLOTS.SPD) + 2) % 1024 + 1024 - s.dev.phase) % 1024) = true)
    ∧ (∃ (s : State) (x : Nat), s.dev.live = true ∧ s.dev.due .brake = some x ∧ s.dev.ahead x = true ∧ s.dev.get F.COL_STATUS.STATE = 6) :=
  ⟨⟨on fun d => d, 1, by decide +kernel⟩,
   ⟨on fun d => d.set F.COL_CFG.ENC2_MODE 1, 1, true, false, by dsimp only; decide +kernel⟩,
   ⟨on fun d => d.set F.COL_CFG.ENC2_MODE 1, 1, false, false, by dsimp only; decide +kernel⟩,
   ⟨on fun d => (d.set F.COL_CFG.ENC2_MODE 1).setB F.ENC_STATUS.DIR true 1, 1, false, by decide +kernel⟩,
   ⟨on fun d => d.arm (.reversal 1) 5, 1, 5, by decide +kernel⟩,
   ⟨on fun d => (d.set F.COL_CFG.ENC2_MODE 2).set F.SSI_CFG.BITS 10, ⟨false, []⟩, by dsimp only; decide +kernel⟩,
   ⟨on fun d => (d.set F.COL_CFG.ENC2_MODE 2).set F.SSI_CFG.BITS 10, ⟨true, [1]⟩, by dsimp only; decide +kernel⟩,
   ⟨on fun d => ((d.set F.GLB_STATE.DEVICE RUN).set F.COL_CFG.KIND 1), by decide +kernel⟩,
   ⟨on fun d => (d.arm .brake 5).set F.COL_STATUS.STATE 6, 5, by decide +kernel⟩⟩

/-- Inputs that meet the hypotheses of SafetyInputs. -/
theorem test_wit_safety_inputs :
    (∃ (s : State) (part : Fin 2) (n : Fin 8), s.dev.live = true ∧ part.val < s.dev.saf.pairs.length ∧ n.val < (unit s.dev.saf.pairs part).length)
    ∧ (∃ (s : State) (part : Fin 2) (n : Fin 8) (x : Nat), s.dev.live = true ∧ s.dev.due (.disc part n) = some x ∧ s.dev.ahead x = true)
    ∧ (∃ (s : State) (part : Fin 2) (n : Fin 8) (x : Nat), s.dev.live = true ∧ s.dev.due (.delayOff part n) = some x ∧ s.dev.ahead x = true)
    ∧ (∃ (s : State) (n : Fin 8) (x : Nat), s.dev.live = true ∧ s.dev.due (.safeClear n) = some x ∧ s.dev.ahead x = true) :=
  ⟨⟨on fun d => d, 1, 7, by decide +kernel⟩,
   ⟨on fun d => d.arm (.disc 1 7) 5, 1, 7, 5, by decide +kernel⟩,
   ⟨on fun d => d.arm (.delayOff 1 7) 5, 1, 7, 5, by decide +kernel⟩,
   ⟨on fun d => d.arm (.safeClear 7) 5, 7, 5, by decide +kernel⟩⟩

/-- Inputs that meet the hypotheses of SafetyOutputsAndReset. -/
theorem test_wit_safety_outputs_and_reset :
    (∃ (s : State), s.dev.live = true ∧ s.dev.sdoOk 0 = true ∧ s.dev.sdoOk 1 = true ∧ (s.dev.bit F.SAF_STATE.SDO_C && s.dev.bit F.SAF_STATE.SDO_D) = false)
    ∧ (∃ (s : State), s.dev.live = true)
    ∧ (∃ (s : State) (o : Fin 2) (x : Nat), s.dev.live = true ∧ s.dev.due (.offPulse o) = some x ∧ s.dev.ahead x = true)
    ∧ (∃ (s : State) (x : Nat), s.dev.live = true ∧ s.dev.due .loopEdge = some x ∧ s.dev.ahead x = true)
    ∧ (∃ (s : State), s.dev.live = true ∧ s.dev.ahead (s.dev.tick + usT 10) = true)
    ∧ (∃ (s : State) (w : Nat), s.dev.live = true ∧ s.dev.get F.SAF_STATE.RESET_STEP = 1 ∧ s.dev.due .resetWin = some w)
    ∧ (∃ (s : State) (held : Nat) (p : Nat) (w : Nat), s.dev.live = true ∧ s.dev.get F.SAF_STATE.RESET_STEP = 2 ∧ s.dev.saf.pressAt = some p ∧ s.dev.due .resetWin = some w ∧ max s.dev.tick (p + held) < w ∧ s.dev.st = LOCKOUT ∧ s.dev.ahead (p + held) = true ∧ msT 100 ≤ held ∧ held ≤ msT 5000 ∧ (s.dev.until (p + held)).resetCheck = none)
    ∧ (∃ (s : State) (held : Nat) (p : Nat) (w : Nat), s.dev.live = true ∧ s.dev.get F.SAF_STATE.RESET_STEP = 2 ∧ s.dev.saf.pressAt = some p ∧ s.dev.due .resetWin = some w ∧ max s.dev.tick (p + held) < w ∧ s.dev.st = LOCKOUT ∧ s.dev.ahead (p + held) = true ∧ (held < msT 100 ∨ msT 5000 < held))
    ∧ (∃ (s : State), s.dev.live = true ∧ s.dev.get F.SAF_STATE.RESET_STEP = 2 ∧ s.dev.ahead (s.dev.saf.pressAt.getD s.dev.tick + msT 5000 + 1) = true)
    ∧ (∃ (s : State), s.dev.live = true ∧ s.dev.get F.SAF_STATE.RESET_STEP ≠ 0 ∧ s.dev.ahead (s.dev.tick + msT 100) = true)
    ∧ (∃ (s : State) (x : Nat), s.dev.live = true ∧ s.dev.due .resetWin = some x ∧ s.dev.ahead x = true) :=
  ⟨⟨on fun d => ((d.set F.GLB_STATE.DEVICE LINKED).setB F.SAF_STATE.CURATOR_OK true).setB F.SAF_STATE.DETENT_OK true, by decide +kernel⟩,
   ⟨on fun d => d, by decide +kernel⟩,
   ⟨on fun d => ((d.setB F.SAF_GLOBAL.SDO_TEST true).setB F.SAF_STATE.SDO_C true).arm (.offPulse 0) 5, 0, 5, by decide +kernel⟩,
   ⟨on fun d => (d.setB F.SAF_STATE.LOOP_ON true).arm .loopEdge 5, 5, by decide +kernel⟩,
   ⟨on fun d => d, by decide +kernel⟩,
   ⟨on fun d => { ((d.set F.GLB_STATE.DEVICE LOCKOUT).set F.SAF_STATE.RESET_STEP 1) with saf := { d.saf with pressAt := some 0 } }.arm .resetWin 100, 100, by decide +kernel⟩,
   ⟨on fun d => ((({ ((d.set F.GLB_STATE.DEVICE LOCKOUT).set F.SAF_STATE.RESET_STEP 2) with saf := { d.saf with pressAt := some 0 } }).arm .resetWin 1000000000).setB F.SAF_STATE.CURATOR_OK true).setB F.SAF_STATE.DETENT_OK true, msT 100, 0, 1000000000, by decide +kernel⟩,
   ⟨on fun d => ((({ ((d.set F.GLB_STATE.DEVICE LOCKOUT).set F.SAF_STATE.RESET_STEP 2) with saf := { d.saf with pressAt := some 0 } }).arm .resetWin 1000000000).setB F.SAF_STATE.CURATOR_OK true).setB F.SAF_STATE.DETENT_OK true, msT 5000 + 1, 0, 1000000000, by decide +kernel⟩,
   ⟨on fun d => { ((d.set F.GLB_STATE.DEVICE LOCKOUT).set F.SAF_STATE.RESET_STEP 2) with saf := { d.saf with pressAt := some 0 } }, by decide +kernel⟩,
   ⟨on fun d => { ((d.set F.GLB_STATE.DEVICE LOCKOUT).set F.SAF_STATE.RESET_STEP 1) with saf := { d.saf with pressAt := some 0 } }, by decide +kernel⟩,
   ⟨on fun d => d.arm .resetWin 5, 5, by decide +kernel⟩⟩

/-- Inputs that meet the hypotheses of HousekeepingRound. -/
theorem test_wit_housekeeping_round :
    (∃ (s : State), let n := if s.dev.hk.round * 1000000 + 1020000 < s.dev.tick then s.dev.tick / 1000000 else s.dev.hk.round; s.dev.live = true ∧ s.dev.ahead ((n + 1) * 1000000 + Config.freeNat s.dev.freeCtr % 20001) = true) :=
  ⟨on fun d => d, by dsimp only; decide +kernel⟩

/-- Inputs that meet the hypotheses of LaneTraining. -/
theorem test_wit_lane_training :
    (∃ (s : State), s.dev.live = true)
    ∧ (∃ (s : State) (k : Fin 96) (x : Nat), s.dev.live = true ∧ s.dev.laneSt k = 1 ∧ s.dev.due (.losClear k) = some x ∧ s.dev.ahead x = true)
    ∧ (∃ (s : State) (k : Fin 96), s.dev.live = true ∧ s.dev.ahead (s.dev.tick + if 2 ≤ s.dev.laneSt k ∧ s.dev.laneSt k ≤ 4 ∧ !s.dev.inGap k then usT 2 else 0) = true)
    ∧ (∃ (s : State) (k : Fin 96) (x : Nat), s.dev.live = true ∧ s.dev.due (.xcvr k) = some x ∧ s.dev.ahead x = true ∧ ((unit s.dev.lanes k).prsHigh = true ∨ (unit s.dev.lanes k).los = true) ∧ (s.dev.st = STAGED ∨ s.dev.st = LINKED))
    ∧ (∃ (s : State) (k : Fin 96) (m : Nat), s.dev.live = true ∧ s.dev.laneSt k = 2 ∧ s.dev.inGap k = false ∧ (unit s.dev.lanes k).tp1 = false ∧ s.dev.get F.LANE_STATUS.STEP k < 2 ∧ m = (if s.dev.bit F.LANE_STATUS.MODE k then 0xFF00FF00F0F0F0F0 else 0x00FF00FF0F0F0F0F) ∧ k.val < s.dev.lanes.length)
    ∧ (∃ (s : State) (k : Fin 96) (x : Nat), s.dev.live = true ∧ s.dev.due (.tp1 k) = some x ∧ s.dev.ahead x = true)
    ∧ (∃ (s : State) (k : Fin 96), s.dev.live = true ∧ s.dev.laneSt k = 2 ∧ s.dev.get F.LANE_STATUS.STEP k = 1 ∧ (unit s.dev.lanes k).tp1 = true)
    ∧ (∃ (s : State) (k : Fin 96) (h : HeaderTest), s.dev.live = true ∧ (s.dev.hunting k = true ∨ s.dev.bit F.LANE_STATUS.BLK_LOCK k = true) ∧ k.val < s.dev.lanes.length ∧ ((s.dev.bit F.LANE_STATUS.BLK_LOCK k = false → ∀ t, (unit s.dev.lanes k).slipTick = some t → t + 8 ≤ h.end_)))
    ∧ (∃ (s : State) (k : Fin 96) (h : HeaderTest) (t : Nat), s.dev.live = true ∧ s.dev.bit F.LANE_STATUS.BLK_LOCK k = false ∧ (unit s.dev.lanes k).slipTick = some t ∧ h.end_ < t + 8)
    ∧ (∃ (s : State) (k : Fin 96), s.dev.live = true ∧ s.dev.bit F.LANE_STATUS.MODE k = false ∧ s.dev.bit F.LANE_STATUS.BLK_LOCK k = true)
    ∧ (∃ (s : State) (k : Fin 96), s.dev.live = true ∧ s.dev.laneSt k = 2 ∧ s.dev.get F.LANE_STATUS.STEP k = 2 ∧ s.dev.ownLocks k = true ∧ 16 ≤ (unit s.dev.lanes k).idleRun ∧ ((s.dev.due (.attempt k)).all fun x => s.dev.tick < x) = true)
    ∧ (∃ (s : State) (k : Fin 96) (x : Nat), s.dev.live = true ∧ s.dev.due (.attempt k) = some x ∧ s.dev.ahead x = true)
    ∧ (∃ (s : State) (k : Fin 96) (x : Nat), s.dev.live = true ∧ s.dev.due (.lockState k) = some x ∧ s.dev.ahead x = true)
    ∧ (∃ (s : State) (k : Fin 96) (x : Nat), s.dev.live = true ∧ s.dev.due (.gap k) = some x ∧ s.dev.ahead x = true)
    ∧ (∃ (s : State) (k : Fin 96), s.dev.live = true ∧ s.dev.laneSt k = 3 ∧ s.dev.ownLocks k = true ∧ 256 ≤ (unit s.dev.lanes k).idleRun ∧ ((s.dev.due (.lockState k)).all fun x => s.dev.tick < x) = true)
    ∧ (∃ (a : Aligner), a.lock = false ∧ a.run = 0)
    ∧ (∃ (a : Aligner), a.lock = true ∧ a.last = [])
    ∧ (∃ (a : Framer) (x : Nat) (y : Nat) (z : Nat), x ∈ ([0, 1] : List Nat) ∧ y ∈ ([0, 1] : List Nat) ∧ z ∈ ([0, 1] : List Nat) ∧ a.lock = false ∧ a.run = 0)
    ∧ (∃ (a : Framer) (e : Nat), 4 < e ∧ a.lock = true ∧ a.last = []) :=
  ⟨⟨on fun d => d, by decide +kernel⟩,
   ⟨on fun d => (d.set F.LANE_STATUS.STATE 1 95).arm (.losClear 95) 5, 95, 5, by decide +kernel⟩,
   ⟨on fun d => d, 95, by decide +kernel⟩,
   ⟨on fun d => (d.set F.GLB_STATE.DEVICE STAGED).arm (.xcvr 95) 5, 95, 5, by decide +kernel⟩,
   ⟨on fun d => (d.set F.LANE_STATUS.STATE 2 95), 95, 0x00FF00FF0F0F0F0F, by decide +kernel⟩,
   ⟨on fun d => d.arm (.tp1 95) 5, 95, 5, by decide +kernel⟩,
   ⟨on fun d => ({ d with lanes := List.replicate 96 { Lane.init with tp1 := true } }.set F.LANE_STATUS.STATE 2 95).set F.LANE_STATUS.STEP 1 95, 95, by decide +kernel⟩,
   ⟨on fun d => ({ d with lanes := List.replicate 96 { Lane.init with align := { (default : Aligner) with run := 63 } } }.set F.LANE_STATUS.STATE 2 95).set F.LANE_STATUS.STEP 2 95, 95, ⟨true, 100⟩, by decide +kernel⟩,
   ⟨on fun d => ({ d with lanes := List.replicate 96 { Lane.init with slipTick := some 100 } }.set F.LANE_STATUS.STATE 2 95).set F.LANE_STATUS.STEP 2 95, 95, ⟨true, 107⟩, 100, by decide +kernel⟩,
   ⟨on fun d => d.setB F.LANE_STATUS.BLK_LOCK true 95, 95, by decide +kernel⟩,
   ⟨on fun d => ((({ d with lanes := List.replicate 96 { Lane.init with idleRun := 16 } }.set F.LANE_STATUS.STATE 2 95).setB F.LANE_STATUS.BLK_LOCK true 95).setB F.LANE_STATUS.FRM_LOCK true 95).set F.LANE_STATUS.STEP 2 95, 95, by decide +kernel⟩,
   ⟨on fun d => ((d.set F.LANE_STATUS.STATE 2 95).set F.LANE_STATUS.ATTEMPT 3 95).arm (.attempt 95) 5, 95, 5, by decide +kernel⟩,
   ⟨on fun d => ((d.set F.LANE_STATUS.STATE 3 95).set F.LANE_STATUS.ATTEMPT 2 95).arm (.lockState 95) 5, 95, 5, by decide +kernel⟩,
   ⟨on fun d => (d.set F.LANE_STATUS.STATE 2 95).arm (.gap 95) 5, 95, 5, by decide +kernel⟩,
   ⟨on fun d => ((({ d with lanes := List.replicate 96 { Lane.init with idleRun := 256 } }.set F.LANE_STATUS.STATE 3 95).setB F.LANE_STATUS.BLK_LOCK true 95).setB F.LANE_STATUS.FRM_LOCK true 95), 95, by decide +kernel⟩,
   ⟨(default : Aligner), by decide +kernel⟩,
   ⟨{ (default : Aligner) with lock := true }, by decide +kernel⟩,
   ⟨(default : Framer), 0, 1, 0, by decide +kernel⟩,
   ⟨{ (default : Framer) with lock := true }, 5, by decide +kernel⟩⟩

/-- Inputs that meet the hypotheses of LaneExchange. -/
theorem test_wit_lane_exchange :
    (∃ (s : State) (k : Fin 96) (c : CapUp), s.dev.live = true ∧ s.dev.laneSt k = 4 ∧ s.dev.ownLocks k = true ∧ (unit s.dev.lanes k).capOk = false ∧ k.val < s.dev.lanes.length ∧ (s.dev.beatOf c.beat - (s.dev.beat : Int)).natAbs ≤ 4 ∧ s.dev.capMatches k c = true)
    ∧ (∃ (s : State) (k : Fin 96) (c : CapUp), s.dev.live = true ∧ s.dev.laneSt k = 4 ∧ s.dev.ownLocks k = true ∧ (unit s.dev.lanes k).capOk = false ∧ k.val < s.dev.lanes.length ∧ (s.dev.beatOf c.beat - (s.dev.beat : Int)).natAbs ≤ 4 ∧ s.dev.capMatches k c = false)
    ∧ (∃ (s : State), s.dev.live = true)
    ∧ (∃ (s : State) (c : CapUp), s.dev.live = true ∧ 4 < (s.dev.beatOf c.beat - (s.dev.beat : Int)).natAbs)
    ∧ (∃ (s : State) (k : Fin 96), s.dev.live = true ∧ (s.dev.laneSt k = 4 ∨ s.dev.laneSt k = 5) ∧ s.dev.ownLocks k = true)
    ∧ (∃ (s : State) (k : Fin 96) (id : Fin 16) (x : Nat), s.dev.live = true ∧ id.val ∈ (unit s.dev.lanes k).waiting ∧ s.dev.due (.echo k id) = some x ∧ s.dev.ahead x = true)
    ∧ (∃ (s : State) (k : Fin 96) (b : Nat), s.dev.live = true ∧ s.dev.laneSt k = 4 ∧ s.dev.ownLocks k = true ∧ (unit s.dev.lanes k).rttOk = true ∧ (unit s.dev.lanes k).tsyncInit = true ∧ (s.dev.beatOf b - (s.dev.beat : Int)).natAbs ≤ 4 ∧ ((s.dev.due (.exchange k)).all fun x => s.dev.tick < x) = true)
    ∧ (∃ (s : State) (k : Fin 96) (x : Nat), s.dev.live = true ∧ s.dev.due (.exchange k) = some x ∧ s.dev.ahead x = true)
    ∧ (∃ (s : State) (k : Fin 96) (x : Nat), s.dev.live = true ∧ s.dev.due (.rtt k) = some x ∧ s.dev.ahead x = true ∧ k.val < s.dev.lanes.length) :=
  ⟨⟨on fun d => ((d.set F.LANE_STATUS.STATE 4 95).setB F.LANE_STATUS.BLK_LOCK true 95).setB F.LANE_STATUS.FRM_LOCK true 95, 95, { (default : CapUp) with protoMajor := 1, dnSlots := 4, prepTicks := 64, serial := 7, fs := [1, 1, 1, 1, 1] }, by decide +kernel⟩,
   ⟨on fun d => ((d.set F.LANE_STATUS.STATE 4 95).setB F.LANE_STATUS.BLK_LOCK true 95).setB F.LANE_STATUS.FRM_LOCK true 95, 95, default, by decide +kernel⟩,
   ⟨on fun d => d, by decide +kernel⟩,
   ⟨on fun d => d, { (default : CapUp) with beat := 100 }, by decide +kernel⟩,
   ⟨on fun d => (({ d with lanes := List.replicate 96 { Lane.init with waiting := [15] } }.set F.LANE_STATUS.STATE 4 95).setB F.LANE_STATUS.BLK_LOCK true 95).setB F.LANE_STATUS.FRM_LOCK true 95, 95, by decide +kernel⟩,
   ⟨on fun d => { d with lanes := List.replicate 96 { Lane.init with waiting := [15] } }.arm (.echo 95 15) 5, 95, 15, 5, by decide +kernel⟩,
   ⟨on fun d => (({ d with lanes := List.replicate 96 { Lane.init with rttOk := true, tsyncInit := true } }.set F.LANE_STATUS.STATE 4 95).setB F.LANE_STATUS.BLK_LOCK true 95).setB F.LANE_STATUS.FRM_LOCK true 95, 95, 0, by decide +kernel⟩,
   ⟨on fun d => (d.set F.LANE_STATUS.STATE 4 95).arm (.exchange 95) 5, 95, 5, by decide +kernel⟩,
   ⟨on fun d => (d.set F.LANE_STATUS.STATE 5 95).arm (.rtt 95) 5, 95, 5, by decide +kernel⟩⟩

/-- Inputs that meet the hypotheses of LaneQuality. -/
theorem test_wit_lane_quality :
    (∃ (s : State), s.dev.live = true)
    ∧ (∃ (s : State) (k : Fin 96) (c : FrameCounts) (x : Nat), s.dev.live = true ∧ s.dev.due (.qwin k) = some x ∧ s.dev.ahead x = true ∧ k.val < s.dev.lanes.length ∧ (unit s.dev.lanes k).qCorr + c.corrBytes ≤ s.dev.get F.LANE_FB.CORR_LIM k ∧ (unit s.dev.lanes k).qUncorr + c.uncorr < s.dev.get F.LANE_FB.UNCORR_LIM k)
    ∧ (∃ (s : State) (k : Fin 96) (n : Nat), s.dev.live = true ∧ s.dev.ownLocks k = true ∧ n ≠ 0 ∧ k.val < s.dev.lanes.length)
    ∧ (∃ (s : State) (k : Fin 96), s.dev.live = true ∧ s.dev.laneHears k = true ∧ (unit s.dev.lanes k).shifting = true ∧ (unit s.dev.lanes k).shiftRx = false ∧ k.val < s.dev.lanes.length)
    ∧ (∃ (s : State) (k : Fin 96) (x : Nat), s.dev.live = true ∧ s.dev.due (.shift k) = some x ∧ s.dev.ahead x = true ∧ (unit s.dev.lanes k).shifting = true) :=
  ⟨⟨on fun d => (d.set F.LANE_STATUS.STATE 5 95), by decide +kernel⟩,
   ⟨on fun d => (d.set F.LANE_STATUS.STATE 5 95).arm (.qwin 95) 5, 95, default, 5, by decide +kernel⟩,
   ⟨on fun d => ((d.set F.LANE_STATUS.STATE 3 95).setB F.LANE_STATUS.BLK_LOCK true 95).setB F.LANE_STATUS.FRM_LOCK true 95, 95, 4, by decide +kernel⟩,
   ⟨on fun d => (({ d with lanes := List.replicate 96 { Lane.init with shifting := true } }.set F.LANE_STATUS.STATE 5 95).setB F.LANE_STATUS.BLK_LOCK true 95).setB F.LANE_STATUS.FRM_LOCK true 95, 95, by decide +kernel⟩,
   ⟨on fun d => ({ d with lanes := List.replicate 96 { Lane.init with shifting := true } }.set F.LANE_STATUS.STATE 5 95).arm (.shift 95) 5, 95, 5, by decide +kernel⟩⟩

/-- Inputs that meet the hypotheses of LaneMessages. -/
theorem test_wit_lane_messages :
    (∃ (s : State) (k : Fin 96) (m : SampleMsg), s.dev.live = true ∧ k.val < s.dev.lanes.length ∧ s.dev.laneHears k = true ∧ m.part < 16 ∧ 0 ≤ s.dev.beatOf m.beat ∧ s.dev.beatOf m.beat ≤ (s.dev.beat : Int) ∧ s.dev.taken (s.dev.beatOf m.beat) = false ∧ ((unit s.dev.lanes k).parts.any fun p => p.1 == (s.dev.beatOf m.beat).toNat && p.2.1 == m.part) = false)
    ∧ (∃ (s : State) (k : Fin 96) (m : StatusMsg), s.dev.live = true ∧ k.val < s.dev.lanes.length ∧ s.dev.laneHears k = true ∧ statusOk m.w08 = true ∧ 0 ≤ s.dev.beatOf m.beat ∧ s.dev.beatOf m.beat ≤ (s.dev.beat : Int) ∧ s.dev.taken (s.dev.beatOf m.beat) = false)
    ∧ (∃ (s : State) (k : Fin 96) (m : PageMsg), s.dev.live = true ∧ k.val < s.dev.lanes.length ∧ s.dev.laneHears k = true ∧ m.page ≤ 15 ∧ (s.dev.beatOf m.beat - (s.dev.beat : Int)).natAbs ≤ 4)
    ∧ (∃ (s : State) (k : Fin 96) (b : Nat), s.dev.live = true ∧ k.val < s.dev.lanes.length ∧ s.dev.laneHears k = true ∧ (s.dev.beatOf b - (s.dev.beat : Int)).natAbs ≤ 4)
    ∧ (∃ (s : State) (k : Fin 96) (x : Nat) (b : Byp), s.dev.live = true ∧ k.val < s.dev.lanes.length ∧ s.dev.due (.bypRep k) = some x ∧ s.dev.ahead x = true ∧ (unit s.dev.lanes k).byp = some b ∧ b.reps < 3)
    ∧ (∃ (s : State) (k : Fin 96) (x : Nat), s.dev.live = true ∧ k.val < s.dev.lanes.length ∧ s.dev.due (.capRep k) = some x ∧ s.dev.ahead x = true ∧ (unit s.dev.lanes k).capWait ≠ [] ∧ ((unit s.dev.lanes k).capAcked && (unit s.dev.lanes k).capAgain) = false) :=
  ⟨⟨on fun d => ((d.set F.LANE_STATUS.STATE 5 95).setB F.LANE_STATUS.BLK_LOCK true 95).setB F.LANE_STATUS.FRM_LOCK true 95, 95, ⟨0, 0, 15, false, []⟩, by decide +kernel⟩,
   ⟨on fun d => ((d.set F.LANE_STATUS.STATE 5 95).setB F.LANE_STATUS.BLK_LOCK true 95).setB F.LANE_STATUS.FRM_LOCK true 95, 95, default, by decide +kernel⟩,
   ⟨on fun d => ((d.set F.LANE_STATUS.STATE 5 95).setB F.LANE_STATUS.BLK_LOCK true 95).setB F.LANE_STATUS.FRM_LOCK true 95, 95, ⟨0, 0, 15, false, []⟩, by decide +kernel⟩,
   ⟨on fun d => ((d.set F.LANE_STATUS.STATE 5 95).setB F.LANE_STATUS.BLK_LOCK true 95).setB F.LANE_STATUS.FRM_LOCK true 95, 95, 0, by decide +kernel⟩,
   ⟨on fun d => ({ d with lanes := List.replicate 96 { Lane.init with byp := some { (default : Byp) with reps := 2 } } }.set F.LANE_STATUS.STATE 5 95).arm (.bypRep 95) 5, 95, 5, { (default : Byp) with reps := 2 }, by decide +kernel⟩,
   ⟨on fun d => ({ d with lanes := List.replicate 96 { Lane.init with capWait := [3] } }.set F.LANE_STATUS.STATE 5 95).arm (.capRep 95) 5, 95, 5, by decide +kernel⟩⟩

/-- Inputs that meet the hypotheses of ArrayEvents. -/
theorem test_wit_array_events :
    (∃ (s : State), let b := if s.dev.phase ≤ 140 then s.dev.beat else s.dev.beat + 1; s.dev.live = true ∧ s.dev.prov.decl ≠ none ∧ s.dev.arr.latched ≠ some b ∧ s.dev.ahead (s.dev.tick + (140 + 1024 - s.dev.phase) % 1024) = true)
    ∧ (∃ (s : State), s.dev.live = true ∧ s.dev.prov.decl ≠ none ∧ s.dev.arr.handed ≠ some (if s.dev.phase ≤ 290 then s.dev.beat else s.dev.beat + 1) ∧ s.dev.ahead (s.dev.tick + (290 + 1024 - s.dev.phase) % 1024) = true)
    ∧ (∃ (s : State) (k : Fin 96) (x : Nat), s.dev.live = true ∧ s.dev.due (.bypassMax k) = some x ∧ s.dev.ahead x = true ∧ s.dev.cellRole k = 2)
    ∧ (∃ (s : State) (k : Fin 96) (x : Nat), s.dev.live = true ∧ s.dev.due (.retrain k) = some x ∧ s.dev.ahead x = true ∧ s.dev.cellRole k = 0 ∧ s.dev.laneUp k = false)
    ∧ (∃ (s : State), s.dev.live = true ∧ s.dev.ahead ((s.dev.tick + 65536 * 1024 - 1) / (65536 * 1024) * (65536 * 1024)) = true)
    ∧ (∃ (s : State), s.dev.live = true ∧ s.dev.ahead ((s.dev.tick + 256 * 1024 - 1) / (256 * 1024) * (256 * 1024)) = true)
    ∧ (∃ (s : State), s.dev.live = true ∧ s.dev.get F.ARR_DERATE.FACTOR < s.dev.derateMin ∧ s.dev.ahead ((s.dev.beat + (64 - s.dev.reg.rise)) * 1024) = true)
    ∧ (∃ (s : State), s.dev.live = true ∧ s.dev.st = STOP ∧ 100 ≤ s.dev.arr.zeroBeats ∧ s.dev.arr.zeroPower = false) :=
  ⟨⟨on fun d => { d with prov := { d.prov with decl := some default } }, by dsimp only; decide +kernel⟩,
   ⟨on fun d => { d with prov := { d.prov with decl := some default } }, by decide +kernel⟩,
   ⟨on fun d => (d.arm (.bypassMax 95) 5).set F.CELL_STATUS.ROLE 2 95, 95, 5, by decide +kernel⟩,
   ⟨on fun d => d.arm (.retrain 95) 5, 95, 5, by decide +kernel⟩,
   ⟨on fun d => d, by decide +kernel⟩,
   ⟨on fun d => d, by decide +kernel⟩,
   ⟨on fun d => d.set F.ARR_DERATE.FACTOR 1023, by decide +kernel⟩,
   ⟨on fun d => { (d.set F.GLB_STATE.DEVICE STOP) with arr := { d.arr with zeroBeats := 100 } }, by decide +kernel⟩⟩

/-- Inputs that meet the hypotheses of SlotRelease. -/
theorem test_wit_slot_release :
    (∃ (s : State) (k : Fin 1024), s.dev.live = true ∧ s.dev.bit F.SLOT_CFG.EN k = true ∧ s.dev.bit F.SLOT_CFG.MEMBER k = false ∧ s.dev.slotRuns k = true ∧ s.dev.ahead (s.dev.tick + (s.dev.get F.SLOT_CFG.RELEASE k + 1024 - s.dev.phase) % 1024) = true ∧ (unit s.dev.slots k).frozen = true)
    ∧ (∃ (s : State) (k : Fin 1024) (late : Option Nat) (p : Nat), s.dev.live = true ∧ s.dev.bit F.SLOT_CFG.EN k = true ∧ s.dev.bit F.SLOT_CFG.MEMBER k = false ∧ s.dev.slotRuns k = true ∧ s.dev.ahead (s.dev.tick + (s.dev.get F.SLOT_CFG.RELEASE k + 1024 - s.dev.phase) % 1024) = true ∧ (unit s.dev.slots k).frozen = false ∧ late = some p)
    ∧ (∃ (s : State) (k : Fin 1024) (late : Option Nat), let x := fSubt (s.dev.slotSrc (s.dev.get F.SLOT_SRC.SRC_A k) (s.dev.get F.SLOT_SRC.IDX_A k) (s.dev.get F.SLOT_REF.REF k)) (s.dev.slotSrc (s.dev.get F.SLOT_SRC.SRC_B k) (s.dev.get F.SLOT_SRC.IDX_B k) 0); let e := fMul (s.dev.get F.SLOT_K_IN.K_IN k) x; let y := fAdd (s.dev.slotAcc k e) 0; s.dev.live = true ∧ s.dev.bit F.SLOT_CFG.EN k = true ∧ s.dev.bit F.SLOT_CFG.MEMBER k = false ∧ s.dev.slotRuns k = true ∧ s.dev.ahead (s.dev.tick + (s.dev.get F.SLOT_CFG.RELEASE k + 1024 - s.dev.phase) % 1024) = true ∧ (unit s.dev.slots k).frozen = false ∧ late = none ∧ s.dev.owner k = 0 ∧ s.dev.get F.SLOT_CFG.MEMBERS k = 0 ∧ s.dev.bit F.SLOT_CFG.FF_EN k = false ∧ s.dev.bit F.SLOT_CFG.AW k = false ∧ fBad x = false ∧ fBad e = false ∧ fBad (s.dev.slotAcc k e) = false ∧ fBad y = false) :=
  ⟨⟨on fun d => { (d.set F.GLB_STATE.DEVICE RUN).setB F.SLOT_CFG.EN true 1023 with slots := List.replicate 1024 { (default : Slot) with frozen := true } }, 1023, by decide +kernel⟩,
   ⟨on fun d => (d.set F.GLB_STATE.DEVICE RUN).setB F.SLOT_CFG.EN true 1023, 1023, some 7, 7, by decide +kernel⟩,
   ⟨on fun d => (d.set F.GLB_STATE.DEVICE RUN).setB F.SLOT_CFG.EN true 1023, 1023, none, by dsimp only; decide +kernel⟩⟩

/-- Inputs that meet the hypotheses of BringUpEvents. -/
theorem test_wit_bring_up_events :
    (∃ (s : State), s.dev.live = true ∧ s.dev.st = STAGED ∧ s.dev.stageReady = true)
    ∧ (∃ (s : State), s.dev.live = true ∧ s.dev.st = LINKED ∧ s.dev.arr.starting = true ∧ s.dev.hasLoan 4 0 = true ∧ s.dev.bit F.PLL_STATUS.LOCKED 2 = true ∧ s.dev.bit F.GLB_CAT.SAFETY_MATCH = true ∧ s.dev.pwr.saveWin = false ∧ s.dev.get F.LOAN_OP_COST.COST 8 ≤ s.dev.get F.LOAN_SITE.BUDGET ∧ s.dev.get F.LOAN_OP_WAIT.WAIT_MS 8 ≠ 0)
    ∧ (∃ (s : State) (x : Nat), s.dev.live = true ∧ s.dev.due .startLock = some x ∧ s.dev.ahead x = true ∧ s.dev.arr.starting = true)
    ∧ (∃ (s : State) (n : Fin 6) (t : Nat), s.dev.live = true ∧ s.dev.st = PRECHARGE ∧ s.dev.arr.preMet.getD n none = some t ∧ s.dev.get F.GLB_PRECHARGE.PHASE n = 2 ∧ ((s.dev.due (.prechPhase n)).all fun x => t + msT 100 < x) = true ∧ s.dev.ahead (t + msT 100) = true)
    ∧ (∃ (s : State) (n : Fin 6) (t : Nat), s.dev.live = true ∧ s.dev.st = PRECHARGE ∧ s.dev.arr.preMet.getD n none = some t ∧ s.dev.get F.GLB_PRECHARGE.PHASE n = 3 ∧ ((s.dev.due (.prechPhase n)).all fun x => t < x) = true ∧ s.dev.ahead t = true ∧ s.dev.dcl.preOrder.getLast? ≠ some n.val)
    ∧ (∃ (s : State) (n : Fin 6) (t : Nat), s.dev.live = true ∧ s.dev.st = PRECHARGE ∧ s.dev.arr.preMet.getD n none = some t ∧ s.dev.get F.GLB_PRECHARGE.PHASE n = 4 ∧ ((s.dev.due (.prechPhase n)).all fun x => t < x) = true ∧ s.dev.ahead t = true)
    ∧ (∃ (s : State) (n : Fin 6) (x : Nat), s.dev.live = true ∧ s.dev.st = PRECHARGE ∧ s.dev.due (.prechPhase n) = some x ∧ s.dev.ahead x = true) :=
  ⟨⟨on fun d => { (d.set F.GLB_STATE.DEVICE STAGED) with tick := 20000 }, by decide +kernel⟩,
   ⟨on fun d => (({ (d.set F.GLB_STATE.DEVICE LINKED) with arr := { d.arr with starting := true }, loans := [⟨4, 0, 100⟩] }.setB F.PLL_STATUS.LOCKED true 2 |>.setB F.GLB_CAT.SAFETY_MATCH true).set F.LOAN_OP_WAIT.WAIT_MS 1 8), by decide +kernel⟩,
   ⟨on fun d => { d with arr := { d.arr with starting := true } }.arm .startLock 5, 5, by decide +kernel⟩,
   ⟨on fun d => { (d.set F.GLB_STATE.DEVICE PRECHARGE) with arr := { d.arr with preMet := List.replicate 6 (some 0) } }.set F.GLB_PRECHARGE.PHASE 2 5, 5, 0, by decide +kernel⟩,
   ⟨on fun d => { (d.set F.GLB_STATE.DEVICE PRECHARGE) with arr := { d.arr with preMet := List.replicate 6 (some 0) } }.set F.GLB_PRECHARGE.PHASE 3 5, 5, 0, by decide +kernel⟩,
   ⟨on fun d => { (d.set F.GLB_STATE.DEVICE PRECHARGE) with arr := { d.arr with preMet := List.replicate 6 (some 0) } }.set F.GLB_PRECHARGE.PHASE 4 5, 5, 0, by decide +kernel⟩,
   ⟨on fun d => (d.set F.GLB_STATE.DEVICE PRECHARGE).arm (.prechPhase 5) 5, 5, 5, by decide +kernel⟩⟩

/-- Inputs that meet the hypotheses of MeteringEvents. -/
theorem test_wit_metering_events :
    (∃ (s : State), s.dev.live = true ∧ s.dev.bit F.MET_STATUS.RUN = true)
    ∧ (∃ (s : State) (m : Fin 16), s.dev.live = true ∧ s.dev.bit F.MET_CH_CFG.DECLARED m = true ∧ s.dev.bit F.MET_STATUS.RUN = true ∧ (unit s.dev.metCh m).lostNow = false ∧ m.val < s.dev.metCh.length)
    ∧ (∃ (s : State) (m : Fin 16) (x : Nat), s.dev.live = true ∧ s.dev.due (.zc m) = some x ∧ s.dev.ahead x = true ∧ s.dev.bit F.MET_STATUS.RUN = true ∧ s.dev.acVolt m = true ∧ m.val < s.dev.metCh.length)
    ∧ (∃ (s : State) (e : Fin 8) (v : Interval), s.dev.live = true ∧ (unit s.dev.metEl e).open_ = some v ∧ s.dev.bit F.MET_STATUS.RUN = true ∧ v.stop ≤ sampleAt s.dev.met.k)
    ∧ (∃ (s : State) (x : Nat), s.dev.live = true ∧ s.dev.due .harm = some x ∧ s.dev.ahead x = true)
    ∧ (∃ (s : State) (e : Fin 8) (k : Nat) (sum : Int) (abs : Nat) (l : List Rat), s.dev.live = true ∧ s.dev.bit F.MET_EL_CFG.DECLARED e = true ∧ s.dev.bit F.MET_EL_CFG.CLOSE_EN e = true ∧ (unit s.dev.metEl e).prev = some (k, sum, abs) ∧ s.dev.arr.metPrev = some (k, l) ∧ s.dev.met.runPrev = some (k, true) ∧ e.val < s.dev.metEl.length) :=
  ⟨⟨on fun d => (d.setB F.MET_STATUS.RUN true), by decide +kernel⟩,
   ⟨on fun d => (d.setB F.MET_STATUS.RUN true).setB F.MET_CH_CFG.DECLARED true 15, 15, by decide +kernel⟩,
   ⟨on fun d => (d.setB F.MET_STATUS.RUN true).arm (.zc 15) 5, 15, 5, by decide +kernel⟩,
   ⟨on fun d => { (d.setB F.MET_STATUS.RUN true) with metEl := List.replicate 8 { (default : MetEl) with open_ := some { (default : Interval) with stop := 64, imp := 2 ^ 32 } }, met := { d.met with k := 100 } }, 7, { (default : Interval) with stop := 64, imp := 2 ^ 32 }, by decide +kernel⟩,
   ⟨on fun d => d.arm .harm 5, 5, by decide +kernel⟩,
   ⟨on fun d => ((({ d with metEl := List.replicate 8 { (default : MetEl) with prev := some (2, 5000000000000000, 1) }, arr := { d.arr with metPrev := some (2, []) }, met := { d.met with runPrev := some (2, true) } }).setB F.MET_EL_CFG.DECLARED true 7).setB F.MET_EL_CFG.CLOSE_EN true 7), 7, 2, 5000000000000000, 1, [], by decide +kernel⟩⟩

/-- Inputs that meet the hypotheses of ChronometerEvents. -/
theorem test_wit_chronometer_events :
    (∃ (s : State) (x : Nat), s.dev.live = true ∧ s.dev.due .set = some x ∧ s.dev.ahead x = true)
    ∧ (∃ (s : State) (x : Nat), s.dev.live = true ∧ s.dev.get F.CHR_STATE.NT_STATE = 3 ∧ s.dev.get F.CHR_SERVO.SOURCE ≠ 0 ∧ s.dev.due .measure = some x ∧ s.dev.ahead x = true)
    ∧ (∃ (s : State) (x : Nat), s.dev.live = true ∧ s.dev.get F.CHR_STATE.NT_STATE = 4 ∧ s.dev.due .holdover = some x ∧ s.dev.ahead x = true)
    ∧ (∃ (s : State), s.dev.live = true ∧ s.dev.bit F.PPS_CFG.IN_EN = true)
    ∧ (∃ (s : State) (x : Nat), s.dev.live = true ∧ s.dev.get F.CHR_SERVO.SOURCE = 4 ∧ s.dev.due .ppsIn = some x ∧ s.dev.ahead x = true ∧ s.dev.get F.CHR_STATE.NT_STATE = 3)
    ∧ (∃ (s : State), let inc := max 1 (s.dev.get F.CHR_INC.INC); let t := s.dev.tick * 64 + ((1000000000 * 2 ^ 32 - s.dev.chr.frac) * 64 + inc - 1) / inc; s.dev.live = true ∧ s.dev.bit F.PPS_CFG.OUT_EN = true ∧ s.dev.bit F.CHR_STATE.VALID = true ∧ s.dev.pwr.ppsOut = false ∧ s.dev.ahead (t / 64) = true)
    ∧ (∃ (s : State) (x : Nat), s.dev.live = true ∧ s.dev.due .ppsFall = some x ∧ s.dev.ahead x = true) :=
  ⟨⟨on fun d => d.arm .set 5, 5, by decide +kernel⟩,
   ⟨on fun d => ((d.set F.CHR_STATE.NT_STATE 3).set F.CHR_SERVO.SOURCE 1).arm .measure 5, 5, by decide +kernel⟩,
   ⟨on fun d => (d.set F.CHR_STATE.NT_STATE 4).arm .holdover 5, 5, by decide +kernel⟩,
   ⟨on fun d => d.setB F.PPS_CFG.IN_EN true, by decide +kernel⟩,
   ⟨on fun d => ((d.set F.CHR_SERVO.SOURCE 4).set F.CHR_STATE.NT_STATE 3).arm .ppsIn 5, 5, by decide +kernel⟩,
   ⟨on fun d => (d.setB F.PPS_CFG.OUT_EN true).setB F.CHR_STATE.VALID true, by dsimp only; decide +kernel⟩,
   ⟨on fun d => d.arm .ppsFall 5, 5, by decide +kernel⟩⟩

/-- Inputs that meet the hypotheses of EthernetEvents. -/
theorem test_wit_ethernet_events :
    (∃ (s : State) (n : Fin 2) (a : Announce), s.dev.live = true ∧ n.val < s.dev.ports.length ∧ s.dev.ptpOn n a.domain a.udp = true)
    ∧ (∃ (s : State) (n : Fin 2) (x : Nat), s.dev.live = true ∧ n.val < s.dev.ports.length ∧ s.dev.due (.announce n) = some x ∧ s.dev.ahead x = true)
    ∧ (∃ (s : State) (n : Fin 2) (m : PtpSync), s.dev.live = true ∧ n.val < s.dev.ports.length ∧ s.dev.ptpOn n m.domain m.udp = true ∧ s.dev.fromBest n m.sender = true ∧ m.twoStep = true)
    ∧ (∃ (s : State) (n : Fin 2) (m : PtpSync), s.dev.live = true ∧ n.val < s.dev.ports.length ∧ s.dev.ptpOn n m.domain m.udp = true ∧ s.dev.fromBest n m.sender = true ∧ m.twoStep = false ∧ s.dev.bit F.ETH_CFG.P2P n = false)
    ∧ (∃ (s : State) (n : Fin 2) (m : PtpSync) (y : PtpSync) (t2 : Int), s.dev.live = true ∧ n.val < s.dev.ports.length ∧ s.dev.ptpOn n m.domain m.udp = true ∧ (unit s.dev.ports n).syncRx = some (y, t2) ∧ s.dev.fromBest n m.sender = true ∧ y.sender = m.sender ∧ y.seq = m.seq)
    ∧ (∃ (s : State) (n : Fin 2) (m : PtpDelay) (t1 : Rat) (t2 : Rat) (t3 : Rat), s.dev.live = true ∧ n.val < s.dev.ports.length ∧ s.dev.ptpOn n m.domain m.udp = true ∧ s.dev.bit F.ETH_CFG.P2P n = false ∧ s.dev.fromBest n m.sender = true ∧ s.dev.reqOf n m.seq = some t3 ∧ (unit s.dev.ports n).last = some (t2, t1))
    ∧ (∃ (s : State) (n : Fin 2) (m : PtpDelay) (t1 : Rat), s.dev.live = true ∧ n.val < s.dev.ports.length ∧ s.dev.ptpOn n m.domain m.udp = true ∧ s.dev.bit F.ETH_CFG.P2P n = true ∧ s.dev.reqOf n m.seq = some t1)
    ∧ (∃ (s : State) (n : Fin 2) (m : PtpSync), s.dev.live = true ∧ n.val < s.dev.ports.length ∧ s.dev.ptpOn n m.domain m.udp = true ∧ s.dev.bit F.ETH_CFG.P2P n = true)
    ∧ (∃ (s : State) (x : EthModule), s.dev.live = true ∧ s.dev.get F.ETH_CFG.MODE x.port ≠ 0 ∧ s.dev.bit F.PLL_STATUS.LOCKED 3 = true ∧ (s.dev.ethPins x).ethDark x.port = false)
    ∧ (∃ (s : State), s.dev.live = true)
    ∧ (∃ (s : State) (n : Fin 2) (x : EthFrame), let dest := beAt x.bytes 0 6; let own := dest = s.dev.get F.ETH_MAC.MAC 0 ∨ dest = s.dev.get F.ETH_MAC.MAC 1; s.dev.live = true ∧ s.dev.bit F.ETH_STATUS.LINK n = true ∧ own)
    ∧ (∃ (s : State) (n : Fin 2) (x : EthFrame), let dest := beAt x.bytes 0 6; let own := dest = s.dev.get F.ETH_MAC.MAC 0 ∨ dest = s.dev.get F.ETH_MAC.MAC 1; let held := s.dev.bit F.ETH_CFG.P2P n = true ∧ (ptpKind x.bytes = some 2 ∨ ptpKind x.bytes = some 3); s.dev.live = true ∧ s.dev.bit F.ETH_STATUS.LINK n = true ∧ ¬ own ∧ held)
    ∧ (∃ (s : State) (n : Fin 2) (x : EthFrame), let dest := beAt x.bytes 0 6; let own := dest = s.dev.get F.ETH_MAC.MAC 0 ∨ dest = s.dev.get F.ETH_MAC.MAC 1; let held := s.dev.bit F.ETH_CFG.P2P n = true ∧ (ptpKind x.bytes = some 2 ∨ ptpKind x.bytes = some 3); s.dev.live = true ∧ s.dev.bit F.ETH_STATUS.LINK n = true ∧ ¬ own ∧ ¬ held ∧ s.dev.bit F.ETH_CFG.PASS 0 = true ∧ s.dev.bit F.ETH_CFG.PASS 1 = true ∧ ((unit s.dev.ports n).queue.filter (fun t => decide (x.rx < t))).length < 16 ∧ n.val < s.dev.ports.length) :=
  ⟨⟨on fun d => (({ d with ports := List.replicate 2 { (default : Port) with best := some { (default : Announce) with sender := 4 }, seq := 3 } }.setB F.ETH_STATUS.LINK true 1).setB F.ETH_CFG.PTP_EN true 1), 1, { (default : Announce) with sender := 4 }, by decide +kernel⟩,
   ⟨on fun d => d.arm (.announce 1) 5, 1, 5, by decide +kernel⟩,
   ⟨on fun d => (({ d with ports := List.replicate 2 { (default : Port) with best := some { (default : Announce) with sender := 4 }, seq := 3 } }.setB F.ETH_STATUS.LINK true 1).setB F.ETH_CFG.PTP_EN true 1), 1, { (default : PtpSync) with sender := 4, twoStep := true }, by decide +kernel⟩,
   ⟨on fun d => (({ d with ports := List.replicate 2 { (default : Port) with best := some { (default : Announce) with sender := 4 }, seq := 3 } }.setB F.ETH_STATUS.LINK true 1).setB F.ETH_CFG.PTP_EN true 1), 1, { (default : PtpSync) with sender := 4, seq := 7 }, by decide +kernel⟩,
   ⟨on fun d => (({ d with ports := List.replicate 2 { (default : Port) with best := some { (default : Announce) with sender := 4 }, syncRx := some ({ (default : PtpSync) with sender := 4, seq := 7 }, 0) } }.setB F.ETH_STATUS.LINK true 1).setB F.ETH_CFG.PTP_EN true 1), 1, { (default : PtpSync) with sender := 4, seq := 7 }, { (default : PtpSync) with sender := 4, seq := 7 }, 0, by decide +kernel⟩,
   ⟨on fun d => (({ d with ports := List.replicate 2 { (default : Port) with best := some { (default : Announce) with sender := 4 }, req := some (3, 5), last := some (20, 10) } }.setB F.ETH_STATUS.LINK true 1).setB F.ETH_CFG.PTP_EN true 1), 1, { (default : PtpDelay) with sender := 4, seq := 3, peerRx := 100 }, 10, 20, 5, by decide +kernel⟩,
   ⟨on fun d => (({ d with ports := List.replicate 2 { (default : Port) with best := some { (default : Announce) with sender := 4 }, req := some (3, 5) } }.setB F.ETH_STATUS.LINK true 1).setB F.ETH_CFG.PTP_EN true 1).setB F.ETH_CFG.P2P true 1, 1, { (default : PtpDelay) with seq := 3, rx := 6400 }, 5, by decide +kernel⟩,
   ⟨on fun d => (({ d with ports := List.replicate 2 { (default : Port) with best := some { (default : Announce) with sender := 4 }, seq := 3 } }.setB F.ETH_STATUS.LINK true 1).setB F.ETH_CFG.PTP_EN true 1).setB F.ETH_CFG.P2P true 1, 1, default, by decide +kernel⟩,
   ⟨on fun d => (d.set F.ETH_CFG.MODE 1 1).setB F.PLL_STATUS.LOCKED true 3, ⟨1, false, false, 100000⟩, by decide +kernel⟩,
   ⟨on fun d => (d.set F.ETH_CFG.MODE 1 1).setB F.ETH_STATUS.LINK true 1, by decide +kernel⟩,
   ⟨on fun d => d.setB F.ETH_STATUS.LINK true 1, 1, ⟨(List.replicate 12 0 ++ [0x88, 0xB5] ++ List.replicate 46 0), 640, 0, 640⟩, by dsimp only; decide +kernel⟩,
   ⟨on fun d => (d.setB F.ETH_STATUS.LINK true 1).setB F.ETH_CFG.P2P true 1, 1, ⟨(List.replicate 12 9 ++ [0x88, 0xF7, 2] ++ List.replicate 45 0), 640, 0, 6400⟩, by dsimp only; decide +kernel⟩,
   ⟨on fun d => (((d.setB F.ETH_STATUS.LINK true 1).setB F.ETH_CFG.PASS true 0).setB F.ETH_CFG.PASS true 1), 1, ⟨(List.replicate 12 9 ++ [0x88, 0xB5] ++ List.replicate 46 0), 640, 0, 6400⟩, by dsimp only; decide +kernel⟩⟩

/-- Inputs that meet the hypotheses of CanEvents. -/
theorem test_wit_can_events :
    (∃ (s : State) (c : Fin 2) (x : CanFrame) (j : Nat), s.dev.live = true ∧ s.dev.bit F.CAN_CFG.EN c = true ∧ s.dev.get F.CAN_STATUS.STATE c ≠ 2 ∧ ((x.fdf = true → s.dev.bit F.CAN_CFG.FD c = true)) ∧ s.dev.canMatch c x = some j)
    ∧ (∃ (s : State) (c : Fin 2) (x : CanFrame), s.dev.live = true ∧ s.dev.canMatch c x = none)
    ∧ (∃ (s : State) (c : Fin 2) (y : CanSlot) (x : Nat), s.dev.live = true ∧ s.dev.due (.canTx c y.frame) = some x ∧ s.dev.ahead x = true)
    ∧ (∃ (s : State) (c : Fin 2) (x : CanErrors), s.dev.live = true ∧ s.dev.bit F.CAN_CFG.EN c = true ∧ x.recovered = true ∧ s.dev.get F.CAN_STATUS.STATE c = 2)
    ∧ (∃ (s : State) (c : Fin 2) (x : CanErrors), let tec := s.dev.get F.CAN_STATUS.TEC c + 8 * x.tx; s.dev.live = true ∧ s.dev.bit F.CAN_CFG.EN c = true ∧ x.recovered = false ∧ s.dev.get F.CAN_STATUS.STATE c ≠ 2 ∧ 256 ≤ tec)
    ∧ (∃ (s : State) (c : Fin 2) (x : CanErrors), let tec := s.dev.get F.CAN_STATUS.TEC c + 8 * x.tx; s.dev.live = true ∧ s.dev.bit F.CAN_CFG.EN c = true ∧ x.recovered = false ∧ s.dev.get F.CAN_STATUS.STATE c ≠ 2 ∧ tec < 256) :=
  ⟨⟨on fun d => (d.setB F.CAN_CFG.EN true 1).setB F.CAN_FILT.EN true 1 15, 1, ⟨0x1FFFFFFF, false, false, [1]⟩, 15, by decide +kernel⟩,
   ⟨on fun d => d, 1, ⟨0, false, false, []⟩, by decide +kernel⟩,
   ⟨on fun d => d.arm (.canTx 1 3) 5, 1, ⟨3, true⟩, 5, by decide +kernel⟩,
   ⟨on fun d => (d.setB F.CAN_CFG.EN true 1).set F.CAN_STATUS.STATE 2 1, 1, ⟨0, 0, true⟩, by decide +kernel⟩,
   ⟨on fun d => (d.setB F.CAN_CFG.EN true 1).set F.CAN_STATUS.TEC 248 1, 1, ⟨1, 0, false⟩, by dsimp only; decide +kernel⟩,
   ⟨on fun d => (d.setB F.CAN_CFG.EN true 1).set F.CAN_STATUS.TEC 119 1, 1, ⟨1, 255, false⟩, by dsimp only; decide +kernel⟩⟩

/-- Inputs that meet the hypotheses of IdleStep. -/
theorem test_wit_idle_step :
    (∃ (s : State), s.pending = []) :=
  ⟨on fun d => d, by decide +kernel⟩

/-- Inputs that meet the hypotheses of DeviceResetRefused. -/
theorem test_wit_device_reset_refused :
    (∃ (s : State) (c : HostCmd), s.dev.live = true ∧ s.dev.beat ≤ c.beat ∧ (s.dev.st = PRECHARGE ∨ s.dev.st = RUN ∨ s.dev.st = STOP)) :=
  ⟨on fun d => (d.set F.GLB_STATE.DEVICE RUN), cmd, by decide +kernel⟩

/-- Inputs that meet the hypotheses of ConfirmRefused. -/
theorem test_wit_confirm_refused :
    (∃ (s : State) (c : HostCmd), Ready 0x24 c s ∧ s.dev.prov.staged = none)
    ∧ (∃ (s : State) (c : HostCmd), Ready 0x24 c s ∧ s.dev.prov.staged ≠ none ∧ s.dev.bit F.VP_SAFE_STAGE.CRC_DONE = false)
    ∧ (∃ (s : State) (c : HostCmd), let same := s.dev.get F.VP_SAFE_CRC_C.CRC = s.dev.get F.VP_SAFE_CRC_D.CRC; Ready 0x24 c s ∧ s.dev.prov.staged ≠ none ∧ s.dev.bit F.VP_SAFE_STAGE.CRC_DONE = true ∧ ¬ same)
    ∧ (∃ (s : State) (c : HostCmd), let same := s.dev.get F.VP_SAFE_CRC_C.CRC = s.dev.get F.VP_SAFE_CRC_D.CRC; Ready 0x24 c s ∧ s.dev.prov.staged ≠ none ∧ s.dev.bit F.VP_SAFE_STAGE.CRC_DONE = true ∧ same ∧ arg c 4 ≠ s.dev.get F.VP_SAFE_CRC_C.CRC) :=
  ⟨⟨on fun d => d, cmd, by decide +kernel⟩,
   ⟨on fun d => { d with prov := { d.prov with staged := some [] } }, cmd, by decide +kernel⟩,
   ⟨on fun d => ({ d with prov := { d.prov with staged := some [] } }.setB F.VP_SAFE_STAGE.CRC_DONE true).set F.VP_SAFE_CRC_C.CRC 1, cmd, by dsimp only; decide +kernel⟩,
   ⟨on fun d => { d with prov := { d.prov with staged := some [] } }.setB F.VP_SAFE_STAGE.CRC_DONE true, { cmd with p := [2, 0, 0, 0, 1] }, by dsimp only; decide +kernel⟩⟩

/-- Inputs that meet the hypotheses of IncidentOpens. -/
theorem test_wit_incident_opens :
    (∃ (d : Dev) (cls : Nat), cls ≤ 5 ∧ d.bit F.REG_INC.RUNNING = false ∧ 2 ≤ cls)
    ∧ (∃ (d : Dev) (cls : Nat), cls ≤ 5 ∧ d.bit F.REG_INC.RUNNING = false ∧ cls < 2)
    ∧ (∃ (d : Dev) (cls : Nat), cls ≤ 5 ∧ d.bit F.REG_INC.RUNNING = true) :=
  ⟨⟨live, 2, by decide +kernel⟩,
   ⟨live, 1, by decide +kernel⟩,
   ⟨(live.setB F.REG_INC.RUNNING true), 5, by decide +kernel⟩⟩

end Sys2Proof.Tests
end

section
/-! SUPPORT. How a command's rejection is brought about: what its effect beat, its log entry and its completion leave of the device state and of the
main domain, that its completion is recorded, and the outcome of a command that the device state does not permit (R122, R128, R130, R131). -/

namespace Sys2Proof.Machine

/-- What every pass of a fold keeps, the whole fold keeps. -/
theorem each_keeps {α β : Type} (p : Dev → β) {g : Dev → α → Dev} (h : ∀ d x, p (g d x) = p d) (l : List α) (d : Dev) :
    p (d.each l g) = p d := by
  unfold Dev.each
  induction l generalizing d with
  | nil => rfl
  | cons x r ih => rw [List.foldl_cons, ih, h]

/-! The device state (GLB_STATE.DEVICE) -/

theorem st_set_apart (d : Dev) {f : Fld} (h : F.GLB_STATE.DEVICE.apart f = true) (v a b c : Nat) : (d.set f v a b c).st = d.st :=
  Dev.get_set_apart d h v (by decide) (by decide) (by decide)

@[simp] theorem st_writeBack (d : Dev) (r : Nat) : (d.writeBack r).st = d.st := rfl

@[simp] theorem st_elapse (d : Dev) (n : Nat) : (d.elapse n).st = d.st := elapse_get d n (by decide) (by decide) (by decide) (by decide)

@[simp] theorem st_pendSync (d : Dev) : d.pendSync.st = d.st :=
  (each_keeps Dev.st (fun d _ => st_set_apart d (by decide) ..) _ _).trans (st_set_apart d (by decide) ..)

@[simp] theorem st_anchorPut (d : Dev) (a : Anchor) : (d.anchorPut a).st = d.st := by
  unfold Dev.anchorPut
  split
  · exact st_set_apart _ (by decide) ..
  · exact st_set_apart _ (by decide) ..

@[simp] theorem st_anchorFlush (d : Dev) : d.anchorFlush.st = d.st := by
  unfold Dev.anchorFlush
  split
  · split
    · exact st_anchorPut ..
    · rfl
  · rfl

@[simp] theorem st_anchored (d : Dev) : d.anchored.st = d.st := rfl

@[simp] theorem st_anchor (d : Dev) (type : Nat) : (d.anchor type).st = d.st := by simp [Dev.anchor]

@[simp] theorem st_lpddrTouch (d : Dev) : d.lpddrTouch.st = d.st := by unfold Dev.lpddrTouch; split <;> rfl

@[simp] theorem st_logFree (d : Dev) : d.logFree.st = d.st := st_set_apart d (by decide) ..

@[simp] theorem st_log (d : Dev) (kind : Nat) (o : Orig) (object aux old new r x : Nat) : (d.log kind o object aux old new r x).st = d.st := by
  have head : ∀ (e : Dev) (n : Nat), (e.set F.VP_LOG_HEAD.SEQ n).st = e.st := fun e n => st_set_apart e (by decide) ..
  simp only [Dev.log, apply_ite Dev.st, st_anchor, st_lpddrTouch, st_logFree, head, ite_self]
  rfl

@[simp] theorem st_ringPush (d : Dev) (r : Nat) : (d.ringPush r).st = d.st :=
  (st_set_apart _ (by decide) ..).trans (st_set_apart d (by decide) ..)

@[simp] theorem st_msix (d : Dev) (f v : Nat) : (d.msix f v).st = d.st := by
  simp only [Dev.msix]
  repeat' split
  all_goals rfl

@[simp] theorem st_complete (d : Dev) (x : Completion) : (d.complete x).st = d.st := by
  simp only [Dev.complete]
  split
  · split
    · exact (st_msix ..).trans ((st_writeBack _ (16 + x.q)).trans (st_ringPush ..))
    · exact (st_writeBack _ (16 + x.q)).trans (st_ringPush ..)
  · exact st_set_apart _ (by decide) ..

@[simp] theorem st_finish (d : Dev) (op : Nat) (c : HostCmd) (old status reason result : Nat) (logged : Bool) :
    (d.finish op c old status reason result logged).st = d.st := by
  cases logged <;> simp [Dev.finish]

/-! The main domain -/

/-- Operations that leave the calm part alone leave the main domain running, or not. -/
theorem live_of_calm {d e : Dev} (h : e.calm = d.calm) : e.live = d.live := by
  have hp : e.pwr.still = d.pwr.still := congrArg Calm.pwr h
  have hm : e.pwr.main = d.pwr.main :=
    calc e.pwr.main = e.pwr.still.main := rfl
      _ = d.pwr.still.main := by rw [hp]
      _ = d.pwr.main := rfl
  rw [Dev.live, Dev.live, hm]

@[simp] theorem calm_finish (d : Dev) (op : Nat) (c : HostCmd) (old status reason result : Nat) (logged : Bool) :
    (d.finish op c old status reason result logged).calm = d.calm := by
  cases logged <;> simp [Dev.finish]

@[simp] theorem live_finish (d : Dev) (op : Nat) (c : HostCmd) (old status reason result : Nat) (logged : Bool) :
    (d.finish op c old status reason result logged).live = d.live := live_of_calm (calm_finish ..)

/-! The completion record (R131) -/

/-- A cause for a vector takes back nothing that was put out. -/
theorem mem_msix_out {d : Dev} {o : Out} (h : o ∈ d.out) (f v : Nat) : o ∈ (d.msix f v).out := by
  simp only [Dev.msix]
  repeat' split
  all_goals simp [Dev.emit, h]

/-- A record put out stands there after its ring's index has moved and been written back. -/
theorem mem_push_out (d : Dev) (o : Out) (r : Nat) : o ∈ (((d.emit o).ringPush r).writeBack r).out := by
  simp [Dev.writeBack, Dev.ringPush, Dev.inc, Dev.emit]

/-- R131, R144: a completion is written to its ring or held. -/
theorem complete_recorded (d : Dev) (x : Completion) :
    (∃ r slot phase, Out.completion r slot phase x ∈ (d.complete x).out) ∨ { x with held := true } ∈ (d.complete x).rings.held := by
  simp only [Dev.complete]
  split
  · left
    refine ⟨16 + x.q, d.get F.xQ_PROD.INDEX (16 + x.q) % d.ringSize (16 + x.q), d.ringPhase (16 + x.q) (d.get F.xQ_PROD.INDEX (16 + x.q)), ?_⟩
    split
    · refine mem_msix_out ?_ ..
      exact mem_push_out ..
    · exact mem_push_out ..
  · right
    simp [Dev.inc]

theorem completed_finish (d : Dev) (op : Nat) (c : HostCmd) (old status reason result : Nat) (logged : Bool) :
    Completed (d.finish op c old status reason result logged) op status c :=
  ⟨⟨c.q, c.tag, c.index, op, status, false, c.beat, reason, result, c.noIrq⟩, rfl, rfl, rfl, rfl, complete_recorded ..⟩

/-! The effect beat (R128) -/

@[simp] theorem pendSync_pwr (d : Dev) : d.pendSync.pwr = d.pwr := by
  simp [Dev.pendSync, each_keeps Dev.pwr]

@[simp] theorem pendSync_arr (d : Dev) : d.pendSync.arr = d.arr := by
  simp [Dev.pendSync, each_keeps Dev.arr]

@[simp] theorem pendSync_out (d : Dev) : d.pendSync.out = d.out := by
  simp [Dev.pendSync, each_keeps Dev.out]

@[simp] theorem elapse_bootFailed (d : Dev) (n : Nat) : (d.elapse n).pwr.bootFailed = d.pwr.bootFailed := by
  simp only [Dev.elapse]; split <;> split <;> simp [Dev.inc]

@[simp] theorem elapse_testEn (d : Dev) (n : Nat) : (d.elapse n).pwr.testEn = d.pwr.testEn := by
  simp only [Dev.elapse]; split <;> split <;> simp [Dev.inc]

@[simp] theorem atBeat_st (d : Dev) (op : Nat) (c : HostCmd) : (d.atBeat op c).st = d.st :=
  (st_pendSync _).trans (st_elapse ..)

@[simp] theorem atBeat_live (d : Dev) (op : Nat) (c : HostCmd) : (d.atBeat op c).live = d.live := by
  simp [Dev.atBeat, Dev.until, Dev.live]

/-- What an opcode's permission rests on does not change on the way to its effect beat. -/
@[simp] theorem atBeat_permits (d : Dev) (op : Nat) (c : HostCmd) (op' : Nat) : (d.atBeat op c).permits op' = d.permits op' := by
  have hboot : (d.atBeat op c).pwr.bootFailed = d.pwr.bootFailed := by simp [Dev.atBeat, Dev.until]
  have htest : (d.atBeat op c).pwr.testEn = d.pwr.testEn := by simp [Dev.atBeat, Dev.until]
  have harr : (d.atBeat op c).arr = d.arr := by simp [Dev.atBeat, Dev.until]
  simp only [Dev.permits, Dev.energy, atBeat_st, hboot, htest, harr]

/-- R128: the block at the effect beat, with what was put out before the command. -/
theorem pendSync_atBeat (d : Dev) (op : Nat) (c : HostCmd) :
    ({ d.until (c.beat * 1024) with
      rings := { (d.until (c.beat * 1024)).rings with pend := (d.until (c.beat * 1024)).rings.pend.erase ⟨op, c⟩ } }).pendSync
      = { d.atBeat op c with out := d.out } := by
  have hout : d.out = (d.until (c.beat * 1024)).out := (elapse_out ..).symm
  rw [hout, ← pendSync_out]
  rfl

/-- R122, R130: a command that the device state does not permit, and that no reaction supersedes, is completed at its effect beat as REJECTED_STATE
(reason 0x0A, with the state) and has no other effect. -/
theorem command_notPermitted {d : Dev} {op : Nat} {c : HostCmd} (hb : d.beat ≤ c.beat) (hy : yields op = false) (hp : d.permits op = false)
    (g : Dev → Dev × Verdict) :
    d.command op c g = (({ d.atBeat op c with out := d.out }).finish op c d.st 4 (0x0A + d.st * 256) 0, false) := by
  have hst : ({ d.atBeat op c with out := d.out } : Dev).st = d.st := atBeat_st d op c
  have hperm : ({ d.atBeat op c with out := d.out } : Dev).permits op = false := (atBeat_permits d op c op).trans hp
  simp only [Dev.command, Nat.not_lt.mpr hb, hy, pendSync_atBeat, hst, hperm, Bool.false_and, Bool.not_false, Bool.false_eq_true, if_false, if_true]

/-! DEVICE_RESET (R87) -/

/-- R87: with energy in the module (PRECHARGE, RUN, STOP) the device state does not permit DEVICE_RESET; nor does a failed boot (R89). -/
theorem deviceReset_notPermitted {d : Dev} (h : d.energy = true) : d.permits 0x11 = false := by
  unfold Dev.permits
  split
  · rfl
  · simp [h]

theorem energy_iff (d : Dev) : d.energy = true ↔ d.st = PRECHARGE ∨ d.st = RUN ∨ d.st = STOP := by
  simp [Dev.energy, or_assoc]

theorem exec_deviceReset (c : HostCmd) (s : State) : exec (.deviceReset c) s = execDeviceReset c s := rfl

/-- Settles O44: the state does not permit the command, so the main domain is not held, and the rejection's log entry and completion leave it and the
device state as they are. -/
theorem deviceResetRefused : Obligations.DeviceResetRefused := by
  intro s c hl hb hst
  have hp : s.dev.permits 0x11 = false := deviceReset_notPermitted ((energy_iff _).mpr hst)
  refine leaves_main (exec_deviceReset c s) hl ?_
  rw [command_notPermitted hb (by decide) hp]
  exact ⟨completed_finish .., (live_finish ..).trans ((atBeat_live s.dev 0x11 c).trans hl), (st_finish ..).trans (atBeat_st s.dev 0x11 c)⟩

end Sys2Proof.Machine
end

section
/-! SUPPORT. What the way to the effect beat leaves of the registers and of the staged image, and the outcome of a command that its own check refuses
(R128, R130); the checks of a CONFIRM (R153). -/

namespace Sys2Proof.Machine

/-! The effect beat (R128) -/

@[simp] theorem pendSync_prov (d : Dev) : d.pendSync.prov = d.prov := by
  simp [Dev.pendSync, each_keeps Dev.prov]

@[simp] theorem atBeat_prov (d : Dev) (op : Nat) (c : HostCmd) : (d.atBeat op c).prov = d.prov := by
  simp [Dev.atBeat, Dev.until]

theorem pendSync_get (d : Dev) {g : Fld} (hn : g.apart F.RING_PENDING.COUNT = true) (hq : g.apart F.xQ_STATUS.PENDING = true) {a b c : Nat}
    (ha : a < g.n1) (hb : b < g.n2) (hc : c < g.n3) : d.pendSync.get g a b c = d.get g a b c :=
  (each_keeps (·.get g a b c) (fun d _ => Dev.get_set_apart d hq _ ha hb hc) _ _).trans (Dev.get_set_apart d hn _ ha hb hc)

/-- On the way to its effect beat a command moves no register but RSV_TIME.COUNT, which follows time, and the counts of pending commands. -/
theorem atBeat_get (d : Dev) (op : Nat) (x : HostCmd) {g : Fld} (ht : g.apart F.RSV_TIME.COUNT = true) (hn : g.apart F.RING_PENDING.COUNT = true)
    (hq : g.apart F.xQ_STATUS.PENDING = true) {a b c : Nat} (ha : a < g.n1 := by decide) (hb : b < g.n2 := by decide) (hc : c < g.n3 := by decide) :
    (d.atBeat op x).get g a b c = d.get g a b c :=
  (pendSync_get _ hn hq ha hb hc).trans (elapse_get d _ ht ha hb hc)

@[simp] theorem atBeat_inForce (d : Dev) (op : Nat) (c : HostCmd) : (d.atBeat op c).inForce = d.inForce := by
  have hrun : (d.atBeat op c).get F.REG_INC.RUNNING = d.get F.REG_INC.RUNNING := atBeat_get d op c (by decide) (by decide) (by decide)
  have hcls : (d.atBeat op c).get F.REG_INC.CLASS = d.get F.REG_INC.CLASS := atBeat_get d op c (by decide) (by decide) (by decide)
  rw [Dev.inForce, Dev.inForce, Dev.bit, Dev.bit, hrun, hcls]

/-! A command refused by its own check (R130) -/

/-- R130: a command that its own check refuses leaves what the check has made of the block at the effect beat, and is completed as REJECTED_INVALID,
reason 0x0C, with the detail code. (A LOG_ACK is apart: R324.) -/
theorem command_failed {s : State} {op : Nat} {c : HostCmd} (h : Ready op c s) (hop : op ≠ 0x71) {g : Dev → Dev × Verdict} {x : Dev} {k : Nat}
    (hg : g (s.dev.atBeat op c) = (x, .failed k)) :
    s.dev.command op c g = (({ x with out := x.out ++ s.dev.out } : Dev).finish op c s.dev.st 2 (0x0C + k * 256) 0, false) := by
  obtain ⟨-, hperm, hbeat, hforce⟩ := h
  have hst : ({ s.dev.atBeat op c with out := s.dev.out } : Dev).st = s.dev.st := atBeat_st s.dev op c
  have hp : ({ s.dev.atBeat op c with out := s.dev.out } : Dev).permits op = true := (atBeat_permits s.dev op c op).trans hperm
  have hy : (yields op && ({ s.dev.atBeat op c with out := s.dev.out } : Dev).inForce) = false := by
    have hin : ({ s.dev.atBeat op c with out := s.dev.out } : Dev).inForce = s.dev.inForce := atBeat_inForce s.dev op c
    cases hyl : yields op with
    | false => rfl
    | true => rw [hin, hforce hyl, Bool.and_false]
  have heta : ({ s.dev.atBeat op c with out := [] } : Dev) = s.dev.atBeat op c := rfl
  simp only [Dev.command, Nat.not_lt.mpr hbeat, pendSync_atBeat, hst, hp, hy, hop, heta, hg, Dev.failing, Bool.not_true, Bool.false_eq_true, if_false]

theorem failed_finish (d : Dev) (op : Nat) (c : HostCmd) (old k result : Nat) (logged : Bool) :
    Failed (d.finish op c old 2 (0x0C + k * 256) result logged) op k c :=
  ⟨⟨c.q, c.tag, c.index, op, 2, false, c.beat, 0x0C + k * 256, result, c.noIrq⟩, rfl, rfl, rfl, rfl, by rw [Nat.mul_comm], complete_recorded ..⟩

/-! The staged image -/

/-- Operations that leave the calm part alone leave the staged image as it is. -/
theorem staged_of_calm {d e : Dev} (h : e.calm = d.calm) : e.prov.staged = d.prov.staged := by
  have hp : e.prov.still = d.prov.still := congrArg Calm.prov h
  calc e.prov.staged = e.prov.still.staged := rfl
    _ = d.prov.still.staged := by rw [hp]
    _ = d.prov.staged := rfl

@[simp] theorem staged_finish (d : Dev) (op : Nat) (c : HostCmd) (old status reason result : Nat) (logged : Bool) :
    (d.finish op c old status reason result logged).prov.staged = d.prov.staged := staged_of_calm (calm_finish ..)

theorem atBeat_staged (d : Dev) (op : Nat) (c : HostCmd) : (d.atBeat op c).prov.staged = d.prov.staged := congrArg Prov.staged (atBeat_prov d op c)

/-! The checks of a CONFIRM, in order (R153) -/

theorem safetyConfirm_notStaged {d : Dev} (hs : d.prov.staged = none) (c : HostCmd) : d.safetyConfirm c = (d, .failed 1) := by
  simp only [Dev.safetyConfirm, hs]

theorem safetyConfirm_notDone {d : Dev} (hs : d.prov.staged ≠ none) (hd : d.bit F.VP_SAFE_STAGE.CRC_DONE = false) (c : HostCmd) :
    d.safetyConfirm c = (d, .failed 2) := by
  obtain ⟨b, hb⟩ := Option.ne_none_iff_exists'.mp hs
  simp only [Dev.safetyConfirm, hb, hd, Bool.not_false, if_true]

theorem safetyConfirm_crcsDiffer {d : Dev} (hs : d.prov.staged ≠ none) (hd : d.bit F.VP_SAFE_STAGE.CRC_DONE = true)
    (hne : d.get F.VP_SAFE_CRC_C.CRC ≠ d.get F.VP_SAFE_CRC_D.CRC) (c : HostCmd) : d.safetyConfirm c = (d, .failed 3) := by
  obtain ⟨b, hb⟩ := Option.ne_none_iff_exists'.mp hs
  simp only [Dev.safetyConfirm, hb, hd, if_pos hne, Bool.not_true, Bool.false_eq_true, if_false]

theorem safetyConfirm_wrongCrc {d : Dev} (hs : d.prov.staged ≠ none) (hd : d.bit F.VP_SAFE_STAGE.CRC_DONE = true)
    (he : d.get F.VP_SAFE_CRC_C.CRC = d.get F.VP_SAFE_CRC_D.CRC) {c : HostCmd} (hp : arg c 4 ≠ d.get F.VP_SAFE_CRC_C.CRC) :
    d.safetyConfirm c = (d, .failed 4) := by
  obtain ⟨b, hb⟩ := Option.ne_none_iff_exists'.mp hs
  simp only [Dev.safetyConfirm, hb, hd, if_neg (not_not_intro he), if_pos hp, Bool.not_true, Bool.false_eq_true, if_false]

theorem exec_safetyCommitConfirm (c : HostCmd) (s : State) : exec (.safetyCommitConfirm c) s = execSafetyCommitConfirm c s := rfl

/-- R153: a CONFIRM whose check fails at the effect beat completes with the check's detail, and what is staged stays. -/
theorem confirm_leaves_failed {s : State} {c : HostCmd} (h : Ready 0x24 c s) {k : Nat}
    (hv : (s.dev.atBeat 0x24 c).safetyConfirm c = (s.dev.atBeat 0x24 c, .failed k)) :
    Leaves (.safetyCommitConfirm c) s fun e => Failed e 0x24 k c ∧ e.prov.staged = s.dev.prov.staged := by
  have hlive : s.dev.live = true := h.1
  refine leaves_main (exec_safetyCommitConfirm c s) hlive ?_
  rw [command_failed h (by decide) hv]
  exact ⟨failed_finish .., (staged_finish ..).trans (atBeat_staged s.dev 0x24 c)⟩

/-- Settles O45: the staged image and the two CRCs stand at the effect beat as they stood before, so that the check that fails there is the one named. -/
theorem confirmRefused : Obligations.ConfirmRefused := by
  intro s c h same no
  have hs : (s.dev.atBeat 0x24 c).prov.staged = s.dev.prov.staged := atBeat_staged ..
  have hd : (s.dev.atBeat 0x24 c).bit F.VP_SAFE_STAGE.CRC_DONE = s.dev.bit F.VP_SAFE_STAGE.CRC_DONE :=
    congrArg (· == 1) (atBeat_get s.dev 0x24 c (by decide) (by decide) (by decide))
  have hx : (s.dev.atBeat 0x24 c).get F.VP_SAFE_CRC_C.CRC = s.dev.get F.VP_SAFE_CRC_C.CRC :=
    atBeat_get s.dev 0x24 c (by decide) (by decide) (by decide)
  have hy : (s.dev.atBeat 0x24 c).get F.VP_SAFE_CRC_D.CRC = s.dev.get F.VP_SAFE_CRC_D.CRC :=
    atBeat_get s.dev 0x24 c (by decide) (by decide) (by decide)
  refine ⟨fun unstaged => ?_, fun staged undone => ?_, fun staged done differ => ?_, fun staged done agree wrong => ?_⟩
  · exact confirm_leaves_failed h (safetyConfirm_notStaged (hs.trans unstaged) c)
  · exact confirm_leaves_failed h (safetyConfirm_notDone (hs ▸ staged) (hd.trans undone) c)
  · exact confirm_leaves_failed h (safetyConfirm_crcsDiffer (hs ▸ staged) (hd.trans done) (by rwa [hx, hy]) c)
  · exact confirm_leaves_failed h (safetyConfirm_wrongCrc (hs ▸ staged) (hd.trans done) (by rwa [hx, hy]) (by rwa [hx]))

end Sys2Proof.Machine
end

section
/-! SUPPORT. What an event makes of the incident: it merges into the one that runs, opens one, or leaves the Registrar as it is (R482, R483). -/

namespace Sys2Proof.Machine

/-- R483: the merge of a tick's earlier events moves no register but REG_MERGED. -/
theorem earlyMerge_get (d : Dev) {g : Fld} (h : g.apart F.REG_MERGED.COUNT = true) {a b c : Nat} (ha : a < g.n1) (hb : b < g.n2) (hc : c < g.n3) :
    d.earlyMerge.get g a b c = d.get g a b c := Dev.get_set_apart d h _ ha hb hc

/-- What a field reads in both outcomes of a choice, it reads after the choice. -/
theorem get_ite {p : Prop} [Decidable p] {x y : Dev} {g : Fld} {a b c v : Nat} (hx : x.get g a b c = v) (hy : y.get g a b c = v) :
    (if p then x else y).get g a b c = v := by
  split
  · exact hx
  · exact hy

/-! An event while an incident runs -/

theorem incidentTake_merges {d : Dev} (hr : d.bit F.REG_INC.RUNNING = true) (src cls obj : Nat) :
    (d.incidentTake src cls obj).2 = (true, false) := by
  simp only [Dev.incidentTake, hr, if_true]

/-- R483: an event that merges moves no register but REG_MERGED and the class of the incident. -/
theorem incidentTake_merge_get {d : Dev} (hr : d.bit F.REG_INC.RUNNING = true) (src cls obj : Nat) {g : Fld}
    (hm : g.apart F.REG_MERGED.COUNT = true) (hk : g.apart F.REG_INC.CLASS = true) {a b c : Nat} (ha : a < g.n1) (hb : b < g.n2) (hc : c < g.n3) :
    (d.incidentTake src cls obj).1.get g a b c = d.get g a b c := by
  have counted : (d.inc F.REG_MERGED.COUNT 1).get g a b c = d.get g a b c := Dev.get_set_apart d hm _ ha hb hc
  rw [Dev.incidentTake, if_pos hr]
  exact get_ite ((Dev.get_set_apart _ hk _ ha hb hc).trans counted) counted

/-! An event with no incident running -/

/-- R482: an event of class C0 or C1 opens no incident. -/
theorem incidentTake_low {d : Dev} (hr : d.bit F.REG_INC.RUNNING = false) {cls : Nat} (h : cls < 2) (src obj : Nat) :
    d.incidentTake src cls obj = (d, false, false) := by
  simp only [Dev.incidentTake, hr, Nat.not_le.mpr h, Bool.false_eq_true, if_false]

theorem incidentTake_opens {d : Dev} (hr : d.bit F.REG_INC.RUNNING = false) {cls : Nat} (h : 2 ≤ cls) (src obj : Nat) :
    (d.incidentTake src cls obj).2 = (false, true) := by
  simp only [Dev.incidentTake, hr, h, Bool.false_eq_true, if_false, if_true]

/-- R482: an event that opens an incident advances its number, then sets its class and RUNNING; beside these it moves no register but the source and the
tick of the opening, and REG_MERGED. -/
theorem incidentTake_open_get {d : Dev} (hr : d.bit F.REG_INC.RUNNING = false) {cls : Nat} (h : 2 ≤ cls) (src obj : Nat) {g : Fld}
    (ho : g.apart F.REG_INC.OPEN_SRC = true) (ht : g.apart F.REG_INC_TICK.TICK = true) (hm : g.apart F.REG_MERGED.COUNT = true) {a b c : Nat}
    (ha : a < g.n1) (hb : b < g.n2) (hc : c < g.n3) :
    (d.incidentTake src cls obj).1.get g a b c
      = (((d.inc F.REG_INC_NUM.NUM 1).set F.REG_INC.CLASS cls).setB F.REG_INC.RUNNING true).get g a b c := by
  simp only [Dev.incidentTake, hr, h, Bool.false_eq_true, if_false, if_true]
  exact (earlyMerge_get _ hm ha hb hc).trans ((Dev.get_set_apart _ ht _ ha hb hc).trans (Dev.get_set_apart _ ho _ ha hb hc))

theorem incidentTake_open_running {d : Dev} (hr : d.bit F.REG_INC.RUNNING = false) {cls : Nat} (h : 2 ≤ cls) (src obj : Nat) :
    (d.incidentTake src cls obj).1.bit F.REG_INC.RUNNING = true := by
  rw [Dev.bit, incidentTake_open_get hr h src obj (by decide) (by decide) (by decide) (by decide) (by decide) (by decide), Dev.setB,
    Dev.get_set_same _ _ _ (by decide)]
  rfl

theorem incidentTake_open_class {d : Dev} (hr : d.bit F.REG_INC.RUNNING = false) {cls : Nat} (h : 2 ≤ cls) (h5 : cls ≤ 5) (src obj : Nat) :
    (d.incidentTake src cls obj).1.get F.REG_INC.CLASS = cls := by
  have fits : cls % 2 ^ F.REG_INC.CLASS.w = cls := Nat.mod_eq_of_lt (Nat.lt_of_le_of_lt h5 (by decide))
  rw [incidentTake_open_get hr h src obj (by decide) (by decide) (by decide) (by decide) (by decide) (by decide), Dev.setB,
    Dev.get_set_apart _ (by decide) _ (by decide) (by decide) (by decide), Dev.get_set_same _ _ _ (by decide), fits]

theorem incidentTake_open_number {d : Dev} (hr : d.bit F.REG_INC.RUNNING = false) {cls : Nat} (h : 2 ≤ cls) (src obj : Nat) :
    (d.incidentTake src cls obj).1.get F.REG_INC_NUM.NUM = (d.get F.REG_INC_NUM.NUM + 1) % 2 ^ 32 := by
  rw [incidentTake_open_get hr h src obj (by decide) (by decide) (by decide) (by decide) (by decide) (by decide), Dev.setB,
    Dev.get_set_apart _ (by decide) _ (by decide) (by decide) (by decide), Dev.get_set_apart _ (by decide) _ (by decide) (by decide) (by decide),
    Dev.inc, Dev.get_set_same _ _ _ (by decide)]
  rfl

/-- Settles O46: the registers of the incident and REG_INC_NUM are apart from all else that opening or merging writes, and a class up to C5 fits its
field. -/
theorem incidentOpens : Obligations.IncidentOpens := by
  intro d src cls obj h5
  refine ⟨fun hr h2 => ⟨?_, ?_, ?_, ?_⟩, fun hr h1 => ?_, fun hr => ⟨?_, ?_⟩⟩
  · exact incidentTake_open_running hr h2 src obj
  · exact incidentTake_open_class hr h2 h5 src obj
  · exact incidentTake_open_number hr h2 src obj
  · exact incidentTake_opens hr h2 src obj
  · exact incidentTake_low hr h1 src obj
  · exact incidentTake_merge_get hr src cls obj (by decide) (by decide) (by decide) (by decide) (by decide)
  · exact incidentTake_merges hr src cls obj

end Sys2Proof.Machine
end

section
/-! SUPPORT. The end of a step establishes the invariant, and every command ends its step: what the operations that close a step leave of the
Registrar's active conditions, what each of them shows, and the outcome of every command. -/

namespace Sys2Proof.Machine

set_option Elab.async false

/-! The active conditions (R477): only the beginning and the end of a lasting condition move them. -/

@[simp] theorem active_setB (d : Dev) (f : Fld) (v : Bool) (a b c : Nat) : (d.setB f v a b c).reg.active = d.reg.active := by simp [Dev.setB]

@[simp] theorem active_inc (d : Dev) (f : Fld) (n a b c : Nat) : (d.inc f n a b c).reg.active = d.reg.active := by simp [Dev.inc]

@[simp] theorem active_setFlag (d : Dev) (f : Fld) (i : Nat) (v : Bool) : (d.setFlag f i v).reg.active = d.reg.active := by simp [Dev.setFlag]

@[simp] theorem active_cond {d : Dev} (b : Bool) {g : Dev → Dev} (h : (g d).reg.active = d.reg.active) : (d.cond b g).reg.active = d.reg.active := by
  unfold Dev.cond; split
  · exact h
  · rfl

theorem active_each {α : Type} {g : Dev → α → Dev} (h : ∀ d x, (g d x).reg.active = d.reg.active) (l : List α) (d : Dev) :
    (d.each l g).reg.active = d.reg.active := each_keeps (fun d => d.reg.active) h l d

@[simp] theorem active_anchorPut (d : Dev) (a : Anchor) : (d.anchorPut a).reg.active = d.reg.active := by
  unfold Dev.anchorPut; split <;> simp

@[simp] theorem active_anchorFlush (d : Dev) : d.anchorFlush.reg.active = d.reg.active := by
  unfold Dev.anchorFlush
  split
  · split
    · simp
    · rfl
  · rfl

@[simp] theorem active_anchor (d : Dev) (t : Nat) : (d.anchor t).reg.active = d.reg.active := by simp [Dev.anchor, Dev.anchored]

@[simp] theorem active_lpddrTouch (d : Dev) : d.lpddrTouch.reg.active = d.reg.active := by unfold Dev.lpddrTouch; split <;> rfl

@[simp] theorem active_log (d : Dev) (kind : Nat) (o : Orig) (object aux old new r x : Nat) :
    (d.log kind o object aux old new r x).reg.active = d.reg.active := by
  simp only [Dev.log, Dev.logFree]
  split <;> simp

@[simp] theorem active_msix (d : Dev) (f v : Nat) : (d.msix f v).reg.active = d.reg.active := by
  simp only [Dev.msix]
  repeat' split
  all_goals rfl

@[simp] theorem active_ringPush (d : Dev) (r : Nat) : (d.ringPush r).reg.active = d.reg.active := by simp [Dev.ringPush]

@[simp] theorem active_writeBack (d : Dev) (r : Nat) : (d.writeBack r).reg.active = d.reg.active := rfl

@[simp] theorem active_evWrite (d : Dev) (e : Nat) (x : Event) : (d.evWrite e x).reg.active = d.reg.active := by
  simp only [Dev.evWrite]
  split <;> simp [Dev.emit]

@[simp] theorem active_evPut (d : Dev) (e : Nat) (x : Event) : (d.evPut e x).reg.active = d.reg.active := by
  simp only [Dev.evPut]
  repeat' split
  all_goals simp

@[simp] theorem active_loanSync (d : Dev) : d.loanSync.reg.active = d.reg.active := by simp [Dev.loanSync]

@[simp] theorem active_waitSync (d : Dev) : d.waitSync.reg.active = d.reg.active := active_each (fun _ _ => by simp) _ _

@[simp] theorem active_loanReturn (d : Dev) (op inst : Nat) : (d.loanReturn op inst).reg.active = d.reg.active := by
  simp only [Dev.loanReturn, Dev.loanLog]
  split <;> simp

@[simp] theorem active_loanDrop (d : Dev) (op inst : Nat) : (d.loanDrop op inst).reg.active = d.reg.active := by
  simp only [Dev.loanDrop]
  split <;> simp

@[simp] theorem active_loanEnd (d : Dev) (op : Nat) : (d.loanEnd op).reg.active = d.reg.active :=
  (active_each (fun _ _ => active_loanDrop ..) _ _).trans (active_each (fun _ _ => active_loanReturn ..) _ _)

@[simp] theorem active_pllDrop (d : Dev) (p u : Nat) : (d.pllDrop p u).reg.active = d.reg.active := by
  simp only [Dev.pllDrop]
  split <;> simp

@[simp] theorem active_arcMark (d : Dev) (ty fl ob aux : Nat) (body : List Int) (len : Nat) : (d.arcMark ty fl ob aux body len).reg.active = d.reg.active := by
  simp only [Dev.arcMark]
  repeat' split
  all_goals simp

@[simp] theorem active_arcTrigger (d : Dev) (cause aux : Nat) : (d.arcTrigger cause aux).reg.active = d.reg.active := by
  unfold Dev.arcTrigger; split <;> simp

@[simp] theorem active_arcStart (d : Dev) : d.arcStart.reg.active = d.reg.active := by simp [Dev.arcStart]

@[simp] theorem active_presetYc (d : Dev) (k : Nat) : (d.presetYc k).reg.active = d.reg.active := rfl

@[simp] theorem active_preset (d : Dev) (k y : Nat) : (d.preset k y).reg.active = d.reg.active := active_each (fun _ _ => by simp) _ _

@[simp] theorem active_stagedEntry (d : Dev) : d.stagedEntry.reg.active = d.reg.active := by
  have entry : (d.loopEntry false).reg.active = d.reg.active := by
    simp only [Dev.loopEntry]
    rw [active_each (fun _ _ => active_presetYc ..), active_each (fun _ _ => active_preset ..)]
  simp only [Dev.stagedEntry]
  split <;> simp [entry]

@[simp] theorem active_level (d : Dev) (c l : Nat) : (d.level c l).reg.active = d.reg.active := by
  simp only [Dev.level]
  repeat' split
  all_goals simp

@[simp] theorem active_loopSilence (d : Dev) : d.loopSilence.reg.active = d.reg.active := by simp [Dev.loopSilence]

@[simp] theorem active_sdoDrop (d : Dev) (c x : Bool) : (d.sdoDrop c x).reg.active = d.reg.active := by
  unfold Dev.sdoDrop; cases c <;> cases x <;> simp

@[simp] theorem active_setState (d : Dev) (s : Nat) (o : Orig) : (d.setState s o).reg.active = d.reg.active := by
  have proof : ∀ e : Dev, (e.each (List.range 32) fun d x => d.setB F.GD_STATUS.UNPROVEN (d.bit F.GD_CFG.BOOTSTRAP x && d.bit F.GD_CFG.DECLARED x) x).reg.active
      = e.reg.active := fun e => active_each (fun _ _ => by simp) _ _
  have brake : ∀ e : Dev, (e.each [24, 25] fun d c => d.level c 0).reg.active = e.reg.active := fun e => active_each (fun _ _ => by simp) _ _
  simp [Dev.setState, Dev.loopRate, apply_ite Dev.reg, apply_ite Reg.active, proof, brake]

@[simp] theorem active_softOffChan (d : Dev) (s c : Nat) : (d.softOffChan s c).reg.active = d.reg.active := by
  simp only [Dev.softOffChan, Dev.deadEnd]
  repeat' split
  all_goals simp

@[simp] theorem active_softOffs (d : Dev) (ss : List Nat) : (d.softOffs ss).reg.active = d.reg.active := by
  have chans : ∀ (e : Dev) l, (e.each l fun d c => d.softOffChan (d.stageOf c) c).reg.active = e.reg.active := fun e l => active_each (fun _ _ => by simp) _ _
  have held : ∀ (e : Dev) l, (e.each l fun d s => d.setB F.PWM_STAGE.HELD true s).reg.active = e.reg.active := fun e l => active_each (fun _ _ => by simp) _ _
  simp only [Dev.softOffs]
  split <;> simp [chans, held]

@[simp] theorem active_softOff (d : Dev) (s : Nat) : (d.softOff s).reg.active = d.reg.active := active_softOffs ..

@[simp] theorem active_grpLoanEnd (d : Dev) (g : Nat) : (d.grpLoanEnd g).reg.active = d.reg.active := by simp [Dev.grpLoanEnd]

@[simp] theorem active_grpStop (d : Dev) (g : Nat) : (d.grpStop g).reg.active = d.reg.active := by
  simp only [Dev.grpStop]
  repeat' split
  all_goals simp

@[simp] theorem active_grpPhasesOff (d : Dev) (g : Nat) : (d.grpPhasesOff g).reg.active = d.reg.active := by
  simp only [Dev.grpPhasesOff, Dev.set_reg]
  refine active_each (fun e k => ?_) _ _
  split <;> simp

@[simp] theorem active_grpFast (d : Dev) (g : Nat) : (d.grpFast g).reg.active = d.reg.active := by
  simp only [Dev.grpFast]
  split <;> simp

@[simp] theorem active_colStop (d : Dev) : d.colStop.reg.active = d.reg.active := by
  simp only [Dev.colStop]
  split <;> rfl

@[simp] theorem active_colHeld (d : Dev) : d.colHeld.reg.active = d.reg.active := by
  simp only [Dev.colHeld]
  split <;> simp

@[simp] theorem active_prePhase (d : Dev) (s ph : Nat) : (d.prePhase s ph).reg.active = d.reg.active := by simp [Dev.prePhase]

@[simp] theorem active_preEnd (d : Dev) : d.preEnd.reg.active = d.reg.active := by
  refine (active_each (fun e s => ?_) _ _).trans (active_loanEnd ..)
  rw [active_cond _ (active_prePhase ..), Dev.disarm_reg]

@[simp] theorem active_precharge0 (d : Dev) (o : Orig) : (d.precharge0 o).reg.active = d.reg.active := by simp [Dev.precharge0]

@[simp] theorem active_orderlyStop (d : Dev) (o : Orig) : (d.orderlyStop o).reg.active = d.reg.active := by
  simp only [Dev.orderlyStop]
  repeat' split
  all_goals simp

@[simp] theorem active_fastStop (d : Dev) (o : Orig) (h : Bool) : (d.fastStop o h).reg.active = d.reg.active := by
  simp only [Dev.fastStop]
  repeat' split
  all_goals simp

@[simp] theorem active_latchSet (d : Dev) (src obj : Nat) : (d.latchSet src obj).reg.active = d.reg.active := by
  simp only [Dev.latchSet]
  split <;> simp [Dev.free]

@[simp] theorem active_lockEnter (d : Dev) (o : Orig) : (d.lockEnter o).reg.active = d.reg.active := by simp [Dev.lockEnter]

@[simp] theorem active_lockTry (d : Dev) : d.lockTry.reg.active = d.reg.active := by
  unfold Dev.lockTry
  repeat' split
  all_goals simp

@[simp] theorem active_safeOff (d : Dev) (src obj : Nat) (o : Orig) : (d.safeOff src obj o).reg.active = d.reg.active := by
  simp only [Dev.safeOff]
  split <;> simp

@[simp] theorem active_incidentEnd (d : Dev) : d.incidentEnd.reg.active = d.reg.active := by
  unfold Dev.incidentEnd; split <;> simp

@[simp] theorem active_stopReached (d : Dev) : d.stopReached.reg.active = d.reg.active := by
  unfold Dev.stopReached; split <;> simp

@[simp] theorem active_aqEnter (d : Dev) (x : Event) (opened : Bool) : (d.aqEnter x opened).reg.active = d.reg.active := by
  simp only [Dev.aqEnter]
  split <;> simp

@[simp] theorem active_earlyMerge (d : Dev) : d.earlyMerge.reg.active = d.reg.active := by simp [Dev.earlyMerge]

@[simp] theorem active_earlyNote (d : Dev) (src obj : Nat) (i : Option Nat) : (d.earlyNote src obj i).reg.active = d.reg.active := by
  unfold Dev.earlyNote; split <;> rfl

@[simp] theorem active_incidentTake (d : Dev) (src cls obj : Nat) : (d.incidentTake src cls obj).1.reg.active = d.reg.active := by
  simp only [Dev.incidentTake]
  repeat' split
  all_goals simp

@[simp] theorem active_errSync (d : Dev) : d.errSync.reg.active = d.reg.active := by
  simp only [Dev.errSync]
  repeat' split
  all_goals simp

@[simp] theorem active_react (d : Dev) (src cls obj factor : Nat) : (d.react src cls obj factor).reg.active = d.reg.active := by
  simp only [Dev.react]
  repeat' split
  all_goals simp

@[simp] theorem active_latchOnly (d : Dev) (src cls obj : Nat) (data : List Nat) (i : Option Nat) (fo : Bool) :
    (d.latchOnly src cls obj data i fo).reg.active = d.reg.active := by
  have put : ∀ (e : Dev) l x, (e.each l fun d n => d.evPut n x).reg.active = e.reg.active := fun e l x => active_each (fun _ _ => by simp) _ _
  simp [Dev.latchOnly, apply_ite Dev.reg, apply_ite Reg.active, put]

@[simp] theorem active_latchEvent (d : Dev) (src cls obj : Nat) (data : List Nat) (i : Option Nat) (fo : Bool) (fac : Option Nat) :
    (d.latchEvent src cls obj data i fo fac).reg.active = d.reg.active := by simp [Dev.latchEvent]

@[simp] theorem active_conserve (d : Dev) (code n : Nat) : (d.conserve code n).reg.active = d.reg.active := by simp [Dev.conserve]

theorem mem_active_condOn (d : Dev) (src obj : Nat) : (src, obj) ∈ (d.condOn src obj).reg.active := by
  simp only [Dev.condOn, Dev.activeSync, active_setFlag, active_setB]
  split
  · exact List.contains_iff_mem.mp ‹_›
  · exact List.mem_cons_self

/-! Promise 3 (R322) -/

theorem activeSync_get (d : Dev) (src : Nat) {g : Fld} (hs : g.apart F.REG_SRC.ACTIVE = true) (hw : g.apart F.REG_RSW_ACTIVE.ACTIVE = true) {a b c : Nat}
    (ha : a < g.n1) (hb : b < g.n2) (hc : c < g.n3) : (d.activeSync src).get g a b c = d.get g a b c :=
  (Dev.get_set_apart _ hw _ ha hb hc).trans (Dev.get_set_apart _ hs _ ha hb hc)

theorem condOff_get (d : Dev) (src obj : Nat) {g : Fld} (hs : g.apart F.REG_SRC.ACTIVE = true) (hw : g.apart F.REG_RSW_ACTIVE.ACTIVE = true) {a b c : Nat}
    (ha : a < g.n1) (hb : b < g.n2) (hc : c < g.n3) : (d.condOff src obj).get g a b c = d.get g a b c := by
  unfold Dev.condOff
  split
  · exact activeSync_get _ src hs hw ha hb hc
  · rfl

/-- The sums of the two budgets agree with what they are taken from. -/
def Dev.loansAdd (d : Dev) : Prop :=
  d.get F.LOAN_CHIP_STATE.OUT + d.get F.LOAN_CHIP_STATE.AVAIL = d.get F.LOAN_CHIP.BUDGET
    ∧ d.get F.LOAN_SITE_STATE.OUT + d.get F.LOAN_SITE_STATE.AVAIL = d.get F.LOAN_SITE.BUDGET

/-- The sums rest on six registers. -/
theorem loansAdd_congr {d e : Dev} (h : ∀ f ∈ [F.LOAN_CHIP_STATE.OUT, F.LOAN_CHIP_STATE.AVAIL, F.LOAN_CHIP.BUDGET, F.LOAN_SITE_STATE.OUT,
    F.LOAN_SITE_STATE.AVAIL, F.LOAN_SITE.BUDGET], e.get f = d.get f) : e.loansAdd ↔ d.loansAdd := by
  simp only [List.forall_mem_cons, List.not_mem_nil, false_imp_iff, implies_true, and_true] at h
  obtain ⟨h1, h2, h3, h4, h5, h6⟩ := h
  simp only [Dev.loansAdd, h1, h2, h3, h4, h5, h6]

/-- R322, R323: the check of promise 3 finds the sums right, or leaves its failure an active condition. -/
theorem loansKept_loanCheck (d : Dev) : LoansKept d.loanCheck := by
  have sums : ∀ o a b : Nat, max b (o + a) - min b (o + a) = 0 → o + a = b := by omega
  simp only [Dev.loanCheck]
  split
  next h =>
    have add : d.loansAdd := ⟨sums _ _ _ (by omega), sums _ _ _ (by omega)⟩
    refine .inl ((loansAdd_congr ?_).mpr add)
    simp only [List.forall_mem_cons, List.not_mem_nil, false_imp_iff, implies_true, and_true]
    refine ⟨?_, ?_, ?_, ?_, ?_, ?_⟩ <;> exact condOff_get d 193 3 (by decide) (by decide) (by decide) (by decide) (by decide)
  next =>
    split
    next h => exact .inr (List.contains_iff_mem.mp h)
    next => exact .inr ((active_conserve ..).symm ▸ mem_active_condOn ..)

/-! The ERR pair and the array's mode (R489, R285) -/

/-- The ERR pair's update writes its three fields and no other. -/
theorem errSync_get (d : Dev) {g : Fld} (hc : g.apart F.REG_ERR.CAUSE = true) (hp : g.apart F.REG_ERR.P = true) (hn : g.apart F.REG_ERR.N = true)
    {a b c : Nat} (ha : a < g.n1) (hb : b < g.n2) (hc' : c < g.n3) : d.errSync.get g a b c = d.get g a b c := by
  have cause : ∀ v, (d.set F.REG_ERR.CAUSE v).get g a b c = d.get g a b c := fun v => Dev.get_set_apart d hc v ha hb hc'
  simp only [Dev.errSync]
  repeat' split
  · rfl
  · exact cause _
  · exact ((Dev.get_set_apart _ hn _ ha hb hc').trans (Dev.get_set_apart _ hp _ ha hb hc')).trans (cause _)

@[simp] theorem errSync_pwr (d : Dev) : d.errSync.pwr = d.pwr := by
  simp only [Dev.errSync]
  repeat' split
  all_goals simp [Dev.setB]

@[simp] theorem errSync_arr (d : Dev) : d.errSync.arr = d.arr := by
  simp only [Dev.errSync]
  repeat' split
  all_goals simp [Dev.setB]

/-- What the pair must show rests on the boot and on five registers. -/
theorem errCause_congr {d e : Dev} (hp : e.pwr.bootFailed = d.pwr.bootFailed) (h : ∀ f ∈ [F.REG_CTRL.ERR_CLASS, F.GLB_STATE.DEVICE, F.REG_INC.RUNNING, F.REG_INC.CLASS,
    F.REG_RSW.RSW], e.get f = d.get f) : e.errCause = d.errCause := by
  simp only [List.forall_mem_cons, List.not_mem_nil, false_imp_iff, implies_true, and_true] at h
  obtain ⟨h1, h2, h3, h4, h5⟩ := h
  have hst : e.st = d.st := h2
  have hrun : e.bit F.REG_INC.RUNNING = d.bit F.REG_INC.RUNNING := congrArg (· == 1) h3
  simp only [Dev.errCause, hp, hst, hrun, h1, h4, h5]

theorem errCause_errSync (d : Dev) : d.errSync.errCause = d.errCause := by
  refine errCause_congr (congrArg Pwr.bootFailed (errSync_pwr d)) ?_
  simp only [List.forall_mem_cons, List.not_mem_nil, false_imp_iff, implies_true, and_true]
  refine ⟨?_, ?_, ?_, ?_, ?_⟩ <;> exact errSync_get d (by decide) (by decide) (by decide) (by decide) (by decide) (by decide)

theorem errCause_le (d : Dev) : d.errCause ≤ 3 := by
  simp only [Dev.errCause]
  repeat' split
  all_goals omega

/-- R489: while a cause stands, the pair's update leaves N high, P low and that cause. -/
theorem errShown_errSync (d : Dev) : ErrShown d.errSync := by
  intro hne
  rw [errCause_errSync] at hne ⊢
  have fits : d.errCause % 2 ^ F.REG_ERR.CAUSE.w = d.errCause := Nat.mod_eq_of_lt (Nat.lt_of_le_of_lt (errCause_le d) (by decide))
  have cause : (d.set F.REG_ERR.CAUSE d.errCause).get F.REG_ERR.CAUSE = d.errCause := by rw [Dev.get_set_same _ _ _ (by decide), fits]
  simp only [Dev.errSync, if_neg hne]
  split
  next h =>
    simp only [Bool.and_eq_true, Bool.not_eq_true'] at h
    exact ⟨h.1, h.2, cause⟩
  next =>
    refine ⟨?_, ?_, ?_⟩
    · simp only [Dev.bit, Dev.arm_get]
      exact (congrArg (· == 1) (Dev.get_set_same _ F.REG_ERR.N _ (by decide))).trans (by decide)
    · simp only [Dev.bit, Dev.arm_get]
      refine (congrArg (· == 1) ((Dev.get_set_apart _ (f := F.REG_ERR.N) (by decide) _ (by decide) (by decide) (by decide)).trans
        (Dev.get_set_same _ F.REG_ERR.P _ (by decide)))).trans (by decide)
    · refine Eq.trans ?_ cause
      exact (Dev.get_set_apart _ (f := F.REG_ERR.N) (by decide) _ (by decide) (by decide) (by decide)).trans
        (Dev.get_set_apart _ (f := F.REG_ERR.P) (by decide) _ (by decide) (by decide) (by decide))

theorem arrMode_get (d : Dev) {g : Fld} (h : g.apart F.ARR_STATE.MODE = true) {a b c : Nat} (ha : a < g.n1) (hb : b < g.n2) (hc : c < g.n3) :
    d.arrMode.get g a b c = d.get g a b c := Dev.get_set_apart d h _ ha hb hc

theorem modeOf_arrMode (d : Dev) : modeOf d.arrMode = modeOf d := by
  have st : d.arrMode.st = d.st := arrMode_get d (by decide) (by decide) (by decide) (by decide)
  have arr : d.arrMode.arr = d.arr := Dev.set_arr ..
  simp only [modeOf, st, arr]

theorem modeOf_le (d : Dev) : modeOf d ≤ 5 := by
  simp only [modeOf]
  repeat' split
  all_goals omega

/-- R285: the mode shown is that of the device state. -/
theorem modeShown_arrMode (d : Dev) : ModeShown d.arrMode := by
  have fits : modeOf d % 2 ^ F.ARR_STATE.MODE.w = modeOf d := Nat.mod_eq_of_lt (Nat.lt_of_le_of_lt (modeOf_le d) (by decide))
  rw [ModeShown, modeOf_arrMode]
  exact (Dev.get_set_same _ _ _ (by decide)).trans fits

/-! The invariant -/

/-- Showing the mode moves nothing that the ERR pair rests on or shows. -/
theorem errShown_arrMode {d : Dev} (h : ErrShown d) : ErrShown d.arrMode := by
  have keep : ∀ {g : Fld}, g.apart F.ARR_STATE.MODE = true → 0 < g.n1 → 0 < g.n2 → 0 < g.n3 → d.arrMode.get g = d.get g :=
    fun hg h1 h2 h3 => arrMode_get d hg h1 h2 h3
  have hc : d.arrMode.errCause = d.errCause := by
    refine errCause_congr (congrArg Pwr.bootFailed (Dev.set_pwr ..)) ?_
    simp only [List.forall_mem_cons, List.not_mem_nil, false_imp_iff, implies_true, and_true]
    refine ⟨?_, ?_, ?_, ?_, ?_⟩ <;> exact keep (by decide) (by decide) (by decide) (by decide)
  unfold ErrShown
  rw [hc, Dev.bit, Dev.bit, keep (g := F.REG_ERR.N) (by decide) (by decide) (by decide) (by decide),
    keep (g := F.REG_ERR.P) (by decide) (by decide) (by decide) (by decide), keep (g := F.REG_ERR.CAUSE) (by decide) (by decide) (by decide) (by decide)]
  exact h

/-- Neither the ERR pair nor the mode moves a loan or an active condition. -/
theorem loansKept_shown {d : Dev} (h : LoansKept d) : LoansKept (d.errSync).arrMode := by
  have keep : ∀ {g : Fld}, g.apart F.ARR_STATE.MODE = true → g.apart F.REG_ERR.CAUSE = true → g.apart F.REG_ERR.P = true → g.apart F.REG_ERR.N = true →
      0 < g.n1 → 0 < g.n2 → 0 < g.n3 → (d.errSync).arrMode.get g = d.get g :=
    fun hm hc hp hn h1 h2 h3 => (arrMode_get _ hm h1 h2 h3).trans (errSync_get d hc hp hn h1 h2 h3)
  refine Or.imp (fun add => (loansAdd_congr ?_).mpr add) (fun act => ?_) h
  · simp only [List.forall_mem_cons, List.not_mem_nil, false_imp_iff, implies_true, and_true]
    refine ⟨?_, ?_, ?_, ?_, ?_, ?_⟩ <;> exact keep (by decide) (by decide) (by decide) (by decide) (by decide) (by decide) (by decide)
  · have same : (d.errSync).arrMode.reg.active = d.reg.active := by simp [Dev.arrMode]
    exact same ▸ act

/-- The end of a step establishes the invariant, whatever the command has done. -/
theorem inv_settle (d : Dev) (p : List Instr) : Inv ⟨d.settle, p⟩ := by
  intro live
  by_cases h : d.live = true
  · simp only [Dev.settle, h, if_true]
    exact ⟨modeShown_arrMode _, errShown_arrMode (errShown_errSync _), loansKept_shown (loansKept_loanCheck _)⟩
  · rw [settle_dead (Bool.eq_false_of_not_eq_true h)] at live
    exact absurd live h

/-- Time that passes on an empty queue keeps the invariant. -/
theorem inv_elapse {s : State} (h : Inv s) (n : Nat) : Inv { s with dev := s.dev.elapse n } := by
  intro live
  obtain ⟨mode, err, loans⟩ := h ((elapse_live s.dev n).symm.trans live)
  have keep : ∀ {g : Fld}, g.apart F.RSV_TIME.COUNT = true → 0 < g.n1 → 0 < g.n2 → 0 < g.n3 → (s.dev.elapse n).get g = s.dev.get g :=
    fun hg h1 h2 h3 => elapse_get s.dev n hg h1 h2 h3
  have hst : (s.dev.elapse n).st = s.dev.st := st_elapse s.dev n
  have hmode : modeOf (s.dev.elapse n) = modeOf s.dev := by simp only [modeOf, hst, elapse_arr]
  have hcause : (s.dev.elapse n).errCause = s.dev.errCause := by
    refine errCause_congr (elapse_bootFailed s.dev n) ?_
    simp only [List.forall_mem_cons, List.not_mem_nil, false_imp_iff, implies_true, and_true]
    refine ⟨?_, ?_, ?_, ?_, ?_⟩ <;> exact keep (by decide) (by decide) (by decide) (by decide)
  refine ⟨?_, ?_, Or.imp (fun add => (loansAdd_congr ?_).mpr add) (fun act => ?_) loans⟩
  · exact ((keep (by decide) (by decide) (by decide) (by decide)).trans mode).trans hmode.symm
  · unfold ErrShown
    rw [hcause, Dev.bit, Dev.bit, keep (g := F.REG_ERR.N) (by decide) (by decide) (by decide) (by decide),
      keep (g := F.REG_ERR.P) (by decide) (by decide) (by decide) (by decide), keep (g := F.REG_ERR.CAUSE) (by decide) (by decide) (by decide) (by decide)]
    exact err
  · simp only [List.forall_mem_cons, List.not_mem_nil, false_imp_iff, implies_true, and_true]
    refine ⟨?_, ?_, ?_, ?_, ?_, ?_⟩ <;> exact keep (by decide) (by decide) (by decide) (by decide)
  · exact (congrArg (fun r : Reg => r.active) (elapse_reg s.dev n)).symm ▸ act

/-! Every command answers -/

/-- An outcome that leaves the queue as it is, and the block as it was or at the end of a step. -/
def Settles (s : State) (o : Host.Outcome State Fault Refusal) : Prop :=
  ∃ t : State, o = .next t ∧ t.pending = s.pending ∧ (t = s ∨ ∃ d : Dev, t.dev = d.settle)

theorem settles_same (s : State) : Settles s (.next s) := ⟨s, rfl, rfl, .inl rfl⟩

theorem settles_done (s : State) (d : Dev) : Settles s (done s d) := ⟨_, rfl, rfl, .inr ⟨d, rfl⟩⟩

theorem settles_ite {s : State} {p : Prop} [Decidable p] {x y : Host.Outcome State Fault Refusal} (hx : Settles s x) (hy : Settles s y) :
    Settles s (if p then x else y) := by
  split
  · exact hx
  · exact hy

theorem settles_onMain (s : State) (f : Dev → Dev) : Settles s (onMain s f) := settles_ite (settles_done ..) (settles_same s)

theorem settles_onReserve (s : State) (f : Dev → Dev) : Settles s (onReserve s f) := settles_ite (settles_done ..) (settles_same s)

theorem settles_slotCommand (item : Nat) (c : HostCmd) (s : State) : Settles s (slotCommand item c s) := settles_onMain s _

theorem settles_moveCommand (item : Nat) (c : HostCmd) (s : State) : Settles s (moveCommand item c s) := settles_onMain s _

theorem settles_bar2Write (w : RegWrite) (s : State) : Settles s (bar2Write w s) := by
  unfold bar2Write
  exact settles_ite (settles_onMain ..) (settles_ite (settles_onMain ..) (settles_ite (settles_onMain ..) (settles_ite (settles_onMain ..)
    (settles_ite (settles_same s) (settles_ite (settles_onMain ..) (settles_ite (settles_onMain ..) (settles_ite (settles_onMain ..)
      (settles_ite (settles_onMain ..) (settles_same s)))))))))

theorem settles_registerWrite (w : RegWrite) (s : State) : Settles s (execRegisterWrite w s) := by
  unfold execRegisterWrite
  split
  · exact settles_onMain ..
  · exact settles_bar2Write w s
  · exact settles_onMain ..

/-- A pending command leaves the queue as it is. -/
theorem settles_pendExec (p : Pend) (s : State) : Settles s (pendExec p s) := by
  unfold pendExec
  dsimp only
  split
  case h_19 => split <;> exact settles_slotCommand _ p.c s
  case h_23 => split <;> exact settles_moveCommand _ p.c s
  case h_29 => exact settles_same s
  case h_11 | h_16 | h_21 | h_22 =>
    repeat' split
    all_goals exact settles_onMain s _
  all_goals exact settles_onMain s _

theorem pendStep_pending (s : State) (p : Pend) : (pendStep s p).pending = s.pending := by
  obtain ⟨t, h, hp, -⟩ := settles_pendExec p s
  simp only [pendStep, h]
  split
  · exact hp
  · rfl

theorem foldl_pendStep_pending (l : List Pend) (s : State) : (l.foldl pendStep s).pending = s.pending := by
  induction l generalizing s with
  | nil => rfl
  | cons p l ih => exact (ih _).trans (pendStep_pending s p)

theorem settles_beatStart (i : SensedBeat) (s : State) : Settles s (execBeatStart i s) := by
  unfold execBeatStart
  split
  · exact settles_same s
  · exact ⟨_, rfl, foldl_pendStep_pending .., .inr ⟨_, rfl⟩⟩

/-- Every command answers a next state: the state as it was, or one at the end of its step. -/
theorem settles_exec (c : Instr) (s : State) : Settles s (exec c s) := by
  unfold exec
  cases c
  all_goals dsimp only
  case reserveStart => exact settles_ite (settles_same s) (settles_done ..)
  case beatStart i => exact settles_beatStart i s
  case registerWrite w => exact settles_registerWrite w s
  case slotWriteCoefficients | slotWriteLimits | slotWriteInputs | slotWriteFeedForward | slotWriteHistoryPreset | slotWriteConfiguration
    | slotWriteInputScale => exact settles_slotCommand _ _ s
  case moveTo | track | hold | driveOff | home | park => exact settles_moveCommand _ _ s
  case reserveReset | vinBelowVwarn | vinBelow4v4 | vsdoLost | mrstNLow | xkeepRcSwitch | xkeepRetry | wakePin | catpWake | safetyInputWake | canWake
    | alarm | vinReturn | wakeSequence | sleepRestartDelay | mainResetRelease => exact settles_onReserve s _
  all_goals exact settles_onMain s _

/-- Settles O42: the end of a step establishes the invariant, a command that does nothing keeps it, and so does a tick on an empty queue. -/
theorem stepKeepsInv : Obligations.StepKeepsInv := by
  intro s t inv h
  unfold step at h
  split at h
  next =>
    obtain rfl := Host.Outcome.next.inj h
    exact inv_elapse inv 1
  next c rest hq =>
    obtain ⟨t', ht, -, same | ⟨d, hd⟩⟩ := settles_exec c { s with pending := rest }
    · obtain rfl := Host.Outcome.next.inj (h.symm.trans ht)
      exact same ▸ inv
    · obtain rfl := Host.Outcome.next.inj (h.symm.trans ht)
      have close : Inv ⟨d.settle, t.pending⟩ := inv_settle d t.pending
      unfold Inv at close ⊢
      rwa [hd]

/-- Settles O43: one inversion of `exec` gives the next state and its queue. -/
theorem everyCommandAnswers : Obligations.EveryCommandAnswers := by
  intro c s
  obtain ⟨t, ht, hp, -⟩ := settles_exec c s
  exact ⟨t, ht, hp⟩

/-- Settles O39: the step takes the front of the queue and leaves its rest. -/
theorem stepRunsFront : Obligations.StepRunsFront := by
  intro s c
  unfold step
  rfl

/-- Settles O40: one tick passes, which moves no deadline, output, ring, loan or register but RSV_TIME.COUNT. -/
theorem idleStep : Obligations.IdleStep := by
  intro s hq
  refine ⟨{ s with dev := s.dev.elapse 1 }, ?_, hq, fun live => elapse_tick s.dev 1 live, elapse_timers .., elapse_out .., elapse_rings .., elapse_loans ..,
    fun f a b c hf ha hb hc => elapse_get s.dev 1 hf ha hb hc⟩
  simp only [step, hq]

/-! Right after reset (R543, note 9) -/

/-- The register store right after reset lists the two bits that show the supplies, and nothing else. -/
theorem reset_get {f : Fld} {a b c : Nat} (hk : f.key a b c ≠ F.RSV_STATUS.VKEEP_OK.key 0 0 0) (hv : f.key a b c ≠ F.RSV_STATUS.VIN_OK.key 0 0 0) :
    State.reset.dev.get f a b c = f.reset a := by
  have hk' : ¬ F.RSV_STATUS.VKEEP_OK.key 0 0 0 = f.key a b c := fun h => hk h.symm
  have hv' : ¬ F.RSV_STATUS.VIN_OK.key 0 0 0 = f.key a b c := fun h => hv h.symm
  have store : State.reset.dev.regs = [(F.RSV_STATUS.VKEEP_OK.key 0 0 0, 1), (F.RSV_STATUS.VIN_OK.key 0 0 0, 1)] := rfl
  simp only [Dev.get, store, regGet, if_neg hk', if_neg hv', Nat.zero_xor]

/-- Settles O41: with the main domain held the invariant asks nothing, and the rest is read off the state after reset. -/
theorem resetState : Obligations.ResetState := by
  have held : State.reset.dev.live = false := rfl
  refine ⟨fun live => absurd (held.symm.trans live) (by decide), rfl, held, ?_, fun f a b c hk hv => reset_get hk hv, rfl, rfl, rfl, rfl, rfl⟩
  exact reset_get (f := F.GLB_STATE.DEVICE) (by decide) (by decide)

end Sys2Proof.Machine
end

section
/-! SUPPORT. What an operation leaves alone, as one equation: the view of the block through a mask shows every register but those the mask frees (and the
hot fields and RSV_TIME.COUNT, which any step may move) and every unit but those it frees. An operation that writes no more than its own mask frees
keeps the view through every mask that frees as much. -/

namespace Sys2Proof.Machine

set_option Elab.async false

/-- The units of the block that a frame may name. -/
inductive Part | lanes | cells | slots | bank2 | phases | gates | enc | metCh | metEl | met | ports | hk | mram
  deriving DecidableEq

/-- The registers and the units that an operation is free to change. -/
structure Mask where
  regs : List Fld
  parts : List Part

/-- A field that is free: named by the mask, hot, or RSV_TIME.COUNT. -/
def Mask.frees (m : Mask) (f : Fld) : Bool := m.regs.contains f || hotFields.contains f || f == F.RSV_TIME.COUNT

/-- A field no element of which is an element of a free field. -/
def Mask.keeps (m : Mask) (f : Fld) : Bool := f.calm && f.apart F.RSV_TIME.COUNT && m.regs.all f.apart

/-- One mask frees no more than another. -/
def Mask.le (m n : Mask) : Bool := m.regs.all n.frees && m.parts.all n.parts.contains

/-- What is seen of the block. -/
structure View where
  reg : Fld → Nat → Nat → Nat → Nat
  lanes : List Lane
  cells : List Cell
  slots : List Slot
  bank2 : List (Nat × Nat × Nat)
  phases : List Phase
  gates : List Gate
  enc : List Enc
  metCh : List MetCh
  metEl : List MetEl
  met : Option Met
  ports : List Port
  hk : Option Hk
  keys : List KeySlot
  fw : List (Option FwImage)

/-- A unit that the mask frees is not seen. -/
def Mask.see {α : Type} (m : Mask) (p : Part) (hidden x : α) : α := if m.parts.contains p then hidden else x

/-- The registers seen. -/
def Mask.read (m : Mask) (l : Nat → Nat) (f : Fld) (a b c : Nat) : Nat :=
  if m.keeps f && decide (a < f.n1) && decide (b < f.n2) && decide (c < f.n3) then l (f.key a b c) else 0

/-- The view of the calm part of the block through a mask. -/
def Calm.view (x : Calm) (m : Mask) : View :=
  ⟨m.read x.reg, m.see .lanes [] x.lanes, m.see .cells [] x.cells, m.see .slots [] x.slots, m.see .bank2 [] x.bank2, m.see .phases [] x.phases,
    m.see .gates [] x.gates, m.see .enc [] x.enc, m.see .metCh [] x.metCh, m.see .metEl [] x.metEl, m.see .met none (some x.met), m.see .ports [] x.ports,
    m.see .hk none (some x.hk), m.see .mram [] x.mram.keys, m.see .mram [] x.mram.fw⟩

/-! The view of a block put together, and back -/

@[simp] theorem view_mk (m : Mask) (reg due tick lanes cells slots bank2 gates enc metCh metEl met ports chr hk pwr rings clk mram prov saf col arr os pwm
    groups phases) :
    (Calm.mk reg due tick lanes cells slots bank2 gates enc metCh metEl met ports chr hk pwr rings clk mram prov saf col arr os pwm groups phases).view m
      = ⟨m.read reg, m.see .lanes [] lanes, m.see .cells [] cells, m.see .slots [] slots, m.see .bank2 [] bank2, m.see .phases [] phases,
        m.see .gates [] gates, m.see .enc [] enc, m.see .metCh [] metCh, m.see .metEl [] metEl, m.see .met none (some met), m.see .ports [] ports,
        m.see .hk none (some hk), m.see .mram [] mram.keys, m.see .mram [] mram.fw⟩ := rfl

@[simp] theorem view_eta (m : Mask) (d : Dev) :
    (⟨m.read (calmRegs d.regs), m.see .lanes [] d.lanes, m.see .cells [] d.cells, m.see .slots [] d.slots, m.see .bank2 [] d.bank2,
      m.see .phases [] (d.phases.map Phase.still), m.see .gates [] d.gates, m.see .enc [] d.enc, m.see .metCh [] d.metCh, m.see .metEl [] d.metEl,
      m.see .met none (some d.met), m.see .ports [] d.ports, m.see .hk none (some d.hk), m.see .mram [] d.mram.keys, m.see .mram [] d.mram.fw⟩ : View)
      = d.calm.view m := rfl

@[simp] theorem still_keys (x : Mram) : x.still.keys = x.keys := rfl
@[simp] theorem still_fw (x : Mram) : x.still.fw = x.fw := rfl

theorem Mask.see_freed {α : Type} {m : Mask} {p : Part} (h : m.parts.contains p = true) (hidden x : α) : m.see p hidden x = hidden := by
  rw [Mask.see, if_pos h]

/-! What the view shows -/

theorem Mask.apart_of_keeps {m : Mask} {f g : Fld} (hk : m.keeps f = true) (hg : m.frees g = true) : f.apart g = true := by
  simp only [Mask.keeps, Bool.and_eq_true, List.all_eq_true] at hk
  obtain ⟨⟨calm, time⟩, own⟩ := hk
  simp only [Mask.frees, Bool.or_eq_true, List.contains_iff_mem, beq_iff_eq] at hg
  rcases hg with (hg | hg) | rfl
  · exact own g hg
  · simp only [Fld.calm, List.all_eq_true, Bool.and_eq_true] at calm
    exact (calm g hg).1
  · exact time

theorem Mask.keeps_of_le {m n : Mask} (h : m.le n = true) {f : Fld} (hk : n.keeps f = true) : m.keeps f = true := by
  simp only [Mask.le, Bool.and_eq_true, List.all_eq_true] at h
  have apart : ∀ g ∈ m.regs, f.apart g = true := fun g hg => Mask.apart_of_keeps hk (h.1 g hg)
  simp only [Mask.keeps, Bool.and_eq_true, List.all_eq_true] at hk ⊢
  exact ⟨hk.1, apart⟩

theorem Mask.hidden_of_le {m n : Mask} (h : m.le n = true) {p : Part} (hp : n.parts.contains p = false) : m.parts.contains p = false := by
  simp only [Mask.le, Bool.and_eq_true, List.all_eq_true] at h
  by_contra hm
  rw [Bool.not_eq_false, List.contains_iff_mem] at hm
  rw [h.2 p hm] at hp
  exact absurd hp (by decide)

/-- A register kept in view reads the same. -/
theorem get_of_view {d e : Dev} {m : Mask} (h : e.calm.view m = d.calm.view m) {f : Fld} (hk : m.keeps f = true) {a b c : Nat}
    (ha : a < f.n1 := by decide) (hb : b < f.n2 := by decide) (hc : c < f.n3 := by decide) : e.get f a b c = d.get f a b c := by
  have calm : calmKey (f.key a b c) = true := by
    simp only [Mask.keeps, Bool.and_eq_true] at hk
    exact Fld.calm_key hk.1.1 ha hb hc
  have read : m.read (calmRegs e.regs) f a b c = m.read (calmRegs d.regs) f a b c :=
    congrFun (congrFun (congrFun (congrFun (congrArg View.reg h) f) a) b) c
  simp only [Mask.read, hk, ha, hb, hc, decide_true, Bool.and_self, if_true, calmRegs, calm] at read
  rw [Dev.get, Dev.get, read]

theorem see_inj {α : Type} {m : Mask} {p : Part} {hidden x y : α} (h : m.see p hidden x = m.see p hidden y) (hp : m.parts.contains p = false) : x = y := by
  simpa only [Mask.see, hp, Bool.false_eq_true, if_false] using h

theorem see_le {α : Type} {m n : Mask} (h : m.le n = true) {p : Part} {hidden x y : α} (e : m.see p hidden x = m.see p hidden y) :
    n.see p hidden x = n.see p hidden y := by
  unfold Mask.see at *
  split
  · rfl
  · rename_i hp
    rwa [if_neg (by rw [Mask.hidden_of_le h (by simpa using hp)]; decide), if_neg (by rw [Mask.hidden_of_le h (by simpa using hp)]; decide)] at e

/-- What is the same through one mask is the same through every mask that frees as much. -/
theorem view_le {d e : Dev} {m n : Mask} (h : m.le n = true) (v : e.calm.view m = d.calm.view m) : e.calm.view n = d.calm.view n := by
  have regs : n.read e.calm.reg = n.read d.calm.reg := by
    funext f a b c
    have at_ : m.read e.calm.reg f a b c = m.read d.calm.reg f a b c := congrFun (congrFun (congrFun (congrFun (congrArg View.reg v) f) a) b) c
    by_cases hk : n.keeps f = true
    · simpa only [Mask.read, hk, Mask.keeps_of_le h hk] using at_
    · simp [Mask.read, hk]
  unfold Calm.view at v ⊢
  injection v with h0 h1 h2 h3 h4 h5 h6 h7 h8 h9 h10 h11 h12 h13 h14
  rw [regs, see_le h h1, see_le h h2, see_le h h3, see_le h h4, see_le h h5, see_le h h6, see_le h h7, see_le h h8, see_le h h9, see_le h h10, see_le h h11,
    see_le h h12, see_le h h13, see_le h h14]

/-- An operation that leaves the calm part alone keeps every view. -/
theorem view_of_calm {d e : Dev} (h : e.calm = d.calm) (m : Mask) : e.calm.view m = d.calm.view m := congrArg (·.view m) h

/-! Registers written -/

@[simp] theorem read_set {m : Mask} {f : Fld} (h : m.frees f = true) (d : Dev) (v a b c : Nat) :
    m.read (calmRegs (d.set f v a b c).regs) = m.read (calmRegs d.regs) := by
  funext g a' b' c'
  unfold Mask.read
  split
  next hk =>
    simp only [Bool.and_eq_true, decide_eq_true_eq] at hk
    obtain ⟨⟨⟨keeps, ha⟩, hb⟩, hc⟩ := hk
    unfold Dev.set
    split
    next hs =>
      have other : g.key a' b' c' ≠ f.key a b c := Fld.apart_key (Mask.apart_of_keeps keeps h) ha hb hc hs.1 hs.2.1 hs.2.2
      simp only [calmRegs, regGet_regPut_ne _ _ other]
    next => rfl
  next => rfl

@[simp] theorem view_set {m : Mask} {f : Fld} (h : m.frees f = true) (d : Dev) (v a b c : Nat) : (d.set f v a b c).calm.view m = d.calm.view m := by
  unfold Dev.calm
  simp only [view_mk, read_set h, Dev.set_lanes, Dev.set_cells, Dev.set_slots, Dev.set_bank2, Dev.set_phases, Dev.set_gates, Dev.set_enc, Dev.set_metCh,
    Dev.set_metEl, Dev.set_met, Dev.set_ports, Dev.set_hk, Dev.set_mram]

@[simp] theorem view_setB {m : Mask} {f : Fld} (h : m.frees f = true) (d : Dev) (v : Bool) (a b c : Nat) : (d.setB f v a b c).calm.view m = d.calm.view m :=
  view_set h ..

@[simp] theorem view_setS {m : Mask} {f : Fld} (h : m.frees f = true) (d : Dev) (v : Int) (a b c : Nat) : (d.setS f v a b c).calm.view m = d.calm.view m :=
  view_set h ..

@[simp] theorem view_inc {m : Mask} {f : Fld} (h : m.frees f = true) (d : Dev) (n a b c : Nat) : (d.inc f n a b c).calm.view m = d.calm.view m := view_set h ..

@[simp] theorem view_incSat {m : Mask} {f : Fld} (h : m.frees f = true) (d : Dev) (n a b c : Nat) : (d.incSat f n a b c).calm.view m = d.calm.view m := view_set h ..

@[simp] theorem view_setFlag {m : Mask} {f : Fld} (h : m.frees f = true) (d : Dev) (i : Nat) (v : Bool) : (d.setFlag f i v).calm.view m = d.calm.view m :=
  view_set h ..

/-! Units changed -/

section Units
variable {m : Mask} (d : Dev) (k : Nat)

@[simp] theorem view_lane (h : m.parts.contains .lanes = true) (g : Lane → Lane) : (d.lane k g).calm.view m = d.calm.view m := by
  simp only [Dev.lane, Dev.calm, view_mk, Mask.see_freed h]
@[simp] theorem view_cell (h : m.parts.contains .cells = true) (g : Cell → Cell) : (d.cell k g).calm.view m = d.calm.view m := by
  simp only [Dev.cell, Dev.calm, view_mk, Mask.see_freed h]
@[simp] theorem view_slot (h : m.parts.contains .slots = true) (g : Slot → Slot) : (d.slot k g).calm.view m = d.calm.view m := by
  simp only [Dev.slot, Dev.calm, view_mk, Mask.see_freed h]
@[simp] theorem view_phs (h : m.parts.contains .phases = true) (g : Phase → Phase) : (d.phs k g).calm.view m = d.calm.view m := by
  simp only [Dev.phs, Dev.calm, view_mk, Mask.see_freed h]
@[simp] theorem view_gd (h : m.parts.contains .gates = true) (g : Gate → Gate) : (d.gd k g).calm.view m = d.calm.view m := by
  simp only [Dev.gd, Dev.calm, view_mk, Mask.see_freed h]
@[simp] theorem view_en (h : m.parts.contains .enc = true) (g : Enc → Enc) : (d.en k g).calm.view m = d.calm.view m := by
  simp only [Dev.en, Dev.calm, view_mk, Mask.see_freed h]
@[simp] theorem view_mch (h : m.parts.contains .metCh = true) (g : MetCh → MetCh) : (d.mch k g).calm.view m = d.calm.view m := by
  simp only [Dev.mch, Dev.calm, view_mk, Mask.see_freed h]
@[simp] theorem view_mel (h : m.parts.contains .metEl = true) (g : MetEl → MetEl) : (d.mel k g).calm.view m = d.calm.view m := by
  simp only [Dev.mel, Dev.calm, view_mk, Mask.see_freed h]
@[simp] theorem view_port (h : m.parts.contains .ports = true) (g : Port → Port) : (d.port k g).calm.view m = d.calm.view m := by
  simp only [Dev.port, Dev.calm, view_mk, Mask.see_freed h]
@[simp] theorem view_hkp (h : m.parts.contains .hk = true) (g : HkPoint → HkPoint) : (d.hkp k g).calm.view m = d.calm.view m := by
  simp only [Dev.hkp, Dev.calm, view_mk, Mask.see_freed h]
@[simp] theorem view_withMet (h : m.parts.contains .met = true) (x : Met) : ({ d with met := x } : Dev).calm.view m = d.calm.view m := by
  simp only [Dev.calm, view_mk, Mask.see_freed h]
@[simp] theorem view_withHk (h : m.parts.contains .hk = true) (x : Hk) : ({ d with hk := x } : Dev).calm.view m = d.calm.view m := by
  simp only [Dev.calm, view_mk, Mask.see_freed h]
@[simp] theorem view_withBank2 (h : m.parts.contains .bank2 = true) (x : List (Nat × Nat × Nat)) :
    ({ d with bank2 := x } : Dev).calm.view m = d.calm.view m := by
  simp only [Dev.calm, view_mk, Mask.see_freed h]
@[simp] theorem view_withMram (h : m.parts.contains .mram = true) (x : Mram) : ({ d with mram := x } : Dev).calm.view m = d.calm.view m := by
  simp only [Dev.calm, view_mk, Mask.see_freed h]
@[simp] theorem view_grp (g : Group → Group) : (d.grp k g).calm.view m = d.calm.view m := rfl
@[simp] theorem view_pw (g : Pwm → Pwm) : (d.pw k g).calm.view m = d.calm.view m := rfl
@[simp] theorem view_pair (n : Nat) (g : Pair → Pair) : (d.pair k n g).calm.view m = d.calm.view m := rfl
@[simp] theorem view_arm (t : Timer) : (d.arm t k).calm.view m = d.calm.view m := rfl
@[simp] theorem view_disarm (t : Timer) : (d.disarm t).calm.view m = d.calm.view m := rfl
@[simp] theorem view_emit (o : Out) : (d.emit o).calm.view m = d.calm.view m := rfl
@[simp] theorem view_free : d.free.calm.view m = d.calm.view m := rfl

end Units

/-! Conditions, folds and time -/

@[simp] theorem view_ite {p : Prop} [Decidable p] {m : Mask} (x y : Dev) : (if p then x else y).calm.view m = if p then x.calm.view m else y.calm.view m :=
  apply_ite (fun d : Dev => d.calm.view m) p x y

theorem view_cond {m : Mask} {d : Dev} (b : Bool) {g : Dev → Dev} (h : (g d).calm.view m = d.calm.view m) : (d.cond b g).calm.view m = d.calm.view m := by
  unfold Dev.cond
  split
  · exact h
  · rfl

theorem view_each {α : Type} {m : Mask} {g : Dev → α → Dev} (h : ∀ d x, (g d x).calm.view m = d.calm.view m) (l : List α) (d : Dev) :
    (d.each l g).calm.view m = d.calm.view m := each_keeps (fun d => d.calm.view m) h l d

@[simp] theorem view_elapse {m : Mask} (d : Dev) (n : Nat) : (d.elapse n).calm.view m = d.calm.view m := by
  have time : m.frees F.RSV_TIME.COUNT = true := by simp [Mask.frees]
  have count : (if d.pwr.reserveOn then
        ({ d with pwr := { d.pwr with rsvAcc := (d.pwr.rsvAcc + n * 32768) % 100000000 } }).inc F.RSV_TIME.COUNT ((d.pwr.rsvAcc + n * 32768) / 100000000)
      else d).calm.view m = d.calm.view m := by
    split
    · exact view_inc time ..
    · rfl
  refine Eq.trans ?_ count
  unfold Dev.elapse
  dsimp only
  generalize (if d.pwr.reserveOn = true then _ else d) = e
  split <;> rfl

@[simp] theorem view_until {m : Mask} (d : Dev) (t : Nat) : (d.until t).calm.view m = d.calm.view m := view_elapse ..

@[simp] theorem view_toPhase {m : Mask} (d : Dev) (p : Nat) : (d.toPhase p).calm.view m = d.calm.view m := view_elapse ..

theorem view_wait {m : Mask} {d : Dev} (x : Nat) {g : Dev → Dev} (h : ∀ e, (g e).calm.view m = e.calm.view m) : (d.wait x g).calm.view m = d.calm.view m := by
  unfold Dev.wait
  split
  · exact (h _).trans (view_until ..)
  · rfl

theorem view_atPhase {m : Mask} {d : Dev} (p : Nat) {g : Dev → Dev} (h : ∀ e, (g e).calm.view m = e.calm.view m) : (d.atPhase p g).calm.view m = d.calm.view m :=
  view_wait _ h

theorem view_fire {m : Mask} {d : Dev} (t : Timer) {g : Dev → Dev} (h : ∀ e, (g e).calm.view m = e.calm.view m) : (d.fire t g).calm.view m = d.calm.view m := by
  unfold Dev.fire
  split
  · exact view_wait _ fun e => h _
  · rfl

/-! From the view of a step's outcome to its frame -/

/-- A command whose effect keeps the view keeps it to the end of its step. -/
theorem view_onMain {s t : State} {f : Dev → Dev} {m : Mask} (h : onMain s f = .next t) (hf : ∀ d, (f d).calm.view m = d.calm.view m) :
    t.dev.calm.view m = s.dev.calm.view m := by
  unfold onMain at h
  split at h
  · obtain rfl := Host.Outcome.next.inj h
    exact (view_of_calm (calm_settle _) m).trans (hf _)
  · obtain rfl := Host.Outcome.next.inj h
    rfl

theorem view_onReserve {s t : State} {f : Dev → Dev} {m : Mask} (h : onReserve s f = .next t) (hf : ∀ d, (f d).calm.view m = d.calm.view m) :
    t.dev.calm.view m = s.dev.calm.view m := by
  unfold onReserve at h
  split at h
  · obtain rfl := Host.Outcome.next.inj h
    exact (view_of_calm (calm_settle _) m).trans (hf _)
  · obtain rfl := Host.Outcome.next.inj h
    rfl

section Frames
variable {d e : Dev} {m : Mask} (v : e.calm.view m = d.calm.view m)
include v

theorem kept_of_view : Kept m.regs d e := by
  intro f a b c calm time dest ha hb hc
  have keeps : m.keeps f = true := by
    simp only [Mask.keeps, calm, time, Bool.true_and, List.all_eq_true]
    exact dest
  exact get_of_view v keeps ha hb hc

theorem lanes_of_view (h : m.parts.contains .lanes = false) : e.lanes = d.lanes := see_inj (congrArg View.lanes v) h
theorem cells_of_view (h : m.parts.contains .cells = false) : e.cells = d.cells := see_inj (congrArg View.cells v) h
theorem slots_of_view (h : m.parts.contains .slots = false) : e.slots = d.slots := see_inj (congrArg View.slots v) h
theorem bank2_of_view (h : m.parts.contains .bank2 = false) : e.bank2 = d.bank2 := see_inj (congrArg View.bank2 v) h
theorem phases_of_view (h : m.parts.contains .phases = false) : PhasesKept d e := see_inj (congrArg View.phases v) h
theorem gates_of_view (h : m.parts.contains .gates = false) : e.gates = d.gates := see_inj (congrArg View.gates v) h
theorem enc_of_view (h : m.parts.contains .enc = false) : e.enc = d.enc := see_inj (congrArg View.enc v) h
theorem metCh_of_view (h : m.parts.contains .metCh = false) : e.metCh = d.metCh := see_inj (congrArg View.metCh v) h
theorem metEl_of_view (h : m.parts.contains .metEl = false) : e.metEl = d.metEl := see_inj (congrArg View.metEl v) h
theorem met_of_view (h : m.parts.contains .met = false) : e.met = d.met := Option.some.inj (see_inj (congrArg View.met v) h)
theorem ports_of_view (h : m.parts.contains .ports = false) : e.ports = d.ports := see_inj (congrArg View.ports v) h
theorem hk_of_view (h : m.parts.contains .hk = false) : e.hk = d.hk := Option.some.inj (see_inj (congrArg View.hk v) h)
theorem keys_of_view (h : m.parts.contains .mram = false) : e.mram.keys = d.mram.keys := see_inj (congrArg View.keys v) h
theorem fw_of_view (h : m.parts.contains .mram = false) : e.mram.fw = d.mram.fw := see_inj (congrArg View.fw v) h

end Frames

end Sys2Proof.Machine
end

section
/-! SUPPORT. The frame of the Chronometer's and the networks' commands (R453 to R474): what each of their operations leaves in view. -/

namespace Sys2Proof.Machine

set_option Elab.async false

/-- What these commands are free to change. -/
def networkMask : Mask := ⟨networkFields, [.ports, .met, .metEl]⟩

/-! Network time and the servo -/

@[simp] theorem networkView_endsFix (d : Dev) : d.endsFix.calm.view networkMask = d.calm.view networkMask := by
  refine view_each (fun d e => ?_) _ _
  split
  · split
    · exact view_mel _ _ (by decide) _
    · rfl
  · rfl

@[simp] theorem networkView_stepFlag (d : Dev) : d.stepFlag.calm.view networkMask = d.calm.view networkMask :=
  (view_withMet _ (by decide) _).trans (view_each (fun d e => view_mel d e (by decide) _) _ _)

@[simp] theorem networkView_ntState (d : Dev) (s : Nat) : (d.ntState s).calm.view networkMask = d.calm.view networkMask := by
  simp (disch := decide) [Dev.ntState, Dev.cond]

@[simp] theorem networkView_ntStep (d : Dev) (x : Int) (w : Nat) : (d.ntStep x w).calm.view networkMask = d.calm.view networkMask := by
  simp (disch := decide) [Dev.ntStep, Dev.ntSet]

@[simp] theorem networkView_setRate (d : Dev) (r : Rat) : (d.setRate r).calm.view networkMask = d.calm.view networkMask := by
  simp (disch := decide) [Dev.setRate]

@[simp] theorem networkView_servoLock (d : Dev) (th : Rat) : (d.servoLock th).calm.view networkMask = d.calm.view networkMask := by
  simp (disch := decide) [Dev.servoLock, Dev.chrLock]

@[simp] theorem networkView_measure (d : Dev) (th : Rat) : (d.measure th).calm.view networkMask = d.calm.view networkMask := by
  have heard : ∀ e : Dev, (e.servoHeard th).calm.view networkMask = e.calm.view networkMask := fun e => by
    simp (disch := decide) [Dev.servoHeard]
  have rate : ∀ e : Dev, (e.servoRate th).calm.view networkMask = e.calm.view networkMask := fun e => by
    simp (disch := decide) [Dev.servoRate]
  simp (disch := decide) [Dev.measure, heard, rate]

@[simp] theorem networkView_holdover (d : Dev) (why : Nat) : (d.holdover why).calm.view networkMask = d.calm.view networkMask := by
  unfold Dev.holdover
  split
  · simp
  · rfl

/-! Masters and exchanges -/

@[simp] theorem networkView_masterSync (d : Dev) : d.masterSync.calm.view networkMask = d.calm.view networkMask := by
  simp only [Dev.masterSync]
  refine (view_free _).trans ((view_each (fun d n => ?_) _ _).trans (view_each (fun d n => ?_) _ _))
  · exact view_setB (by decide) ..
  · simp (disch := decide)

@[simp] theorem networkView_announceArm (d : Dev) (n : Nat) : (d.announceArm n).calm.view networkMask = d.calm.view networkMask := by
  unfold Dev.announceArm
  split <;> rfl

@[simp] theorem networkView_delayRequest (d : Dev) (n : Nat) : (d.delayRequest n).calm.view networkMask = d.calm.view networkMask := by
  simp (disch := decide) [Dev.delayRequest]

theorem networkView_ptpRx (d : Dev) (n domain : Nat) (udp : Bool) {g : Dev → Dev} (h : ∀ e, (g e).calm.view networkMask = e.calm.view networkMask) :
    (d.ptpRx n domain udp g).calm.view networkMask = d.calm.view networkMask := by
  simp (disch := decide) [Dev.ptpRx, h]

@[simp] theorem networkView_ptpMeasure (d : Dev) (n : Nat) (t2 : Int) (origin : Nat) (correction : Int) :
    (d.ptpMeasure n t2 origin correction).calm.view networkMask = d.calm.view networkMask := by
  simp (disch := decide) [Dev.ptpMeasure, Dev.cond]

@[simp] theorem networkView_setDelay (d : Dev) (n : Nat) (x : Rat) : (d.setDelay n x).calm.view networkMask = d.calm.view networkMask := by
  simp (disch := decide) [Dev.setDelay]

/-! PPS and CAN -/

@[simp] theorem networkView_ppsUse (d : Dev) : d.ppsUse.calm.view networkMask = d.calm.view networkMask := by
  unfold Dev.ppsUse
  split
  · simp
  · rfl

@[simp] theorem networkView_canSync (d : Dev) (c : Nat) : (d.canSync c).calm.view networkMask = d.calm.view networkMask := by
  simp (disch := decide) [Dev.canSync]

@[simp] theorem networkView_canHeard (d : Dev) (c : Nat) : (d.canHeard c).calm.view networkMask = d.calm.view networkMask := by
  simp (disch := decide) [Dev.canHeard]

@[simp] theorem networkView_canSent (d : Dev) (c : Nat) : (d.canSent c).calm.view networkMask = d.calm.view networkMask := by
  simp (disch := decide) [Dev.canSent]

@[simp] theorem networkView_canStore (d : Dev) (c j : Nat) (data : List Nat) : (d.canStore c j data).calm.view networkMask = d.calm.view networkMask :=
  view_each (fun d w => view_set (by decide) ..) _ _

@[simp] theorem networkView_canEmit (d : Dev) (n : Nat) (data : List Nat) : (d.canEmit n data).calm.view networkMask = d.calm.view networkMask := rfl

/-! The links -/

@[simp] theorem networkView_ethPins (d : Dev) (x : EthModule) : (d.ethPins x).calm.view networkMask = d.calm.view networkMask := by
  simp (disch := decide) [Dev.ethPins]

@[simp] theorem networkView_ethDown (d : Dev) (n : Nat) : (d.ethDown n).calm.view networkMask = d.calm.view networkMask := by
  simp (disch := decide) [Dev.ethDown]

/-! The commands -/

/-- Each of the networks' commands keeps the view. -/
theorem view_network {c : Instr} {s t : State} (hc : isNetwork c = true) (h : exec c s = .next t) :
    t.dev.calm.view networkMask = s.dev.calm.view networkMask := by
  unfold exec at h
  cases c
  all_goals dsimp only at h
  case chrSetApply =>
    refine view_onMain h fun d => view_fire _ fun e => ?_
    dsimp only
    split <;> simp (disch := decide)
  case holdoverStart =>
    refine view_onMain h fun d => ?_
    split
    · exact view_fire _ fun e => networkView_holdover ..
    · rfl
  case holdoverExpiry => exact view_onMain h fun d => view_fire _ fun e => by simp
  case ptpAnnounce n a => exact view_onMain h fun d => networkView_ptpRx _ _ _ _ fun e => by simp (disch := decide) [Dev.cond]
  case ptpMasterLost n => exact view_onMain h fun d => view_fire _ fun e => by simp (disch := decide)
  case ptpSync n x => exact view_onMain h fun d => networkView_ptpRx _ _ _ _ fun e => by simp (disch := decide)
  case ptpFollowUp n x =>
    refine view_onMain h fun d => networkView_ptpRx _ _ _ _ fun e => ?_
    split
    · simp (disch := decide)
    · rfl
  case ptpDelayResp n x =>
    refine view_onMain h fun d => networkView_ptpRx _ _ _ _ fun e => ?_
    split
    · rfl
    · split
      · simp (disch := decide)
      · rfl
  case ptpPdelayResp n x =>
    refine view_onMain h fun d => networkView_ptpRx _ _ _ _ fun e => ?_
    split
    · rfl
    · split
      · simp (disch := decide)
      · rfl
  case ptpPdelayReq n x => exact view_onMain h fun d => networkView_ptpRx _ _ _ _ fun e => by simp (disch := decide)
  case ethFrameForward n x => exact view_onMain h fun d => by simp (disch := decide) [Dev.cond]
  case ethLinkUp x => exact view_onMain h fun d => by simp (disch := decide) [Dev.cond]
  case ethLinkDown x => exact view_onMain h fun d => by simp
  case ppsInEdge x => exact view_onMain h fun d => by simp (disch := decide)
  case ppsInTimeout =>
    refine view_onMain h fun d => ?_
    split
    · exact view_fire _ fun e => networkView_holdover ..
    · rfl
  case ppsOutPulse rise =>
    refine view_onMain h fun d => ?_
    split
    · split
      · exact view_wait _ fun e => rfl
      · rfl
    · exact view_fire _ fun e => rfl
  case canFrameRx c x =>
    refine view_onMain h fun d => ?_
    split
    · rfl
    · dsimp only
      split <;> simp (disch := decide)
  case canTxPeriod c x => exact view_onMain h fun d => view_fire _ fun e => by simp (disch := decide)
  case canBusoff c x =>
    refine view_onMain h fun d => ?_
    have emits : ∀ (e : Dev) l, (e.each l fun d (y : Nat × List Nat) => d.canEmit y.1 y.2).calm.view networkMask = e.calm.view networkMask :=
      fun e l => view_each (fun d y => networkView_canEmit d _ _) _ _
    simp (disch := decide) [emits]
  all_goals exact absurd hc Bool.false_ne_true

/-- Settles O47: every operation of these commands writes inside its mask. -/
theorem networkFrame : Obligations.NetworkFrame := by
  intro c s t hc h
  have v : t.dev.calm.view networkMask = s.dev.calm.view networkMask := view_network hc h
  exact ⟨kept_of_view v, lanes_of_view v (by decide), cells_of_view v (by decide), slots_of_view v (by decide), bank2_of_view v (by decide),
    phases_of_view v (by decide), gates_of_view v (by decide), enc_of_view v (by decide), metCh_of_view v (by decide), hk_of_view v (by decide),
    keys_of_view v (by decide), fw_of_view v (by decide)⟩

end Sys2Proof.Machine
end

section
/-! SUPPORT. What a host command of any opcode leaves in view (R129 to R131), and the frames of ARRAY_SET, OUTPUT_SET and the Loop Engine's commands. -/

namespace Sys2Proof.Machine

set_option Elab.async false

/-- The registers that every host command may write beside the hot ones (R146). -/
def commandMask : Mask := ⟨[F.RING_PENDING.COUNT, F.xQ_STATUS.PENDING], []⟩

theorem commandView_pendSync (d : Dev) : d.pendSync.calm.view commandMask = d.calm.view commandMask :=
  (view_each (fun d q => view_set (by decide) d _ q 0 0) _ _).trans (view_set (by decide) ..)

section
variable {m : Mask} (hm : commandMask.le m = true)
include hm

theorem view_pendSync (d : Dev) : d.pendSync.calm.view m = d.calm.view m := view_le hm (commandView_pendSync d)

/-- What a command's effect leaves in view, the command does. -/
theorem view_command (d : Dev) (op : Nat) (c : HostCmd) {g : Dev → Dev × Verdict} (hg : ∀ e, (g e).1.calm.view m = e.calm.view m) :
    (d.command op c g).1.calm.view m = d.calm.view m := by
  simp only [Dev.command]
  split
  · rfl
  · have start : ∀ x, (({ d.until (c.beat * 1024) with rings := x } : Dev).pendSync).calm.view m = d.calm.view m := fun x =>
      (view_pendSync hm _).trans ((rfl : _ = (d.until (c.beat * 1024)).calm.view m).trans (view_until ..))
    have done : ∀ (e : Dev) (old status reason result : Nat) (b : Bool), (e.finish op c old status reason result b).calm.view m = e.calm.view m :=
      fun e _ _ _ _ _ => view_of_calm (calm_finish ..) m
    refine Eq.trans ?_ (start { (d.until (c.beat * 1024)).rings with pend := (d.until (c.beat * 1024)).rings.pend.erase ⟨op, c⟩ })
    generalize (({ d.until (c.beat * 1024) with rings := _ } : Dev).pendSync) = e
    split
    · exact done ..
    · split
      · exact done ..
      · have logged : (if op = 0x71 then e.log 3 (Orig.cmd c) op 0 e.st e.st else e).calm.view m = e.calm.view m := by
          split
          · exact view_of_calm (calm_log ..) m
          · rfl
        generalize (if op = 0x71 then e.log 3 (Orig.cmd c) op 0 e.st e.st else e) = e0 at *
        have effect : (g { e0 with out := [] }).1.calm.view m = e.calm.view m := (hg _).trans ((rfl : _ = e0.calm.view m).trans logged)
        have failing : ∀ out, ({ e.failing op (g { e0 with out := [] }).1 with out := out } : Dev).calm.view m = e.calm.view m := fun out => by
          unfold Dev.failing
          split
          · rfl
          · exact effect
        split
        · refine Eq.trans ?_ effect
          exact done ..
        · exact (done ..).trans (failing _)
        · exact (done ..).trans (failing _)

theorem view_simple (d : Dev) (op : Nat) (c : HostCmd) {g : Dev → Dev} (hg : ∀ e, (g e).calm.view m = e.calm.view m) :
    (d.simple op c g).calm.view m = d.calm.view m := view_command hm d op c hg

theorem view_checked (d : Dev) (op : Nat) (c : HostCmd) {g : Dev → Dev × Option Nat} (hg : ∀ e, (g e).1.calm.view m = e.calm.view m) :
    (d.checked op c g).calm.view m = d.calm.view m := by
  refine view_command hm d op c fun e => ?_
  rw [← hg e]
  split <;> rename_i h <;> rw [h]

end

/-! ARRAY_SET and OUTPUT_SET -/

/-- What these commands are free to change. -/
def setMask : Mask := ⟨setFields, []⟩

theorem view_setCommand {c : Instr} {s t : State} (hc : isSet c = true) (h : exec c s = .next t) : t.dev.calm.view setMask = s.dev.calm.view setMask := by
  unfold exec at h
  cases c
  all_goals dsimp only at h
  case arraySetVdl c => exact view_onMain h fun d => view_simple (by decide) _ _ _ fun e => view_set (by decide) ..
  case arraySetLimits c => exact view_onMain h fun d => view_simple (by decide) _ _ _ fun e => by simp (disch := decide)
  case arraySetVc c => exact view_onMain h fun d => view_command (by decide) _ _ _ fun e => by split <;> simp (disch := decide)
  case arraySetIq c => exact view_onMain h fun d => view_checked (by decide) _ _ _ fun e => by split <;> simp (disch := decide)
  case arraySetBalMode c => exact view_onMain h fun d => view_command (by decide) _ _ _ fun e => by split <;> simp (disch := decide)
  case arraySetHopping c => exact view_onMain h fun d => view_checked (by decide) _ _ _ fun e => by dsimp only; split <;> simp (disch := decide)
  case arraySetApplyPhase c =>
    refine view_onMain h fun d => view_command (by decide) _ _ _ fun e => ?_
    split
    · rfl
    · split <;> simp (disch := decide)
  case outputSetVSet c => exact view_onMain h fun d => view_simple (by decide) _ _ _ fun e => view_set (by decide) ..
  case outputSetIset c => exact view_onMain h fun d => view_checked (by decide) _ _ _ fun e => by dsimp only; split <;> simp (disch := decide)
  case outputSetEnables c => exact view_onMain h fun d => view_simple (by decide) _ _ _ fun e => by simp (disch := decide)
  case outputSetTrunc c => exact view_onMain h fun d => view_simple (by decide) _ _ _ fun e => view_set (by decide) ..
  all_goals exact absurd hc Bool.false_ne_true

/-- Settles O52: each item writes the fields it sets, and its command the counts of pending ones. -/
theorem setFrame : Obligations.SetFrame := by
  intro c s t hc h
  have v : t.dev.calm.view setMask = s.dev.calm.view setMask := view_setCommand hc h
  exact ⟨kept_of_view v, lanes_of_view v (by decide), cells_of_view v (by decide), slots_of_view v (by decide), bank2_of_view v (by decide),
    phases_of_view v (by decide), gates_of_view v (by decide), enc_of_view v (by decide), metCh_of_view v (by decide), metEl_of_view v (by decide),
    met_of_view v (by decide), ports_of_view v (by decide), hk_of_view v (by decide), keys_of_view v (by decide), fw_of_view v (by decide)⟩

end Sys2Proof.Machine
end

section
/-! SUPPORT. The frame of the Loop Engine's commands (R289 to R305). -/

namespace Sys2Proof.Machine

set_option Elab.async false

/-- What these commands are free to change. -/
def loopMask : Mask := ⟨loopFields, [.lanes, .slots, .bank2]⟩

/-! Histories and evaluation -/

@[simp] theorem loopView_preset (d : Dev) (k y : Nat) : (d.preset k y).calm.view loopMask = d.calm.view loopMask :=
  view_each (fun d j => by simp (disch := decide)) _ _

@[simp] theorem loopView_presetYc (d : Dev) (k : Nat) : (d.presetYc k).calm.view loopMask = d.calm.view loopMask := view_slot _ _ (by decide) _

@[simp] theorem loopView_pushE (d : Dev) (k e : Nat) : (d.pushE k e).calm.view loopMask = d.calm.view loopMask := by
  simp (disch := decide) [Dev.pushE]

@[simp] theorem loopView_pushY (d : Dev) (k y : Nat) : (d.pushY k y).calm.view loopMask = d.calm.view loopMask := by
  simp (disch := decide) [Dev.pushY]

@[simp] theorem loopView_slotNumeric (d : Dev) (k step : Nat) : (d.slotNumeric k step).calm.view loopMask = d.calm.view loopMask := by
  simp only [Dev.slotNumeric]
  generalize hx : d.each (k :: d.members k) _ = x
  have presets : x.calm.view loopMask = d.calm.view loopMask := by
    rw [← hx]
    exact view_each (fun d k => loopView_preset ..) _ _
  simp (disch := decide) [presets]

@[simp] theorem loopView_slotEval (d : Dev) (k : Nat) : (d.slotEval k).calm.view loopMask = d.calm.view loopMask := by
  have folded : ∀ (e : Dev) (l : List (Nat × Nat)) (x : Nat),
      (l.foldl (fun d m => (d.pushE m.1 x).pushY m.1 m.2) e).calm.view loopMask = e.calm.view loopMask := fun e l x =>
    view_each (fun d m => by simp) l e
  unfold Dev.slotEval
  extract_lets own a b x e ms acc accs yc ff yt d1 lo hi y high low holdRule pc holding d2 d3 d4
  have clean : d1.calm.view loopMask = d.calm.view loopMask := view_of_calm (calm_condOff ..) _
  have flags : d2.calm.view loopMask = d.calm.view loopMask := by simp (disch := decide) only [d2, view_setB, clean]
  have limits : d3.calm.view loopMask = d.calm.view loopMask := by
    simp (disch := decide) only [d3, view_ite, view_incSat, flags, ite_self]
  have histories : d4.calm.view loopMask = d.calm.view loopMask := by
    simp only [d4, view_ite, folded, loopView_pushE, loopView_pushY, limits, ite_self]
  simp (disch := decide) only [view_ite, loopView_slotNumeric, view_set, view_slot, histories, ite_self]

@[simp] theorem loopView_slotGo (d : Dev) (k : Nat) (late : Option Nat) : (d.slotGo k late).calm.view loopMask = d.calm.view loopMask := by
  simp only [Dev.slotGo]
  cases late <;> simp (disch := decide)

/-! The owners at a release -/

@[simp] theorem loopView_ownA (d : Dev) (k : Nat) (q : Rat) : (d.ownA k q).calm.view loopMask = d.calm.view loopMask := view_set (by decide) ..

@[simp] theorem loopView_arrFeed (d : Dev) (k : Nat) : (d.arrFeed k).calm.view loopMask = d.calm.view loopMask :=
  (view_each (fun _ _ => loopView_ownA ..) _ _).trans (view_each (fun _ _ => loopView_ownA ..) _ _)

@[simp] theorem loopView_osRelease (d : Dev) (k : Nat) : (d.osRelease k).calm.view loopMask = d.calm.view loopMask :=
  view_each (fun _ _ => loopView_ownA ..) _ _

@[simp] theorem loopView_colRelease (d : Dev) (k : Nat) : (d.colRelease k).calm.view loopMask = d.calm.view loopMask := by
  simp (disch := decide) [Dev.colRelease]

/-! SLOT_WRITE and TABLE_WRITE -/

@[simp] theorem loopView_slotCoeff (d : Dev) (k : Nat) (p : List Nat) : (d.slotCoeff k p).calm.view loopMask = d.calm.view loopMask :=
  (view_each (fun d j => view_set (by decide) ..) _ _).trans (view_each (fun d j => view_set (by decide) ..) _ _)

@[simp] theorem loopView_memberSync (d : Dev) : d.memberSync.calm.view loopMask = d.calm.view loopMask :=
  view_each (fun d k => view_setB (by decide) ..) _ _

@[simp] theorem loopView_slotPut (d : Dev) (k item : Nat) (p : List Nat) : (d.slotPut k item p).calm.view loopMask = d.calm.view loopMask := by
  unfold Dev.slotPut
  dsimp only
  split
  case h_5 => exact (view_each (fun d h => loopView_presetYc ..) _ _).trans (loopView_preset ..)
  all_goals simp (disch := decide)

@[simp] theorem loopView_scheduleSet (d : Dev) (preds : List (Nat × Nat)) : (d.scheduleSet preds).calm.view loopMask = d.calm.view loopMask := by
  simp only [Dev.scheduleSet]
  refine (view_set (by decide) ..).trans ((view_set (by decide) ..).trans (view_each (fun d x => ?_) _ _))
  simp (disch := decide)

@[simp] theorem loopView_slotWrite (d : Dev) (k item : Nat) (p : List Nat) : (d.slotWrite k item p).1.calm.view loopMask = d.calm.view loopMask := by
  unfold Dev.slotWrite
  dsimp only
  split
  · rfl
  · simp (disch := decide)

@[simp] theorem loopView_tableWrite (d : Dev) (t first : Nat) (ws : List Nat) : (d.tableWrite t first ws).calm.view loopMask = d.calm.view loopMask := by
  unfold Dev.tableWrite
  extract_lets d1 d2
  have entries : d1.calm.view loopMask = d.calm.view loopMask := view_each (fun d i => view_set (by decide) d _ t _ 0) _ d
  refine (view_inc (by decide) ..).trans ?_
  simp only [d2]
  split
  · exact entries
  · exact (view_set (by decide) ..).trans ((view_withBank2 _ (by decide) _).trans entries)

/-! The commands -/

theorem view_slotCommand {item : Nat} {c : HostCmd} {s t : State} (h : slotCommand item c s = .next t) :
    t.dev.calm.view loopMask = s.dev.calm.view loopMask :=
  view_onMain h fun d => view_checked (by decide) _ _ _ fun e => loopView_slotWrite ..

theorem view_loop {c : Instr} {s t : State} (hc : isLoop c = true) (h : exec c s = .next t) : t.dev.calm.view loopMask = s.dev.calm.view loopMask := by
  unfold exec at h
  cases c
  all_goals dsimp only at h
  case tableWrite c =>
    refine view_onMain h fun d => view_checked (by decide) _ _ _ fun e => ?_
    split
    · exact loopView_tableWrite ..
    · unfold Dev.fetchAer
      split <;> rfl
  case slotRelease k late =>
    refine view_onMain h fun d => view_atPhase _ fun e => ?_
    dsimp only
    simp
  case slotWriteCoefficients => exact view_slotCommand h
  case slotWriteLimits => exact view_slotCommand h
  case slotWriteInputs => exact view_slotCommand h
  case slotWriteFeedForward => exact view_slotCommand h
  case slotWriteHistoryPreset => exact view_slotCommand h
  case slotWriteConfiguration => exact view_slotCommand h
  case slotWriteInputScale => exact view_slotCommand h
  all_goals exact absurd hc Bool.false_ne_true

/-- Settles O56: a write reaches the slot's own words and the schedule's, a release its histories and its owner's inputs. -/
theorem loopFrame : Obligations.LoopFrame := by
  intro c s t hc h
  have v : t.dev.calm.view loopMask = s.dev.calm.view loopMask := view_loop hc h
  exact ⟨kept_of_view v, cells_of_view v (by decide), phases_of_view v (by decide), gates_of_view v (by decide), enc_of_view v (by decide),
    metCh_of_view v (by decide), metEl_of_view v (by decide), met_of_view v (by decide), ports_of_view v (by decide), hk_of_view v (by decide),
    keys_of_view v (by decide), fw_of_view v (by decide)⟩

end Sys2Proof.Machine
end

section
/-! SUPPORT. The frame of the wake sources, clocks and loans (R54 to R79). -/

namespace Sys2Proof.Machine

set_option Elab.async false

/-! A request refused (R79) -/

/-- What a refusal is free to change beside the hot fields: the harmonics' wait. -/
def refuseMask : Mask := ⟨[F.MET_HARM_SKIPPED.COUNT], [.met]⟩

@[simp] theorem calm_preFail (d : Dev) (s why : Nat) : (d.preFail s why).calm = d.calm := by
  simp [Dev.preFail]

theorem refuseView_refuseEffect (d : Dev) (op inst why : Nat) : (d.refuseEffect op inst why).calm.view refuseMask = d.calm.view refuseMask := by
  unfold Dev.refuseEffect
  split
  case h_1 => simp
  case h_4 => split <;> simp
  case h_5 => exact (view_inc (by decide) ..).trans (view_withMet _ (by decide) _)
  all_goals simp

theorem refuseView_refuse (d : Dev) (op inst why : Nat) : (d.refuse op inst why).calm.view refuseMask = d.calm.view refuseMask := by
  simp [Dev.refuse, Dev.refuseRec, refuseView_refuseEffect]

/-- The frame of a refusal, through every mask that frees as much. -/
theorem view_refuse {m : Mask} (h : refuseMask.le m = true) (d : Dev) (op inst why : Nat) : (d.refuse op inst why).calm.view m = d.calm.view m :=
  view_le h (refuseView_refuse ..)

/-! Wake sources -/

theorem view_wake {m : Mask} {cause : Fld} (h : m.frees cause = true) (d : Dev) (en : Fld) (cycles filt : Nat) :
    (d.wake en cause cycles filt).calm.view m = d.calm.view m := by
  simp [Dev.wake, h]

@[simp] theorem view_toCount {m : Mask} (d : Dev) (c : Nat) : (d.toCount c).calm.view m = d.calm.view m := by
  simp [Dev.toCount]

/-- What these commands are free to change. -/
def clockMask : Mask := ⟨clockFields, [.enc, .met]⟩

@[simp] theorem clockView_catp (d : Dev) (present : Bool) (cycles : Nat) : (d.catp present cycles).calm.view clockMask = d.calm.view clockMask := by
  simp (disch := decide) [Dev.catp, view_wake]

@[simp] theorem clockView_vinBack (d : Dev) : d.vinBack.calm.view clockMask = d.calm.view clockMask := by
  simp (disch := decide) [Dev.vinBack]

@[simp] theorem clockView_vsdo (d : Dev) (present : Bool) : (d.vsdo present).calm.view clockMask = d.calm.view clockMask := by
  simp [Dev.vsdo]

/-! Clocks -/

@[simp] theorem clockView_toEdge (d : Dev) : d.toEdge.calm.view clockMask = d.calm.view clockMask := by
  simp (disch := decide) [Dev.toEdge]

@[simp] theorem clockView_pllOff (d : Dev) (p : Nat) : (d.pllOff p).calm.view clockMask = d.calm.view clockMask := by
  simp (disch := decide) [Dev.pllOff]

@[simp] theorem view_stepSync {m : Mask} (d : Dev) : d.stepSync.calm.view m = d.calm.view m := by
  simp [Dev.stepSync]

@[simp] theorem view_freqSet {m : Mask} (d : Dev) (f : Nat) : (d.freqSet f).calm.view m = d.calm.view m := by
  simp [Dev.freqSet]

@[simp] theorem clockView_syncAcquire (d : Dev) (instant goal : Nat) : (d.syncAcquire instant goal).calm.view clockMask = d.calm.view clockMask := by
  simp (disch := decide) [Dev.syncAcquire]

/-! The commands -/

theorem view_clock {c : Instr} {s t : State} (hc : isClock c = true) (h : exec c s = .next t) : t.dev.calm.view clockMask = s.dev.calm.view clockMask := by
  unfold exec at h
  cases c
  all_goals dsimp only at h
  case wakePin x =>
    refine view_onReserve h fun d => ?_
    obtain ⟨input, high, cycles⟩ := x
    cases input
    case vwarn =>
      cases high
      · exact absurd hc Bool.false_ne_true
      · exact view_setB (by decide) ..
    all_goals simp (disch := decide) [view_wake]
  case catpWake => exact view_onReserve h fun d => clockView_catp ..
  case safetyInputWake n => exact view_onReserve h fun d => by simp (disch := decide)
  case canWake x =>
    refine view_onReserve h fun d => ?_
    simp (disch := decide) [view_wake]
  case alarm =>
    refine view_onReserve h fun d => ?_
    simp (disch := decide) [Dev.alarmWake, view_wake]
  case xkeepRcSwitch => exact view_onReserve h fun d => by simp (disch := decide)
  case xkeepRetry good => exact view_onReserve h fun d => by simp (disch := decide)
  case tickRecordWrite => exact view_onMain h fun d => view_fire _ fun e => rfl
  case pllStopTimeout p => exact view_onMain h fun d => view_fire _ fun e => by simp
  case pllsHopSearchDone n => exact view_onMain h fun d => view_fire _ fun e => by simp (disch := decide)
  case pllsHopSwitch => exact view_onMain h fun d => view_fire _ fun e => by simp (disch := decide)
  case syncInEdge instant =>
    refine view_onMain h fun d => ?_
    dsimp only
    split
    · exact view_until ..
    · split
      · exact view_until ..
      · simp
  case syncInLost =>
    refine view_onMain h fun d => ?_
    split
    · split
      · rfl
      · exact view_wait _ fun e => by simp (disch := decide)
    · rfl
  case pllsPstepDone => exact view_onMain h fun d => view_fire _ fun e => by simp (disch := decide)
  case loanRefusedWait op inst =>
    refine view_onMain h fun d => ?_
    split
    · rfl
    · exact view_wait _ fun e => (view_refuse (by decide) ..).trans (view_of_calm (calm_loanDrop ..) _)
  case lpddr5SelfRefreshEntry => exact view_onMain h fun d => view_fire _ fun e => by simp
  case lpddr5AccessAfterRefresh => exact view_onMain h fun d => view_of_calm (calm_lpddrTouch _) _
  case selfRefreshExitDone => exact view_onMain h fun d => view_fire _ fun e => by simp
  case loopEngineLoanReduction => exact view_onMain h fun d => view_fire _ fun e => by simp
  all_goals exact absurd hc Bool.false_ne_true

/-- Settles O54: what wakes the block, keeps its clocks or waits for a loan writes the register it shows in. -/
theorem clockFrame : Obligations.ClockFrame := by
  intro c s t hc h
  have v : t.dev.calm.view clockMask = s.dev.calm.view clockMask := view_clock hc h
  exact ⟨kept_of_view v, lanes_of_view v (by decide), cells_of_view v (by decide), slots_of_view v (by decide), bank2_of_view v (by decide),
    phases_of_view v (by decide), gates_of_view v (by decide), metCh_of_view v (by decide), metEl_of_view v (by decide), ports_of_view v (by decide),
    hk_of_view v (by decide), keys_of_view v (by decide), fw_of_view v (by decide)⟩

end Sys2Proof.Machine
end

section
/-! SUPPORT. The frame of the host rings', the log's and the Archive's events (R109 to R165, R484 to R499). -/

namespace Sys2Proof.Machine

set_option Elab.async false

/-- What these commands are free to change. -/
def hostMask : Mask := ⟨hostFields, []⟩

/-! Rings -/

theorem view_withRings {m : Mask} (d : Dev) (x : Rings) : ({ d with rings := x } : Dev).calm.view m = d.calm.view m := rfl
theorem view_fnSet {m : Mask} (d : Dev) (f : Nat) (g : PcieFn → PcieFn) : (d.fnSet f g).calm.view m = d.calm.view m := rfl

theorem view_pageWrite {m : Mask} (d : Dev) (s : Nat) : (d.pageWrite s).calm.view m = d.calm.view m := by
  unfold Dev.pageWrite
  extract_lets pg r i d1 rings d2 d3
  have pushed : d3.calm.view m = d.calm.view m := (view_of_calm (calm_writeBack ..) m).trans ((view_of_calm (calm_ringPush ..) m).trans rfl)
  split
  · rfl
  · split
    · exact (view_of_calm (calm_msix ..) m).trans pushed
    · exact pushed

@[simp] theorem hostView_ringOff (d : Dev) (r : Nat) (reach : Bool) : (d.ringOff r reach).calm.view hostMask = d.calm.view hostMask := by
  simp (disch := decide) [Dev.ringOff, view_pageWrite]

@[simp] theorem hostView_functionOff (d : Dev) (f : Nat) : (d.functionOff f).calm.view hostMask = d.calm.view hostMask := by
  unfold Dev.functionOff
  extract_lets d1 mine d2 rings
  have off : d1.calm.view hostMask = d.calm.view hostMask :=
    (view_fnSet _ f _).trans (view_each (fun d r => hostView_ringOff d r false) _ d)
  have quiet : d2.calm.view hostMask = d1.calm.view hostMask := view_each (fun d v => view_disarm d (.holdoff (64 * f + v))) _ d1
  exact (view_withRings d2 _).trans (quiet.trans off)

@[simp] theorem hostView_ringFault (d : Dev) (r code : Nat) : (d.ringFault r code).calm.view hostMask = d.calm.view hostMask := by
  simp (disch := decide) [Dev.ringFault]

@[simp] theorem hostView_stray (d : Dev) (r : Nat) : (d.stray r).calm.view hostMask = d.calm.view hostMask := by
  simp (disch := decide) [Dev.stray]

@[simp] theorem view_wdRestart {m : Mask} (d : Dev) : d.wdRestart.calm.view m = d.calm.view m := by
  simp only [Dev.wdRestart]
  split <;> simp

@[simp] theorem hostView_headBell (d : Dev) (f r v : Nat) : (d.headBell f r v).calm.view hostMask = d.calm.view hostMask := by
  simp (disch := decide) [Dev.headBell]

@[simp] theorem hostView_unstall (d : Dev) (q : Nat) : (d.unstall q).calm.view hostMask = d.calm.view hostMask := by
  simp (disch := decide) [Dev.unstall]

@[simp] theorem hostView_heldOut (d : Dev) (q : Nat) : (d.heldOut q).calm.view hostMask = d.calm.view hostMask := by
  unfold Dev.heldOut
  extract_lets mine d1 d2
  split
  · rfl
  · refine (view_each (fun e c => view_of_calm (calm_complete ..) _) _ _).trans ?_
    exact view_set (by decide) ..

@[simp] theorem hostView_ringStall (d : Dev) (q : Nat) : (d.ringStall q).calm.view hostMask = d.calm.view hostMask := by
  simp (disch := decide) [Dev.ringStall]

@[simp] theorem hostView_descTake (d : Dev) (q : Nat) (f : Fetch) : (d.descTake q f).calm.view hostMask = d.calm.view hostMask := by
  unfold Dev.descTake
  extract_lets i b x func beat d1 rings d2 d3 earliest d4 c
  have taken : d3.calm.view hostMask = d.calm.view hostMask := by
    refine (view_of_calm (calm_writeBack d2 q) _).trans ?_
    exact (view_inc (by decide) ..).trans (view_set (by decide) ..)
  split
  · exact (view_of_calm (calm_complete ..) _).trans taken
  · refine (view_pendSync (by decide) _).trans ?_
    exact (view_inc (by decide) ..).trans taken

@[simp] theorem hostView_streamTake (d : Dev) (s : Nat) : (d.streamTake s).calm.view hostMask = d.calm.view hostMask := by
  unfold Dev.streamTake
  extract_lets r nsig full d1 ws pg start pg1 d2 d3
  split
  · exact view_inc (by decide) ..
  · have armed : d3.calm.view hostMask = d.calm.view hostMask := by
      simp only [d3]
      split <;> rfl
    split
    · exact (view_pageWrite ..).trans armed
    · exact armed

@[simp] theorem hostView_wordRead (d : Dev) (f off : Nat) : (d.wordRead f off).1.calm.view hostMask = d.calm.view hostMask := by
  unfold Dev.wordRead
  extract_lets v a
  repeat' split
  all_goals rfl

/-! The commands -/

theorem view_host {c : Instr} {s t : State} (hc : isHost c = true) (h : exec c s = .next t) : t.dev.calm.view hostMask = s.dev.calm.view hostMask := by
  unfold exec at h
  cases c
  all_goals dsimp only at h
  case cmdqTailDoorbell f q v => exact view_onMain h fun d => by simp (disch := decide)
  case cplqHeadDoorbell f q v => exact view_onMain h fun d => by simp
  case evqHeadDoorbell f e v => exact view_onMain h fun d => by simp
  case strmHeadDoorbell f n v => exact view_onMain h fun d => hostView_headBell ..
  case descriptorAdmission q f => exact view_onMain h fun d => by simp
  case ringHostError r write => exact view_onMain h fun d => by simp
  case hostWdExpiry => exact view_onMain h fun d => view_fire _ fun e => by simp (disch := decide)
  case msixHoldoffExpiry f v => exact view_onMain h fun d => view_fire _ fun e => by simp
  case streamRecord n => exact view_onMain h fun d => by simp
  case streamPageAge n => exact view_onMain h fun d => view_fire _ fun e => by simp [view_pageWrite]
  case anchorTimed =>
    refine view_onMain h fun d => ?_
    split
    · exact view_wait _ fun e => view_of_calm (calm_anchor ..) _
    · rfl
  case logReadDone =>
    refine view_onMain h fun d => ?_
    split
    · simp
    · rfl
  case archiveFreeze => exact view_onMain h fun d => view_fire _ fun e => by simp (disch := decide)
  case arcDumpDone outcome =>
    refine view_onMain h fun d => ?_
    split
    · rfl
    · split
      · rfl
      · exact view_wait _ fun e => by simp (disch := decide)
  case arcMem ring segment => exact view_onMain h fun d => by simp
  case incidentEndC2 =>
    refine view_onMain h fun d => ?_
    split
    · exact view_wait _ fun e => view_of_calm (calm_incidentEnd _) _
    · rfl
  case errFaultHoldEnd =>
    refine view_onMain h fun d => ?_
    split
    · split
      · exact view_wait _ fun e => by simp (disch := decide)
      · rfl
    · rfl
  case lowWordRead f x =>
    refine view_onMain h fun d => ?_
    split
    · rfl
    · split
      · exact hostView_wordRead ..
      · rfl
  case pcieLinkUp => exact view_onMain h fun d => rfl
  case perstNLow => exact view_onMain h fun d => by simp
  case pcieLinkLoss => exact view_onMain h fun d => by simp
  case functionLevelReset f => exact view_onMain h fun d => hostView_functionOff ..
  all_goals exact absurd hc Bool.false_ne_true

/-- Settles O53: each event writes its ring's or its image's registers. -/
theorem hostFrame : Obligations.HostFrame := by
  intro c s t hc h
  have v : t.dev.calm.view hostMask = s.dev.calm.view hostMask := view_host hc h
  exact ⟨kept_of_view v, cells_of_view v (by decide), bank2_of_view v (by decide),
    phases_of_view v (by decide), gates_of_view v (by decide), enc_of_view v (by decide), metCh_of_view v (by decide), metEl_of_view v (by decide),
    met_of_view v (by decide), ports_of_view v (by decide), hk_of_view v (by decide), keys_of_view v (by decide), fw_of_view v (by decide)⟩

end Sys2Proof.Machine
end

section
/-! SUPPORT. What the shared operations of several chapters leave in view: checks that pass, requests filed, gate channels and stages, safety pairs; and the
frame of the commands of the module, the safety commit, the output groups, the collector, the Archive and the log. -/

namespace Sys2Proof.Machine

set_option Elab.async false

/-! Checks (R101) -/

/-- What shows the checks that failed. -/
def failMask : Mask := ⟨[F.GLB_STAGE_FAIL.CODE, F.GLB_STAGE_FAIL.OBJECT, F.GLB_STAGE_FAIL.COUNT, F.GLB_STAGE_LANES.FAILED], []⟩

theorem failView_failSync (d : Dev) : d.failSync.calm.view failMask = d.calm.view failMask := by
  unfold Dev.failSync
  extract_lets l d1
  refine (view_each (fun d w => view_set (by decide) ..) _ _).trans ?_
  simp (disch := decide) [d1]

theorem view_checkPass {m : Mask} (h : failMask.le m = true) (d : Dev) (code obj : Nat) : (d.checkPass code obj).calm.view m = d.calm.view m := by
  refine view_le h ?_
  unfold Dev.checkPass
  split
  · exact failView_failSync _
  · rfl

/-! Loans and clocks asked for (R64, R77) -/

theorem view_loanFile {m : Mask} (h : refuseMask.le m = true) (d : Dev) (op inst : Nat) : (d.loanFile op inst).calm.view m = d.calm.view m := by
  have refused : ∀ (e : Dev) (why : Nat), (e.refuse op inst why).calm.view m = e.calm.view m := fun e why => view_refuse h e op inst why
  unfold Dev.loanFile
  extract_lets cost d1 mine
  have waits : d1.calm.view m = d.calm.view m := view_of_calm (calm_waitSync _) m
  split
  · exact refused ..
  · split
    · exact refused ..
    · split
      · exact (refused ..).trans ((view_of_calm (calm_loanDrop ..) m).trans waits)
      · exact waits

theorem view_pllAsk {m : Mask} (h : refuseMask.le m = true) (d : Dev) (p : Nat) : (d.pllAsk p).calm.view m = d.calm.view m := by
  simp only [Dev.pllAsk]
  split
  · rfl
  · exact (view_loanFile h ..).trans (view_of_calm (calm_setB _ _ _ _ _ _ (by decide)) m)

theorem view_pllDemand {m : Mask} (h : refuseMask.le m = true) (d : Dev) (p user : Nat) : (d.pllDemand p user).calm.view m = d.calm.view m :=
  (view_pllAsk h ..).trans (view_of_calm (calm_setB _ _ _ _ _ _ (by decide)) m)

/-! Gate channels and stages (R358 to R388) -/

/-- What a command to a channel's level is free to change: the trip it may meet, and what the gate unit remembers. -/
def gateMask : Mask := ⟨[F.GD_STATUS.TRIP, F.GD_TRIP_TICK.SUBTICK, F.GD_TRIP_TICK.TICK, F.GD_TRIP_COUNT.COUNT], [.gates]⟩

@[simp] theorem calm_stagesTrip (d : Dev) (ss : List Nat) : (d.stagesTrip ss).calm = d.calm :=
  (calm_cond _ _ (·.colHeld) (calm_colHeld _)).trans (calm_softOffs ..)

@[simp] theorem calm_stageTrip (d : Dev) (s : Nat) : (d.stageTrip s).calm = d.calm := calm_stagesTrip ..

@[simp] theorem gateView_gdAct (d : Dev) (x instant : Nat) : (d.gdAct x instant).calm.view gateMask = d.calm.view gateMask := by
  unfold Dev.gdAct
  extract_lets d1 i d2 d3 d4
  have latched : d3.calm.view gateMask = d.calm.view gateMask := by simp (disch := decide) [d3, d2, d1]
  have tripped : d4.calm.view gateMask = d3.calm.view gateMask := by
    simp only [d4]
    split
    · simp
    · rfl
  exact (view_of_calm (calm_raise ..) _).trans (tripped.trans latched)

@[simp] theorem gateView_pwRise (d : Dev) (c l : Nat) : (d.pwRise c l).calm.view gateMask = d.calm.view gateMask := by
  simp (disch := decide) [Dev.pwRise]

@[simp] theorem gateView_forceUp (d : Dev) (c l : Nat) : (d.forceUp c l).calm.view gateMask = d.calm.view gateMask := by
  simp [Dev.forceUp]

@[simp] theorem gateView_forceAgain (d : Dev) (c : Nat) : (d.forceAgain c).calm.view gateMask = d.calm.view gateMask := by
  simp [Dev.forceAgain]

@[simp] theorem view_pwOff {m : Mask} (d : Dev) (c : Nat) : (d.pwOff c).calm.view m = d.calm.view m := by
  simp [Dev.pwOff]

@[simp] theorem view_deadStart {m : Mask} (d : Dev) (c : Nat) (l : Option Nat) : (d.deadStart c l).calm.view m = d.calm.view m := by
  simp [Dev.deadStart]

@[simp] theorem gateView_pwOn (d : Dev) (c : Nat) : (d.pwOn c).calm.view gateMask = d.calm.view gateMask := by
  unfold Dev.pwOn
  split
  · rfl
  · split <;> simp

@[simp] theorem gateView_pwDrive (d : Dev) (e : Nat) : (d.pwDrive e).calm.view gateMask = d.calm.view gateMask := by
  unfold Dev.pwDrive
  split
  · exact gateView_pwOn ..
  · split <;> simp
  · simp

theorem view_pwDrive {m : Mask} (h : gateMask.le m = true) (d : Dev) (e : Nat) : (d.pwDrive e).calm.view m = d.calm.view m := view_le h (gateView_pwDrive ..)
theorem view_forceAgain {m : Mask} (h : gateMask.le m = true) (d : Dev) (c : Nat) : (d.forceAgain c).calm.view m = d.calm.view m :=
  view_le h (gateView_forceAgain ..)

/-- What the start of a stage is free to change beside that. -/
def stageMask : Mask := ⟨F.GD_STATUS.LOCKED :: gateMask.regs, [.gates]⟩

@[simp] theorem stageView_lockSync (d : Dev) (x : Nat) : (d.lockSync x).calm.view stageMask = d.calm.view stageMask := by
  simp only [Dev.lockSync]
  split
  · simp (disch := decide) [view_forceAgain]
  · exact view_setB (by decide) ..

@[simp] theorem stageView_stageStart (d : Dev) (s : Nat) (cs : List Nat) : (d.stageStart s cs).calm.view stageMask = d.calm.view stageMask := by
  unfold Dev.stageStart
  split
  · rfl
  · refine (view_each (fun d c => ?_) _ _).trans (view_setB (by decide) ..)
    simp (disch := decide) [view_forceAgain]

theorem view_stageStart {m : Mask} (h : stageMask.le m = true) (d : Dev) (s : Nat) (cs : List Nat) : (d.stageStart s cs).calm.view m = d.calm.view m :=
  view_le h (stageView_stageStart ..)

/-! Safety pairs (R502 to R508) -/

/-- What a pair shows, and the step of the reset. -/
def pairMask : Mask := ⟨[F.SAF_PAIR_STATUS.A, F.SAF_PAIR_STATUS.B, F.SAF_PAIR_STATUS.CHATTER, F.SAF_PAIR_STATUS.C_DEMAND, F.SAF_PAIR_STATUS.DEMAND,
  F.SAF_PAIR_STATUS.DISC_FAULT, F.SAF_PAIR_STATUS.TRANS, F.SAF_PAIR_STATUS.WINDOW, F.SAF_STATE.DEMAND, F.SAF_STATE.FAULT, F.SAF_STATE.RESET_STEP,
  F.SAF_PAIR_DEMANDS.COUNT], []⟩

@[simp] theorem pairView_safSync (d : Dev) : d.safSync.calm.view pairMask = d.calm.view pairMask :=
  view_each (fun d n => by simp (disch := decide)) _ _

@[simp] theorem pairView_sdoCheck (d : Dev) : d.sdoCheck.calm.view pairMask = d.calm.view pairMask := by
  simp [Dev.sdoCheck]

@[simp] theorem pairView_resetAbort (d : Dev) (what : Nat) : (d.resetAbort what).calm.view pairMask = d.calm.view pairMask := by
  simp (disch := decide) [Dev.resetAbort]

@[simp] theorem pairView_demandBegin (d : Dev) (part n : Nat) : (d.demandBegin part n).calm.view pairMask = d.calm.view pairMask := by
  simp (disch := decide) [Dev.demandBegin]

section
variable {m : Mask} (h : pairMask.le m = true) (d : Dev)
include h
theorem view_sdoCheck : d.sdoCheck.calm.view m = d.calm.view m := view_le h (pairView_sdoCheck _)
theorem view_resetAbort (what : Nat) : (d.resetAbort what).calm.view m = d.calm.view m := view_le h (pairView_resetAbort ..)
theorem view_demandBegin (part n : Nat) : (d.demandBegin part n).calm.view m = d.calm.view m := view_le h (pairView_demandBegin ..)
end

end Sys2Proof.Machine
end

section
/-! SUPPORT. The frame of the commands of the module, the log, the Archive, the safety commit, STOP, LOCKOUT_RESET, the output groups and the collector. -/

namespace Sys2Proof.Machine

set_option Elab.async false

/-- What these commands are free to change. -/
def moduleMask : Mask := ⟨commandFields, [.cells, .slots, .gates, .met, .mram]⟩

/-! The module and the safety commit -/

@[simp] theorem view_fetchAer {m : Mask} (d : Dev) (c : HostCmd) : (d.fetchAer c).calm.view m = d.calm.view m := by
  simp [Dev.fetchAer]

@[simp] theorem moduleView_fwUpdate (d : Dev) (c : HostCmd) : (d.fwUpdate c).1.calm.view moduleMask = d.calm.view moduleMask := by
  unfold Dev.fwUpdate
  split
  · exact view_withMram _ (by decide) _
  · exact view_fetchAer ..

@[simp] theorem moduleView_keyEnrol (d : Dev) (c : HostCmd) : (d.keyEnrol c).1.calm.view moduleMask = d.calm.view moduleMask := by
  unfold Dev.keyEnrol
  split
  · split
    · exact view_withMram _ (by decide) _
    · rfl
  · exact view_fetchAer ..

@[simp] theorem moduleView_keyChange (d : Dev) (c : HostCmd) : (d.keyChange c).1.calm.view moduleMask = d.calm.view moduleMask := by
  unfold Dev.keyChange
  split
  · extract_lets good ks1 ks2
    split
    · rfl
    · exact view_withMram _ (by decide) _
  · exact view_fetchAer ..

@[simp] theorem moduleView_laneDetect (d : Dev) (k : Nat) : (d.laneDetect k).calm.view moduleMask = d.calm.view moduleMask := by
  simp (disch := decide) [Dev.laneDetect, Dev.xcvrWatch]

@[simp] theorem moduleView_lanesRetry (d : Dev) : d.lanesRetry.calm.view moduleMask = d.calm.view moduleMask := by
  unfold Dev.lanesRetry Dev.lanesStage
  extract_lets ks d1
  have detect : d1.calm.view moduleMask = d.calm.view moduleMask := by
    refine (view_each (fun d k => ?_) _ _).trans (view_each (fun d k => view_setB (by decide) ..) _ _)
    split
    · simp [Dev.xcvrWatch]
    · simp
  refine (view_each (fun d g => ?_) _ _).trans detect
  split
  · rfl
  · exact view_loanFile (by decide) ..

@[simp] theorem moduleView_unstage (d : Dev) : d.unstage.calm.view moduleMask = d.calm.view moduleMask := by
  simp (disch := decide) [Dev.unstage]

@[simp] theorem moduleView_safetyStage (d : Dev) (o : Orig) (b : List Nat) : (d.safetyStage o b).calm.view moduleMask = d.calm.view moduleMask := by
  simp (disch := decide) [Dev.safetyStage, Dev.safetyLog]

@[simp] theorem moduleView_safetyApply (d : Dev) (b : List Nat) (fresh : Bool) : (d.safetyApply b fresh).calm.view moduleMask = d.calm.view moduleMask := by
  unfold Dev.safetyApply
  extract_lets d1 prov d2 d3
  have words : d2.calm.view moduleMask = d.calm.view moduleMask := (view_set (by decide) ..).trans (view_set (by decide) ..)
  refine (view_sdoCheck (by decide) _).trans ((view_each (fun e n => ?_) _ _).trans words)
  simp (disch := decide) [view_demandBegin]

@[simp] theorem moduleView_safeBegin (d : Dev) (b : List Nat) : (d.safeBegin b).calm.view moduleMask = d.calm.view moduleMask := by
  unfold Dev.safeBegin Dev.safeStore
  split <;> rfl

@[simp] theorem moduleView_safetyConfirm (d : Dev) (c : HostCmd) : (d.safetyConfirm c).1.calm.view moduleMask = d.calm.view moduleMask := by
  unfold Dev.safetyConfirm
  split
  · rfl
  · simp (disch := decide) [apply_ite Prod.fst, Dev.safetyLog, Dev.safetyMatch]

@[simp] theorem moduleView_lockoutReset (d : Dev) (c : HostCmd) : (d.lockoutReset c).1.calm.view moduleMask = d.calm.view moduleMask := by
  unfold Dev.lockoutReset
  split
  · rfl
  · split
    · rfl
    · exact view_set (by decide) ..

/-! Output groups and the collector -/

@[simp] theorem moduleView_grpEnable (d : Dev) (g : Nat) : (d.grpEnable g).1.calm.view moduleMask = d.calm.view moduleMask := by
  unfold Dev.grpEnable
  split
  · refine (view_loanFile (by decide) ..).trans ((view_set (by decide) ..).trans (view_each (fun d k => ?_) _ _))
    simp (disch := decide)
  · rfl

@[simp] theorem moduleView_grpDisable (d : Dev) (g : Nat) : (d.grpDisable g).1.calm.view moduleMask = d.calm.view moduleMask := by
  simp [Dev.grpDisable, apply_ite Prod.fst]

@[simp] theorem moduleView_colOff (d : Dev) : d.colOff.calm.view moduleMask = d.calm.view moduleMask := by
  have legs : ∀ l : List Nat, (d.each l fun d e => (d.pw e fun p => { p with length := 0 }).pwDrive e).calm.view moduleMask = d.calm.view moduleMask :=
    fun l => view_each (fun d e => (view_pwDrive (by decide) ..).trans (view_pw ..)) l d
  simp (disch := decide) [Dev.colOff, legs]

@[simp] theorem moduleView_colBrake (d : Dev) : d.colBrake.calm.view moduleMask = d.calm.view moduleMask := by
  have shadows : ∀ (e : Dev) (l : List Nat), (e.each l fun d c => d.set F.PW_SHADOW.CMP 0 c).calm.view moduleMask = e.calm.view moduleMask :=
    fun e l => view_each (fun d c => view_set (by decide) ..) l e
  simp (disch := decide) [Dev.colBrake, shadows]

@[simp] theorem moduleView_colStart (d : Dev) : d.colStart.calm.view moduleMask = d.calm.view moduleMask := by
  unfold Dev.colStart Dev.hallFault
  extract_lets d1 per len d2 c r d3 d4 h
  have started : d2.calm.view moduleMask = d.calm.view moduleMask :=
    (view_each (fun d e => (view_pw ..).trans (view_set (by decide) ..)) _ _).trans (view_stageStart (by decide) ..)
  have counted : d4.calm.view moduleMask = d.calm.view moduleMask := ((view_inc (by decide) ..).trans (view_set (by decide) ..)).trans started
  split
  · simp (disch := decide) [counted]
  · exact counted

@[simp] theorem moduleView_colReady (d : Dev) : d.colReady.calm.view moduleMask = d.calm.view moduleMask := by
  simp [Dev.colReady]

@[simp] theorem moduleView_colMove (d : Dev) (item : Nat) (target : Int) (speed accel : Nat) (exempt : Bool) :
    (d.colMove item target speed accel exempt).calm.view moduleMask = d.calm.view moduleMask := by
  have plan : (d.colPlan item target speed accel).calm.view moduleMask = d.calm.view moduleMask := view_setS (by decide) ..
  simp (disch := decide) [Dev.colMove, plan, view_loanFile, view_pllDemand]

@[simp] theorem moduleView_colCommand (d : Dev) (item : Nat) (p1 : Int) (speed accel : Nat) :
    (d.colCommand item p1 speed accel).1.calm.view moduleMask = d.calm.view moduleMask := by
  unfold Dev.colCommand
  extract_lets target d1 s col
  split
  · rfl
  · have restart : d1.calm.view moduleMask = d.calm.view moduleMask := by
      simp (disch := decide) [d1, view_stageStart]
    refine Eq.trans ?_ restart
    dsimp only
    split
    · split
      · rfl
      · split <;> rfl
    all_goals simp

/-! The log and the Archive -/

@[simp] theorem moduleView_logRead (d : Dev) (c : HostCmd) : (d.logRead c).1.calm.view moduleMask = d.calm.view moduleMask := by
  simp [Dev.logRead, apply_ite Prod.fst]

/-! The commands -/

theorem view_moveCommand {item : Nat} {c : HostCmd} {s t : State} (h : moveCommand item c s = .next t) :
    t.dev.calm.view moduleMask = s.dev.calm.view moduleMask :=
  view_onMain h fun _ => view_checked (by decide) _ _ _ fun _ => moduleView_colCommand ..

theorem view_module {c : Instr} {s t : State} (hc : isCommand c = true) (h : exec c s = .next t) :
    t.dev.calm.view moduleMask = s.dev.calm.view moduleMask := by
  unfold exec at h
  cases c
  all_goals dsimp only at h
  case nop c => exact view_onMain h fun d => view_simple (by decide) _ _ _ fun e => rfl
  case fwUpdate c => exact view_onMain h fun d => view_checked (by decide) _ _ _ fun e => moduleView_fwUpdate ..
  case keyEnrol c => exact view_onMain h fun d => view_checked (by decide) _ _ _ fun e => moduleView_keyEnrol ..
  case keyChange c => exact view_onMain h fun d => view_checked (by decide) _ _ _ fun e => moduleView_keyChange ..
  case setFloor c =>
    exact view_onMain h fun d => view_simple (by decide) _ _ _ fun e => (view_withMram _ (by decide) _).trans (view_set (by decide) ..)
  case stageRetry c =>
    refine view_onMain h fun d => view_simple (by decide) _ _ _ fun e => (moduleView_lanesRetry _).trans (view_each (fun d x => ?_) _ _)
    simp (disch := decide) [view_checkPass]
  case safetyCommitStage c =>
    refine view_onMain h fun d => view_checked (by decide) _ _ _ fun e => ?_
    split
    · exact moduleView_safetyStage ..
    · exact view_fetchAer ..
  case safetyCrcDone faultC faultD =>
    refine view_onMain h fun d => ?_
    split
    · split
      · rfl
      · simp (disch := decide)
    · rfl
  case safetyCommitConfirm c => exact view_onMain h fun d => view_command (by decide) _ _ _ fun e => moduleView_safetyConfirm ..
  case safetyCommitDiscard c => exact view_onMain h fun d => view_simple (by decide) _ _ _ fun e => by simp [Dev.safetyLog]
  case stop c => exact view_onMain h fun d => view_simple (by decide) _ _ _ fun e => by simp
  case lockoutReset c => exact view_onMain h fun d => view_checked (by decide) _ _ _ fun e => moduleView_lockoutReset ..
  case groupEnable c => exact view_onMain h fun d => view_command (by decide) _ _ _ fun e => by simp [apply_ite Prod.fst]
  case groupDisable c => exact view_onMain h fun d => view_command (by decide) _ _ _ fun e => moduleView_grpDisable ..
  case moveTo => exact view_moveCommand h
  case track => exact view_moveCommand h
  case hold => exact view_moveCommand h
  case driveOff => exact view_moveCommand h
  case home => exact view_moveCommand h
  case park => exact view_moveCommand h
  case archiveTrigger c => exact view_onMain h fun d => view_command (by decide) _ _ _ fun e => by simp
  case archiveDump c =>
    refine view_onMain h fun d => view_command (by decide) _ _ _ fun e => ?_
    split
    · rfl
    · exact view_loanFile (by decide) ..
  case archiveRelease c => exact view_onMain h fun d => view_checked (by decide) _ _ _ fun e => by simp (disch := decide) [apply_ite Prod.fst]
  case logRead c => exact view_onMain h fun d => view_command (by decide) _ _ _ fun e => moduleView_logRead ..
  all_goals exact absurd hc Bool.false_ne_true

/-- Settles O55: each command writes its own chapter's registers and, where it starts a stage or a pair, those of its channels. -/
theorem commandFrame : Obligations.CommandFrame := by
  intro c s t hc h
  have v : t.dev.calm.view moduleMask = s.dev.calm.view moduleMask := view_module hc h
  exact ⟨kept_of_view v, lanes_of_view v (by decide), bank2_of_view v (by decide), phases_of_view v (by decide), enc_of_view v (by decide),
    metCh_of_view v (by decide), metEl_of_view v (by decide), ports_of_view v (by decide), hk_of_view v (by decide)⟩

end Sys2Proof.Machine
end

section
/-! SUPPORT. What a check that fails (R101, R102), the loss of a lane (R169, R199) and of its cell (R266) leave in view. -/

namespace Sys2Proof.Machine

set_option Elab.async false

/-! Requests that do not wait for the harmonics -/

theorem calm_refuse (d : Dev) {op : Nat} (h : op ≠ 7) (inst why : Nat) : (d.refuse op inst why).calm = d.calm := by
  have effect : ∀ e : Dev, (e.refuseEffect op inst why).calm = e.calm := fun e => by
    unfold Dev.refuseEffect
    split
    case h_5 => exact absurd rfl h
    case h_4 => split <;> simp
    all_goals simp [apply_ite Dev.calm]
  simp [Dev.refuse, Dev.refuseRec, h, effect]

theorem calm_loanFile (d : Dev) {op : Nat} (h : op ≠ 7) (inst : Nat) : (d.loanFile op inst).calm = d.calm := by
  simp [Dev.loanFile, calm_refuse _ h, apply_ite Dev.calm]

@[simp] theorem calm_groupFile (d : Dev) : d.groupFile.calm = d.calm := by
  refine calm_each _ _ _ fun e g => ?_
  split
  · rfl
  · exact calm_loanFile _ (by decide) _

/-! A check that fails -/

/-- What a check that fails is free to change: what shows it, and what entry to STAGED presets (R299, R406). -/
def checkMask : Mask := ⟨[F.GLB_STAGE_FAIL.CODE, F.GLB_STAGE_FAIL.OBJECT, F.GLB_STAGE_FAIL.COUNT, F.GLB_STAGE_LANES.FAILED, F.LANE_STATUS.FAIL, F.SLOT_E.E,
  F.SLOT_Y.Y, F.COL_STATUS.REFERENCED, F.COL_STATUS.VALID], [.slots]⟩

@[simp] theorem checkView_preset (d : Dev) (k y : Nat) : (d.preset k y).calm.view checkMask = d.calm.view checkMask :=
  view_each (fun d j => by simp (disch := decide)) _ _

@[simp] theorem checkView_loopEntry (d : Dev) (full : Bool) : (d.loopEntry full).calm.view checkMask = d.calm.view checkMask :=
  (view_each (fun d k => view_slot d k (by decide) _) _ _).trans (view_each (fun d k => checkView_preset ..) _ _)

@[simp] theorem checkView_stagedEntry (d : Dev) : d.stagedEntry.calm.view checkMask = d.calm.view checkMask := by
  simp (disch := decide) [Dev.stagedEntry]

@[simp] theorem checkView_setState (d : Dev) (s : Nat) (o : Orig) : (d.setState s o).calm.view checkMask = d.calm.view checkMask := by
  have unproven : ∀ e : Dev, (e.each (List.range 32) fun d x =>
      d.setB F.GD_STATUS.UNPROVEN (d.bit F.GD_CFG.BOOTSTRAP x && d.bit F.GD_CFG.DECLARED x) x).calm.view checkMask = e.calm.view checkMask :=
    fun e => view_each (fun d x => view_setB (by decide) ..) _ _
  have brake : ∀ e : Dev, (e.each [24, 25] fun d c => d.level c 0).calm.view checkMask = e.calm.view checkMask :=
    fun e => view_each (fun d c => view_of_calm (calm_level ..) _) _ _
  unfold Dev.setState
  extract_lets old d1 d2 a d3 d4 d5 d6 d7
  have entered : d2.calm.view checkMask = d.calm.view checkMask := by simp [d2, d1]
  have archive : d3.calm.view checkMask = d.calm.view checkMask := by simp [d3, entered]
  have silent : d4.calm.view checkMask = d.calm.view checkMask := by simp [d4, archive]
  have proofs : d5.calm.view checkMask = d.calm.view checkMask := by simp [d5, unproven, silent]
  have unarmed : d6.calm.view checkMask = d.calm.view checkMask := by simp [d6, proofs]
  have braked : d7.calm.view checkMask = d.calm.view checkMask := by simp [d7, brake, unarmed, proofs]
  simp [braked]

@[simp] theorem checkView_checkFail (d : Dev) (code obj : Nat) : (d.checkFail code obj).calm.view checkMask = d.calm.view checkMask := by
  unfold Dev.checkFail
  extract_lets arr d1 d2
  split
  · have shown : d2.calm.view checkMask = d.calm.view checkMask := by
      refine (view_cond _ (view_set (by decide) ..)).trans ((view_of_calm (calm_raise ..) _).trans ?_)
      exact view_le (m := failMask) (by decide) (failView_failSync _)
    split
    · simp [shown]
    · exact shown
  · rfl

theorem view_checkFail {m : Mask} (h : checkMask.le m = true) (d : Dev) (code obj : Nat) : (d.checkFail code obj).calm.view m = d.calm.view m :=
  view_le h (checkView_checkFail ..)

@[simp] theorem checkView_check (d : Dev) (code obj : Nat) (ok : Bool) : (d.check code obj ok).calm.view checkMask = d.calm.view checkMask := by
  unfold Dev.check
  split
  · exact view_checkPass (by decide) ..
  · exact checkView_checkFail ..

theorem view_check {m : Mask} (h : checkMask.le m = true) (d : Dev) (code obj : Nat) (ok : Bool) : (d.check code obj ok).calm.view m = d.calm.view m :=
  view_le h (checkView_check ..)

/-! A lane and its cell -/

/-- What the loss of a lane is free to change: the lane's own registers, the cell's role and carrier, and what follows a check. -/
def laneMask : Mask := ⟨checkMask.regs ++ [F.GLB_ESAP.TICKS, F.LANE_CNT.COUNT, F.LANE_STATUS.STATE, F.LANE_STATUS.MODE, F.LANE_STATUS.HELD,
  F.LANE_STATUS.STEP, F.LANE_STATUS.ATTEMPT, F.LANE_STATUS.SYM_LOCK, F.LANE_STATUS.BLK_LOCK, F.LANE_STATUS.FRM_LOCK, F.LANE_STATUS.PEER_LOCKED,
  F.ARR_STRING_STATUS.ACTIVE, F.ARR_STRING_STATUS.BYPASSED, F.ARR_STRING_STATUS.ABSENT, F.ARR_STRING_STATUS.RESPREAD, F.CELL_CARRIER.PHASE,
  F.CELL_STATUS.ROLE], [.lanes, .cells, .slots]⟩

@[simp] theorem laneView_stringSync (d : Dev) (s : Nat) : (d.stringSync s).calm.view laneMask = d.calm.view laneMask := by
  simp (disch := decide) [Dev.stringSync]

@[simp] theorem laneView_carMove (d : Dev) (k phi : Nat) : (d.carMove k phi).calm.view laneMask = d.calm.view laneMask := by
  simp only [Dev.carMove]
  split
  · simp (disch := decide)
  · exact view_set (by decide) ..

@[simp] theorem laneView_respreadString (d : Dev) (s : Nat) : (d.respreadString s).calm.view laneMask = d.calm.view laneMask :=
  (view_setB (by decide) ..).trans (view_each (fun d j => laneView_carMove ..) _ _)

@[simp] theorem laneView_setRole (d : Dev) (k r : Nat) : (d.setRole k r).calm.view laneMask = d.calm.view laneMask := by
  simp (disch := decide) [Dev.setRole]

@[simp] theorem view_redundancy {m : Mask} (d : Dev) (s : Nat) (always : Bool) : (d.redundancy s always).calm.view m = d.calm.view m := by
  simp [Dev.redundancy]

@[simp] theorem laneView_cellLost (d : Dev) (k : Nat) : (d.cellLost k).calm.view laneMask = d.calm.view laneMask := by
  simp (disch := decide) [Dev.cellLost]

@[simp] theorem laneView_laneSend (d : Dev) (t : Nat) (o : Out) : (d.laneSend t o).calm.view laneMask = d.calm.view laneMask := by
  unfold Dev.laneSend
  split
  · exact (view_lane _ _ (by decide) _).trans (view_emit ..)
  · exact view_emit ..

@[simp] theorem laneView_capDnSend (d : Dev) (k t per n : Nat) : (d.capDnSend k t per n).calm.view laneMask = d.calm.view laneMask :=
  view_each (fun _ _ => laneView_laneSend ..) _ _

@[simp] theorem laneView_capDnDue (d : Dev) (k : Nat) : (d.capDnDue k).calm.view laneMask = d.calm.view laneMask := by
  unfold Dev.capDnDue
  split
  · simp (disch := decide)
  · rfl

/-- The locks that end with a lane. -/
def laneLocks : List Fld := [F.LANE_STATUS.SYM_LOCK, F.LANE_STATUS.BLK_LOCK, F.LANE_STATUS.FRM_LOCK, F.LANE_STATUS.PEER_LOCKED]

theorem laneView_locksOff (d : Dev) (k : Nat) : (d.each laneLocks fun d f => d.setB f false k).calm.view laneMask = d.calm.view laneMask := by
  simp (disch := decide) [laneLocks, Dev.each]

@[simp] theorem laneView_laneStill (d : Dev) (k : Nat) : (d.laneStill k).calm.view laneMask = d.calm.view laneMask := by
  unfold Dev.laneStill
  extract_lets d1 d2
  have quiet : d1.calm.view laneMask = d.calm.view laneMask := (view_each (fun d t => view_disarm d t) _ _).trans (laneView_capDnDue ..)
  have locks : d2.calm.view laneMask = d.calm.view laneMask := (laneView_locksOff d1 k).trans quiet
  simp (disch := decide) [locks]

@[simp] theorem view_groupSync {m : Mask} (d : Dev) (g : Nat) : (d.groupSync g).calm.view m = d.calm.view m := by
  simp [Dev.groupSync]

@[simp] theorem laneView_esapSync (d : Dev) : d.esapSync.calm.view laneMask = d.calm.view laneMask := by
  unfold Dev.esapSync
  extract_lets ks d1 ds
  have shown : d1.calm.view laneMask = d.calm.view laneMask := view_set (by decide) ..
  split
  · exact (view_each (fun d k => view_check (by decide) ..) _ _).trans shown
  · exact shown

@[simp] theorem laneView_laneOff (d : Dev) (k : Nat) : (d.laneOff k).calm.view laneMask = d.calm.view laneMask := by
  simp (disch := decide) [Dev.laneOff]

@[simp] theorem laneView_laneLoss (d : Dev) (k : Nat) : (d.laneLoss k).calm.view laneMask = d.calm.view laneMask := by
  simp (disch := decide) [Dev.laneLoss]

@[simp] theorem laneView_attemptStart (d : Dev) (k n : Nat) : (d.attemptStart k n).calm.view laneMask = d.calm.view laneMask := by
  simp (disch := decide) [Dev.attemptStart]

@[simp] theorem laneView_laneRetrain (d : Dev) (k code : Nat) : (d.laneRetrain k code).calm.view laneMask = d.calm.view laneMask := by
  simp (disch := decide) [Dev.laneRetrain, Dev.laneCnt, view_checkFail]

section
variable {m : Mask} (h : laneMask.le m = true) (d : Dev) (k : Nat)
include h
theorem view_setRole (r : Nat) : (d.setRole k r).calm.view m = d.calm.view m := view_le h (laneView_setRole ..)
theorem view_laneSend (o : Out) : (d.laneSend k o).calm.view m = d.calm.view m := view_le h (laneView_laneSend ..)
theorem view_capDnDue : (d.capDnDue k).calm.view m = d.calm.view m := view_le h (laneView_capDnDue ..)
theorem view_laneStill : (d.laneStill k).calm.view m = d.calm.view m := view_le h (laneView_laneStill ..)
theorem view_esapSync : d.esapSync.calm.view m = d.calm.view m := view_le h (laneView_esapSync _)
theorem view_laneOff : (d.laneOff k).calm.view m = d.calm.view m := view_le h (laneView_laneOff ..)
theorem view_laneLoss : (d.laneLoss k).calm.view m = d.calm.view m := view_le h (laneView_laneLoss ..)
theorem view_attemptStart (n : Nat) : (d.attemptStart k n).calm.view m = d.calm.view m := view_le h (laneView_attemptStart ..)
theorem view_laneRetrain (code : Nat) : (d.laneRetrain k code).calm.view m = d.calm.view m := view_le h (laneView_laneRetrain ..)
end

end Sys2Proof.Machine
end

section
/-! SUPPORT. The frame of the array, its cells and precharge (R104 to R107, R245 to R284). -/

namespace Sys2Proof.Machine

set_option Elab.async false

/-- What these commands are free to change. -/
def arrayMask : Mask := ⟨arrayFields, [.lanes, .cells, .slots]⟩

/-! Cells out of service -/

@[simp] theorem arrayView_bypassAsk (d : Dev) (k action send apply : Nat) : (d.bypassAsk k action send apply).calm.view arrayMask = d.calm.view arrayMask := by
  simp (disch := decide) [Dev.bypassAsk]

@[simp] theorem arrayView_setRole (d : Dev) (k r : Nat) : (d.setRole k r).calm.view arrayMask = d.calm.view arrayMask := view_setRole (by decide) ..

@[simp] theorem arrayView_bypassStart (d : Dev) (k : Nat) : (d.bypassStart k).calm.view arrayMask = d.calm.view arrayMask := by
  simp (disch := decide) [Dev.bypassStart]

@[simp] theorem arrayView_cellFault (d : Dev) (k : Nat) : (d.cellFault k).calm.view arrayMask = d.calm.view arrayMask := by
  simp [Dev.cellFault]

/-! The latch (R249 to R275) -/

@[simp] theorem arrayView_capEnd (d : Dev) (k : Nat) : (d.capEnd k).calm.view arrayMask = d.calm.view arrayMask := by
  unfold Dev.capEnd
  extract_lets x c nom q ok tenth d1 d2 e level was d3 d4 d5
  have estimate : d1.calm.view arrayMask = d.calm.view arrayMask := by simp (disch := decide) [d1]
  have window : d3.calm.view arrayMask = d.calm.view arrayMask := by simp (disch := decide) [d3, d2, estimate]
  have cleared : d4.calm.view arrayMask = d.calm.view arrayMask := by simp [d4, window]
  have shown : d5.calm.view arrayMask = d.calm.view arrayMask := by simp [d5, cleared]
  simp [shown, cleared]

@[simp] theorem arrayView_closeEnd (d : Dev) (s : Nat) : (d.closeEnd s).calm.view arrayMask = d.calm.view arrayMask := by
  unfold Dev.closeEnd
  extract_lets D lim mag worst d1 d2 arr
  have raised : d1.calm.view arrayMask = d.calm.view arrayMask := by simp [d1]
  have cells : d2.calm.view arrayMask = d1.calm.view arrayMask := view_each (fun d k => view_cell _ _ (by decide) _) _ _
  exact (view_setS (by decide) ..).trans (cells.trans raised)

@[simp] theorem arrayView_closeBeat (d : Dev) (s : Nat) (rows : List (Nat × List Int × List Rat × List Rat × List Rat)) :
    (d.closeBeat s rows).calm.view arrayMask = d.calm.view arrayMask := by
  unfold Dev.closeBeat
  split
  extract_lets arr d1 d2
  have cells : d2.calm.view arrayMask = d1.calm.view arrayMask := view_each (fun d x => view_cell _ _ (by decide) _) _ _
  exact (view_setS (by decide) ..).trans cells

@[simp] theorem arrayView_metShift (d : Dev) : d.metShift.calm.view arrayMask = d.calm.view arrayMask := by
  simp [Dev.metShift]

@[simp] theorem arrayView_slotFree (d : Dev) (k n : Nat) : (d.slotFree k n).calm.view arrayMask = d.calm.view arrayMask := by
  simp (disch := decide) [Dev.slotFree, Dev.creditSync]

@[simp] theorem view_arcSample {m : Mask} (d : Dev) (type flags object time aux : Nat) (body : List Int) (len : Nat) :
    (d.arcSample type flags object time aux body len).calm.view m = d.calm.view m := by
  unfold Dev.arcSample
  split <;> rfl

@[simp] theorem view_cellRecord {m : Mask} (d : Dev) (k b : Nat) (x : Burst) (filled void : Bool) (w : Nat) :
    (d.cellRecord k b x filled void w).calm.view m = d.calm.view m := view_arcSample ..

@[simp] theorem arrayView_voidBurst (d : Dev) (k : Nat) (up : Bool) (parts : Nat) : (d.voidBurst k up parts).calm.view arrayMask = d.calm.view arrayMask := by
  unfold Dev.voidBurst
  extract_lets d1 d2 d3
  have gap : d2.calm.view arrayMask = d.calm.view arrayMask := by simp (disch := decide) [d2, d1]
  have raised : d3.calm.view arrayMask = d.calm.view arrayMask := by simp [d3, gap]
  simp [gap, raised]

@[simp] theorem arrayView_estimates (d : Dev) (k : Nat) (codes : List (List Int)) (ns : List Int) :
    (d.estimates k codes ns).calm.view arrayMask = d.calm.view arrayMask := (view_free _).trans (view_cell _ _ (by decide) _)

@[simp] theorem arrayView_residual (d : Dev) (k : Nat) (inc : Int) (dv : Rat) : (d.residual k inc dv).calm.view arrayMask = d.calm.view arrayMask := by
  unfold Dev.residual
  extract_lets r K s1 s2 d1 lim
  have shown : d1.calm.view arrayMask = d.calm.view arrayMask := by simp (disch := decide) [d1]
  simp [shown]

@[simp] theorem arrayView_capGather (d : Dev) (k : Nat) (inc : Int) (dv : Option Rat) : (d.capGather k inc dv).calm.view arrayMask = d.calm.view arrayMask := by
  unfold Dev.capGather
  extract_lets v d1 lo hi out
  have gathered : d1.calm.view arrayMask = d.calm.view arrayMask := view_cell _ _ (by decide) _
  simp (disch := decide) [gathered]

@[simp] theorem arrayView_post (d : Dev) (k : Nat) (codes : List (List Int)) (nh np : List Int) :
    (d.post k codes nh np).calm.view arrayMask = d.calm.view arrayMask := by
  unfold Dev.post
  extract_lets l dot inc a d1 dv d2 d3
  have posted : d1.calm.view arrayMask = d.calm.view arrayMask := by simp (disch := decide) [d1]
  have gathered : d2.calm.view arrayMask = d.calm.view arrayMask := (arrayView_capGather ..).trans posted
  have judged : d3.calm.view arrayMask = d.calm.view arrayMask := by
    simp only [d3]
    clear_value dv
    split
    · simp [gathered]
    · exact gathered
  exact (view_cell _ _ (by decide) _).trans judged

@[simp] theorem arrayView_goodBurst (d : Dev) (k b : Nat) (x : Burst) (m : StatusMsg) : (d.goodBurst k b x m).1.calm.view arrayMask = d.calm.view arrayMask := by
  unfold Dev.goodBurst
  extract_lets l filled codes fs d1 d2 d3 phys
  split
  extract_lets d4 d5
  have flags : d1.calm.view arrayMask = d.calm.view arrayMask := by simp (disch := decide) [d1]
  have counted : d2.calm.view arrayMask = d.calm.view arrayMask := by simp (disch := decide) [d2, flags]
  have taken : d4.calm.view arrayMask = d.calm.view arrayMask := by simp (disch := decide) [d4, d3, counted, Dev.auxTake]
  exact (arrayView_post ..).trans taken

@[simp] theorem arrayView_latchCell (d : Dev) (k : Nat) : (d.latchCell k).1.calm.view arrayMask = d.calm.view arrayMask := by
  unfold Dev.latchCell
  extract_lets b l up x st n w08 r1 r2 d1 d2
  have burst : r1.1.calm.view arrayMask = d.calm.view arrayMask := by
    simp only [r1]
    split
    · split
      · exact arrayView_goodBurst ..
      · exact arrayView_voidBurst ..
    · exact arrayView_voidBurst ..
  have last : r2.1.calm.view arrayMask = d.calm.view arrayMask := by
    simp only [r2]
    split
    · exact (view_lane _ _ (by decide) _).trans burst
    · exact burst
  have record : d1.calm.view arrayMask = d.calm.view arrayMask := (view_cellRecord ..).trans last
  simp only [d2]
  split
  · exact (arrayView_slotFree ..).trans ((view_lane _ _ (by decide) _).trans record)
  · exact record

/-! The slots that the array feeds (R251 to R254) -/

@[simp] theorem arrayView_freeze (d : Dev) (ks : List Nat) (f : Bool) : (d.freeze ks f).calm.view arrayMask = d.calm.view arrayMask :=
  view_each (fun d j => (view_setB (by decide) ..).trans (view_slot _ _ (by decide) _)) _ _

@[simp] theorem arrayView_ownA (d : Dev) (k : Nat) (q : Rat) : (d.ownA k q).calm.view arrayMask = d.calm.view arrayMask := view_set (by decide) ..
@[simp] theorem arrayView_ownIdx (d : Dev) (k i : Nat) : (d.ownIdx k i).calm.view arrayMask = d.calm.view arrayMask := view_set (by decide) ..
@[simp] theorem arrayView_limits (d : Dev) (k : Nat) (lo hi : Rat) : (d.limits k lo hi).calm.view arrayMask = d.calm.view arrayMask :=
  view_slot _ _ (by decide) _
@[simp] theorem arrayView_noLimits (d : Dev) (k : Nat) : (d.noLimits k).calm.view arrayMask = d.calm.view arrayMask := view_slot _ _ (by decide) _

@[simp] theorem arrayView_feedLink (d : Dev) : d.feedLink.calm.view arrayMask = d.calm.view arrayMask := by
  unfold Dev.feedLink
  extract_lets k
  split
  · split
    simp (disch := decide)
  · simp

@[simp] theorem arrayView_feedString (d : Dev) (s : Nat) : (d.feedString s).calm.view arrayMask = d.calm.view arrayMask := by
  unfold Dev.feedString
  extract_lets act kc ki cells mean d1 cost d2 lim d3 d4 ps
  have run : d1.calm.view arrayMask = d.calm.view arrayMask := by simp [d1]
  have capacitor : d2.calm.view arrayMask = d.calm.view arrayMask := by simp [d2, run]
  have current : d3.calm.view arrayMask = d.calm.view arrayMask := (arrayView_limits ..).trans capacitor
  have forward : d4.calm.view arrayMask = d.calm.view arrayMask := by simp (disch := decide) [d4, current]
  split
  · exact arrayView_freeze ..
  · refine (view_each (fun d k => ?_) _ _).trans forward
    split
    · simp
    · rfl

@[simp] theorem view_rampStep {m : Mask} (d : Dev) : d.rampStep.calm.view m = d.calm.view m := by
  unfold Dev.rampStep
  extract_lets r
  split
  · split <;> rfl
  · rfl

@[simp] theorem arrayView_preBeat (d : Dev) (s : Nat) : (d.preBeat s).calm.view arrayMask = d.calm.view arrayMask := by
  simp (disch := decide) [Dev.preBeat]

/-- A fold over a list that carries the block and a result beside it. -/
theorem view_foldl {α β : Type} {m : Mask} {g : Dev × β → α → Dev × β} (h : ∀ x a, (g x a).1.calm.view m = x.1.calm.view m) (l : List α) (x : Dev × β) :
    (l.foldl g x).1.calm.view m = x.1.calm.view m := by
  induction l generalizing x with
  | nil => rfl
  | cons a l ih => exact (ih _).trans (h x a)

@[simp] theorem arrayView_arrayLatch (d : Dev) (n : Nat) : (d.arrayLatch n).calm.view arrayMask = d.calm.view arrayMask := by
  refine view_atPhase _ fun d => ?_
  split
  · rfl
  · extract_lets arr d1 d2 gaps before
    have latched : d2.calm.view arrayMask = d.calm.view arrayMask := view_set (by decide) ..
    split
    rename_i d3 rows same
    have cells : d3.calm.view arrayMask = d2.calm.view arrayMask := by
      refine (congrArg (fun x => x.1.calm.view arrayMask) same).symm.trans (view_foldl (fun x k => ?_) _ _)
      exact arrayView_latchCell x.1 k
    extract_lets bad d4 d5 d6
    have counts : d4.calm.view arrayMask = d3.calm.view arrayMask := by simp [d4]
    have shift : d5.calm.view arrayMask = d4.calm.view arrayMask := (arrayView_metShift _).trans (view_rampStep _)
    refine (arrayView_feedLink _).trans ((view_each (fun d s => ?_) _ _).trans (shift.trans (counts.trans (cells.trans latched))))
    simp

/-! The Escapement (R247) -/

@[simp] theorem view_zeroCount {m : Mask} (d : Dev) : d.zeroCount.calm.view m = d.calm.view m := by
  unfold Dev.zeroCount
  extract_lets p lim
  split <;> rfl

@[simp] theorem arrayView_carAt (d : Dev) (k a : Nat) : (d.carAt k a).calm.view arrayMask = d.calm.view arrayMask := by
  unfold Dev.carAt
  extract_lets P x phi
  split
  · rfl
  · split
    exact view_cell _ _ (by decide) _

@[simp] theorem arrayView_respreadDone (d : Dev) (s : Nat) : (d.respreadDone s).calm.view arrayMask = d.calm.view arrayMask := view_setB (by decide) ..

@[simp] theorem arrayView_clampRef (d : Dev) (s k : Nat) (q : Rat) : (d.clampRef s k q).1.calm.view arrayMask = d.calm.view arrayMask := by
  simp (disch := decide) [Dev.clampRef]

@[simp] theorem arrayView_duty (d : Dev) (s : Nat) (v : Rat) : (d.duty_ s v).1.calm.view arrayMask = d.calm.view arrayMask := by
  unfold Dev.duty_
  extract_lets ks D mean
  refine view_foldl (fun x k => ?_) _ _
  exact arrayView_clampRef x.1 s k _

@[simp] theorem arrayView_rank (d : Dev) (s : Nat) (v : Rat) : (d.rank s v).1.calm.view arrayMask = d.calm.view arrayMask := by
  unfold Dev.rank
  extract_lets ks n vc a L f sgn up hyst was order
  refine view_foldl (fun x i => ?_) _ _
  extract_lets k e m
  have placed : e.calm.view arrayMask = x.1.calm.view arrayMask := (view_cell _ _ (by decide) _).trans (view_set (by decide) ..)
  split
  · exact placed
  · split
    · exact placed
    · exact placed

@[simp] theorem arrayView_plans (d : Dev) (s : Nat) : (d.plans s).1.calm.view arrayMask = d.calm.view arrayMask := by
  unfold Dev.plans
  extract_lets d1 v
  have cleared : d1.calm.view arrayMask = d.calm.view arrayMask :=
    (view_each (fun d k => view_setB (by decide) ..) _ _).trans (view_setB (by decide) ..)
  split
  · exact cleared
  · split
    · exact (arrayView_rank ..).trans cleared
    · exact (arrayView_duty ..).trans cleared

@[simp] theorem arrayView_hopEntry (d : Dev) : d.hopEntry.1.calm.view arrayMask = d.calm.view arrayMask := by
  simp (disch := decide) [Dev.hopEntry, apply_ite Prod.fst]

@[simp] theorem arrayView_hopStep (d : Dev) (a : Nat) : (d.hopStep a).1.calm.view arrayMask = d.calm.view arrayMask := by
  have entry := arrayView_hopEntry d
  unfold Dev.hopStep
  split
  rename_i e h same
  rw [same] at entry
  extract_lets half hopBeat
  split
  · split
    exact entry
  · exact entry

@[simp] theorem arrayView_dtRange (d : Dev) (k : Nat) : (d.dtRange k).calm.view arrayMask = d.calm.view arrayMask := by
  simp (disch := decide) [Dev.dtRange]

@[simp] theorem arrayView_legSend (d : Dev) (k leg a : Nat) (init : Bool) (edges : List Nat) :
    (d.legSend k leg a init edges).1.calm.view arrayMask = d.calm.view arrayMask := by
  unfold Dev.legSend
  split
  extract_lets b0
  split
  extract_lets bound last d1 d2
  have kept : d1.calm.view arrayMask = d.calm.view arrayMask := view_cell _ _ (by decide) _
  simp (disch := decide) [d2, kept]

@[simp] theorem arrayView_legs (d : Dev) (k a : Nat) (p : Plan) : (d.legs k a p).1.calm.view arrayMask = d.calm.view arrayMask := by
  unfold Dev.legs
  extract_lets go s0
  have both : ∀ x y : Bool × List Nat, (go d x y).1.calm.view arrayMask = d.calm.view arrayMask := fun x y =>
    (arrayView_legSend ..).trans (arrayView_legSend d k 0 a x.1 x.2)
  clear_value go
  split
  · exact view_cell _ _ (by decide) _
  · exact both _ _
  · exact both _ _

@[simp] theorem arrayView_cellCommand (d : Dev) (k a : Nat) (hop : Bool) (plans : List (Nat × Plan)) :
    (d.cellCommand k a hop plans).1.calm.view arrayMask = d.calm.view arrayMask := by
  unfold Dev.cellCommand
  dsimp only
  split
  · exact view_cell _ _ (by decide) _
  · exact (view_cell _ _ (by decide) _).trans (arrayView_legs ..)

@[simp] theorem arrayView_laneSend (d : Dev) (t : Nat) (o : Out) : (d.laneSend t o).calm.view arrayMask = d.calm.view arrayMask := view_laneSend (by decide) ..

@[simp] theorem arrayView_credSend (d : Dev) (k : Nat) : (d.credSend k).1.calm.view arrayMask = d.calm.view arrayMask := by
  simp (disch := decide) [Dev.credSend, Dev.creditSync, apply_ite Prod.fst]

@[simp] theorem arrayView_linkFault (d : Dev) (k : Nat) : (d.linkFault k).calm.view arrayMask = d.calm.view arrayMask := by
  simp (disch := decide) [Dev.linkFault, view_laneRetrain]

@[simp] theorem arrayView_bypassSend (d : Dev) (k : Nat) : (d.bypassSend k).calm.view arrayMask = d.calm.view arrayMask := by
  have credit := arrayView_credSend d k
  unfold Dev.bypassSend
  split
  · split
    · rfl
    · split
      rename_i e q same
      rw [same] at credit
      dsimp only
      split <;> simp (disch := decide) [credit]
  · rfl

@[simp] theorem arrayView_cmdSend (d : Dev) (k : Nat) (ws : List Nat) : (d.cmdSend k ws).calm.view arrayMask = d.calm.view arrayMask := by
  have credit := arrayView_credSend d k
  unfold Dev.cmdSend
  split
  · rename_i e q same
    rw [same] at credit
    simp (disch := decide) [credit]
  · rename_i e same
    rw [same] at credit
    exact (arrayView_linkFault ..).trans credit

@[simp] theorem arrayView_escape (d : Dev) (miss : List (Nat × Nat)) (n : Nat) : (d.escape miss n).calm.view arrayMask = d.calm.view arrayMask := by
  refine view_atPhase _ fun d => ?_
  split
  · rfl
  · extract_lets arr d1 a d2
    split
    rename_i d3 hop same
    have step : d3.calm.view arrayMask = d2.calm.view arrayMask :=
      (congrArg (fun x => x.1.calm.view arrayMask) same).symm.trans (arrayView_hopStep d2 a)
    have begun : d3.calm.view arrayMask = d.calm.view arrayMask := step.trans (view_zeroCount _)
    extract_lets d4 d5
    have carriers : d4.calm.view arrayMask = d3.calm.view arrayMask := view_each (fun d k => arrayView_carAt ..) _ _
    have spread : d5.calm.view arrayMask = d4.calm.view arrayMask := view_each (fun d s => arrayView_respreadDone ..) _ _
    split
    rename_i d6 plans same
    have planned : d6.calm.view arrayMask = d5.calm.view arrayMask := by
      refine (congrArg (fun x => x.1.calm.view arrayMask) same).symm.trans (view_foldl (fun x s => ?_) _ _)
      exact arrayView_plans x.1 s
    split
    rename_i d7 cmds same
    have made : d7.calm.view arrayMask = d6.calm.view arrayMask := by
      refine (congrArg (fun x => x.1.calm.view arrayMask) same).symm.trans (view_foldl (fun x k => ?_) _ _)
      split
      · rfl
      · exact arrayView_cellCommand ..
    extract_lets d8 d9
    have sent : d8.calm.view arrayMask = d7.calm.view arrayMask := view_each (fun d c => by
      split
      · simp (disch := decide)
      · simp) _ _
    have ranged : d9.calm.view arrayMask = d8.calm.view arrayMask := view_each (fun d c => arrayView_dtRange ..) _ _
    exact (view_set (by decide) ..).trans (ranged.trans (sent.trans (made.trans (planned.trans (spread.trans (carriers.trans begun))))))

/-! The commands -/

@[simp] theorem arrayView_preEnter (d : Dev) (s ph : Nat) : (d.preEnter s ph).calm.view arrayMask = d.calm.view arrayMask := by
  unfold Dev.preEnter
  extract_lets c tmax v d1
  have phase : d1.calm.view arrayMask = d.calm.view arrayMask := (view_arm ..).trans (view_of_calm (calm_prePhase ..) _)
  exact phase

@[simp] theorem arrayView_setState (d : Dev) (s : Nat) (o : Orig) : (d.setState s o).calm.view arrayMask = d.calm.view arrayMask :=
  view_le (m := checkMask) (by decide) (checkView_setState ..)

@[simp] theorem arrayView_preDone (d : Dev) (s : Nat) : (d.preDone s).calm.view arrayMask = d.calm.view arrayMask := by
  simp [Dev.preDone, Dev.nextBeat]

theorem view_array {c : Instr} {s t : State} (hc : isArray c = true) (h : exec c s = .next t) : t.dev.calm.view arrayMask = s.dev.calm.view arrayMask := by
  unfold exec at h
  cases c
  all_goals dsimp only at h
  case bypassTimeout i => exact view_onMain h fun d => view_fire _ fun e => by simp
  case retrainTimeout i => exact view_onMain h fun d => view_fire _ fun e => by simp (disch := decide)
  case capEstimatePeriodEnd => exact view_onMain h fun d => view_wait _ fun e => view_each (fun d k => arrayView_capEnd ..) _ _
  case closureWindowEnd => exact view_onMain h fun d => view_wait _ fun e => view_each (fun d s => arrayView_closeEnd ..) _ _
  case derateRiseStep =>
    refine view_onMain h fun d => ?_
    split
    · exact view_wait _ fun e => view_set (by decide) ..
    · rfl
  case escapement miss n => exact view_onMain h fun d => arrayView_escape ..
  case arrayLatch i => exact view_onMain h fun d => arrayView_arrayLatch ..
  case prechargePhaseEnd i =>
    refine view_onMain h fun d => ?_
    split
    · rfl
    · extract_lets ph last at_ late
      split
      · rfl
      · refine view_wait _ fun e => ?_
        clear_value ph
        split <;> simp
  case enterLinked => exact view_onMain h fun d => by simp [Dev.nextBeat]
  case startLockTimeout => exact view_onMain h fun d => view_fire _ fun e => by simp
  case prechargeTimeout i => exact view_onMain h fun d => view_fire _ fun e => by simp
  case arrayZeroPower => exact view_onMain h fun d => by simp
  case cellBypass c =>
    refine view_onMain h fun d => view_command (by decide) _ _ _ fun e => ?_
    simp [apply_ite Prod.fst]
  case cellRestore c =>
    refine view_onMain h fun d => view_command (by decide) _ _ _ fun e => ?_
    simp (disch := decide) [apply_ite Prod.fst]
  all_goals exact absurd hc Bool.false_ne_true

/-- Settles O58: what the array, its cells and precharge do stays within the array's, the lanes' and the slots' registers. -/
theorem arrayFrame : Obligations.ArrayFrame := by
  intro c s t hc h
  have v : t.dev.calm.view arrayMask = s.dev.calm.view arrayMask := view_array hc h
  exact ⟨kept_of_view v, bank2_of_view v (by decide), phases_of_view v (by decide), gates_of_view v (by decide), enc_of_view v (by decide),
    metCh_of_view v (by decide), metEl_of_view v (by decide), met_of_view v (by decide), ports_of_view v (by decide), hk_of_view v (by decide),
    keys_of_view v (by decide), fw_of_view v (by decide)⟩

end Sys2Proof.Machine
end

section
/-! SUPPORT. The device state and the slots' units through the shared operations (R102, R103): an event takes a device that is in neither LINKED nor PRECHARGE
to neither, so no check that fails after it presets a history (R299). -/

namespace Sys2Proof.Machine

set_option Elab.async false

/-- The word that holds the device state, and the slots' units. -/
def Dev.core (d : Dev) : Nat × List Slot := (regGet d.regs (F.GLB_STATE.DEVICE.key 0 0 0), d.slots)

theorem st_of_core {d e : Dev} (h : e.core = d.core) : e.st = d.st := congrArg (fun x => x.1 ^^^ F.GLB_STATE.DEVICE.reset 0) h
theorem slots_of_core {d e : Dev} (h : e.core = d.core) : e.slots = d.slots := congrArg Prod.snd h

theorem core_of_st {d e : Dev} (h : e.st = d.st) (hs : e.slots = d.slots) : e.core = d.core := by
  have word : regGet e.regs (F.GLB_STATE.DEVICE.key 0 0 0) = regGet d.regs (F.GLB_STATE.DEVICE.key 0 0 0) := Nat.xor_left_inj.mp h
  rw [Dev.core, Dev.core, word, hs]

/-! What leaves both alone -/

@[simp] theorem core_mk (regs tick freeCtr timers out pwr clk loans loanWait mram rings prov reg lanes cells arr slots bank2 phases groups pwm gates os enc col
    metCh metEl met ports chr saf hk) :
    (Dev.mk regs tick freeCtr timers out pwr clk loans loanWait mram rings prov reg lanes cells arr slots bank2 phases groups pwm gates os enc col
      metCh metEl met ports chr saf hk).core = (regGet regs (F.GLB_STATE.DEVICE.key 0 0 0), slots) := rfl

@[simp] theorem core_eta (d : Dev) : (regGet d.regs (F.GLB_STATE.DEVICE.key 0 0 0), d.slots) = d.core := rfl

@[simp] theorem core_set {f : Fld} (h : F.GLB_STATE.DEVICE.apart f = true) (d : Dev) (v a b c : Nat) : (d.set f v a b c).core = d.core :=
  core_of_st (st_set_apart d h v a b c) (Dev.set_slots ..)

@[simp] theorem word_set {f : Fld} (h : F.GLB_STATE.DEVICE.apart f = true) (d : Dev) (v a b c : Nat) :
    regGet (d.set f v a b c).regs (F.GLB_STATE.DEVICE.key 0 0 0) = regGet d.regs (F.GLB_STATE.DEVICE.key 0 0 0) :=
  congrArg Prod.fst (core_set h d v a b c)

@[simp] theorem core_setB {f : Fld} (h : F.GLB_STATE.DEVICE.apart f = true) (d : Dev) (v : Bool) (a b c : Nat) : (d.setB f v a b c).core = d.core := core_set h ..
@[simp] theorem core_setS {f : Fld} (h : F.GLB_STATE.DEVICE.apart f = true) (d : Dev) (v : Int) (a b c : Nat) : (d.setS f v a b c).core = d.core := core_set h ..
@[simp] theorem core_inc {f : Fld} (h : F.GLB_STATE.DEVICE.apart f = true) (d : Dev) (n a b c : Nat) : (d.inc f n a b c).core = d.core := core_set h ..
@[simp] theorem core_incSat {f : Fld} (h : F.GLB_STATE.DEVICE.apart f = true) (d : Dev) (n a b c : Nat) : (d.incSat f n a b c).core = d.core := core_set h ..
@[simp] theorem core_setFlag {f : Fld} (h : F.GLB_STATE.DEVICE.apart f = true) (d : Dev) (i : Nat) (v : Bool) : (d.setFlag f i v).core = d.core := core_set h ..

@[simp] theorem core_lane (d : Dev) (k : Nat) (g : Lane → Lane) : (d.lane k g).core = d.core := rfl
@[simp] theorem core_cell (d : Dev) (k : Nat) (g : Cell → Cell) : (d.cell k g).core = d.core := rfl
@[simp] theorem core_phs (d : Dev) (k : Nat) (g : Phase → Phase) : (d.phs k g).core = d.core := rfl
@[simp] theorem core_grp (d : Dev) (k : Nat) (g : Group → Group) : (d.grp k g).core = d.core := rfl
@[simp] theorem core_pw (d : Dev) (k : Nat) (g : Pwm → Pwm) : (d.pw k g).core = d.core := rfl
@[simp] theorem core_gd (d : Dev) (k : Nat) (g : Gate → Gate) : (d.gd k g).core = d.core := rfl
@[simp] theorem core_en (d : Dev) (k : Nat) (g : Enc → Enc) : (d.en k g).core = d.core := rfl
@[simp] theorem core_mch (d : Dev) (k : Nat) (g : MetCh → MetCh) : (d.mch k g).core = d.core := rfl
@[simp] theorem core_mel (d : Dev) (k : Nat) (g : MetEl → MetEl) : (d.mel k g).core = d.core := rfl
@[simp] theorem core_hkp (d : Dev) (k : Nat) (g : HkPoint → HkPoint) : (d.hkp k g).core = d.core := rfl
@[simp] theorem core_pair (d : Dev) (p k : Nat) (g : Pair → Pair) : (d.pair p k g).core = d.core := rfl
@[simp] theorem core_arm (d : Dev) (t : Timer) (n : Nat) : (d.arm t n).core = d.core := rfl
@[simp] theorem core_disarm (d : Dev) (t : Timer) : (d.disarm t).core = d.core := rfl
@[simp] theorem core_emit (d : Dev) (o : Out) : (d.emit o).core = d.core := rfl
@[simp] theorem core_free (d : Dev) : d.free.core = d.core := rfl

@[simp] theorem core_ite {p : Prop} [Decidable p] (x y : Dev) : (if p then x else y).core = if p then x.core else y.core := apply_ite Dev.core p x y

@[simp] theorem core_cond (d : Dev) (b : Bool) (g : Dev → Dev) : (d.cond b g).core = if b then (g d).core else d.core := by
  cases b <;> rfl

theorem core_each {α : Type} {g : Dev → α → Dev} (h : ∀ d x, (g d x).core = d.core) (l : List α) (d : Dev) : (d.each l g).core = d.core :=
  each_keeps Dev.core h l d

@[simp] theorem core_elapse (d : Dev) (n : Nat) : (d.elapse n).core = d.core := core_of_st (st_elapse ..) (by simp)
@[simp] theorem core_until (d : Dev) (t : Nat) : (d.until t).core = d.core := core_elapse ..
@[simp] theorem core_toPhase (d : Dev) (p : Nat) : (d.toPhase p).core = d.core := core_elapse ..

/-! The log, loans, records -/

@[simp] theorem core_log (d : Dev) (kind : Nat) (o : Orig) (object aux old new r x : Nat) : (d.log kind o object aux old new r x).core = d.core :=
  core_of_st (st_log ..) (congrArg Calm.slots (calm_log d kind o object aux old new r x))

@[simp] theorem core_finish (d : Dev) (op : Nat) (c : HostCmd) (old status reason result : Nat) (logged : Bool) :
    (d.finish op c old status reason result logged).core = d.core :=
  core_of_st (st_finish ..) (congrArg Calm.slots (calm_finish d op c old status reason result logged))

@[simp] theorem core_writeBack (d : Dev) (r : Nat) : (d.writeBack r).core = d.core := rfl
@[simp] theorem core_ringPush (d : Dev) (r : Nat) : (d.ringPush r).core = d.core := by simp (disch := decide) [Dev.ringPush]

@[simp] theorem core_msix (d : Dev) (f v : Nat) : (d.msix f v).core = d.core := by
  simp only [Dev.msix]
  repeat' split
  all_goals rfl

@[simp] theorem core_evWrite (d : Dev) (e : Nat) (x : Event) : (d.evWrite e x).core = d.core := by
  simp only [Dev.evWrite]
  split <;> simp

@[simp] theorem core_evPut (d : Dev) (e : Nat) (x : Event) : (d.evPut e x).core = d.core := by
  simp (disch := decide) [Dev.evPut]

@[simp] theorem core_loanSync (d : Dev) : d.loanSync.core = d.core := by simp (disch := decide) [Dev.loanSync]
@[simp] theorem core_waitSync (d : Dev) : d.waitSync.core = d.core := core_each (fun d op => core_set (by decide) ..) _ _
@[simp] theorem core_loanLog (d : Dev) (what op inst before : Nat) : (d.loanLog what op inst before).core = d.core := core_log ..
@[simp] theorem core_loanReturn (d : Dev) (op inst : Nat) : (d.loanReturn op inst).core = d.core := by simp [Dev.loanReturn]
@[simp] theorem core_loanReduce (d : Dev) (op inst : Nat) : (d.loanReduce op inst).core = d.core := by simp [Dev.loanReduce]
@[simp] theorem core_loanDrop (d : Dev) (op inst : Nat) : (d.loanDrop op inst).core = d.core := by simp [Dev.loanDrop]

@[simp] theorem core_loanEnd (d : Dev) (op : Nat) : (d.loanEnd op).core = d.core :=
  (core_each (fun d _ => core_loanDrop d op _) _ _).trans (core_each (fun d _ => core_loanReturn d op _) _ _)

@[simp] theorem core_pllDrop (d : Dev) (p u : Nat) : (d.pllDrop p u).core = d.core := by simp (disch := decide) [Dev.pllDrop]
@[simp] theorem core_arcMark (d : Dev) (type flags object aux : Nat) (body : List Int) (len : Nat) : (d.arcMark type flags object aux body len).core = d.core := by
  simp (disch := decide) [Dev.arcMark]

@[simp] theorem core_arcTrigger (d : Dev) (cause aux : Nat) : (d.arcTrigger cause aux).core = d.core := by
  unfold Dev.arcTrigger
  split <;> simp (disch := decide)

/-! Stops of the blocks -/

@[simp] theorem core_loopSilence (d : Dev) : d.loopSilence.core = d.core := by simp (disch := decide) [Dev.loopSilence]
@[simp] theorem core_sdoDrop (d : Dev) (c x : Bool) : (d.sdoDrop c x).core = d.core := by simp (disch := decide) [Dev.sdoDrop]
@[simp] theorem core_level (d : Dev) (c l : Nat) : (d.level c l).core = d.core := by
  unfold Dev.level
  extract_lets x was d1
  have set : d1.core = d.core := (core_pw ..).trans ((core_set (by decide) ..).trans (core_set (by decide) ..))
  clear_value d1
  simp (disch := decide) [set]
@[simp] theorem core_deadEnd (d : Dev) (c : Nat) : (d.deadEnd c).core = d.core := by simp (disch := decide) [Dev.deadEnd]
@[simp] theorem core_softOffChan (d : Dev) (s c : Nat) : (d.softOffChan s c).core = d.core := by simp [Dev.softOffChan]

@[simp] theorem core_softOffs (d : Dev) (ss : List Nat) : (d.softOffs ss).core = d.core := by
  unfold Dev.softOffs
  extract_lets ss1 d1
  have channels : d1.core = d.core := (core_each (fun d s => core_setB (by decide) ..) _ _).trans (core_each (fun d c => core_softOffChan d _ c) _ _)
  simp (disch := decide) [channels]

@[simp] theorem core_softOff (d : Dev) (s : Nat) : (d.softOff s).core = d.core := core_softOffs ..
@[simp] theorem core_grpLoanEnd (d : Dev) (g : Nat) : (d.grpLoanEnd g).core = d.core := by simp [Dev.grpLoanEnd]
@[simp] theorem core_grpStop (d : Dev) (g : Nat) : (d.grpStop g).core = d.core := by simp (disch := decide) [Dev.grpStop]

@[simp] theorem core_grpPhasesOff (d : Dev) (g : Nat) : (d.grpPhasesOff g).core = d.core :=
  (core_set (by decide) ..).trans (core_each (fun d k => by simp (disch := decide)) _ _)

@[simp] theorem core_grpFast (d : Dev) (g : Nat) : (d.grpFast g).core = d.core := by simp (disch := decide) [Dev.grpFast]
@[simp] theorem core_colStop (d : Dev) : d.colStop.core = d.core := by simp [Dev.colStop]
@[simp] theorem core_colHeld (d : Dev) : d.colHeld.core = d.core := by simp (disch := decide) [Dev.colHeld]
@[simp] theorem core_prePhase (d : Dev) (s ph : Nat) : (d.prePhase s ph).core = d.core := by simp (disch := decide) [Dev.prePhase]

@[simp] theorem core_preEnd (d : Dev) : d.preEnd.core = d.core := (core_each (fun d s => by simp) _ _).trans (core_loanEnd ..)

@[simp] theorem core_latchSet (d : Dev) (src obj : Nat) : (d.latchSet src obj).core = d.core := by simp (disch := decide) [Dev.latchSet]
@[simp] theorem core_loopRate (d : Dev) : d.loopRate.core = d.core := core_set (by decide) ..
@[simp] theorem core_arcStart (d : Dev) : d.arcStart.core = d.core := by simp (disch := decide) [Dev.arcStart]

/-! Events -/

@[simp] theorem core_activeSync (d : Dev) (src : Nat) : (d.activeSync src).core = d.core := by simp (disch := decide) [Dev.activeSync]
@[simp] theorem core_condOn (d : Dev) (src obj : Nat) : (d.condOn src obj).core = d.core := by simp [Dev.condOn]
@[simp] theorem core_condOff (d : Dev) (src obj : Nat) : (d.condOff src obj).core = d.core := by simp [Dev.condOff]
@[simp] theorem core_earlyMerge (d : Dev) : d.earlyMerge.core = d.core := by simp (disch := decide) [Dev.earlyMerge]
@[simp] theorem core_earlyNote (d : Dev) (src obj : Nat) (slot : Option Nat) : (d.earlyNote src obj slot).core = d.core := by simp [Dev.earlyNote]
@[simp] theorem core_incidentEnd (d : Dev) : d.incidentEnd.core = d.core := by simp (disch := decide) [Dev.incidentEnd]
@[simp] theorem core_stopReached (d : Dev) : d.stopReached.core = d.core := by simp [Dev.stopReached]
@[simp] theorem core_errSync (d : Dev) : d.errSync.core = d.core := by simp (disch := decide) [Dev.errSync]

@[simp] theorem core_aqEnter (d : Dev) (x : Event) (opened : Bool) : (d.aqEnter x opened).core = d.core := by
  simp only [Dev.aqEnter]
  split
  · rfl
  · exact core_inc (by decide) ..

@[simp] theorem core_incidentTake (d : Dev) (src cls obj : Nat) : (d.incidentTake src cls obj).1.core = d.core := by
  simp (disch := decide) [Dev.incidentTake, apply_ite Prod.fst]

@[simp] theorem core_latchOnly (d : Dev) (src cls obj : Nat) (data : List Nat) (i : Option Nat) (forced : Bool) :
    (d.latchOnly src cls obj data i forced).core = d.core := by
  unfold Dev.latchOnly
  extract_lets cls1 d1 d2 bytes
  have counted : d2.core = d.core := by simp (disch := decide) [d2, d1]
  split
  rename_i d3 merged opened same
  have taken : d3.core = d.core := (congrArg (fun x => x.1.core) same).symm.trans ((core_incidentTake ..).trans counted)
  extract_lets at_ x n d4 d5 d6 d7
  have logged : d4.core = d.core := by simp [d4, taken]
  have noted : d6.core = d.core := by simp [d6, d5, logged]
  have routed : d7.core = d.core := (core_each (fun d n => core_evPut ..) _ _).trans noted
  simp [routed]

/-! Device states -/

/-- A device in neither LINKED nor PRECHARGE, whose slots' units are these. -/
def Away (l : List Slot) (x : Nat × List Slot) : Prop :=
  x.1 ^^^ F.GLB_STATE.DEVICE.reset 0 ≠ LINKED ∧ x.1 ^^^ F.GLB_STATE.DEVICE.reset 0 ≠ PRECHARGE ∧ x.2 = l

theorem away_iff {l : List Slot} {d : Dev} : Away l d.core ↔ d.st ≠ LINKED ∧ d.st ≠ PRECHARGE ∧ d.slots = l := Iff.rfl

variable {l : List Slot} {d : Dev}

@[simp] theorem away_ite {p : Prop} [Decidable p] (x y : Nat × List Slot) : Away l (if p then x else y) ↔ if p then Away l x else Away l y := by
  split <;> rfl

/-- What follows the change of state in entry to a device state keeps both, but for entry to STAGED. -/
theorem core_setState_entered {d : Dev} {s : Nat} (hs : s ≠ STAGED) (h : ¬ (s = d.st ∨ d.pwr.testEn ∧ d.st = QUIET)) (o : Orig) :
    (d.setState s o).core = (d.set F.GLB_STATE.DEVICE s).core := by
  have unproven : ∀ e : Dev, (e.each (List.range 32) fun d x =>
      d.setB F.GD_STATUS.UNPROVEN (d.bit F.GD_CFG.BOOTSTRAP x && d.bit F.GD_CFG.DECLARED x) x).core = e.core :=
    fun e => core_each (fun d x => core_setB (by decide) ..) _ _
  have brake : ∀ e : Dev, (e.each [24, 25] fun d c => d.level c 0).core = e.core := fun e => core_each (fun d c => core_level ..) _ _
  unfold Dev.setState
  extract_lets old d1 d2 a d3 d4 d5 d6 d7
  have entered : d1.core = (d.set F.GLB_STATE.DEVICE s).core := by simp (disch := decide) [d1]
  have same : d2.core = d1.core := by simp [d2, hs]
  have archive : d3.core = d2.core := by simp (disch := decide) [d3]
  have silent : d4.core = d3.core := by simp [d4]
  have proofs : d5.core = d4.core := by simp [d5, unproven]
  have unarmed : d6.core = d5.core := by simp (disch := decide) [d6]
  have braked : d7.core = d5.core := by simp [d7, brake, unarmed]
  rw [if_neg h]
  split
  all_goals simp [braked, proofs, silent, archive, same, entered]

theorem core_setState {d : Dev} {s : Nat} (hs : s ≠ STAGED) (o : Orig) :
    (d.setState s o).core = d.core ∨ (d.setState s o).core = (d.set F.GLB_STATE.DEVICE s).core := by
  by_cases h : s = d.st ∨ d.pwr.testEn ∧ d.st = QUIET
  · left
    unfold Dev.setState
    extract_lets old
    rw [if_pos h]
  · exact .inr (core_setState_entered hs h o)

theorem away_setState (h : Away l d.core) {s : Nat} (hs : s = STOP ∨ s = LOCKOUT) (o : Orig) : Away l (d.setState s o).core := by
  have small : s < 2 ^ F.GLB_STATE.DEVICE.w := by rcases hs with rfl | rfl <;> decide
  have shown : (d.set F.GLB_STATE.DEVICE s).st = s := (Dev.get_set_same d F.GLB_STATE.DEVICE s (by decide)).trans (Nat.mod_eq_of_lt small)
  have other : s ≠ STAGED := by rcases hs with rfl | rfl <;> decide
  rcases core_setState (d := d) other o with e | e
  · rwa [e]
  · rw [e, away_iff, shown, Dev.set_slots]
    refine ⟨?_, ?_, (away_iff.mp h).2.2⟩ <;> rcases hs with rfl | rfl <;> decide

@[simp] theorem away_orderlyStop (h : Away l d.core) (o : Orig) : Away l (d.orderlyStop o).core := by
  have pre : d.st ≠ PRECHARGE := (away_iff.mp h).2.1
  unfold Dev.orderlyStop
  split
  · exact away_setState (by simpa using h) (.inl rfl) o
  · split
    · simpa using h
    · exact h

@[simp] theorem away_fastStop (h : Away l d.core) (o : Orig) (hall : Bool) : Away l (d.fastStop o hall).core := by
  unfold Dev.fastStop
  extract_lets from_ arr d1 d2
  split
  · have stopped : d2.core = d.core := by simp [d2, d1]
    have pre : d2.st ≠ PRECHARGE := by rw [st_of_core stopped]; exact (away_iff.mp h).2.1
    rw [← stopped] at h
    split
    · exact away_setState h (.inl rfl) o
    · exact h
  · exact h

@[simp] theorem away_lockEnter (h : Away l d.core) (o : Orig) : Away l (d.lockEnter o).core := by
  unfold Dev.lockEnter
  refine away_setState ?_ (.inr rfl) o
  simpa using h

@[simp] theorem away_lockTry (h : Away l d.core) : Away l d.lockTry.core := by
  unfold Dev.lockTry
  split
  · split
    · exact h
    · exact away_lockEnter h _
  · exact h

@[simp] theorem away_safeOff (h : Away l d.core) (src obj : Nat) (o : Orig) : Away l (d.safeOff src obj o).core := by
  unfold Dev.safeOff
  extract_lets d1 arr d2 d3 d4 arr2 d5 d6 saf
  have begun : d2.core = d.core := by simp [d2, d1]
  have off : d6.core = d.core := by simp (disch := decide) [d6, d5, d4, d3, begun]
  rw [← off] at h
  exact away_lockTry h

@[simp] theorem away_react (h : Away l d.core) (src cls obj factor : Nat) : Away l (d.react src cls obj factor).core := by
  unfold Dev.react
  extract_lets reg d1 x
  have derated : d1.core = d.core := by simp [d1]
  have pre : d1.st ≠ PRECHARGE := by rw [st_of_core derated]; exact (away_iff.mp h).2.1
  rw [← derated] at h
  rw [if_neg (fun c => pre c.1)]
  simp only [x]
  split
  · exact away_safeOff h ..
  · split
    · exact away_fastStop h ..
    · split
      · exact away_orderlyStop h _
      · exact h

@[simp] theorem away_latchEvent (h : Away l d.core) (src cls obj : Nat) (data : List Nat) (i : Option Nat) (forced : Bool) (factor : Option Nat) :
    Away l (d.latchEvent src cls obj data i forced factor).core := away_react (by simpa using h) ..

@[simp] theorem away_conserve (h : Away l d.core) (code diff : Nat) : Away l (d.conserve code diff).core :=
  away_latchEvent (by rwa [core_setFlag (by decide)]) ..

@[simp] theorem away_countCheck (h : Away l d.core) : Away l d.countCheck.core := by
  unfold Dev.countCheck
  extract_lets a b
  split
  · simpa using h
  · exact away_conserve (by simpa using h) ..

/-- An event takes a device that is away to one that is away, with its slots' units as they were. -/
@[simp] theorem away_raise (h : Away l d.core) (src cls obj : Nat) (data : List Nat) (i factor : Option Nat) :
    Away l (d.raise src cls obj data i factor).core := away_countCheck (away_latchEvent h ..)

@[simp] theorem away_checkFail (h : Away l d.core) (code obj : Nat) : Away l (d.checkFail code obj).core := by
  unfold Dev.checkFail
  extract_lets arr d1 d2
  split
  · have shown : d1.core = d.core := by
      simp only [d1, Dev.failSync]
      refine (core_each (fun d w => core_set (by decide) ..) _ _).trans ?_
      simp (disch := decide)
    have raised : Away l (d1.raise 6 1 obj [code]).core := away_raise (by rwa [shown]) ..
    have lane : Away l d2.core := by
      simp only [d2, core_cond]
      split
      · rwa [core_set (by decide)]
      · exact raised
    rwa [if_neg (away_iff.mp lane).1]
  · exact h

@[simp] theorem core_failSync (d : Dev) : d.failSync.core = d.core := by
  unfold Dev.failSync
  exact (core_each (fun d w => core_set (by decide) ..) _ _).trans (by simp (disch := decide))

@[simp] theorem core_checkPass (d : Dev) (code obj : Nat) : (d.checkPass code obj).core = d.core := by
  simp [Dev.checkPass]

theorem away_check (h : Away l d.core) (code obj : Nat) (ok : Bool) : Away l (d.check code obj ok).core := by
  unfold Dev.check
  split
  · rwa [core_checkPass]
  · exact away_checkFail h ..

/-! Conditions, folds, time and the end of a step -/

theorem away_if {p : Prop} [Decidable p] {x y : Dev} (hx : Away l x.core) (hy : Away l y.core) : Away l (if p then x else y).core := by
  split
  · exact hx
  · exact hy

theorem away_each {α : Type} {g : Dev → α → Dev} (hg : ∀ e x, Away l e.core → Away l (g e x).core) (h : Away l d.core) (xs : List α) :
    Away l (d.each xs g).core := by
  induction xs generalizing d with
  | nil => exact h
  | cons x xs ih => exact ih (hg d x h)

theorem away_wait {g : Dev → Dev} (hg : ∀ e, Away l e.core → Away l (g e).core) (h : Away l d.core) (n : Nat) : Away l (d.wait n g).core := by
  unfold Dev.wait
  split
  · exact hg _ (by rwa [core_until])
  · exact h

theorem away_fire {g : Dev → Dev} (hg : ∀ e, Away l e.core → Away l (g e).core) (h : Away l d.core) (t : Timer) : Away l (d.fire t g).core := by
  unfold Dev.fire
  split
  · exact away_wait (fun e he => hg _ (by simpa using he)) h _
  · exact h

/-- The slots' units after a command whose effect keeps a device away. -/
theorem slotsKept_of_away {s t : State} {f : Dev → Dev} (h : onMain s f = .next t) (hf : ∀ l d, Away l d.core → Away l (f d).core) :
    SlotsKept s.dev t.dev := by
  have slots : s.dev.st ≠ LINKED → s.dev.st ≠ PRECHARGE → t.dev.slots = s.dev.slots := fun linked pre => by
    unfold onMain at h
    split at h
    · obtain rfl := Host.Outcome.next.inj h
      have kept := away_iff.mp (hf s.dev.slots s.dev (away_iff.mpr ⟨linked, pre, rfl⟩))
      exact (congrArg Calm.slots (calm_settle _)).trans kept.2.2
    · obtain rfl := Host.Outcome.next.inj h
      rfl
  unfold SlotsKept
  tauto

end Sys2Proof.Machine
end

section
/-! SUPPORT. The frame of the Safety Island's inputs, diagnostics and reset sequence (R503 to R517). -/

namespace Sys2Proof.Machine

set_option Elab.async false

/-- What these commands are free to change. -/
def safetyMask : Mask := ⟨safetyFields, [.slots]⟩

/-! What stays in view -/

@[simp] theorem safetyView_pairFault (d : Dev) (part n src : Nat) (data : List Nat) :
    (d.pairFault part n src data).calm.view safetyMask = d.calm.view safetyMask := by
  unfold Dev.pairFault
  extract_lets o known big d1 d2
  have shown : d2.calm.view safetyMask = d.calm.view safetyMask := view_le (m := pairMask) (by decide) (pairView_safSync d1)
  split
  · exact shown
  · simp (disch := decide) [view_checkFail, shown]

@[simp] theorem safetyView_windowEnd (d : Dev) (part n : Nat) : (d.windowEnd part n).calm.view safetyMask = d.calm.view safetyMask := by
  simp [Dev.windowEnd]

@[simp] theorem view_diffSync {m : Mask} (d : Dev) (n : Nat) : (d.diffSync n).calm.view m = d.calm.view m := rfl

@[simp] theorem safetyView_sdoCheck (d : Dev) : d.sdoCheck.calm.view safetyMask = d.calm.view safetyMask := view_sdoCheck (by decide) _
@[simp] theorem safetyView_resetAbort (d : Dev) (what : Nat) : (d.resetAbort what).calm.view safetyMask = d.calm.view safetyMask := view_resetAbort (by decide) ..

@[simp] theorem safetyView_pairChange (d : Dev) (part n ch : Nat) (high : Bool) : (d.pairChange part n ch high).calm.view safetyMask = d.calm.view safetyMask := by
  unfold Dev.pairChange
  extract_lets x d1 x1 a b dem td tr w2 d2 d3 o d4 d5 d6
  have ended : d1.calm.view safetyMask = d.calm.view safetyMask := by
    simp only [d1]
    split
    · split
      · exact safetyView_windowEnd ..
      · rfl
    · rfl
  have taken : d3.calm.view safetyMask = d.calm.view safetyMask := by simp [d3, d2, ended]
  have timed : d4.calm.view safetyMask = d.calm.view safetyMask := by simp [d4, taken]
  have shown : d5.calm.view safetyMask = d.calm.view safetyMask := (view_le (m := pairMask) (by decide) (pairView_safSync _)).trans timed
  have demanded : d6.calm.view safetyMask = d.calm.view safetyMask := by simp (disch := decide) [d6, view_demandBegin, shown]
  simp [demanded, shown, ended]

@[simp] theorem calm_unhealthy (d : Dev) (p : Nat) : (d.unhealthy p).calm = d.calm := by
  have health : ∀ x, ({ d with saf := { d.saf with health := x } } : Dev).calm = d.calm := fun _ => rfl
  simp [Dev.unhealthy, health, apply_ite Dev.calm]

/-! The device state and the slots' units -/

@[simp] theorem core_safSync (d : Dev) : d.safSync.core = d.core := core_each (fun d n => by simp (disch := decide)) _ _
@[simp] theorem core_sdoCheck (d : Dev) : d.sdoCheck.core = d.core := by simp [Dev.sdoCheck]
@[simp] theorem core_diffSync (d : Dev) (n : Nat) : (d.diffSync n).core = d.core := rfl
@[simp] theorem core_unhealthy (d : Dev) (p : Nat) : (d.unhealthy p).core = d.core := by simp (disch := decide) [Dev.unhealthy]

section
variable {l : List Slot} {d : Dev} (h : Away l d.core)
include h

theorem away_resetAbort (what : Nat) : Away l (d.resetAbort what).core := by
  unfold Dev.resetAbort
  exact away_raise (by simpa (disch := decide) using h) ..

theorem away_demandBegin (part n : Nat) : Away l (d.demandBegin part n).core := by
  unfold Dev.demandBegin
  extract_lets known big kind x data d1 d2 d3
  have timed : d1.core = d.core := by simp [d1]
  have counted : d2.core = d.core := by simp (disch := decide) [d2, timed]
  have aborted : Away l d3.core := by
    rw [← counted] at h
    simp only [d3]
    split
    · exact away_resetAbort h _
    · exact h
  split
  · rwa [timed]
  · exact away_raise aborted ..

theorem away_pairFault (part n src : Nat) (data : List Nat) : Away l (d.pairFault part n src data).core := by
  unfold Dev.pairFault
  extract_lets o known big d1 d2
  have shown : d2.core = d.core := core_safSync d1
  rw [← shown] at h
  split
  · exact h
  · exact away_checkFail (away_raise (by simpa (disch := decide) using h) ..) ..

theorem away_windowEnd (part n : Nat) : Away l (d.windowEnd part n).core := by
  unfold Dev.windowEnd
  extract_lets x d1
  split
  · split
    · exact away_pairFault (d := d1) h ..
    · exact h
  · exact h

theorem away_pairChange (part n ch : Nat) (high : Bool) : Away l (d.pairChange part n ch high).core := by
  unfold Dev.pairChange
  extract_lets x d1 x1 a b dem td tr w2 d2 d3 o d4 d5 d6
  have ended : Away l d1.core := by
    simp only [d1]
    split
    · split
      · exact away_windowEnd h ..
      · exact h
    · exact h
  have taken : d5.core = d1.core := by simp [d5, d4, d3, d2]
  have shown : Away l d5.core := by rwa [taken]
  have demanded : Away l d6.core := by
    simp only [d6]
    split
    · exact away_demandBegin shown ..
    · split
      · rwa [core_condOff]
      · exact shown
  exact away_if ended (away_if shown (away_if (away_pairFault demanded ..) demanded))

theorem away_sdoCheck : Away l d.sdoCheck.core := by rwa [core_sdoCheck]
theorem away_unhealthy (p : Nat) : Away l (d.unhealthy p).core := by rwa [core_unhealthy]

end

/-! The commands -/

theorem view_safety {c : Instr} {s t : State} (hc : isSafety c = true) (h : exec c s = .next t) :
    t.dev.calm.view safetyMask = s.dev.calm.view safetyMask := by
  unfold exec at h
  cases c
  all_goals dsimp only at h
  case safetyInputChange part n ch r => exact view_onMain h fun d => by simp
  case discrepancyTimeout part n => exact view_onMain h fun d => view_fire _ fun e => by simp
  case delayedOffExpiry part n =>
    refine view_onMain h fun d => view_fire _ fun e => ?_
    simp
  case safetyFaultClear n =>
    refine view_onMain h fun d => view_fire _ fun e => ?_
    simp (disch := decide) [view_checkPass]
  case sdoEnergise => exact view_onMain h fun d => by simp (disch := decide)
  case safetyDiagFail x =>
    refine view_onMain h fun d => (safetyView_sdoCheck _).trans ?_
    split
    case h_4 n =>
      split
      · split
        · exact view_wait _ fun e => by simp
        · rfl
      · rfl
    all_goals simp
  case sdoOffPulseTest o volts tenths =>
    refine view_onMain h fun d => view_fire _ fun e => ?_
    simp
  case lorPress apart => exact view_onMain h fun d => by simp (disch := decide)
  case lorHoldTimeout levels =>
    refine view_onMain h fun d => ?_
    extract_lets st
    split
    · rfl
    · split
      · split
        · exact view_wait _ fun e => safetyView_resetAbort ..
        · rfl
      · split
        · rfl
        · exact view_wait _ fun e => safetyView_resetAbort ..
  case resetWindowExpiry => exact view_onMain h fun d => view_fire _ fun e => by simp
  case registrarHeartbeatLost => exact view_onMain h fun d => view_wait _ fun e => by simp
  case registrarMemoryError => exact view_onMain h fun d => by simp
  case safeLoopEdge readback =>
    refine view_onMain h fun d => view_fire _ fun e => ?_
    dsimp only
    split
    · rfl
    · refine (safetyView_sdoCheck _).trans ((view_of_calm (calm_raise ..) _).trans ((view_of_calm (calm_unhealthy ..) _).trans rfl))
  all_goals exact absurd hc Bool.false_ne_true

theorem slots_safety {c : Instr} {s t : State} (hc : isSafety c = true) (h : exec c s = .next t) : SlotsKept s.dev t.dev := by
  unfold exec at h
  cases c
  all_goals dsimp only at h
  case safetyInputChange part n ch r =>
    refine slotsKept_of_away h fun l d hd => ?_
    split
    · exact away_sdoCheck (away_pairChange hd ..)
    · exact hd
  case discrepancyTimeout part n => exact slotsKept_of_away h fun l d hd => away_fire (fun e he => away_sdoCheck (away_windowEnd he ..)) hd _
  case delayedOffExpiry part n =>
    refine slotsKept_of_away h fun l d hd => away_fire (fun e he => ?_) hd _
    extract_lets x d1 saf
    have quiet : Away l d1.core := he
    exact away_sdoCheck (away_if quiet (away_if quiet (away_raise quiet ..)))
  case safetyFaultClear n =>
    refine slotsKept_of_away h fun l d hd => away_fire (fun e he => ?_) hd _
    extract_lets d1 clr d2 x
    have cleared : d1.core = e.core := (core_condOff ..).trans (core_condOff ..)
    have quiet : Away l d2.core := by
      rw [← cleared] at he
      exact he
    exact away_sdoCheck (away_if quiet (by rwa [core_checkPass]))
  case sdoEnergise => exact slotsKept_of_away h fun l d hd => by simpa (disch := decide) using hd
  case safetyDiagFail x =>
    refine slotsKept_of_away h fun l d hd => away_sdoCheck ?_
    split
    case h_4 n =>
      split
      · split
        · exact away_wait (fun e he => away_raise (away_unhealthy (away_unhealthy he _) _) ..) hd _
        · exact hd
      · exact hd
    case h_7 p v =>
      split
      · exact hd
      · exact away_raise (away_unhealthy hd _) ..
    all_goals exact away_raise (by rw [core_unhealthy]; exact hd) ..
  case sdoOffPulseTest o volts tenths =>
    refine slotsKept_of_away h fun l d hd => away_fire (fun e he => ?_) hd _
    extract_lets d1 on
    have armed : Away l d1.core := he
    exact away_if (away_sdoCheck (away_raise (away_unhealthy armed _) ..)) armed
  case lorPress apart =>
    refine slotsKept_of_away h fun l d hd => ?_
    extract_lets late d1
    have pressed : Away l d1.core := by rwa [core_set (by decide)]
    exact away_if hd (away_if (away_resetAbort hd _) (away_if (away_resetAbort hd _) pressed))
  case lorHoldTimeout levels =>
    refine slotsKept_of_away h fun l d hd => ?_
    extract_lets st
    split
    · exact hd
    · split
      · split
        · exact away_wait (fun e he => away_resetAbort he _) hd _
        · exact hd
      · split
        · exact hd
        · exact away_wait (fun e he => away_resetAbort he _) hd _
  case resetWindowExpiry =>
    refine slotsKept_of_away h fun l d hd => away_fire (fun e he => ?_) hd _
    split
    · exact he
    · exact away_resetAbort he _
  case registrarHeartbeatLost =>
    refine slotsKept_of_away h fun l d hd => away_wait (fun e he => ?_) hd _
    exact away_sdoCheck (away_safeOff (d := { e with pwr := { e.pwr with regSelf := some 2 } }) he ..)
  case registrarMemoryError => exact slotsKept_of_away h fun l d hd => away_sdoCheck (away_raise (away_safeOff hd ..) ..)
  case safeLoopEdge readback =>
    refine slotsKept_of_away h fun l d hd => away_fire (fun e he => ?_) hd _
    extract_lets d1 pwr d2
    have toggled : Away l d2.core := he
    exact away_if toggled (away_sdoCheck (away_raise (away_unhealthy toggled _) ..))
  all_goals exact absurd hc Bool.false_ne_true

/-- Settles O50: beside its own registers the island reaches what a check that fails shows and what entry to STAGED presets. -/
theorem safetyFrame : Obligations.SafetyFrame := by
  intro c s t hc h
  have v : t.dev.calm.view safetyMask = s.dev.calm.view safetyMask := view_safety hc h
  exact ⟨kept_of_view v, lanes_of_view v (by decide), cells_of_view v (by decide), slots_safety hc h, bank2_of_view v (by decide),
    phases_of_view v (by decide), gates_of_view v (by decide), enc_of_view v (by decide), metCh_of_view v (by decide), metEl_of_view v (by decide),
    met_of_view v (by decide), ports_of_view v (by decide), hk_of_view v (by decide), keys_of_view v (by decide), fw_of_view v (by decide)⟩

end Sys2Proof.Machine
end

section
/-! SUPPORT. The frame of metering (R422 to R447). -/

namespace Sys2Proof.Machine

set_option Elab.async false

/-- What these commands are free to change. -/
def meterMask : Mask := ⟨meteringFields, [.slots, .metCh, .metEl, .met]⟩

/-! What stays in view -/

@[simp] theorem meterView_mch (d : Dev) (k : Nat) (g : MetCh → MetCh) : (d.mch k g).calm.view meterMask = d.calm.view meterMask := view_mch _ _ (by decide) _
@[simp] theorem meterView_mel (d : Dev) (k : Nat) (g : MetEl → MetEl) : (d.mel k g).calm.view meterMask = d.calm.view meterMask := view_mel _ _ (by decide) _

@[simp] theorem meterView_metFlag (d : Dev) (es : List Nat) (bit : Nat) : (d.metFlag es bit).calm.view meterMask = d.calm.view meterMask :=
  view_each (fun _ _ => meterView_mel ..) _ _

@[simp] theorem meterView_chConditions (d : Dev) (m : Nat) (x : Int) : (d.chConditions m x).calm.view meterMask = d.calm.view meterMask := by
  unfold Dev.chConditions
  extract_lets c inside back mean d1 d2 d3 d4 d5 n
  have back_ : d2.calm.view meterMask = d.calm.view meterMask := by simp [d2, d1]
  have checked : d3.calm.view meterMask = d.calm.view meterMask := by simp (disch := decide) [d3, view_checkFail, view_checkPass, back_]
  have beyond : d5.calm.view meterMask = d.calm.view meterMask := by simp (disch := decide) [d5, d4, checked]
  simp [beyond, checked]

@[simp] theorem meterView_periodCount (d : Dev) (m : Nat) : (d.periodCount m).calm.view meterMask = d.calm.view meterMask :=
  view_each (fun _ _ => meterView_mel ..) _ _

@[simp] theorem meterView_periodEnd (d : Dev) (m a b t : Nat) : (d.periodEnd m a b t).calm.view meterMask = d.calm.view meterMask := by
  simp [Dev.periodEnd]

@[simp] theorem meterView_crossing (d : Dev) (m t now : Nat) : (d.crossing m t now).calm.view meterMask = d.calm.view meterMask := by
  unfold Dev.crossing
  extract_lets c gap nom near d1 was ends d2 d3 d4
  have first : d1.calm.view meterMask = d.calm.view meterMask := by simp [d1]
  have measured : d4.calm.view meterMask = d.calm.view meterMask := by simp [d4, d3, d2]
  simp (disch := decide) [first, measured]

@[simp] theorem meterView_zcStep (d : Dev) (m t : Nat) (v : Rat) : (d.zcStep m t v).calm.view meterMask = d.calm.view meterMask := by
  simp [Dev.zcStep]

@[simp] theorem meterView_elPower (d : Dev) (e : Nat) : (d.elPower e).1.calm.view meterMask = d.calm.view meterMask := by
  unfold Dev.elPower
  extract_lets v i sgn w p q d1 x
  split
  · rfl
  · exact meterView_mel ..

@[simp] theorem meterView_chWindow (d : Dev) (m : Nat) : (d.chWindow m).calm.view meterMask = d.calm.view meterMask := by
  unfold Dev.chWindow
  extract_lets c n mean rms d1 avg mu inside out d2 d3
  have shown : d1.calm.view meterMask = d.calm.view meterMask := by simp (disch := decide) [d1]
  have judged : d2.calm.view meterMask = d.calm.view meterMask := by simp (disch := decide) [d2, shown]
  have flagged : d3.calm.view meterMask = d.calm.view meterMask := (meterView_metFlag ..).trans judged
  simp [judged, flagged]

@[simp] theorem meterView_harmWindow (d : Dev) : d.harmWindow.calm.view meterMask = d.calm.view meterMask := by
  unfold Dev.harmWindow
  extract_lets w met d1 h
  have counted : d1.calm.view meterMask = d.calm.view meterMask := view_withMet _ (by decide) _
  have waits : ∀ x, ({ d1 with met := x } : Dev).calm.view meterMask = d.calm.view meterMask := fun x => (view_withMet d1 (by decide) x).trans counted
  split
  · exact counted
  · split
    · exact (view_inc (by decide) ..).trans (waits _)
    · split
      · split
        · exact (view_inc (by decide) ..).trans counted
        · exact (view_loanFile (by decide) ..).trans (waits _)
      · exact counted

@[simp] theorem meterView_elWindow (d : Dev) (e t : Nat) : (d.elWindow e t).calm.view meterMask = d.calm.view meterMask := by
  unfold Dev.elWindow
  extract_lets x n p q sv d1 c stop d2 own v i d3 d4
  have shown : d2.calm.view meterMask = d.calm.view meterMask := by simp (disch := decide) [d2, d1]
  have voltage : d3.calm.view meterMask = d.calm.view meterMask := by simp [d3, shown]
  have current : d4.calm.view meterMask = d.calm.view meterMask := by simp [d4, voltage]
  simp [current]

@[simp] theorem meterView_elSample (d : Dev) (e t : Nat) : (d.elSample e t).calm.view meterMask = d.calm.view meterMask := by
  unfold Dev.elSample
  extract_lets v i lost dc
  split
  rename_i d1 P Q same
  have power : d1.calm.view meterMask = d.calm.view meterMask := (congrArg (fun x => x.1.calm.view meterMask) same).symm.trans (meterView_elPower ..)
  extract_lets nl rv ri d2 d3 d4 d5 d6
  have windows : d3.calm.view meterMask = d.calm.view meterMask := by simp [d3, d2, power]
  have sums : d4.calm.view meterMask = d.calm.view meterMask := (view_each (fun _ _ => meterView_mch ..) _ _).trans windows
  have closed : d6.calm.view meterMask = d.calm.view meterMask := (meterView_mel ..).trans ((meterView_mel ..).trans sums)
  simp [closed]

@[simp] theorem meterView_arcMeter (d : Dev) (k : Nat) : (d.arcMeter k).calm.view meterMask = d.calm.view meterMask := by
  simp [Dev.arcMeter]

@[simp] theorem meterView_intervalOpen (d : Dev) (e start : Nat) (fr : Nat × Nat × List Nat) (extra last : Nat) :
    (d.intervalOpen e start fr extra last).calm.view meterMask = d.calm.view meterMask := by
  unfold Dev.intervalOpen
  split
  simp (disch := decide)

@[simp] theorem meterView_totalsAdd (d : Dev) (e : Nat) (v : Interval) : (d.totalsAdd e v).1.calm.view meterMask = d.calm.view meterMask := by
  unfold Dev.totalsAdd
  extract_lets m x1 x2 exact_
  refine (view_each (fun d j => view_inc (by decide) ..) _ _).trans ?_
  simp (disch := decide) [x1]

@[simp] theorem meterView_intervalClose (d : Dev) (e : Nat) (v : Interval) : (d.intervalClose e v).1.calm.view meterMask = d.calm.view meterMask := by
  unfold Dev.intervalClose
  extract_lets m count
  split
  rename_i d1 exact_ same
  have totals : d1.calm.view meterMask = d.calm.view meterMask := (congrArg (fun x => x.1.calm.view meterMask) same).symm.trans (meterView_totalsAdd ..)
  extract_lets bad seq fl r met d2 d3 d4
  have kept : d2.calm.view meterMask = d.calm.view meterMask := (view_withMet d1 (by decide) _).trans totals
  have raised : d3.calm.view meterMask = d.calm.view meterMask := (view_of_calm (calm_raise ..) _).trans ((view_set (by decide) ..).trans kept)
  simp [d4, raised]

@[simp] theorem meterView_intervalNext (d : Dev) (e : Nat) : (d.intervalNext e).calm.view meterMask = d.calm.view meterMask := by
  unfold Dev.intervalNext
  split
  · rfl
  · exact (meterView_intervalOpen ..).trans (meterView_intervalClose ..)

@[simp] theorem meterView_intervalsTo (d : Dev) (t : Nat) : (d.intervalsTo t).calm.view meterMask = d.calm.view meterMask := by
  refine view_each (fun d e => ?_) _ _
  split
  · simp
  · rfl

@[simp] theorem meterView_harmElement (d : Dev) (e : Nat) : (d.harmElement e).calm.view meterMask = d.calm.view meterMask := by
  unfold Dev.harmElement
  split
  · rfl
  · extract_lets M met
    split
    split
    extract_lets rows d1
    have kept : d1.calm.view meterMask = d.calm.view meterMask := view_withMet _ (by decide) _
    simp (disch := decide) [kept]

@[simp] theorem meterView_elClosure (d : Dev) (e : Nat) (sum : Int) (abs : Nat) (arr : Rat) : (d.elClosure e sum abs arr).calm.view meterMask = d.calm.view meterMask := by
  unfold Dev.elClosure
  extract_lets met tot diff lim j d1
  have shown : d1.calm.view meterMask = d.calm.view meterMask := view_setS (by decide) ..
  simp [shown]

theorem view_metering {c : Instr} {s t : State} (hc : isMetering c = true) (h : exec c s = .next t) :
    t.dev.calm.view meterMask = s.dev.calm.view meterMask := by
  unfold exec at h
  cases c
  all_goals dsimp only at h
  case meterSample x =>
    refine view_onMain h fun d => ?_
    split
    · rfl
    · extract_lets at_ d1 met d2 d3
      have counted : d1.calm.view meterMask = d.calm.view meterMask := (view_inc (by decide) ..).trans (view_until ..)
      have intervals : d2.calm.view meterMask = d.calm.view meterMask := (meterView_intervalsTo ..).trans ((view_withMet d1 (by decide) _).trans counted)
      have channels : d3.calm.view meterMask = d2.calm.view meterMask := view_each (fun d m => by simp [Dev.metFilter]) _ _
      have elements : ∀ l : List Nat, (d3.each l fun d e => d.elSample e at_).calm.view meterMask = d3.calm.view meterMask :=
        fun l => view_each (fun d e => meterView_elSample ..) _ _
      simp [elements, channels, intervals]
  case zcTimeout m =>
    refine view_onMain h fun d => view_fire _ fun e => ?_
    simp (disch := decide)
  case metChannelLost m density =>
    refine view_onMain h fun d => ?_
    simp (disch := decide) [view_checkFail]
  case meterIntervalClose e =>
    refine view_onMain h fun d => ?_
    split
    · rfl
    · simp
  case harmonicBurstDone =>
    refine view_onMain h fun d => view_fire _ fun e => ?_
    extract_lets d1 d2 met
    have done : d2.calm.view meterMask = e.calm.view meterMask := (view_set (by decide) ..).trans (view_each (fun d e => meterView_harmElement ..) _ _)
    exact (view_of_calm (calm_loanReturn ..) _).trans ((view_withMet d2 (by decide) _).trans done)
  case meterClosureWindow =>
    refine view_onMain h fun d => view_each (fun d e => ?_) _ _
    split
    · simp
    · rfl
  all_goals exact absurd hc Bool.false_ne_true

/-! The device state and the slots' units -/

@[simp] theorem core_metFlag (d : Dev) (es : List Nat) (bit : Nat) : (d.metFlag es bit).core = d.core := core_each (fun _ _ => core_mel ..) _ _
@[simp] theorem core_periodCount (d : Dev) (m : Nat) : (d.periodCount m).core = d.core := core_each (fun _ _ => core_mel ..) _ _
@[simp] theorem core_periodEnd (d : Dev) (m a b t : Nat) : (d.periodEnd m a b t).core = d.core := by simp [Dev.periodEnd]

@[simp] theorem core_crossing (d : Dev) (m t now : Nat) : (d.crossing m t now).core = d.core := by
  unfold Dev.crossing
  extract_lets c gap nom near d1 was ends d2 d3 d4
  have first : d1.core = d.core := by simp [d1]
  have measured : d4.core = d.core := by simp [d4, d3, d2]
  simp (disch := decide) [first, measured]

@[simp] theorem core_zcStep (d : Dev) (m t : Nat) (v : Rat) : (d.zcStep m t v).core = d.core := by simp [Dev.zcStep]

@[simp] theorem core_elPower (d : Dev) (e : Nat) : (d.elPower e).1.core = d.core := by
  unfold Dev.elPower
  extract_lets v i sgn w p q d1 x
  split <;> rfl

@[simp] theorem core_refuse7 (d : Dev) (inst why : Nat) : (d.refuse 7 inst why).core = d.core := by
  simp (disch := decide) [Dev.refuse, Dev.refuseRec, Dev.refuseEffect]

@[simp] theorem core_loanFile7 (d : Dev) (inst : Nat) : (d.loanFile 7 inst).core = d.core := by simp [Dev.loanFile]

@[simp] theorem core_harmWindow (d : Dev) : d.harmWindow.core = d.core := by simp (disch := decide) [Dev.harmWindow]

@[simp] theorem core_arcSample (d : Dev) (type flags object time aux : Nat) (body : List Int) (len : Nat) :
    (d.arcSample type flags object time aux body len).core = d.core := by
  unfold Dev.arcSample
  split <;> rfl

@[simp] theorem core_arcMeter (d : Dev) (k : Nat) : (d.arcMeter k).core = d.core := by simp [Dev.arcMeter]

@[simp] theorem core_intervalOpen (d : Dev) (e start : Nat) (fr : Nat × Nat × List Nat) (extra last : Nat) : (d.intervalOpen e start fr extra last).core = d.core := by
  unfold Dev.intervalOpen
  split
  simp (disch := decide)

@[simp] theorem core_totalsAdd (d : Dev) (e : Nat) (v : Interval) : (d.totalsAdd e v).1.core = d.core :=
  (core_each (fun d j => core_inc (by decide) ..) _ _).trans ((core_inc (by decide) ..).trans (core_inc (by decide) ..))

@[simp] theorem core_harmElement (d : Dev) (e : Nat) : (d.harmElement e).core = d.core := by
  unfold Dev.harmElement
  split
  · rfl
  · extract_lets M met
    split
    split
    simp (disch := decide)

section
variable {l : List Slot} {d : Dev} (h : Away l d.core)
include h

theorem away_chConditions (m : Nat) (x : Int) : Away l (d.chConditions m x).core := by
  unfold Dev.chConditions
  extract_lets c inside back mean d1 d2 d3 d4 d5 n
  have back_ : d2.core = d.core := by simp [d2, d1]
  rw [← back_] at h
  have checked : Away l d3.core := away_if (away_if (away_checkFail h ..) (away_if h (by rwa [core_checkPass]))) h
  have flagged : d5.core = d3.core := by simp (disch := decide) [d5, d4]
  have beyond : Away l d5.core := by rwa [flagged]
  exact away_if (away_if beyond (away_raise (by rwa [core_condOn]) ..)) (away_if (away_if (by rwa [core_condOff]) checked) checked)

theorem away_chWindow (m : Nat) : Away l (d.chWindow m).core := by
  unfold Dev.chWindow
  extract_lets c n mean rms d1 avg mu inside out d2 d3
  have judged : d2.core = d.core := by simp (disch := decide) [d2, d1]
  have flagged : d3.core = d2.core := core_metFlag ..
  have judged_ : Away l d2.core := by rwa [judged]
  have flagged_ : Away l d3.core := by rwa [flagged]
  exact away_if h (away_if (by rwa [core_condOff]) (away_if flagged_ (away_raise (by rwa [core_condOn]) ..)))

theorem away_elWindow (e t : Nat) : Away l (d.elWindow e t).core := by
  unfold Dev.elWindow
  extract_lets x n p q sv d1 c stop d2 own v i d3 d4
  have shown : d2.core = d.core := by simp (disch := decide) [d2, d1]
  have shown_ : Away l d2.core := by rwa [shown]
  have voltage : Away l d3.core := away_if (away_chWindow shown_ _) shown_
  have current : Away l d4.core := away_if (away_chWindow voltage _) voltage
  exact away_if h (away_if (by rwa [core_harmWindow]) current)

theorem away_elSample (e t : Nat) : Away l (d.elSample e t).core := by
  unfold Dev.elSample
  extract_lets v i lost dc
  split
  rename_i d1 P Q same
  have power : d1.core = d.core := (congrArg (fun x => x.1.core) same).symm.trans (core_elPower ..)
  extract_lets nl rv ri d2 d3 d4 d5 d6
  have waves : Away l d2.core := by
    rw [← power] at h
    exact h
  have windows : Away l d3.core := away_if (away_elWindow waves ..) waves
  have sums : d6.core = d3.core := core_each (fun d m => core_mch ..) _ _
  have closed : Away l d6.core := by rwa [sums]
  exact away_if (away_elWindow closed ..) closed

theorem away_intervalNext (e : Nat) : Away l (d.intervalNext e).core := by
  unfold Dev.intervalNext
  split
  · exact h
  · rename_i v _
    split
    rename_i d4 fr same
    have closed : Away l (d.intervalClose e v).1.core := by
      unfold Dev.intervalClose
      extract_lets m count
      split
      rename_i d1 exact_ same
      have totals : d1.core = d.core := (congrArg (fun x => x.1.core) same).symm.trans (core_totalsAdd ..)
      extract_lets bad seq fl r met d2 d3 d4
      have kept : Away l (d2.set F.MET_EL_RECS.SEQ (seq + 1) e).core := by
        rw [core_set (by decide)]
        rw [← totals] at h
        exact h
      have raised : Away l d3.core := away_raise kept ..
      exact away_if (away_conserve (by rwa [core_condOn]) ..) (by rwa [core_condOff])
    rw [same] at closed
    rw [core_intervalOpen]
    exact closed

theorem away_intervalsTo (t : Nat) : Away l (d.intervalsTo t).core :=
  away_each (fun e i he => by
    split
    · exact away_if (away_intervalNext he i) he
    · exact he) h _

theorem away_elClosure (e : Nat) (sum : Int) (abs : Nat) (arr : Rat) : Away l (d.elClosure e sum abs arr).core := by
  unfold Dev.elClosure
  extract_lets met tot diff lim j d1
  have shown : d1.core = d.core := core_setS (by decide) ..
  rw [← shown] at h
  exact away_if (away_raise (by rwa [core_metFlag]) ..) h

end

/-! The commands -/

theorem slots_metering {c : Instr} {s t : State} (hc : isMetering c = true) (h : exec c s = .next t) : SlotsKept s.dev t.dev := by
  unfold exec at h
  cases c
  all_goals dsimp only at h
  case meterSample x =>
    refine slotsKept_of_away h fun l d hd => ?_
    extract_lets at_ d1 met d2 d3
    have counted : d1.core = d.core := (core_inc (by decide) ..).trans (core_until ..)
    have intervals : Away l d2.core := by
      rw [← counted] at hd
      exact away_intervalsTo (d := { d1 with met := { d1.met with k := d1.met.k + 1 } }) hd at_
    have channels : Away l d3.core := by
      refine away_each (fun e m he => ?_) intervals _
      extract_lets e1 e2 v e3
      have filtered : Away l e1.core := he
      have judged : Away l e2.core := away_chConditions filtered ..
      have read : Away l e3.core := judged
      exact away_if (by rwa [core_zcStep]) read
    have elements := away_each (fun e i he => away_elSample he i at_) channels d3.metEls
    refine away_if hd ?_
    rw [core_free, core_arcMeter]
    exact elements
  case zcTimeout m =>
    refine slotsKept_of_away h fun l d hd => away_fire (fun e he => ?_) hd _
    extract_lets c d1 z d2 d3
    have timed : Away l d2.core := he
    have shown : d3.core = d2.core := by simp (disch := decide) [d3]
    exact away_if he (away_if timed (away_raise (by rwa [shown]) ..))
  case metChannelLost m density =>
    refine slotsKept_of_away h fun l d hd => ?_
    extract_lets d1
    have lost : d1.core = d.core := by simp (disch := decide) [d1]
    exact away_if hd (away_checkFail (away_raise (by rwa [lost]) ..) ..)
  case meterIntervalClose e =>
    refine slotsKept_of_away h fun l d hd => ?_
    split
    · exact hd
    · exact away_if (away_intervalNext hd _) hd
  case harmonicBurstDone =>
    refine slotsKept_of_away h fun l d hd => away_fire (fun e he => ?_) hd _
    extract_lets d1 d2 met
    have done : d2.core = e.core := (core_set (by decide) ..).trans (core_each (fun d e => core_harmElement ..) _ _)
    rw [core_loanReturn]
    rw [← done] at he
    exact he
  case meterClosureWindow =>
    refine slotsKept_of_away h fun l d hd => away_each (fun e i he => ?_) hd _
    split
    · extract_lets e1
      have taken : Away l e1.core := he
      exact away_if (away_if (away_elClosure taken ..) taken) he
    · exact he
  all_goals exact absurd hc Bool.false_ne_true

/-- Settles O48: metering writes its channels' and elements' registers, and what a check that fails shows. -/
theorem meteringFrame : Obligations.MeteringFrame := by
  intro c s t hc h
  have v : t.dev.calm.view meterMask = s.dev.calm.view meterMask := view_metering hc h
  exact ⟨kept_of_view v, lanes_of_view v (by decide), cells_of_view v (by decide), slots_metering hc h, bank2_of_view v (by decide),
    phases_of_view v (by decide), gates_of_view v (by decide), enc_of_view v (by decide), ports_of_view v (by decide), hk_of_view v (by decide),
    keys_of_view v (by decide), fw_of_view v (by decide)⟩

end Sys2Proof.Machine
end

section
/-! SUPPORT. What a check that fails leaves of the block but its registers: every unit and every calm deadline, but for the slots' units and the encoder's
fall that entry to STAGED presets (R299, R406), and the list of failures itself. -/

namespace Sys2Proof.Machine

set_option Elab.async false

/-- The calm part of the block without its registers and without what entry to STAGED and the list of failures change. -/
def Dev.held (d : Dev) : Calm :=
  { d.calm with reg := fun _ => 0, slots := [], col := { d.calm.col with fell := false }, arr := { d.calm.arr with fails := [] } }

theorem held_of_calm {d e : Dev} (h : e.calm = d.calm) : e.held = d.held := by rw [Dev.held, Dev.held, h]

@[simp] theorem held_set (d : Dev) (f : Fld) (v a b c : Nat) : (d.set f v a b c).held = d.held := by
  unfold Dev.set
  split <;> rfl
@[simp] theorem held_setB (d : Dev) (f : Fld) (v : Bool) (a b c : Nat) : (d.setB f v a b c).held = d.held := held_set ..
@[simp] theorem held_inc (d : Dev) (f : Fld) (n a b c : Nat) : (d.inc f n a b c).held = d.held := held_set ..
@[simp] theorem held_slot (d : Dev) (k : Nat) (g : Slot → Slot) : (d.slot k g).held = d.held := rfl
@[simp] theorem held_ite {p : Prop} [Decidable p] (x y : Dev) : (if p then x else y).held = if p then x.held else y.held := apply_ite Dev.held p x y

@[simp] theorem held_cond (d : Dev) (b : Bool) (g : Dev → Dev) : (d.cond b g).held = if b then (g d).held else d.held := by
  cases b <;> rfl

theorem held_each {α : Type} {g : Dev → α → Dev} (h : ∀ d x, (g d x).held = d.held) (l : List α) (d : Dev) : (d.each l g).held = d.held :=
  each_keeps Dev.held h l d

@[simp] theorem held_loopEntry (d : Dev) (full : Bool) : (d.loopEntry full).held = d.held :=
  (held_each (fun d k => held_slot ..) _ _).trans (held_each (fun d k => held_each (fun d j => by simp) _ _) _ _)

theorem held_fell (d : Dev) (x : Bool) : ({ d with col := { d.col with fell := x } } : Dev).held = d.held := rfl

@[simp] theorem held_stagedEntry (d : Dev) : d.stagedEntry.held = d.held := by
  unfold Dev.stagedEntry
  extract_lets d1 col d2
  have entered : d1.held = d.held := held_loopEntry ..
  have fell : d2.held = d1.held := held_fell ..
  simp [fell, entered]

@[simp] theorem held_setState (d : Dev) (s : Nat) (o : Orig) : (d.setState s o).held = d.held := by
  have unproven : ∀ e : Dev, (e.each (List.range 32) fun d x =>
      d.setB F.GD_STATUS.UNPROVEN (d.bit F.GD_CFG.BOOTSTRAP x && d.bit F.GD_CFG.DECLARED x) x).held = e.held :=
    fun e => held_each (fun d x => held_setB ..) _ _
  have brake : ∀ e : Dev, (e.each [24, 25] fun d c => d.level c 0).held = e.held := fun e => held_each (fun d c => held_of_calm (calm_level ..)) _ _
  unfold Dev.setState
  extract_lets old d1 d2 a d3 d4 d5 d6 d7
  have logged : d1.held = d.held := (held_of_calm (calm_log ..)).trans ((held_set ..).trans ((held_of_calm (calm_loopRate _)).trans (held_set ..)))
  have entered : d2.held = d.held := by simp [d2, logged]
  have archive : d3.held = d.held := by simp [d3, held_of_calm (calm_arcStart _), entered]
  have silent : d4.held = d.held := by simp [d4, held_of_calm (calm_loopSilence _), archive]
  have proofs : d5.held = d.held := by simp [d5, unproven, silent]
  have unarmed : d6.held = d.held := by simp [d6, proofs]
  have braked : d7.held = d.held := by simp [d7, brake, unarmed, proofs]
  simp [held_of_calm (calm_sdoDrop ..), braked]

@[simp] theorem held_failSync (d : Dev) : d.failSync.held = d.held := by
  unfold Dev.failSync
  extract_lets l d1
  exact (held_each (fun d w => held_set ..) _ _).trans (by simp [d1])

theorem held_raise (d : Dev) (src cls obj : Nat) (data : List Nat) (i factor : Option Nat) : (d.raise src cls obj data i factor).held = d.held :=
  held_of_calm (calm_raise ..)

@[simp] theorem held_checkFail (d : Dev) (code obj : Nat) : (d.checkFail code obj).held = d.held := by
  unfold Dev.checkFail
  extract_lets arr d1 d2
  have listed : d1.held = d.held := (held_failSync _).trans rfl
  have shown : d2.held = d.held := by simp [d2, held_raise, listed]
  have left : d2.startEnd.held = d.held := (held_of_calm (calm_startEnd _)).trans shown
  simp [held_of_calm (calm_groupFile _), left, shown]

@[simp] theorem held_checkPass (d : Dev) (code obj : Nat) : (d.checkPass code obj).held = d.held := by
  unfold Dev.checkPass
  split
  · exact (held_failSync _).trans rfl
  · rfl

@[simp] theorem held_check (d : Dev) (code obj : Nat) (ok : Bool) : (d.check code obj ok).held = d.held := by
  simp [Dev.check]

theorem tick_of_calm {d e : Dev} (h : e.calm = d.calm) : e.tick = d.tick := congrArg Calm.tick h
theorem hk_of_calm {d e : Dev} (h : e.calm = d.calm) : e.hk = d.hk := congrArg Calm.hk h

section
variable {d e : Dev} (h : e.held = d.held)
include h

theorem tick_of_held : e.tick = d.tick := congrArg Calm.tick h
theorem lanes_of_held : e.lanes = d.lanes := congrArg Calm.lanes h
theorem cells_of_held : e.cells = d.cells := congrArg Calm.cells h
theorem metCh_of_held : e.metCh = d.metCh := congrArg Calm.metCh h
theorem hk_of_held : e.hk = d.hk := congrArg Calm.hk h
theorem live_of_held : e.live = d.live := congrArg (fun x => x.pwr.main == .running) h
theorem pairs_of_held : e.saf.pairs = d.saf.pairs := congrArg (fun x => x.saf.pairs) h

theorem due_of_held {t : Timer} (ht : t.calm = true) : e.due t = d.due t := by
  have find := congrFun (congrArg Calm.due h) t
  simp only [Dev.held, Dev.calm, calmDue, ht, if_true] at find
  exact find

end

end Sys2Proof.Machine
end

section
/-! SUPPORT. The frame of a housekeeping round (R524 to R539), and what a round leaves of the figures it shows first. -/

namespace Sys2Proof.Machine

set_option Elab.async false

/-- What a round is free to change once it is counted and VIN and VKEEP are shown. -/
def roundMask : Mask :=
  ⟨[F.COL_STATUS.REFERENCED, F.COL_STATUS.VALID, F.GLB_STAGE_FAIL.CODE, F.GLB_STAGE_FAIL.COUNT, F.GLB_STAGE_FAIL.OBJECT,
    F.GLB_STAGE_LANES.FAILED, F.HK_CELL_CHECK.FLAGS, F.HK_CELL_FLAGS.NODE_CHECK, F.HK_CELL_FLAGS.OUTVOTED, F.HK_CELL_FLAGS.RANGE,
    F.HK_CELL_ITEM.X, F.HK_RATE.RHO, F.HK_SET_STATE.CELL, F.HK_SET_STATE.DERATE, F.HK_SET_STATE.OUTVOTED, F.HK_SET_STATE.RANGE,
    F.HK_SET_STATE.STOP, F.HK_SET_STATE.WARN, F.HK_STATUS.DERATING, F.HK_STATUS.FACTOR, F.HK_STATUS.FAST, F.HK_STATUS.STOP_REQ, F.HK_TNEED.T_NEED,
    F.HK_VALUE.X, F.LANE_STATUS.FAIL, F.SLOT_E.E, F.SLOT_Y.Y], [.cells, .slots, .hk]⟩

/-- What these commands are free to change. -/
def housekeepingMask : Mask := ⟨housekeepingFields, [.cells, .slots, .hk]⟩

/-- What is seen of the block through the mask of a round, the tick, and the round that is evaluated. -/
def Dev.seen (d : Dev) : View × Nat × Nat := (d.calm.view roundMask, d.tick, d.hk.round)

/-- The same with the device state and the slots' units, which only an event or a check can move. -/
def Dev.quiet (d : Dev) : (View × Nat × Nat) × (Nat × List Slot) := (d.seen, d.core)

theorem seen_of_calm {d e : Dev} (h : e.calm = d.calm) : e.seen = d.seen := by
  have tick : e.tick = d.tick := congrArg Calm.tick h
  have hk : e.hk = d.hk := congrArg Calm.hk h
  rw [Dev.seen, Dev.seen, view_of_calm h, tick, hk]

theorem seen_of_quiet {d e : Dev} (h : e.quiet = d.quiet) : e.seen = d.seen := congrArg Prod.fst h
theorem core_of_quiet {d e : Dev} (h : e.quiet = d.quiet) : e.core = d.core := congrArg Prod.snd h

/-! What keeps both -/

@[simp] theorem quiet_ite {p : Prop} [Decidable p] (x y : Dev) : (if p then x else y).quiet = if p then x.quiet else y.quiet := apply_ite Dev.quiet p x y

@[simp] theorem quiet_set {f : Fld} (h : (roundMask.frees f && F.GLB_STATE.DEVICE.apart f) = true) (d : Dev) (v a b c : Nat) :
    (d.set f v a b c).quiet = d.quiet := by
  simp only [Bool.and_eq_true] at h
  simp only [Dev.quiet, Dev.seen, view_set h.1, core_set h.2, Dev.set_tick, Dev.set_hk]

@[simp] theorem quiet_setB {f : Fld} (h : (roundMask.frees f && F.GLB_STATE.DEVICE.apart f) = true) (d : Dev) (v : Bool) (a b c : Nat) :
    (d.setB f v a b c).quiet = d.quiet := quiet_set h ..

theorem quiet_withHk {d : Dev} {x : Hk} (h : x.round = d.hk.round) : ({ d with hk := x } : Dev).quiet = d.quiet := by
  simp only [Dev.quiet, Dev.seen, view_withHk d (show roundMask.parts.contains .hk = true by decide), h]
  rfl

@[simp] theorem quiet_hkp (d : Dev) (k : Nat) (g : HkPoint → HkPoint) : (d.hkp k g).quiet = d.quiet := quiet_withHk rfl

@[simp] theorem quiet_cell (d : Dev) (k : Nat) (g : Cell → Cell) : (d.cell k g).quiet = d.quiet := by
  simp only [Dev.quiet, Dev.seen, view_cell d k (show roundMask.parts.contains .cells = true by decide), core_cell]
  rfl

@[simp] theorem quiet_condOn (d : Dev) (src obj : Nat) : (d.condOn src obj).quiet = d.quiet := by
  rw [Dev.quiet, seen_of_calm (calm_condOn ..), core_condOn, Dev.quiet]

@[simp] theorem quiet_condOff (d : Dev) (src obj : Nat) : (d.condOff src obj).quiet = d.quiet := by
  rw [Dev.quiet, seen_of_calm (calm_condOff ..), core_condOff, Dev.quiet]

theorem quiet_each {α : Type} {g : Dev → α → Dev} (h : ∀ d x, (g d x).quiet = d.quiet) (l : List α) (d : Dev) : (d.each l g).quiet = d.quiet :=
  each_keeps Dev.quiet h l d

theorem quiet_foldl {α : Type} {g : Dev → α → Dev} (h : ∀ d x, (g d x).quiet = d.quiet) (l : List α) (d : Dev) : (l.foldl g d).quiet = d.quiet :=
  quiet_each h l d

@[simp] theorem quiet_hkSay (d : Dev) (src cls obj : Nat) (data : List Nat) (factor : Option Nat) : (d.hkSay src cls obj data factor).quiet = d.quiet :=
  quiet_withHk rfl

@[simp] theorem quiet_hkEpisode (d : Dev) (src cls obj : Nat) (was now : Bool) (data : List Nat) (factor : Option Nat) :
    (d.hkEpisode src cls obj was now data factor).quiet = d.quiet := by
  simp [Dev.hkEpisode]

theorem quiet_hkVote (d : Dev) (vals : List (Nat × Nat)) (g : Nat × Nat × List Nat) : (d.hkVote vals g).quiet = d.quiet := by
  unfold Dev.hkVote
  extract_lets v d1 m near apart fail was hk d2 d3
  have unvoted : d1.quiet = d.quiet := quiet_each (fun d p => quiet_hkp ..) _ _
  have noted : d2.quiet = d1.quiet := quiet_withHk rfl
  have said : d3.quiet = d1.quiet := (quiet_hkEpisode ..).trans noted
  split
  · exact unvoted
  · refine (quiet_foldl (fun e x => ?_) v d3).trans (said.trans unvoted)
    simp

@[simp] theorem quiet_hkHist (d : Dev) (p : Nat) (x : Option Nat) : (d.hkHist p x).quiet = d.quiet := quiet_hkp ..

theorem quiet_hkStop (d : Dev) (fresh all : List (Nat × Nat)) : (d.hkStop fresh all).quiet = d.quiet := by
  unfold Dev.hkStop
  extract_lets need d1 hk d2 late pool
  have needed : d1.quiet = d.quiet := quiet_set (by decide) ..
  have shown : d2.quiet = d1.quiet := quiet_withHk rfl
  clear_value pool
  cases pool with
  | nil => exact shown.trans needed
  | cons a r =>
    refine (quiet_withHk rfl).trans ?_
    simp (disch := decide) [shown, needed]

theorem quiet_hkThresholds (d : Dev) (vals : List (Nat × Nat)) : (d.hkThresholds vals).quiet = d.quiet := by
  unfold Dev.hkThresholds
  extract_lets ev old d1 now low f d2 reg d3 d4 d5
  have next : d1.quiet = d.quiet := quiet_foldl (fun d x => quiet_hkp ..) ev d
  have factor : d2.quiet = d1.quiet := (quiet_setB (by decide) ..).trans (quiet_set (by decide) ..)
  have derated : d3.quiet = d2.quiet := by
    simp only [d3]
    split <;> rfl
  have episodes : d4.quiet = d3.quiet := quiet_foldl (fun d x => by simp) ev d3
  have asked : d5.quiet = d4.quiet := quiet_setB (by decide) ..
  rw [quiet_hkStop, asked, episodes, derated, factor, next]

theorem quiet_hkNode (d : Dev) (k : Nat) : (d.hkNode k).quiet = d.quiet := by
  unfold Dev.hkNode
  extract_lets c was now hk d1 d2
  have noted : d1.quiet = d.quiet := quiet_withHk rfl
  have checked : d2.quiet = d.quiet := by simp (disch := decide) [d2, noted]
  simp (disch := decide) [checked]

theorem quiet_hkClear (d : Dev) (p : Nat) : (d.hkClear p).quiet = d.quiet := by
  unfold Dev.hkClear
  split
  · rfl
  · exact (quiet_foldl (fun d src => quiet_condOff ..) [224, 225, 226, 227, 228] _).trans (quiet_hkp ..)

theorem quiet_hkShow (d : Dev) (vals : List (Nat × Nat)) (t : Nat) : (d.hkShow vals t).quiet = d.quiet := by
  unfold Dev.hkShow
  extract_lets mine ps good near d1 d2 d3
  have shown : d1.quiet = d.quiet := by
    simp only [d1]
    generalize near = n
    cases n with
    | nil => rfl
    | cons x r => simp (disch := decide)
  simp (disch := decide) [d3, d2, shown]

theorem quiet_hkCell (d : Dev) (k : Nat) : (d.hkCell k).quiet = d.quiet := by
  unfold Dev.hkCell
  extract_lets d1 bits d2
  have items : d1.quiet = d.quiet := by
    refine quiet_each (fun d i => ?_) _ _
    split
    · exact quiet_set (by decide) ..
    · rfl
  simp (disch := decide) [d2, items]

/-! A check and the events of a round -/

theorem seen_check (d : Dev) (code obj : Nat) (ok : Bool) : (d.check code obj ok).seen = d.seen := by
  have view : (d.check code obj ok).calm.view roundMask = d.calm.view roundMask := view_check (by decide) ..
  have units : (d.check code obj ok).held = d.held := held_check ..
  rw [Dev.seen, Dev.seen, view, tick_of_held units, hk_of_held units]

theorem seen_hkRange (d : Dev) (p x : Nat) : (d.hkRange p x).seen = d.seen := by
  unfold Dev.hkRange
  extract_lets t bad was d1 d2
  have shown : d2.seen = d.seen := seen_of_quiet ((quiet_hkEpisode ..).trans (quiet_hkp ..))
  split
  · exact (seen_check ..).trans shown
  · exact shown

theorem seen_each {α : Type} {g : Dev → α → Dev} (h : ∀ d x, (g d x).seen = d.seen) (l : List α) (d : Dev) : (d.each l g).seen = d.seen :=
  each_keeps Dev.seen h l d

theorem seen_hkRaise (d : Dev) : d.hkRaise.seen = d.seen :=
  (seen_each (fun _ _ => seen_of_calm (calm_raise ..)) _ _).trans (seen_of_quiet (quiet_withHk rfl))

/-- The block when a round is counted and VIN and VKEEP are shown. -/
def Dev.hkCounted (d : Dev) (r : HkRound) : Dev := ((d.inc F.HK_ROUNDS.COUNT 1).set F.HK_VIN.V r.vin).set F.HK_VKEEP.V r.vkeep

/-- After its first three registers a round keeps what is seen through its mask, the tick and the round. -/
theorem seen_hkEvaluate (d : Dev) (r : HkRound) : (d.hkEvaluate r).seen = (d.hkCounted r).seen := by
  unfold Dev.hkEvaluate
  extract_lets d1 ps d2 vals d3 d4 groups voted d5 d6 d7 d8 d9
  have cleared : d2.seen = d1.seen := seen_of_quiet (quiet_each (fun d p => quiet_hkClear d p) _ d1)
  have nodes : d3.seen = d2.seen := seen_of_quiet (quiet_each (fun d k => quiet_hkNode d k) _ d2)
  have ranges : d4.seen = d3.seen := seen_each (fun d x => seen_hkRange ..) vals d3
  have alone : d5.seen = d4.seen := seen_of_quiet (quiet_each (fun d p => (quiet_condOff ..).trans (quiet_hkp ..)) _ d4)
  have votes : d6.seen = d5.seen := seen_of_quiet (quiet_each (fun d g => quiet_hkVote d vals g) groups d5)
  have histories : d7.seen = d6.seen := seen_of_quiet (quiet_each (fun d p => quiet_hkHist ..) ps d6)
  have thresholds : d8.seen = d7.seen := seen_of_quiet (quiet_hkThresholds d7 vals)
  have shown : d9.seen = d8.seen := seen_of_quiet (quiet_each (fun d t => quiet_hkShow d vals t) _ d8)
  have cells := seen_of_quiet (quiet_each (fun d k => quiet_hkCell d k) d9.cellsDecl d9)
  rw [seen_hkRaise, cells, shown, thresholds, histories, votes, alone, ranges, nodes, cleared]
  rfl

section
variable {l : List Slot} {d : Dev} (h : Away l d.core)
include h

theorem away_quiet {e : Dev} (he : e.quiet = d.quiet) : Away l e.core := by rwa [core_of_quiet he]

theorem away_hkRange (p x : Nat) : Away l (d.hkRange p x).core := by
  unfold Dev.hkRange
  extract_lets t bad was d1 d2
  have shown : Away l d2.core := away_quiet h ((quiet_hkEpisode ..).trans (quiet_hkp ..))
  exact away_if (away_check shown ..) shown

theorem away_hkRaise : Away l d.hkRaise.core := by
  unfold Dev.hkRaise
  extract_lets events hk d1
  have taken : d1.quiet = d.quiet := quiet_withHk rfl
  exact away_each (fun _ _ he => away_raise he ..) (away_quiet h taken) _

theorem away_hkEvaluate (r : HkRound) : Away l (d.hkEvaluate r).core := by
  unfold Dev.hkEvaluate
  extract_lets d1 ps d2 vals d3 d4 groups voted d5 d6 d7 d8 d9
  have counted : d1.core = d.core := (core_set (by decide) ..).trans ((core_set (by decide) ..).trans (core_inc (by decide) ..))
  rw [← counted] at h
  have nodes : Away l d3.core :=
    away_quiet h ((quiet_each (fun d k => quiet_hkNode d k) _ d2).trans (quiet_each (fun d p => quiet_hkClear d p) _ d1))
  have ranges : Away l d4.core := away_each (fun _ _ he => away_hkRange he ..) nodes vals
  have alone : d5.quiet = d4.quiet := quiet_each (fun d p => (quiet_condOff ..).trans (quiet_hkp ..)) _ d4
  have votes : d6.quiet = d5.quiet := quiet_each (fun d g => quiet_hkVote d vals g) groups d5
  have histories : d7.quiet = d6.quiet := quiet_each (fun d p => quiet_hkHist ..) ps d6
  have thresholds : d8.quiet = d7.quiet := quiet_hkThresholds d7 vals
  have shown : d9.quiet = d8.quiet := quiet_each (fun d t => quiet_hkShow d vals t) _ d8
  have cells := quiet_each (fun d k => quiet_hkCell d k) d9.cellsDecl d9
  exact away_hkRaise (away_quiet ranges (by rw [cells, shown, thresholds, histories, votes, alone]))

theorem away_hkRound (n : Nat) (r : HkRound) : Away l (({ d with hk := { d.hk with round := n } } : Dev).hkEvaluate r).hkNextRound.core := by
  have placed : Away l ({ d with hk := { d.hk with round := n } } : Dev).core := h
  exact away_hkEvaluate placed r

end

theorem view_of_seen {d e : Dev} (h : e.seen = d.seen) : e.calm.view roundMask = d.calm.view roundMask := congrArg Prod.fst h

theorem tick_of_seen {d e : Dev} (h : e.seen = d.seen) : e.tick = d.tick := congrArg (fun x => x.2.1) h
theorem round_of_seen {d e : Dev} (h : e.seen = d.seen) : e.hk.round = d.hk.round := congrArg (fun x => x.2.2) h

/-! The command -/

theorem view_hkEvaluate (d : Dev) (r : HkRound) : (d.hkEvaluate r).calm.view housekeepingMask = d.calm.view housekeepingMask := by
  have counted : (d.hkCounted r).calm.view housekeepingMask = d.calm.view housekeepingMask := by simp (disch := decide) [Dev.hkCounted]
  exact (view_le (m := roundMask) (by decide) (view_of_seen (seen_hkEvaluate d r))).trans counted

theorem view_housekeeping {r : HkRound} {s t : State} (h : execHkRoundEnd r s = .next t) :
    t.dev.calm.view housekeepingMask = s.dev.calm.view housekeepingMask := by
  unfold execHkRoundEnd at h
  refine view_onMain h fun d => view_wait _ fun e => ?_
  exact (view_withHk _ (by decide) _).trans ((view_hkEvaluate ..).trans ((view_withHk _ (by decide) _).trans (view_free _)))

theorem slots_housekeeping {r : HkRound} {s t : State} (h : execHkRoundEnd r s = .next t) : SlotsKept s.dev t.dev := by
  unfold execHkRoundEnd at h
  refine slotsKept_of_away h fun l d hd => away_wait (fun e he => ?_) hd _
  exact away_hkRound (d := e.free) he _ r

/-- Settles O59: a round writes its own registers, and what a check that fails shows. -/
theorem housekeepingFrame : Obligations.HousekeepingFrame := by
  intro c s t hc h
  cases c
  case hkRoundEnd r =>
    have v : t.dev.calm.view housekeepingMask = s.dev.calm.view housekeepingMask := view_housekeeping h
    exact ⟨kept_of_view v, slots_housekeeping h, bank2_of_view v (by decide), phases_of_view v (by decide), gates_of_view v (by decide),
      enc_of_view v (by decide), metCh_of_view v (by decide), metEl_of_view v (by decide), met_of_view v (by decide), ports_of_view v (by decide),
      keys_of_view v (by decide), fw_of_view v (by decide)⟩
  all_goals exact absurd hc Bool.false_ne_true

end Sys2Proof.Machine
end

section
/-! SUPPORT. What a housekeeping round shows (R524, R533). -/

namespace Sys2Proof.Machine

set_option Elab.async false

/-- The block when the evaluation of round `n` begins, at tick `t`. -/
def Dev.hkAt (d : Dev) (t n : Nat) : Dev := { (d.until t).free with hk := { (d.until t).hk with round := n } }

theorem hkAt_get (d : Dev) (t n : Nat) {g : Fld} (h : g.apart F.RSV_TIME.COUNT = true) {a b c : Nat} (ha : a < g.n1) (hb : b < g.n2) (hc : c < g.n3) :
    (d.hkAt t n).get g a b c = d.get g a b c := elapse_get d _ h ha hb hc

theorem execHkRoundEnd_next (r : HkRound) (s : State) (hl : s.dev.live = true) {n t : Nat}
    (hn : n = if s.dev.hk.round * 1000000 + 1020000 < s.dev.tick then s.dev.tick / 1000000 else s.dev.hk.round)
    (ht : t = (n + 1) * 1000000 + Config.freeNat s.dev.freeCtr % 20001) (ha : s.dev.ahead t = true) :
    exec (.hkRoundEnd r) s = .next { s with dev := (((s.dev.hkAt t n).hkEvaluate r).hkNextRound).settle } := by
  have effect : exec (.hkRoundEnd r) s = execHkRoundEnd r s := rfl
  subst ht hn
  rw [effect, execHkRoundEnd, onMain_live hl, wait_ahead ha]
  rfl

/-- The round's figures are written first, and nothing after them moves them, the tick or the round. -/
theorem hkEvaluate_shows (s : Dev) (hl : s.live = true) (r : HkRound) (n t : Nat) :
    (((s.hkAt t n).hkEvaluate r).hkNextRound).settle.get F.HK_ROUNDS.COUNT = (s.get F.HK_ROUNDS.COUNT + 1) % 2 ^ 64
      ∧ (((s.hkAt t n).hkEvaluate r).hkNextRound).settle.get F.HK_VIN.V = r.vin % 2 ^ 32
      ∧ (((s.hkAt t n).hkEvaluate r).hkNextRound).settle.get F.HK_VKEEP.V = r.vkeep % 2 ^ 32
      ∧ (((s.hkAt t n).hkEvaluate r).hkNextRound).settle.tick = max s.tick t
      ∧ (((s.hkAt t n).hkEvaluate r).hkNextRound).settle.hk.round = n + 1 := by
  have seen := seen_hkEvaluate (s.hkAt t n) r
  have shown := view_of_seen seen
  have counted : ((s.hkAt t n).hkCounted r).tick = max s.tick t ∧ ((s.hkAt t n).hkCounted r).hk.round = n := by
    constructor
    · simpa [Dev.hkCounted, Dev.inc, Dev.hkAt, Dev.free] using until_tick s t hl
    · simp [Dev.hkCounted, Dev.inc, Dev.hkAt]
  refine ⟨?_, ?_, ?_, ?_, ?_⟩
  · rw [settle_get _ (by decide)]
    refine (get_of_view shown (by decide)).trans ?_
    rw [Dev.hkCounted, Dev.get_set_apart _ (by decide) _ (by decide) (by decide) (by decide),
      Dev.get_set_apart _ (by decide) _ (by decide) (by decide) (by decide), Dev.inc, Dev.get_set_same _ _ _ (by decide),
      hkAt_get _ _ _ (by decide) (by decide) (by decide) (by decide)]
    rfl
  · rw [settle_get _ (by decide)]
    refine (get_of_view shown (by decide)).trans ?_
    rw [Dev.hkCounted, Dev.get_set_apart _ (by decide) _ (by decide) (by decide) (by decide), Dev.get_set_same _ _ _ (by decide)]
    rfl
  · rw [settle_get _ (by decide)]
    refine (get_of_view shown (by decide)).trans ?_
    rw [Dev.hkCounted, Dev.get_set_same _ _ _ (by decide)]
    rfl
  · rw [tick_of_calm (calm_settle _)]
    exact (tick_of_seen seen).trans counted.1
  · rw [hk_of_calm (calm_settle _)]
    exact congrArg (· + 1) ((round_of_seen seen).trans counted.2)

/-- Settles O27: the command evaluates the round at the instant its free choice names. -/
theorem housekeepingRound : Obligations.HousekeepingRound := by
  intro s r hl n ha
  exact ⟨_, execHkRoundEnd_next r s hl rfl rfl ha, rfl, hkEvaluate_shows s.dev hl r _ _⟩

end Sys2Proof.Machine
end

section
/-! SUPPORT. A change within a mask: the view through the mask stays, and a device in neither LINKED nor PRECHARGE is led to neither, with its slots' units as
they were. Changes within a mask compose. -/

namespace Sys2Proof.Machine

set_option Elab.async false

/-- The view through a mask, with the device state and the slots' units. -/
def Dev.pic (d : Dev) (m : Mask) : View × (Nat × List Slot) := (d.calm.view m, d.core)

/-- The change from `d` to `e` stays within the mask and leaves a device away that was. -/
def Mask.Within (m : Mask) (d e : Dev) : Prop := e.calm.view m = d.calm.view m ∧ ∀ l, Away l d.core → Away l e.core

theorem pic_of_calm {d e : Dev} (h : e.calm = d.calm) (hc : e.core = d.core) (m : Mask) : e.pic m = d.pic m := by
  rw [Dev.pic, Dev.pic, view_of_calm h, hc]

theorem pic_of_view {d e : Dev} {m n : Mask} (hm : n.le m = true) (h : e.calm.view n = d.calm.view n) (hc : e.core = d.core) : e.pic m = d.pic m := by
  rw [Dev.pic, Dev.pic, view_le hm h, hc]

/-! What a picture shows unchanged -/

section
variable {m : Mask} (d : Dev) (k : Nat)

@[simp] theorem pic_set {f : Fld} (h : (m.frees f && F.GLB_STATE.DEVICE.apart f) = true) (v a b c : Nat) : (d.set f v a b c).pic m = d.pic m := by
  simp only [Bool.and_eq_true] at h
  rw [Dev.pic, Dev.pic, view_set h.1, core_set h.2]

@[simp] theorem pic_setB {f : Fld} (h : (m.frees f && F.GLB_STATE.DEVICE.apart f) = true) (v : Bool) (a b c : Nat) : (d.setB f v a b c).pic m = d.pic m :=
  pic_set d h ..
@[simp] theorem pic_setS {f : Fld} (h : (m.frees f && F.GLB_STATE.DEVICE.apart f) = true) (v : Int) (a b c : Nat) : (d.setS f v a b c).pic m = d.pic m :=
  pic_set d h ..
@[simp] theorem pic_inc {f : Fld} (h : (m.frees f && F.GLB_STATE.DEVICE.apart f) = true) (n a b c : Nat) : (d.inc f n a b c).pic m = d.pic m := pic_set d h ..
@[simp] theorem pic_incSat {f : Fld} (h : (m.frees f && F.GLB_STATE.DEVICE.apart f) = true) (n a b c : Nat) : (d.incSat f n a b c).pic m = d.pic m :=
  pic_set d h ..

@[simp] theorem pic_lane (h : m.parts.contains .lanes = true) (g : Lane → Lane) : (d.lane k g).pic m = d.pic m := by rw [Dev.pic, view_lane _ _ h, core_lane, Dev.pic]
@[simp] theorem pic_cell (h : m.parts.contains .cells = true) (g : Cell → Cell) : (d.cell k g).pic m = d.pic m := by rw [Dev.pic, view_cell _ _ h, core_cell, Dev.pic]
@[simp] theorem pic_phs (h : m.parts.contains .phases = true) (g : Phase → Phase) : (d.phs k g).pic m = d.pic m := by rw [Dev.pic, view_phs _ _ h, core_phs, Dev.pic]
@[simp] theorem pic_gd (h : m.parts.contains .gates = true) (g : Gate → Gate) : (d.gd k g).pic m = d.pic m := by rw [Dev.pic, view_gd _ _ h, core_gd, Dev.pic]
@[simp] theorem pic_en (h : m.parts.contains .enc = true) (g : Enc → Enc) : (d.en k g).pic m = d.pic m := by rw [Dev.pic, view_en _ _ h, core_en, Dev.pic]

@[simp] theorem pic_grp (g : Group → Group) : (d.grp k g).pic m = d.pic m := rfl
@[simp] theorem pic_pw (g : Pwm → Pwm) : (d.pw k g).pic m = d.pic m := rfl
@[simp] theorem pic_arm (t : Timer) : (d.arm t k).pic m = d.pic m := rfl
@[simp] theorem pic_disarm (t : Timer) : (d.disarm t).pic m = d.pic m := rfl
@[simp] theorem pic_emit (o : Out) : (d.emit o).pic m = d.pic m := rfl
@[simp] theorem pic_free : d.free.pic m = d.pic m := rfl

@[simp] theorem pic_ite {p : Prop} [Decidable p] (x y : Dev) : (if p then x else y).pic m = if p then x.pic m else y.pic m :=
  apply_ite (fun d : Dev => d.pic m) p x y

@[simp] theorem pic_elapse (n : Nat) : (d.elapse n).pic m = d.pic m := by rw [Dev.pic, view_elapse, core_elapse, Dev.pic]
@[simp] theorem pic_until (t : Nat) : (d.until t).pic m = d.pic m := pic_elapse ..
@[simp] theorem pic_condOn (src obj : Nat) : (d.condOn src obj).pic m = d.pic m := pic_of_calm (calm_condOn ..) (core_condOn ..) m
@[simp] theorem pic_condOff (src obj : Nat) : (d.condOff src obj).pic m = d.pic m := pic_of_calm (calm_condOff ..) (core_condOff ..) m
@[simp] theorem pic_log (kind : Nat) (o : Orig) (object aux old new r x : Nat) : (d.log kind o object aux old new r x).pic m = d.pic m :=
  pic_of_calm (calm_log ..) (core_log ..) m
@[simp] theorem pic_checkPass (h : failMask.le m = true) (code obj : Nat) : (d.checkPass code obj).pic m = d.pic m := by
  rw [Dev.pic, view_checkPass h, core_checkPass, Dev.pic]
@[simp] theorem pic_arcMark (type flags object aux : Nat) (body : List Int) (len : Nat) : (d.arcMark type flags object aux body len).pic m = d.pic m :=
  pic_of_calm (calm_arcMark ..) (core_arcMark ..) m

theorem pic_cond (b : Bool) {g : Dev → Dev} (h : (g d).pic m = d.pic m) : (d.cond b g).pic m = d.pic m := by
  unfold Dev.cond
  split
  · exact h
  · rfl

theorem pic_each {α : Type} {g : Dev → α → Dev} (h : ∀ d x, (g d x).pic m = d.pic m) (l : List α) : (d.each l g).pic m = d.pic m :=
  each_keeps (fun d => d.pic m) h l d

end

/-! Changes within a mask compose -/

namespace Mask

variable {m : Mask} {d e : Dev}

theorem Within.refl (d : Dev) : m.Within d d := ⟨rfl, fun _ h => h⟩
theorem Within.trans {f : Dev} (h : m.Within d e) (k : m.Within e f) : m.Within d f := ⟨k.1.trans h.1, fun l a => k.2 l (h.2 l a)⟩
theorem Within.le {n : Mask} (hn : m.le n = true) (h : m.Within d e) : n.Within d e := ⟨view_le hn h.1, h.2⟩

theorem within_pic (h : e.pic m = d.pic m) : m.Within d e := by
  have core : e.core = d.core := congrArg Prod.snd h
  exact ⟨congrArg Prod.fst h, fun l a => by rwa [core]⟩

theorem within_raise (d : Dev) (src cls obj : Nat) (data : List Nat) (i factor : Option Nat) : m.Within d (d.raise src cls obj data i factor) :=
  ⟨view_of_calm (calm_raise ..) m, fun _ a => away_raise a ..⟩

theorem within_checkFail (h : checkMask.le m = true) (d : Dev) (code obj : Nat) : m.Within d (d.checkFail code obj) :=
  ⟨view_checkFail h .., fun _ a => away_checkFail a ..⟩

theorem within_check (h : checkMask.le m = true) (d : Dev) (code obj : Nat) (ok : Bool) : m.Within d (d.check code obj ok) :=
  ⟨view_check h .., fun _ a => away_check a ..⟩

theorem within_ite {p : Prop} [Decidable p] {x y : Dev} (hx : m.Within d x) (hy : m.Within d y) : m.Within d (if p then x else y) := by
  split
  · exact hx
  · exact hy

theorem within_each {α : Type} {g : Dev → α → Dev} (h : ∀ e x, m.Within e (g e x)) (l : List α) (d : Dev) : m.Within d (d.each l g) := by
  induction l generalizing d with
  | nil => exact .refl d
  | cons x l ih => exact (h d x).trans (ih _)

theorem within_wait {g : Dev → Dev} (h : ∀ e, m.Within e (g e)) (d : Dev) (n : Nat) : m.Within d (d.wait n g) := by
  unfold Dev.wait
  split
  · exact (within_pic (pic_until ..)).trans (h _)
  · exact .refl d

theorem within_fire {g : Dev → Dev} (h : ∀ e, m.Within e (g e)) (d : Dev) (t : Timer) : m.Within d (d.fire t g) := by
  unfold Dev.fire
  split
  · exact within_wait (fun e => (within_pic (pic_disarm ..)).trans (h _)) d _
  · exact .refl d

/-- A command whose effect stays within a mask keeps the view and the slots' units to the end of its step. -/
theorem Within.next {s t : State} {f : Dev → Dev} (h : onMain s f = .next t) (hf : ∀ d, m.Within d (f d)) :
    t.dev.calm.view m = s.dev.calm.view m ∧ SlotsKept s.dev t.dev :=
  ⟨view_onMain h fun d => (hf d).1, slotsKept_of_away h fun l d a => (hf d).2 l a⟩

end Mask

end Sys2Proof.Machine
end

section
/-! SUPPORT. A lane's training, its loss and its cell's, as changes within the lanes' mask (R191 to R205, R266). -/

namespace Sys2Proof.Machine

set_option Elab.async false

/-! What moves neither the device state nor a slot's unit -/

@[simp] theorem pic_stringSync (d : Dev) (s : Nat) : (d.stringSync s).pic laneMask = d.pic laneMask := by
  simp (disch := decide) [Dev.stringSync]

@[simp] theorem pic_carMove (d : Dev) (k phi : Nat) : (d.carMove k phi).pic laneMask = d.pic laneMask := by
  simp only [Dev.carMove]
  split
  · simp (disch := decide)
  · exact pic_set _ (by decide) ..

@[simp] theorem pic_respreadString (d : Dev) (s : Nat) : (d.respreadString s).pic laneMask = d.pic laneMask :=
  (pic_setB _ (by decide) ..).trans (pic_each d (fun d j => pic_carMove ..) _)

@[simp] theorem pic_setRole (d : Dev) (k r : Nat) : (d.setRole k r).pic laneMask = d.pic laneMask := by
  simp (disch := decide) [Dev.setRole]

@[simp] theorem pic_laneSend (d : Dev) (t : Nat) (o : Out) : (d.laneSend t o).pic laneMask = d.pic laneMask := by
  unfold Dev.laneSend
  split
  · exact (pic_lane _ _ (by decide) _).trans (pic_emit ..)
  · exact pic_emit ..

@[simp] theorem pic_capDnSend (d : Dev) (k t per n : Nat) : (d.capDnSend k t per n).pic laneMask = d.pic laneMask :=
  pic_each d (fun _ _ => pic_laneSend ..) _

@[simp] theorem pic_capDnDue (d : Dev) (k : Nat) : (d.capDnDue k).pic laneMask = d.pic laneMask := by
  unfold Dev.capDnDue
  split
  · simp (disch := decide)
  · rfl

@[simp] theorem pic_locksOff (d : Dev) (k : Nat) : (d.each laneLocks fun d f => d.setB f false k).pic laneMask = d.pic laneMask := by
  simp (disch := decide) [laneLocks, Dev.each]

@[simp] theorem pic_laneStill (d : Dev) (k : Nat) : (d.laneStill k).pic laneMask = d.pic laneMask := by
  unfold Dev.laneStill
  extract_lets d1 d2
  have quiet : d1.pic laneMask = d.pic laneMask := (pic_each _ (fun d t => pic_disarm d t) _).trans (pic_capDnDue ..)
  have locks : d2.pic laneMask = d.pic laneMask := (pic_locksOff d1 k).trans quiet
  simp (disch := decide) [locks]

@[simp] theorem core_groupSync (d : Dev) (g : Nat) : (d.groupSync g).core = d.core := by
  simp [Dev.groupSync]

@[simp] theorem pic_groupSync {m : Mask} (d : Dev) (g : Nat) : (d.groupSync g).pic m = d.pic m := by
  rw [Dev.pic, view_groupSync, core_groupSync, Dev.pic]

@[simp] theorem pic_laneCnt (d : Dev) (k c n : Nat) : (d.laneCnt k c n).pic laneMask = d.pic laneMask := pic_inc _ (by decide) ..

@[simp] theorem pic_xcvrWatch {m : Mask} (d : Dev) (k : Nat) : (d.xcvrWatch k).pic m = d.pic m := by
  simp [Dev.xcvrWatch]

@[simp] theorem pic_attemptStart (d : Dev) (k n : Nat) : (d.attemptStart k n).pic laneMask = d.pic laneMask := by
  simp (disch := decide) [Dev.attemptStart]

@[simp] theorem pic_laneTry (d : Dev) (k : Nat) : (d.laneTry k).pic laneMask = d.pic laneMask := by
  simp [Dev.laneTry]

/-! What an event or a check may follow -/

open Mask

theorem within_redundancy {m : Mask} (d : Dev) (s : Nat) (always : Bool) : m.Within d (d.redundancy s always) := by
  unfold Dev.redundancy
  exact within_ite (within_raise ..) (.refl d)

theorem within_cellLost (d : Dev) (k : Nat) : laneMask.Within d (d.cellLost k) := by
  unfold Dev.cellLost
  extract_lets d1 d2 was d3 d4
  have freed : laneMask.Within d d1 := within_pic (by simp (disch := decide) [d1])
  have left : laneMask.Within d1 d3 := within_pic (by simp (disch := decide) [d3, d2])
  have counted : laneMask.Within d3 d4 := within_ite (within_redundancy ..) (.refl d3)
  exact within_ite freed (freed.trans (left.trans (within_ite (.refl d3)
    (within_ite (counted.trans (within_pic (pic_arm ..))) (within_redundancy ..)))))

theorem within_esapSync (d : Dev) : laneMask.Within d d.esapSync := by
  unfold Dev.esapSync
  extract_lets ks d1 ds
  have shown : laneMask.Within d d1 := within_pic (pic_set _ (by decide) ..)
  exact within_ite (shown.trans (within_each (fun e k => within_check (by decide) ..) ds d1)) shown

theorem within_laneOff (d : Dev) (k : Nat) : laneMask.Within d (d.laneOff k) := by
  unfold Dev.laneOff
  extract_lets d1 d2
  have still : laneMask.Within d d2 := within_pic (by simp (disch := decide) [d2, d1])
  exact still.trans ((within_esapSync d2).trans (within_pic (pic_groupSync ..)))

theorem within_laneLoss (d : Dev) (k : Nat) : laneMask.Within d (d.laneLoss k) := by
  unfold Dev.laneLoss
  extract_lets d1 d2
  have lost : laneMask.Within d (d2.condOff 39 k) := within_pic (by simp (disch := decide) [d2, d1])
  exact within_ite (lost.trans ((within_raise ..).trans (within_cellLost ..))) (.refl d)

theorem within_laneRetrain (d : Dev) (k code : Nat) : laneMask.Within d (d.laneRetrain k code) := by
  unfold Dev.laneRetrain
  extract_lets two d1 recent d2
  have lost : laneMask.Within d d1 := (within_laneLoss d k).trans ((within_checkFail (by decide) ..).trans (within_pic (pic_laneCnt ..)))
  have noted : laneMask.Within d1 d2 := within_pic (pic_lane _ _ (by decide) _)
  refine lost.trans (noted.trans (within_ite ((within_laneOff d2 k).trans (within_pic ?_)) (within_pic (pic_attemptStart ..))))
  simp (disch := decide)

theorem within_laneHold (d : Dev) (k code : Nat) : laneMask.Within d (d.laneHold k code) := by
  unfold Dev.laneHold
  refine (within_laneOff d k).trans (.trans (within_pic ?_) (within_checkFail (by decide) ..))
  simp (disch := decide)

theorem within_laneFail (d : Dev) (k : Nat) : laneMask.Within d (d.laneFail k) := by
  unfold Dev.laneFail
  extract_lets last
  exact within_ite (within_laneHold ..) (within_pic (by simp (disch := decide)))

theorem within_exchangeFail (d : Dev) (k : Nat) : laneMask.Within d (d.exchangeFail k) := within_laneHold ..

theorem within_forward {m : Mask} {bad good : Dev → Dev} (hb : ∀ e, m.Within e (bad e)) (hg : ∀ e, m.Within e (good e)) (d : Dev) (t : Timer) :
    m.Within d (d.forward t bad good) := by
  unfold Dev.forward
  split
  · exact within_ite ((within_pic (pic_disarm ..)).trans (hb _)) (hg d)
  · exact hg d

theorem within_lineLoss (d : Dev) (k code : Nat) : laneMask.Within d (d.lineLoss k code) := by
  unfold Dev.lineLoss
  split
  · exact within_ite (.refl d) (within_laneFail ..)
  · exact within_ite (.refl d) (within_laneFail ..)
  · exact within_forward (fun e => within_exchangeFail ..) (fun e => within_laneFail ..) d _
  · exact within_laneRetrain ..
  · exact .refl d

end Sys2Proof.Machine
end

section
/-! SUPPORT. The frame of the lanes and their messages (R166 to R243). -/

namespace Sys2Proof.Machine

set_option Elab.async false

open Mask

/-- What these commands are free to change. -/
def linkMask : Mask := ⟨linkFields, [.lanes, .cells, .slots]⟩

/-! What the lanes' own operations leave unchanged -/

section
variable (d : Dev) (k : Nat)

theorem pic_link {d e : Dev} (h : e.pic laneMask = d.pic laneMask) : e.pic linkMask = d.pic linkMask :=
  pic_of_view (n := laneMask) (by decide) (congrArg Prod.fst h) (congrArg Prod.snd h)

@[simp] theorem linkPic_laneCnt (c n : Nat) : (d.laneCnt k c n).pic linkMask = d.pic linkMask := pic_inc _ (by decide) ..
@[simp] theorem linkPic_laneSend (o : Out) : (d.laneSend k o).pic linkMask = d.pic linkMask := pic_link (pic_laneSend ..)
@[simp] theorem linkPic_capDnDue : (d.capDnDue k).pic linkMask = d.pic linkMask := pic_link (pic_capDnDue ..)
@[simp] theorem linkPic_capDnSend (t per n : Nat) : (d.capDnSend k t per n).pic linkMask = d.pic linkMask := pic_link (pic_capDnSend ..)
@[simp] theorem linkPic_setRole (r : Nat) : (d.setRole k r).pic linkMask = d.pic linkMask := pic_link (pic_setRole ..)
@[simp] theorem linkPic_attemptStart (n : Nat) : (d.attemptStart k n).pic linkMask = d.pic linkMask := pic_link (pic_attemptStart ..)
@[simp] theorem linkPic_laneTry : (d.laneTry k).pic linkMask = d.pic linkMask := pic_link (pic_laneTry ..)

@[simp] theorem linkPic_laneDetect : (d.laneDetect k).pic linkMask = d.pic linkMask := by
  unfold Dev.laneDetect
  extract_lets d1 d2
  have detected : d2.pic linkMask = d.pic linkMask := by simp (disch := decide) [d2, d1]
  simp [detected]

@[simp] theorem linkPic_idleSync : (d.idleSync k).pic linkMask = d.pic linkMask := pic_lane _ _ (by decide) _

@[simp] theorem linkPic_tp3Start : (d.tp3Start k).pic linkMask = d.pic linkMask := by
  simp (disch := decide) [Dev.tp3Start]

@[simp] theorem linkPic_budgetSync : (d.budgetSync k).pic linkMask = d.pic linkMask := by
  simp (disch := decide) [Dev.budgetSync]

@[simp] theorem linkPic_slip : (d.slip k).pic linkMask = d.pic linkMask := by
  simp (disch := decide) [Dev.slip]

@[simp] theorem linkPic_qwinSync : (d.qwinSync k).pic linkMask = d.pic linkMask := by
  simp (disch := decide) [Dev.qwinSync]

@[simp] theorem linkPic_qwinAdd (corr uncorr : Nat) : (d.qwinAdd k corr uncorr).pic linkMask = d.pic linkMask := by
  simp (disch := decide) [Dev.qwinAdd]

@[simp] theorem linkPic_qwinStart : (d.qwinStart k).pic linkMask = d.pic linkMask := by
  simp (disch := decide) [Dev.qwinStart]

@[simp] theorem linkPic_markSend (id n : Nat) : (d.markSend k id n).pic linkMask = d.pic linkMask := by
  simp [Dev.markSend]

@[simp] theorem linkPic_runStart : (d.runStart k).pic linkMask = d.pic linkMask := by
  unfold Dev.runStart
  extract_lets d1
  have counted : d1.pic linkMask = d.pic linkMask := by simp (disch := decide) [d1]
  exact (pic_each _ (fun d i => linkPic_markSend ..) _).trans counted

@[simp] theorem linkPic_tsyncSend (init : Bool) : (d.tsyncSend k init).pic linkMask = d.pic linkMask := by
  simp (disch := decide) [Dev.tsyncSend]

@[simp] theorem linkPic_creditSync : (d.creditSync k).pic linkMask = d.pic linkMask := by
  simp (disch := decide) [Dev.creditSync]

@[simp] theorem linkPic_cellBack : (d.cellBack k).pic linkMask = d.pic linkMask := by
  simp (disch := decide) [Dev.cellBack]

@[simp] theorem linkPic_laneActive : (d.laneActive k).pic linkMask = d.pic linkMask := by
  have passed : ∀ e : Dev, (e.each [16, 17, 18, 19] fun d c => d.checkPass c k).pic linkMask = e.pic linkMask :=
    fun e => pic_each e (fun d c => pic_checkPass d (by decide) ..) _
  simp (disch := decide) [Dev.laneActive, passed]

@[simp] theorem linkPic_slotFree (n : Nat) : (d.slotFree k n).pic linkMask = d.pic linkMask := by
  simp (disch := decide) [Dev.slotFree]

@[simp] theorem linkPic_seqTake (q : Nat) : (d.seqTake k q).pic linkMask = d.pic linkMask := by
  simp (disch := decide) [Dev.seqTake]

@[simp] theorem linkPic_bypassAsk (action send apply : Nat) : (d.bypassAsk k action send apply).pic linkMask = d.pic linkMask := by
  simp (disch := decide) [Dev.bypassAsk]

@[simp] theorem linkPic_credSend : (d.credSend k).1.pic linkMask = d.pic linkMask := by
  unfold Dev.credSend
  extract_lets l
  split
  · simp (disch := decide)
  · rfl

@[simp] theorem linkPic_captureRead (first last : Nat) : (d.captureRead k first last).pic linkMask = d.pic linkMask := by
  unfold Dev.captureRead
  split
  rename_i d1 q same
  have sent : d1.pic linkMask = d.pic linkMask := (congrArg (fun x => x.1.pic linkMask) same).symm.trans (linkPic_credSend d k)
  cases q <;> simp (disch := decide) [sent]

@[simp] theorem linkPic_captureAgain : (d.captureAgain k).pic linkMask = d.pic linkMask := by
  simp (disch := decide) [Dev.captureAgain]

/-! What an event or a check may follow -/

theorem link_of_lane {d e : Dev} (h : laneMask.Within d e) : linkMask.Within d e := h.le (by decide)

theorem within_shiftDone : linkMask.Within d (d.shiftDone k) := by
  unfold Dev.shiftDone
  extract_lets d1
  exact .trans (within_pic (by simp (disch := decide) [d1])) (link_of_lane (within_esapSync _))

theorem within_headerIn (h : HeaderTest) : linkMask.Within d (d.headerIn k h) := by
  unfold Dev.headerIn
  extract_lets held early d1 d2 lock d3 d4
  have counted : linkMask.Within d d3 := within_pic (by simp (disch := decide) [d3, d2, d1])
  have lost : linkMask.Within d3 d4 := within_pic (by simp (disch := decide) [d4])
  refine within_ite (.refl d) (counted.trans ?_)
  refine within_ite (.trans (within_ite (within_shiftDone ..) (.refl d3)) (within_pic (linkPic_idleSync ..))) ?_
  refine within_ite (lost.trans (within_ite (.refl d4) (link_of_lane (within_lineLoss ..)))) ?_
  exact within_ite (.refl d3) (within_pic (linkPic_slip ..))

theorem within_msgIn {m : Mask} (hm : m.frees F.LANE_MCNT.COUNT = true) (bad : Nat) {g : Dev → Dev} (h : ∀ e, m.Within e (g e)) :
    m.Within d (d.msgIn k bad g) := by
  have count : ∀ j, m.Within d (d.inc F.LANE_MCNT.COUNT 1 k j) := fun j => within_pic (pic_inc _ (by rw [hm]; decide) ..)
  unfold Dev.msgIn
  exact within_ite (h d) (within_ite (count 0) (within_ite (count 1) (.refl d)))

theorem within_runResult (r : Int) (spread : Nat) : linkMask.Within d (d.runResult k r spread) := by
  unfold Dev.runResult
  extract_lets d1 d2 d3
  have shown : linkMask.Within d d2 := within_pic (by simp (disch := decide) [d2, d1])
  have inside : linkMask.Within d2 d3 := .trans (within_pic (by simp (disch := decide))) (link_of_lane (within_esapSync _))
  exact shown.trans (within_ite (link_of_lane (within_laneHold ..))
    (inside.trans (within_ite (link_of_lane (within_laneHold ..)) (within_pic (linkPic_tsyncSend ..)))))

theorem within_rttAgain (r : Int) : linkMask.Within d (d.rttAgain k r) := by
  unfold Dev.rttAgain
  extract_lets diff d1
  have raised : linkMask.Within d d1 := within_raise ..
  exact within_ite (.refl d) (raised.trans (within_ite (.refl d1) (link_of_lane ((within_laneLoss ..).trans (within_laneHold ..)))))

theorem within_linkFault : linkMask.Within d (d.linkFault k) := by
  unfold Dev.linkFault
  exact within_ite (.trans (within_pic (pic_inc _ (by decide) ..)) (link_of_lane (within_laneRetrain ..))) (.refl d)

theorem within_degrade : linkMask.Within d (d.degrade k) := by
  unfold Dev.degrade
  extract_lets l f d1 d2 d3
  have begun : linkMask.Within d d3 := by
    refine within_pic ?_
    have echoes : d2.pic linkMask = d1.pic linkMask := (pic_disarm ..).trans (pic_each _ (fun d i => pic_disarm ..) _)
    simp (disch := decide) [d3, echoes, d1]
  have sent : linkMask.Within (d3.raise 34 1 k) ((d3.raise 34 1 k).each (List.range 8) fun d i => d.laneSend (f + 4092 * i) (.shift k (7 - i) (f + 4092 * i))) :=
    within_pic (pic_each _ (fun d i => linkPic_laneSend ..) _)
  exact within_ite (.refl d) (within_ite (begun.trans ((within_raise ..).trans sent))
    (within_ite (.refl d) ((within_raise ..).trans (within_pic (pic_lane _ _ (by decide) _)))))

theorem within_burstIn (bad seq b : Nat) (ok : Bool) {g : Dev → Nat → Dev} (h : ∀ e n, linkMask.Within e (g e n)) :
    linkMask.Within d (d.burstIn k bad seq b ok g) := by
  unfold Dev.burstIn
  extract_lets n
  refine within_ite (.refl d) (within_msgIn _ _ (by decide) _ fun e => ?_)
  extract_lets e1
  have taken : linkMask.Within e e1 := within_pic (linkPic_seqTake ..)
  exact taken.trans (within_ite (within_pic (by simp (disch := decide))) (h ..))

theorem within_bypassStart : linkMask.Within d (d.bypassStart k) := by
  unfold Dev.bypassStart
  extract_lets was n d1 d2 d3
  have asked : linkMask.Within d d2 := within_pic (by simp (disch := decide) [d2, d1])
  have counted : linkMask.Within d2 d3 := within_ite (within_redundancy ..) (.refl d2)
  exact within_ite (.refl d) (asked.trans (counted.trans
    (within_ite (.trans (within_pic (pic_lane _ _ (by decide) _)) (within_raise ..)) (within_pic (pic_arm ..)))))

theorem within_cellFault : linkMask.Within d (d.cellFault k) := by
  unfold Dev.cellFault
  exact within_ite (within_bypassStart ..) (.refl d)

theorem within_cellStatus (cause flags : Nat) : linkMask.Within d (d.cellStatus k cause flags) := by
  unfold Dev.cellStatus
  extract_lets closed x d1 blocked rest
  have done : linkMask.Within d d1 := within_pic (by simp (disch := decide) [d1])
  refine within_ite (done.trans (within_raise ..)) (within_pic ?_)
  simp (disch := decide)

theorem within_nodeCounts (late disc uns : Nat) : linkMask.Within d (d.nodeCounts k late disc uns) := by
  unfold Dev.nodeCounts
  extract_lets l d1 m
  have noted : linkMask.Within d d1 := within_pic (pic_lane _ _ (by decide) _)
  split
  · exact noted
  · extract_lets d2
    have counted : linkMask.Within d1 d2 := within_pic (by simp (disch := decide) [d2])
    exact noted.trans (counted.trans (within_ite (.refl d2) (within_raise ..)))

theorem within_statusTake (m : StatusMsg) : linkMask.Within d (d.statusTake k m) := by
  unfold Dev.statusTake
  extract_lets l cause tripNew d1 d2 d3 d4 d5 d6 d7 now d8 d9
  have shown : linkMask.Within d d2 := within_pic (by simp (disch := decide) [d2, d1])
  have counted : linkMask.Within d2 d3 := within_nodeCounts ..
  have acked : linkMask.Within d3 d4 := by
    simp only [d4]
    split
    · split
      · exact within_pic (by simp (disch := decide))
      · exact .refl d3
    · exact .refl d3
  have read : linkMask.Within d4 d5 := by
    simp only [d5]
    split
    · exact within_pic (by simp (disch := decide))
    · exact .refl d4
  have traced : linkMask.Within d5 d8 := within_pic (by simp (disch := decide) [d8, d7, d6])
  have faulted : linkMask.Within d8 d9 := by
    simp only [d9]
    split
    · exact within_ite (.trans (within_pic (pic_condOn ..)) ((within_raise ..).trans (within_cellFault ..))) (.refl d8)
    · exact .refl d8
  exact shown.trans (counted.trans (acked.trans (read.trans (traced.trans (faulted.trans (within_cellStatus ..))))))

end

end Sys2Proof.Machine
end

section
/-! SUPPORT. The frame of the lanes and their messages, command by command. -/

namespace Sys2Proof.Machine

set_option Elab.async false

open Mask

theorem within_capTake (d : Dev) (k : Nat) (c : CapUp) :
    linkMask.Within d (if d.laneSt k = 4 ∧ d.ownLocks k ∧ !(unit d.lanes k).capOk then
      let d := (d.capDnDue k).lane k (fun l => { l with capAt := none })
      let d := ((d.set F.LANE_SERIAL.SERIAL c.serial k).set F.LANE_CAP.PREP_TICKS c.prepTicks k).set F.LANE_CAP.CELL_CLASS c.cellClass k
      let d := ((d.set F.LANE_CAP.BYPASS_KIND c.bypassKind k).setB F.LANE_CAP.AUTO_BYPASS c.autoBypass k).set F.LANE_CAP.HOLD_BEATS c.holdBeats k
      let d := (d.set F.LANE_CAP.PROTO_MINOR c.protoMinor k).set F.LANE_CREDIT.DN_SLOTS c.dnSlots k
      let d := d.lane k (fun l => { l with deadtime := c.deadtime, minPulse := c.minPulse, dabDeadtime := c.dabDeadtime, sampleDelay := c.sampleDelay, fs := c.fs, prbsErr := c.prbsErr })
      if d.capMatches k c then (((d.checkPass 18 k).lane k (fun l => { l with capOk := true })).set F.LANE_RTT.RUNS 0 k).runStart k
      else d.laneHold k 18
    else d) := by
  extract_lets d1 d2 d3 d4 d5
  have shown : linkMask.Within d d5 := within_pic (by simp (disch := decide) [d5, d4, d3, d2, d1])
  exact within_ite (shown.trans (within_ite (within_pic (by simp (disch := decide))) (link_of_lane (within_laneHold ..)))) (.refl d)

theorem within_link {c : Instr} {s t : State} (hc : isLink c = true) (h : exec c s = .next t) :
    t.dev.calm.view linkMask = s.dev.calm.view linkMask ∧ SlotsKept s.dev t.dev := by
  unfold exec at h
  cases c
  all_goals dsimp only at h
  case xcvrCheckTimeout k =>
    exact Within.next h fun d => within_fire (fun e => within_ite (within_checkFail (by decide) ..) (.refl e)) d _
  case lanePrsLost k =>
    refine Within.next h fun d => ?_
    extract_lets d1 d2
    have gone : linkMask.Within d d2 := .trans (within_pic (by simp (disch := decide) [d1])) (link_of_lane (within_laneLoss ..))
    exact gone.trans (.trans (within_ite (.refl d2) (link_of_lane (within_laneOff ..))) (within_pic (pic_xcvrWatch ..)))
  case laneDetectEntry k =>
    refine Within.next h fun d => ?_
    extract_lets new d1
    have shown : linkMask.Within d d1 := within_pic (by simp (disch := decide) [d1])
    exact shown.trans (within_ite (within_pic (linkPic_laneDetect ..)) (within_ite (within_raise ..) (.refl d1)))
  case laneTrainStart k =>
    refine Within.next h fun d => within_ite ?_ (.refl d)
    extract_lets d1
    have clear : linkMask.Within d d1 := within_fire (fun e => within_pic (by simp (disch := decide))) d _
    exact clear.trans (within_pic (linkPic_laneTry ..))
  case laneLos k =>
    refine Within.next h fun d => within_wait (fun e => ?_) d _
    extract_lets e1
    have lost : linkMask.Within e e1 := within_pic (by simp (disch := decide) [e1])
    exact lost.trans (within_ite (within_pic (pic_arm ..)) (within_ite (.refl e1)
      (.trans (within_pic (linkPic_laneCnt ..)) (link_of_lane (within_lineLoss ..)))))
  case laneTp1Lock k mode1 mode2 =>
    refine Within.next h fun d => within_ite ?_ (.refl d)
    extract_lets own d1
    have light : linkMask.Within d d1 := within_pic (by simp (disch := decide) [d1])
    exact light.trans (within_ite (within_pic (pic_lane _ _ (by decide) _)) (link_of_lane (within_laneFail ..)))
  case laneTp1End k => exact Within.next h fun d => within_fire (fun e => within_pic (by simp (disch := decide))) d _
  case laneSymbolLock k x =>
    refine Within.next h fun d => within_pic ?_
    simp (disch := decide)
  case laneBlockLock k first rest => exact Within.next h fun d => within_each (fun e x => within_headerIn ..) _ d
  case laneFrameLock k frames =>
    refine Within.next h fun d => within_ite (.refl d) ?_
    extract_lets held
    split
    extract_lets fixed lost d1 d2 d3 d4
    have taken : linkMask.Within d d3 := within_pic (by simp (disch := decide) [d3, d2, d1])
    have counted : linkMask.Within d3 d4 := within_pic (linkPic_laneCnt ..)
    exact taken.trans (within_ite (counted.trans (within_ite (.refl d4) (link_of_lane (within_lineLoss ..)))) (.refl d3))
  case laneLockEntry k =>
    refine Within.next h fun d => within_ite (within_forward (fun e => link_of_lane (within_laneFail ..)) (fun e => within_pic ?_) d _) (.refl d)
    simp (disch := decide)
  case laneAttemptTimeout k => exact Within.next h fun d => within_fire (fun e => link_of_lane (within_laneFail ..)) d _
  case laneLockTimeout k => exact Within.next h fun d => within_fire (fun e => link_of_lane (within_laneFail ..)) d _
  case laneRetryGapEnd k => exact Within.next h fun d => within_fire (fun e => within_pic (linkPic_attemptStart ..)) d _
  case laneExchangeEntry k =>
    refine Within.next h fun d => within_ite (within_forward (fun e => link_of_lane (within_laneFail ..)) (fun e => within_pic ?_) d _) (.refl d)
    simp (disch := decide)
  case capUp k bad c => exact Within.next h fun d => within_msgIn _ _ (by decide) _ fun e => within_capTake e k c
  case echo k x =>
    refine Within.next h fun d => ?_
    extract_lets l d1 d2 r d3 run spread
    have shown : linkMask.Within d d1 := within_pic (by simp (disch := decide) [d1])
    have taken : linkMask.Within d1 d3 := within_pic (by simp (disch := decide) [d3, d2])
    refine shown.trans (within_ite (taken.trans (within_ite ?_ (within_ite (.refl d3) (within_ite ?_ (within_ite ?_ ?_))))) (.refl d1))
    · exact .trans (within_pic (pic_lane _ _ (by decide) _)) (within_rttAgain ..)
    · exact within_runResult ..
    · exact within_pic (linkPic_runStart ..)
    · exact link_of_lane (within_laneHold ..)
  case echoTimeout k id =>
    refine Within.next h fun d => within_fire (fun e => within_pic ?_) d _
    simp
  case tsyncReport k hd index err =>
    refine Within.next h fun d => within_msgIn _ _ (by decide) _ fun e => ?_
    extract_lets l e1 e2
    have active : linkMask.Within e (e.forward (.exchange k) (·.exchangeFail k) fun d => (d.setS F.LANE_TSYNC.ERR err k).laneActive k) :=
      within_forward (fun e => link_of_lane (within_exchangeFail ..)) (fun e => within_pic (by simp (disch := decide))) e _
    have shown : linkMask.Within e e1 := within_pic (pic_setS _ (by decide) ..)
    have raised : linkMask.Within e1 e2 := within_ite (within_raise ..) (.refl e1)
    exact within_ite (.refl e) (within_ite active (within_ite (shown.trans (within_ite (.refl e1)
      (raised.trans (within_ite (within_linkFault ..) (.refl e2))))) (.refl e)))
  case laneExchangeTimeout k => exact Within.next h fun d => within_fire (fun e => link_of_lane (within_exchangeFail ..)) d _
  case laneRttRepeat k => exact Within.next h fun d => within_fire (fun e => within_pic (by simp (disch := decide))) d _
  case laneQualityWindowEnd k x =>
    refine Within.next h fun d => ?_
    extract_lets d1
    have counted : linkMask.Within d d1 := within_pic (pic_each _ (fun d x => linkPic_laneCnt ..) _)
    refine counted.trans (.trans (within_pic (linkPic_qwinAdd ..)) (within_fire (fun e => ?_) _ _))
    extract_lets l e1 e2
    have armed : linkMask.Within e e1 := within_pic (pic_arm ..)
    have judged : linkMask.Within e1 e2 := within_ite (within_degrade ..) (.refl e1)
    exact armed.trans (judged.trans (within_ite (within_pic (linkPic_qwinStart ..)) (.refl e2)))
  case idle k rx x =>
    refine Within.next h fun d => ?_
    extract_lets d1
    have shown : linkMask.Within d d1 := within_pic (by simp (disch := decide) [d1])
    exact within_ite (shown.trans (within_ite (within_degrade ..) (.refl d1))) (.refl d)
  case shift k n =>
    refine Within.next h fun d => within_pic ?_
    simp (disch := decide)
  case shiftTimeout k => exact Within.next h fun d => within_fire (fun e => within_ite (link_of_lane (within_laneRetrain ..)) (.refl e)) d _
  case sample k bad m =>
    exact Within.next h fun d => within_burstIn _ _ _ _ _ _ fun e n => within_ite (within_pic (linkPic_slotFree ..)) (within_pic (pic_lane _ _ (by decide) _))
  case status k bad m =>
    refine Within.next h fun d => within_burstIn _ _ _ _ _ _ fun e n => ?_
    extract_lets e1
    have freed : linkMask.Within e e1 := within_ite (within_pic (linkPic_slotFree ..)) (.refl e)
    exact freed.trans (.trans (within_pic (pic_lane _ _ (by decide) _)) (within_statusTake ..))
  case capturePage k bad m =>
    refine Within.next h fun d => within_ite (.refl d) (within_msgIn _ _ (by decide) _ fun e => within_pic ?_)
    simp (disch := decide)
  case credit k hd rcvd freed =>
    refine Within.next h fun d => within_ite (.refl d) (within_msgIn _ _ (by decide) _ fun e => within_pic ?_)
    simp (disch := decide)
  case bypassRepeat k =>
    refine Within.next h fun d => within_fire (fun e => ?_) d _
    split
    · exact .refl e
    · exact within_ite (within_pic (by simp (disch := decide)))
        (.trans (within_pic (pic_lane _ _ (by decide) _)) ((within_raise ..).trans (within_cellFault ..)))
  case captureRepeat k => exact Within.next h fun d => within_fire (fun e => within_pic (linkPic_captureAgain ..)) d _
  all_goals exact absurd hc Bool.false_ne_true

/-- Settles O49: a lane's commands stay within the lanes' own registers and what a cell's loss and a check that fails reach. -/
theorem linkFrame : Obligations.LinkFrame := by
  intro c s t hc h
  obtain ⟨v, slots⟩ := within_link hc h
  exact ⟨kept_of_view (m := linkMask) v, slots, bank2_of_view v (by decide), phases_of_view v (by decide), gates_of_view v (by decide),
    enc_of_view v (by decide), metCh_of_view v (by decide), metEl_of_view v (by decide), ports_of_view v (by decide), hk_of_view v (by decide),
    keys_of_view v (by decide), fw_of_view v (by decide)⟩

end Sys2Proof.Machine
end

section
/-! SUPPORT. Gate channels and PWM channels, as changes within the gates' mask (R361 to R386). -/

namespace Sys2Proof.Machine

set_option Elab.async false

open Mask

section
variable {m : Mask} (d : Dev)

@[simp] theorem pic_withOs (x : Os) : ({ d with os := x } : Dev).pic m = d.pic m := rfl
@[simp] theorem pic_withCol (x : Col) : ({ d with col := x } : Dev).pic m = d.pic m := rfl
@[simp] theorem pic_withClk (x : Clk) : ({ d with clk := x } : Dev).pic m = d.pic m := rfl
@[simp] theorem pic_withPwr (x : Pwr) : ({ d with pwr := x } : Dev).pic m = d.pic m := rfl

@[simp] theorem core_stagesTrip (ss : List Nat) : (d.stagesTrip ss).core = d.core := by simp [Dev.stagesTrip]
@[simp] theorem pic_stagesTrip (ss : List Nat) : (d.stagesTrip ss).pic m = d.pic m := pic_of_calm (calm_stagesTrip ..) (core_stagesTrip ..) m
@[simp] theorem pic_stageTrip (s : Nat) : (d.stageTrip s).pic m = d.pic m := pic_stagesTrip ..
@[simp] theorem pic_level (c l : Nat) : (d.level c l).pic m = d.pic m := pic_of_calm (calm_level ..) (core_level ..) m
@[simp] theorem pic_softOffChan (s c : Nat) : (d.softOffChan s c).pic m = d.pic m := pic_of_calm (calm_softOffChan ..) (core_softOffChan ..) m

@[simp] theorem pic_pwOff (c : Nat) : (d.pwOff c).pic m = d.pic m := by
  simp [Dev.pwOff]

@[simp] theorem core_deadStart (c : Nat) (l : Option Nat) : (d.deadStart c l).core = d.core := by
  simp (disch := decide) [Dev.deadStart]

@[simp] theorem pic_deadStart (c : Nat) (l : Option Nat) : (d.deadStart c l).pic m = d.pic m := by
  rw [Dev.pic, view_deadStart, core_deadStart, Dev.pic]

@[simp] theorem core_stepSync : d.stepSync.core = d.core := by
  unfold Dev.stepSync
  extract_lets k n
  split <;> rfl

@[simp] theorem pic_stepSync : d.stepSync.pic m = d.pic m := by rw [Dev.pic, view_stepSync, core_stepSync, Dev.pic]

theorem within_atSub {d : Dev} {g : Dev → Dev} (h : ∀ e, m.Within e (g e)) (s : Nat) : m.Within d (d.atSub s g) := by
  unfold Dev.atSub
  extract_lets os e
  have inner : m.Within d e := .trans (within_pic (pic_withOs ..)) (h _)
  exact inner.trans (within_pic (pic_withOs ..))

theorem within_lockTry : m.Within d d.lockTry := ⟨view_of_calm (calm_lockTry _) m, fun _ a => away_lockTry a⟩

end

section
variable (d : Dev) (c : Nat)

theorem within_gdAct (instant : Nat) : gateMask.Within d (d.gdAct c instant) := by
  unfold Dev.gdAct
  extract_lets d1 i d2 d3 d4
  have latched : gateMask.Within d d3 := within_pic (by simp (disch := decide) [d3, d2, d1])
  have tripped : gateMask.Within d3 d4 := by
    simp only [d4]
    split
    · exact within_pic (pic_stageTrip ..)
    · exact .refl d3
  exact latched.trans (tripped.trans (within_raise ..))

theorem within_pwRise (l : Nat) : gateMask.Within d (d.pwRise c l) := by
  unfold Dev.pwRise
  extract_lets d1 free d2 d3 x
  have free_ : gateMask.Within d d1 := within_pic (pic_pw ..)
  have up : gateMask.Within d1 d2 := within_pic (pic_level ..)
  have acted : gateMask.Within d2 d3 := within_ite (within_gdAct ..) (.refl d2)
  exact within_ite free_ (free_.trans (up.trans (acted.trans (within_ite (within_pic (pic_gd _ _ (by decide) _)) (.refl d3)))))

theorem within_forceUp (l : Nat) : gateMask.Within d (d.forceUp c l) := by
  unfold Dev.forceUp
  exact within_ite (.refl d) (within_ite (within_pic (pic_pw ..)) (within_pwRise ..))

theorem within_forceAgain : gateMask.Within d (d.forceAgain c) := by
  unfold Dev.forceAgain
  exact within_ite (within_forceUp ..) (.refl d)

theorem within_pwOn : gateMask.Within d (d.pwOn c) := by
  unfold Dev.pwOn
  refine within_ite (.refl d) ?_
  split
  · exact within_pwRise ..
  · extract_lets d1
    have off : gateMask.Within d d1 := within_pic (pic_pwOff ..)
    exact off.trans (within_ite (.refl d1) (within_ite (within_pwRise ..) (within_pic (pic_deadStart ..))))

theorem within_pwDrive : gateMask.Within d (d.pwDrive c) := by
  unfold Dev.pwDrive
  split
  · exact within_pwOn ..
  · split
    · exact within_pwOn ..
    · exact within_pic (pic_pwOff ..)
  · exact within_pic (by simp)

theorem within_lockSync : stageMask.Within d (d.lockSync c) := by
  unfold Dev.lockSync
  extract_lets was d1
  have shown : stageMask.Within d d1 := within_pic (pic_setB _ (by decide) ..)
  refine shown.trans ?_
  split
  · exact within_ite ((within_forceAgain ..).le (by decide)) (.refl d1)
  · exact .refl d1

end

end Sys2Proof.Machine
end

section
/-! SUPPORT. The frame of trips, soft-off, status carriers, encoders and the SSI (R366 to R410). -/

namespace Sys2Proof.Machine

set_option Elab.async false

open Mask

/-- What these commands are free to change. -/
def driveMask : Mask := ⟨driveFields, [.slots, .gates, .enc]⟩

/-! The collector's position -/

/-- What a change of the position's validity is free to change. -/
def colMask : Mask := ⟨[F.COL_OFFSET.OFFSET, F.COL_STATUS.REFERENCED, F.COL_STATUS.VALID], [.enc]⟩

@[simp] theorem pic_colValid (d : Dev) : d.colValid.pic colMask = d.pic colMask := by
  simp (disch := decide) [Dev.colValid]

@[simp] theorem pic_colRefer (d : Dev) (p : Int) (count : Nat) : (d.colRefer p count).pic colMask = d.pic colMask := by
  simp (disch := decide) [Dev.colRefer]

theorem within_colInvalid (d : Dev) (enc cause : Nat) (lose : Bool) : colMask.Within d (d.colInvalid enc cause lose) := by
  unfold Dev.colInvalid
  extract_lets d1
  have lost : colMask.Within d d1 := within_pic (by simp (disch := decide) [d1])
  exact lost.trans (within_raise ..)

section
variable (d : Dev) (x : Nat)

theorem drive_of_gate {d e : Dev} (h : gateMask.Within d e) : driveMask.Within d e := h.le (by decide)

theorem within_xtripAct (instant : Nat) : driveMask.Within d (d.xtripAct x instant) := by
  unfold Dev.xtripAct
  extract_lets st ss i d1
  have tripped : driveMask.Within d d1 := by
    refine .trans (within_pic ?_) (within_each (fun e c => within_pic ?_) _ _)
    · simp (disch := decide)
    · simp (disch := decide)
  exact within_ite (.refl d) (tripped.trans (within_raise ..))

theorem within_uvlo : driveMask.Within d (d.uvlo x) := by
  unfold Dev.uvlo
  extract_lets d1 d2 d3
  have shown : driveMask.Within d d1 := (within_lockSync d x).le (by decide)
  have tripped : driveMask.Within d1 d2 := by
    simp only [d2]
    split
    · exact within_pic (pic_stageTrip ..)
    · exact .refl d1
  have off : driveMask.Within d1 d3 := by
    simp only [d3]
    split
    · exact within_ite (.refl d1) (within_pic (pic_level ..))
    · exact .refl d1
  exact shown.trans (within_ite (tripped.trans (within_raise ..)) (off.trans ((within_raise ..).trans (within_checkFail (by decide) ..))))

theorem within_bridgeLock (data : Nat) : driveMask.Within d (d.bridgeLock x data) := by
  unfold Dev.bridgeLock
  split
  · exact .refl d
  · extract_lets s pair cs d1 d2
    have locked : driveMask.Within d d1 :=
      within_each (fun e c => .trans (within_pic (pic_gd _ _ (by decide) _)) ((within_lockSync ..).le (by decide))) cs d
    have off : driveMask.Within d1 d2 := within_ite (within_pic (pic_stageTrip ..)) (within_each (fun e c => within_pic (pic_softOffChan ..)) cs d1)
    exact locked.trans (off.trans (.trans (within_pic (pic_disarm ..)) (within_raise ..)))

theorem within_framePos (v begun : Nat) : driveMask.Within d (d.framePos x v begun) := by
  unfold Dev.framePos
  extract_lets th up g d1 new d2 d3 d4
  have shown : driveMask.Within d d1 := within_pic (pic_set _ (by decide) ..)
  have low : driveMask.Within d1 d2 := within_pic (by simp (disch := decide) [d2])
  have unrefreshed : ∀ e : Dev, driveMask.Within e (e.gd x fun g => { g with refreshed := false }) := fun e => within_pic (pic_gd _ _ (by decide) _)
  have judged : driveMask.Within d1 d3 :=
    within_ite (low.trans (within_ite (.refl d2) (within_ite (unrefreshed d2) (within_uvlo ..))))
      (within_ite (within_pic (pic_gd _ _ (by decide) _)) (.refl d1))
  have proven : driveMask.Within d3 ((d3.setB F.GD_STATUS.UNPROVEN false x).disarm (.proof x)) := within_pic (by simp (disch := decide))
  exact shown.trans (judged.trans (within_ite (.refl d3) (within_ite (within_ite proven (.refl d3))
    (within_ite ((unrefreshed d3).trans (within_ite (within_bridgeLock ..) (.refl _))) (.refl d3)))))

theorem within_frameNeg (v : Nat) : driveMask.Within d (d.frameNeg x v) := by
  unfold Dev.frameNeg
  extract_lets th d1 new d2
  have shown : driveMask.Within d d1 := within_pic (pic_set _ (by decide) ..)
  have low : driveMask.Within d1 d2 := within_pic (by simp (disch := decide) [d2])
  exact shown.trans (within_ite (low.trans (within_ite (within_uvlo ..) (.refl d2))) (within_ite (within_pic (pic_gd _ _ (by decide) _)) (.refl d1)))

@[simp] theorem pic_carrierArm {m : Mask} : (d.carrierArm x).pic m = d.pic m := by
  unfold Dev.carrierArm
  extract_lets g
  split
  · exact pic_arm ..
  · simp

@[simp] theorem pic_check21 : (d.check21 x).pic driveMask = d.pic driveMask := by
  simp (disch := decide) [Dev.check21]

theorem within_reversal (instant : Nat) : driveMask.Within d (d.reversal x instant) := by
  unfold Dev.reversal
  extract_lets d1 e free d2
  have counted : driveMask.Within d d1 := within_pic (pic_inc _ (by decide) ..)
  refine counted.trans (within_ite (.trans (within_pic (pic_en _ _ (by decide) _)) (within_raise ..)) (within_pic ?_))
  simp (disch := decide) [d2]

theorem within_edgeOvr : driveMask.Within d (d.edgeOvr x) := by
  unfold Dev.edgeOvr
  extract_lets was d1
  have shown : driveMask.Within d d1 := within_pic (by simp (disch := decide) [d1])
  exact shown.trans (within_ite ((within_colInvalid ..).le (by decide)) (.refl d1))

theorem within_crossCheck (p2 p : Rat) : driveMask.Within d (d.crossCheck p2 p) := by
  unfold Dev.crossCheck
  exact within_ite (.trans (within_pic (pic_setB _ (by decide) ..)) ((within_colInvalid ..).le (by decide))) (.refl d)

end

/-! The commands -/

theorem within_drive {c : Instr} {s t : State} (hc : isDrive c = true) (h : exec c s = .next t) :
    t.dev.calm.view driveMask = s.dev.calm.view driveMask ∧ SlotsKept s.dev t.dev := by
  unfold exec at h
  cases c
  all_goals dsimp only at h
  case gdTrip x e =>
    refine Within.next h fun d => ?_
    extract_lets instant d1 first d2
    have waited : driveMask.Within d d1 := within_pic (pic_until ..)
    refine within_ite (within_pic (by simp (disch := decide))) (waited.trans ?_)
    split
    · exact .refl d1
    · refine within_ite (.refl d1) ?_
      have active : driveMask.Within d1 d2 := within_pic (by simp (disch := decide) [d2])
      refine active.trans (within_ite (.refl d2) ?_)
      split
      · exact within_ite (within_pic (pic_setB _ (by decide) ..)) (.trans (within_pic (pic_disarm ..)) (drive_of_gate (within_gdAct ..)))
      · exact drive_of_gate (within_gdAct ..)
  case blankingEnd x active =>
    refine Within.next h fun d => within_fire (fun e => ?_) d _
    extract_lets e1
    have shown : driveMask.Within e e1 := within_pic (pic_setB _ (by decide) ..)
    exact shown.trans (within_ite (within_ite (drive_of_gate (within_gdAct ..)) (within_pic (by simp (disch := decide)))) (.refl e1))
  case xtrip n e =>
    refine Within.next h fun d => ?_
    extract_lets d1
    exact within_ite (within_pic (by simp (disch := decide))) (.trans (within_pic (by simp (disch := decide) [d1])) (within_xtripAct ..))
  case softOffStep c =>
    refine Within.next h fun d => within_fire (fun e => ?_) d _
    exact .trans (within_atSub (fun _ => within_pic (pic_level ..)) _) (.trans (within_pic (pic_pw ..)) (within_lockTry _))
  case deadTimeEnd c =>
    refine Within.next h fun d => within_fire (fun e => ?_) d _
    extract_lets e1
    have ended : driveMask.Within e e1 := within_pic (by simp (disch := decide) [e1])
    refine ended.trans (within_each (fun e c => ?_) _ e1)
    split
    · exact within_atSub (fun e => drive_of_gate (within_pwRise ..)) _
    · exact .refl e
  case statusCarrierFrame x period f =>
    refine Within.next h fun d => ?_
    extract_lets d1 high os q band g ok d2 good d3 d4 d5
    have waited : driveMask.Within d d1 := within_pic (pic_until ..)
    have noted : driveMask.Within d1 d2 := within_pic (pic_gd _ _ (by decide) _)
    have counted : driveMask.Within d2 d4 := within_pic (by simp (disch := decide) [d4, d3])
    have judged : driveMask.Within d4 d5 := within_ite (within_framePos ..) (within_frameNeg ..)
    refine waited.trans (within_ite (.trans (within_pic ((pic_arm ..).trans (pic_withOs ..))) (within_checkFail (by decide) ..)) (noted.trans (within_ite ?_ ?_)))
    · exact within_pic (by simp (disch := decide))
    · exact counted.trans (judged.trans (within_pic (pic_check21 ..)))
  case carrierLost x =>
    refine Within.next h fun d => within_fire (fun e => within_ite ?_ ?_) d _
    · exact within_pic ((pic_checkPass _ (by decide) ..).trans (pic_withOs ..))
    · exact .trans (within_pic (by simp (disch := decide))) (within_uvlo ..)
  case bootstrapProofTimeout x => exact Within.next h fun d => within_fire (fun e => within_ite (within_bridgeLock ..) (.refl e)) d _
  case encoderEdge n a b instant =>
    refine Within.next h fun d => ?_
    extract_lets d1 t stamp lv a0 b0 d2 onA up e close c back early held d3 d4 d5 d6
    have waited : driveMask.Within d d1 := within_pic (pic_until ..)
    have levels : driveMask.Within d1 d2 := within_pic (pic_set _ (by decide) ..)
    have counted : driveMask.Within d2 d5 := within_pic (by simp (disch := decide) [d5, d4, d3])
    have missed : driveMask.Within d5 d6 := within_ite (within_edgeOvr ..) (.refl d5)
    refine waited.trans (within_ite (within_pic (pic_set _ (by decide) ..)) (levels.trans (within_ite ?_ (within_ite (.refl d2) ?_))))
    · exact (within_edgeOvr ..).trans (within_pic (pic_en _ _ (by decide) _))
    · exact counted.trans (missed.trans (within_ite (within_reversal ..) (.refl d6)))
  case colReversal n =>
    refine Within.next h fun d => within_fire (fun e => ?_) d _
    extract_lets r
    exact .trans (within_pic (pic_en _ _ (by decide) _)) (within_raise ..)
  case ssiFrame x =>
    refine Within.next h fun d => within_ite (.refl d) ?_
    extract_lets start d1 col d2 captured d3 n d4 col4 d5 w v d6 col6 d7 p2
    have sampled : driveMask.Within d d3 := within_pic ((pic_setB _ (by decide) ..).trans ((pic_withCol ..).trans (pic_until ..)))
    have bad : driveMask.Within d3 d5 := within_pic ((pic_withCol ..).trans (by simp (disch := decide) [d4]))
    have good : driveMask.Within d3 d7 :=
      within_pic ((pic_checkPass _ (by decide) ..).trans ((pic_withCol ..).trans (by simp (disch := decide) [d6])))
    refine sampled.trans (within_ite (bad.trans (within_ite ((within_raise ..).trans (within_checkFail (by decide) ..)) (.refl d5))) (good.trans ?_))
    exact within_ite (within_crossCheck ..) (within_ite (.refl d7) (.le (m := colMask) (by decide) (within_pic (pic_colRefer ..))))
  all_goals exact absurd hc Bool.false_ne_true

/-- Settles O51: a trip, a carrier and an encoder's edge stay within their own registers, the position's and what a check that fails reaches. -/
theorem driveFrame : Obligations.DriveFrame := by
  intro c s t hc h
  obtain ⟨v, slots⟩ := within_drive hc h
  exact ⟨kept_of_view (m := driveMask) v, lanes_of_view v (by decide), cells_of_view v (by decide), slots, bank2_of_view v (by decide),
    phases_of_view v (by decide), metCh_of_view v (by decide), metEl_of_view v (by decide), met_of_view v (by decide), ports_of_view v (by decide),
    hk_of_view v (by decide), keys_of_view v (by decide), fw_of_view v (by decide)⟩

end Sys2Proof.Machine
end

section
/-! SUPPORT. The frame of the output stage, the PWM channels and the collector's index (R336 to R410). -/

namespace Sys2Proof.Machine

set_option Elab.async false

open Mask

/-- What these commands are free to change. -/
def outputMask : Mask := ⟨outputFields, [.slots, .phases, .gates, .enc]⟩

section
variable {m : Mask} (d : Dev)

@[simp] theorem pic_grpLoanEnd (g : Nat) : (d.grpLoanEnd g).pic m = d.pic m := pic_of_calm (calm_grpLoanEnd ..) (core_grpLoanEnd ..) m
@[simp] theorem pic_grpPhasesOff (g : Nat) : (d.grpPhasesOff g).pic m = d.pic m := pic_of_calm (calm_grpPhasesOff ..) (core_grpPhasesOff ..) m
@[simp] theorem pic_loanReturn (op inst : Nat) : (d.loanReturn op inst).pic m = d.pic m := pic_of_calm (calm_loanReturn ..) (core_loanReturn ..) m
@[simp] theorem pic_loanDrop (op inst : Nat) : (d.loanDrop op inst).pic m = d.pic m := pic_of_calm (calm_loanDrop ..) (core_loanDrop ..) m
@[simp] theorem pic_pllDrop (p u : Nat) : (d.pllDrop p u).pic m = d.pic m := pic_of_calm (calm_pllDrop ..) (core_pllDrop ..) m

theorem pic_colStopping : d.colStopping.pic m = d.pic m := rfl

@[simp] theorem pic_freqSet (x : Nat) : (d.freqSet x).pic m = d.pic m := by
  unfold Dev.freqSet
  extract_lets old t
  split <;> rfl

@[simp] theorem pic_syncSlew (e : Nat) : (d.syncSlew e).pic m = d.pic m := by
  simp [Dev.syncSlew]

theorem within_atPhase {g : Dev → Dev} (h : ∀ e, m.Within e (g e)) (p : Nat) : m.Within d (d.atPhase p g) := within_wait h d _

end

section
variable (d : Dev) (e : Nat)

theorem output_of_gate {d e : Dev} (h : gateMask.Within d e) : outputMask.Within d e := h.le (by decide)

@[simp] theorem outputPic_pwShort (c P : Nat) : (d.pwShort e c P).1.pic outputMask = d.pic outputMask := by
  simp only [Dev.pwShort]
  repeat' split
  all_goals simp (disch := decide)

@[simp] theorem outputPic_pwRefresh (c P : Nat) (comp : Bool) : (d.pwRefresh e c P comp).1.pic outputMask = d.pic outputMask := by
  simp only [Dev.pwRefresh]
  repeat' split
  all_goals simp (disch := decide)

@[simp] theorem outputPic_pwEvent (kind sub : Nat) : (d.pwEvent e kind sub).pic outputMask = d.pic outputMask := by
  simp (disch := decide) [Dev.pwEvent]

@[simp] theorem outputPic_pwEvents (kind sub : Nat) : (d.pwEvents e kind sub).pic outputMask = d.pic outputMask := by
  simp [Dev.pwEvents]

theorem within_pwBoundary (move : Int) (hold : Bool) : outputMask.Within d (d.pwBoundary e move hold) := by
  unfold Dev.pwBoundary
  extract_lets d1 p b d2 d3 P0 P sh role c r c1 d4 os d5 d6
  have stepped : outputMask.Within d d1 := within_pic (pic_stepSync _)
  have waited : outputMask.Within d1 d3 := within_pic (by simp [d3, d2])
  have refreshed : outputMask.Within d3 r.1 := by
    simp only [r]
    split
    · exact within_pic (outputPic_pwRefresh ..)
    · exact within_pic ((outputPic_pwRefresh ..).trans (outputPic_pwShort ..))
  have shown : outputMask.Within r.1 d4 := within_pic (by simp (disch := decide) [d4])
  have leg : outputMask.Within d4 d5 := within_ite (within_pic (pic_withOs ..)) (.refl d4)
  have begun : outputMask.Within d5 d6 := within_pic ((pic_syncSlew ..).trans (pic_pw ..))
  refine stepped.trans (within_ite (.refl d1) (waited.trans (refreshed.trans (shown.trans (leg.trans (begun.trans (within_atSub (fun x => ?_) _)))))))
  exact (output_of_gate (within_pwDrive ..)).trans (within_pic (outputPic_pwEvents ..))

theorem within_phDrive : outputMask.Within d (d.phDrive e) := output_of_gate (within_pwDrive ..)

@[simp] theorem outputPic_phStart (ref off : Nat) : (d.phStart ref e off).pic outputMask = d.pic outputMask := by
  simp (disch := decide) [Dev.phStart]

theorem pic_foldl {α : Type} {m : Mask} {g : Dev → α → Dev} (h : ∀ d x, (g d x).pic m = d.pic m) (l : List α) : (l.foldl g d).pic m = d.pic m :=
  pic_each d h l

@[simp] theorem outputPic_respread (back : List Nat) : (d.respread e back).pic outputMask = d.pic outputMask := by
  unfold Dev.respread
  extract_lets ref act n per d1
  have placed : d1.pic outputMask = d.pic outputMask := pic_foldl d (fun x j => by simp (disch := decide)) _
  simp (disch := decide) [placed]

theorem within_capCheck : outputMask.Within d (d.capCheck e) := by
  unfold Dev.capCheck
  extract_lets s cap ir low
  exact within_ite (.trans (within_pic (pic_setB _ (by decide) ..)) (within_raise ..)) (within_pic (pic_setB _ (by decide) ..))

theorem within_phaseOut (st : Nat) {ev : Dev → Dev} (h : ∀ x, outputMask.Within x (ev x)) : outputMask.Within d (d.phaseOut e st ev) := by
  unfold Dev.phaseOut
  extract_lets g was d1 run d2 d3
  have out : outputMask.Within d d1 := .trans (within_pic (by simp (disch := decide))) ((within_phDrive ..).trans (h _))
  have shared : outputMask.Within d1 d2 := within_ite (within_pic (outputPic_respread ..)) (within_pic (pic_setB _ (by decide) ..))
  have capped : outputMask.Within d2 d3 := within_capCheck ..
  exact out.trans (within_ite (shared.trans (capped.trans (within_ite (within_raise ..) (.refl d3)))) (.refl d1))

theorem within_openCheck : outputMask.Within d (d.openCheck e) := by
  unfold Dev.openCheck
  extract_lets g act cur x t tm far n d1
  have counted : outputMask.Within d d1 := within_pic (pic_phs _ _ (by decide) _)
  exact counted.trans (within_ite (within_phaseOut _ _ _ fun y => within_raise ..) (.refl d1))

theorem within_truncate : outputMask.Within d (d.truncate e) := by
  unfold Dev.truncate
  extract_lets g p pulse tr d1
  split
  · have counted : outputMask.Within d d1 := within_pic (by simp (disch := decide) [d1])
    exact within_ite (counted.trans (.trans (within_pic (pic_pw ..)) (within_phDrive ..))) (.refl d)
  · exact .refl d

theorem pic_phasesEach {g : Phase → Phase} (l : List Nat) : (d.each l fun d k => d.phs k g).pic outputMask = d.pic outputMask :=
  pic_each d (fun d k => pic_phs d k (by decide) g) l

@[simp] theorem outputPic_burstEnd : (d.burstEnd e).pic outputMask = d.pic outputMask := by
  unfold Dev.burstEnd
  extract_lets d1
  have woken : d1.pic outputMask = d.pic outputMask := by simp (disch := decide) [d1]
  exact (pic_phasesEach d1 _).trans woken

@[simp] theorem outputPic_burstRun : (d.burstRun e).pic outputMask = d.pic outputMask := by
  unfold Dev.burstRun
  extract_lets n d1
  have woken : d1.pic outputMask = d.pic outputMask := by simp (disch := decide) [d1]
  exact (pic_inc _ (by decide) ..).trans ((pic_each d1 (fun x k => pic_phs x k (by decide) _) _).trans woken)

theorem within_grpOff : outputMask.Within d (d.grpOff e) := by
  unfold Dev.grpOff
  extract_lets d1 d2
  have off : outputMask.Within d d2 := within_pic (by simp (disch := decide) [d2, d1])
  exact off.trans (within_each (fun x k => .trans (within_pic (pic_pw ..)) (within_phDrive ..)) _ d2)

theorem within_hallFault (old new : Nat) : outputMask.Within d (d.hallFault old new) := by
  unfold Dev.hallFault
  exact .trans (within_pic (by simp (disch := decide))) (within_raise ..)

theorem within_legChange (was : Nat) : outputMask.Within d (d.legChange e was) := by
  unfold Dev.legChange
  extract_lets role p c left past short d1
  have set : outputMask.Within d d1 := within_pic (by simp (disch := decide) [d1])
  exact within_ite (.refl d) (set.trans (.trans (within_ite (within_pic (pic_incSat _ (by decide) ..)) (.refl d1)) (output_of_gate (within_pwDrive ..))))

theorem output_of_col {d e : Dev} (h : colMask.Within d e) : outputMask.Within d e := h.le (by decide)

theorem within_indexCheck (x : Int) : outputMask.Within d (d.indexCheck e x) := by
  unfold Dev.indexCheck
  extract_lets l4 tol k d1
  have moved : outputMask.Within d d1 := within_ite (within_pic (pic_setS _ (by decide) ..)) (.refl d)
  refine within_ite (.refl d) (within_ite (moved.trans (.trans (within_pic (pic_en _ _ (by decide) _)) (output_of_col (within_pic (pic_colValid _))))) ?_)
  exact within_ite (.refl d) (.trans (within_pic (pic_setB _ (by decide) ..)) (output_of_col (within_colInvalid ..)))

theorem within_colOff : outputMask.Within d d.colOff := by
  unfold Dev.colOff
  extract_lets d1 d2
  have stopped : outputMask.Within d d1 := within_each (fun x c => .trans (within_pic (pic_pw ..)) (output_of_gate (within_pwDrive ..))) _ d
  refine stopped.trans (within_pic ((pic_disarm ..).trans ((pic_withOs ..).trans ?_)))
  simp (disch := decide) [d2]

end

/-! The commands -/

theorem within_output {c : Instr} {s t : State} (hc : isOutput c = true) (h : exec c s = .next t) :
    t.dev.calm.view outputMask = s.dev.calm.view outputMask ∧ SlotsKept s.dev t.dev := by
  unfold exec at h
  cases c
  all_goals dsimp only at h
  case osShadowWrite g =>
    refine Within.next h fun d => within_ite (.refl d) (within_atPhase d (fun e => within_pic ?_) _)
    exact (pic_free ..).trans (pic_each e (fun x k => by simp (disch := decide)) _)
  case pwmPeriodBoundary c i =>
    refine Within.next h fun d => within_ite (.refl d) (within_ite ?_ (within_ite ?_ (within_pwBoundary ..)))
    · extract_lets k g mean d1 x d2 bursting first left hold d3 d4 d5 d6 d7 d8
      have sampled : outputMask.Within d d1 := within_ite (.refl d) (within_pic (by simp (disch := decide)))
      have moved : outputMask.Within d1 d3 := within_pic (pic_phs _ _ (by decide) _)
      have begun : outputMask.Within d3 d5 := (within_pwBoundary ..).trans (within_ite (within_truncate ..) (.refl d4))
      have compared : outputMask.Within d5 d6 := within_pic (pic_set _ (by decide) ..)
      have opened : outputMask.Within d6 d7 := within_ite (within_openCheck ..) (.refl d6)
      refine sampled.trans (within_ite ?_ (moved.trans (begun.trans (compared.trans (opened.trans (within_ite ?_ (.refl d7)))))))
      · exact .trans (within_pic (by simp (disch := decide) [d2])) (within_phDrive ..)
      · exact .trans (within_pic (by simp (disch := decide) [d8])) (within_each (fun x j => within_phDrive ..) _ d8)
    · exact .trans (within_ite (.refl d) (within_pic (pic_setB _ (by decide) ..))) (within_pwBoundary ..)
  case pwmCompare c =>
    refine Within.next h fun d => ?_
    extract_lets d1 p x t d2
    have stepped : outputMask.Within d d1 := within_pic (pic_stepSync _)
    have waited : outputMask.Within d1 d2 := within_pic (by simp [d2])
    refine stepped.trans (within_ite (.refl d1) (waited.trans (within_atSub (fun e => ?_) _)))
    exact (output_of_gate (within_pwDrive ..)).trans (within_pic (outputPic_pwEvents ..))
  case osTruncation g code =>
    refine Within.next h fun d => within_ite ?_ (.refl d)
    exact .trans (within_pic (pic_grp ..)) (within_each (fun x k => within_truncate ..) _ _)
  case brakeDecision code =>
    refine Within.next h fun d => ?_
    extract_lets v cs
    refine within_ite (.refl d) (within_ite (within_ite (.refl d) ?_) (within_ite (within_pic ?_) (.refl d)))
    · refine .trans (within_ite (.refl d) (within_pic ?_)) (within_each (fun x c => output_of_gate (within_pwOn ..)) _ _)
      exact (pic_inc _ (by decide) ..).trans (pic_setB _ (by decide) ..)
    · exact (pic_setB _ (by decide) ..).trans (pic_each d (fun x c => pic_pwOff ..) _)
  case osBurstWake g code =>
    refine Within.next h fun d => within_ite (.refl d) ?_
    exact within_ite (within_pic (outputPic_burstEnd ..)) (within_ite (within_pic (outputPic_burstRun ..)) (.refl d))
  case osSsTimeout g =>
    exact Within.next h fun d => within_fire (fun e => within_ite ((within_grpOff ..).trans (within_raise ..)) (.refl e)) d _
  case hallChange x =>
    refine Within.next h fun d => ?_
    extract_lets state old d1 run bad legs d2 os d3
    have checked : outputMask.Within d d1 := within_ite (within_check (by decide) ..) (.refl d)
    have shown : outputMask.Within d1 d3 := within_pic ((pic_withOs ..).trans (pic_set _ (by decide) ..))
    refine within_ite (.refl d) (checked.trans (within_ite (.refl d1) (shown.trans (within_ite (within_hallFault ..) (within_ite ?_ (.refl d3))))))
    exact .trans (within_pic (by simp (disch := decide))) (within_each (fun x l => within_legChange ..) _ _)
  case encoderIndex n z =>
    refine Within.next h fun d => ?_
    extract_lets lv was d1 down c x seen d2 d3 d4 shift col
    have levels : outputMask.Within d d1 := within_pic (pic_set _ (by decide) ..)
    have latched : outputMask.Within d1 d2 := within_pic (by simp (disch := decide) [d2])
    have judged : outputMask.Within d2 d3 :=
      within_ite (.trans (within_pic (pic_setS _ (by decide) ..)) (within_indexCheck ..)) (.refl d2)
    have met : outputMask.Within d3 d4 := within_pic (pic_en _ _ (by decide) _)
    refine levels.trans (within_ite (.refl d1) (within_ite (.refl d1) (latched.trans (judged.trans (within_ite (met.trans (within_ite ?_ (.refl d4))) (.refl d3))))))
    exact output_of_col (within_pic ((pic_colStopping _).trans ((pic_colRefer ..).trans (pic_withCol ..))))
  case colBrakeEnd => exact Within.next h fun d => within_fire (fun e => within_ite (within_colOff ..) (.refl e)) d _
  case collectorDriveHandover =>
    refine Within.next h fun d => within_ite (.refl d) (within_atPhase d (fun e => ?_) _)
    extract_lets u col os e1 per c
    have driven : outputMask.Within e e1 := within_pic ((pic_setS _ (by decide) ..).trans rfl)
    exact driven.trans (within_each (fun x k => within_pic (by simp (disch := decide))) _ e1)
  all_goals exact absurd hc Bool.false_ne_true

/-- Settles O57: the output stage, the PWM channels and the collector's index stay within their own registers and what a fault reaches. -/
theorem outputFrame : Obligations.OutputFrame := by
  intro c s t hc h
  obtain ⟨v, slots⟩ := within_output hc h
  exact ⟨kept_of_view (m := outputMask) v, lanes_of_view v (by decide), slots, bank2_of_view v (by decide), metCh_of_view v (by decide),
    metEl_of_view v (by decide), met_of_view v (by decide), ports_of_view v (by decide), hk_of_view v (by decide), keys_of_view v (by decide),
    fw_of_view v (by decide)⟩

end Sys2Proof.Machine
end

section
/-! SUPPORT. The frame of the register writes with an effect of their own (R10, R71 to R76, R116, R199, R368, R457, R488). -/

namespace Sys2Proof.Machine

set_option Elab.async false

open Mask

/-- What these writes are free to change. -/
def registerMask : Mask := ⟨registerFields, [.lanes, .cells, .slots, .gates]⟩

section
variable {m : Mask} (d : Dev)

@[simp] theorem pic_withRings (x : Rings) : ({ d with rings := x } : Dev).pic m = d.pic m := rfl
@[simp] theorem pic_withProv (x : Prov) : ({ d with prov := x } : Dev).pic m = d.pic m := rfl
@[simp] theorem pic_ringPush (r : Nat) : (d.ringPush r).pic m = d.pic m := pic_of_calm (calm_ringPush ..) (core_ringPush ..) m
@[simp] theorem pic_writeBack (r : Nat) : (d.writeBack r).pic m = d.pic m := pic_of_calm (calm_writeBack ..) (core_writeBack ..) m
@[simp] theorem pic_msix (f v : Nat) : (d.msix f v).pic m = d.pic m := pic_of_calm (calm_msix ..) (core_msix ..) m
@[simp] theorem pic_loanSync : d.loanSync.pic m = d.pic m := pic_of_calm (calm_loanSync _) (core_loanSync _) m
@[simp] theorem pic_evWrite (e : Nat) (x : Event) : (d.evWrite e x).pic m = d.pic m := pic_of_calm (calm_evWrite ..) (core_evWrite ..) m

@[simp] theorem pic_complete (x : Completion) : (d.complete x).pic m = d.pic m :=
  pic_of_calm (calm_complete ..) (core_of_st (st_complete ..) (congrArg Calm.slots (calm_complete ..))) m

@[simp] theorem pic_pageWrite (s : Nat) : (d.pageWrite s).pic m = d.pic m := by
  unfold Dev.pageWrite
  extract_lets pg r i d1 rings d2 d3
  have pushed : d3.pic m = d.pic m := (pic_writeBack ..).trans ((pic_ringPush ..).trans rfl)
  split
  · rfl
  · split
    · exact (pic_msix ..).trans pushed
    · exact pushed

@[simp] theorem pic_evLoss (e : Nat) : (d.evLoss e).pic m = d.pic m :=
  (pic_writeBack ..).trans ((pic_ringPush ..).trans rfl)

@[simp] theorem pic_evDrain (e n : Nat) : (d.evDrain e n).pic m = d.pic m := by
  induction n generalizing d with
  | zero => rfl
  | succ n ih =>
    unfold Dev.evDrain
    extract_lets r
    split
    · split
      · exact (ih _).trans ((pic_evWrite ..).trans (pic_withRings ..))
      · split
        · rfl
        · exact pic_evLoss ..
    · rfl

end

section
variable (d : Dev)

@[simp] theorem regPic_heldOut (q : Nat) : (d.heldOut q).pic registerMask = d.pic registerMask := by
  unfold Dev.heldOut
  extract_lets mine rings d1 d2
  have taken : d2.pic registerMask = d.pic registerMask := by simp (disch := decide) [d2, d1]
  split
  · rfl
  · exact (pic_each d2 (fun x c => pic_complete ..) _).trans taken

@[simp] theorem regPic_ringOff (r : Nat) (reach : Bool) : (d.ringOff r reach).pic registerMask = d.pic registerMask := by
  simp (disch := decide) [Dev.ringOff]

@[simp] theorem regPic_ringOn (r : Nat) : (d.ringOn r).pic registerMask = d.pic registerMask := by
  unfold Dev.ringOn
  extract_lets d1 d2
  have enabled : d2.pic registerMask = d.pic registerMask := by simp (disch := decide) [d2, d1]
  refine .trans ?_ enabled
  split
  · rfl
  · split
    · exact (regPic_heldOut ..).trans rfl
    · split
      · exact pic_evDrain ..
      · rfl

@[simp] theorem regPic_snap : d.snap.pic registerMask = d.pic registerMask := by
  simp (disch := decide) [Dev.snap]

@[simp] theorem regPic_slip (k : Nat) : (d.slip k).pic registerMask = d.pic registerMask := by
  simp (disch := decide) [Dev.slip, Dev.laneCnt]

@[simp] theorem regPic_stepWrite (v : Nat) : (d.stepWrite v).1.pic registerMask = d.pic registerMask := by
  simp only [Dev.stepWrite]
  repeat' split
  all_goals simp (disch := decide)

theorem regPic_attempt (f offset aux old new : Nat) (refused : Bool) : (d.attempt f offset aux old new refused).pic registerMask = d.pic registerMask := by
  simp (disch := decide) [Dev.attempt]

theorem within_force (src cls : Nat) : registerMask.Within d (d.force src cls) :=
  ⟨view_of_calm (calm_force ..) _, fun _ a => away_countCheck (away_latchEvent a ..)⟩

theorem within_forceWrite (w v : Nat) : registerMask.Within d (d.forceWrite w v).1 := by
  unfold Dev.forceWrite
  extract_lets bits ok d1
  exact within_ite (.refl d) (.trans (within_pic (pic_elapse ..)) (within_each (fun x b => within_force ..) _ _))

theorem pic_forceDown (c : Nat) : (d.forceDown c).pic gateMask = d.pic gateMask := by
  unfold Dev.forceDown
  extract_lets d1
  have down : d1.pic gateMask = d.pic gateMask := (pic_pw ..).trans (pic_level ..)
  split
  · exact pic_pw ..
  · split
    · exact (pic_deadStart ..).trans down
    · exact down

theorem within_pwForce (c v : Nat) : registerMask.Within d (d.pwForce c v) := by
  unfold Dev.pwForce
  extract_lets d1
  have forced : registerMask.Within d d1 := within_pic (by simp (disch := decide) [d1])
  refine forced.trans (within_ite (.refl d1) (.le (m := gateMask) (by decide) ?_))
  refine within_ite (within_pic (pic_forceDown ..)) (within_ite (within_ite (within_pwOn ..) ?_) (within_forceUp ..))
  exact .trans (within_ite (within_pic (pic_forceDown ..)) (.refl d1)) (within_pwDrive ..)

theorem within_forceAccess (c v : Nat) : registerMask.Within d (d.forceAccess c v).1 := by
  unfold Dev.forceAccess
  split
  · exact within_pic (pic_setB _ (by decide) ..)
  · split
    · exact within_pic (pic_setB _ (by decide) ..)
    · exact .trans (within_pic (pic_elapse ..)) (within_pwForce ..)

theorem within_testHold (k : Nat) (on : Bool) : registerMask.Within d (d.testHold k on) := by
  unfold Dev.testHold
  extract_lets was d1 st d2 d3
  have set : registerMask.Within d d1 := within_pic (pic_setB _ (by decide) ..)
  refine set.trans (within_ite (.refl d1) (within_ite (within_ite ?_ (within_pic (pic_disarm ..))) (within_ite (within_pic ?_) (.refl d1))))
  · have left : registerMask.Within d1 d2 := within_ite (.le (m := laneMask) (by decide) (within_laneRetrain ..)) (.refl d1)
    have still : registerMask.Within d2 (d2.laneStill k) := .le (m := laneMask) (by decide) (within_pic (pic_laneStill ..))
    exact left.trans (within_ite (.refl d2) (still.trans (within_pic (by simp (disch := decide)))))
  · simp (disch := decide) [d3, Dev.tp3Start]

end

/-! What a write does to one field -/

/-- The fields of the registers that these writes address. -/
def writtenFields : List Fld :=
  [F.PLLS_HOP.FREQ, F.PLLS_HOP.VALID, F.PLLS_HOP.CAP, F.PLLS_HOP.BAND, F.PLLS_SEL.ENTRY, F.PLLS_SEL.HOP_BUSY, F.PLLS_PSTEP.STEPS, F.PLLS_PSTEP.BUSY,
   F.LOAN_CHIP.BUDGET, F.LOAN_SITE.BUDGET, F.REG_FORCE.FORCE, F.CHR_SNAP.TAKE, F.CHR_SET_AT.TICK, F.LANE_SLIP.SLIP, F.LANE_SLIP.DONE,
   F.LANE_CTRL.DECLARED, F.LANE_CTRL.FB_ALLOWED, F.LANE_CTRL.FIBRE_CLASS, F.LANE_CTRL.MANUAL_ALIGN, F.LANE_CTRL.TEST_HOLD, F.LANE_CTRL.XCVR_CLASS,
   F.PW_FORCE.FORCE, F.PW_FORCE.REFUSED, F.xQ_CTRL.EN, F.xQ_CTRL.IRQ_EN, F.xQ_CTRL.LOG2SIZE, F.xQ_CTRL.OWNER, F.xQ_CTRL.VECTOR]

/-- A field is one of them. -/
def Fld.written (x : Fld) : Bool := writtenFields.contains x

theorem of_written {p : Fld → Bool} (h : writtenFields.all p = true) {x : Fld} (hx : x.written = true) : p x = true :=
  List.all_eq_true.mp h x (List.contains_iff_mem.mp hx)

theorem frees_of_written {x : Fld} (h : x.written = true) : (registerMask.frees x && F.GLB_STATE.DEVICE.apart x) = true :=
  of_written (p := fun x => registerMask.frees x && F.GLB_STATE.DEVICE.apart x) (by decide) h

/-- None of them is a flag that a write of 1 clears. -/
theorem code_of_written {x : Fld} (h : x.written = true) (a : Nat) : x.code a ≠ .w1c := by
  have none : (x.acc.all (· != .w1c) && x.acc.getLastD default != .w1c) = true :=
    of_written (p := fun x => x.acc.all (· != .w1c) && x.acc.getLastD default != .w1c) (by decide) h
  obtain ⟨each, last⟩ := Bool.and_eq_true .. ▸ none
  unfold Fld.code atOrLast
  rw [List.getD_eq_getElem?_getD]
  rcases hq : x.acc[a]? with _ | q
  · simpa using last
  · simpa using List.all_eq_true.mp each q (List.mem_of_getElem? hq)

theorem within_woWrite (d : Dev) {x : Fld} (hx : x.written = true) (a v : Nat) : registerMask.Within d (d.woWrite x a v).1 := by
  unfold Dev.woWrite
  split
  · exact .refl d
  split
  next h => subst h; exact absurd hx (by decide)
  split
  · exact within_pic (regPic_stepWrite ..)
  split
  · split
    · exact within_pic (regPic_slip ..)
    · exact .refl d
  split
  · exact within_pic (regPic_snap ..)
  split
  · exact within_forceWrite ..
  · exact .refl d

/-- An access that may be refused stays within the mask where it is not. -/
def Mask.MayWithin (m : Mask) (d : Dev) (o : Option Dev) : Prop := ∀ e, o = some e → m.Within d e

section
variable {d e : Dev} {m : Mask}

theorem mayWithin_none : m.MayWithin d none := fun _ h => nomatch h

theorem mayWithin_some (h : m.Within d e) : m.MayWithin d (some e) := fun _ he => Option.some.inj he ▸ h

theorem mayWithin_ite {p : Prop} [Decidable p] {x y : Option Dev} (hx : m.MayWithin d x) (hy : m.MayWithin d y) :
    m.MayWithin d (if p then x else y) := by
  split
  · exact hx
  · exact hy

/-- A rule of a field that these writes do not address. -/
theorem mayWithin_other {x y : Fld} {o p : Option Dev} (hx : x.written = true) (hy : y.written = false) (h : m.MayWithin d p) :
    m.MayWithin d (if x = y then o else p) := by
  split
  next he => exact absurd (he ▸ hx) (by simp [hy])
  next => exact h

theorem mayWithin_others {x y z : Fld} {o p : Option Dev} (hx : x.written = true) (hy : y.written = false) (hz : z.written = false)
    (h : m.MayWithin d p) : m.MayWithin d (if x = y ∨ x = z then o else p) := by
  split
  next he => exact absurd hx (by rcases he with rfl | rfl <;> simp [hy, hz])
  next => exact h

end

section
variable (d : Dev)

theorem within_hopWrite (h v : Nat) : registerMask.MayWithin d (d.hopWrite h v) := by
  unfold Dev.hopWrite
  extract_lets used d1
  exact mayWithin_ite mayWithin_none (mayWithin_some (within_pic (by simp (disch := decide) [d1])))

theorem within_selWrite (v : Nat) : registerMask.MayWithin d (d.selWrite v) := by
  unfold Dev.selWrite
  extract_lets clk d1
  exact mayWithin_ite mayWithin_none (mayWithin_some (within_pic (by simp (disch := decide) [d1])))

theorem within_ringEnable (r : Nat) (on : Bool) : registerMask.MayWithin d (d.ringEnable r on) := by
  unfold Dev.ringEnable
  refine mayWithin_ite (mayWithin_ite mayWithin_none (mayWithin_some ?_)) (mayWithin_ite mayWithin_none (mayWithin_some ?_))
  · exact within_pic (regPic_ringOn ..)
  · exact within_pic (regPic_ringOff ..)

theorem within_budgetWrite {x : Fld} (hx : x.written = true) (site : Bool) (v : Nat) : registerMask.MayWithin d (d.budgetWrite x site v) :=
  mayWithin_ite mayWithin_none (mayWithin_some (within_pic ((pic_loanSync _).trans (pic_set _ (frees_of_written hx) ..))))

theorem within_setAtWrite (v : Nat) : registerMask.MayWithin d (d.setAtWrite v) :=
  mayWithin_ite mayWithin_none (mayWithin_some (within_pic (by simp (disch := decide))))

theorem within_rwWrite {x : Fld} (hx : x.written = true) (a b c v : Nat) : registerMask.MayWithin d (d.rwWrite x a b c v) := by
  have set (i j k : Nat) : registerMask.MayWithin d (some (d.set x v i j k)) := mayWithin_some (within_pic (pic_set _ (frees_of_written hx) ..))
  unfold Dev.rwWrite
  refine mayWithin_ite mayWithin_none (mayWithin_other hx (by decide) (mayWithin_other hx (by decide) (mayWithin_other hx (by decide) ?_)))
  refine mayWithin_ite (within_selWrite d v) (mayWithin_ite (within_hopWrite d a v) (mayWithin_other hx (by decide) ?_))
  refine mayWithin_ite (within_budgetWrite d hx _ v) (mayWithin_ite (within_budgetWrite d hx _ v) (mayWithin_other hx (by decide) ?_))
  refine mayWithin_ite (mayWithin_ite mayWithin_none (set _ _ _)) (mayWithin_ite (within_ringEnable d a _) (mayWithin_others hx (by decide) (by decide) ?_))
  refine mayWithin_other hx (by decide) (mayWithin_ite (mayWithin_ite (mayWithin_some (within_testHold ..)) mayWithin_none) ?_)
  refine mayWithin_ite (mayWithin_ite (set _ _ _) mayWithin_none) (mayWithin_ite (within_setAtWrite d v) (mayWithin_others hx (by decide) (by decide) ?_))
  refine mayWithin_other hx (by decide) (mayWithin_other hx (by decide) (mayWithin_others hx (by decide) (by decide) ?_))
  exact mayWithin_other hx (by decide) (set _ _ _)

theorem within_fieldWrite {x : Fld} (hx : x.written = true) (a b c v : Nat) : registerMask.Within d (d.fieldWrite x a b c v).1 := by
  unfold Dev.fieldWrite
  split
  next => exact .refl d
  next h => exact absurd h (code_of_written hx a)
  next => exact within_woWrite d hx a v
  next =>
    dsimp only
    generalize (if x = F.xQ_CTRL.IRQ_EN ∧ a < 16 then 0 else storedAs x v) = u
    split
    · exact within_forceAccess ..
    split
    · exact .refl d
    split
    · exact .refl d
    split
    next e he => exact within_rwWrite d hx a b c u e he
    next => exact .refl d

/-! What a write does to a register -/

theorem within_regApply {base : Nat} (lo n v : Nat) (hb : ∀ x ∈ fieldsIn base lo n, x.1.written = true) :
    registerMask.Within d (d.regApply base lo n v).1 := by
  unfold Dev.regApply
  refine List.foldlRecOn (motive := fun r : Dev × Bool × Bool => registerMask.Within d r.1) _ _ (.refl d) fun r hr x hx => ?_
  exact hr.trans (within_fieldWrite r.1 (hb x hx) ..)

theorem within_regWrite {f base : Nat} {wide : Bool} {lo n : Nat} (aux v : Nat) (hb : ∀ x ∈ fieldsIn base lo n, x.1.written = true) :
    registerMask.Within d (d.regWrite f base wide lo n aux v).1 := by
  unfold Dev.regWrite
  extract_lets old want
  have applied := within_regApply d lo n v hb
  generalize d.regApply base lo n v = r at applied ⊢
  obtain ⟨t, ch, rf⟩ := r
  dsimp only
  split
  · refine .trans (within_pic (pic_log ..)) (.trans (within_regApply _ lo n v hb) (within_ite (within_pic (regPic_attempt ..)) (.refl _)))
  · exact applied.trans (within_pic (regPic_attempt ..))

end

/-! Which fields a word holds -/

/-- The extent of a field's elements from its base. -/
def Fld.span (f : Fld) : Nat := if f.n1 ≠ 1 then f.n1 * f.s1 else if f.n2 ≠ 1 then f.n2 * f.s2 else if f.n3 ≠ 1 then f.n3 * f.s3 else 8

/-- A word at `off` holds none of the field, or the field is one of those these writes address, and the word is its low one. -/
def Fld.fits (f : Fld) (off : Nat) : Bool := (f.at? off).all (fun x => f.written && !x.2.2.2)

/-- The same of `n` words from `base` on, `stride` apart. -/
def Fld.fitsAll (f : Fld) (base stride n : Nat) : Bool :=
  decide (base + stride * n < f.base + stride) || decide (f.base + f.span ≤ base)
    || (n == 1 && f.fits base) || (f.n1 != 1 && f.s1 == stride && f.fits (f.base + (((base : Int) - f.base) % stride).toNat))

/-- Elements of an array lie apart. -/
def Fld.strided (f : Fld) : Bool := (f.n1 == 1 || f.s1 != 0) && (f.n2 == 1 || f.s2 != 0) && (f.n3 == 1 || f.s3 != 0)

theorem at?_range {f : Fld} {off : Nat} {x : Nat × Nat × Nat × Bool} (hf : f.strided = true) (h : f.at? off = some x) :
    f.base ≤ off ∧ off < f.base + f.span := by
  simp only [Fld.strided, Bool.and_eq_true, Bool.or_eq_true, beq_iff_eq, bne_iff_ne] at hf
  obtain ⟨⟨s1, s2⟩, s3⟩ := hf
  unfold Fld.at? at h
  split at h
  next => exact nomatch h
  next hb =>
    extract_lets r a r2 b r3 c r4 at h
    split at h
    next hlt =>
      obtain ⟨ha, hb2, hc⟩ := hlt
      have inside : r < f.span := by
        unfold Fld.span
        by_cases h1 : f.n1 = 1
        · by_cases h2 : f.n2 = 1
          · by_cases h3 : f.n3 = 1
            · simp only [h1, h2, h3, r4, r3, r2, ne_eq, not_true_eq_false, if_true, if_false] at h ⊢
              split at h
              · omega
              · split at h
                · omega
                · exact nomatch h
            · simp only [h1, h2, h3, c, r3, r2, ne_eq, not_true_eq_false, not_false_eq_true, if_true, if_false] at hc ⊢
              exact (Nat.div_lt_iff_lt_mul (by omega)).mp hc
          · simp only [h1, h2, b, r2, ne_eq, not_true_eq_false, not_false_eq_true, if_true, if_false] at hb2 ⊢
            exact (Nat.div_lt_iff_lt_mul (by omega)).mp hb2
        · simp only [h1, a, ne_eq, not_false_eq_true, if_true, if_false] at ha ⊢
          exact (Nat.div_lt_iff_lt_mul (by omega)).mp ha
      omega
    next => exact nomatch h

/-- In an array, what of an element a word holds is what the word at the same place of element 0 holds. -/
theorem at?_residue {f : Fld} {off : Nat} {x : Nat × Nat × Nat × Bool} (hn : f.n1 ≠ 1) (h : f.at? off = some x) :
    f.at? (f.base + (off - f.base) % f.s1) = some (0, x.2) := by
  by_cases hb : off < f.base
  · rw [Fld.at?, if_pos hb] at h
    exact nomatch h
  unfold Fld.at? at h ⊢
  simp only [hn, hb, if_false, Nat.not_lt_of_le (Nat.le_add_right _ _), Nat.add_sub_cancel_left, Nat.mod_mod] at h ⊢
  have first : (off - f.base) % f.s1 / f.s1 = 0 := by
    rcases Nat.eq_zero_or_pos f.s1 with h0 | h0
    · simp [h0]
    · exact Nat.div_eq_of_lt (Nat.mod_lt _ h0)
  rw [first]
  generalize (off - f.base) % f.s1 = r at h ⊢
  generalize (off - f.base) / f.s1 = a at h
  generalize (if f.n2 = 1 then 0 else r / f.s2) = b at h ⊢
  generalize (if f.n2 = 1 then r else r % f.s2) = r at h ⊢
  generalize (if f.n3 = 1 then 0 else r / f.s3) = c at h ⊢
  generalize (if f.n3 = 1 then r else r % f.s3) = r at h ⊢
  obtain ⟨⟨ha, hbc⟩, h⟩ := Option.ite_none_right_eq_some.mp h
  rw [if_pos ⟨by omega, hbc⟩]
  split at h
  next h0 => cases h; rw [if_pos h0]
  next h0 =>
    obtain ⟨h4, h⟩ := Option.ite_none_right_eq_some.mp h
    cases h
    rw [if_neg h0, if_pos h4]

theorem fits_of_fitsAll {f : Fld} (hf : f.strided = true) {base stride n k : Nat} (hk : k < n) (h : f.fitsAll base stride n = true) :
    f.fits (base + stride * k) = true := by
  unfold Fld.fits
  rcases hx : f.at? (base + stride * k) with _ | x
  · rfl
  obtain ⟨low, high⟩ := at?_range hf hx
  have last : stride * k + stride ≤ stride * n := by
    calc stride * k + stride = stride * (k + 1) := by ring
      _ ≤ stride * n := Nat.mul_le_mul_left _ hk
  simp only [Fld.fitsAll, Bool.or_eq_true, decide_eq_true_eq, Bool.and_eq_true, beq_iff_eq, bne_iff_ne] at h
  obtain ((h | h) | ⟨rfl, h⟩) | ⟨⟨hn, hs⟩, h⟩ := h
  · omega
  · omega
  · obtain rfl : k = 0 := by omega
    rw [Nat.mul_zero, Nat.add_zero] at hx
    rwa [Fld.fits, hx] at h
  · have place : (((base : Int) - f.base) % stride).toNat = (base + stride * k - f.base) % stride := by
      have cast : (((base + stride * k - f.base : Nat) : Int)) = base - f.base + stride * k := by
        rw [Nat.cast_sub low]; push_cast; ring
      rw [← Int.toNat_natCast ((base + stride * k - f.base) % stride), Int.natCast_mod, cast, Int.add_mul_emod_self_left]
    rw [place, ← hs] at h
    rw [← hs] at hx
    rw [Fld.fits, at?_residue hn hx] at h
    exact h

/-- The words these writes address: base, stride and number. -/
def writtenWords : List (Nat × Nat × Nat) :=
  [(F.PLLS_HOP.FREQ.base, F.PLLS_HOP.FREQ.s1, 16), (F.PLLS_SEL.ENTRY.base, 0, 1), (F.PLLS_PSTEP.STEPS.base, 0, 1), (F.LOAN_CHIP.BUDGET.base, 0, 1),
   (F.LOAN_SITE.BUDGET.base, 0, 1), (F.REG_FORCE.FORCE.base, F.REG_FORCE.FORCE.s1, 8), (F.CHR_SNAP.TAKE.base, 0, 1),
   (F.LANE_SLIP.SLIP.base, F.LANE_SLIP.SLIP.s1, 96), (F.LANE_CTRL.TEST_HOLD.base, F.LANE_CTRL.TEST_HOLD.s1, 96),
   (F.PW_FORCE.FORCE.base, F.PW_FORCE.FORCE.s1, 32), (F.xQ_CTRL.EN.base, F.xQ_CTRL.EN.s1, 44), (F.CHR_SET_AT.TICK.base, 0, 1)]

theorem fits_writtenWords : allFields.all (fun f => f.strided && writtenWords.all (fun w => f.fitsAll w.1 w.2.1 w.2.2)) = true := by decide +kernel

theorem written_of_fits {off : Nat} (h : allFields.all (·.fits off) = true) {x : Fld × Nat × Nat × Nat × Bool} (hx : x ∈ fieldsAt off) :
    x.1.written = true ∧ x.2.2.2.2 = false := by
  obtain ⟨f, hf, hm⟩ := List.mem_filterMap.mp hx
  obtain ⟨y, hy, rfl⟩ := Option.map_eq_some_iff.mp hm
  have fits : f.fits off = true := List.all_eq_true.mp h f hf
  rw [Fld.fits, hy] at fits
  simpa using fits

theorem fits_word {base stride n : Nat} (hw : (base, stride, n) ∈ writtenWords) {k : Nat} (hk : k < n) :
    allFields.all (·.fits (base + stride * k)) = true := by
  refine List.all_eq_true.mpr fun f hf => ?_
  obtain ⟨strided, all⟩ := Bool.and_eq_true .. ▸ List.all_eq_true.mp fits_writtenWords f hf
  exact fits_of_fitsAll strided hk (List.all_eq_true.mp all _ hw)

/-! What a write to BAR0 does -/

section
variable (d : Dev)

theorem pic_refuseWrite (f off n v : Nat) : (d.refuseWrite f off n v).pic registerMask = d.pic registerMask := by
  unfold Dev.refuseWrite
  extract_lets w
  split <;> exact regPic_attempt ..

theorem pic_holdLow {m : Mask} (f base : Nat) (v : Option Nat) : (d.holdLow f base v).pic m = d.pic m := rfl

theorem written_of_fieldsIn {base : Nat} (h : allFields.all (·.fits base) = true) {lo n : Nat} : ∀ x ∈ fieldsIn base lo n, x.1.written = true := by
  intro x hx
  obtain ⟨y, hy, rfl⟩ := List.mem_map.mp hx
  exact (written_of_fits h (List.mem_of_mem_filter hy)).1

theorem within_wordWrite (f : Nat) {off : Nat} (v : Nat) (h : allFields.all (·.fits off) = true) : registerMask.Within d (d.wordWrite f off v).1 := by
  unfold Dev.wordWrite
  extract_lets u
  split
  · exact within_pic (pic_refuseWrite ..)
  split
  · exact within_pic (regPic_attempt ..)
  next x l hl =>
    have low : x.2.2.2.2 = false := (written_of_fits h (hl ▸ List.mem_cons_self)).2
    simp only [low, Bool.false_eq_true, if_false]
    have written (a v : Nat) (wide : Bool) : registerMask.Within d (d.regWrite f off wide 0 32 a v).1 :=
      within_regWrite d a v (written_of_fieldsIn h)
    split
    · exact written ..
    split
    · exact within_pic (pic_holdLow ..)
    · exact written ..

theorem within_hostWrite {w : RegWrite} (h : registerMask.Within d (d.bar0Write w).1) : registerMask.Within d (d.hostWrite w) := by
  unfold Dev.hostWrite
  generalize d.bar0Write w = r at h ⊢
  obtain ⟨t, ch⟩ := r
  exact within_ite (.refl d) (within_ite (within_pic (pic_emit ..)) (within_ite (within_ite (within_pic (pic_withProv ..)) h) h))

/-- A 4-byte write to a word of the list. -/
theorem within_wordAt {f : Fin 2} {base stride n k : Nat} (hw : (base, stride, n) ∈ writtenWords) (hk : k < n) (ha : base % 4 = 0 ∧ stride % 4 = 0)
    (v : Nat) : registerMask.Within d (d.hostWrite (wordAt f (base + stride * k) v)) := by
  refine within_hostWrite d ?_
  unfold Dev.bar0Write
  have aligned : (base + stride * k) % 4 = 0 := by
    rw [Nat.add_mod, Nat.mul_mod, ha.1, ha.2]; simp
  split
  · exact .trans (within_pic (pic_emit ..)) (within_pic (pic_refuseWrite ..))
  split
  next h => exact absurd h (by simp [wordAt, aligned])
  · exact within_wordWrite d _ v (fits_word hw hk)

theorem barred_setAt : d.barred (F.CHR_SET_AT.TICK.base + 4) = d.barred F.CHR_SET_AT.TICK.base := by
  have low : isUsed F.CHR_SET_AT.TICK.base = true := by decide +kernel
  have high : isUsed (F.CHR_SET_AT.TICK.base + 4) = true := by decide +kernel
  rw [Dev.barred, Dev.barred, low, high]
  rfl

theorem within_setAt {f : Fin 2} (v : Nat) : registerMask.Within d (d.hostWrite ⟨f, .bar0, F.CHR_SET_AT.TICK.base, 8, v⟩) := by
  have fits : allFields.all (·.fits F.CHR_SET_AT.TICK.base) = true := fits_word (n := 1) (k := 0) (stride := 0) (by decide) (by decide)
  have field : fieldsAt F.CHR_SET_AT.TICK.base = [(F.CHR_SET_AT.TICK, 0, 0, 0, false)] := by decide +kernel
  refine within_hostWrite d ?_
  unfold Dev.bar0Write
  split
  · exact .trans (within_pic (pic_emit ..)) (within_pic (pic_refuseWrite ..))
  rw [if_neg (by dsimp only; decide), if_neg (by dsimp only; decide), Dev.quadWrite, field, barred_setAt]
  have wide : F.CHR_SET_AT.TICK.wide = true := rfl
  cases d.barred F.CHR_SET_AT.TICK.base
  · simp only [wide, Bool.not_false, Bool.and_self, and_self, if_true, Bool.false_eq_true, if_false]
    exact within_regWrite d _ _ (written_of_fieldsIn fits)
  · simp only [and_self, if_true]
    exact within_pic (pic_refuseWrite ..)

end

/-! The commands -/

theorem within_register {c : Instr} {s t : State} (hc : isRegister c = true) (h : exec c s = .next t) :
    t.dev.calm.view registerMask = s.dev.calm.view registerMask ∧ SlotsKept s.dev t.dev := by
  unfold exec at h
  cases c
  all_goals dsimp only at h
  case pllsHopFreqWrite f k v => exact Within.next h fun d => within_wordAt d (n := 16) (by decide) k.isLt (by decide) v
  case pllsSelWrite f v => exact Within.next h fun d => within_wordAt d (n := 1) (k := 0) (stride := 0) (by decide) (by decide) (by decide) v
  case pllsPstepWrite f v => exact Within.next h fun d => within_wordAt d (n := 1) (k := 0) (stride := 0) (by decide) (by decide) (by decide) v
  case loanChipBudgetWrite f v => exact Within.next h fun d => within_wordAt d (n := 1) (k := 0) (stride := 0) (by decide) (by decide) (by decide) v
  case loanSiteBudgetWrite f v => exact Within.next h fun d => within_wordAt d (n := 1) (k := 0) (stride := 0) (by decide) (by decide) (by decide) v
  case regForceWrite f w v => exact Within.next h fun d => within_wordAt d (n := 8) (by decide) w.isLt (by decide) v
  case chrSnapTake f v => exact Within.next h fun d => within_wordAt d (n := 1) (k := 0) (stride := 0) (by decide) (by decide) (by decide) v
  case chrSetAtWrite f v => exact Within.next h fun d => within_setAt d v
  case laneSlipWrite f k v => exact Within.next h fun d => within_wordAt d (n := 96) (by decide) k.isLt (by decide) v
  case laneTestHoldWrite f k v => exact Within.next h fun d => within_wordAt d (n := 96) (by decide) k.isLt (by decide) v
  case pwForceWrite f c v => exact Within.next h fun d => within_wordAt d (n := 32) (by decide) c.isLt (by decide) v
  case ringCtrlWrite f r v => exact Within.next h fun d => within_wordAt d (n := 44) (by decide) r.isLt (by decide) v
  all_goals exact absurd hc Bool.false_ne_true

/-- Settles O60: a write of one of these registers stays within its own registers and what the field's rule reaches. -/
theorem registerFrame : Obligations.RegisterFrame := by
  intro c s t hc h
  obtain ⟨v, slots⟩ := within_register hc h
  exact ⟨kept_of_view (m := registerMask) v, slots, bank2_of_view v (by decide), phases_of_view v (by decide), enc_of_view v (by decide),
    metCh_of_view v (by decide), metEl_of_view v (by decide), met_of_view v (by decide), ports_of_view v (by decide), hk_of_view v (by decide),
    keys_of_view v (by decide), fw_of_view v (by decide)⟩

end Sys2Proof.Machine
end

section
/-! SUPPORT. Reading what was written, and what the end of a step leaves of the parts that keep more than registers. -/

namespace Sys2Proof.Machine

set_option Elab.async false

/-! One write and one reading, for `simp +decide`: the fields' arrays and places are compared by evaluation. -/

@[simp] theorem Dev.get_set_here (d : Dev) (f : Fld) (v : Nat) {a b c : Nat} (ha : a < f.n1) (hb : b < f.n2) (hc : c < f.n3) :
    (d.set f v a b c).get f a b c = v % 2 ^ f.w := Dev.get_set_same d f v ⟨ha, hb, hc⟩

@[simp] theorem Dev.get_set_there (d : Dev) {f g : Fld} (h : g.apart f = true) (v : Nat) {a b c a' b' c' : Nat}
    (ha : a' < g.n1) (hb : b' < g.n2) (hc : c' < g.n3) : (d.set f v a b c).get g a' b' c' = d.get g a' b' c' :=
  Dev.get_set_apart d h v ha hb hc

/-- A flag written reads back; `setB` is brought to this form by its definition. -/
@[simp] theorem Dev.bit_set_b2n (d : Dev) {f : Fld} (hw : 0 < f.w) (v : Bool) {a b c : Nat} (ha : a < f.n1) (hb : b < f.n2) (hc : c < f.n3) :
    (d.set f (b2n v) a b c).bit f a b c = v := by
  have one : 1 < 2 ^ f.w := Nat.one_lt_two_pow (by omega)
  rw [Dev.bit, Dev.get_set_same _ _ _ ⟨ha, hb, hc⟩]
  cases v
  · simp [b2n]
  · simp [b2n, Nat.mod_eq_of_lt one]

theorem Dev.bit_setB_same (d : Dev) {f : Fld} (hw : 0 < f.w) (v : Bool) {a b c : Nat} (ha : a < f.n1) (hb : b < f.n2) (hc : c < f.n3) :
    (d.setB f v a b c).bit f a b c = v := Dev.bit_set_b2n d hw v ha hb hc

theorem Dev.bit_of_get {d e : Dev} {f : Fld} {a b c : Nat} (h : e.get f a b c = d.get f a b c) : e.bit f a b c = d.bit f a b c := by
  rw [Dev.bit, Dev.bit, h]

@[simp] theorem Dev.bit_set_apart (d : Dev) {f g : Fld} (h : g.apart f = true) (v : Nat) {a b c a' b' c' : Nat}
    (ha : a' < g.n1) (hb : b' < g.n2) (hc : c' < g.n3) : (d.set f v a b c).bit g a' b' c' = d.bit g a' b' c' :=
  Dev.bit_of_get (Dev.get_set_apart d h v ha hb hc)

theorem Dev.get_setB_apart (d : Dev) {f g : Fld} (h : g.apart f = true) (v : Bool) {a b c a' b' c' : Nat}
    (ha : a' < g.n1) (hb : b' < g.n2) (hc : c' < g.n3) : (d.setB f v a b c).get g a' b' c' = d.get g a' b' c' :=
  Dev.get_set_apart d h _ ha hb hc

theorem Dev.bit_setB_apart (d : Dev) {f g : Fld} (h : g.apart f = true) (v : Bool) {a b c a' b' c' : Nat}
    (ha : a' < g.n1) (hb : b' < g.n2) (hc : c' < g.n3) : (d.setB f v a b c).bit g a' b' c' = d.bit g a' b' c' :=
  Dev.bit_of_get (Dev.get_set_apart d h _ ha hb hc)

theorem Dev.get_inc_same (d : Dev) (f : Fld) (n : Nat) {a b c : Nat} (ha : a < f.n1) (hb : b < f.n2) (hc : c < f.n3) :
    (d.inc f n a b c).get f a b c = (d.get f a b c + n) % 2 ^ f.w := Dev.get_set_same _ _ _ ⟨ha, hb, hc⟩

theorem Dev.get_inc_apart (d : Dev) {f g : Fld} (h : g.apart f = true) (n : Nat) {a b c a' b' c' : Nat}
    (ha : a' < g.n1) (hb : b' < g.n2) (hc : c' < g.n3) : (d.inc f n a b c).get g a' b' c' = d.get g a' b' c' :=
  Dev.get_set_apart d h _ ha hb hc

/-! One bit of a field -/

theorem putBits_one (x i : Nat) (v : Bool) : putBits x i 1 (b2n v) = (x / 2 ^ i - x / 2 ^ i % 2 + b2n v) * 2 ^ i + x % 2 ^ i := by
  have small : b2n v % 2 ^ 1 = b2n v := by cases v <;> rfl
  rw [putBits, bitsAt, small, Nat.shiftLeft_eq, Nat.shiftLeft_eq, Nat.shiftRight_eq_div_pow, pow_one, Nat.add_mul, Nat.sub_mul]
  have whole := Nat.div_add_mod' x (2 ^ i)
  have part : x / 2 ^ i % 2 * 2 ^ i ≤ x / 2 ^ i * 2 ^ i := Nat.mul_le_mul_right _ (Nat.mod_le ..)
  omega

theorem putBits_testBit_same (x i : Nat) (v : Bool) : (putBits x i 1 (b2n v)).testBit i = v := by
  have div : putBits x i 1 (b2n v) / 2 ^ i = x / 2 ^ i - x / 2 ^ i % 2 + b2n v := by
    rw [putBits_one, Nat.add_comm, Nat.add_mul_div_right _ _ (Nat.two_pow_pos i), Nat.div_eq_of_lt (Nat.mod_lt _ (Nat.two_pow_pos i)), Nat.zero_add]
  rw [Nat.testBit_eq_decide_div_mod_eq, div]
  cases v <;> simp [b2n] <;> omega

theorem Dev.flag_setFlag_same (d : Dev) {f : Fld} {i : Nat} (hf : 0 < f.n1 ∧ 0 < f.n2 ∧ 0 < f.n3) (hi : i < f.w) (v : Bool) :
    (d.setFlag f i v).flag f i = v := by
  rw [Dev.flag, Dev.setFlag, Dev.get_set_same _ _ _ hf, Nat.testBit_mod_two_pow, putBits_testBit_same]
  simp [hi]

/-! The end of a step -/

theorem settle_bit (d : Dev) {f : Fld} (h : f.calm = true) {a b c : Nat} (ha : a < f.n1 := by decide) (hb : b < f.n2 := by decide)
    (hc : c < f.n3 := by decide) : d.settle.bit f a b c = d.bit f a b c := Dev.bit_of_get (settle_get d h ha hb hc)

section
variable {d e : Dev} (h : e.calm = d.calm)
include h

theorem get_of_calm {f : Fld} (hf : f.calm = true) {a b c : Nat} (ha : a < f.n1 := by decide) (hb : b < f.n2 := by decide) (hc : c < f.n3 := by decide) :
    e.get f a b c = d.get f a b c := calm_get h f (Fld.calm_key hf ha hb hc)

theorem bit_of_calm {f : Fld} (hf : f.calm = true) {a b c : Nat} (ha : a < f.n1 := by decide) (hb : b < f.n2 := by decide) (hc : c < f.n3 := by decide) :
    e.bit f a b c = d.bit f a b c := Dev.bit_of_get (get_of_calm h hf ha hb hc)

theorem pwr_of_calm : e.pwr.still = d.pwr.still := congrArg Calm.pwr h
theorem clk_of_calm : e.clk.still = d.clk.still := congrArg Calm.clk h
theorem mram_of_calm : e.mram.still = d.mram.still := congrArg Calm.mram h
theorem prov_of_calm : e.prov.still = d.prov.still := congrArg Calm.prov h
theorem saf_of_calm : e.saf.still = d.saf.still := congrArg Calm.saf h
theorem col_of_calm : e.col.still = d.col.still := congrArg Calm.col h
theorem arr_of_calm : e.arr.still = d.arr.still := congrArg Calm.arr h
theorem os_of_calm : e.os.still = d.os.still := congrArg Calm.os h
theorem rings_of_calm : e.rings.still = d.rings.still := congrArg Calm.rings h

end

/-! Passing time -/

/-- Passing time moves nothing of the Reserve domain's state but its prescaler. -/
theorem elapse_pwr (d : Dev) (n : Nat) : ∃ r, (d.elapse n).pwr = { d.pwr with rsvAcc := r } := by
  simp only [Dev.elapse]
  split <;> split
  · exact ⟨_, by rw [Dev.inc, Dev.set_pwr]⟩
  · exact ⟨_, by rw [Dev.inc, Dev.set_pwr]⟩
  · exact ⟨d.pwr.rsvAcc, rfl⟩
  · exact ⟨d.pwr.rsvAcc, rfl⟩

theorem elapse_bit (d : Dev) (n : Nat) {g : Fld} (h : g.apart F.RSV_TIME.COUNT = true) {a b c : Nat} (ha : a < g.n1) (hb : b < g.n2) (hc : c < g.n3) :
    (d.elapse n).bit g a b c = d.bit g a b c := Dev.bit_of_get (elapse_get d n h ha hb hc)

end Sys2Proof.Machine
end

section
/-! SUPPORT. The wake sources (R54, R56, R57). -/

namespace Sys2Proof.Machine

set_option Elab.async false

theorem exec_wakePin (x : WakeLevel) (s : State) : exec (.wakePin x) s = execWakePin x s := rfl
theorem exec_catpWake (s : State) : exec .catpWake s = execCatpWake s := rfl
theorem exec_safetyInputWake (n : Fin 8) (s : State) : exec (.safetyInputWake n) s = execSafetyInputWake n s := rfl
theorem exec_canWake (x : CanLevel) (s : State) : exec (.canWake x) s = execCanWake x s := rfl
theorem exec_alarm (s : State) : exec .alarm s = execAlarm s := rfl
theorem exec_xkeepRcSwitch (s : State) : exec .xkeepRcSwitch s = execXkeepRcSwitch s := rfl
theorem exec_xkeepRetry (good : Nat) (s : State) : exec (.xkeepRetry good) s = execXkeepRetry good s := rfl

/-! What the shared steps show -/

theorem wake_shows (d : Dev) {en cause : Fld} (hf : 0 < cause.w ∧ 0 < cause.n1 ∧ 0 < cause.n2 ∧ 0 < cause.n3) {cycles filt : Nat}
    (he : d.bit en = true) (hc : max 1 filt ≤ cycles) : (d.wake en cause cycles filt).bit cause = true := by
  rw [Dev.wake, if_pos ⟨he, hc⟩]
  exact Dev.bit_setB_same d hf.1 _ hf.2.1 hf.2.2.1 hf.2.2.2

theorem wake_bit (d : Dev) {en cause g : Fld} (h : g.apart cause = true) (hg : 0 < g.n1 ∧ 0 < g.n2 ∧ 0 < g.n3) (cycles filt : Nat) :
    (d.wake en cause cycles filt).bit g = d.bit g := by
  rw [Dev.wake]
  split
  · exact Dev.bit_setB_apart d h _ hg.1 hg.2.1 hg.2.2
  · rfl

/-- The level of CATP is shown, and an enabled presence that lasts for the filter latches its cause. -/
theorem catp_shows (d : Dev) (present : Bool) (cycles : Nat) :
    (d.catp present cycles).bit F.RSV_CATP.LEVEL = present
      ∧ (present = true → d.bit F.RSV_WAKE_EN.CATP = true → max 1 (d.get F.RSV_WAKE_FILT.CATP_FILT) ≤ cycles →
        (d.catp present cycles).bit F.RSV_WAKE_CAUSE.CATP = true) := by
  unfold Dev.catp
  extract_lets d1
  have level : d1.bit F.RSV_CATP.LEVEL = present := by simp +decide [d1, Dev.setB]
  constructor
  · split
    · exact (wake_bit d1 (by decide) (by decide) ..).trans level
    · exact level
  · intro hp he hc
    rw [if_pos hp]
    exact wake_shows d1 (by decide) (by simpa +decide [d1, Dev.setB] using he) (by simpa +decide [d1, Dev.setB] using hc)

theorem vinBack_shows (d : Dev) :
    d.vinBack.bit F.RSV_STATUS.VIN_OK = true ∧ d.vinBack.bit F.RSV_VWARN.BELOW = false ∧ d.vinBack.pwr.vinFell = false ∧ d.vinBack.pwr.vinOk = true
      ∧ (d.pwr.vinFell = true → d.vinBack.bit F.RSV_WAKE_CAUSE.VIN = true) := by
  unfold Dev.vinBack
  extract_lets pwr x
  have shown : x.bit F.RSV_STATUS.VIN_OK = true ∧ x.bit F.RSV_VWARN.BELOW = false ∧ x.pwr.vinFell = false ∧ x.pwr.vinOk = true := by
    simp +decide [x, Dev.setB]
  obtain ⟨ok, low, fell, vin⟩ := shown
  split
  next => exact ⟨by simp +decide [Dev.setB, ok], by simp +decide [Dev.setB, low], by simp [Dev.setB, fell], by simp [Dev.setB, vin], fun _ => by simp +decide [Dev.setB]⟩
  next h => exact ⟨ok, low, fell, vin, fun hf => absurd hf h⟩

theorem toCount_bit (d : Dev) (n : Nat) {g : Fld} (h : g.apart F.RSV_TIME.COUNT = true) (hg : 0 < g.n1 ∧ 0 < g.n2 ∧ 0 < g.n3) :
    (d.toCount n).bit g = d.bit g := by
  unfold Dev.toCount
  extract_lets m
  split
  · rfl
  · exact elapse_bit d _ h hg.1 hg.2.1 hg.2.2

theorem toCount_xkeepAt (d : Dev) (n : Nat) : (d.toCount n).pwr.xkeepAt = d.pwr.xkeepAt := by
  unfold Dev.toCount
  extract_lets m
  split
  · rfl
  · obtain ⟨r, h⟩ := elapse_pwr d (((n - m) * 100000000 - d.pwr.rsvAcc + 32767) / 32768)
    rw [h]

/-! The commands -/

theorem wakePin0_latches (s : State) (cycles : Nat) (hr : s.dev.pwr.reserveOn = true) (he : s.dev.bit F.RSV_WAKE_EN.WAKE0 = true)
    (hf : max 1 (s.dev.get F.RSV_WAKE_FILT.WAKE_FILT) ≤ cycles) :
    After (.wakePin ⟨.wake0, true, cycles⟩) s fun d => d.bit F.RSV_WAKE_CAUSE.WAKE0 = true := by
  refine after_reserve ((exec_wakePin ..).trans (by rw [execWakePin])) hr ?_
  rw [settle_bit _ (by decide)]
  exact wake_shows _ (by decide) he hf

theorem wakePin1_latches (s : State) (cycles : Nat) (hr : s.dev.pwr.reserveOn = true) (he : s.dev.bit F.RSV_WAKE_EN.WAKE1 = true)
    (hf : max 1 (s.dev.get F.RSV_WAKE_FILT.WAKE_FILT) ≤ cycles) :
    After (.wakePin ⟨.wake1, true, cycles⟩) s fun d => d.bit F.RSV_WAKE_CAUSE.WAKE1 = true := by
  refine after_reserve ((exec_wakePin ..).trans (by rw [execWakePin])) hr ?_
  rw [settle_bit _ (by decide)]
  exact wake_shows _ (by decide) he hf

theorem wakePin_vinGood (s : State) (cycles : Nat) (hr : s.dev.pwr.reserveOn = true) (hc : 328 ≤ cycles) :
    After (.wakePin ⟨.vinGood, true, cycles⟩) s fun d => d.bit F.RSV_STATUS.VIN_OK = true ∧ d.pwr.vinFell = false
      ∧ (s.dev.pwr.vinFell = true → d.bit F.RSV_WAKE_CAUSE.VIN = true) := by
  refine after_reserve ((exec_wakePin ..).trans (by rw [execWakePin])) hr ?_
  have back : (if (!true) = true then s.dev.setB F.RSV_STATUS.VIN_OK false else if 328 ≤ cycles then s.dev.vinBack else s.dev) = s.dev.vinBack := by
    simp [hc]
  obtain ⟨ok, -, fell, -, cause⟩ := vinBack_shows s.dev
  simp only [back]
  rw [settle_bit _ (by decide), settle_bit _ (by decide)]
  exact ⟨ok, (congrArg Pwr.vinFell (pwr_of_calm (calm_settle _))).trans fell, cause⟩

theorem wakePin_catp (s : State) (present : Bool) (cycles : Nat) (hr : s.dev.pwr.reserveOn = true) :
    After (.wakePin ⟨.catp, present, cycles⟩) s fun d => d.bit F.RSV_CATP.LEVEL = present
      ∧ (present = true → s.dev.bit F.RSV_WAKE_EN.CATP = true → max 1 (s.dev.get F.RSV_WAKE_FILT.CATP_FILT) ≤ cycles →
        d.bit F.RSV_WAKE_CAUSE.CATP = true) := by
  refine after_reserve ((exec_wakePin ..).trans (by rw [execWakePin])) hr ?_
  rw [settle_bit _ (by decide), settle_bit _ (by decide)]
  exact catp_shows ..

theorem catpWake_shows (s : State) (hr : s.dev.pwr.reserveOn = true) :
    After .catpWake s fun d => d.bit F.RSV_CATP.LEVEL = true ∧ (s.dev.bit F.RSV_WAKE_EN.CATP = true → d.bit F.RSV_WAKE_CAUSE.CATP = true) := by
  refine after_reserve ((exec_catpWake _).trans (by rw [execCatpWake])) hr ?_
  rw [settle_bit _ (by decide), settle_bit _ (by decide)]
  obtain ⟨level, cause⟩ := catp_shows s.dev true (max 1 (s.dev.get F.RSV_WAKE_FILT.CATP_FILT))
  exact ⟨level, fun he => cause rfl he (le_refl _)⟩

theorem safetyInputWake_latches (s : State) (n : Fin 8) (hr : s.dev.pwr.reserveOn = true) (he : s.dev.flag F.RSV_WAKE_EN.SI n = true) :
    After (.safetyInputWake n) s fun d => d.flag F.RSV_WAKE_CAUSE.SI n = true := by
  refine after_reserve ((exec_safetyInputWake ..).trans (by rw [execSafetyInputWake])) hr ?_
  rw [if_pos he, Dev.flag, settle_get _ (by decide)]
  exact Dev.flag_setFlag_same s.dev (by decide) n.isLt true

theorem canWake0_latches (s : State) (cycles : Nat) (hr : s.dev.pwr.reserveOn = true) (hb : s.dev.pwr.canStb.getD 0 false = true)
    (he : s.dev.bit F.RSV_WAKE_EN.CAN0 = true) (hf : max 1 (s.dev.get F.RSV_WAKE_FILT.CAN_FILT) ≤ cycles) :
    After (.canWake ⟨0, true, cycles⟩) s fun d => d.bit F.RSV_WAKE_CAUSE.CAN0 = true := by
  refine after_reserve ((exec_canWake ..).trans (by rw [execCanWake])) hr ?_
  rw [settle_bit _ (by decide), if_neg (by simpa using hb), if_pos rfl]
  exact wake_shows _ (by decide) he hf

theorem canWake1_latches (s : State) (cycles : Nat) (hr : s.dev.pwr.reserveOn = true) (hb : s.dev.pwr.canStb.getD 1 false = true)
    (he : s.dev.bit F.RSV_WAKE_EN.CAN1 = true) (hf : max 1 (s.dev.get F.RSV_WAKE_FILT.CAN_FILT) ≤ cycles) :
    After (.canWake ⟨1, true, cycles⟩) s fun d => d.bit F.RSV_WAKE_CAUSE.CAN1 = true := by
  refine after_reserve ((exec_canWake ..).trans (by rw [execCanWake])) hr ?_
  rw [settle_bit _ (by decide), if_neg (by simpa using hb), if_neg (show ¬ (1 : Fin 2) = 0 by decide)]
  exact wake_shows _ (by decide) he hf

theorem alarm_latches (s : State) (hr : s.dev.pwr.reserveOn = true) (he : s.dev.bit F.RSV_WAKE_EN.ALARM = true) (ha : s.dev.get F.RSV_ALARM.AT ≠ 0)
    (hn : s.dev.get F.RSV_TIME.COUNT ≤ s.dev.get F.RSV_ALARM.AT) : After .alarm s fun d => d.bit F.RSV_WAKE_CAUSE.ALARM = true := by
  refine after_reserve ((exec_alarm _).trans (by rw [execAlarm])) hr ?_
  have come : ¬ (s.dev.get F.RSV_ALARM.AT = 0 ∨ s.dev.get F.RSV_ALARM.AT < s.dev.get F.RSV_TIME.COUNT) := by omega
  rw [settle_bit _ (by decide)]
  simp only [if_neg come]
  exact wake_shows _ (by decide) ((toCount_bit _ _ (by decide) (by decide)).trans he) (le_refl _)

theorem xkeepRcSwitch_shows (s : State) (hr : s.dev.pwr.reserveOn = true) (hx : s.dev.bit F.RSV_STATUS.XKEEP_RC = false) :
    After .xkeepRcSwitch s fun d => d.bit F.RSV_STATUS.XKEEP_RC = true ∧ d.pwr.xkeepAt = s.dev.get F.RSV_TIME.COUNT + 32768
      ∧ (s.dev.live = false → d.pwr.xkeepEvent = true) := by
  refine after_reserve ((exec_xkeepRcSwitch _).trans (by rw [execXkeepRcSwitch])) hr ?_
  rw [if_neg (by simp [hx])]
  extract_lets d1 pwr d2
  have shown : d2.bit F.RSV_STATUS.XKEEP_RC = true := Dev.bit_setB_same s.dev (by decide) true (by decide) (by decide) (by decide)
  have due : d2.pwr.xkeepAt = s.dev.get F.RSV_TIME.COUNT + 32768 :=
    congrArg (· + 32768) (Dev.get_setB_apart s.dev (by decide) true (by decide) (by decide) (by decide))
  split
  next hl =>
    have calm : (d2.raise 4 1 0).settle.calm = d2.calm := (calm_settle _).trans (calm_raise ..)
    exact ⟨(bit_of_calm calm (by decide)).trans shown, (congrArg Pwr.xkeepAt (pwr_of_calm calm)).trans due,
      fun hd => absurd hl (by simpa [d2, d1, pwr, Dev.live, Dev.setB] using hd)⟩
  next =>
    exact ⟨(settle_bit _ (by decide)).trans shown, (congrArg Pwr.xkeepAt (pwr_of_calm (calm_settle _))).trans due,
      fun _ => congrArg Pwr.xkeepEvent (pwr_of_calm (calm_settle _))⟩

theorem xkeepRetry_shows (s : State) (good : Nat) (hr : s.dev.pwr.reserveOn = true) (hx : s.dev.bit F.RSV_STATUS.XKEEP_RC = true) :
    After (.xkeepRetry good) s fun d => d.bit F.RSV_STATUS.XKEEP_RC = decide (good < 1024)
      ∧ (good < 1024 → d.pwr.xkeepAt = s.dev.pwr.xkeepAt + 32768) := by
  refine after_reserve ((exec_xkeepRetry ..).trans (by rw [execXkeepRetry])) hr ?_
  simp only [hx, if_true]
  split
  next h =>
    refine ⟨?_, fun hg => absurd hg (by omega)⟩
    rw [settle_bit _ (by decide), Dev.bit_setB_same _ (by decide) false (by decide) (by decide) (by decide)]
    simp [h]
  next h =>
    refine ⟨?_, fun _ => ?_⟩
    · rw [settle_bit _ (by decide)]
      refine (toCount_bit s.dev _ (by decide) (by decide)).trans ?_
      simpa [hx] using h
    · refine (congrArg Pwr.xkeepAt (pwr_of_calm (calm_settle _))).trans ?_
      exact congrArg (· + 32768) (toCount_xkeepAt s.dev _)

/-- Settles O2: each source's filter and enable lead to its bit; the levels follow their pins. -/
theorem wakeCauses : Obligations.WakeCauses := by
  refine ⟨wakePin0_latches, fun s present cycles hr => ?_, fun s cycles hr => ?_, fun s cycles hr => ?_, wakePin_vinGood, wakePin1_latches,
    wakePin_catp, catpWake_shows, safetyInputWake_latches, canWake0_latches, canWake1_latches, alarm_latches, xkeepRcSwitch_shows, xkeepRetry_shows⟩
  all_goals
    refine after_reserve ((exec_wakePin ..).trans (by rw [execWakePin])) hr ?_
    rw [settle_bit _ (by decide)]
    exact Dev.bit_setB_same s.dev (by decide) _ (by decide) (by decide) (by decide)

end Sys2Proof.Machine
end

section
/-! SUPPORT. What a log entry and a completion leave alone (R131, R147), and a host command that is applied (R128 to R131). -/

namespace Sys2Proof.Machine

set_option Elab.async false

/-! Sight: the registers apart from some fields -/

/-- The registers of every field that is apart from those of a list. -/
def Dev.sight (d : Dev) (fs : List Fld) (f : Fld) (a b c : Nat) : Nat :=
  if fs.all f.apart && (decide (a < f.n1) && decide (b < f.n2) && decide (c < f.n3)) then d.get f a b c else 0

theorem get_of_sight {d e : Dev} {fs : List Fld} (h : e.sight fs = d.sight fs) {f : Fld} (hf : fs.all f.apart = true) {a b c : Nat}
    (ha : a < f.n1 := by decide) (hb : b < f.n2 := by decide) (hc : c < f.n3 := by decide) : e.get f a b c = d.get f a b c := by
  have at_f := congrFun (congrFun (congrFun (congrFun h f) a) b) c
  simpa only [Dev.sight, hf, ha, hb, hc, decide_true, Bool.and_self, if_true] using at_f

theorem bit_of_sight {d e : Dev} {fs : List Fld} (h : e.sight fs = d.sight fs) {f : Fld} (hf : fs.all f.apart = true) {a b c : Nat}
    (ha : a < f.n1 := by decide) (hb : b < f.n2 := by decide) (hc : c < f.n3 := by decide) : e.bit f a b c = d.bit f a b c :=
  Dev.bit_of_get (get_of_sight h hf ha hb hc)

theorem sight_of_regs {d e : Dev} (h : e.regs = d.regs) (fs : List Fld) : e.sight fs = d.sight fs := by
  funext f a b c
  rw [Dev.sight, Dev.sight, Dev.get, Dev.get, h]

section
variable {fs : List Fld} (d : Dev)

@[simp] theorem sight_set {f : Fld} (h : fs.contains f = true) (v a b c : Nat) : (d.set f v a b c).sight fs = d.sight fs := by
  funext g a' b' c'
  unfold Dev.sight
  split
  next hg =>
    simp only [Bool.and_eq_true, decide_eq_true_eq, List.all_eq_true] at hg
    obtain ⟨apart, ⟨ha, hb⟩, hc⟩ := hg
    exact Dev.get_set_apart d (apart f (List.contains_iff_mem.mp h)) v ha hb hc
  next => rfl

@[simp] theorem sight_setB {f : Fld} (h : fs.contains f = true) (v : Bool) (a b c : Nat) : (d.setB f v a b c).sight fs = d.sight fs := sight_set d h ..
@[simp] theorem sight_setS {f : Fld} (h : fs.contains f = true) (v : Int) (a b c : Nat) : (d.setS f v a b c).sight fs = d.sight fs := sight_set d h ..
@[simp] theorem sight_inc {f : Fld} (h : fs.contains f = true) (n a b c : Nat) : (d.inc f n a b c).sight fs = d.sight fs := sight_set d h ..
@[simp] theorem sight_incSat {f : Fld} (h : fs.contains f = true) (n a b c : Nat) : (d.incSat f n a b c).sight fs = d.sight fs := sight_set d h ..
@[simp] theorem sight_setFlag {f : Fld} (h : fs.contains f = true) (i : Nat) (v : Bool) : (d.setFlag f i v).sight fs = d.sight fs := sight_set d h ..
@[simp] theorem sight_arm (t : Timer) (n : Nat) : (d.arm t n).sight fs = d.sight fs := sight_of_regs rfl fs
@[simp] theorem sight_disarm (t : Timer) : (d.disarm t).sight fs = d.sight fs := sight_of_regs rfl fs
@[simp] theorem sight_emit (o : Out) : (d.emit o).sight fs = d.sight fs := sight_of_regs rfl fs
@[simp] theorem sight_free : d.free.sight fs = d.sight fs := sight_of_regs rfl fs
@[simp] theorem sight_lane (k : Nat) (g : Lane → Lane) : (d.lane k g).sight fs = d.sight fs := sight_of_regs rfl fs
@[simp] theorem sight_cell (k : Nat) (g : Cell → Cell) : (d.cell k g).sight fs = d.sight fs := sight_of_regs rfl fs
@[simp] theorem sight_grp (k : Nat) (g : Group → Group) : (d.grp k g).sight fs = d.sight fs := sight_of_regs rfl fs
@[simp] theorem sight_pw (k : Nat) (g : Pwm → Pwm) : (d.pw k g).sight fs = d.sight fs := sight_of_regs rfl fs
@[simp] theorem sight_phs (k : Nat) (g : Phase → Phase) : (d.phs k g).sight fs = d.sight fs := sight_of_regs rfl fs
@[simp] theorem sight_gd (k : Nat) (g : Gate → Gate) : (d.gd k g).sight fs = d.sight fs := sight_of_regs rfl fs
@[simp] theorem sight_en (k : Nat) (g : Enc → Enc) : (d.en k g).sight fs = d.sight fs := sight_of_regs rfl fs

@[simp] theorem sight_ite {p : Prop} [Decidable p] (x y : Dev) : (if p then x else y).sight fs = if p then x.sight fs else y.sight fs :=
  apply_ite (fun d : Dev => d.sight fs) p x y

theorem sight_each {α : Type} {g : Dev → α → Dev} (h : ∀ d x, (g d x).sight fs = d.sight fs) (l : List α) : (d.each l g).sight fs = d.sight fs :=
  each_keeps (fun d : Dev => d.sight fs) h l d

theorem sight_elapse (h : fs.contains F.RSV_TIME.COUNT = true) (n : Nat) : (d.elapse n).sight fs = d.sight fs := by
  simp only [Dev.elapse]
  have counted : ∀ (e : Dev) (m : Nat), (e.inc F.RSV_TIME.COUNT m).sight fs = e.sight fs := fun e m => sight_inc e h m 0 0 0
  split <;> split
  · exact (sight_of_regs rfl fs).trans ((counted ..).trans (sight_of_regs rfl fs))
  · exact (counted ..).trans (sight_of_regs rfl fs)
  · exact sight_of_regs rfl fs
  · rfl

end

theorem sight_le {d e : Dev} {fs gs : List Fld} (hs : fs.all gs.contains = true) (h : e.sight fs = d.sight fs) : e.sight gs = d.sight gs := by
  funext f a b c
  unfold Dev.sight
  split
  next hf =>
    obtain ⟨apart, bounds⟩ := Bool.and_eq_true .. ▸ hf
    simp only [Bool.and_eq_true, decide_eq_true_eq] at bounds
    obtain ⟨⟨ha, hb⟩, hc⟩ := bounds
    refine get_of_sight h ?_ ha hb hc
    rw [List.all_eq_true] at hs apart ⊢
    exact fun g hg => apart g (List.contains_iff_mem.mp (hs g hg))
  next => rfl

/-! Rest: the units that a log entry and a completion do not keep their books in -/

/-- The block less its registers, deadlines, outputs, memories, rings, log and clocks. -/
def Dev.rest (d : Dev) : Dev := { d with regs := [], timers := [], out := [], mram := default, rings := default, prov := default, clk := default }

section
variable (d : Dev)

@[simp] theorem rest_set (f : Fld) (v a b c : Nat) : (d.set f v a b c).rest = d.rest := by unfold Dev.set; split <;> rfl
@[simp] theorem rest_setB (f : Fld) (v : Bool) (a b c : Nat) : (d.setB f v a b c).rest = d.rest := rest_set ..
@[simp] theorem rest_setS (f : Fld) (v : Int) (a b c : Nat) : (d.setS f v a b c).rest = d.rest := rest_set ..
@[simp] theorem rest_inc (f : Fld) (n a b c : Nat) : (d.inc f n a b c).rest = d.rest := rest_set ..
@[simp] theorem rest_arm (t : Timer) (n : Nat) : (d.arm t n).rest = d.rest := rfl
@[simp] theorem rest_disarm (t : Timer) : (d.disarm t).rest = d.rest := rfl
@[simp] theorem rest_emit (o : Out) : (d.emit o).rest = d.rest := rfl

@[simp] theorem rest_ite {p : Prop} [Decidable p] (x y : Dev) : (if p then x else y).rest = if p then x.rest else y.rest := apply_ite Dev.rest p x y

end

/-! A log entry and a completion -/

/-- The registers they write. -/
def bookFields : List Fld :=
  [F.VP_ANCHOR_NEWEST.INDEX, F.VP_ANCHOR_NEWEST.T_INDEX, F.VP_LOG_HEAD.SEQ, F.VP_LOG_STATUS.FREE, F.xQ_PROD.INDEX, F.xQ_COUNT.COUNT, F.RING_HELD.COUNT]

/-- They move only these registers, and leave the rest of the block. -/
def Books (d e : Dev) : Prop := e.sight bookFields = d.sight bookFields ∧ e.rest = d.rest

theorem Books.trans {d e f : Dev} (h : Books d e) (g : Books e f) : Books d f := ⟨g.1.trans h.1, g.2.trans h.2⟩

section
variable (d : Dev)

theorem books_refl : Books d d := ⟨rfl, rfl⟩
theorem books_same {d e : Dev} (h : e.regs = d.regs) (hr : e.rest = d.rest) : Books d e := ⟨sight_of_regs h _, hr⟩

theorem books_ite {p : Prop} [Decidable p] {x y : Dev} (hx : Books d x) (hy : Books d y) : Books d (if p then x else y) := by
  split
  · exact hx
  · exact hy

theorem books_set {f : Fld} (h : bookFields.contains f = true) (v a b c : Nat) : Books d (d.set f v a b c) := ⟨sight_set d h .., rest_set ..⟩

theorem books_anchorPut (a : Anchor) : Books d (d.anchorPut a) :=
  books_ite d (.trans (books_same rfl rfl) (books_set _ (by decide) ..)) (.trans (books_same rfl rfl) (books_set _ (by decide) ..))

theorem books_anchorFlush : Books d d.anchorFlush := by
  unfold Dev.anchorFlush
  split
  · exact books_ite d (.trans (books_same rfl rfl) (books_anchorPut ..)) (books_refl d)
  · exact books_refl d

theorem books_anchor (type : Nat) : Books d (d.anchor type) :=
  (books_anchorFlush d).trans (.trans (books_same rfl rfl) (books_anchorPut ..))

theorem books_lpddrTouch : Books d d.lpddrTouch := books_ite d (books_same rfl rfl) (books_same rfl rfl)

theorem books_log (kind : Nat) (o : Orig) (object aux old new r x : Nat) : Books d (d.log kind o object aux old new r x) := by
  unfold Dev.log
  extract_lets seq e prov d1 d2
  have entered : Books d d2 :=
    .trans (books_same rfl rfl) ((books_set d1 (by decide) ..).trans ((books_set _ (by decide) ..).trans (books_lpddrTouch _)))
  exact entered.trans (books_ite d2 (books_anchor ..) (books_refl d2))

theorem books_ringPush (r : Nat) : Books d (d.ringPush r) := .trans (books_set d (by decide) ..) (books_set _ (by decide) ..)

theorem books_msix (f v : Nat) : Books d (d.msix f v) := by
  unfold Dev.msix
  extract_lets n c d1
  exact books_ite d (books_same rfl rfl) (books_ite d (books_same rfl rfl) (books_ite d (books_same rfl rfl) (books_same rfl rfl)))

theorem books_complete (x : Completion) : Books d (d.complete x) := by
  unfold Dev.complete
  extract_lets r i d1 d2 rings d3
  have written : Books d d3 :=
    .trans (books_same rfl rfl) ((books_ringPush d1 r).trans (.trans (e := d2) (books_same rfl rfl) (books_same rfl rfl)))
  exact books_ite d (written.trans (books_ite d3 (books_msix ..) (books_refl d3))) (.trans (books_same rfl rfl) (books_set _ (by decide) ..))

theorem books_finish (op : Nat) (c : HostCmd) (old status reason result : Nat) (logged : Bool) : Books d (d.finish op c old status reason result logged) := by
  unfold Dev.finish
  exact .trans (books_ite d (books_refl d) (books_log ..)) (books_complete ..)

end

/-! A command that is applied -/

/-- What an applied command leaves: its effect `x`, its log entry and its completion, with all that was put out. -/
def Dev.answered (d : Dev) (op : Nat) (c : HostCmd) (x : Dev) (r : Nat) : Dev :=
  { ({ x with out := d.out } : Dev).finish op c d.st 0 0 r with out := x.out ++ (({ x with out := d.out } : Dev).finish op c d.st 0 0 r).out }

/-- R128, R131: a command that the state permits and that its check passes takes effect at its beat and is completed as APPLIED. (A LOG_ACK is apart:
R60.) -/
theorem command_applied {s : State} {op : Nat} {c : HostCmd} (h : Ready op c s) (hop : op ≠ 0x71) {g : Dev → Dev × Verdict} {x : Dev} {r : Nat}
    (hg : g (s.dev.atBeat op c) = (x, .applied r)) : s.dev.command op c g = (s.dev.answered op c x r, true) := by
  obtain ⟨-, hperm, hbeat, hforce⟩ := h
  have hst : ({ s.dev.atBeat op c with out := s.dev.out } : Dev).st = s.dev.st := atBeat_st s.dev op c
  have hp : ({ s.dev.atBeat op c with out := s.dev.out } : Dev).permits op = true := (atBeat_permits s.dev op c op).trans hperm
  have hy : (yields op && ({ s.dev.atBeat op c with out := s.dev.out } : Dev).inForce) = false := by
    have hin : ({ s.dev.atBeat op c with out := s.dev.out } : Dev).inForce = s.dev.inForce := atBeat_inForce s.dev op c
    cases hyl : yields op with
    | false => rfl
    | true => rw [hin, hforce hyl, Bool.and_false]
  have heta : ({ s.dev.atBeat op c with out := [] } : Dev) = s.dev.atBeat op c := rfl
  have unlogged : (op == 0x71) = false := beq_eq_false_iff_ne.mpr hop
  simp only [Dev.command, Nat.not_lt.mpr hbeat, pendSync_atBeat, hst, hp, hy, hop, heta, hg, unlogged, Bool.not_true, Bool.false_eq_true, if_false,
    Dev.answered]

theorem simple_applied {s : State} {op : Nat} {c : HostCmd} (h : Ready op c s) (hop : op ≠ 0x71) (g : Dev → Dev) :
    s.dev.simple op c g = s.dev.answered op c (g (s.dev.atBeat op c)) 0 := congrArg Prod.fst (command_applied h hop rfl)

theorem checked_applied {s : State} {op : Nat} {c : HostCmd} (h : Ready op c s) (hop : op ≠ 0x71) {g : Dev → Dev × Option Nat} {x : Dev}
    (hg : g (s.dev.atBeat op c) = (x, none)) : s.dev.checked op c g = s.dev.answered op c x 0 := by
  refine congrArg Prod.fst (command_applied h hop ?_)
  rw [hg]

section
variable (d : Dev) (op : Nat) (c : HostCmd) (x : Dev) (r : Nat)

theorem completed_answered : Completed (d.answered op c x r) op 0 c := by
  obtain ⟨y, hq, ht, ho, hs, hw⟩ := completed_finish { x with out := d.out } op c d.st 0 0 r false
  refine ⟨y, hq, ht, ho, hs, hw.imp (fun ⟨a, b, p, hm⟩ => ⟨a, b, p, ?_⟩) id⟩
  exact List.mem_append_right _ hm

theorem calm_answered : (d.answered op c x r).calm = x.calm := calm_finish { x with out := d.out } op c d.st 0 0 r false

theorem st_answered : (d.answered op c x r).st = x.st := st_finish { x with out := d.out } op c d.st 0 0 r false

theorem books_answered : Books x (d.answered op c x r) := by
  obtain ⟨sight, rest⟩ := books_finish { x with out := d.out } op c d.st 0 0 r false
  exact ⟨sight, rest⟩

/-- What the step ends with shows the calm part of the effect. -/
theorem calm_settle_answered : (d.answered op c x r).settle.calm = x.calm := (calm_settle _).trans (calm_answered ..)

end

end Sys2Proof.Machine
end

section
/-! SUPPORT. The items of ARRAY_SET (R261, R282). -/

namespace Sys2Proof.Machine

set_option Elab.async false

theorem exec_arraySetVdl (c : HostCmd) (s : State) : exec (.arraySetVdl c) s = execArraySetVdl c s := rfl
theorem exec_arraySetLimits (c : HostCmd) (s : State) : exec (.arraySetLimits c) s = execArraySetLimits c s := rfl
theorem exec_arraySetVc (c : HostCmd) (s : State) : exec (.arraySetVc c) s = execArraySetVc c s := rfl
theorem exec_arraySetIq (c : HostCmd) (s : State) : exec (.arraySetIq c) s = execArraySetIq c s := rfl
theorem exec_arraySetBalMode (c : HostCmd) (s : State) : exec (.arraySetBalMode c) s = execArraySetBalMode c s := rfl
theorem exec_arraySetHopping (c : HostCmd) (s : State) : exec (.arraySetHopping c) s = execArraySetHopping c s := rfl
theorem exec_arraySetApplyPhase (c : HostCmd) (s : State) : exec (.arraySetApplyPhase c) s = execArraySetApplyPhase c s := rfl

theorem arg_lt (c : HostCmd) (k : Nat) : arg c k < 2 ^ 32 := Nat.mod_lt _ (Nat.two_pow_pos 32)

/-- A register of the effect is read so when the step ends. -/
theorem answered_get {d x : Dev} {op : Nat} {c : HostCmd} {r : Nat} {f : Fld} (hf : f.calm = true) {i j k v : Nat} (hv : x.get f i j k = v)
    (hi : i < f.n1 := by decide) (hj : j < f.n2 := by decide) (hk : k < f.n3 := by decide) : (d.answered op c x r).settle.get f i j k = v :=
  (get_of_calm (calm_settle_answered d op c x r) hf hi hj hk).trans hv

theorem arraySetVdl_sets {s : State} {c : HostCmd} (h : Ready 0x40 c s) : After (.arraySetVdl c) s fun d => d.get F.ARR_VREF.VDL = arg c 1 := by
  refine after_main ((exec_arraySetVdl ..).trans (by rw [execArraySetVdl])) h.1 ?_
  rw [simple_applied h (by decide)]
  refine answered_get (by decide) ?_
  rw [Dev.get_set_here _ _ _ (by decide) (by decide) (by decide)]
  exact Nat.mod_eq_of_lt (arg_lt c 1)

theorem arraySetLimits_sets {s : State} {c : HostCmd} (h : Ready 0x40 c s) :
    After (.arraySetLimits c) s fun d => d.get F.ARR_LIMIT.IMPORT = arg c 1 % 65536 ∧ d.get F.ARR_LIMIT.EXPORT = arg c 1 / 65536 := by
  refine after_main ((exec_arraySetLimits ..).trans (by rw [execArraySetLimits])) h.1 ?_
  rw [simple_applied h (by decide)]
  refine ⟨answered_get (by decide) ?_, answered_get (by decide) ?_⟩
  · simp +decide
    rfl
  · simp +decide
    exact Nat.mod_eq_of_lt (Nat.div_lt_of_lt_mul (arg_lt c 1))

theorem arraySetVc_sets {s : State} {c : HostCmd} (h : Ready 0x40 c s) (hs : s.dev.st = LINKED ∨ s.dev.st = STOP) :
    After (.arraySetVc c) s fun d => d.get F.ARR_VCREF.VC = arg c 1 := by
  refine after_main ((exec_arraySetVc ..).trans (by rw [execArraySetVc])) h.1 ?_
  rw [command_applied h (by decide) (if_pos ((atBeat_st s.dev 0x40 c).symm ▸ hs))]
  refine answered_get (by decide) ?_
  rw [Dev.get_set_here _ _ _ (by decide) (by decide) (by decide)]
  exact Nat.mod_eq_of_lt (arg_lt c 1)

theorem atBeat_dcSource (d : Dev) (op : Nat) (c : HostCmd) : (d.atBeat op c).dcSource = d.dcSource := by
  simp only [Dev.dcSource, atBeat_prov, Dev.dcl]

theorem arraySetIq_sets {s : State} {c : HostCmd} (h : Ready 0x40 c s) (hd : s.dev.dcSource = false) (ht : c.target < 6) :
    After (.arraySetIq c) s fun d => d.get F.ARR_STRING_RANK.I_Q c.target = arg c 1 % 65536 := by
  refine after_main ((exec_arraySetIq ..).trans (by rw [execArraySetIq])) h.1 ?_
  have source : ¬ (s.dev.atBeat 0x40 c).dcSource = true := by simp [atBeat_dcSource, hd]
  rw [checked_applied h (by decide) (if_neg source)]
  exact answered_get (by decide) (Dev.get_set_here _ _ _ ht (by decide) (by decide)) ht

theorem arraySetBalMode_sets {s : State} {c : HostCmd} (h : Ready 0x40 c s) (hs : s.dev.st = LINKED ∨ s.dev.st = STOP) (ht : c.target < 6) :
    After (.arraySetBalMode c) s fun d => d.get F.ARR_STRING_CFG.BAL_MODE c.target = arg c 1 % 2 := by
  refine after_main ((exec_arraySetBalMode ..).trans (by rw [execArraySetBalMode])) h.1 ?_
  rw [command_applied h (by decide) (if_pos ((atBeat_st s.dev 0x40 c).symm ▸ hs))]
  exact answered_get (by decide) (Dev.get_set_here _ _ _ ht (by decide) (by decide)) ht

theorem arraySetHopping_sets {s : State} {c : HostCmd} (h : Ready 0x40 c s) (hl : bitsAt (arg c 1) 8 4 ≤ s.dev.get F.ARR_CTRL.HOP_LAST) :
    After (.arraySetHopping c) s fun d => d.get F.ARR_CTRL.HOP_BEATS = arg c 1 % 256 ∧ d.get F.ARR_CTRL.HOP_FIXED = bitsAt (arg c 1) 8 4 := by
  refine after_main ((exec_arraySetHopping ..).trans (by rw [execArraySetHopping])) h.1 ?_
  have within : ¬ (s.dev.atBeat 0x40 c).get F.ARR_CTRL.HOP_LAST < bitsAt (arg c 1) 8 4 := by
    rw [atBeat_get s.dev 0x40 c (by decide) (by decide) (by decide)]
    exact Nat.not_lt.mpr hl
  rw [checked_applied h (by decide) (if_neg within)]
  refine ⟨answered_get (by decide) ?_, answered_get (by decide) ?_⟩
  · rw [Dev.get_set_there _ (by decide) _ (by decide) (by decide) (by decide), Dev.get_set_here _ _ _ (by decide) (by decide) (by decide)]
    rfl
  · rw [Dev.get_set_here _ _ _ (by decide) (by decide) (by decide)]
    exact Nat.mod_eq_of_lt (Nat.mod_lt _ (by decide))

theorem arraySetApplyPhase_sets {s : State} {c : HostCmd} (h : Ready 0x40 c s) (hs : s.dev.st = LINKED ∨ s.dev.st = STOP)
    (he : s.dev.get F.GLB_ESAP.TICKS ≤ arg c 1) : After (.arraySetApplyPhase c) s fun d => d.get F.ARR_APPLY.PHASE = arg c 1 % 1024 := by
  refine after_main ((exec_arraySetApplyPhase ..).trans (by rw [execArraySetApplyPhase])) h.1 ?_
  have state : ¬ ((s.dev.atBeat 0x40 c).st ≠ LINKED ∧ (s.dev.atBeat 0x40 c).st ≠ STOP) := by
    rw [atBeat_st]
    tauto
  have phase : ¬ arg c 1 < (s.dev.atBeat 0x40 c).get F.GLB_ESAP.TICKS := by
    rw [atBeat_get s.dev 0x40 c (by decide) (by decide) (by decide)]
    exact Nat.not_lt.mpr he
  rw [command_applied h (by decide) ((if_neg state).trans (if_neg phase))]
  exact answered_get (by decide) (Dev.get_set_here _ _ _ (by decide) (by decide) (by decide))

/-- Settles O17: at the effect beat each item's condition stands as it stood before, and the item's registers are the effect. -/
theorem arrayCommands : Obligations.ArrayCommands := fun _ _ h =>
  ⟨arraySetVdl_sets h, arraySetLimits_sets h, arraySetVc_sets h, arraySetIq_sets h, arraySetBalMode_sets h, arraySetHopping_sets h,
    arraySetApplyPhase_sets h⟩

end Sys2Proof.Machine
end

section
/-! SUPPORT. Loans asked for, returned and dropped (R76 to R79): what they leave alone. -/

namespace Sys2Proof.Machine

set_option Elab.async false

/-- The registers of the loans' books. -/
def loanFields : List Fld :=
  bookFields ++ [F.LOAN_OP_WAIT.WAITING, F.LOAN_CHIP_STATE.OUT, F.LOAN_CHIP_STATE.AVAIL, F.LOAN_SITE_STATE.OUT, F.LOAN_SITE_STATE.AVAIL]

theorem loan_of_books {d e : Dev} (h : Books d e) : e.sight loanFields = d.sight loanFields := sight_le (by decide) h.1

section
variable (d : Dev) (op inst : Nat)

@[simp] theorem sight_waitSync : d.waitSync.sight loanFields = d.sight loanFields := sight_each d (fun x n => sight_set x (by decide) ..) _

@[simp] theorem sight_loanSync : d.loanSync.sight loanFields = d.sight loanFields := by
  simp (disch := decide) [Dev.loanSync]

theorem sight_loanReturn : (d.loanReturn op inst).sight loanFields = d.sight loanFields := by
  unfold Dev.loanReturn
  extract_lets b
  split
  · exact (loan_of_books (books_log ..)).trans ((sight_loanSync _).trans (sight_of_regs rfl _))
  · rfl

theorem sight_loanDrop : (d.loanDrop op inst).sight loanFields = d.sight loanFields := by
  unfold Dev.loanDrop
  split
  · exact (sight_waitSync _).trans (sight_of_regs rfl _)
  · rfl

theorem sight_grpLoanEnd (g : Nat) : (d.grpLoanEnd g).sight loanFields = d.sight loanFields :=
  (sight_disarm ..).trans ((sight_loanDrop ..).trans (sight_loanReturn ..))

/-- The block with a request filed, before anything is said of it. -/
def Dev.asking : Dev := ({ d with loanWait := d.loanWait ++ [(⟨op, inst, d.get F.LOAN_OP_COST.COST op, d.tick⟩ : LoanReq)] }).waitSync

/-- R77, R78: a request that the budget can meet, outside a save window and with a time to wait, is filed. -/
theorem loanFile_asks (hs : d.pwr.saveWin = false) (hc : d.get F.LOAN_OP_COST.COST op ≤ d.loanBudget (isSite op))
    (hw : d.get F.LOAN_OP_WAIT.WAIT_MS op ≠ 0) (ho : op < 11) : d.loanFile op inst = d.asking op inst := by
  have time : (d.asking op inst).get F.LOAN_OP_WAIT.WAIT_MS op ≠ 0 := by
    rw [Dev.asking, get_of_sight (sight_waitSync _) (by decide) ho]
    exact hw
  unfold Dev.loanFile
  extract_lets cost d1 mine
  rw [if_neg (by simp [hs]), if_neg (Nat.not_lt.mpr hc), if_neg fun h => time h.1]
  rfl

theorem sight_asking : (d.asking op inst).sight loanFields = d.sight loanFields := (sight_waitSync _).trans (sight_of_regs rfl _)

end

end Sys2Proof.Machine
end

section
/-! SUPPORT. OUTPUT_SET, GROUP_ENABLE and GROUP_DISABLE (R348, R349, R354, R355). -/

namespace Sys2Proof.Machine

set_option Elab.async false

theorem exec_outputSetVSet (c : HostCmd) (s : State) : exec (.outputSetVSet c) s = execOutputSetVSet c s := rfl
theorem exec_outputSetIset (c : HostCmd) (s : State) : exec (.outputSetIset c) s = execOutputSetIset c s := rfl
theorem exec_outputSetEnables (c : HostCmd) (s : State) : exec (.outputSetEnables c) s = execOutputSetEnables c s := rfl
theorem exec_outputSetTrunc (c : HostCmd) (s : State) : exec (.outputSetTrunc c) s = execOutputSetTrunc c s := rfl
theorem exec_groupEnable (c : HostCmd) (s : State) : exec (.groupEnable c) s = execGroupEnable c s := rfl
theorem exec_groupDisable (c : HostCmd) (s : State) : exec (.groupDisable c) s = execGroupDisable c s := rfl

theorem outputSetVSet_sets {s : State} {c : HostCmd} (h : Ready 0x50 c s) (ht : c.target < 2) :
    After (.outputSetVSet c) s fun d => d.get F.GRP_VSET.VSET c.target = arg c 1 := by
  refine after_main ((exec_outputSetVSet ..).trans (by rw [execOutputSetVSet])) h.1 ?_
  rw [simple_applied h (by decide)]
  refine answered_get (by decide) ?_ ht
  rw [Dev.get_set_here _ _ _ ht (by decide) (by decide)]
  exact Nat.mod_eq_of_lt (arg_lt c 1)

theorem outputSetIset_sets {s : State} {c : HostCmd} (h : Ready 0x50 c s) (ht : c.target < 2)
    (hi : max (arg c 1 % 65536) (arg c 1 / 65536) ≤ s.dev.get F.GRP_IMAX.I_MAX c.target) :
    After (.outputSetIset c) s fun d => d.get F.GRP_ISET.FWD c.target = arg c 1 % 65536 ∧ d.get F.GRP_ISET.REV c.target = arg c 1 / 65536 := by
  refine after_main ((exec_outputSetIset ..).trans (by rw [execOutputSetIset])) h.1 ?_
  have within : ¬ (s.dev.atBeat 0x50 c).get F.GRP_IMAX.I_MAX c.target < max (arg c 1 % 65536) (arg c 1 / 65536) := by
    rw [atBeat_get s.dev 0x50 c (by decide) (by decide) (by decide) ht]
    exact Nat.not_lt.mpr hi
  rw [checked_applied h (by decide) (if_neg within)]
  refine ⟨answered_get (by decide) ?_ ht, answered_get (by decide) ?_ ht⟩
  · rw [Dev.get_set_there _ (by decide) _ ht (by decide) (by decide), Dev.get_set_here _ _ _ ht (by decide) (by decide)]
    exact Nat.mod_mod ..
  · rw [Dev.get_set_here _ _ _ ht (by decide) (by decide)]
    exact Nat.mod_eq_of_lt (Nat.div_lt_of_lt_mul (arg_lt c 1))

theorem outputSetEnables_sets {s : State} {c : HostCmd} (h : Ready 0x50 c s) (ht : c.target < 2) : After (.outputSetEnables c) s fun d =>
    d.get F.GRP_SHED.SHED_EN c.target = arg c 1 % 2 ∧ d.get F.GRP_SHED.BURST_EN c.target = arg c 1 / 2 % 2 := by
  refine after_main ((exec_outputSetEnables ..).trans (by rw [execOutputSetEnables])) h.1 ?_
  rw [simple_applied h (by decide)]
  refine ⟨answered_get (by decide) ?_ ht, answered_get (by decide) (Dev.get_set_here _ _ _ ht (by decide) (by decide)) ht⟩
  exact (Dev.get_set_there _ (by decide) _ ht (by decide) (by decide)).trans (Dev.get_set_here _ _ _ ht (by decide) (by decide))

theorem outputSetTrunc_sets {s : State} {c : HostCmd} (h : Ready 0x50 c s) (ht : c.target < 2) :
    After (.outputSetTrunc c) s fun d => d.get F.GRP_TRUNC.TRUNC c.target = arg c 1 % 65536 := by
  refine after_main ((exec_outputSetTrunc ..).trans (by rw [execOutputSetTrunc])) h.1 ?_
  rw [simple_applied h (by decide)]
  exact answered_get (by decide) (Dev.get_set_here _ _ _ ht (by decide) (by decide)) ht

/-- A register that neither a loan's books nor the completion moves is left by the command as by its effect. -/
theorem answered_sight {d x : Dev} {op : Nat} {c : HostCmd} {r : Nat} : (d.answered op c x r).sight loanFields = x.sight loanFields :=
  loan_of_books (books_answered ..)

theorem atBeat_flag (d : Dev) (op : Nat) (x : HostCmd) {g : Fld} (ht : g.apart F.RSV_TIME.COUNT = true) (hn : g.apart F.RING_PENDING.COUNT = true)
    (hq : g.apart F.xQ_STATUS.PENDING = true) (hg : 0 < g.n1 ∧ 0 < g.n2 ∧ 0 < g.n3) (i : Nat) : (d.atBeat op x).flag g i = d.flag g i :=
  congrArg (Nat.testBit · i) (atBeat_get d op x ht hn hq hg.1 hg.2.1 hg.2.2)

theorem atBeat_phasesOf (d : Dev) (op : Nat) (c : HostCmd) (g : Nat) : (d.atBeat op c).phasesOf g = d.phasesOf g := by
  simp only [Dev.phasesOf, atBeat_flag d op c (g := F.OS_CTRL.PHASE_DECL) (by decide) (by decide) (by decide) (by decide),
    atBeat_flag d op c (g := F.OS_CTRL.GROUP_B) (by decide) (by decide) (by decide) (by decide)]

theorem atBeat_grpSenseLost (d : Dev) (op : Nat) (c : HostCmd) (g : Nat) : (d.atBeat op c).grpSenseLost g = d.grpSenseLost g := by
  simp only [Dev.grpSenseLost, atBeat_phasesOf, atBeat_flag d op c (g := F.OS_SENSE_LOST.LOST) (by decide) (by decide) (by decide) (by decide)]

theorem atBeat_saveWin (d : Dev) (op : Nat) (c : HostCmd) : (d.atBeat op c).pwr.saveWin = d.pwr.saveWin := by
  obtain ⟨r, h⟩ := elapse_pwr d (c.beat * 1024 - d.tick)
  simp [Dev.atBeat, Dev.until, h]

/-- R348: an off group whose loan can be asked for is enabled. -/
theorem grpEnable_off {d : Dev} {g : Nat} (hg : g < 2) (hs : d.get F.GRP_STATUS.STATE g = 0) (hw : d.pwr.saveWin = false)
    (hc : d.get F.LOAN_OP_COST.COST 9 ≤ d.get F.LOAN_SITE.BUDGET) (ht : d.get F.LOAN_OP_WAIT.WAIT_MS 9 ≠ 0) :
    (d.grpEnable g).2 = true ∧ (d.grpEnable g).1.get F.GRP_STATUS.STATE g = 1 := by
  unfold Dev.grpEnable
  rw [if_pos hs]
  extract_lets d1
  have cleared : (d1.set F.GRP_STATUS.STATE 1 g).sight [F.PH_STATUS.STATE, F.GRP_STATUS.STATE] = d.sight [F.PH_STATUS.STATE, F.GRP_STATUS.STATE] := by
    refine (sight_set d1 (by decide) ..).trans (sight_each d (fun x k => ?_) _)
    rw [sight_ite, sight_set x (by decide), ite_self]
  have pwr : (d1.set F.GRP_STATUS.STATE 1 g).pwr = d.pwr := by
    rw [Dev.set_pwr]
    exact each_keeps Dev.pwr (fun x k => by split <;> simp) _ _
  refine ⟨rfl, ?_⟩
  dsimp only
  rw [loanFile_asks _ 9 g (by rw [pwr, hw]) ?_ ?_ (by decide), get_of_sight (sight_asking ..) (by decide) hg,
    Dev.get_set_here _ _ _ hg (by decide) (by decide)]
  · rfl
  · show _ ≤ Dev.get _ F.LOAN_SITE.BUDGET
    rw [get_of_sight cleared (by decide), get_of_sight cleared (by decide)]
    exact hc
  · rw [get_of_sight cleared (by decide)]
    exact ht

theorem groupEnable_enables {s : State} {c : HostCmd} (h : Ready 0x51 c s) (ht : c.target < 2) (hl : s.dev.grpSenseLost c.target = false)
    (hs : s.dev.get F.GRP_STATUS.STATE c.target = 0) (hw : s.dev.pwr.saveWin = false)
    (hc : s.dev.get F.LOAN_OP_COST.COST 9 ≤ s.dev.get F.LOAN_SITE.BUDGET) (hm : s.dev.get F.LOAN_OP_WAIT.WAIT_MS 9 ≠ 0) :
    Leaves (.groupEnable c) s fun e => Completed e 0x51 0 c ∧ e.get F.GRP_STATUS.STATE c.target = 1 := by
  have get {f : Fld} (h1 : f.apart F.RSV_TIME.COUNT = true) (h2 : f.apart F.RING_PENDING.COUNT = true) (h3 : f.apart F.xQ_STATUS.PENDING = true) {a : Nat}
      (ha : a < f.n1) (hb : 0 < f.n2) (hc : 0 < f.n3) : (s.dev.atBeat 0x51 c).get f a = s.dev.get f a := atBeat_get s.dev 0x51 c h1 h2 h3 ha hb hc
  obtain ⟨-, state⟩ := grpEnable_off (d := s.dev.atBeat 0x51 c) ht (by rw [get (by decide) (by decide) (by decide) ht (by decide) (by decide), hs])
    ((atBeat_saveWin ..).trans hw)
    (by
      rw [get (by decide) (by decide) (by decide) (by decide) (by decide) (by decide), get (by decide) (by decide) (by decide) (by decide) (by decide) (by decide)]
      exact hc)
    (by rw [get (by decide) (by decide) (by decide) (by decide) (by decide) (by decide)]; exact hm)
  refine leaves_main ((exec_groupEnable ..).trans (by rw [execGroupEnable])) h.1 ?_
  have sensed : ¬ (s.dev.atBeat 0x51 c).grpSenseLost c.target = true := by simp [atBeat_grpSenseLost, hl]
  rw [command_applied h (by decide) (if_neg sensed)]
  exact ⟨completed_answered .., (get_of_sight answered_sight (by decide) ht).trans state⟩

/-- R354: a running group ramps down to its stop. -/
theorem grpDisable_stops {d : Dev} {g : Nat} (hg : g < 2) (h2 : 2 ≤ d.get F.GRP_STATUS.STATE g) (h4 : d.get F.GRP_STATUS.STATE g ≤ 4) :
    (d.grpDisable g).1.get F.GRP_STATUS.STATE g = 5 := by
  unfold Dev.grpDisable
  rw [if_neg (by omega)]
  unfold Dev.grpStop
  extract_lets st
  rw [if_neg (by omega), if_pos (by omega)]
  refine (Dev.get_setB_apart _ (by decide) _ hg (by decide) (by decide)).trans ?_
  rw [Dev.grp_get, Dev.get_set_here _ _ _ hg (by decide) (by decide)]
  rfl

theorem groupDisable_stops {s : State} {c : HostCmd} (h : Ready 0x51 c s) (ht : c.target < 2) (h2 : 2 ≤ s.dev.get F.GRP_STATUS.STATE c.target)
    (h4 : s.dev.get F.GRP_STATUS.STATE c.target ≤ 4) :
    Leaves (.groupDisable c) s fun e => Completed e 0x51 0 c ∧ e.get F.GRP_STATUS.STATE c.target = 5 := by
  have state : (s.dev.atBeat 0x51 c).get F.GRP_STATUS.STATE c.target = s.dev.get F.GRP_STATUS.STATE c.target :=
    atBeat_get s.dev 0x51 c (by decide) (by decide) (by decide) ht
  refine leaves_main ((exec_groupDisable ..).trans (by rw [execGroupDisable])) h.1 ?_
  rw [command_applied h (by decide) rfl]
  exact ⟨completed_answered .., (get_of_sight answered_sight (by decide) ht).trans (grpDisable_stops ht (by omega) (by omega))⟩

/-- Settles O20: the set items write their registers; a group's state follows its enabling and disabling. -/
theorem outputCommands : Obligations.OutputCommands :=
  ⟨fun _ _ h ht => ⟨outputSetVSet_sets h ht, outputSetIset_sets h ht, outputSetEnables_sets h ht, outputSetTrunc_sets h ht⟩,
    fun _ _ h => groupEnable_enables h, fun _ _ h => groupDisable_stops h⟩

end Sys2Proof.Machine
end

section
/-! SUPPORT. The items of COLLECTOR_MOVE (R409, R412, R413). -/

namespace Sys2Proof.Machine

set_option Elab.async false

theorem exec_moveTo (c : HostCmd) (s : State) : exec (.moveTo c) s = moveCommand 1 c s := rfl
theorem exec_track (c : HostCmd) (s : State) : exec (.track c) s = moveCommand 2 c s := rfl
theorem exec_park (c : HostCmd) (s : State) : exec (.park c) s = moveCommand 6 c s := rfl
theorem exec_home (c : HostCmd) (s : State) : exec (.home c) s = moveCommand 5 c s := rfl
theorem exec_hold (c : HostCmd) (s : State) : exec (.hold c) s = moveCommand 3 c s := rfl
theorem exec_driveOff (c : HostCmd) (s : State) : exec (.driveOff c) s = moveCommand 4 c s := rfl

/-! Signed fields -/

theorem ofS_toS (w x : Nat) : ofS w (toS w x) = x % 2 ^ w := by
  have size : (0 : Int) ≤ ((x % 2 ^ w : Nat) : Int) ∧ ((x % 2 ^ w : Nat) : Int) < ((2 ^ w : Nat) : Int) :=
    ⟨Int.natCast_nonneg _, Int.ofNat_lt.mpr (Nat.mod_lt _ (Nat.two_pow_pos w))⟩
  unfold ofS toS
  split
  · rw [Int.emod_eq_of_lt size.1 size.2, Int.toNat_natCast]
  · rw [Int.sub_emod_right, Int.emod_eq_of_lt size.1 size.2, Int.toNat_natCast]

theorem toS_mod (w x : Nat) : toS w (x % 2 ^ w) = toS w x := by rw [toS, toS, Nat.mod_mod]

/-- What a move may change after its plan is laid. -/
def moveMask : Mask :=
  ⟨stageMask.regs ++ refuseMask.regs ++ [F.PW_SHADOW.CMP, F.COL_MOVES.COUNT, F.HALL_STATUS.FAULT], stageMask.parts ++ refuseMask.parts⟩

theorem moveView_colStart (d : Dev) : d.colStart.calm.view moveMask = d.calm.view moveMask := by
  unfold Dev.colStart Dev.hallFault
  extract_lets d1 per len d2 c r d3 d4 h
  have started : d2.calm.view moveMask = d.calm.view moveMask :=
    (view_each (fun d e => (view_pw ..).trans (view_set (by decide) ..)) _ _).trans (view_stageStart (by decide) ..)
  have counted : d4.calm.view moveMask = d.calm.view moveMask := ((view_inc (by decide) ..).trans (view_set (by decide) ..)).trans started
  split
  · simp (disch := decide) [counted]
  · exact counted

/-- The target of a move is the one it was given. -/
theorem colMove_target (d : Dev) (item : Nat) (target : Int) (speed accel : Nat) (exempt : Bool) :
    (d.colMove item target speed accel exempt).get F.COL_TARGET.TARGET = ofS 32 target % 2 ^ 32 := by
  have planned : (d.colPlan item target speed accel).get F.COL_TARGET.TARGET = ofS 32 target % 2 ^ 32 :=
    Dev.get_set_same d F.COL_TARGET.TARGET _ (by decide)
  refine Eq.trans (get_of_view (m := moveMask) ?_ (by decide)) planned
  unfold Dev.colMove
  extract_lets s d1 d2
  have ready : ∀ e : Dev, e.colReady.calm.view moveMask = e.calm.view moveMask := fun e => by
    simp [Dev.colReady, moveView_colStart]
  simp (disch := decide) [ready, d2, d1, view_loanFile, view_pllDemand]

/-- A move that its check admits goes to its target, after the restart of a stage that was held. -/
theorem colCommand_moves {d : Dev} {item : Nat} {p1 : Int} (hi : item = 1 ∨ item = 2 ∨ item = 6) {target : Int}
    (ht : target = if item = 6 then d.getS F.COL_SAFE_POS.POS else p1) (hc : d.colCheck item target = none) (speed accel : Nat) :
    (d.colCommand item p1 speed accel).2 = none ∧ (d.colCommand item p1 speed accel).1.get F.COL_TARGET.TARGET = ofS 32 target % 2 ^ 32 := by
  rcases hi with rfl | rfl | rfl <;> (simp only [Nat.reduceEqDiff, if_false, if_true] at ht; subst ht; simp [Dev.colCommand, hc, colMove_target])

theorem after_move {s : State} {c : HostCmd} (h : Ready 0x58 c s) {i : Instr} {item : Nat} (he : exec i s = moveCommand item c s) {x : Dev} {P : Dev → Prop}
    (hx : (s.dev.atBeat 0x58 c).colCommand item (toS 32 (arg c 1)) (arg c 2) (arg c 3) = (x, none)) (hp : P (s.dev.answered 0x58 c x 0).settle) :
    After i s P := by
  refine after_main (he.trans (by rw [moveCommand])) h.1 ?_
  rwa [checked_applied h (by decide) hx]

theorem leaves_move {s : State} {c : HostCmd} (h : Ready 0x58 c s) {i : Instr} {item : Nat} (he : exec i s = moveCommand item c s) {x : Dev} {P : Dev → Prop}
    (hx : (s.dev.atBeat 0x58 c).colCommand item (toS 32 (arg c 1)) (arg c 2) (arg c 3) = (x, none)) (hp : P (s.dev.answered 0x58 c x 0)) :
    Leaves i s P := by
  refine leaves_main (he.trans (by rw [moveCommand])) h.1 ?_
  rwa [checked_applied h (by decide) hx]

/-- The items that name a target set it. -/
theorem move_targets {s : State} {c : HostCmd} (h : Ready 0x58 c s) {i : Instr} {item : Nat} (he : exec i s = moveCommand item c s)
    (hi : item = 1 ∨ item = 2 ∨ item = 6) {target : Int}
    (ht : target = if item = 6 then s.dev.getS F.COL_SAFE_POS.POS else toS 32 (arg c 1)) (hc : (s.dev.atBeat 0x58 c).colCheck item target = none) :
    After i s fun d => d.get F.COL_TARGET.TARGET = ofS 32 target % 2 ^ 32 := by
  have safe : (s.dev.atBeat 0x58 c).getS F.COL_SAFE_POS.POS = s.dev.getS F.COL_SAFE_POS.POS :=
    congrArg (toS 32) (atBeat_get s.dev 0x58 c (by decide) (by decide) (by decide))
  obtain ⟨ok, moved⟩ := colCommand_moves hi (ht.trans (by rw [safe])) hc (arg c 2) (arg c 3)
  exact after_move h he (Prod.ext rfl ok) (answered_get (by decide) moved)

theorem moveTo_targets {s : State} {c : HostCmd} (h : Ready 0x58 c s) (hc : (s.dev.atBeat 0x58 c).colCheck 1 (toS 32 (arg c 1)) = none) :
    After (.moveTo c) s fun d => d.get F.COL_TARGET.TARGET = arg c 1 := by
  obtain ⟨t, ht, hp, hv⟩ := move_targets h (exec_moveTo c s) (.inl rfl) rfl hc
  refine ⟨t, ht, hp, hv.trans ?_⟩
  rw [if_neg (by decide), ofS_toS, Nat.mod_mod]
  exact Nat.mod_eq_of_lt (arg_lt c 1)

theorem track_targets {s : State} {c : HostCmd} (h : Ready 0x58 c s) (hc : (s.dev.atBeat 0x58 c).colCheck 2 (toS 32 (arg c 1)) = none) :
    After (.track c) s fun d => d.get F.COL_TARGET.TARGET = arg c 1 := by
  obtain ⟨t, ht, hp, hv⟩ := move_targets h (exec_track c s) (.inr (.inl rfl)) rfl hc
  refine ⟨t, ht, hp, hv.trans ?_⟩
  rw [if_neg (by decide), ofS_toS, Nat.mod_mod]
  exact Nat.mod_eq_of_lt (arg_lt c 1)

theorem park_targets {s : State} {c : HostCmd} (h : Ready 0x58 c s) (hc : (s.dev.atBeat 0x58 c).colCheck 6 (s.dev.getS F.COL_SAFE_POS.POS) = none) :
    After (.park c) s fun d => d.getS F.COL_TARGET.TARGET = s.dev.getS F.COL_SAFE_POS.POS := by
  obtain ⟨t, ht, hp, hv⟩ := move_targets h (exec_park c s) (.inr (.inr rfl)) rfl hc
  refine ⟨t, ht, hp, ?_⟩
  rw [if_pos rfl, show s.dev.getS F.COL_SAFE_POS.POS = toS 32 (s.dev.get F.COL_SAFE_POS.POS) from rfl, ofS_toS, Nat.mod_mod] at hv
  exact (congrArg (toS 32) hv).trans (toS_mod 32 _)

theorem home_targets {s : State} {c : HostCmd} (h : Ready 0x58 c s) (ha : arg c 1 < 2)
    (hc : (s.dev.atBeat 0x58 c).colCheck 5 (s.dev.getS F.COL_TARGET.TARGET) = none) :
    After (.home c) s fun d => d.getS F.COL_TARGET.TARGET = if arg c 1 = 0 then 2 ^ 31 - 1 else -(2 ^ 31) := by
  have now : (s.dev.atBeat 0x58 c).getS F.COL_TARGET.TARGET = s.dev.getS F.COL_TARGET.TARGET :=
    congrArg (toS 32) (atBeat_get s.dev 0x58 c (by decide) (by decide) (by decide))
  have end_ : toS 32 (arg c 1) = arg c 1 := by
    rw [toS, Nat.mod_eq_of_lt (arg_lt c 1), if_pos (lt_trans ha (by decide))]
  refine after_move h (exec_home c s) (x := _) (Prod.ext rfl ?_) ?_
  · simp [Dev.colCommand, now, hc]
  · rw [Dev.getS, get_of_calm (calm_settle_answered ..) (by decide)]
    simp only [Dev.colCommand, now, hc, Nat.reduceEqDiff, or_self, if_false, colMove_target, end_, Int.toNat_natCast]
    have cases : arg c 1 = 0 ∨ arg c 1 = 1 := by omega
    rcases cases with h0 | h0 <;> rw [h0] <;> decide

theorem hold_stops {s : State} {c : HostCmd} (h : Ready 0x58 c s) (hc : (s.dev.atBeat 0x58 c).colCheck 3 (s.dev.getS F.COL_TARGET.TARGET) = none)
    (h1 : 1 ≤ s.dev.get F.COL_STATUS.STATE) (h5 : s.dev.get F.COL_STATUS.STATE ≤ 5) :
    Leaves (.hold c) s fun e => Completed e 0x58 0 c ∧ e.col.stopping = true := by
  have now : (s.dev.atBeat 0x58 c).getS F.COL_TARGET.TARGET = s.dev.getS F.COL_TARGET.TARGET :=
    congrArg (toS 32) (atBeat_get s.dev 0x58 c (by decide) (by decide) (by decide))
  have state : (s.dev.atBeat 0x58 c).get F.COL_STATUS.STATE = s.dev.get F.COL_STATUS.STATE :=
    atBeat_get s.dev 0x58 c (by decide) (by decide) (by decide)
  refine leaves_move h (exec_hold c s) (x := _) (Prod.ext rfl ?_) ⟨completed_answered .., ?_⟩
  · simp [Dev.colCommand, now, hc]
  · refine (congrArg (fun d : Dev => d.col.stopping) (books_answered ..).2).trans ?_
    have running : ¬ s.dev.get F.COL_STATUS.STATE = 7 ∧ ¬ s.dev.get F.COL_STATUS.STATE = 0 := by omega
    simp only [Dev.colCommand, now, hc, state, running.1, running.2, Nat.reduceEqDiff, or_self, if_false]
    split <;> rfl

theorem colBrake_brakes {d : Dev} (h : d.colMoving = true) : d.colBrake.get F.COL_STATUS.STATE = 6 := by
  unfold Dev.colBrake
  rw [if_pos h]
  extract_lets d1 os col d2 d3
  have braking : d2.get F.COL_STATUS.STATE = 6 := Dev.get_set_same _ F.COL_STATUS.STATE 6 (by decide)
  have shown : d3.sight [F.COL_U.U, F.PW_SHADOW.CMP] = d2.sight [F.COL_U.U, F.PW_SHADOW.CMP] :=
    (sight_each _ (fun x e => sight_set x (by decide) ..) _).trans (sight_set d2 (by decide) ..)
  exact (get_of_sight ((sight_arm ..).trans shown) (by decide)).trans braking

theorem driveOff_brakes {s : State} {c : HostCmd} (h : Ready 0x58 c s) (hc : (s.dev.atBeat 0x58 c).colCheck 4 (s.dev.getS F.COL_TARGET.TARGET) = none)
    (hm : s.dev.colMoving = true) : Leaves (.driveOff c) s fun e => Completed e 0x58 0 c ∧ e.get F.COL_STATUS.STATE = 6 := by
  have now : (s.dev.atBeat 0x58 c).getS F.COL_TARGET.TARGET = s.dev.getS F.COL_TARGET.TARGET :=
    congrArg (toS 32) (atBeat_get s.dev 0x58 c (by decide) (by decide) (by decide))
  have state : (s.dev.atBeat 0x58 c).get F.COL_STATUS.STATE = s.dev.get F.COL_STATUS.STATE :=
    atBeat_get s.dev 0x58 c (by decide) (by decide) (by decide)
  have moving : (s.dev.atBeat 0x58 c).colMoving = true := by rw [Dev.colMoving, state]; exact hm
  have running : ¬ s.dev.get F.COL_STATUS.STATE = 7 := by
    intro h7
    simp [Dev.colMoving, h7] at hm
  refine leaves_move h (exec_driveOff c s) (x := _) (Prod.ext rfl ?_) ⟨completed_answered .., ?_⟩
  · simp [Dev.colCommand, now, hc]
  · refine (get_of_sight answered_sight (by decide)).trans ?_
    simp only [Dev.colCommand, now, hc, state, running, Nat.reduceEqDiff, or_self, if_false]
    exact colBrake_brakes moving

/-- Settles O21: each item that its check admits sets its target, stops or brakes. -/
theorem collectorCommands : Obligations.CollectorCommands :=
  ⟨fun _ _ => moveTo_targets, fun _ _ => track_targets, fun _ _ => park_targets, fun _ _ => home_targets, fun _ _ => hold_stops, fun _ _ => driveOff_brakes⟩

end Sys2Proof.Machine
end

section
/-! SUPPORT. CELL_RESTORE of a cell beyond the array's 96 (R272): a block may hold more units of bookkeeping than it has cells, and the place where such a
cell's role would be read is then another register. -/

namespace Sys2Proof.Machine

set_option Elab.async false

open Sys2Proof.Tests

/-- In STOP, with loans that do not add up (source 193, whose class floor is 5) and LE_STATUS.RATE at 3. -/
def strayDev : Dev :=
  let d := (((live.set F.GLB_STATE.DEVICE STOP).set F.LE_STATUS.RATE 3).set F.LOAN_CHIP.BUDGET 77).set F.REG_SRC.CLASS_FLOOR 5 193
  { d with cells := List.replicate 961 default, regs := (F.LANE_STATUS.STATE.key 960 0 0, 5) :: d.regs }

def strayState : State := on fun _ => strayDev
def strayCmd : HostCmd := { cmd with target := 960 }

/-- The role of cell 960 would stand where LE_STATUS.RATE stands. -/
theorem stray_key : F.CELL_STATUS.ROLE.key 960 0 0 = F.LE_STATUS.RATE.key 0 0 0 := rfl

theorem stray_admitted : Ready 0x42 strayCmd strayState ∧ strayCmd.target < strayState.dev.cells.length ∧ strayState.dev.cellRole strayCmd.target = 3
    ∧ strayState.dev.laneUp strayCmd.target = true := by decide +kernel

/-- What is read as the role of cell 960 after a step. -/
def strayRole : Host.Outcome State Fault Refusal → Nat
  | .next t => t.dev.get F.CELL_STATUS.ROLE 960
  | _ => 0

/-- The end of the command's step finds the loans that do not add up; the event of class 5 ends in LOCKOUT, where the Loop Engine's rate is 1. -/
theorem stray_moved : strayRole (exec (.cellRestore strayCmd) strayState) = 1 := by decide +kernel

/-- Refutes O18: with 961 cells in the books, CELL_RESTORE of cell 960 is admitted, but what is read as its role is LE_STATUS.RATE, which an event at the
end of the same step moves from 3 to 1. -/
theorem not_cellCommands : ¬ Obligations.CellCommands := by
  rintro ⟨-, restore⟩
  obtain ⟨ready, inside, role, up⟩ := stray_admitted
  obtain ⟨t, he, -, -, kept⟩ := restore strayState strayCmd ready inside role up
  have moved := stray_moved
  rw [he] at moved
  exact absurd (kept.symm.trans moved) (by decide)

end Sys2Proof.Machine
end

section
/-! SUPPORT. Commands of the module: NOP, SLEEP, DEVICE_RESET, FW_UPDATE, KEY_ENROL and KEY_CHANGE (R60, R87, R89, R95, R122). -/

namespace Sys2Proof.Machine

set_option Elab.async false

theorem exec_nop (c : HostCmd) (s : State) : exec (.nop c) s = execNop c s := rfl
theorem exec_sleep (c : HostCmd) (s : State) : exec (.sleep c) s = execSleep c s := rfl
theorem exec_fwUpdate (c : HostCmd) (s : State) : exec (.fwUpdate c) s = execFwUpdate c s := rfl
theorem exec_keyEnrol (c : HostCmd) (s : State) : exec (.keyEnrol c) s = execKeyEnrol c s := rfl
theorem exec_keyChange (c : HostCmd) (s : State) : exec (.keyChange c) s = execKeyChange c s := rfl

/-! What stands at the effect beat as it stood before -/

@[simp] theorem atBeat_mram (d : Dev) (op : Nat) (c : HostCmd) : (d.atBeat op c).mram = d.mram := by
  simp [Dev.atBeat, Dev.until, Dev.pendSync, each_keeps Dev.mram]

theorem atBeat_cause (d : Dev) (op : Nat) (c : HostCmd) : (d.atBeat op c).pwr.cause = d.pwr.cause := by
  obtain ⟨r, h⟩ := elapse_pwr d (c.beat * 1024 - d.tick)
  simp [Dev.atBeat, Dev.until, h]

theorem atBeat_sleepBusy (d : Dev) (op : Nat) (c : HostCmd) : (d.atBeat op c).sleepBusy = d.sleepBusy := by
  have testEn : (d.atBeat op c).pwr.testEn = d.pwr.testEn := by simp [Dev.atBeat, Dev.until]
  have dumping : (d.atBeat op c).bit F.ARC_STATE.DUMPING = d.bit F.ARC_STATE.DUMPING :=
    Dev.bit_of_get (atBeat_get d op c (by decide) (by decide) (by decide) (by decide) (by decide) (by decide))
  rw [Dev.sleepBusy, Dev.sleepBusy, testEn, dumping, atBeat_get d op c (by decide) (by decide) (by decide) (by decide) (by decide) (by decide),
    atBeat_get d op c (by decide) (by decide) (by decide) (by decide) (by decide) (by decide)]

/-- The memories other than the anchors' rings, as the effect of a command leaves them. -/
theorem answered_mram (d : Dev) (op : Nat) (c : HostCmd) (x : Dev) (r : Nat) : (d.answered op c x r).mram.still = x.mram.still :=
  mram_of_calm (calm_answered ..)

theorem answered_settle_mram (d : Dev) (op : Nat) (c : HostCmd) (x : Dev) (r : Nat) : (d.answered op c x r).settle.mram.still = x.mram.still :=
  mram_of_calm (calm_settle_answered ..)

section
variable {d e : Dev} (h : Books d e)
include h

theorem pwr_of_books : e.pwr = d.pwr := by
  have kept := congrArg Dev.pwr h.2
  exact kept

theorem arr_of_books : e.arr = d.arr := by
  have kept := congrArg Dev.arr h.2
  exact kept

theorem loans_of_books : e.loans = d.loans := by
  have kept := congrArg Dev.loans h.2
  exact kept

theorem loanWait_of_books : e.loanWait = d.loanWait := by
  have kept := congrArg Dev.loanWait h.2
  exact kept

end

theorem keys_of_still {x y : Mram} (h : x.still = y.still) : x.keys = y.keys := by
  have kept := congrArg Mram.keys h
  exact kept

theorem fw_of_still {x y : Mram} (h : x.still = y.still) : x.fw = y.fw := by
  have kept := congrArg Mram.fw h
  exact kept

/-! The end of the main domain -/

theorem safeFlush_pwr (d : Dev) : d.safeFlush.pwr = d.pwr := by
  have latch : d.latchFlush.pwr = d.pwr := by
    unfold Dev.latchFlush
    split
    · split <;> rfl
    · rfl
  have anchor : d.latchFlush.anchorFlush.pwr = d.pwr := (pwr_of_books (books_anchorFlush d.latchFlush)).trans latch
  unfold Dev.safeFlush Dev.safeStore
  extract_lets x
  split
  · split
    · split <;> exact anchor
    · exact anchor
  · exact anchor

theorem holdMain_main (d : Dev) (bit : Nat) (stand : Main) : (d.holdMain bit stand).pwr.main = stand := rfl

theorem holdMain_cause (d : Dev) {bit : Nat} (h : bit ≠ 8) (stand : Main) : (d.holdMain bit stand).pwr.cause = d.pwr.cause ||| 2 ^ bit := by
  have held : (d.holdMain bit stand).pwr.cause = if bit = 8 then d.safeFlush.pwr.cause else d.safeFlush.pwr.cause ||| 2 ^ bit := rfl
  rw [held, if_neg h, safeFlush_pwr]

theorem holdMain_held_live (d : Dev) (bit : Nat) : (d.holdMain bit .held).live = false := rfl

/-- R60: what SLEEP ends with, on command and by idleness. -/
theorem sleepEnter_sleeps (d : Dev) (o : Orig) :
    (d.sleepEnter o).settle.pwr.asleep = true ∧ (d.sleepEnter o).settle.pwr.main = .off ∧ (d.sleepEnter o).settle.pwr.canStb = [true, true] := by
  rw [settle_dead (by rfl)]
  exact ⟨rfl, rfl, rfl⟩

/-! The commands -/

theorem nop_keeps {s : State} {c : HostCmd} (h : Ready 0x01 c s) :
    Leaves (.nop c) s fun e => Completed e 0x01 0 c ∧ e.st = s.dev.st ∧ e.mram.keys = s.dev.mram.keys ∧ e.mram.fw = s.dev.mram.fw := by
  refine leaves_main ((exec_nop ..).trans (by rw [execNop])) h.1 ?_
  rw [simple_applied h (by decide)]
  have mram := answered_mram s.dev 0x01 c (s.dev.atBeat 0x01 c) 0
  rw [atBeat_mram] at mram
  exact ⟨completed_answered .., (st_answered ..).trans (atBeat_st ..), keys_of_still mram, fw_of_still mram⟩

theorem sleep_sleeps {s : State} {c : HostCmd} (h : Ready 0x10 c s) (hb : s.dev.sleepBusy = false) :
    After (.sleep c) s fun d => d.pwr.asleep = true ∧ d.pwr.main = .off ∧ d.pwr.canStb = [true, true] := by
  refine after_main ((exec_sleep ..).trans (by rw [execSleep])) h.1 ?_
  rw [command_applied h (by decide) (x := s.dev.atBeat 0x10 c) (r := 0) (by rw [atBeat_sleepBusy, hb]; rfl)]
  exact sleepEnter_sleeps ..

theorem deviceReset_holds {s : State} {c : HostCmd} (h : Ready 0x11 c s) :
    After (.deviceReset c) s fun d => d.pwr.main = .held ∧ d.pwr.cause = s.dev.pwr.cause ||| 2 ^ 6 := by
  refine after_main ((exec_deviceReset ..).trans (by rw [execDeviceReset])) h.1 ?_
  rw [command_applied h (by decide) rfl]
  dsimp only
  rw [settle_dead (holdMain_held_live ..)]
  refine ⟨rfl, (holdMain_cause _ (by decide) _).trans ?_⟩
  rw [pwr_of_books (books_anchor _ 2), pwr_of_books (books_answered ..), atBeat_cause]

theorem fwUpdate_writes {s : State} {c : HostCmd} (h : Ready 0x12 c s) {x : FwImage} (hx : c.payload = .firmware x) :
    After (.fwUpdate c) s fun d => d.mram.fw = s.dev.mram.fw.set (1 - s.dev.get F.GLB_BOOT.IMAGE) (some x) := by
  refine after_main ((exec_fwUpdate ..).trans (by rw [execFwUpdate])) h.1 ?_
  have image : (s.dev.atBeat 0x12 c).get F.GLB_BOOT.IMAGE = s.dev.get F.GLB_BOOT.IMAGE :=
    atBeat_get s.dev 0x12 c (by decide) (by decide) (by decide) (by decide) (by decide) (by decide)
  rw [checked_applied h (by decide) (by rw [Dev.fwUpdate, hx])]
  refine (fw_of_still (answered_settle_mram ..)).trans ?_
  show (s.dev.atBeat 0x12 c).mram.fw.set (1 - (s.dev.atBeat 0x12 c).get F.GLB_BOOT.IMAGE) (some x) = _
  rw [image, atBeat_mram]

theorem keyEnrol_enrols {s : State} {c : HostCmd} (h : Ready 0x13 c s) {k : List Nat} (hk : c.payload = .key k)
    (he : (s.dev.mram.keys.all fun x => x == .empty) = true) :
    After (.keyEnrol c) s fun d => d.mram.keys = s.dev.mram.keys.set 0 (.digest (sha256 k)) := by
  refine after_main ((exec_keyEnrol ..).trans (by rw [execKeyEnrol])) h.1 ?_
  have fresh : ((s.dev.atBeat 0x13 c).mram.keys.all fun x => x == .empty) = true := by rw [atBeat_mram, he]
  rw [checked_applied h (by decide) (by rw [Dev.keyEnrol, hk]; exact if_pos fresh)]
  refine (keys_of_still (answered_settle_mram ..)).trans ?_
  show (s.dev.atBeat 0x13 c).mram.keys.set 0 _ = _
  rw [atBeat_mram]

/-- A change of keys that its check admits leaves the keys it makes. -/
theorem keyChange_changes {s : State} {c : HostCmd} (h : Ready 0x14 c s) {ks : List KeySlot}
    (hk : (s.dev.atBeat 0x14 c).keyChange c = ({ s.dev.atBeat 0x14 c with mram := { (s.dev.atBeat 0x14 c).mram with keys := ks } }, none)) :
    After (.keyChange c) s fun d => d.mram.keys = ks := by
  refine after_main ((exec_keyChange ..).trans (by rw [execKeyChange])) h.1 ?_
  rw [checked_applied h (by decide) hk]
  exact keys_of_still (answered_settle_mram ..)

/-- R122: a key enrolled in an empty slot. -/
theorem keyChange_enrols {d : Dev} {c : HostCmd} {i j k : Nat} (hs : (d.mram.keys.getD i .empty).live = true)
    (hc : c.payload = .keyChange (some i) (some (j, k)) none) (he : d.mram.keys.getD j .revoked = .empty) :
    d.keyChange c = ({ d with mram := { d.mram with keys := d.mram.keys.set j (.digest k) } }, none) := by
  simp only [Dev.keyChange, hc, hs, he, Bool.not_true, Bool.false_eq_true, if_false, if_true]

/-- R122: a key revoked. -/
theorem keyChange_revokes {d : Dev} {c : HostCmd} {i j : Nat} (hs : (d.mram.keys.getD i .empty).live = true)
    (hc : c.payload = .keyChange (some i) none (some j)) :
    d.keyChange c = ({ d with mram := { d.mram with keys := d.mram.keys.set j .revoked } }, none) := by
  simp only [Dev.keyChange, hc, hs, Bool.not_true, Bool.false_eq_true, if_false]

/-- Settles O14: each command's effect at its beat, read through its log entry and completion; SLEEP and DEVICE_RESET end the main domain. -/
theorem moduleCommands : Obligations.ModuleCommands := by
  refine ⟨fun s c => nop_keeps, fun s c => sleep_sleeps, fun s c => deviceReset_holds, fun s c x h => fwUpdate_writes h,
    fun s c k h => keyEnrol_enrols h, fun s c i j k h hs => ?_⟩
  have keys : (s.dev.atBeat 0x14 c).mram.keys = s.dev.mram.keys := by rw [atBeat_mram]
  refine ⟨fun hc he => keyChange_changes h ?_, fun hc => keyChange_changes h ?_⟩
  · rw [← keys] at hs he ⊢
    exact keyChange_enrols hs hc he
  · rw [← keys] at hs ⊢
    exact keyChange_revokes hs hc

end Sys2Proof.Machine
end

section
/-! SUPPORT. START, STOP, RELEASE and LOCKOUT_RESET (R103, R104, R279, R516). -/

namespace Sys2Proof.Machine

set_option Elab.async false

theorem exec_start (c : HostCmd) (s : State) : exec (.start c) s = execStart c s := rfl
theorem exec_stop (c : HostCmd) (s : State) : exec (.stop c) s = execStop c s := rfl
theorem exec_release (c : HostCmd) (s : State) : exec (.release c) s = execRelease c s := rfl
theorem exec_lockoutReset (c : HostCmd) (s : State) : exec (.lockoutReset c) s = execLockoutReset c s := rfl

/-! The device state entered -/

theorem setState_st (d : Dev) {s : Nat} (hs : s ≠ STAGED) (h8 : s < 2 ^ F.GLB_STATE.DEVICE.w) (hq : d.st ≠ QUIET) (o : Orig) : (d.setState s o).st = s := by
  by_cases h : s = d.st
  · unfold Dev.setState
    extract_lets old
    rw [if_pos (.inl h)]
    exact h.symm
  · refine (st_of_core (core_setState_entered hs (by tauto) o)).trans ?_
    exact (Dev.get_set_same d F.GLB_STATE.DEVICE s (by decide)).trans (Nat.mod_eq_of_lt h8)

/-! The array's unit, which entry to a state and the loans leave alone -/

@[simp] theorem arr_ite {p : Prop} [Decidable p] (x y : Dev) : (if p then x else y).arr = if p then x.arr else y.arr := apply_ite Dev.arr p x y

@[simp] theorem arr_log (d : Dev) (kind : Nat) (o : Orig) (object aux old new r x : Nat) : (d.log kind o object aux old new r x).arr = d.arr :=
  arr_of_books (books_log ..)

theorem arr_each {α : Type} {g : Dev → α → Dev} (h : ∀ d x, (g d x).arr = d.arr) (l : List α) (d : Dev) : (d.each l g).arr = d.arr :=
  each_keeps Dev.arr h l d

@[simp] theorem arr_setB (d : Dev) (f : Fld) (v : Bool) (a b c : Nat) : (d.setB f v a b c).arr = d.arr := Dev.set_arr ..

@[simp] theorem arr_level (d : Dev) (c l : Nat) : (d.level c l).arr = d.arr := by
  unfold Dev.level
  extract_lets x was d1
  have leveled : d1.arr = d.arr := by simp [d1]
  split
  · split <;> simp [leveled]
  · split <;> simp [leveled]

@[simp] theorem arr_stagedEntry (d : Dev) : d.stagedEntry.arr = d.arr := by
  have entered : ∀ full, (d.loopEntry full).arr = d.arr := fun full =>
    (arr_each (fun d k => by simp [Dev.presetYc]) _ _).trans (arr_each (fun d k => by simp [Dev.preset, arr_each]) _ _)
  unfold Dev.stagedEntry
  extract_lets d1 col d2
  simp [d2, d1, entered]

@[simp] theorem arr_setState (d : Dev) (s : Nat) (o : Orig) : (d.setState s o).arr = d.arr := by
  unfold Dev.setState
  extract_lets old d1 d2 a d3 d4 d5 d6 d7
  have entered : d2.arr = d.arr := by simp [d2, d1, Dev.loopRate]
  have archive : d3.arr = d.arr := by simp [d3, Dev.arcStart, entered]
  have silent : d4.arr = d.arr := by simp [d4, Dev.loopSilence, archive]
  have proofs : d5.arr = d.arr := by simp [d5, arr_each, silent]
  have braked : d7.arr = d.arr := by simp [d7, d6, arr_each, proofs]
  simp [Dev.sdoDrop, braked]

@[simp] theorem arr_waitSync (d : Dev) : d.waitSync.arr = d.arr := by simp [Dev.waitSync, each_keeps Dev.arr]
@[simp] theorem arr_loanSync (d : Dev) : d.loanSync.arr = d.arr := by simp [Dev.loanSync]

@[simp] theorem arr_loanReturn (d : Dev) (op inst : Nat) : (d.loanReturn op inst).arr = d.arr := by
  unfold Dev.loanReturn
  extract_lets b
  simp [Dev.loanLog]

@[simp] theorem arr_loanDrop (d : Dev) (op inst : Nat) : (d.loanDrop op inst).arr = d.arr := by simp [Dev.loanDrop]

@[simp] theorem arr_pllDrop (d : Dev) (p user : Nat) : (d.pllDrop p user).arr = d.arr := by
  unfold Dev.pllDrop
  extract_lets u had clk d1 d2
  simp [d2, d1]

theorem arr_grpStop (d : Dev) (g : Nat) : (d.grpStop g).arr = d.arr := by
  unfold Dev.grpStop
  extract_lets s
  simp [Dev.grpLoanEnd]

theorem arr_colStop (d : Dev) : d.colStop.arr = d.arr := by
  unfold Dev.colStop
  extract_lets s col d1
  split <;> rfl

/-! A START in LINKED -/

theorem core_asking (d : Dev) (op inst : Nat) : (d.asking op inst).core = d.core := (core_waitSync _).trans rfl
theorem arr_asking (d : Dev) (op inst : Nat) : (d.asking op inst).arr = d.arr := (arr_waitSync _).trans rfl

/-- R77, R78: a request of an operation would be filed: no save window, a cost within the budget, and a time to wait. -/
def Dev.mayAsk (d : Dev) (op : Nat) : Prop :=
  d.pwr.saveWin = false ∧ d.get F.LOAN_OP_COST.COST op ≤ d.loanBudget (isSite op) ∧ d.get F.LOAN_OP_WAIT.WAIT_MS op ≠ 0

/-- The registers that asking for a PLL may write. -/
def pllFields : List Fld := loanFields ++ [F.PLL_STATUS.DEMAND, F.PLL_STATUS.LOAN_WAIT]

theorem mayAsk_of_sight {d e : Dev} (hp : e.pwr = d.pwr) (hs : e.sight pllFields = d.sight pllFields) {op : Nat} (ho : op < 11) (h : d.mayAsk op) :
    e.mayAsk op := by
  obtain ⟨win, cost, wait⟩ := h
  have budget : e.loanBudget (isSite op) = d.loanBudget (isSite op) := by
    rw [Dev.loanBudget, Dev.loanBudget, get_of_sight hs (by decide), get_of_sight hs (by decide)]
  rw [Dev.mayAsk, hp, budget, get_of_sight hs (by decide) ho, get_of_sight hs (by decide) ho]
  exact ⟨win, cost, wait⟩

theorem asking_pwr (d : Dev) (op inst : Nat) : (d.asking op inst).pwr = d.pwr := by
  simp [Dev.asking, Dev.waitSync, each_keeps Dev.pwr]

/-- R64: a PLL that is asked for files its loan, or is on its way. -/
theorem pllDemand_asks {d : Dev} {p : Nat} (hp : p < 4) (user : Nat) (h : d.mayAsk p) :
    (d.pllDemand p user).core = d.core ∧ (d.pllDemand p user).arr = d.arr := by
  unfold Dev.pllDemand
  extract_lets u clk d1
  unfold Dev.pllAsk
  extract_lets d2
  have core : d2.core = d.core := core_setB (by decide) d1 ..
  have arr : d2.arr = d.arr := arr_setB d1 ..
  split
  · exact ⟨core, arr⟩
  · have kept : (d2.setB F.PLL_STATUS.LOAN_WAIT true p).mayAsk p := by
      refine mayAsk_of_sight (d := d) ?_ ?_ (by omega) h
      · simp [Dev.setB, d2, d1]
      · exact (sight_setB _ (by decide) ..).trans ((sight_setB d1 (by decide) ..).trans (sight_of_regs rfl _))
    rw [loanFile_asks _ p 0 kept.1 kept.2.1 kept.2.2 (by omega)]
    exact ⟨(core_asking ..).trans ((core_setB (by decide) ..).trans core), (arr_asking ..).trans ((arr_setB ..).trans arr)⟩

/-- R104: a START files its loans and is begun. -/
theorem startFile_starts {d : Dev} (h : ∀ op ∈ [2, 4], d.mayAsk op) : d.startFile.arr.starting = true ∧ d.startFile.st = d.st := by
  unfold Dev.startFile
  extract_lets arr d1 d2
  have asked : d1 = Dev.asking { d with arr := { arr with starting := true } } 4 0 := by
    obtain ⟨win, cost, wait⟩ := h 4 (by decide)
    exact loanFile_asks { d with arr := { arr with starting := true } } 4 0 win cost wait (by decide)
  have begun : d1.arr.starting = true := by rw [asked, arr_asking]
  have core1 : d1.core = d.core := by
    rw [asked]
    exact (core_asking ..).trans rfl
  have may : d1.mayAsk 2 := by
    refine mayAsk_of_sight (d := d) ?_ ?_ (by decide) (h 2 (by decide))
    · rw [asked]
      exact (asking_pwr ..).trans rfl
    · rw [asked]
      exact sight_le (by decide) ((sight_asking ..).trans (sight_of_regs rfl _))
  obtain ⟨core2, arr2⟩ := pllDemand_asks (by decide) 2 may
  have demanded : d2 = d1.pllDemand 2 2 := if_pos begun
  have started : d2.arr.starting = true := by rw [demanded, arr2, begun]
  have st2 : d2.st = d.st := by rw [demanded, st_of_core core2, st_of_core core1]
  split
  · exact ⟨started, st2⟩
  · exact ⟨started, st2⟩

/-! The commands -/

theorem atBeat_bit (d : Dev) (op : Nat) (x : HostCmd) {g : Fld} (ht : g.apart F.RSV_TIME.COUNT = true) (hn : g.apart F.RING_PENDING.COUNT = true)
    (hq : g.apart F.xQ_STATUS.PENDING = true) {a b c : Nat} (ha : a < g.n1) (hb : b < g.n2) (hc : c < g.n3) : (d.atBeat op x).bit g a b c = d.bit g a b c :=
  Dev.bit_of_get (atBeat_get d op x ht hn hq ha hb hc)

theorem atBeat_startCheck (d : Dev) (op : Nat) (c : HostCmd) : (d.atBeat op c).startCheck = d.startCheck := by
  have hk : (d.atBeat op c).hk = d.hk := by simp [Dev.atBeat, Dev.until, Dev.pendSync, each_keeps Dev.hk]
  rw [Dev.startCheck, Dev.startCheck, atBeat_st, hk, atBeat_bit d op c (by decide) (by decide) (by decide) (by decide) (by decide) (by decide),
    atBeat_bit d op c (by decide) (by decide) (by decide) (by decide) (by decide) (by decide),
    atBeat_bit d op c (by decide) (by decide) (by decide) (by decide) (by decide) (by decide),
    atBeat_get d op c (by decide) (by decide) (by decide) (by decide) (by decide) (by decide)]

theorem atBeat_arr (d : Dev) (op : Nat) (c : HostCmd) : (d.atBeat op c).arr = d.arr := by simp [Dev.atBeat, Dev.until]

theorem atBeat_mayAsk {d : Dev} {op : Nat} {c : HostCmd} {o : Nat} (ho : o < 11) (h : d.mayAsk o) : (d.atBeat op c).mayAsk o := by
  obtain ⟨win, cost, wait⟩ := h
  have budget : (d.atBeat op c).loanBudget (isSite o) = d.loanBudget (isSite o) := by
    rw [Dev.loanBudget, Dev.loanBudget, atBeat_get d op c (by decide) (by decide) (by decide) (by decide) (by decide) (by decide),
      atBeat_get d op c (by decide) (by decide) (by decide) (by decide) (by decide) (by decide)]
  rw [Dev.mayAsk, atBeat_saveWin, budget, atBeat_get d op c (by decide) (by decide) (by decide) ho (by decide) (by decide),
    atBeat_get d op c (by decide) (by decide) (by decide) ho (by decide) (by decide)]
  exact ⟨win, cost, wait⟩

theorem start_starts {s : State} {c : HostCmd} (h : Ready 0x30 c s) (hs : s.dev.st = LINKED) (hk : s.dev.startCheck = none)
    (ha : s.dev.arr.starting = false) (hm : ∀ op ∈ [2, 4], s.dev.mayAsk op) :
    Leaves (.start c) s fun e => Completed e 0x30 0 c ∧ e.arr.starting = true ∧ e.st = LINKED := by
  refine leaves_main ((exec_start ..).trans (by rw [execStart])) h.1 ?_
  have st : (s.dev.atBeat 0x30 c).st = LINKED := (atBeat_st ..).trans hs
  have idle : ¬ ((s.dev.atBeat 0x30 c).st = LINKED ∧ (s.dev.atBeat 0x30 c).arr.starting = true) := by simp [atBeat_arr, ha]
  have may : ∀ op ∈ [2, 4], (s.dev.atBeat 0x30 c).mayAsk op := fun op hop =>
    atBeat_mayAsk (by rcases List.mem_pair.mp hop with rfl | rfl <;> decide) (hm op hop)
  obtain ⟨starting, linked⟩ := startFile_starts may
  rw [checked_applied h (by decide) (x := (s.dev.atBeat 0x30 c).startFile) (by rw [if_neg idle, atBeat_startCheck, hk]; exact if_pos st)]
  exact ⟨completed_answered .., (congrArg Arr.starting (arr_of_books (books_answered ..))).trans starting,
    (st_answered ..).trans (linked.trans st)⟩

theorem start_again {s : State} {c : HostCmd} (h : Ready 0x30 c s) (hs : s.dev.st = LINKED) (ha : s.dev.arr.starting = true) :
    Leaves (.start c) s fun e => Completed e 0x30 0 c ∧ e.arr.starting = true ∧ e.st = LINKED ∧ e.loans = s.dev.loans ∧ e.loanWait = s.dev.loanWait := by
  refine leaves_main ((exec_start ..).trans (by rw [execStart])) h.1 ?_
  have begun : (s.dev.atBeat 0x30 c).st = LINKED ∧ (s.dev.atBeat 0x30 c).arr.starting = true := by simp [atBeat_arr, ha, hs]
  rw [checked_applied h (by decide) (x := s.dev.atBeat 0x30 c) (by rw [if_pos begun])]
  refine ⟨completed_answered .., (congrArg Arr.starting (arr_of_books (books_answered ..))).trans begun.2, (st_answered ..).trans begun.1,
    (loans_of_books (books_answered ..)).trans ?_, (loanWait_of_books (books_answered ..)).trans ?_⟩
  · simp [Dev.atBeat, Dev.until, Dev.pendSync, each_keeps Dev.loans]
  · simp [Dev.atBeat, Dev.until, Dev.pendSync, each_keeps Dev.loanWait]

theorem start_returns {s : State} {c : HostCmd} (h : Ready 0x30 c s) (hs : s.dev.st = STOP) (hk : s.dev.startCheck = none)
    (hc : (s.dev.atBeat 0x30 c).stillCharged = true) :
    Leaves (.start c) s fun e => Completed e 0x30 0 c ∧ e.st = RUN ∧ e.arr.ramp = none ∧ e.arr.fastFrom = none := by
  refine leaves_main ((exec_start ..).trans (by rw [execStart])) h.1 ?_
  have st : (s.dev.atBeat 0x30 c).st = STOP := (atBeat_st ..).trans hs
  have other : ¬ (s.dev.atBeat 0x30 c).st = LINKED := by rw [st]; decide
  have run : ((s.dev.atBeat 0x30 c).stopClear.setState RUN (Orig.cmd c)).st = RUN :=
    setState_st _ (by decide) (by decide) (by rw [show (s.dev.atBeat 0x30 c).stopClear.st = STOP from st]; decide) _
  rw [checked_applied h (by decide) (x := (s.dev.atBeat 0x30 c).stopClear.setState RUN (Orig.cmd c))
    (by rw [if_neg fun x => other x.1, atBeat_startCheck, hk]; exact (if_neg other).trans (if_pos hc))]
  have arr := (arr_of_books (books_answered s.dev 0x30 c ((s.dev.atBeat 0x30 c).stopClear.setState RUN (Orig.cmd c)) 0)).trans (arr_setState ..)
  exact ⟨completed_answered .., (st_answered ..).trans run, congrArg Arr.ramp arr, congrArg Arr.fastFrom arr⟩

/-- R103: STOP in RUN lays the ramps from the limits in force. -/
theorem orderlyStop_stops {d : Dev} (hs : d.st = RUN) (o : Orig) : (d.orderlyStop o).st = STOP
    ∧ (d.orderlyStop o).arr.ramp = some (((d.get F.ARR_LIMIT.IMPORT * 1000000 : Nat) : Int), ((d.get F.ARR_LIMIT.EXPORT * 1000000 : Nat) : Int)) := by
  unfold Dev.orderlyStop
  rw [if_pos hs]
  extract_lets arr d1
  have core : ((d1.grpStop 0).grpStop 1).colStop.core = d.core := (core_colStop _).trans ((core_grpStop ..).trans ((core_grpStop ..).trans rfl))
  have unit : ((d1.grpStop 0).grpStop 1).colStop.arr = d1.arr := (arr_colStop _).trans ((arr_grpStop ..).trans (arr_grpStop ..))
  refine ⟨setState_st _ (by decide) (by decide) ?_ o, ?_⟩
  · rw [st_of_core core, hs]
    decide
  · rw [arr_setState, unit]

theorem stop_stops {s : State} {c : HostCmd} (h : Ready 0x31 c s) :
    Leaves (.stop c) s fun e => Completed e 0x31 0 c ∧ e.st = STOP
      ∧ e.arr.ramp = some (((s.dev.get F.ARR_LIMIT.IMPORT * 1000000 : Nat) : Int), ((s.dev.get F.ARR_LIMIT.EXPORT * 1000000 : Nat) : Int)) := by
  refine leaves_main ((exec_stop ..).trans (by rw [execStop])) h.1 ?_
  have run : (s.dev.atBeat 0x31 c).st = RUN := by
    obtain ⟨-, permitted, -⟩ := h
    rw [atBeat_st]
    simp [Dev.permits] at permitted
    exact permitted.2
  obtain ⟨stop, ramp⟩ := orderlyStop_stops run (Orig.cmd c)
  rw [simple_applied h (by decide)]
  refine ⟨completed_answered .., (st_answered ..).trans stop, (congrArg Arr.ramp (arr_of_books (books_answered ..))).trans (ramp.trans ?_)⟩
  rw [atBeat_get s.dev 0x31 c (by decide) (by decide) (by decide) (by decide) (by decide) (by decide),
    atBeat_get s.dev 0x31 c (by decide) (by decide) (by decide) (by decide) (by decide) (by decide)]

/-- A unit of a list where one was changed. -/
theorem unit_modify {α : Type} [Inhabited α] (l : List α) (i : Nat) (g : α → α) (hi : i < l.length) : unit (l.modify i g) i = g (unit l i) := by
  simp [unit, hi]

theorem unit_beyond {α : Type} [Inhabited α] {l : List α} {i : Nat} (hi : ¬ i < l.length) : unit l i = default := by
  simp [unit, List.getD_eq_getElem?_getD, Nat.not_lt.mp hi]

/-- A channel whose period has no length is not driven. -/
theorem pwWant_ended (d : Dev) (c : Nat) : (d.pw c fun p => { p with length := 0 }).pwWant c = 0 := by
  have ended : (unit (d.pw c fun p => { p with length := 0 }).pwm c).length = 0 := by
    by_cases hc : c < d.pwm.length
    · exact congrArg Pwm.length (unit_modify d.pwm c _ hc)
    · exact congrArg Pwm.length (unit_beyond (by simpa [Dev.pw] using hc))
  simp [Dev.pwWant, ended]

theorem phDrive_ended (d : Dev) (k : Nat) :
    (d.pw (2 * k) fun p => { p with length := 0 }).phDrive k
      = ((d.pw (2 * k) fun p => { p with length := 0 }).pwOff (2 * k)).pwOff (2 * k + 1) := by
  rw [Dev.phDrive, Dev.pwDrive, pwWant_ended]
  rfl

theorem core_pwOff (d : Dev) (c : Nat) : (d.pwOff c).core = d.core := by
  simp [Dev.pwOff]

theorem arr_pwOff (d : Dev) (c : Nat) : (d.pwOff c).arr = d.arr := by
  simp [Dev.pwOff]

theorem core_grpOff (d : Dev) (g : Nat) : (d.grpOff g).core = d.core := by
  unfold Dev.grpOff
  extract_lets d1 d2
  have off : d2.core = d.core := by simp (disch := decide) [d2, d1]
  refine (core_each (fun e k => ?_) _ _).trans off
  rw [phDrive_ended, core_pwOff, core_pwOff]
  rfl

theorem arr_grpOff (d : Dev) (g : Nat) : (d.grpOff g).arr = d.arr := by
  have phases : ∀ e : Dev, (e.grpPhasesOff g).arr = e.arr := fun e => by
    simp [Dev.grpPhasesOff, arr_each]
  unfold Dev.grpOff
  extract_lets d1 d2
  have off : d2.arr = d.arr := by simp [d2, d1, phases, Dev.grpLoanEnd]
  refine (arr_each (fun e k => ?_) _ _).trans off
  rw [phDrive_ended, arr_pwOff, arr_pwOff]
  rfl

theorem core_grpRelease (d : Dev) : d.grpRelease.core = d.core :=
  core_each (fun e g => by simp [core_grpOff]) _ _

theorem arr_grpRelease (d : Dev) : d.grpRelease.arr = d.arr :=
  arr_each (fun e g => by simp [arr_grpOff]) _ _

/-- R279: what RELEASE does. -/
def Dev.released (d : Dev) (o : Orig) : Dev := ((((d.stopClear).loanReturn 4 0).disarm .loopLoan).pllDrop 2 2).grpRelease.setState LINKED o

theorem released_links {d : Dev} (hs : d.st = STOP) (o : Orig) : (d.released o).st = LINKED ∧ (d.released o).arr = d.stopClear.arr := by
  have core : ((((d.stopClear).loanReturn 4 0).disarm .loopLoan).pllDrop 2 2).grpRelease.core = d.core := by
    refine (core_grpRelease _).trans ((core_pllDrop ..).trans ((core_disarm ..).trans ((core_loanReturn ..).trans rfl)))
  have arr : ((((d.stopClear).loanReturn 4 0).disarm .loopLoan).pllDrop 2 2).grpRelease.arr = d.stopClear.arr := by
    refine (arr_grpRelease _).trans ((arr_pllDrop ..).trans ((Dev.disarm_arr ..).trans (arr_loanReturn ..)))
  refine ⟨setState_st _ (by decide) (by decide) ?_ o, (arr_setState ..).trans arr⟩
  rw [st_of_core core, hs]
  decide

theorem release_releases {s : State} {c : HostCmd} (h : Ready 0x32 c s) :
    Leaves (.release c) s fun e => Completed e 0x32 0 c ∧ e.st = LINKED ∧ e.arr.ramp = none ∧ e.arr.fastFrom = none := by
  refine leaves_main (f := fun d => d.simple 0x32 c fun d => d.released (Orig.cmd c)) ((exec_release ..).trans (by rw [execRelease]; rfl)) h.1 ?_
  have stop : (s.dev.atBeat 0x32 c).st = STOP := by
    obtain ⟨-, permitted, -⟩ := h
    rw [atBeat_st]
    simp [Dev.permits] at permitted
    exact permitted.2.1
  obtain ⟨linked, arr⟩ := released_links stop (Orig.cmd c)
  rw [simple_applied h (by decide)]
  have kept := (arr_of_books (books_answered s.dev 0x32 c ((s.dev.atBeat 0x32 c).released (Orig.cmd c)) 0)).trans arr
  exact ⟨completed_answered .., (st_answered ..).trans linked, congrArg Arr.ramp kept, congrArg Arr.fastFrom kept⟩

theorem atBeat_tick (d : Dev) (op : Nat) (c : HostCmd) (hl : d.live = true) : (d.atBeat op c).tick = max d.tick (c.beat * 1024) := by
  have now : (d.atBeat op c).tick = (d.until (c.beat * 1024)).tick := by simp [Dev.atBeat, Dev.pendSync, each_keeps Dev.tick]
  rw [now, until_tick d _ hl]

/-- R516: an admitted LOCKOUT_RESET opens the window at step 1. -/
theorem lockoutReset_admitted {d : Dev} (c : HostCmd) (hk : d.resetCheck = none) (hz : d.get F.SAF_STATE.RESET_STEP = 0) :
    ∃ x, d.lockoutReset c = (x, none) ∧ x.get F.SAF_STATE.RESET_STEP = 1
      ∧ x.due .resetWin = some (d.tick + d.get F.SAF_GLOBAL.RESET_WIN * 100000000) := by
  unfold Dev.lockoutReset
  rw [hk]
  dsimp only
  rw [if_neg (not_not_intro hz)]
  refine ⟨_, rfl, Dev.get_set_same d F.SAF_STATE.RESET_STEP 1 (by decide), (due_arm ..).trans ?_⟩
  rw [Dev.set_tick]

theorem lockoutReset_opens {s : State} {c : HostCmd} (h : Ready 0x33 c s) (hk : (s.dev.atBeat 0x33 c).resetCheck = none)
    (hz : s.dev.get F.SAF_STATE.RESET_STEP = 0) :
    After (.lockoutReset c) s fun d => d.get F.SAF_STATE.RESET_STEP = 1
      ∧ d.due .resetWin = some (max s.dev.tick (c.beat * 1024) + s.dev.get F.SAF_GLOBAL.RESET_WIN * 100000000) := by
  refine after_main ((exec_lockoutReset ..).trans (by rw [execLockoutReset])) h.1 ?_
  have closed : (s.dev.atBeat 0x33 c).get F.SAF_STATE.RESET_STEP = 0 :=
    (atBeat_get s.dev 0x33 c (by decide) (by decide) (by decide) (by decide) (by decide) (by decide)).trans hz
  obtain ⟨x, opened, step, due⟩ := lockoutReset_admitted c hk closed
  rw [checked_applied h (by decide) opened]
  refine ⟨answered_get (by decide) step, (calm_due (calm_settle_answered ..) _ (by decide)).trans (due.trans ?_)⟩
  rw [atBeat_tick _ _ _ h.1, atBeat_get s.dev 0x33 c (by decide) (by decide) (by decide) (by decide) (by decide) (by decide)]

/-- Settles O16: what START, STOP, RELEASE and LOCKOUT_RESET do at their beat, and that their log entry and completion leave it. -/
theorem energyCommands : Obligations.EnergyCommands := by
  refine ⟨fun s c h hs hk ha hw hc => start_starts h hs hk ha fun op hop => ?_, fun s c h => start_again h, fun s c h => start_returns h,
    fun s c h => stop_stops h, fun s c h => release_releases h, fun s c h => lockoutReset_opens h⟩
  obtain ⟨cost, wait⟩ := hc op hop
  refine ⟨hw, ?_, wait⟩
  rcases List.mem_pair.mp hop with rfl | rfl
  · exact cost
  · exact cost

end Sys2Proof.Machine
end

section
/-! SUPPORT. Deadlines, one by one, and readings after time has passed: what an operation on another deadline, a register or a unit leaves. -/

namespace Sys2Proof.Machine

set_option Elab.async false

theorem get_of_regs {d e : Dev} (h : e.regs = d.regs) (f : Fld) (a b c : Nat) : e.get f a b c = d.get f a b c := by rw [Dev.get, Dev.get, h]
theorem chr_of_calm {d e : Dev} (h : e.calm = d.calm) : e.chr = d.chr := congrArg Calm.chr h
theorem lanes_of_calm {d e : Dev} (h : e.calm = d.calm) : e.lanes = d.lanes := congrArg Calm.lanes h

section
variable (d : Dev) (t : Timer)

@[simp] theorem get_arm (n : Nat) (f : Fld) (a b c : Nat) : (d.arm t n).get f a b c = d.get f a b c := get_of_regs (Dev.arm_regs ..) ..
@[simp] theorem get_disarm (f : Fld) (a b c : Nat) : (d.disarm t).get f a b c = d.get f a b c := get_of_regs (Dev.disarm_regs ..) ..
@[simp] theorem bit_arm (n : Nat) (f : Fld) (a b c : Nat) : (d.arm t n).bit f a b c = d.bit f a b c := Dev.bit_of_get (get_arm ..)
@[simp] theorem bit_disarm (f : Fld) (a b c : Nat) : (d.disarm t).bit f a b c = d.bit f a b c := Dev.bit_of_get (get_disarm ..)



theorem due_of_timers {d e : Dev} (h : e.timers = d.timers) (t : Timer) : e.due t = d.due t := by rw [Dev.due, Dev.due, h]

@[simp] theorem due_disarm_here : (d.disarm t).due t = none := due_disarm d t

@[simp] theorem due_disarm_there {u : Timer} (h : t ≠ u) : (d.disarm u).due t = d.due t := by
  have keep : ∀ l : List (Timer × Nat), (l.filter fun x => x.1 != u).find? (fun x => x.1 == t) = l.find? (fun x => x.1 == t) := by
    intro l
    induction l with
    | nil => rfl
    | cons x l ih =>
      by_cases hx : x.1 = u
      · have skip : (x.1 == t) = false := by simp [hx, Ne.symm h]
        simp [hx, ih, Ne.symm h]
      · simp [hx, ih, List.find?_cons]
  rw [Dev.disarm, Dev.due, Dev.due, keep]

@[simp] theorem due_arm_there {u : Timer} (h : t ≠ u) (n : Nat) : (d.arm u n).due t = d.due t := by
  have skip : (d.arm u n).due t = (d.disarm u).due t := by
    simp [Dev.arm, Dev.disarm, Dev.due, Ne.symm h]
  rw [skip, due_disarm_there d t h]

@[simp] theorem due_set (f : Fld) (v a b c : Nat) : (d.set f v a b c).due t = d.due t := due_of_timers (Dev.set_timers ..) t
@[simp] theorem due_setB (f : Fld) (v : Bool) (a b c : Nat) : (d.setB f v a b c).due t = d.due t := due_set ..
@[simp] theorem due_setS (f : Fld) (v : Int) (a b c : Nat) : (d.setS f v a b c).due t = d.due t := due_set ..
@[simp] theorem due_inc (f : Fld) (n a b c : Nat) : (d.inc f n a b c).due t = d.due t := due_set ..
@[simp] theorem due_ite {p : Prop} [Decidable p] (x y : Dev) : (if p then x else y).due t = if p then x.due t else y.due t :=
  apply_ite (fun d : Dev => d.due t) p x y
@[simp] theorem due_until (n : Nat) : (d.until n).due t = d.due t := elapse_due ..

theorem due_each {α : Type} {g : Dev → α → Dev} (h : ∀ d x, (g d x).due t = d.due t) (l : List α) : (d.each l g).due t = d.due t :=
  each_keeps (fun d : Dev => d.due t) h l d

end

/-! Time that has passed -/

section
variable (d : Dev) (n : Nat) {g : Fld} (h : g.apart F.RSV_TIME.COUNT = true)
include h

theorem until_get {a b c : Nat} (ha : a < g.n1 := by decide) (hb : b < g.n2 := by decide) (hc : c < g.n3 := by decide) :
    (d.until n).get g a b c = d.get g a b c := elapse_get d _ h ha hb hc

theorem until_bit {a b c : Nat} (ha : a < g.n1 := by decide) (hb : b < g.n2 := by decide) (hc : c < g.n3 := by decide) :
    (d.until n).bit g a b c = d.bit g a b c := elapse_bit d _ h ha hb hc

end

/-- A deadline that comes: what its event leaves at the end of the step. -/
theorem after_fire {s : State} {i : Instr} {t : Timer} {x : Nat} {g : Dev → Dev} {P : Dev → Prop} (he : exec i s = onMain s fun d => d.fire t g)
    (hl : s.dev.live = true) (hd : s.dev.due t = some x) (ha : s.dev.ahead x = true) (hp : P (g ((s.dev.until x).disarm t)).settle) : After i s P :=
  after_main he hl (by rwa [fire_due hd ha])

theorem leaves_fire {s : State} {i : Instr} {t : Timer} {x : Nat} {g : Dev → Dev} {P : Dev → Prop} (he : exec i s = onMain s fun d => d.fire t g)
    (hl : s.dev.live = true) (hd : s.dev.due t = some x) (ha : s.dev.ahead x = true) (hp : P (g ((s.dev.until x).disarm t))) : Leaves i s P :=
  leaves_main he hl (by rwa [fire_due hd ha])

end Sys2Proof.Machine
end

section
/-! SUPPORT. The Chronometer: a set, holdover, and the PPS (R451, R456, R457, R467 to R469). -/

namespace Sys2Proof.Machine

set_option Elab.async false

theorem exec_chrSetApply (s : State) : exec .chrSetApply s = execChrSetApply s := rfl
theorem exec_holdoverStart (s : State) : exec .holdoverStart s = execHoldoverStart s := rfl
theorem exec_holdoverExpiry (s : State) : exec .holdoverExpiry s = execHoldoverExpiry s := rfl
theorem exec_ppsInEdge (instant : Nat) (s : State) : exec (.ppsInEdge instant) s = execPpsInEdge instant s := rfl
theorem exec_ppsInTimeout (s : State) : exec .ppsInTimeout s = execPpsInTimeout s := rfl
theorem exec_ppsOutPulse (rise : Bool) (s : State) : exec (.ppsOutPulse rise) s = execPpsOutPulse rise s := rfl

/-! What the operations of network time leave -/

/-- The block without its metering. -/
def Dev.offMet (d : Dev) : Dev := { d with metEl := [], met := default }

section
variable {d e : Dev} (h : e.offMet = d.offMet)
include h

theorem regs_of_offMet : e.regs = d.regs := by
  have kept := congrArg Dev.regs h
  exact kept

theorem timers_of_offMet : e.timers = d.timers := by
  have kept := congrArg Dev.timers h
  exact kept

theorem tick_of_offMet : e.tick = d.tick := by
  have kept := congrArg Dev.tick h
  exact kept

theorem chr_of_offMet : e.chr = d.chr := by
  have kept := congrArg Dev.chr h
  exact kept

end

theorem mel_offMet (d : Dev) (k : Nat) (g : MetEl → MetEl) : (d.mel k g).offMet = d.offMet := rfl

/-- The ends of open intervals are fixed in the metering elements only. -/
theorem endsFix_offMet (d : Dev) : d.endsFix.offMet = d.offMet := by
  refine each_keeps Dev.offMet (fun e x => ?_) _ d
  split
  · split <;> rfl
  · rfl

theorem stepFlag_offMet (d : Dev) : d.stepFlag.offMet = d.offMet := by
  have flagged : ∀ es, (d.metFlag es 4).offMet = d.offMet := fun es => by
    unfold Dev.metFlag
    exact each_keeps Dev.offMet (fun e k => mel_offMet e k _) _ d
  exact flagged _

theorem cond_disarm_regs (d : Dev) (b : Bool) (t : Timer) : (d.cond b (·.disarm t)).regs = d.regs := by cases b <;> rfl
theorem cond_disarm_chr (d : Dev) (b : Bool) (t : Timer) : (d.cond b (·.disarm t)).chr = d.chr := by cases b <;> rfl
theorem cond_disarm_due (d : Dev) (b : Bool) {t u : Timer} (h : t ≠ u) : (d.cond b (·.disarm u)).due t = d.due t := by
  cases b
  · rfl
  · exact due_disarm_there d t h

theorem ntSet_regs (d : Dev) (t : Int) : (d.ntSet t).regs = d.regs := rfl
theorem ntSet_timers (d : Dev) (t : Int) : (d.ntSet t).timers = d.timers := rfl
theorem ntSet_chr (d : Dev) (t : Int) : ∃ a b, (d.ntSet t).chr = { d.chr with sec := a, frac := b } := ⟨_, _, rfl⟩

section
variable (d : Dev) (s : Nat)

/-- The registers of the state of network time. -/
def ntFields : List Fld := [F.CHR_STATE.NT_STATE, F.CHR_STATE.VALID]

theorem ntState_sight : (d.ntState s).sight ntFields = d.sight ntFields := by
  unfold Dev.ntState
  refine (sight_setB _ (by decide) ..).trans ((sight_set _ (by decide) ..).trans (sight_of_regs ?_ _))
  exact (cond_disarm_regs ..).trans (regs_of_offMet (endsFix_offMet d))

theorem ntState_shows (hs : s < 8) : (d.ntState s).get F.CHR_STATE.NT_STATE = s ∧ (d.ntState s).bit F.CHR_STATE.VALID = decide (s = 1 ∨ s = 3 ∨ s = 4) := by
  constructor
  · rw [Dev.ntState, Dev.get_setB_apart _ (by decide) _ (by decide) (by decide) (by decide), Dev.get_set_here _ _ _ (by decide) (by decide) (by decide)]
    exact Nat.mod_eq_of_lt hs
  · exact Dev.bit_setB_same _ (by decide) _ (by decide) (by decide) (by decide)

theorem ntState_due {t : Timer} (h : t ≠ .holdover) : (d.ntState s).due t = d.due t := by
  rw [Dev.ntState, due_setB, due_set, cond_disarm_due _ _ h]
  exact due_of_timers (timers_of_offMet (endsFix_offMet d)) t

theorem ntState_chr : (d.ntState s).chr = d.chr := by
  rw [Dev.ntState, Dev.setB, Dev.set_chr, Dev.set_chr, cond_disarm_chr]
  exact chr_of_offMet (endsFix_offMet d)

theorem ntState_expires (h : s ≠ 4) : (d.ntState s).due .holdover = none := by
  have other : (s != 4) = true := by simpa using h
  rw [Dev.ntState, due_setB, due_set, other]
  exact due_disarm_here ..

end

section
variable (d : Dev) (x : Int) (who : Nat)

/-- A step of network time before its event. -/
def Dev.stepped : Dev := (((d.endsFix).ntSet ((d.nt : Int) + x)).inc F.CHR_STEPS.COUNT 1).stepFlag

theorem ntStep_calm : (d.ntStep x who).calm = (d.stepped x).calm := by
  rw [Dev.ntStep, calm_raise, Dev.stepped]

theorem stepped_sight : (d.stepped x).sight [F.CHR_STEPS.COUNT] = d.sight [F.CHR_STEPS.COUNT] := by
  refine (sight_of_regs (regs_of_offMet (stepFlag_offMet _)) _).trans ((sight_inc _ (by decide) ..).trans (sight_of_regs ?_ _))
  rw [ntSet_regs, regs_of_offMet (endsFix_offMet d)]

theorem stepped_due (t : Timer) : (d.stepped x).due t = d.due t := by
  refine (due_of_timers (timers_of_offMet (stepFlag_offMet _)) t).trans ((due_inc ..).trans (due_of_timers ?_ t))
  rw [ntSet_timers, timers_of_offMet (endsFix_offMet d)]

theorem stepped_chr : ∃ a b, (d.stepped x).chr = { d.chr with sec := a, frac := b } := by
  obtain ⟨a, b, set⟩ := ntSet_chr d.endsFix (d.nt + x)
  refine ⟨a, b, (chr_of_offMet (stepFlag_offMet _)).trans ((Dev.set_chr ..).trans ?_)⟩
  rw [set, chr_of_offMet (endsFix_offMet d)]

end

/-! A step, as it is read at the end of the command -/

section
variable (d : Dev) (x : Int) (who : Nat)

theorem ntStep_get {f : Fld} (hf : f.calm = true) (ha : [F.CHR_STEPS.COUNT].all f.apart = true) {a b c : Nat} (h1 : a < f.n1 := by decide)
    (h2 : b < f.n2 := by decide) (h3 : c < f.n3 := by decide) : (d.ntStep x who).get f a b c = d.get f a b c :=
  (get_of_calm (ntStep_calm ..) hf h1 h2 h3).trans (get_of_sight (stepped_sight ..) ha h1 h2 h3)

theorem ntStep_due {t : Timer} (ht : t.calm = true) : (d.ntStep x who).due t = d.due t :=
  (calm_due (ntStep_calm ..) t ht).trans (stepped_due ..)

theorem ntStep_chr : ∃ a b, (d.ntStep x who).chr = { d.chr with sec := a, frac := b } := by
  obtain ⟨a, b, h⟩ := stepped_chr d x
  exact ⟨a, b, (chr_of_calm (ntStep_calm d x who)).trans h⟩

end

/-- What follows a due set after its step: the step of the servo that waited for it. -/
def Dev.pendDone (d : Dev) : Dev :=
  match d.chr.pendStep with
  | some x => (({ d with chr := { d.chr with pendStep := none } }).elapse 1).ntStep x 1
  | none => d

theorem pendDone_get (d : Dev) {f : Fld} (hf : f.calm = true) (ha : [F.CHR_STEPS.COUNT].all f.apart = true) (ht : f.apart F.RSV_TIME.COUNT = true) {a b c : Nat}
    (h1 : a < f.n1 := by decide) (h2 : b < f.n2 := by decide) (h3 : c < f.n3 := by decide) : d.pendDone.get f a b c = d.get f a b c := by
  unfold Dev.pendDone
  split
  · refine (ntStep_get _ _ _ hf ha h1 h2 h3).trans ?_
    refine (elapse_get _ 1 ht h1 h2 h3).trans ?_
    exact get_of_regs rfl f a b c
  · rfl

theorem pendDone_due (d : Dev) {t : Timer} (ht : t.calm = true) : d.pendDone.due t = d.due t := by
  unfold Dev.pendDone
  split
  · refine (ntStep_due _ _ _ ht).trans ?_
    refine (elapse_due ..).trans ?_
    exact due_of_timers rfl t
  · rfl

/-- R457: a set's instant. -/
def Dev.setDone (d : Dev) : Dev :=
  let want : Int := ((d.get F.CHR_SET_SEC.SEC * 1000000000 + d.get F.CHR_SET_NS.NS : Nat) : Int) * 2 ^ 32
  let d := (d.setB F.CHR_STATE.SET_ARMED false).ntStep (want - (d.nt : Int)) 0
  let d := if d.get F.CHR_SERVO.SOURCE = 0 then d.ntState 1 else d
  ({ d with chr := { d.chr with setAt := some d.tick } } : Dev).pendDone

theorem setDone_shows (d : Dev) : d.setDone.bit F.CHR_STATE.SET_ARMED = false ∧ d.setDone.due .set = d.due .set
    ∧ (d.get F.CHR_SERVO.SOURCE = 0 → d.setDone.get F.CHR_STATE.NT_STATE = 1 ∧ d.setDone.bit F.CHR_STATE.VALID = true) := by
  unfold Dev.setDone
  extract_lets want d1 d2 chr
  have armed1 : d1.bit F.CHR_STATE.SET_ARMED = false := by
    refine (Dev.bit_of_get (ntStep_get _ _ _ (by decide) (by decide))).trans ?_
    exact Dev.bit_setB_same d (by decide) false (by decide) (by decide) (by decide)
  have due1 : d1.due .set = d.due .set := (ntStep_due _ _ _ (by decide)).trans (due_setB ..)
  have source : d1.get F.CHR_SERVO.SOURCE = d.get F.CHR_SERVO.SOURCE :=
    (ntStep_get _ _ _ (by decide) (by decide)).trans (Dev.get_setB_apart d (by decide) _ (by decide) (by decide) (by decide))
  have armed2 : d2.bit F.CHR_STATE.SET_ARMED = false := by
    simp only [d2]
    split
    · exact (bit_of_sight (ntState_sight d1 1) (by decide)).trans armed1
    · exact armed1
  have due2 : d2.due .set = d.due .set := by
    simp only [d2]
    split
    · exact (ntState_due d1 1 (by decide)).trans due1
    · exact due1
  refine ⟨(Dev.bit_of_get (pendDone_get _ (by decide) (by decide) (by decide))).trans armed2, (pendDone_due _ (by decide)).trans due2, fun h => ?_⟩
  have entered : d2 = d1.ntState 1 := if_pos (source.trans h)
  obtain ⟨state, valid⟩ := ntState_shows d1 1 (by decide)
  refine ⟨(pendDone_get _ (by decide) (by decide) (by decide)).trans ?_, (Dev.bit_of_get (pendDone_get _ (by decide) (by decide) (by decide))).trans ?_⟩
  · show d2.get F.CHR_STATE.NT_STATE = 1
    rw [entered, state]
  · show d2.bit F.CHR_STATE.VALID = true
    rw [entered, valid]
    rfl

theorem chrSetApply_sets {s : State} {x : Nat} (hl : s.dev.live = true) (hd : s.dev.due .set = some x) (ha : s.dev.ahead x = true) :
    After .chrSetApply s fun d => d.bit F.CHR_STATE.SET_ARMED = false ∧ d.due .set = none
      ∧ (s.dev.get F.CHR_SERVO.SOURCE = 0 → d.get F.CHR_STATE.NT_STATE = 1 ∧ d.bit F.CHR_STATE.VALID = true) := by
  refine after_fire (g := Dev.setDone) ((exec_chrSetApply s).trans (by rw [execChrSetApply]; rfl)) hl hd ha ?_
  obtain ⟨armed, due, shown⟩ := setDone_shows ((s.dev.until x).disarm .set)
  refine ⟨(settle_bit _ (by decide)).trans armed, (calm_due (calm_settle _) _ (by decide)).trans (due.trans (due_disarm_here ..)), fun h => ?_⟩
  obtain ⟨state, valid⟩ := shown ((until_get s.dev x (by decide)).trans h)
  exact ⟨(settle_get _ (by decide)).trans state, (settle_bit _ (by decide)).trans valid⟩

/-! Holdover -/

/-- The registers that the rate and the state of network time are kept in. -/
def rateFields : List Fld := [F.CHR_RATE.R, F.CHR_INC.INC] ++ ntFields

/-- The rate in force, once the ends of open intervals are fixed. -/
def Dev.rated (d : Dev) (x : Chr) : Dev :=
  (({ d with chr := x } : Dev).set F.CHR_RATE.R (fRnd x.r)).set F.CHR_INC.INC (rRound (42949672960 * (1 + x.r / 1000000000))).toNat

theorem rated_sight (d : Dev) (x : Chr) : (d.rated x).sight rateFields = d.sight rateFields :=
  (sight_set _ (by decide) ..).trans ((sight_set _ (by decide) ..).trans (sight_of_regs rfl _))
theorem rated_due (d : Dev) (x : Chr) (t : Timer) : (d.rated x).due t = d.due t := (due_set ..).trans ((due_set ..).trans (due_of_timers rfl t))
theorem rated_chr (d : Dev) (x : Chr) : (d.rated x).chr = x := (Dev.set_chr ..).trans (Dev.set_chr ..)
theorem rated_tick (d : Dev) (x : Chr) : (d.rated x).tick = d.tick := (Dev.set_tick ..).trans (Dev.set_tick ..)

theorem setRate_eq (d : Dev) (r : Rat) : d.setRate r = d.endsFix.rated { d.chr with r := r } := by
  rw [Dev.setRate, Dev.rated]

theorem setRate_sight (d : Dev) (r : Rat) : (d.setRate r).sight rateFields = d.sight rateFields := by
  rw [setRate_eq, rated_sight]
  exact sight_of_regs (regs_of_offMet (endsFix_offMet d)) _

theorem setRate_due (d : Dev) (r : Rat) (t : Timer) : (d.setRate r).due t = d.due t := by
  rw [setRate_eq, rated_due]
  exact due_of_timers (timers_of_offMet (endsFix_offMet d)) t

theorem setRate_chr (d : Dev) (r : Rat) : (d.setRate r).chr.r = r := by
  rw [setRate_eq, rated_chr]

theorem setRate_tick (d : Dev) (r : Rat) : (d.setRate r).tick = d.tick := by
  rw [setRate_eq, rated_tick, tick_of_offMet (endsFix_offMet d)]

theorem cond_disarm_tick (d : Dev) (b : Bool) (t : Timer) : (d.cond b (·.disarm t)).tick = d.tick := by cases b <;> rfl

theorem ntState_tick (d : Dev) (s : Nat) : (d.ntState s).tick = d.tick := by
  rw [Dev.ntState, Dev.setB, Dev.set_tick, Dev.set_tick, cond_disarm_tick, tick_of_offMet (endsFix_offMet d)]

/-- The block at the beginning of holdover, before its event. -/
def Dev.holding (d : Dev) : Dev :=
  let x := ((d.setRate (-d.chr.i)).ntState 4).disarm .measure
  x.arm .holdover (x.get F.CHR_HOLD.HOLDOVER_S * 100000000)

theorem holdover_calm {d : Dev} (h3 : d.get F.CHR_STATE.NT_STATE = 3) (hs : d.get F.CHR_SERVO.SOURCE ≠ 0) (why : Nat) :
    (d.holdover why).calm = d.holding.calm := by
  rw [Dev.holdover, if_pos ⟨h3, hs⟩, calm_raise, Dev.holding]

theorem holding_shows (d : Dev) : d.holding.get F.CHR_STATE.NT_STATE = 4 ∧ d.holding.bit F.CHR_STATE.VALID = true ∧ d.holding.due .measure = none
    ∧ d.holding.due .holdover = some (d.tick + d.get F.CHR_HOLD.HOLDOVER_S * 100000000) ∧ d.holding.chr.r = -d.chr.i := by
  unfold Dev.holding
  extract_lets x
  obtain ⟨state, valid⟩ := ntState_shows (d.setRate (-d.chr.i)) 4 (by decide)
  have hold : x.get F.CHR_HOLD.HOLDOVER_S = d.get F.CHR_HOLD.HOLDOVER_S :=
    (get_of_regs (Dev.disarm_regs ..) ..).trans
      ((get_of_sight (ntState_sight (d.setRate (-d.chr.i)) 4) (by decide)).trans (get_of_sight (setRate_sight ..) (by decide)))
  have regs : (x.arm .holdover (x.get F.CHR_HOLD.HOLDOVER_S * 100000000)).regs = ((d.setRate (-d.chr.i)).ntState 4).regs :=
    (Dev.arm_regs ..).trans (Dev.disarm_regs ..)
  refine ⟨(get_of_regs regs ..).trans state, (Dev.bit_of_get (get_of_regs regs ..)).trans valid, ?_, ?_, ?_⟩
  · rw [due_arm_there x .measure (by decide)]
    exact due_disarm_here ..
  · have now : x.tick = d.tick := (Dev.disarm_tick ..).trans ((ntState_tick ..).trans (setRate_tick ..))
    rw [due_arm, hold, now]
  · simp only [x, Dev.arm_chr, Dev.disarm_chr, ntState_chr, setRate_chr]

/-- Passing time moves network time itself, and nothing else of the Chronometer's state. -/
theorem elapse_chr (d : Dev) (n : Nat) : ∃ a b, (d.elapse n).chr = { d.chr with sec := a, frac := b } := by
  simp only [Dev.elapse]
  split <;> split
  · exact ⟨_, _, by rw [Dev.inc, Dev.set_chr]⟩
  · exact ⟨d.chr.sec, d.chr.frac, by rw [Dev.inc, Dev.set_chr]⟩
  · exact ⟨_, _, rfl⟩
  · exact ⟨d.chr.sec, d.chr.frac, rfl⟩

theorem until_servo (d : Dev) (n : Nat) : (d.until n).chr.i = d.chr.i := by
  obtain ⟨a, b, h⟩ := elapse_chr d (n - d.tick)
  rw [Dev.until, h]

theorem holdoverStart_holds {s : State} {x : Nat} (hl : s.dev.live = true) (h3 : s.dev.get F.CHR_STATE.NT_STATE = 3)
    (hs : s.dev.get F.CHR_SERVO.SOURCE ≠ 0) (hd : s.dev.due .measure = some x) (ha : s.dev.ahead x = true) :
    After .holdoverStart s fun d => d.get F.CHR_STATE.NT_STATE = 4 ∧ d.bit F.CHR_STATE.VALID = true ∧ d.due .measure = none
      ∧ d.due .holdover = some (max s.dev.tick x + s.dev.get F.CHR_HOLD.HOLDOVER_S * 100000000) ∧ d.chr.r = -s.dev.chr.i := by
  refine after_main ((exec_holdoverStart s).trans (by rw [execHoldoverStart])) hl ?_
  rw [if_pos ⟨h3, hs⟩, fire_due hd ha]
  have calm := (calm_settle _).trans (holdover_calm (d := (s.dev.until x).disarm .measure) ((until_get s.dev x (by decide)).trans h3)
    (by rwa [show ((s.dev.until x).disarm .measure).get F.CHR_SERVO.SOURCE = s.dev.get F.CHR_SERVO.SOURCE from until_get s.dev x (by decide)]) 0)
  obtain ⟨state, valid, measure, hold, rate⟩ := holding_shows ((s.dev.until x).disarm .measure)
  refine ⟨(get_of_calm calm (by decide)).trans state, (bit_of_calm calm (by decide)).trans valid, (calm_due calm _ (by decide)).trans measure,
    (calm_due calm _ (by decide)).trans (hold.trans ?_), (congrArg Chr.r (chr_of_calm calm)).trans (rate.trans ?_)⟩
  · show some ((s.dev.until x).tick + (s.dev.until x).get F.CHR_HOLD.HOLDOVER_S * 100000000) = _
    rw [until_tick _ _ hl, until_get s.dev x (by decide)]
  · show -(s.dev.until x).chr.i = _
    rw [until_servo]

theorem holdoverExpiry_ends {s : State} {x : Nat} (hl : s.dev.live = true) (h4 : s.dev.get F.CHR_STATE.NT_STATE = 4)
    (hd : s.dev.due .holdover = some x) (ha : s.dev.ahead x = true) :
    After .holdoverExpiry s fun d => d.get F.CHR_STATE.NT_STATE = 0 ∧ d.bit F.CHR_STATE.VALID = false ∧ d.due .holdover = none := by
  refine after_fire ((exec_holdoverExpiry s).trans (by rw [execHoldoverExpiry])) hl hd ha ?_
  have held : ((s.dev.until x).disarm .holdover).get F.CHR_STATE.NT_STATE = 4 := (until_get s.dev x (by decide)).trans h4
  rw [if_pos held]
  have calm := (calm_settle _).trans (calm_raise (((s.dev.until x).disarm .holdover).ntState 0) 178 1 2
    (leBytes 4 (((s.dev.until x).disarm .holdover).get F.CHR_RATE.R)) none none)
  obtain ⟨state, valid⟩ := ntState_shows ((s.dev.until x).disarm .holdover) 0 (by decide)
  exact ⟨(get_of_calm calm (by decide)).trans state, (bit_of_calm calm (by decide)).trans valid,
    (calm_due calm _ (by decide)).trans (ntState_expires _ 0 (by decide))⟩

theorem ppsInTimeout_holds {s : State} {x : Nat} (hl : s.dev.live = true) (hs : s.dev.get F.CHR_SERVO.SOURCE = 4) (hd : s.dev.due .ppsIn = some x)
    (ha : s.dev.ahead x = true) (h3 : s.dev.get F.CHR_STATE.NT_STATE = 3) : After .ppsInTimeout s fun d => d.get F.CHR_STATE.NT_STATE = 4 := by
  refine after_main ((exec_ppsInTimeout s).trans (by rw [execPpsInTimeout])) hl ?_
  rw [if_pos hs, fire_due hd ha]
  have calm := (calm_settle _).trans (holdover_calm (d := (s.dev.until x).disarm .ppsIn) ((until_get s.dev x (by decide)).trans h3)
    (by rw [show ((s.dev.until x).disarm .ppsIn).get F.CHR_SERVO.SOURCE = s.dev.get F.CHR_SERVO.SOURCE from until_get s.dev x (by decide), hs]; decide) 0)
  exact (get_of_calm calm (by decide)).trans (holding_shows _).1

/-! The PPS -/

theorem ppsOutPulse_rises {s : State} (hl : s.dev.live = true) (ho : s.dev.bit F.PPS_CFG.OUT_EN = true) (hv : s.dev.bit F.CHR_STATE.VALID = true)
    (hp : s.dev.pwr.ppsOut = false) {t : Nat}
    (ht : t = s.dev.tick * 64 + ((1000000000 * 2 ^ 32 - s.dev.chr.frac) * 64 + max 1 (s.dev.get F.CHR_INC.INC) - 1) / max 1 (s.dev.get F.CHR_INC.INC))
    (ha : s.dev.ahead (t / 64) = true) :
    After (.ppsOutPulse true) s fun d => d.pwr.ppsOut = true ∧ d.pwr.ppsAt = t ∧ d.due .ppsFall = some (d.tick + msT 100) := by
  subst ht
  refine after_main ((exec_ppsOutPulse ..).trans (by rw [execPpsOutPulse])) hl ?_
  rw [if_pos rfl, if_pos (by simp [ho, hv, hp])]
  extract_lets inc t
  rw [wait_ahead ha]
  have pwr := pwr_of_calm (calm_settle (({ s.dev.until (t / 64) with pwr := { (s.dev.until (t / 64)).pwr with ppsOut := true, ppsAt := t } } : Dev).arm .ppsFall (msT 100)))
  refine ⟨congrArg Pwr.ppsOut pwr, congrArg Pwr.ppsAt pwr, ?_⟩
  rw [calm_due (calm_settle _) _ (by decide), tick_of_calm (calm_settle _)]
  exact due_arm ..

theorem ppsOutPulse_falls {s : State} {x : Nat} (hl : s.dev.live = true) (hd : s.dev.due .ppsFall = some x) (ha : s.dev.ahead x = true) :
    After (.ppsOutPulse false) s fun d => d.pwr.ppsOut = false := by
  refine after_main ((exec_ppsOutPulse ..).trans (by rw [execPpsOutPulse])) hl ?_
  rw [if_neg (by decide), fire_due hd ha]
  exact congrArg Pwr.ppsOut (pwr_of_calm (calm_settle _))

/-! The base of a time-stamp (R451) -/

section
variable (d : Dev)

theorem edge_ntState (s : Nat) : (d.ntState s).chr.edge0 = d.chr.edge0 := congrArg Chr.edge0 (ntState_chr d s)

theorem edge_ntStep (x : Int) (who : Nat) : (d.ntStep x who).chr.edge0 = d.chr.edge0 := by
  obtain ⟨a, b, h⟩ := ntStep_chr d x who
  rw [h]

theorem edge_elapse (n : Nat) : (d.elapse n).chr.edge0 = d.chr.edge0 := by
  obtain ⟨a, b, h⟩ := elapse_chr d n
  rw [h]

theorem edge_chrLock (cls : Nat) (th : Rat) : (d.chrLock cls th).chr.edge0 = d.chr.edge0 := congrArg Chr.edge0 (chr_of_calm (calm_raise ..))

theorem edge_rated (x : Chr) : (d.rated x).chr.edge0 = x.edge0 := by rw [rated_chr]

theorem edge_setRate (r : Rat) : (d.setRate r).chr.edge0 = d.chr.edge0 := by rw [setRate_eq, edge_rated]

theorem edge_ite {p : Prop} [Decidable p] (x y : Dev) : (if p then x else y).chr.edge0 = if p then x.chr.edge0 else y.chr.edge0 :=
  apply_ite (fun d : Dev => d.chr.edge0) p x y

theorem edge_servoHeard (th : Rat) : (d.servoHeard th).chr.edge0 = d.chr.edge0 := by
  simp [Dev.servoHeard, edge_ntState, edge_ite]

theorem edge_servoLock (th : Rat) : (d.servoLock th).chr.edge0 = d.chr.edge0 := by
  simp [Dev.servoLock, edge_ntState, edge_chrLock, edge_ite]

theorem edge_servoRate (th : Rat) : (d.servoRate th).chr.edge0 = d.chr.edge0 := by
  simp [Dev.servoRate, edge_setRate]

theorem edge_measure (th : Rat) : (d.measure th).chr.edge0 = d.chr.edge0 := by
  unfold Dev.measure
  extract_lets d1 chr1 d2 by_ chr2 d3
  have heard : d1.chr.edge0 = d.chr.edge0 := by simp [d1, edge_servoHeard]
  have left : d2.chr.edge0 = d.chr.edge0 := by simp [d2, chr1, edge_ntState, heard]
  have rated : ((d3.servoLock th).arm .measure (msT (d3.get F.CHR_HOLD.TIMEOUT_MS))).chr.edge0 = d.chr.edge0 := by
    simp [d3, chr1, edge_servoLock, edge_servoRate, heard]
  split
  · split
    · simp [edge_ite, edge_ntStep, edge_elapse, chr2, left]
    · exact heard
  · exact rated

end

/-- The instant a time-stamp shows rests on two things that no measurement moves. -/
theorem stampAt_of {d e : Dev} (hf : e.bit F.CHR_STATE.FULL_RES = d.bit F.CHR_STATE.FULL_RES) (he : e.chr.edge0 = d.chr.edge0) (x : Nat) :
    e.stampAt x = d.stampAt x := by rw [Dev.stampAt, Dev.stampAt, hf, he]

theorem until_stampAt (d : Dev) (n x : Nat) : (d.until n).stampAt x = d.stampAt x :=
  stampAt_of (until_bit d n (by decide)) (edge_elapse ..) x

theorem ppsUse_stampAt (d : Dev) (x : Nat) : d.ppsUse.stampAt x = d.stampAt x := by
  unfold Dev.ppsUse
  split
  · split
    · refine stampAt_of ?_ ((edge_measure ..).trans rfl) x
      exact (Dev.bit_of_get (get_of_view (networkView_measure ..) (by decide))).trans (Dev.bit_of_get (get_of_regs rfl ..))
    · rfl
  · rfl

/-- R467: what an edge of PPS_IN shows at its instant, once an earlier edge has been used. -/
theorem ppsInEdge_shows {s : State} (instant : Nat) (hl : s.dev.live = true) (he : s.dev.bit F.PPS_CFG.IN_EN = true) :
    After (.ppsInEdge instant) s fun d => d.get F.PPS_IN_TS.SUBTICK = s.dev.stampAt instant % 64
      ∧ d.get F.PPS_IN_TS.TICK = s.dev.stampAt instant / 64 % 2 ^ 58
      ∧ (s.dev.chr.ppsHold = none → d.due .ppsIn = some (max s.dev.tick (instant / 64) + 200000000)) := by
  refine after_main ((exec_ppsInEdge ..).trans (by rw [execPpsInEdge])) hl ?_
  rw [if_neg (by simp [he])]
  extract_lets d1 x d2 close n chr d3 ns
  have stamp : x = s.dev.stampAt instant := (ppsUse_stampAt ..).trans (until_stampAt ..)
  have subtick : d3.get F.PPS_IN_TS.SUBTICK = x % 64 := by
    refine (Dev.get_inc_apart _ (by decide) n (by decide) (by decide) (by decide)).trans ((get_of_regs (d := d2) rfl ..).trans ((get_arm ..).trans ?_))
    rw [Dev.get_set_there _ (by decide) _ (by decide) (by decide) (by decide), Dev.get_set_here _ _ _ (by decide) (by decide) (by decide)]
    exact Nat.mod_mod ..
  have tick : d3.get F.PPS_IN_TS.TICK = x / 64 % 2 ^ 58 := by
    refine (Dev.get_inc_apart _ (by decide) n (by decide) (by decide) (by decide)).trans ((get_of_regs (d := d2) rfl ..).trans ((get_arm ..).trans ?_))
    exact Dev.get_set_here _ _ _ (by decide) (by decide) (by decide)
  have due : d3.due .ppsIn = some (d1.tick + 200000000) := by
    refine (due_inc ..).trans ((due_of_timers (d := d2) rfl _).trans ((due_arm ..).trans ?_))
    rw [Dev.set_tick, Dev.set_tick]
  have shown : ∀ e : Dev, e.regs = d3.regs → e.timers = d3.timers → e.settle.get F.PPS_IN_TS.SUBTICK = s.dev.stampAt instant % 64
      ∧ e.settle.get F.PPS_IN_TS.TICK = s.dev.stampAt instant / 64 % 2 ^ 58
      ∧ (s.dev.chr.ppsHold = none → e.settle.due .ppsIn = some (max s.dev.tick (instant / 64) + 200000000)) := by
    intro e hr ht
    rw [settle_get _ (by decide), settle_get _ (by decide), calm_due (calm_settle _) _ (by decide), get_of_regs hr, get_of_regs hr, due_of_timers ht,
      subtick, tick, due, stamp]
    refine ⟨rfl, rfl, fun hn => ?_⟩
    have none_held : (s.dev.until (instant / 64)).chr.ppsHold = none := by
      obtain ⟨a, b, chr⟩ := elapse_chr s.dev (instant / 64 - s.dev.tick)
      rw [Dev.until, chr]
      exact hn
    have unused : d1 = s.dev.until (instant / 64) := by
      simp only [d1, Dev.ppsUse, none_held]
    rw [unused, until_tick _ _ hl]
  split
  · exact shown d3 rfl rfl
  · exact shown _ rfl rfl

/-- Settles O36: a set at its tick, the entry to holdover and its end, and the edges of the PPS. -/
theorem chronometerEvents : Obligations.ChronometerEvents :=
  ⟨fun _ hl => ⟨fun _ => chrSetApply_sets hl, fun _ => holdoverStart_holds hl, fun _ => holdoverExpiry_ends hl⟩,
    fun _ hl => ⟨fun instant => ppsInEdge_shows instant hl, fun _ => ppsInTimeout_holds hl, fun ho hv hp => ppsOutPulse_rises hl ho hv hp rfl,
      fun _ => ppsOutPulse_falls hl⟩⟩

end Sys2Proof.Machine
end

section
/-! SUPPORT. CAN: a frame received, a transmit period, errors and bus-off (R471 to R473). -/

namespace Sys2Proof.Machine

set_option Elab.async false

theorem exec_canFrameRx (c : Fin 2) (x : CanFrame) (s : State) : exec (.canFrameRx c x) s = execCanFrameRx c x s := rfl
theorem exec_canTxPeriod (c : Fin 2) (x : CanSlot) (s : State) : exec (.canTxPeriod c x) s = execCanTxPeriod c x s := rfl
theorem exec_canBusoff (c : Fin 2) (x : CanErrors) (s : State) : exec (.canBusoff c x) s = execCanBusoff c x s := rfl

/-- The registers of a port's error counts. -/
def canFields : List Fld := [F.CAN_STATUS.STATE, F.CAN_STATUS.TEC, F.CAN_STATUS.REC]

@[simp] theorem sight_canSync (d : Dev) (c : Nat) : (d.canSync c).sight canFields = d.sight canFields := by
  simp (disch := decide) [Dev.canSync]

theorem canHeard_sight (d : Dev) (c : Nat) : (d.canHeard c).sight canFields = d.sight canFields := by
  simp (disch := decide) [Dev.canHeard]

theorem canMatch_of_sight {d e : Dev} (h : e.sight canFields = d.sight canFields) (c : Fin 2) (x : CanFrame) : e.canMatch c x = d.canMatch c x := by
  refine List.find?_congr fun j hj => ?_
  have bound : j < 16 := List.mem_range.mp hj
  rw [bit_of_sight h (by decide) c.isLt bound, bit_of_sight h (by decide) c.isLt bound, get_of_sight h (by decide) c.isLt bound,
    get_of_sight h (by decide) c.isLt bound]

/-- R472: a frame in its mailbox. -/
def Dev.canFill (d : Dev) (c j : Nat) (x : CanFrame) : Dev :=
  let d := if d.bit F.CAN_MB_ID.NEW c j then d.inc F.CAN_LOST.COUNT 1 c else d
  let d := ((d.set F.CAN_MB_ID.ID x.id c j).setB F.CAN_MB_ID.IDE x.ide c j).setB F.CAN_MB_ID.FDF x.fdf c j
  let d := ((d.setB F.CAN_MB_ID.NEW true c j).set F.CAN_MB_LEN.LEN x.data.length c j).set F.CAN_MB_TICK.TICK d.stamp c j
  d.canStore c j x.data

theorem canStore_sight {fs : List Fld} (h : fs.contains F.CAN_MB_DATA.DATA = true) (d : Dev) (c j : Nat) (data : List Nat) :
    (d.canStore c j data).sight fs = d.sight fs := sight_each d (fun e _ => sight_set e h ..) _

/-- The words of a mailbox's data come after its other words. -/
theorem canStore_get {f : Fld} (d : Dev) {c j : Nat} (h : ∀ w, f.key c j 0 ≠ F.CAN_MB_DATA.DATA.key c j w) (data : List Nat) :
    (d.canStore c j data).get f c j = d.get f c j :=
  each_keeps (fun e : Dev => e.get f c j) (fun _ w => Dev.get_set_ne _ _ _ _ (h w)) _ d

section
variable (d : Dev) (c : Fin 2) {j : Nat} (hj : j < 16) (x : CanFrame)
include hj

theorem canFill_new : (d.canFill c j x).bit F.CAN_MB_ID.NEW c j = true := by
  unfold Dev.canFill
  extract_lets d1 d2 d3
  have later : (d3.canStore c j x.data).sight [F.CAN_MB_LEN.LEN, F.CAN_MB_TICK.TICK, F.CAN_MB_DATA.DATA]
      = (d2.setB F.CAN_MB_ID.NEW true c j).sight [F.CAN_MB_LEN.LEN, F.CAN_MB_TICK.TICK, F.CAN_MB_DATA.DATA] := by
    rw [canStore_sight (by decide)]
    simp (disch := decide) only [d3, sight_set]
  exact (bit_of_sight later (by decide) c.isLt hj).trans (Dev.bit_setB_same _ (by decide) _ c.isLt hj (by decide))

theorem canFill_id : (d.canFill c j x).get F.CAN_MB_ID.ID c j = x.id % 2 ^ 29 := by
  unfold Dev.canFill
  extract_lets d1 d2 d3
  have data : ∀ w, F.CAN_MB_ID.ID.key c j 0 ≠ F.CAN_MB_DATA.DATA.key c j w := fun w => by
    simp only [Fld.key, Fld.off, F.CAN_MB_ID.ID, F.CAN_MB_DATA.DATA]; omega
  have tick : F.CAN_MB_ID.ID.key c j 0 ≠ F.CAN_MB_TICK.TICK.key c j 0 := by
    simp only [Fld.key, Fld.off, F.CAN_MB_ID.ID, F.CAN_MB_TICK.TICK]; omega
  have len : F.CAN_MB_ID.ID.key c j 0 ≠ F.CAN_MB_LEN.LEN.key c j 0 := by
    simp only [Fld.key, Fld.off, F.CAN_MB_ID.ID, F.CAN_MB_LEN.LEN]; omega
  have later : (d2.setB F.CAN_MB_ID.NEW true c j).sight [F.CAN_MB_ID.IDE, F.CAN_MB_ID.FDF, F.CAN_MB_ID.NEW]
      = (d1.set F.CAN_MB_ID.ID x.id c j).sight [F.CAN_MB_ID.IDE, F.CAN_MB_ID.FDF, F.CAN_MB_ID.NEW] := by
    simp (disch := decide) only [d2, sight_setB]
  rw [canStore_get d3 data, Dev.get_set_ne _ _ _ _ tick, Dev.get_set_ne _ _ _ _ len, get_of_sight later (by decide) c.isLt hj,
    Dev.get_set_here _ _ _ c.isLt hj (by decide)]
  rfl

theorem canFill_ide : (d.canFill c j x).bit F.CAN_MB_ID.IDE c j = x.ide := by
  unfold Dev.canFill
  extract_lets d1 d2 d3
  have later : (d3.canStore c j x.data).sight [F.CAN_MB_ID.FDF, F.CAN_MB_ID.NEW, F.CAN_MB_LEN.LEN, F.CAN_MB_TICK.TICK, F.CAN_MB_DATA.DATA]
      = ((d1.set F.CAN_MB_ID.ID x.id c j).setB F.CAN_MB_ID.IDE x.ide c j).sight
        [F.CAN_MB_ID.FDF, F.CAN_MB_ID.NEW, F.CAN_MB_LEN.LEN, F.CAN_MB_TICK.TICK, F.CAN_MB_DATA.DATA] := by
    rw [canStore_sight (by decide)]
    simp (disch := decide) only [d3, d2, sight_set, sight_setB]
  exact (bit_of_sight later (by decide) c.isLt hj).trans (Dev.bit_setB_same _ (by decide) _ c.isLt hj (by decide))

theorem canFill_len : (d.canFill c j x).get F.CAN_MB_LEN.LEN c j = x.data.length % 128 := by
  unfold Dev.canFill
  extract_lets d1 d2 d3
  have data : ∀ w, F.CAN_MB_LEN.LEN.key c j 0 ≠ F.CAN_MB_DATA.DATA.key c j w := fun w => by
    simp only [Fld.key, Fld.off, F.CAN_MB_LEN.LEN, F.CAN_MB_DATA.DATA]; omega
  have tick : F.CAN_MB_LEN.LEN.key c j 0 ≠ F.CAN_MB_TICK.TICK.key c j 0 := by
    simp only [Fld.key, Fld.off, F.CAN_MB_LEN.LEN, F.CAN_MB_TICK.TICK]; omega
  rw [canStore_get d3 data, Dev.get_set_ne _ _ _ _ tick, Dev.get_set_here _ _ _ c.isLt hj (by decide)]
  rfl

theorem canFill_tick : (d.canFill c j x).get F.CAN_MB_TICK.TICK c j = d.stamp % 2 ^ 64 := by
  unfold Dev.canFill
  extract_lets d1 d2 d3
  have stamp : d2.stamp = d.stamp := by
    have sight : d2.sight [F.CAN_LOST.COUNT, F.CAN_MB_ID.ID, F.CAN_MB_ID.IDE, F.CAN_MB_ID.FDF]
        = d.sight [F.CAN_LOST.COUNT, F.CAN_MB_ID.ID, F.CAN_MB_ID.IDE, F.CAN_MB_ID.FDF] := by
      simp (disch := decide) [d2, d1]
    have tick : d2.tick = d.tick := by
      simp only [d2, d1]
      split <;> simp [Dev.setB, Dev.inc]
    have chr : d2.chr = d.chr := by
      simp only [d2, d1]
      split <;> simp [Dev.setB, Dev.inc]
    rw [Dev.stamp, Dev.stamp, bit_of_sight sight (by decide), tick, chr]
  have data : ∀ w, F.CAN_MB_TICK.TICK.key c j 0 ≠ F.CAN_MB_DATA.DATA.key c j w := fun w => by
    simp only [Fld.key, Fld.off, F.CAN_MB_TICK.TICK, F.CAN_MB_DATA.DATA]; omega
  rw [← stamp, canStore_get d3 data, Dev.get_set_here _ _ _ c.isLt hj (by decide)]
  rfl

omit hj in
theorem canFill_lost : (d.canFill c j x).get F.CAN_LOST.COUNT c
    = if d.bit F.CAN_MB_ID.NEW c j then (d.get F.CAN_LOST.COUNT c + 1) % 2 ^ 64 else d.get F.CAN_LOST.COUNT c := by
  unfold Dev.canFill
  extract_lets d1 d2 d3
  have later : (d3.canStore c j x.data).sight
        [F.CAN_MB_ID.ID, F.CAN_MB_ID.IDE, F.CAN_MB_ID.FDF, F.CAN_MB_ID.NEW, F.CAN_MB_LEN.LEN, F.CAN_MB_TICK.TICK, F.CAN_MB_DATA.DATA]
      = d1.sight [F.CAN_MB_ID.ID, F.CAN_MB_ID.IDE, F.CAN_MB_ID.FDF, F.CAN_MB_ID.NEW, F.CAN_MB_LEN.LEN, F.CAN_MB_TICK.TICK, F.CAN_MB_DATA.DATA] := by
    rw [canStore_sight (by decide)]
    simp (disch := decide) only [d3, d2, sight_set, sight_setB]
  refine (get_of_sight later (by decide) c.isLt).trans ?_
  simp only [d1]
  split
  · exact Dev.get_inc_same _ _ _ c.isLt (by decide) (by decide)
  · rfl

end

theorem canHeard_stamp (d : Dev) (c : Nat) : (d.canHeard c).stamp = d.stamp := by
  have tick : (d.canHeard c).tick = d.tick := by
    simp only [Dev.canHeard, Dev.canSync]
    split <;> split <;> simp
  have chr : (d.canHeard c).chr = d.chr := by
    simp only [Dev.canHeard, Dev.canSync]
    split <;> split <;> simp
  rw [Dev.stamp, Dev.stamp, bit_of_sight (canHeard_sight d c) (by decide), tick, chr]

/-- What a frame that was heard does where it finds a mailbox. -/
def Dev.canTake (d : Dev) (c : Nat) (x : CanFrame) : Option Nat → Dev
  | none => d
  | some j => if (d.canFill c j x).bit F.CAN_FILT.EVT c j then (d.canFill c j x).raise 180 0 (c * 16 + j) (x.data.take 12) else d.canFill c j x

theorem canFrameRx_eq (c : Fin 2) (x : CanFrame) (s : State) : exec (.canFrameRx c x) s = onMain s fun d =>
    if !d.bit F.CAN_CFG.EN c || d.get F.CAN_STATUS.STATE c == 2 || (x.fdf && !d.bit F.CAN_CFG.FD c) then d
    else (d.canHeard c).canTake c x ((d.canHeard c).canMatch c x) := by
  rw [exec_canFrameRx, execCanFrameRx]
  rfl

theorem canTake_calm (d : Dev) (c j : Nat) (x : CanFrame) : (d.canTake c x (some j)).calm = (d.canFill c j x).calm := by
  rw [Dev.canTake]
  split
  · exact calm_raise ..
  · rfl

theorem canFrameRx_fills {s : State} {c : Fin 2} {x : CanFrame} {j : Nat} (hl : s.dev.live = true) (he : s.dev.bit F.CAN_CFG.EN c = true)
    (hs : s.dev.get F.CAN_STATUS.STATE c ≠ 2) (hf : x.fdf = true → s.dev.bit F.CAN_CFG.FD c = true) (hm : s.dev.canMatch c x = some j) :
    After (.canFrameRx c x) s fun d => d.bit F.CAN_MB_ID.NEW c j = true ∧ d.get F.CAN_MB_ID.ID c j = x.id % 2 ^ 29 ∧ d.bit F.CAN_MB_ID.IDE c j = x.ide
      ∧ d.get F.CAN_MB_LEN.LEN c j = x.data.length % 128 ∧ d.get F.CAN_MB_TICK.TICK c j = s.dev.stamp % 2 ^ 64
      ∧ d.get F.CAN_LOST.COUNT c = (if s.dev.bit F.CAN_MB_ID.NEW c j then (s.dev.get F.CAN_LOST.COUNT c + 1) % 2 ^ 64 else s.dev.get F.CAN_LOST.COUNT c) := by
  have hj : j < 16 := List.mem_range.mp (List.mem_of_find?_eq_some hm)
  have taken : ¬ (!s.dev.bit F.CAN_CFG.EN c || s.dev.get F.CAN_STATUS.STATE c == 2 || x.fdf && !s.dev.bit F.CAN_CFG.FD c) = true := by
    cases hx : x.fdf
    · simp [he, hs]
    · simp [he, hs, hf hx]
  refine after_main (canFrameRx_eq ..) hl ?_
  have sight : (s.dev.canHeard c).sight canFields = s.dev.sight canFields := canHeard_sight ..
  rw [if_neg taken, canMatch_of_sight sight, hm]
  have calm := (calm_settle _).trans (canTake_calm (s.dev.canHeard c) c j x)
  refine ⟨(bit_of_calm calm (by decide) c.isLt hj).trans (canFill_new _ c hj x), (get_of_calm calm (by decide) c.isLt hj).trans (canFill_id _ c hj x),
    (bit_of_calm calm (by decide) c.isLt hj).trans (canFill_ide _ c hj x), (get_of_calm calm (by decide) c.isLt hj).trans (canFill_len _ c hj x),
    (get_of_calm calm (by decide) c.isLt hj).trans ((canFill_tick _ c hj x).trans ?_),
    (get_of_calm calm (by decide) c.isLt).trans ((canFill_lost _ c x).trans ?_)⟩
  · rw [canHeard_stamp]
  · rw [bit_of_sight sight (by decide) c.isLt hj, get_of_sight sight (by decide) c.isLt]

theorem canFrameRx_unmatched {s : State} {c : Fin 2} {x : CanFrame} (hl : s.dev.live = true) (hm : s.dev.canMatch c x = none) :
    Leaves (.canFrameRx c x) s fun e => e = if s.dev.bit F.CAN_CFG.EN c = true ∧ s.dev.get F.CAN_STATUS.STATE c ≠ 2
      ∧ (x.fdf = true → s.dev.bit F.CAN_CFG.FD c = true) then s.dev.canHeard c else s.dev := by
  refine leaves_main (canFrameRx_eq ..) hl ?_
  rw [canMatch_of_sight (canHeard_sight s.dev c), hm]
  show (if _ then s.dev else s.dev.canHeard c) = _
  by_cases taken : s.dev.bit F.CAN_CFG.EN c = true ∧ s.dev.get F.CAN_STATUS.STATE c ≠ 2 ∧ (x.fdf = true → s.dev.bit F.CAN_CFG.FD c = true)
  · rw [if_pos taken, if_neg]
    obtain ⟨en, on, fd⟩ := taken
    cases hx : x.fdf
    · simp [en, on]
    · simp [en, on, fd hx]
  · rw [if_neg taken, if_pos]
    by_contra free
    simp at free
    tauto

/-! A transmit period -/

theorem canEmit_regs (d : Dev) (n : Nat) (data : List Nat) : (d.canEmit n data).regs = d.regs := rfl
theorem canEmit_due (d : Dev) (n : Nat) (data : List Nat) (t : Timer) : (d.canEmit n data).due t = d.due t := rfl

theorem canSync_due (d : Dev) (c : Nat) (t : Timer) : (d.canSync c).due t = d.due t := by simp [Dev.canSync]
theorem canSent_due (d : Dev) (c : Nat) (t : Timer) : (d.canSent c).due t = d.due t := by rw [Dev.canSent, canSync_due, due_set]

theorem canTxPeriod_repeats {s : State} {c : Fin 2} {y : CanSlot} {x : Nat} (hl : s.dev.live = true) (hd : s.dev.due (.canTx c y.frame) = some x)
    (ha : s.dev.ahead x = true) : After (.canTxPeriod c y) s fun d =>
      d.due (.canTx c y.frame) = some (max s.dev.tick x + msT (s.dev.get F.CAN_TX_PER.PERIOD_MS c y.frame)) := by
  refine after_main ((exec_canTxPeriod ..).trans (by rw [execCanTxPeriod])) hl ?_
  extract_lets f n
  rw [fire_due hd ha, calm_due (calm_settle _) _ rfl]
  extract_lets d1 d2 data was mute d3 chr d4
  have armed : d1.due (.canTx c f) = some (max s.dev.tick x + msT (s.dev.get F.CAN_TX_PER.PERIOD_MS c f)) := by
    refine (due_arm ..).trans ?_
    rw [get_disarm, until_get s.dev x (by decide) c.isLt y.frame.isLt, Dev.disarm_tick, until_tick _ _ hl]
  have sent : d3.due (.canTx c f) = d1.due (.canTx c f) := by
    simp [d3, d2, Dev.toPhase, canSent_due]
  have shown : d4.due (.canTx c f) = d1.due (.canTx c f) := (due_of_timers (d := d3) (e := d4) rfl _).trans sent
  split
  · exact armed
  · split
    · exact shown.trans armed
    · exact (canEmit_due ..).trans ((elapse_due d4 1 _).trans (shown.trans armed))

/-! Errors and bus-off -/

/-- R473: the state that the error counts give a port. -/
theorem canSync_shows {d : Dev} (c : Fin 2) (hs : d.get F.CAN_STATUS.STATE c ≠ 2) :
    (d.canSync c).get F.CAN_STATUS.TEC c = d.get F.CAN_STATUS.TEC c ∧ (d.canSync c).get F.CAN_STATUS.REC c = d.get F.CAN_STATUS.REC c
      ∧ (d.canSync c).get F.CAN_STATUS.STATE c = if 128 ≤ d.get F.CAN_STATUS.TEC c ∨ 128 ≤ d.get F.CAN_STATUS.REC c then 1 else 0 := by
  rw [Dev.canSync, if_neg hs]
  refine ⟨Dev.get_set_there _ (by decide) _ c.isLt (by decide) (by decide), Dev.get_set_there _ (by decide) _ c.isLt (by decide) (by decide),
    (Dev.get_set_here _ _ _ c.isLt (by decide) (by decide)).trans ?_⟩
  split <;> rfl

theorem canBusoff_recovers {s : State} {c : Fin 2} {x : CanErrors} (hl : s.dev.live = true) (he : s.dev.bit F.CAN_CFG.EN c = true)
    (hr : x.recovered = true) (hs : s.dev.get F.CAN_STATUS.STATE c = 2) : After (.canBusoff c x) s fun d =>
      d.get F.CAN_STATUS.STATE c = 0 ∧ d.get F.CAN_STATUS.TEC c = 0 ∧ d.get F.CAN_STATUS.REC c = 0 := by
  refine after_main ((exec_canBusoff ..).trans (by rw [execCanBusoff])) hl ?_
  rw [if_neg (by simp [he]), if_pos hr, if_pos hs]
  extract_lets d1
  have cleared : d1.get F.CAN_STATUS.STATE c = 0 ∧ d1.get F.CAN_STATUS.TEC c = 0 ∧ d1.get F.CAN_STATUS.REC c = 0 := by
    refine ⟨?_, ?_, Dev.get_set_here _ _ _ c.isLt (by decide) (by decide)⟩
    · rw [Dev.get_set_there _ (by decide) _ c.isLt (by decide) (by decide), Dev.get_set_there _ (by decide) _ c.isLt (by decide) (by decide)]
      exact Dev.get_set_here _ _ _ c.isLt (by decide) (by decide)
    · rw [Dev.get_set_there _ (by decide) _ c.isLt (by decide) (by decide)]
      exact Dev.get_set_here _ _ _ c.isLt (by decide) (by decide)
  have shown : ∀ e : Dev, e.regs = d1.regs → e.settle.get F.CAN_STATUS.STATE c = 0 ∧ e.settle.get F.CAN_STATUS.TEC c = 0 ∧ e.settle.get F.CAN_STATUS.REC c = 0 := by
    intro e hr
    rw [settle_get _ (by decide) c.isLt, settle_get _ (by decide) c.isLt, settle_get _ (by decide) c.isLt, get_of_regs hr, get_of_regs hr, get_of_regs hr]
    exact cleared
  split
  · exact shown _ rfl
  · exact shown _ (each_keeps Dev.regs (fun e (y : Nat × List Nat) => canEmit_regs e y.1 y.2) _ d1)

theorem canBusoff_enters {s : State} {c : Fin 2} {x : CanErrors} (hl : s.dev.live = true) (he : s.dev.bit F.CAN_CFG.EN c = true)
    (hr : x.recovered = false) (hs : s.dev.get F.CAN_STATUS.STATE c ≠ 2) (ht : 256 ≤ s.dev.get F.CAN_STATUS.TEC c + 8 * x.tx) :
    After (.canBusoff c x) s fun d => d.get F.CAN_STATUS.STATE c = 2 := by
  refine after_main ((exec_canBusoff ..).trans (by rw [execCanBusoff])) hl ?_
  rw [if_neg (by simp [he]), if_neg (by simp [hr]), if_neg hs]
  extract_lets tec
  rw [if_neg (Nat.not_lt.mpr ht)]
  refine (get_of_calm ((calm_settle _).trans (calm_raise ..)) (by decide) c.isLt).trans ?_
  rw [Dev.get_set_there _ (by decide) _ c.isLt (by decide) (by decide), Dev.get_set_here _ _ _ c.isLt (by decide) (by decide)]
  rfl

theorem canBusoff_counts {s : State} {c : Fin 2} {x : CanErrors} (hl : s.dev.live = true) (he : s.dev.bit F.CAN_CFG.EN c = true)
    (hr : x.recovered = false) (hs : s.dev.get F.CAN_STATUS.STATE c ≠ 2) {tec rec_ : Nat} (htec : tec = s.dev.get F.CAN_STATUS.TEC c + 8 * x.tx)
    (hrec : rec_ = min 255 (s.dev.get F.CAN_STATUS.REC c + x.rx)) (ht : tec < 256) :
    After (.canBusoff c x) s fun d => d.get F.CAN_STATUS.TEC c = tec ∧ d.get F.CAN_STATUS.REC c = rec_
      ∧ d.get F.CAN_STATUS.STATE c = if 128 ≤ tec ∨ 128 ≤ rec_ then 1 else 0 := by
  refine after_main ((exec_canBusoff ..).trans (by rw [execCanBusoff])) hl ?_
  rw [if_neg (by simp [he]), if_neg (by simp [hr]), if_neg hs]
  extract_lets t
  have same : t = tec := htec.symm
  rw [if_pos (same ▸ ht), same, ← hrec]
  have tecs : ((s.dev.set F.CAN_STATUS.TEC tec c).set F.CAN_STATUS.REC rec_ c).get F.CAN_STATUS.TEC c = tec := by
    rw [Dev.get_set_there _ (by decide) _ c.isLt (by decide) (by decide), Dev.get_set_here _ _ _ c.isLt (by decide) (by decide)]
    exact Nat.mod_eq_of_lt ht
  have recs : ((s.dev.set F.CAN_STATUS.TEC tec c).set F.CAN_STATUS.REC rec_ c).get F.CAN_STATUS.REC c = rec_ := by
    rw [Dev.get_set_here _ _ _ c.isLt (by decide) (by decide)]
    exact Nat.mod_eq_of_lt (Nat.lt_of_le_of_lt (hrec ▸ Nat.min_le_left ..) (by decide))
  have states : ((s.dev.set F.CAN_STATUS.TEC tec c).set F.CAN_STATUS.REC rec_ c).get F.CAN_STATUS.STATE c ≠ 2 := by
    rwa [Dev.get_set_there _ (by decide) _ c.isLt (by decide) (by decide), Dev.get_set_there _ (by decide) _ c.isLt (by decide) (by decide)]
  obtain ⟨shownTec, shownRec, shownState⟩ := canSync_shows c states
  rw [settle_get _ (by decide) c.isLt, settle_get _ (by decide) c.isLt, settle_get _ (by decide) c.isLt, shownTec, shownRec, shownState, tecs, recs]
  exact ⟨rfl, rfl, rfl⟩

/-- Settles O38: the mailbox a matched frame fills, a transmit period's repeat, and the error counts up to bus-off. -/
theorem canEvents : Obligations.CanEvents :=
  fun _ _ hl => ⟨fun _ _ he hs hf hm => canFrameRx_fills hl he hs hf hm, fun _ hm => canFrameRx_unmatched hl hm, fun _ _ hd ha => canTxPeriod_repeats hl hd ha,
    fun _ he => ⟨fun hr hs => canBusoff_recovers hl he hr hs, fun hr hs ht => canBusoff_enters hl he hr hs ht,
      fun hr hs ht => canBusoff_counts hl he hr hs rfl rfl ht⟩⟩

end Sys2Proof.Machine
end

section
/-! SUPPORT. A lane's quality windows, its IDLE blocks and its shifts (R199 to R203). -/

namespace Sys2Proof.Machine

set_option Elab.async false

theorem exec_laneQualityWindowEnd (k : Fin 96) (c : FrameCounts) (s : State) : exec (.laneQualityWindowEnd k c) s = execLaneQualityWindowEnd k c s := rfl
theorem exec_idle (k : Fin 96) (rx : Bool) (x : IdleRun) (s : State) : exec (.idle k rx x) s = execIdle k rx x s := rfl
theorem exec_shift (k : Fin 96) (n : Nat) (s : State) : exec (.shift k n) s = execShift k n s := rfl
theorem exec_shiftTimeout (k : Fin 96) (s : State) : exec (.shiftTimeout k) s = execShiftTimeout k s := rfl

/-! What stands over an event that may come or not -/

/-- What time, a deadline that ends and the event keep stands whether the event comes or not. -/
theorem fire_keeps {α : Type} (p : Dev → α) (hu : ∀ d n, p (Dev.until d n) = p d) (hd : ∀ d t, p (Dev.disarm d t) = p d) {g : Dev → Dev}
    (hg : ∀ e, p (g e) = p e) (d : Dev) (t : Timer) : p (d.fire t g) = p d := by
  unfold Dev.fire
  split
  · unfold Dev.wait
    split
    · rw [hg, hd, hu]
    · rfl
  · rfl

theorem ahead_of {d e : Dev} (hp : e.rings = d.rings) (ht : e.tick = d.tick) (x : Nat) : e.ahead x = d.ahead x := by rw [Dev.ahead, Dev.ahead, hp, ht]

/-- An operation on a unit that keeps a part of each keeps that part of every unit. -/
theorem unit_modify_keeps {α β : Type} [Inhabited α] (p : α → β) {g : α → α} (h : ∀ x, p (g x) = p x) (l : List α) (i j : Nat) :
    p (unit (l.modify i g) j) = p (unit l j) := by
  by_cases hj : j < l.length
  · rw [unit, unit, List.getD_eq_getElem _ _ hj, List.getD_eq_getElem _ _ (by simpa using hj), List.getElem_modify]
    split
    · exact h _
    · rfl
  · rw [unit_beyond hj, unit_beyond (by simpa using hj)]

theorem unit_lane (d : Dev) {k : Nat} (g : Lane → Lane) (hk : k < d.lanes.length) : unit (d.lane k g).lanes k = g (unit d.lanes k) := unit_modify _ _ _ hk

theorem lane_keeps {β : Type} (p : Lane → β) {g : Lane → Lane} (h : ∀ l, p (g l) = p l) (d : Dev) (i k : Nat) :
    p (unit (d.lane i g).lanes k) = p (unit d.lanes k) := unit_modify_keeps p h ..

theorem laneSend_keeps {β : Type} (p : Lane → β) (h : ∀ (l : Lane) (x : LineTx), p { l with tx := x } = p l) (d : Dev) (n : Nat) (o : Out) (k : Nat) :
    p (unit (d.laneSend n o).lanes k) = p (unit d.lanes k) := by
  unfold Dev.laneSend
  split
  · exact lane_keeps p (fun l => h l _) ..
  · rfl

/-! A lane's counts -/

section
variable (d : Dev) (k : Fin 96) {c : Nat} (hc : c < 14) (n : Nat)
include hc

theorem laneCnt_here : (d.laneCnt k c n).get F.LANE_CNT.COUNT k c = (d.get F.LANE_CNT.COUNT k c + n) % 2 ^ 64 :=
  Dev.get_inc_same d _ n k.isLt hc (by decide)

omit hc in
theorem laneCnt_there {j : Nat} (h : j ≠ c) : (d.laneCnt k c n).get F.LANE_CNT.COUNT k j = d.get F.LANE_CNT.COUNT k j :=
  Dev.get_set_ne _ _ _ _ (by simp only [Fld.key, Fld.off, F.LANE_CNT.COUNT]; omega)

end

/-! Degradation -/

/-- What a degraded lane is free to change after the count of its shifts. -/
def shiftMask : Mask := ⟨[F.LANE_STATUS.STEP], [.lanes]⟩

theorem shiftView_laneSend (d : Dev) (n : Nat) (o : Out) : (d.laneSend n o).calm.view shiftMask = d.calm.view shiftMask := by
  unfold Dev.laneSend
  split
  · exact (view_lane _ _ (by decide) _).trans (view_emit ..)
  · exact view_emit ..

/-- R202, R203: a lane is degraded in one of three ways, each within its shift's mask of the count. -/
theorem degrade_view (d : Dev) (k : Nat) :
    (d.degrade k).calm.view shiftMask = (d.laneCnt k 10 1).calm.view shiftMask ∨ (d.degrade k).calm.view shiftMask = d.calm.view shiftMask := by
  unfold Dev.degrade
  extract_lets l f d1 d2 d3
  split
  · exact .inr rfl
  · split
    · have stopped : d2.calm.view shiftMask = (d.laneCnt k 10 1).calm.view shiftMask :=
        (view_disarm ..).trans ((view_each (fun e i => view_disarm ..) _ _).trans ((view_arm ..).trans (view_set (by decide) ..)))
      exact .inl ((view_each (fun e i => shiftView_laneSend ..) _ _).trans
        ((view_of_calm (calm_raise ..) _).trans ((view_lane _ _ (by decide) _).trans stopped)))
    · split
      · exact .inr rfl
      · exact .inr ((view_lane _ _ (by decide) _).trans (view_of_calm (calm_raise ..) _))

theorem degrade_count (d : Dev) (k : Fin 96) {j : Nat} (hj : j < 14) (h : j ≠ 10) : (d.degrade k).get F.LANE_CNT.COUNT k j = d.get F.LANE_CNT.COUNT k j := by
  rcases degrade_view d k with v | v
  · exact (get_of_view v (by decide) k.isLt hj (by decide)).trans (laneCnt_there d k 1 h)
  · exact get_of_view v (by decide) k.isLt hj (by decide)

theorem degrade_peerLocked (d : Dev) (k : Fin 96) : (d.degrade k).bit F.LANE_STATUS.PEER_LOCKED k = d.bit F.LANE_STATUS.PEER_LOCKED k := by
  refine Dev.bit_of_get ?_
  rcases degrade_view d k with v | v
  · exact (get_of_view v (by decide) k.isLt (by decide) (by decide)).trans (Dev.get_inc_apart d (by decide) 1 k.isLt (by decide) (by decide))
  · exact get_of_view v (by decide) k.isLt (by decide) (by decide)

/-- How many IDLE blocks in a row showed the peer's lock. -/
def Dev.idles (d : Dev) (k : Nat) : Nat := (unit d.lanes k).idleRun

section
variable (d : Dev) (k : Nat)

theorem idles_of_lanes {d e : Dev} (h : e.lanes = d.lanes) (k : Nat) : e.idles k = d.idles k := by rw [Dev.idles, Dev.idles, h]
@[simp] theorem idles_set (f : Fld) (v a b c : Nat) : (d.set f v a b c).idles k = d.idles k := idles_of_lanes (Dev.set_lanes ..) k
@[simp] theorem idles_arm (t : Timer) (n : Nat) : (d.arm t n).idles k = d.idles k := rfl
@[simp] theorem idles_disarm (t : Timer) : (d.disarm t).idles k = d.idles k := rfl
@[simp] theorem idles_laneCnt (j c n : Nat) : (d.laneCnt j c n).idles k = d.idles k := idles_set ..
@[simp] theorem idles_raise (s c o : Nat) : (d.raise s c o).idles k = d.idles k := idles_of_lanes (lanes_of_calm (calm_raise ..)) k
theorem idles_lane {g : Lane → Lane} (h : ∀ l, (g l).idleRun = l.idleRun) (j : Nat) : (d.lane j g).idles k = d.idles k := lane_keeps Lane.idleRun h ..
@[simp] theorem idles_laneSend (n : Nat) (o : Out) : (d.laneSend n o).idles k = d.idles k := laneSend_keeps Lane.idleRun (fun _ _ => rfl) ..
theorem idles_each {α : Type} {g : Dev → α → Dev} (h : ∀ d x, (g d x).idles k = d.idles k) (l : List α) : (d.each l g).idles k = d.idles k :=
  each_keeps (fun d : Dev => d.idles k) h l d

theorem degrade_idles : (d.degrade k).idles k = d.idles k := by
  unfold Dev.degrade
  extract_lets l f d1 d2 d3
  have begun : d1.idles k = d.idles k := by simp only [d1, idles_arm, idles_set, idles_laneCnt]
  have quiet : d2.idles k = d.idles k := (idles_disarm ..).trans ((idles_each d1 k (fun e i => idles_disarm e k _) _).trans begun)
  have told : d3.idles k = d.idles k := (idles_lane d2 k (by intro l; rfl) k).trans quiet
  clear_value d3
  split
  · rfl
  · split
    · rw [idles_each _ _ (fun e i => idles_laneSend ..), idles_raise, told]
    · split
      · rfl
      · exact (idles_lane _ _ (by intro l; rfl) _).trans (idles_raise ..)

end

/-! Quality windows -/

theorem qwinSync_get (d : Dev) (k : Fin 96) {f : Fld} (h : (f.apart F.LANE_QWIN.CORR && f.apart F.LANE_QWIN.UNCORR) = true) {b c : Nat}
    (ha : k.val < f.n1) (hb : b < f.n2) (hc : c < f.n3) : (d.qwinSync k).get f k b c = d.get f k b c := by
  obtain ⟨corr, uncorr⟩ := Bool.and_eq_true_iff.mp h
  exact (Dev.get_set_apart _ uncorr _ ha hb hc).trans (Dev.get_set_apart _ corr _ ha hb hc)

theorem qwinAdd_get (d : Dev) (k : Fin 96) (x y : Nat) {f : Fld} (h : (f.apart F.LANE_QWIN.CORR && f.apart F.LANE_QWIN.UNCORR) = true) {b c : Nat}
    (ha : k.val < f.n1) (hb : b < f.n2) (hc : c < f.n3) : (d.qwinAdd k x y).get f k b c = d.get f k b c := by
  unfold Dev.qwinAdd
  split
  · exact (qwinSync_get _ k h ha hb hc).trans (get_of_regs rfl ..)
  · rfl

theorem qwinStart_get (d : Dev) (k : Fin 96) {f : Fld} (h : (f.apart F.LANE_QWIN.CORR && f.apart F.LANE_QWIN.UNCORR) = true) {b c : Nat}
    (ha : k.val < f.n1) (hb : b < f.n2) (hc : c < f.n3) : (d.qwinStart k).get f k b c = d.get f k b c :=
  (get_arm ..).trans ((qwinSync_get _ k h ha hb hc).trans (get_of_regs rfl ..))

/-- The counts of the frames received, added to the lane's. -/
def Dev.laneTally (d : Dev) (k : Nat) (c : FrameCounts) : Dev :=
  d.each [(3, c.corrFrames), (4, c.corrBytes), (5, c.uncorr), (0, c.invalid), (6, c.stuffing), (12, c.unknown)] (fun d x => d.laneCnt k x.1 x.2)

/-- R200: the end of a quality window. -/
def Dev.qwinEnd (d : Dev) (k : Nat) : Dev :=
  let l := unit d.lanes k
  let d := d.arm (.qwin k) 4190208
  let d := if d.get F.LANE_FB.CORR_LIM k < l.qCorr ∨ d.get F.LANE_FB.UNCORR_LIM k ≤ l.qUncorr then d.degrade k else d
  if d.qwinOn k then d.qwinStart k else d

theorem laneQualityWindowEnd_eq (k : Fin 96) (c : FrameCounts) (s : State) : exec (.laneQualityWindowEnd k c) s
    = onMain s fun d => ((d.laneTally k c).qwinAdd k c.corrBytes c.uncorr).fire (.qwin k) fun d => d.qwinEnd k := rfl

theorem laneTally_counts (d : Dev) (k : Fin 96) (c : FrameCounts) :
    (d.laneTally k c).get F.LANE_CNT.COUNT k 3 = (d.get F.LANE_CNT.COUNT k 3 + c.corrFrames) % 2 ^ 64
      ∧ (d.laneTally k c).get F.LANE_CNT.COUNT k 4 = (d.get F.LANE_CNT.COUNT k 4 + c.corrBytes) % 2 ^ 64
      ∧ (d.laneTally k c).get F.LANE_CNT.COUNT k 5 = (d.get F.LANE_CNT.COUNT k 5 + c.uncorr) % 2 ^ 64 := by
  simp only [Dev.laneTally, Dev.each, List.foldl]
  refine ⟨?_, ?_, ?_⟩
  · rw [laneCnt_there, laneCnt_there, laneCnt_there, laneCnt_there, laneCnt_there, laneCnt_here] <;> decide
  · rw [laneCnt_there, laneCnt_there, laneCnt_there, laneCnt_there, laneCnt_here, laneCnt_there] <;> decide
  · rw [laneCnt_there, laneCnt_there, laneCnt_there, laneCnt_here, laneCnt_there, laneCnt_there] <;> decide

theorem qwinEnd_count (d : Dev) (k : Fin 96) {j : Nat} (hj : j < 14) (h : j ≠ 10) : (d.qwinEnd k).get F.LANE_CNT.COUNT k j = d.get F.LANE_CNT.COUNT k j := by
  unfold Dev.qwinEnd
  extract_lets l d1 d2
  have judged : d2.get F.LANE_CNT.COUNT k j = d.get F.LANE_CNT.COUNT k j := by
    refine Eq.trans ?_ (get_arm d (.qwin k) 4190208 ..)
    simp only [d2]
    split
    · exact degrade_count d1 k hj h
    · rfl
  split
  · exact (qwinStart_get d2 k (by decide) k.isLt hj (by decide)).trans judged
  · exact judged

theorem qualityWindow_counts (d : Dev) (k : Fin 96) (c : FrameCounts) {j : Nat} (hj : j < 14) (h : j ≠ 10) :
    (((d.laneTally k c).qwinAdd k c.corrBytes c.uncorr).fire (.qwin k) fun d => d.qwinEnd k).get F.LANE_CNT.COUNT k j
      = (d.laneTally k c).get F.LANE_CNT.COUNT k j :=
  (fire_keeps (fun e : Dev => e.get F.LANE_CNT.COUNT k j) (fun e n => until_get e n (by decide) k.isLt hj (by decide)) (fun e t => get_disarm ..)
    (fun e => qwinEnd_count e k hj h) ..).trans (qwinAdd_get _ k _ _ (by decide) k.isLt hj (by decide))

/-! The end of a window within its limits -/

/-- An operation on a lane that keeps whatever else the block holds. -/
theorem qwinAdd_unit (d : Dev) (k : Nat) (x y : Nat) (hq : d.qwinOn k = true) (hk : k < d.lanes.length) :
    (unit (d.qwinAdd k x y).lanes k).qCorr = (unit d.lanes k).qCorr + x ∧ (unit (d.qwinAdd k x y).lanes k).qUncorr = (unit d.lanes k).qUncorr + y := by
  have kept : (d.qwinAdd k x y).lanes = (d.lane k fun l => { l with qCorr := l.qCorr + x, qUncorr := l.qUncorr + y }).lanes := by
    rw [Dev.qwinAdd, if_pos hq, Dev.qwinSync, Dev.set_lanes, Dev.set_lanes]
  rw [kept, unit_lane d _ hk]
  exact ⟨rfl, rfl⟩

theorem qwinAdd_due (d : Dev) (k x y : Nat) (t : Timer) : (d.qwinAdd k x y).due t = d.due t := by
  unfold Dev.qwinAdd
  split
  · rw [Dev.qwinSync, due_set, due_set]; rfl
  · rfl

theorem qwinAdd_rings (d : Dev) (k x y : Nat) : (d.qwinAdd k x y).rings = d.rings ∧ (d.qwinAdd k x y).tick = d.tick ∧ (d.qwinAdd k x y).pwr = d.pwr := by
  unfold Dev.qwinAdd
  split
  · simp [Dev.qwinSync]
  · exact ⟨rfl, rfl, rfl⟩

theorem laneTally_same (d : Dev) (k : Nat) (c : FrameCounts) :
    (d.laneTally k c).rings = d.rings ∧ (d.laneTally k c).tick = d.tick ∧ (d.laneTally k c).pwr = d.pwr ∧ (d.laneTally k c).lanes = d.lanes := by
  simp [Dev.laneTally, Dev.each, Dev.laneCnt, Dev.inc]

theorem laneTally_due (d : Dev) (k : Nat) (c : FrameCounts) (t : Timer) : (d.laneTally k c).due t = d.due t := due_each _ t (fun _ _ => due_inc ..) _

theorem laneTally_get (d : Dev) (k : Fin 96) (c : FrameCounts) {f : Fld} (h : f.apart F.LANE_CNT.COUNT = true) {b x : Nat} (ha : k.val < f.n1)
    (hb : b < f.n2) (hc : x < f.n3) : (d.laneTally k c).get f k b x = d.get f k b x := by
  have one : ∀ (e : Dev) (j n : Nat), (e.laneCnt k j n).get f k b x = e.get f k b x := fun e j n => by
    rw [Dev.laneCnt]
    exact Dev.get_inc_apart e h n ha hb hc
  have all : ∀ (l : List (Nat × Nat)) (e : Dev), (l.foldl (fun d x => d.laneCnt k x.1 x.2) e).get f k b x = e.get f k b x := fun l => by
    induction l with
    | nil => exact fun _ => rfl
    | cons y l ih => exact fun e => (ih _).trans (one e y.1 y.2)
  exact all _ d

/-- R200: a window that ends within its limits is empty again and ends 4,190,208 ticks later. -/
theorem qwinEnd_within {d : Dev} {k : Fin 96} (hc : (unit d.lanes k).qCorr ≤ d.get F.LANE_FB.CORR_LIM k)
    (hu : (unit d.lanes k).qUncorr < d.get F.LANE_FB.UNCORR_LIM k) (hk : k.val < d.lanes.length) :
    (d.qwinEnd k).get F.LANE_QWIN.CORR k = 0 ∧ (d.qwinEnd k).get F.LANE_QWIN.UNCORR k = 0 ∧ (d.qwinEnd k).due (.qwin k) = some (d.tick + 4190208) := by
  have on : (d.arm (.qwin k) 4190208).qwinOn k = true := by rw [Dev.qwinOn, due_arm]; rfl
  have good : d.qwinEnd k = (d.arm (.qwin k) 4190208).qwinStart k := by
    have within : ¬ ((d.arm (.qwin k) 4190208).get F.LANE_FB.CORR_LIM k < (unit d.lanes k).qCorr
        ∨ (d.arm (.qwin k) 4190208).get F.LANE_FB.UNCORR_LIM k ≤ (unit d.lanes k).qUncorr) := by
      rw [get_arm, get_arm]; omega
    unfold Dev.qwinEnd
    simp only [within, on, if_false, if_true]
  rw [good, Dev.qwinStart, Dev.qwinSync, unit_lane (d.arm (.qwin k) 4190208) _ hk, due_arm, get_arm, get_arm]
  refine ⟨?_, Dev.get_set_here _ _ _ k.isLt (by decide) (by decide), by simp [Dev.lane]⟩
  exact (Dev.get_set_there _ (by decide) _ k.isLt (by decide) (by decide)).trans (Dev.get_set_here _ _ _ k.isLt (by decide) (by decide))

theorem laneQualityWindowEnd_within {s : State} {k : Fin 96} {c : FrameCounts} {x : Nat} (hl : s.dev.live = true) (hd : s.dev.due (.qwin k) = some x)
    (ha : s.dev.ahead x = true) (hk : k.val < s.dev.lanes.length) (hc : (unit s.dev.lanes k).qCorr + c.corrBytes ≤ s.dev.get F.LANE_FB.CORR_LIM k)
    (hu : (unit s.dev.lanes k).qUncorr + c.uncorr < s.dev.get F.LANE_FB.UNCORR_LIM k) :
    After (.laneQualityWindowEnd k c) s fun d => d.get F.LANE_QWIN.CORR k = 0 ∧ d.get F.LANE_QWIN.UNCORR k = 0
      ∧ d.due (.qwin k) = some (max s.dev.tick x + 4190208) := by
  obtain ⟨rings, tick, pwr, lanes⟩ := laneTally_same s.dev k c
  obtain ⟨rings', tick', pwr'⟩ := qwinAdd_rings (s.dev.laneTally k c) k c.corrBytes c.uncorr
  have due : ((s.dev.laneTally k c).qwinAdd k c.corrBytes c.uncorr).due (.qwin k) = some x := by rw [qwinAdd_due, laneTally_due, hd]
  have on : (s.dev.laneTally k c).qwinOn k = true := by rw [Dev.qwinOn, laneTally_due, hd]; rfl
  obtain ⟨corr, uncorr⟩ := qwinAdd_unit (s.dev.laneTally k c) k c.corrBytes c.uncorr on (by rwa [lanes])
  have limit : ∀ f : Fld, (f.apart F.LANE_QWIN.CORR && f.apart F.LANE_QWIN.UNCORR) = true → f.apart F.LANE_CNT.COUNT = true → f.apart F.RSV_TIME.COUNT = true →
      k.val < f.n1 → 0 < f.n2 → 0 < f.n3 →
      ((((s.dev.laneTally k c).qwinAdd k c.corrBytes c.uncorr).until x).disarm (.qwin k)).get f k = s.dev.get f k := fun f q n t h1 h2 h3 => by
    rw [get_disarm, until_get _ _ t h1 h2 h3, qwinAdd_get _ k _ _ q h1 h2 h3, laneTally_get _ k c n h1 h2 h3]
  have units : ((((s.dev.laneTally k c).qwinAdd k c.corrBytes c.uncorr).until x).disarm (.qwin k)).lanes
      = ((s.dev.laneTally k c).qwinAdd k c.corrBytes c.uncorr).lanes := by rw [Dev.disarm_lanes, Dev.until, elapse_lanes]
  have size : ((s.dev.laneTally k c).qwinAdd k c.corrBytes c.uncorr).lanes.length = s.dev.lanes.length := by
    rw [Dev.qwinAdd, if_pos on]; simp [Dev.qwinSync, Dev.lane, lanes]
  have now : ((((s.dev.laneTally k c).qwinAdd k c.corrBytes c.uncorr).until x).disarm (.qwin k)).tick = max s.dev.tick x := by
    rw [Dev.disarm_tick, until_tick _ _ (by rw [Dev.live, pwr', pwr]; exact hl), tick', tick]
  refine after_main (laneQualityWindowEnd_eq k c s) hl ?_
  rw [fire_due due (by rw [ahead_of rings' tick', ahead_of rings tick, ha])]
  obtain ⟨c0, u0, again⟩ := qwinEnd_within (d := (((s.dev.laneTally k c).qwinAdd k c.corrBytes c.uncorr).until x).disarm (.qwin k)) (k := k)
    (by rw [units, corr, lanes, limit _ (by decide) (by decide) (by decide) k.isLt (by decide) (by decide)]; exact hc)
    (by rw [units, uncorr, lanes, limit _ (by decide) (by decide) (by decide) k.isLt (by decide) (by decide)]; exact hu)
    (by rw [units, size]; exact hk)
  refine ⟨(settle_get _ (by decide) k.isLt).trans c0, (settle_get _ (by decide) k.isLt).trans u0, ?_⟩
  rw [calm_due (calm_settle _) _ rfl, again, now]

/-! IDLE and SHIFT -/

theorem idle_shows {s : State} {k : Fin 96} {n : Nat} (rx fb : Bool) (hl : s.dev.live = true) (hlock : s.dev.ownLocks k = true) (hn : n ≠ 0)
    (hk : k.val < s.dev.lanes.length) : After (.idle k rx ⟨fb, n⟩) s fun d => d.bit F.LANE_STATUS.PEER_LOCKED k = rx
      ∧ (unit d.lanes k).idleRun = if rx then (unit s.dev.lanes k).idleRun + n else 0 := by
  refine after_main ((exec_idle ..).trans (by rw [execIdle])) hl ?_
  simp only [hlock, hn, ne_eq, not_false_eq_true, and_self, if_true]
  have locked : ((s.dev.setB F.LANE_STATUS.PEER_LOCKED rx k).lane k fun l => { l with idleRun := if rx then l.idleRun + n else 0 }).bit
      F.LANE_STATUS.PEER_LOCKED k = rx := Dev.bit_setB_same s.dev (by decide) rx k.isLt (by decide) (by decide)
  have run : ((s.dev.setB F.LANE_STATUS.PEER_LOCKED rx k).lane k fun l => { l with idleRun := if rx then l.idleRun + n else 0 }).idles k
      = if rx then (unit s.dev.lanes k).idleRun + n else 0 := by
    rw [Dev.idles, unit_lane _ _ (by simpa [Dev.setB] using hk), Dev.setB, Dev.set_lanes]
  generalize ((s.dev.setB F.LANE_STATUS.PEER_LOCKED rx k).lane k fun l => { l with idleRun := if rx then l.idleRun + n else 0 }) = e at locked run ⊢
  refine ⟨(settle_bit _ (by decide) k.isLt).trans ?_, (congrArg (fun l => (unit l k.val).idleRun) (lanes_of_calm (calm_settle _))).trans ?_⟩
  · split
    · exact (degrade_peerLocked e k).trans locked
    · exact locked
  · split
    · exact (degrade_idles e k).trans run
    · exact run

theorem shift_switches {s : State} {k : Fin 96} (hl : s.dev.live = true) (hh : s.dev.laneHears k = true) (hs : (unit s.dev.lanes k).shifting = true)
    (hr : (unit s.dev.lanes k).shiftRx = false) (hk : k.val < s.dev.lanes.length) :
    After (.shift k 0) s fun d => (unit d.lanes k).shiftRx = true ∧ d.bit F.LANE_STATUS.BLK_LOCK k = false := by
  refine after_main ((exec_shift ..).trans (by rw [execShift])) hl ?_
  simp only [hh, hs, hr, Bool.not_false, and_self, if_true]
  refine ⟨(congrArg (fun l => (unit l k.val).shiftRx) (lanes_of_calm (calm_settle _))).trans ?_, (settle_bit _ (by decide) k.isLt).trans ?_⟩
  · refine (lane_keeps Lane.shiftRx (by intro l; rfl) _ _ _).trans ?_
    rw [unit_lane _ _ (by simpa [Dev.setB] using hk)]
  · exact (Dev.bit_setB_apart _ (by decide) false k.isLt (by decide) (by decide)).trans (Dev.bit_setB_same _ (by decide) false k.isLt (by decide) (by decide))

end Sys2Proof.Machine
end

section
/-! SUPPORT. A lane that is still, off, held or at an attempt (R168, R192 to R199), and what settles O30. -/

namespace Sys2Proof.Machine

set_option Elab.async false

/-! The end of a lane's state -/

/-- What the apply phase and the loan of a group are free to change after a lane is off. -/
def offMask : Mask := ⟨checkMask.regs ++ [F.GLB_ESAP.TICKS], [.slots]⟩

@[simp] theorem offView_esapSync (d : Dev) : d.esapSync.calm.view offMask = d.calm.view offMask := by
  unfold Dev.esapSync
  extract_lets ks d1 ds
  have shown : d1.calm.view offMask = d.calm.view offMask := view_set (by decide) ..
  split
  · exact (view_each (fun d k => view_check (by decide) ..) _ _).trans shown
  · exact shown

theorem laneOff_view (d : Dev) (k : Nat) : (d.laneOff k).calm.view offMask
    = ((((d.laneStill k).set F.LANE_STATUS.STATE 0 k).set F.LANE_STATUS.MODE 0 k).lane k fun l => { l with txdis := true, twoLevel := false, lost := false }).calm.view offMask := by
  rw [Dev.laneOff]
  exact (view_groupSync ..).trans (offView_esapSync _)

theorem laneOff_st (d : Dev) (k : Fin 96) : (d.laneOff k).laneSt k = 0 := by
  refine (get_of_view (laneOff_view d k) (f := F.LANE_STATUS.STATE) (by decide) k.isLt).trans ?_
  refine (get_of_regs (Dev.lane_regs ..) ..).trans ((Dev.get_set_there _ (by decide) _ k.isLt (by decide) (by decide)).trans ?_)
  exact Dev.get_set_here _ _ 0 k.isLt (by decide) (by decide)

theorem checkFail_get (d : Dev) (code : Nat) (k : Fin 96) {f : Fld} (h : checkMask.keeps f = true) (hk : k.val < f.n1) (h2 : 0 < f.n2) (h3 : 0 < f.n3) :
    (d.checkFail code k).get f k = d.get f k := get_of_view (checkView_checkFail d code k) h hk h2 h3

theorem laneHold_held (d : Dev) (k : Fin 96) (code : Nat) : (d.laneHold k code).laneSt k = 0 ∧ (d.laneHold k code).bit F.LANE_STATUS.HELD k = true := by
  rw [Dev.laneHold]
  constructor
  · refine (checkFail_get _ code k (f := F.LANE_STATUS.STATE) (by decide) k.isLt (by decide) (by decide)).trans ?_
    refine (Dev.get_set_apart _ (by decide) _ k.isLt (by decide) (by decide)).trans ?_
    exact (Dev.get_setB_apart _ (by decide) _ k.isLt (by decide) (by decide)).trans (laneOff_st d k)
  · refine (Dev.bit_of_get (checkFail_get _ code k (f := F.LANE_STATUS.HELD) (by decide) k.isLt (by decide) (by decide))).trans ?_
    refine (Dev.bit_set_apart _ (by decide) _ k.isLt (by decide) (by decide)).trans ?_
    exact Dev.bit_setB_same _ (by decide) true k.isLt (by decide) (by decide)

theorem attemptStart_st (d : Dev) (k : Fin 96) (n : Nat) : (d.attemptStart k n).laneSt k = 2 := by
  have at2 : ∀ e : Dev, (((e.set F.LANE_STATUS.STATE 2 k).set F.LANE_STATUS.ATTEMPT n k)).get F.LANE_STATUS.STATE k = 2 := fun e =>
    (Dev.get_set_apart _ (by decide) _ k.isLt (by decide) (by decide)).trans (Dev.get_set_here _ _ 2 k.isLt (by decide) (by decide))
  unfold Dev.attemptStart Dev.laneSt
  extract_lets d1 d2 d3
  have st3 : d3.get F.LANE_STATUS.STATE k = 2 := by
    refine (get_arm ..).trans ((get_of_regs (Dev.lane_regs ..) ..).trans ?_)
    exact (Dev.get_setB_apart _ (by decide) _ k.isLt (by decide) (by decide)).trans (at2 _)
  split
  · exact st3
  · exact (get_arm ..).trans st3

theorem laneRetrain_st (d : Dev) (k : Fin 96) (code : Nat) : (d.laneRetrain k code).laneSt k = 0 ∨ (d.laneRetrain k code).laneSt k = 2 := by
  unfold Dev.laneRetrain
  extract_lets two d1 recent d2
  split
  · refine .inl ((Dev.get_setB_apart _ (by decide) _ k.isLt (by decide) (by decide)).trans ?_)
    exact (get_of_regs (Dev.lane_regs ..) ..).trans (laneOff_st d2 k)
  · exact .inr (attemptStart_st d2 k 1)

theorem shiftTimeout_leaves {s : State} {k : Fin 96} {x : Nat} (hl : s.dev.live = true) (hd : s.dev.due (.shift k) = some x) (ha : s.dev.ahead x = true)
    (hs : (unit s.dev.lanes k).shifting = true) : After (.shiftTimeout k) s fun d => d.laneSt k ≠ 5 := by
  refine after_fire ((exec_shiftTimeout ..).trans (by rw [execShiftTimeout])) hl hd ha ?_
  have still : (unit ((s.dev.until x).disarm (.shift k)).lanes k).shifting = true := by rwa [Dev.disarm_lanes, Dev.until, elapse_lanes]
  rw [if_pos still]
  have st := laneRetrain_st ((s.dev.until x).disarm (.shift k)) k 17
  have shown : ∀ e : Dev, e.settle.laneSt k = e.laneSt k := fun e => settle_get e (by decide) k.isLt
  rw [shown]
  omega

/-- Settles O30: a window's counts, its end within its limits, an IDLE, a SHIFT, and a shift not complete in time. -/
theorem laneQuality : Obligations.LaneQuality := by
  intro s k hl
  refine ⟨fun c => ?_, fun c x hd ha hk hc hu => laneQualityWindowEnd_within hl hd ha hk hc hu, fun rx fb n hlock hn hk => idle_shows rx fb hl hlock hn hk,
    fun hh hs hr hk => shift_switches hl hh hs hr hk, fun x hd ha hs => shiftTimeout_leaves hl hd ha hs⟩
  obtain ⟨h3, h4, h5⟩ := laneTally_counts s.dev k c
  refine after_main (laneQualityWindowEnd_eq k c s) hl ⟨?_, ?_, ?_⟩
  · exact (settle_get _ (by decide) k.isLt).trans ((qualityWindow_counts s.dev k c (by decide) (by decide)).trans h3)
  · exact (settle_get _ (by decide) k.isLt).trans ((qualityWindow_counts s.dev k c (by decide) (by decide)).trans h4)
  · exact (settle_get _ (by decide) k.isLt).trans ((qualityWindow_counts s.dev k c (by decide) (by decide)).trans h5)

end Sys2Proof.Machine
end

section
/-! SUPPORT. The safety inputs (R502 to R511): what an operation of a part leaves of the pairs of channels, and what settles O25. -/

namespace Sys2Proof.Machine

set_option Elab.async false

theorem exec_safetyInputChange (part : Fin 2) (n : Fin 8) (ch : Fin 2) (r : LevelRun) (s : State) :
    exec (.safetyInputChange part n ch r) s = execSafetyInputChange part n ch r s := rfl
theorem exec_discrepancyTimeout (part : Fin 2) (n : Fin 8) (s : State) : exec (.discrepancyTimeout part n) s = execDiscrepancyTimeout part n s := rfl
theorem exec_delayedOffExpiry (part : Fin 2) (n : Fin 8) (s : State) : exec (.delayedOffExpiry part n) s = execDelayedOffExpiry part n s := rfl
theorem exec_safetyFaultClear (n : Fin 8) (s : State) : exec (.safetyFaultClear n) s = execSafetyFaultClear n s := rfl

theorem pairs_of_calm {d e : Dev} (h : e.calm = d.calm) : e.saf.pairs = d.saf.pairs := congrArg (fun x => x.saf.pairs) h

/-- A part of every pair, as the two parts of the Island see it. -/
def Dev.pairsBy {β : Type} (d : Dev) (p : Pair → β) : List (List β) := d.saf.pairs.map fun l => l.map p

section
variable {β : Type} (p : Pair → β) (d : Dev)

theorem pairsBy_of_pairs {d e : Dev} (h : e.saf.pairs = d.saf.pairs) : e.pairsBy p = d.pairsBy p := by rw [Dev.pairsBy, Dev.pairsBy, h]
theorem pairsBy_of_held {d e : Dev} (h : e.held = d.held) : e.pairsBy p = d.pairsBy p := pairsBy_of_pairs p (pairs_of_held h)
theorem pairsBy_of_calm {d e : Dev} (h : e.calm = d.calm) : e.pairsBy p = d.pairsBy p := pairsBy_of_pairs p (pairs_of_calm h)

theorem modify_map_keeps {α γ : Type} {q : α → γ} {g : α → α} (h : ∀ x, q (g x) = q x) (l : List α) (i : Nat) : (l.modify i g).map q = l.map q := by
  refine List.ext_getElem (by simp) fun j h1 h2 => ?_
  rw [List.getElem_map, List.getElem_map, List.getElem_modify]
  split
  · exact h _
  · rfl

theorem pairsBy_pair {g : Pair → Pair} (h : ∀ x, p (g x) = p x) (part n : Nat) : (d.pair part n g).pairsBy p = d.pairsBy p :=
  modify_map_keeps (fun l => modify_map_keeps h l n) _ _

theorem unit_map {α γ : Type} [Inhabited α] (q : α → γ) (l : List α) (i : Nat) : q (unit l i) = (l.map q).getD i (q default) := by
  rw [unit, List.getD_map]

theorem pairAt_by (part n : Nat) : p (d.pairAt part n) = ((d.pairsBy p).getD part []).getD n (p default) := by
  rw [Dev.pairAt, unit_map p, Dev.pairsBy, unit_map (fun l : List Pair => l.map p)]
  rfl

theorem pairAt_of {d e : Dev} (h : e.pairsBy p = d.pairsBy p) (part n : Nat) : p (e.pairAt part n) = p (d.pairAt part n) := by
  rw [pairAt_by p, pairAt_by p, h]

/-- An operation on one pair shows in that pair, where the pair stands. -/
theorem pairAt_pair (g : Pair → Pair) {part n : Nat} (hp : part < d.saf.pairs.length) (hn : n < (unit d.saf.pairs part).length) :
    (d.pair part n g).pairAt part n = g (d.pairAt part n) := by
  rw [Dev.pairAt, Dev.pair, unit_modify _ _ _ hp, unit_modify _ _ _ hn]
  rfl

/-- What holds of a pair after an operation, and of a pair that does not stand, holds after the operation. -/
theorem pairAt_pair_holds {P : Pair → Prop} {g : Pair → Pair} (hg : ∀ x, P (g x)) (h0 : P default) (part n : Nat) : P ((d.pair part n g).pairAt part n) := by
  by_cases hp : part < d.saf.pairs.length
  · by_cases hn : n < (unit d.saf.pairs part).length
    · rw [pairAt_pair d g hp hn]
      exact hg _
    · rw [Dev.pairAt, Dev.pair, unit_modify _ _ _ hp, unit_beyond (by simpa using hn)]
      exact h0
  · have none : unit (d.pair part n g).saf.pairs part = [] := unit_beyond (by simpa [Dev.pair] using hp)
    rw [Dev.pairAt, none]
    exact h0

/-- What an operation on a pair brings about or keeps, it keeps of every pair. -/
theorem pairAt_pair_keeps {P : Pair → Prop} {g : Pair → Pair} (hg : ∀ x, P x → P (g x)) {part n : Nat} (h : P (d.pairAt part n)) (i j : Nat) :
    P ((d.pair i j g).pairAt part n) := by
  have inner : ∀ l : List Pair, P (unit l n) → P (unit (l.modify j g) n) := fun l hl => by
    by_cases hj : n < l.length
    · rw [unit, List.getD_eq_getElem _ _ (by simpa using hj), List.getElem_modify]
      rw [unit, List.getD_eq_getElem _ _ hj] at hl
      split
      · exact hg _ hl
      · exact hl
    · rw [unit_beyond (by simpa using hj)]
      rwa [unit_beyond hj] at hl
  rw [Dev.pairAt] at h ⊢
  by_cases hp : part < d.saf.pairs.length
  · have at_ : ∀ l : List (List Pair), (hl : part < l.length) → unit l part = l[part] := fun l hl => List.getD_eq_getElem l default hl
    rw [at_ _ (by simpa [Dev.pair] using hp)]
    rw [at_ _ hp] at h
    simp only [Dev.pair, List.getElem_modify]
    split
    · exact inner _ h
    · exact h
  · rw [unit_beyond (l := d.saf.pairs) hp] at h
    rwa [unit_beyond (l := (d.pair i j g).saf.pairs) (by simpa [Dev.pair] using hp)]

end

/-! Operations of the parts -/

@[simp] theorem held_setFlag (d : Dev) (f : Fld) (i : Nat) (v : Bool) : (d.setFlag f i v).held = d.held := held_set ..

@[simp] theorem held_safSync (d : Dev) : d.safSync.held = d.held := held_each (fun e n => by simp) _ _

@[simp] theorem held_sdoCheck (d : Dev) : d.sdoCheck.held = d.held := by
  simp [Dev.sdoCheck, held_of_calm (calm_loopSilence _), held_of_calm (calm_sdoDrop ..)]

section
variable {β : Type} (p : Pair → β) (d : Dev) (part n : Nat)

theorem pairsBy_pairFault (h : ∀ (x : Pair) (f c t y), p { x with fault := f, chatter := c, cond := t, c5 := y } = p x) (src : Nat) (data : List Nat) :
    (d.pairFault part n src data).pairsBy p = d.pairsBy p := by
  unfold Dev.pairFault
  extract_lets o known big d1 d2
  have marked : d2.pairsBy p = d.pairsBy p := (pairsBy_of_held p (held_safSync d1)).trans (pairsBy_pair p d (fun x => h x _ _ _ _) part n)
  split
  · exact marked
  · refine (pairsBy_of_held p ?_).trans marked
    rw [held_checkFail, held_raise, held_of_calm (calm_condOn ..), held_inc]

theorem pairsBy_windowEnd (h : ∀ (x : Pair) (f c t y), p { x with fault := f, chatter := c, cond := t, c5 := y } = p x)
    (hw : ∀ x : Pair, p { x with window := none } = p x) : (d.windowEnd part n).pairsBy p = d.pairsBy p := by
  unfold Dev.windowEnd
  extract_lets x d1
  have ended : d1.pairsBy p = d.pairsBy p := pairsBy_pair p d (fun x => hw x) part n
  split
  · split
    · exact (pairsBy_pairFault p d1 part n h _ _).trans ended
    · exact ended
  · rfl

theorem pairsBy_resetAbort (what : Nat) : (d.resetAbort what).pairsBy p = d.pairsBy p := by
  refine (pairsBy_of_calm p (calm_raise ..)).trans (pairsBy_of_pairs p ?_)
  rfl

theorem pairsBy_demandBegin (h : ∀ x : Pair, p { x with delayed := true } = p x) : (d.demandBegin part n).pairsBy p = d.pairsBy p := by
  unfold Dev.demandBegin
  extract_lets known big kind x data d1 d2 d3
  have delayed : d1.pairsBy p = d.pairsBy p := by
    simp only [d1]
    split
    · exact pairsBy_pair p d (fun x => h x) part n
    · rfl
  have counted : d2.pairsBy p = d.pairsBy p := (pairsBy_of_calm p (calm_condOn ..)).trans ((pairsBy_of_held p (held_inc ..)).trans delayed)
  have aborted : d3.pairsBy p = d.pairsBy p := by
    simp only [d3]
    split
    · exact (pairsBy_resetAbort p d2 1).trans counted
    · exact counted
  split
  · exact delayed
  · exact (pairsBy_of_calm p (calm_raise ..)).trans aborted

end

/-- The levels of a pair's two channels. -/
def Pair.levels (x : Pair) : Bool × Bool := (x.a, x.b)

/-- The level of one channel of a pair. -/
def Pair.level (x : Pair) (ch : Nat) : Bool := if ch = 0 then x.a else x.b

theorem level_of_levels {x y : Pair} (h : x.levels = y.levels) (ch : Nat) : x.level ch = y.level ch := by
  rw [Pair.level, Pair.level, show x.a = y.a from congrArg Prod.fst h, show x.b = y.b from congrArg Prod.snd h]

theorem size_of_pairsBy {β : Type} {p : Pair → β} {d e : Dev} (h : e.pairsBy p = d.pairsBy p) (part : Nat) :
    e.saf.pairs.length = d.saf.pairs.length ∧ (unit e.saf.pairs part).length = (unit d.saf.pairs part).length := by
  have size : ∀ x : Dev, (unit x.saf.pairs part).length = ((x.pairsBy p).getD part []).length := fun x => by
    have := unit_map (fun l : List Pair => l.map p) x.saf.pairs part
    rw [Dev.pairsBy, show ((x.saf.pairs.map fun l => l.map p).getD part []) = (unit x.saf.pairs part).map p from this.symm, List.length_map]
  refine ⟨?_, by rw [size, size, h]⟩
  have := congrArg List.length h
  simpa [Dev.pairsBy] using this

/-- R504: what a part recognises is the channel's level from then on. -/
theorem pairChange_level (d : Dev) {part n : Nat} (ch : Fin 2) (high : Bool) (hp : part < d.saf.pairs.length) (hn : n < (unit d.saf.pairs part).length) :
    ((d.pairChange part n ch high).pairAt part n).level ch = high := by
  unfold Dev.pairChange
  extract_lets x d1 x1 a b dem td tr w2 d2 d3 o d4 d5 d6
  have ended : d1.pairsBy Pair.levels = d.pairsBy Pair.levels := by
    simp only [d1]
    split
    · split
      · exact pairsBy_windowEnd _ d part n (fun _ _ _ _ _ => rfl) fun _ => rfl
      · rfl
    · rfl
  obtain ⟨size, inner⟩ := size_of_pairsBy ended part
  by_cases same : (if ch.val = 0 then x1.a else x1.b) = high
  · rw [if_pos same]
    exact same
  · rw [if_neg same]
    have taken : (d2.pairAt part n).level ch = high := by
      rw [pairAt_pair d1 _ (by omega) (by omega)]
      have two : ch.val = 0 ∨ ch.val = 1 := by omega
      rcases two with h | h <;> simp [Pair.level, a, b, h]
    have timed : d4.pairsBy Pair.levels = d2.pairsBy Pair.levels := by
      refine pairsBy_of_pairs _ ?_
      simp only [d4, d3, apply_ite (fun e : Dev => e.saf.pairs), Dev.arm, Dev.disarm, ite_self]
    have shown : d5.pairsBy Pair.levels = d2.pairsBy Pair.levels := (pairsBy_of_held _ (held_safSync _)).trans timed
    have demanded : d6.pairsBy Pair.levels = d2.pairsBy Pair.levels := by
      simp only [d6]
      split
      · exact (pairsBy_demandBegin _ d5 part n fun _ => rfl).trans shown
      · split
        · exact (pairsBy_of_calm _ (calm_condOff ..)).trans shown
        · exact shown
    have level : ∀ e : Dev, e.pairsBy Pair.levels = d2.pairsBy Pair.levels → (e.pairAt part n).level ch = high := fun e h =>
      (level_of_levels (pairAt_of Pair.levels h part n) ch).trans taken
    split
    · exact level d5 shown
    · split
      · exact level _ ((pairsBy_pairFault _ d6 part n (fun _ _ _ _ _ => rfl) _ _).trans demanded)
      · exact level d6 demanded

theorem settle_pairs (d : Dev) : d.settle.saf.pairs = d.saf.pairs := pairs_of_calm (calm_settle d)

theorem checked_pairs (d : Dev) : d.sdoCheck.settle.saf.pairs = d.saf.pairs := (settle_pairs _).trans (pairs_of_held (held_sdoCheck d))

theorem pairAt_of_pairs {d e : Dev} (h : e.saf.pairs = d.saf.pairs) (part n : Nat) : e.pairAt part n = d.pairAt part n := by
  rw [Dev.pairAt, Dev.pairAt, h]

theorem safetyInputChange_recognises {s : State} (part : Fin 2) (n : Fin 8) (ch : Fin 2) (r : LevelRun) (hl : s.dev.live = true)
    (hp : part.val < s.dev.saf.pairs.length) (hn : n.val < (unit s.dev.saf.pairs part).length) :
    After (.safetyInputChange part n ch r) s fun d =>
      if s.dev.recognised part n r.high r.samples = true then (if ch = 0 then (d.pairAt part n).a else (d.pairAt part n).b) = r.high
      else d.saf.pairs = s.dev.saf.pairs := by
  refine after_main ((exec_safetyInputChange ..).trans (by rw [execSafetyInputChange])) hl ?_
  split
  · rw [pairAt_of_pairs (checked_pairs _)]
    have level := pairChange_level s.dev ch r.high hp hn
    rw [Pair.level] at level
    simpa only [Fin.ext_iff, Fin.val_zero] using level
  · exact settle_pairs _

theorem discrepancyTimeout_ends {s : State} (part : Fin 2) (n : Fin 8) {x : Nat} (hl : s.dev.live = true) (hd : s.dev.due (.disc part n) = some x)
    (ha : s.dev.ahead x = true) : After (.discrepancyTimeout part n) s fun d => (d.pairAt part n).window = none := by
  refine after_fire ((exec_discrepancyTimeout ..).trans (by rw [execDiscrepancyTimeout])) hl hd ha ?_
  generalize (s.dev.until x).disarm (.disc part n) = d
  rw [pairAt_of_pairs (checked_pairs _)]
  unfold Dev.windowEnd
  extract_lets y d1
  have ended : (d1.pairAt part n).window = none := pairAt_pair_holds d (P := fun x => x.window = none) (fun _ => rfl) rfl part n
  split
  · split
    · exact (pairAt_of Pair.window (pairsBy_pairFault Pair.window d1 part n (fun _ _ _ _ _ => rfl) _ _) part n).trans ended
    · exact ended
  next none => simpa [y] using none

theorem delayedOffExpiry_ends {s : State} (part : Fin 2) (n : Fin 8) {x : Nat} (hl : s.dev.live = true) (hd : s.dev.due (.delayOff part n) = some x)
    (ha : s.dev.ahead x = true) : After (.delayedOffExpiry part n) s fun d => (d.pairAt part n).delayed = false := by
  refine after_fire ((exec_delayedOffExpiry ..).trans (by rw [execDelayedOffExpiry])) hl hd ha ?_
  generalize (s.dev.until x).disarm (.delayOff part n) = d
  rw [pairAt_of_pairs (checked_pairs _)]
  have ended : ((d.pair part n fun p => { p with delayed := false }).pairAt part n).delayed = false :=
    pairAt_pair_holds d (P := fun x => x.delayed = false) (fun _ => rfl) rfl part n
  generalize (d.pair part n fun p => { p with delayed := false }) = e at ended ⊢
  split
  · exact ended
  · split
    · exact ended
    · rwa [pairAt_of_pairs (pairs_of_calm (calm_raise ..))]

theorem safetyFaultClear_clears {s : State} (n : Fin 8) {x : Nat} (hl : s.dev.live = true) (hd : s.dev.due (.safeClear n) = some x)
    (ha : s.dev.ahead x = true) : After (.safetyFaultClear n) s fun d => (d.pairAt 0 n).cond = false ∧ (d.pairAt 1 n).cond = false := by
  refine after_fire ((exec_safetyFaultClear ..).trans (by rw [execSafetyFaultClear])) hl hd ha ?_
  extract_lets d clr d1 y
  clear_value d
  have clears : ∀ p : Pair, (clr p).cond = false := fun p => by simp only [clr]; split <;> rfl
  have zero : (d1.pairAt 0 n).cond = false := pairAt_pair_keeps _ (P := fun x => x.cond = false) (fun p _ => clears p)
    (pairAt_pair_holds d (P := fun x => x.cond = false) clears rfl 0 n) 1 n
  have one : (d1.pairAt 1 n).cond = false := pairAt_pair_holds _ (P := fun x => x.cond = false) clears rfl 1 n
  have passed : (if y.fault || y.chatter then d1 else d1.checkPass 26 n).saf.pairs = d1.saf.pairs := by
    split
    · rfl
    · exact pairs_of_held (held_checkPass ..)
  have same := (checked_pairs _).trans passed
  rw [pairAt_of_pairs same, pairAt_of_pairs same]
  exact ⟨zero, one⟩

/-- Settles O25: what a part recognises, and the ends of a discrepancy window, of a DELAY and of a fault's condition. -/
theorem safetyInputs : Obligations.SafetyInputs :=
  ⟨fun _ part n ch r hl hp hn => safetyInputChange_recognises part n ch r hl hp hn, fun _ part n _ hl hd ha => discrepancyTimeout_ends part n hl hd ha,
    fun _ part n _ hl hd ha => delayedOffExpiry_ends part n hl hd ha, fun _ n _ hl hd ha => safetyFaultClear_clears n hl hd ha⟩

end Sys2Proof.Machine
end

section
/-! SUPPORT. A register store that holds more than a field's width (R9): a host write puts the bits of the field beside what stands above them, and a value
that is the same again is not written. Such a store is not well-formed, and the statements about plain register writes do not ask for one that is. -/

namespace Sys2Proof.Machine

set_option Elab.async false

open Sys2Proof.Tests

/-- The running block with a number in place of a register's value, wider than its field. -/
def overfull (f : Fld) (a v : Nat) : State := on fun d => { d with regs := (f.key a 0 0, v ^^^ f.reset a) :: d.regs }

/-- What a register reads after a step. -/
def readAfter (f : Fld) (a : Nat) : Host.Outcome State Fault Refusal → Nat
  | .next t => t.dev.get f a
  | _ => 0

theorem readAfter_of_after {i : Instr} {s : State} {f : Fld} {a v : Nat} (h : After i s fun d => d.get f a = v) : readAfter f a (exec i s) = v := by
  obtain ⟨t, ht, _, hv⟩ := h
  rw [ht]
  exact hv

/-- CORR_LIM of lane 0, 16 bits wide, at 81,920 = 65,536 + 16,384. -/
theorem corrLim_stays : readAfter F.LANE_FB.CORR_LIM 0 (exec (.registerWrite ⟨0, .bar0, F.LANE_FB.CORR_LIM.off 0 0 0, 4, 16384⟩) (overfull F.LANE_FB.CORR_LIM 0 81920))
    = 81920 := by decide +kernel

/-- FREQ of hop entry 3, 32 bits wide, at 2^32 + 95,000,000. -/
theorem hopFreq_stays : readAfter F.PLLS_HOP.FREQ 3 (exec (.pllsHopFreqWrite 0 3 95000000) (overfull F.PLLS_HOP.FREQ 3 4389967296)) = 4389967296 := by decide +kernel

/-- FORCE of PWM channel 3, 2 bits wide, at 5. -/
theorem pwForce_stays : readAfter F.PW_FORCE.FORCE 3 (exec (.pwForceWrite 0 3 1) (overfull F.PW_FORCE.FORCE 3 5)) = 5 := by decide +kernel

/-- Refutes O7: where the store holds 81,920 for a CORR_LIM of 16 bits, the write of 16,384 finds these 16 bits as they are, writes nothing, and the register
does not read 16,384. -/
theorem not_plainRegisters : ¬ Obligations.PlainRegisters := by
  rintro ⟨plain, -⟩
  obtain ⟨t, ht, hp, corr, -⟩ := plain (overfull F.LANE_FB.CORR_LIM 0 81920) 0 16384 (by decide +kernel)
  have reads := corrLim_stays.symm.trans (readAfter_of_after ⟨t, ht, hp, corr⟩)
  exact absurd reads (by decide)

/-- Refutes O8: where the store holds 2^32 + 95,000,000 for a FREQ of 32 bits, the write of 95,000,000 writes nothing, and the register does not read it. -/
theorem not_clockRegisters : ¬ Obligations.ClockRegisters := by
  rintro ⟨hop, -⟩
  obtain ⟨t, ht, hp, freq, -⟩ := hop (overfull F.PLLS_HOP.FREQ 3 4389967296) 3 95000000 (by decide +kernel) (by decide +kernel)
    (fun busy => absurd busy (by decide +kernel)) (by decide) (by decide)
  have reads := hopFreq_stays.symm.trans (readAfter_of_after ⟨t, ht, hp, freq⟩)
  exact absurd reads (by decide)

/-- Refutes O9: where the store holds 5 for a FORCE of 2 bits, the write of 1 writes nothing, and the register does not read 1. -/
theorem not_serviceAndControlRegisters : ¬ Obligations.ServiceAndControlRegisters := by
  rintro ⟨-, -, -, force, -⟩
  have reads := pwForce_stays.symm.trans (readAfter_of_after (force (overfull F.PW_FORCE.FORCE 3 5) 3 1 (by decide +kernel) (by decide)))
  exact absurd reads (by decide)

end Sys2Proof.Machine
end

section
/-! SUPPORT. Two more blocks that are not well-formed: a ring whose OWNER is no function (R109, R119), and a block without the groups' own records (R339). -/

namespace Sys2Proof.Machine

set_option Elab.async false

open Sys2Proof.Tests

/-- Ring 0 enabled, its OWNER, 1 bit wide, at 2. -/
def ownerless : State := on fun d => let e := d.setB F.xQ_CTRL.EN true 0; { e with regs := (F.xQ_CTRL.OWNER.key 0 0 0, 2) :: e.regs }

/-- Whether ring 0 is enabled after a step. -/
def ringOnAfter : Host.Outcome State Fault Refusal → Bool
  | .next t => t.dev.bit F.xQ_CTRL.EN 0
  | _ => false

theorem ownerless_stays : ringOnAfter (exec .perstNLow ownerless) = true := by decide +kernel

/-- Refutes O4: a ring whose stored OWNER is 2 belongs to neither function, and PERST_N low, which disables the rings of both, leaves it enabled. -/
theorem not_linkEvents : ¬ Obligations.LinkEvents := by
  rintro ⟨perst, -⟩
  obtain ⟨t, ht, -, -, off⟩ := perst ownerless (by decide +kernel)
  have stays := ownerless_stays
  rw [ht] at stays
  exact absurd (stays.symm.trans (off 0 (by decide))) (by decide)

/-- Group 0 regulates with phase 0 active and a threshold to truncate at; the list of the groups' own records is empty. -/
def groupless : State := on fun d =>
  let e := (((d.set F.GRP_STATUS.STATE 4 0).set F.PH_STATUS.STATE 1 0).set F.OS_CTRL.PHASE_DECL 1).set F.SNS_SCALE.SCALE 0x3F800000 12
  let e := e.set F.SNS_GAIN.GAIN 0x3F800000 12 0
  { e with groups := [], phases := e.phases.set 0 { (default : Phase) with trunc := 1 } }

/-- Whether the period of channel 0 is cut after a step. -/
def cutAfter : Host.Outcome State Fault Refusal → Bool
  | .next t => (unit t.dev.pwm 0).cut
  | _ => false

theorem groupless_uncut : cutAfter (exec (.osTruncation 0 40000) groupless) = false := by decide +kernel

/-- Refutes O22: where the block holds no record of the group, the crossing of the truncation threshold is not kept, and no phase is cut. -/
theorem not_pwmAndOutputEvents : ¬ Obligations.PwmAndOutputEvents := by
  rintro ⟨-, -, -, -, -, truncation, -⟩
  obtain ⟨t, ht, -, cut⟩ := truncation groupless 0 40000 (by decide +kernel) (by decide +kernel) (by decide +kernel) (by decide +kernel)
  have uncut := groupless_uncut
  rw [ht] at uncut
  have kept := cut 0 (by decide +kernel) (by decide +kernel) (by decide +kernel) (by decide +kernel)
  exact absurd (uncut.symm.trans kept) (by decide)

end Sys2Proof.Machine
end

section
/-! SUPPORT. What an event with its reactions leaves beside the calm part (R477 to R482): the counts of the loans refused, the tiers of the log, the health of the parts of the Safety
Island and the counts of the other sources stand, and of the requests for loans some go but none comes. -/

namespace Sys2Proof.Machine

set_option Elab.async false

/-- The registers that an event's reactions may write. -/
def reactFields : List Fld :=
  hotFields.filter fun f => !([F.LOAN_OP_REFUSED.COUNT, F.SAF_STATE.CURATOR_OK, F.SAF_STATE.DETENT_OK, F.REG_SRC_COUNT.COUNT, F.VP_LOG_STATUS.LOW,
    F.VP_LOG_STATUS.FULL].contains f)

/-- The words of every field that is apart from the fields of a list. -/
def farWords (fs : List Fld) (l : List (Nat × Nat)) (f : Fld) (a b c : Nat) : Nat :=
  if fs.all f.apart && (decide (a < f.n1) && decide (b < f.n2) && decide (c < f.n3)) then regGet l (f.key a b c) else 0

/-- What reactions do not write, and the requests for loans that wait. -/
def Dev.stance (d : Dev) : (Fld → Nat → Nat → Nat → Nat) × List LoanReq := (farWords reactFields d.regs, d.loanWait)

theorem farWords_of_sight {d e : Dev} {fs : List Fld} (h : e.sight fs = d.sight fs) : farWords fs e.regs = farWords fs d.regs := by
  funext f a b c
  unfold farWords
  split
  next hf =>
    simp only [Bool.and_eq_true, decide_eq_true_eq] at hf
    obtain ⟨apart, ⟨ha, hb⟩, hc⟩ := hf
    have same := get_of_sight h apart ha hb hc
    exact Nat.xor_left_inj.mp same
  next => rfl

theorem sight_of_farWords {d e : Dev} {fs : List Fld} (h : farWords fs e.regs = farWords fs d.regs) : e.sight fs = d.sight fs := by
  funext f a b c
  unfold Dev.sight
  split
  next hf =>
    have same := congrFun (congrFun (congrFun (congrFun h f) a) b) c
    rw [farWords, farWords, if_pos hf, if_pos hf] at same
    rw [Dev.get, Dev.get, same]
  next => rfl

theorem sight_of_stance {d e : Dev} (h : e.stance = d.stance) : e.sight reactFields = d.sight reactFields := sight_of_farWords (congrArg Prod.fst h)

theorem loanWait_of_stance {d e : Dev} (h : e.stance = d.stance) : e.loanWait = d.loanWait := congrArg Prod.snd h

theorem stance_of_sight {d e : Dev} (h : e.sight reactFields = d.sight reactFields) (hw : e.loanWait = d.loanWait) : e.stance = d.stance := by
  rw [Dev.stance, Dev.stance, farWords_of_sight h, hw]

/-! What leaves both alone -/

@[simp] theorem stance_mk (regs tick freeCtr timers out pwr clk loans loanWait mram rings prov reg lanes cells arr slots bank2 phases groups pwm gates os enc
    col metCh metEl met ports chr saf hk) :
    (Dev.mk regs tick freeCtr timers out pwr clk loans loanWait mram rings prov reg lanes cells arr slots bank2 phases groups pwm gates os enc col
      metCh metEl met ports chr saf hk).stance = (farWords reactFields regs, loanWait) := rfl

@[simp] theorem stance_eta (d : Dev) : (farWords reactFields d.regs, d.loanWait) = d.stance := rfl

section
variable {f : Fld} (h : reactFields.contains f = true) (d : Dev)
include h

@[simp] theorem stance_set (v a b c : Nat) : (d.set f v a b c).stance = d.stance := stance_of_sight (sight_set d h ..) (Dev.set_loanWait ..)
@[simp] theorem farWords_set (v a b c : Nat) : farWords reactFields (d.set f v a b c).regs = farWords reactFields d.regs :=
  congrArg Prod.fst (stance_set h d v a b c)
@[simp] theorem stance_setB (v : Bool) (a b c : Nat) : (d.setB f v a b c).stance = d.stance := stance_set h ..
@[simp] theorem farWords_setB (v : Bool) (a b c : Nat) : farWords reactFields (d.setB f v a b c).regs = farWords reactFields d.regs := farWords_set h ..
@[simp] theorem stance_inc (n a b c : Nat) : (d.inc f n a b c).stance = d.stance := stance_set h ..
@[simp] theorem farWords_inc (n a b c : Nat) : farWords reactFields (d.inc f n a b c).regs = farWords reactFields d.regs := farWords_set h ..
@[simp] theorem stance_setFlag (i : Nat) (v : Bool) : (d.setFlag f i v).stance = d.stance := stance_set h ..
@[simp] theorem farWords_setFlag (i : Nat) (v : Bool) : farWords reactFields (d.setFlag f i v).regs = farWords reactFields d.regs := farWords_set h ..

end

section
variable (d : Dev)

@[simp] theorem loanWait_setB (f : Fld) (v : Bool) (a b c : Nat) : (d.setB f v a b c).loanWait = d.loanWait := Dev.set_loanWait ..
@[simp] theorem loanWait_inc (f : Fld) (n a b c : Nat) : (d.inc f n a b c).loanWait = d.loanWait := Dev.set_loanWait ..
@[simp] theorem loanWait_setFlag (f : Fld) (i : Nat) (v : Bool) : (d.setFlag f i v).loanWait = d.loanWait := Dev.set_loanWait ..

@[simp] theorem stance_arm (t : Timer) (n : Nat) : (d.arm t n).stance = d.stance := rfl
@[simp] theorem stance_disarm (t : Timer) : (d.disarm t).stance = d.stance := rfl
@[simp] theorem stance_emit (o : Out) : (d.emit o).stance = d.stance := rfl
@[simp] theorem stance_free : d.free.stance = d.stance := rfl
@[simp] theorem stance_grp (k : Nat) (g : Group → Group) : (d.grp k g).stance = d.stance := rfl
@[simp] theorem stance_pw (k : Nat) (g : Pwm → Pwm) : (d.pw k g).stance = d.stance := rfl
@[simp] theorem stance_phs (k : Nat) (g : Phase → Phase) : (d.phs k g).stance = d.stance := rfl

@[simp] theorem stance_ite {p : Prop} [Decidable p] (x y : Dev) : (if p then x else y).stance = if p then x.stance else y.stance := apply_ite Dev.stance p x y

@[simp] theorem stance_cond (b : Bool) (g : Dev → Dev) : (d.cond b g).stance = if b then (g d).stance else d.stance := by cases b <;> rfl

theorem stance_each {α : Type} {g : Dev → α → Dev} (h : ∀ d x, (g d x).stance = d.stance) (l : List α) : (d.each l g).stance = d.stance :=
  each_keeps Dev.stance h l d

/-! The log, the rings, records, loans returned -/

theorem stance_of_books {d e : Dev} (h : Books d e) : e.stance = d.stance := stance_of_sight (sight_le (by decide) h.1) (loanWait_of_books h)

@[simp] theorem stance_log (kind : Nat) (o : Orig) (object aux old new r x : Nat) : (d.log kind o object aux old new r x).stance = d.stance :=
  stance_of_books (books_log ..)

@[simp] theorem stance_ringPush (r : Nat) : (d.ringPush r).stance = d.stance := stance_of_books (books_ringPush ..)
@[simp] theorem stance_msix (f v : Nat) : (d.msix f v).stance = d.stance := stance_of_books (books_msix ..)

@[simp] theorem stance_evWrite (e : Nat) (x : Event) : (d.evWrite e x).stance = d.stance := by
  simp only [Dev.evWrite, Dev.writeBack]
  split <;> simp

@[simp] theorem stance_evPut (e : Nat) (x : Event) : (d.evPut e x).stance = d.stance := by
  simp (disch := decide) [Dev.evPut]

@[simp] theorem stance_loanSync : d.loanSync.stance = d.stance := by simp (disch := decide) [Dev.loanSync]
@[simp] theorem stance_waitSync : d.waitSync.stance = d.stance := stance_each d (fun d op => stance_set (by decide) ..) _

@[simp] theorem stance_loanReturn (op inst : Nat) : (d.loanReturn op inst).stance = d.stance := by simp [Dev.loanReturn, Dev.loanLog]
@[simp] theorem stance_pllDrop (p u : Nat) : (d.pllDrop p u).stance = d.stance := by simp (disch := decide) [Dev.pllDrop]

@[simp] theorem stance_arcMark (type flags object aux : Nat) (body : List Int) (len : Nat) :
    (d.arcMark type flags object aux body len).stance = d.stance := by
  simp (disch := decide) [Dev.arcMark]

@[simp] theorem stance_arcTrigger (cause aux : Nat) : (d.arcTrigger cause aux).stance = d.stance := by
  unfold Dev.arcTrigger
  split <;> simp (disch := decide)

@[simp] theorem stance_arcStart : d.arcStart.stance = d.stance := by simp (disch := decide) [Dev.arcStart]

/-! Stops of the blocks -/

@[simp] theorem stance_loopSilence : d.loopSilence.stance = d.stance := by simp (disch := decide) [Dev.loopSilence]
@[simp] theorem stance_sdoDrop (c x : Bool) : (d.sdoDrop c x).stance = d.stance := by simp (disch := decide) [Dev.sdoDrop]

@[simp] theorem stance_level (c l : Nat) : (d.level c l).stance = d.stance := by
  unfold Dev.level
  extract_lets x was d1
  have set : d1.stance = d.stance := (stance_pw ..).trans ((stance_set (by decide) ..).trans (stance_set (by decide) ..))
  clear_value d1
  simp (disch := decide) [set]

@[simp] theorem stance_softOffChan (s c : Nat) : (d.softOffChan s c).stance = d.stance := by simp (disch := decide) [Dev.softOffChan, Dev.deadEnd]

@[simp] theorem stance_softOffs (ss : List Nat) : (d.softOffs ss).stance = d.stance := by
  unfold Dev.softOffs
  extract_lets ss1 d1
  have channels : d1.stance = d.stance :=
    (stance_each _ (fun d s => stance_setB (by decide) ..) _).trans (stance_each _ (fun d c => stance_softOffChan d _ c) _)
  clear_value d1
  simp (disch := decide) [channels]

@[simp] theorem stance_grpPhasesOff (g : Nat) : (d.grpPhasesOff g).stance = d.stance :=
  (stance_set (by decide) ..).trans (stance_each _ (fun d k => by simp (disch := decide)) _)

@[simp] theorem stance_prePhase (s ph : Nat) : (d.prePhase s ph).stance = d.stance := by simp (disch := decide) [Dev.prePhase]
@[simp] theorem stance_latchSet (src obj : Nat) : (d.latchSet src obj).stance = d.stance := by simp (disch := decide) [Dev.latchSet]

/-- Entry to a device state other than STAGED. -/
theorem stance_setState {s : Nat} (hs : s ≠ STAGED) (o : Orig) : (d.setState s o).stance = d.stance := by
  have unproven : ∀ e : Dev, (e.each (List.range 32) fun d x =>
      d.setB F.GD_STATUS.UNPROVEN (d.bit F.GD_CFG.BOOTSTRAP x && d.bit F.GD_CFG.DECLARED x) x).stance = e.stance :=
    fun e => stance_each e (fun d x => stance_setB (by decide) ..) _
  have brake : ∀ e : Dev, (e.each [24, 25] fun d c => d.level c 0).stance = e.stance := fun e => stance_each e (fun d c => stance_level ..) _
  unfold Dev.setState
  extract_lets old d1 d2 a d3 d4 d5 d6 d7
  have entered : d1.stance = d.stance := by simp (disch := decide) [d1, Dev.loopRate]
  have same : d2.stance = d1.stance := by simp [d2, hs]
  have archive : d3.stance = d2.stance := by simp (disch := decide) [d3]
  have silent : d4.stance = d3.stance := by simp [d4]
  have proofs : d5.stance = d4.stance := by simp [d5, unproven]
  have unarmed : d6.stance = d5.stance := by simp (disch := decide) [d6]
  have braked : d7.stance = d5.stance := by simp [d7, brake, unarmed]
  split
  · rfl
  · split
    all_goals simp (disch := decide) [braked, proofs, silent, archive, same, entered]

/-! Events -/

@[simp] theorem stance_activeSync (src : Nat) : (d.activeSync src).stance = d.stance := by simp (disch := decide) [Dev.activeSync]
@[simp] theorem stance_condOn (src obj : Nat) : (d.condOn src obj).stance = d.stance := by simp [Dev.condOn]
@[simp] theorem stance_condOff (src obj : Nat) : (d.condOff src obj).stance = d.stance := by simp [Dev.condOff]
@[simp] theorem stance_earlyMerge : d.earlyMerge.stance = d.stance := by simp (disch := decide) [Dev.earlyMerge]
@[simp] theorem stance_earlyNote (src obj : Nat) (slot : Option Nat) : (d.earlyNote src obj slot).stance = d.stance := by simp [Dev.earlyNote]
@[simp] theorem stance_incidentEnd : d.incidentEnd.stance = d.stance := by simp (disch := decide) [Dev.incidentEnd]
@[simp] theorem stance_stopReached : d.stopReached.stance = d.stance := by simp [Dev.stopReached]
@[simp] theorem stance_errSync : d.errSync.stance = d.stance := by simp (disch := decide) [Dev.errSync]

@[simp] theorem stance_aqEnter (x : Event) (opened : Bool) : (d.aqEnter x opened).stance = d.stance := by
  simp only [Dev.aqEnter]
  split
  · rfl
  · exact stance_inc (by decide) ..

@[simp] theorem stance_incidentTake (src cls obj : Nat) : (d.incidentTake src cls obj).1.stance = d.stance := by
  simp (disch := decide) [Dev.incidentTake, apply_ite Prod.fst]

/-- An event latched is counted, in all and at its source. -/
theorem stance_latchOnly (src cls obj : Nat) (data : List Nat) (i : Option Nat) (forced : Bool) :
    (d.latchOnly src cls obj data i forced).stance = ((d.inc F.REG_EVENTS.COUNT 1).inc F.REG_SRC_COUNT.COUNT 1 src).stance := by
  unfold Dev.latchOnly
  extract_lets cls1 d1 d2 bytes
  have counted : d2.stance = d1.stance := by simp (disch := decide) [d2]
  split
  rename_i d3 merged opened same
  have taken : d3.stance = d1.stance := (congrArg (fun x => x.1.stance) same).symm.trans ((stance_incidentTake ..).trans counted)
  extract_lets at_ x n d4 d5 d6 d7
  have logged : d4.stance = d3.stance := by simp [d4]
  have noted : d6.stance = d3.stance := by simp [d6, d5, logged]
  have routed : d7.stance = d3.stance := (stance_each _ (fun d n => stance_evPut ..) _).trans noted
  simp [routed, taken, d1]

end

/-! Reactions: requests go, none comes -/

/-- The words are these, and every request that waits is one of these. -/
def Tame (l : Fld → Nat → Nat → Nat → Nat) (w : LoanReq → Prop) (x : (Fld → Nat → Nat → Nat → Nat) × List LoanReq) : Prop := x.1 = l ∧ ∀ q ∈ x.2, w q

section
variable {l : Fld → Nat → Nat → Nat → Nat} {w : LoanReq → Prop}

@[simp] theorem tame_ite {p : Prop} [Decidable p] (x y : (Fld → Nat → Nat → Nat → Nat) × List LoanReq) :
    Tame l w (if p then x else y) ↔ if p then Tame l w x else Tame l w y := by
  split <;> rfl

section
variable {d : Dev} (h : Tame l w d.stance)
include h

theorem tame_loanDrop (op inst : Nat) : Tame l w (d.loanDrop op inst).stance := by
  unfold Dev.loanDrop
  split
  · rw [stance_waitSync]
    exact ⟨h.1, fun q hq => h.2 q (List.mem_of_mem_filter hq)⟩
  · exact h

theorem tame_each {α : Type} {g : Dev → α → Dev} (hg : ∀ d x, Tame l w d.stance → Tame l w (g d x).stance) (xs : List α) :
    Tame l w (d.each xs g).stance := by
  induction xs generalizing d with
  | nil => exact h
  | cons x xs ih => exact ih (hg d x h)

theorem tame_loanEnd (op : Nat) : Tame l w (d.loanEnd op).stance := by
  unfold Dev.loanEnd
  refine tame_each ?_ (fun e _ he => tame_loanDrop he ..) _
  rwa [stance_each _ (fun e _ => stance_loanReturn ..) _]

theorem tame_loanReturn (op inst : Nat) : Tame l w (d.loanReturn op inst).stance := by rwa [stance_loanReturn]

theorem tame_grpLoanEnd (g : Nat) : Tame l w (d.grpLoanEnd g).stance := tame_loanDrop (tame_loanReturn h ..) ..

theorem tame_grpStop (g : Nat) : Tame l w (d.grpStop g).stance := by
  have ended := tame_grpLoanEnd h g
  simp (disch := decide) [Dev.grpStop, h, ended]

theorem tame_grpFast (g : Nat) : Tame l w (d.grpFast g).stance := by
  have ended := tame_grpLoanEnd h g
  simp (disch := decide) [Dev.grpFast, h, ended]

theorem tame_colStop : Tame l w d.colStop.stance := by
  simp [Dev.colStop, h]

theorem tame_colHeld : Tame l w d.colHeld.stance := by
  have ended := tame_loanDrop (tame_loanReturn h 10 0) 10 0
  simp (disch := decide) [Dev.colHeld, h, ended]

theorem tame_preEnd : Tame l w d.preEnd.stance := by
  unfold Dev.preEnd
  rw [stance_each _ (fun e s => by simp) _]
  exact tame_loanEnd h ..

theorem tame_setState {s : Nat} (hs : s ≠ STAGED) (o : Orig) : Tame l w (d.setState s o).stance := by rwa [stance_setState d hs]

theorem tame_precharge0 (o : Orig) : Tame l w (d.precharge0 o).stance := by
  unfold Dev.precharge0
  refine tame_setState ?_ (by decide) o
  rw [stance_pllDrop, stance_disarm, stance_loanReturn]
  exact tame_preEnd h

theorem tame_orderlyStop (o : Orig) : Tame l w (d.orderlyStop o).stance := by
  unfold Dev.orderlyStop
  extract_lets arr d1
  split
  · have begun : Tame l w d1.stance := h
    exact tame_setState (tame_colStop (tame_grpStop (tame_grpStop begun 0) 1)) (by decide) o
  · split
    · exact tame_precharge0 (tame_colStop h) o
    · split
      · exact tame_colStop h
      · exact h

theorem tame_fastStop (o : Orig) (hall : Bool) : Tame l w (d.fastStop o hall).stance := by
  unfold Dev.fastStop
  extract_lets from_ arr d1 d2
  split
  · have begun : Tame l w d1.stance := h
    have off : Tame l w (d1.softOff 0).stance := by rwa [Dev.softOff, stance_softOffs]
    have fast := tame_grpFast (tame_grpFast off 0) 1
    have stopped : Tame l w d2.stance := by
      simp only [d2, stance_cond, tame_ite]
      split
      · exact tame_colStop fast
      · exact fast
    split
    · exact tame_setState stopped (by decide) o
    · split
      · exact tame_precharge0 stopped o
      · exact stopped
  · exact h

theorem tame_lockEnter (o : Orig) : Tame l w (d.lockEnter o).stance := by
  unfold Dev.lockEnter
  extract_lets d1 d2 saf
  have ended : Tame l w d1.stance := tame_loanEnd (tame_loanEnd (tame_preEnd (tame_loanDrop (tame_loanReturn h 4 0) 4 0)) 9) 10
  clear_value d1
  have dropped : d2.stance = d1.stance := (stance_pllDrop ..).trans (stance_pllDrop ..)
  rw [← dropped] at ended
  refine tame_setState ?_ (by decide) o
  exact ended

theorem tame_lockTry : Tame l w d.lockTry.stance := by
  unfold Dev.lockTry
  split
  · split
    · exact h
    · exact tame_lockEnter h _
  · exact h

theorem tame_safeOff (src obj : Nat) (o : Orig) : Tame l w (d.safeOff src obj o).stance := by
  unfold Dev.safeOff
  extract_lets d1 arr d2 d3 d4 arr2 d5 d6 saf
  have begun : d2.stance = d.stance := by simp [d2, d1]
  rw [← begun] at h
  have off : Tame l w (d2.softOffs [0, 1, 2]).stance := by rwa [stance_softOffs]
  have held : Tame l w d3.colHeld.stance := tame_colHeld (tame_grpFast (tame_grpFast off 0) 1)
  have dark : d4.stance = d3.colHeld.stance := stance_setB (by decide) ..
  rw [← dark] at held
  exact tame_lockTry (d := { d6 with saf := { saf with lockDue := some o } }) held

theorem tame_react (src cls obj factor : Nat) : Tame l w (d.react src cls obj factor).stance := by
  unfold Dev.react
  extract_lets reg d1 x
  have derated : Tame l w d1.stance := by
    simp only [d1]
    split
    · exact h
    · exact h
  have answered : Tame l w x.stance := by
    simp only [x]
    split
    · exact tame_safeOff derated ..
    · split
      · exact tame_fastStop derated ..
      · split
        · exact tame_orderlyStop derated _
        · exact derated
  split
  · rwa [stance_stopReached, stance_errSync]
  · exact answered

end
end

/-! An event raised -/

section
variable (d : Dev) (src cls obj : Nat) (data : List Nat) (i factor : Option Nat)

/-- An event latched counts at its source, and its reaction ends requests. -/
theorem tame_latchEvent (forced : Bool) : Tame (farWords reactFields ((d.inc F.REG_EVENTS.COUNT 1).inc F.REG_SRC_COUNT.COUNT 1 src).regs) (· ∈ d.loanWait)
    (d.latchEvent src cls obj data i forced factor).stance := by
  unfold Dev.latchEvent
  refine tame_react ?_ ..
  rw [stance_latchOnly]
  refine ⟨rfl, fun q hq => ?_⟩
  simpa only [Dev.stance, loanWait_inc] using hq

theorem latchEvent_waits (forced : Bool) : ∀ q ∈ (d.latchEvent src cls obj data i forced factor).loanWait, q ∈ d.loanWait := (tame_latchEvent ..).2

section
variable {f : Fld} (hf : reactFields.all f.apart = true) {a b c : Nat} (ha : a < f.n1) (hb : b < f.n2) (hc : c < f.n3)
include hf ha hb hc

theorem get_of_stance {d e : Dev} (h : e.stance = d.stance) : e.get f a b c = d.get f a b c := get_of_sight (sight_of_stance h) hf ha hb hc

theorem latchEvent_counted (forced : Bool) : (d.latchEvent src cls obj data i forced factor).get f a b c
    = ((d.inc F.REG_EVENTS.COUNT 1).inc F.REG_SRC_COUNT.COUNT 1 src).get f a b c :=
  get_of_sight (sight_of_farWords (tame_latchEvent ..).1) hf ha hb hc

/-- An event latched leaves what neither its reaction nor its count writes. -/
theorem latchEvent_get (forced : Bool) (hs : f.apart F.REG_SRC_COUNT.COUNT = true) :
    (d.latchEvent src cls obj data i forced factor).get f a b c = d.get f a b c := by
  have events : f.apart F.REG_EVENTS.COUNT = true := List.all_eq_true.mp hf _ (by decide)
  rw [latchEvent_counted d src cls obj data i factor hf ha hb hc, Dev.get_inc_apart _ hs _ ha hb hc, Dev.get_inc_apart _ events _ ha hb hc]

theorem conserve_get (code diff : Nat) (hs : f.apart F.REG_SRC_COUNT.COUNT = true) : (d.conserve code diff).get f a b c = d.get f a b c :=
  (latchEvent_get _ _ _ _ _ _ _ hf ha hb hc _ hs).trans (get_of_stance hf ha hb hc (stance_setFlag (by decide) d _ _))

theorem countCheck_get (hs : f.apart F.REG_SRC_COUNT.COUNT = true) : d.countCheck.get f a b c = d.get f a b c := by
  unfold Dev.countCheck
  extract_lets x y
  split
  · exact get_of_stance hf ha hb hc (stance_condOff ..)
  · exact (conserve_get _ hf ha hb hc _ _ hs).trans (get_of_stance hf ha hb hc (stance_condOn ..))

/-- An event raised leaves what neither reactions nor the counts of sources write. -/
theorem raise_leaves (hs : f.apart F.REG_SRC_COUNT.COUNT = true) : (d.raise src cls obj data i factor).get f a b c = d.get f a b c :=
  (countCheck_get _ hf ha hb hc hs).trans (latchEvent_get d src cls obj data i factor hf ha hb hc _ hs)

end

/-! The counts of the sources -/

theorem srcCount_far : reactFields.all F.REG_SRC_COUNT.COUNT.apart = true := by decide +kernel

theorem latchEvent_srcCount (forced : Bool) (hs : src < 256) : (d.latchEvent src cls obj data i forced factor).get F.REG_SRC_COUNT.COUNT src
    = (d.get F.REG_SRC_COUNT.COUNT src + 1) % 2 ^ 64 := by
  rw [latchEvent_counted d src cls obj data i factor srcCount_far hs (by decide) (by decide),
    Dev.get_inc_same _ F.REG_SRC_COUNT.COUNT 1 hs (by decide) (by decide), Dev.get_inc_apart d (by decide) 1 hs (by decide) (by decide)]
  rfl

theorem latchEvent_srcCount_other (forced : Bool) {k : Nat} (hk : k < 256) (h : k ≠ src) :
    (d.latchEvent src cls obj data i forced factor).get F.REG_SRC_COUNT.COUNT k = d.get F.REG_SRC_COUNT.COUNT k := by
  rw [latchEvent_counted d src cls obj data i factor srcCount_far hk (by decide) (by decide), Dev.inc,
    Dev.get_set_ne _ _ _ _ (by simp only [Fld.key, Fld.off, F.REG_SRC_COUNT.COUNT]; omega), Dev.get_inc_apart d (by decide) 1 hk (by decide) (by decide)]

theorem countCheck_srcCount {k : Nat} (hk : k < 256) (h : k ≠ 193) : d.countCheck.get F.REG_SRC_COUNT.COUNT k = d.get F.REG_SRC_COUNT.COUNT k := by
  unfold Dev.countCheck Dev.conserve
  extract_lets x y
  split
  · exact get_of_stance srcCount_far hk (by decide) (by decide) (stance_condOff ..)
  · rw [latchEvent_srcCount_other _ _ _ _ _ _ _ _ hk h, get_of_stance srcCount_far hk (by decide) (by decide) (stance_setFlag (by decide) _ _ _),
      get_of_stance srcCount_far hk (by decide) (by decide) (stance_condOn ..)]

/-- R477: an event counts one at its source. -/
theorem raise_srcCount (hs : src < 256) (h : src ≠ 193) : (d.raise src cls obj data i factor).get F.REG_SRC_COUNT.COUNT src
    = (d.get F.REG_SRC_COUNT.COUNT src + 1) % 2 ^ 64 :=
  (countCheck_srcCount _ hs h).trans (latchEvent_srcCount d src cls obj data i factor _ hs)

theorem raise_srcCount_other {k : Nat} (hk : k < 256) (h : k ≠ src) (h3 : k ≠ 193) :
    (d.raise src cls obj data i factor).get F.REG_SRC_COUNT.COUNT k = d.get F.REG_SRC_COUNT.COUNT k :=
  (countCheck_srcCount _ hk h3).trans (latchEvent_srcCount_other d src cls obj data i factor _ hk h)

/-! The requests that wait -/

theorem countCheck_waits : ∀ q ∈ d.countCheck.loanWait, q ∈ d.loanWait := by
  unfold Dev.countCheck Dev.conserve
  extract_lets x y
  split
  · rw [loanWait_of_stance (stance_condOff ..)]
    exact fun q hq => hq
  · intro q hq
    have before := latchEvent_waits _ _ _ _ _ _ _ _ q hq
    rwa [loanWait_setFlag, loanWait_of_stance (stance_condOn ..)] at before

theorem raise_waits : ∀ q ∈ (d.raise src cls obj data i factor).loanWait, q ∈ d.loanWait :=
  fun q hq => latchEvent_waits d src cls obj data i factor false q (countCheck_waits _ q hq)

end

end Sys2Proof.Machine
end

section
/-! SUPPORT. Loans granted, refused and reduced (R77 to R79). -/

namespace Sys2Proof.Machine

set_option Elab.async false

theorem exec_loanGrant (b : Fin 2) (s : State) : exec (.loanGrant b) s = execLoanGrant b s := rfl
theorem exec_loanRefusedWait (op : Fin 11) (inst : Nat) (s : State) : exec (.loanRefusedWait op inst) s = execLoanRefusedWait op inst s := rfl
theorem exec_lpddr5SelfRefreshEntry (s : State) : exec .lpddr5SelfRefreshEntry s = execLpddr5SelfRefreshEntry s := rfl
theorem exec_lpddr5AccessAfterRefresh (s : State) : exec .lpddr5AccessAfterRefresh s = execLpddr5AccessAfterRefresh s := rfl
theorem exec_selfRefreshExitDone (s : State) : exec .selfRefreshExitDone s = execSelfRefreshExitDone s := rfl
theorem exec_loopEngineLoanReduction (s : State) : exec .loopEngineLoanReduction s = execLoopEngineLoanReduction s := rfl

/-! A grant -/

/-- What the effect of a grant is free to change: a lane's attempt, a dump, the harmonics, a precharge's phase, the start of a group or of the drive. -/
def grantMask : Mask := ⟨laneMask.regs ++ moveMask.regs ++ [F.ARC_STATE.DUMPING, F.PH_STATUS.SLOT, F.PH_OFFSET.OFFSET],
  [.lanes, .cells, .slots, .gates, .phases, .metEl, .met, .enc]⟩

theorem grantView_laneTry (d : Dev) (k : Nat) : (d.laneTry k).calm.view grantMask = d.calm.view grantMask := by
  unfold Dev.laneTry
  split
  · exact view_attemptStart (by decide) ..
  · rfl

theorem grantView_harmGrant (d : Dev) : d.harmGrant.calm.view grantMask = d.calm.view grantMask := by
  unfold Dev.harmGrant
  extract_lets d1 met
  exact (view_arm ..).trans ((view_withMet _ (by decide) _).trans (view_each (fun e k => view_mel e k (by decide) _) _ _))

theorem grantView_preEnter (d : Dev) (s ph : Nat) : (d.preEnter s ph).calm.view grantMask = d.calm.view grantMask := by
  unfold Dev.preEnter
  extract_lets c tmax v d1 arr
  have phased : d1.calm.view grantMask = d.calm.view grantMask := (view_arm ..).trans (view_of_calm (calm_prePhase ..) _)
  clear_value d1
  exact phased

theorem grantView_phStart (d : Dev) (ref k off : Nat) : (d.phStart ref k off).calm.view grantMask = d.calm.view grantMask := by
  simp (disch := decide) [Dev.phStart]

theorem grantView_grpStart (d : Dev) (g : Nat) : (d.grpStart g).calm.view grantMask = d.calm.view grantMask := by
  unfold Dev.grpStart
  extract_lets ks d1 d2 ref d3 per n d4 d5
  have staged : d1.calm.view grantMask = d.calm.view grantMask := view_stageStart (by decide) ..
  have begun : d3.calm.view grantMask = d2.calm.view grantMask := view_each (fun e k => view_set (by decide) ..) _ _
  have spread : d4.calm.view grantMask = d3.calm.view grantMask :=
    view_each (fun e j => (grantView_phStart ..).trans (view_set (by decide) ..)) _ _
  have shown : d5.calm.view grantMask = d4.calm.view grantMask := (view_grp ..).trans (view_set (by decide) ..)
  exact (view_arm ..).trans (shown.trans (spread.trans (begun.trans ((view_set (by decide) ..).trans staged))))

theorem grantView_colReady (d : Dev) : d.colReady.calm.view grantMask = d.calm.view grantMask := by
  have begun : d.colStart.calm.view grantMask = d.calm.view grantMask := view_le (m := moveMask) (by decide) (moveView_colStart d)
  simp [Dev.colReady, begun]

theorem grantView_grantEffect (d : Dev) (op inst : Nat) : (d.grantEffect op inst).calm.view grantMask = d.calm.view grantMask := by
  unfold Dev.grantEffect
  split
  · rfl
  · simp
  · simp
  · simp
  · exact view_each (fun e k => grantView_laneTry ..) _ _
  · simp (disch := decide) [Dev.dumpRun]
  · exact grantView_harmGrant d
  · exact grantView_preEnter ..
  · exact grantView_grpStart ..
  · exact grantView_colReady d
  · rfl

/-- The block once a request is granted, and before what the grant serves begins. -/
def Dev.lent (d : Dev) (q : LoanReq) (before : Nat) : Dev :=
  (((({ d.loanDrop q.op q.inst with loans := ⟨q.op, q.inst, q.cost⟩ :: (d.loanDrop q.op q.inst).loans }).loanSync).inc F.LOAN_OP_GRANTED.COUNT 1 q.op).loanLog
    1 q.op q.inst before).raise 13 0 q.op [q.inst % 256]

theorem lent_granted (d : Dev) (q : LoanReq) (before : Nat) (hq : q.op < 11) :
    (d.lent q before).get F.LOAN_OP_GRANTED.COUNT q.op = (d.get F.LOAN_OP_GRANTED.COUNT q.op + 1) % 2 ^ 64 := by
  unfold Dev.lent
  rw [get_of_calm (calm_raise ..) (by decide) hq, get_of_calm (calm_loanLog ..) (by decide) hq, Dev.get_inc_same _ F.LOAN_OP_GRANTED.COUNT 1 hq (by decide) (by decide),
    get_of_calm (calm_loanSync _) (by decide) hq]
  have dropped : (d.loanDrop q.op q.inst).get F.LOAN_OP_GRANTED.COUNT q.op = d.get F.LOAN_OP_GRANTED.COUNT q.op :=
    get_of_calm (calm_loanDrop ..) (by decide) hq
  rw [← dropped]
  rfl

/-- R77, R78: the request that stands first is granted. -/
theorem loanGrant_grants {s : State} {b : Fin 2} {q : LoanReq} (hl : s.dev.live = true) (hf : s.dev.reqFirst (b == 1) = some q) (hw : s.dev.pwr.saveWin = false)
    (hs : s.dev.reg.loanStop = false) (hc : q.cost ≤ s.dev.loanAvail (b == 1)) (hq : q.op < 11) :
    After (.loanGrant b) s fun d => d.get F.LOAN_OP_GRANTED.COUNT q.op = (s.dev.get F.LOAN_OP_GRANTED.COUNT q.op + 1) % 2 ^ 64 := by
  refine after_main ((exec_loanGrant ..).trans (by rw [execLoanGrant])) hl ?_
  simp only [hf, hw, hs, Nat.not_lt.mpr hc, Bool.or_self, decide_false, Bool.false_eq_true, if_false]
  refine (settle_get _ (by decide) hq).trans ?_
  refine (get_of_view (grantView_grantEffect (s.dev.lent q (s.dev.loanAvail (b == 1))) q.op q.inst) (by decide) hq (by decide) (by decide)).trans ?_
  exact lent_granted _ _ _ hq

/-! A refusal -/

theorem refusedRec_here (d : Dev) {op inst why : Nat} (ho : op < 11) :
    (d.refuseRec op inst why).get F.LOAN_OP_REFUSED.COUNT op = (d.get F.LOAN_OP_REFUSED.COUNT op + 1) % 2 ^ 64 := by
  have counted : ((d.inc F.LOAN_OP_REFUSED.COUNT 1 op).loanLog 4 op inst (d.loanAvail (isSite op))).get F.LOAN_OP_REFUSED.COUNT op
      = (d.get F.LOAN_OP_REFUSED.COUNT op + 1) % 2 ^ 64 :=
    (get_of_stance (by decide +kernel) ho (by decide) (by decide) (stance_log ..)).trans (Dev.get_inc_same d F.LOAN_OP_REFUSED.COUNT 1 ho (by decide) (by decide))
  unfold Dev.refuseRec
  extract_lets d1
  split
  · exact counted
  · exact (raise_leaves _ _ _ _ _ _ _ (by decide +kernel) ho (by decide) (by decide) (by decide)).trans counted

theorem refuseRec_waits (d : Dev) (op inst why : Nat) : ∀ q ∈ (d.refuseRec op inst why).loanWait, q ∈ d.loanWait := by
  have logged : ((d.inc F.LOAN_OP_REFUSED.COUNT 1 op).loanLog 4 op inst (d.loanAvail (isSite op))).loanWait = d.loanWait :=
    (loanWait_of_stance (stance_log ..)).trans (loanWait_inc ..)
  unfold Dev.refuseRec
  extract_lets d1
  split
  · rw [logged]
    exact fun q hq => hq
  · exact fun q hq => logged ▸ raise_waits _ _ _ _ _ _ _ q hq

/-- The counts of the refusals of an operation stand, and no request comes. -/
def NoMore (k : Nat) (d e : Dev) : Prop := e.get F.LOAN_OP_REFUSED.COUNT k = d.get F.LOAN_OP_REFUSED.COUNT k ∧ ∀ q ∈ e.loanWait, q ∈ d.loanWait

section
variable {k : Nat} (hk : k < 11) {d e : Dev}
include hk

omit hk in
theorem NoMore.trans {f : Dev} (h : NoMore k d e) (g : NoMore k e f) : NoMore k d f := ⟨g.1.trans h.1, fun q hq => h.2 q (g.2 q hq)⟩

theorem noMore_of_tame (h : Tame (farWords reactFields d.regs) (· ∈ d.loanWait) e.stance) : NoMore k d e :=
  ⟨get_of_sight (sight_of_farWords h.1) (by decide +kernel) hk (by decide) (by decide), h.2⟩

theorem noMore_of_stance (h : e.stance = d.stance) : NoMore k d e := noMore_of_tame hk (by rw [h]; exact ⟨rfl, fun _ hq => hq⟩)

theorem noMore_raise (d : Dev) (src cls obj : Nat) (data : List Nat) (i factor : Option Nat) : NoMore k d (d.raise src cls obj data i factor) :=
  ⟨raise_leaves _ _ _ _ _ _ _ (by decide +kernel) hk (by decide) (by decide) (by decide), raise_waits _ _ _ _ _ _ _⟩

theorem noMore_startEnd (d : Dev) : NoMore k d d.startEnd := by
  have own : Tame (farWords reactFields d.regs) (· ∈ d.loanWait) d.stance := ⟨rfl, fun _ hq => hq⟩
  refine noMore_of_tame hk ?_
  unfold Dev.startEnd
  extract_lets arr d1 d2
  split
  · have begun : Tame (farWords reactFields d.regs) (· ∈ d.loanWait) d1.stance := own
    have ended : Tame (farWords reactFields d.regs) (· ∈ d.loanWait) d2.stance := by
      rw [stance_disarm, stance_disarm, stance_pllDrop]
      exact tame_loanDrop (tame_loanReturn begun 4 0) 4 0
    split
    · rw [stance_setB (by decide)]
      exact tame_loanDrop ended 2 0
    · exact ended
  · exact own

/-- What the refusal of a request does after its record leaves the counts of the refusals, and, but for the LPDDR5, files no request. -/
theorem noMore_refuseEffect (d : Dev) {op : Nat} (ho : op ≠ 0) (inst why : Nat) : NoMore k d (d.refuseEffect op inst why) := by
  have waits : ∀ p : Nat, NoMore k d (d.setB F.PLL_STATUS.LOAN_WAIT false p) := fun p => noMore_of_stance hk (stance_setB (by decide) ..)
  have same : NoMore k d d := noMore_of_stance hk rfl
  unfold Dev.refuseEffect
  split
  case h_1 => exact absurd rfl ho
  case h_2 => exact (waits 2).trans (noMore_startEnd hk _)
  case h_3 => exact noMore_startEnd hk d
  case h_4 =>
    split
    · exact noMore_raise hk { d with reg := { d.reg with dump := none } } ..
    · exact same
  case h_5 =>
    exact ⟨(Dev.get_inc_apart _ (by decide) 1 hk (by decide) (by decide)).trans (get_of_regs rfl ..), fun q hq => by rwa [loanWait_inc] at hq⟩
  case h_6 => exact (noMore_of_stance hk (stance_prePhase ..)).trans (noMore_raise hk ..)
  case h_7 =>
    split
    · exact noMore_of_stance hk (stance_set (by decide) ..)
    · exact same
  case h_8 =>
    refine NoMore.trans (e := if d.get F.COL_STATUS.STATE = 1 then (d.set F.COL_STATUS.STATE 0).pllDrop 2 3 else d) ?_ (noMore_raise hk ..)
    split
    · exact noMore_of_stance hk ((stance_pllDrop ..).trans (stance_set (by decide) ..))
    · exact same
  case h_9 => exact waits 1
  case h_10 => exact waits 3
  case h_11 => exact same

end

theorem refuseEffect_lpddr (d : Dev) (inst why : Nat) : (d.refuseEffect 0 inst why).get F.LOAN_OP_REFUSED.COUNT 0 = d.get F.LOAN_OP_REFUSED.COUNT 0 := by
  have apply : d.refuseEffect 0 inst why = if d.pwr.saveWin then d else
      ({ d with loanWait := d.loanWait ++ [(⟨0, inst, d.get F.LOAN_OP_COST.COST 0, d.tick⟩ : LoanReq)] }).waitSync := rfl
  rw [apply]
  split
  · rfl
  · exact (get_of_stance (by decide +kernel) (by decide) (by decide) (by decide) (stance_waitSync _)).trans (get_of_regs rfl ..)

/-- R79: a refusal is counted at its operation. -/
theorem refuse_counts (d : Dev) {op inst why : Nat} (ho : op < 11) :
    (d.refuse op inst why).get F.LOAN_OP_REFUSED.COUNT op = (d.get F.LOAN_OP_REFUSED.COUNT op + 1) % 2 ^ 64 := by
  refine Eq.trans ?_ (refusedRec_here (inst := inst) (why := why) d ho)
  by_cases h : op = 0
  · subst h
    exact refuseEffect_lpddr ..
  · exact (noMore_refuseEffect ho _ h inst why).1

/-- A request dropped waits no longer, and its refusal files none but the LPDDR5's. -/
theorem refuse_waits (d : Dev) {op inst why : Nat} (ho : op ≠ 0) : ∀ q ∈ (d.refuse op inst why).loanWait, q ∈ d.loanWait := fun q hq =>
  refuseRec_waits d op inst why q ((noMore_refuseEffect (k := 0) (by decide) _ ho inst why).2 q hq)

theorem loanDrop_waits (d : Dev) (op inst : Nat) : ∀ q ∈ (d.loanDrop op inst).loanWait, ¬ (q.op = op ∧ q.inst = inst) := by
  unfold Dev.loanDrop
  split
  · rw [loanWait_of_stance (stance_waitSync _)]
    intro q hq ⟨hop, hinst⟩
    simpa [hop, hinst] using (List.mem_filter.mp hq).2
  next none =>
    intro q hq ⟨hop, hinst⟩
    exact none (List.any_eq_true.mpr ⟨q, hq, by simp [hop, hinst]⟩)

/-- R78: a request refused at its limit. -/
theorem loanRefusedWait_refuses {s : State} {op : Fin 11} {inst : Nat} (hl : s.dev.live = true)
    (hw : (s.dev.loanWait.any fun q => q.op == op.val && q.inst == inst) = true)
    (ha : ∀ q ∈ s.dev.loanWait, q.op = op.val → q.inst = inst → s.dev.ahead (q.filed + msT (s.dev.get F.LOAN_OP_WAIT.WAIT_MS op)) = true) :
    Leaves (.loanRefusedWait op inst) s fun e => e.get F.LOAN_OP_REFUSED.COUNT op = (s.dev.get F.LOAN_OP_REFUSED.COUNT op + 1) % 2 ^ 64
      ∧ (op ≠ 0 → ∀ q ∈ e.loanWait, ¬ (q.op = op.val ∧ q.inst = inst)) := by
  obtain ⟨q, hq, found⟩ : ∃ q ∈ s.dev.loanWait, s.dev.loanWait.find? (fun q => q.op == op.val && q.inst == inst) = some q := by
    obtain ⟨x, hx, match_⟩ := List.any_eq_true.mp hw
    obtain ⟨q, found⟩ := Option.isSome_iff_exists.mp (List.find?_isSome (p := fun q => q.op == op.val && q.inst == inst).mpr ⟨x, hx, match_⟩)
    exact ⟨q, List.mem_of_find?_eq_some found, found⟩
  have is : q.op = op.val ∧ q.inst = inst := by simpa using List.find?_some found
  refine leaves_main ((exec_loanRefusedWait ..).trans (by rw [execLoanRefusedWait])) hl ?_
  simp only [found, wait_ahead (ha q hq is.1 is.2)]
  generalize hd : s.dev.until (q.filed + msT (s.dev.get F.LOAN_OP_WAIT.WAIT_MS op)) = d
  have before : (d.loanDrop op inst).get F.LOAN_OP_REFUSED.COUNT op = s.dev.get F.LOAN_OP_REFUSED.COUNT op := by
    have own : Tame (farWords reactFields d.regs) (· ∈ d.loanWait) d.stance := ⟨rfl, fun _ hq => hq⟩
    rw [(noMore_of_tame op.isLt (tame_loanDrop own op inst)).1, ← hd, until_get _ _ (by decide) op.isLt]
  refine ⟨(refuse_counts _ op.isLt).trans (by rw [before]), fun ho x hx => loanDrop_waits d op inst x (refuse_waits _ ?_ x hx)⟩
  exact fun h => ho (Fin.ext h)

/-! The LPDDR5 and the Loop Engine (R77) -/

theorem awake_of_calm {d e : Dev} (h : e.calm = d.calm) : e.clk.lpddrAwake = d.clk.lpddrAwake ∧ e.clk.lpddrExiting = d.clk.lpddrExiting :=
  ⟨congrArg (fun x => x.clk.lpddrAwake) h, congrArg (fun x => x.clk.lpddrExiting) h⟩

theorem lpddr5SelfRefreshEntry_sleeps {s : State} {x : Nat} (hl : s.dev.live = true) (hd : s.dev.due .lpddrIdle = some x) (ha : s.dev.ahead x = true)
    (hs : s.dev.st = QUIET ∨ s.dev.st = STAGED) (hdump : s.dev.bit F.ARC_STATE.DUMPING = false) (hr : s.dev.prov.reads = []) :
    After .lpddr5SelfRefreshEntry s fun d => d.clk.lpddrAwake = false := by
  refine after_fire ((exec_lpddr5SelfRefreshEntry ..).trans (by rw [execLpddr5SelfRefreshEntry])) hl hd ha ?_
  have idle : ¬ (((s.dev.until x).disarm .lpddrIdle).bit F.ARC_STATE.DUMPING = true ∨ (!((s.dev.until x).disarm .lpddrIdle).prov.reads.isEmpty) = true) := by
    rw [bit_disarm, until_bit _ _ (by decide), hdump, Dev.disarm_prov, Dev.until, elapse_prov, hr]
    simp
  have quiet : ((s.dev.until x).disarm .lpddrIdle).st = QUIET ∨ ((s.dev.until x).disarm .lpddrIdle).st = STAGED := by
    have same : ((s.dev.until x).disarm .lpddrIdle).st = s.dev.st := (get_disarm ..).trans (until_get _ _ (by decide))
    rwa [same]
  rw [if_neg idle, if_pos quiet]
  exact (awake_of_calm (calm_settle _)).1

theorem lpddr5Access_touches {s : State} (hl : s.dev.live = true) :
    Leaves .lpddr5AccessAfterRefresh s fun e => (s.dev.clk.lpddrAwake = true → e.due .lpddrIdle = some (s.dev.tick + msT 100))
      ∧ (s.dev.clk.lpddrAwake = false → e.clk.lpddrWait = s.dev.clk.lpddrWait + 1 ∧ e.clk.lpddrAwake = false) := by
  refine leaves_main ((exec_lpddr5AccessAfterRefresh ..).trans (by rw [execLpddr5AccessAfterRefresh])) hl ⟨fun h => ?_, fun h => ?_⟩
  · rw [Dev.lpddrTouch, if_pos h, due_arm]
  · rw [Dev.lpddrTouch, if_neg (by simp [h])]
    exact ⟨rfl, h⟩

theorem selfRefreshExitDone_wakes {s : State} {x : Nat} (hl : s.dev.live = true) (hd : s.dev.due .refreshExit = some x) (ha : s.dev.ahead x = true) :
    After .selfRefreshExitDone s fun d => d.clk.lpddrAwake = true ∧ d.clk.lpddrExiting = false := by
  refine after_fire ((exec_selfRefreshExitDone ..).trans (by rw [execSelfRefreshExitDone])) hl hd ha ?_
  obtain ⟨awake, exiting⟩ := awake_of_calm (calm_settle ((({ (s.dev.until x).disarm .refreshExit with
    clk := { ((s.dev.until x).disarm .refreshExit).clk with lpddrAwake := true, lpddrExiting := false, lpddrWait := 0 } } : Dev).loanReduce 0 0).arm
      .lpddrIdle (msT 100)))
  rw [awake, exiting]
  exact awake_of_calm (calm_loanReduce ..)

/-- R77: a loan reduced is at most its operation's standing part. -/
theorem loanReduce_standing (d : Dev) (op inst : Nat) :
    ∀ l ∈ (d.loanReduce op inst).loans, l.op = op → l.inst = inst → l.amount ≤ d.get F.LOAN_OP_COST.STANDING op := by
  intro l hl hop hinst
  unfold Dev.loanReduce at hl
  extract_lets s b at hl
  split at hl
  · have kept : (({ d with loans := d.loans.map fun (l : Loan) => if l.op == op && l.inst == inst then { l with amount := s } else l } : Dev).loanSync.loanLog
        2 op inst b).loans = d.loans.map fun (l : Loan) => if l.op == op && l.inst == inst then { l with amount := s } else l := by
      rw [Dev.loanLog, loans_of_books (books_log ..)]
      simp [Dev.loanSync]
    rw [kept] at hl
    obtain ⟨m, -, same⟩ := List.mem_map.mp hl
    split at same
    · rw [← same]
    next other =>
      rw [← same] at hop hinst
      simp [hop, hinst] at other
  next none =>
    by_contra more
    exact none (List.any_eq_true.mpr ⟨l, hl, by simp [hop, hinst]; omega⟩)

theorem loopEngineLoanReduction_reduces {s : State} {x : Nat} (hl : s.dev.live = true) (hd : s.dev.due .loopLoan = some x) (ha : s.dev.ahead x = true) :
    Leaves .loopEngineLoanReduction s fun e => ∀ l ∈ e.loans, l.op = 4 → l.inst = 0 → l.amount ≤ s.dev.get F.LOAN_OP_COST.STANDING 4 := by
  refine leaves_fire ((exec_loopEngineLoanReduction ..).trans (by rw [execLoopEngineLoanReduction])) hl hd ha ?_
  have same : ((s.dev.until x).disarm .loopLoan).get F.LOAN_OP_COST.STANDING 4 = s.dev.get F.LOAN_OP_COST.STANDING 4 :=
    (get_disarm ..).trans (until_get _ _ (by decide))
  rw [← same]
  exact loanReduce_standing _ 4 0

/-- Settles O6: a grant is counted and what it serves leaves the count; a refusal counts one and ends the request; the LPDDR5 and the Loop Engine, each. -/
theorem loanEvents : Obligations.LoanEvents :=
  ⟨fun _ _ _ hl hf hw hs hc hq => loanGrant_grants hl hf hw hs hc hq, fun _ _ _ hl hw ha => loanRefusedWait_refuses hl hw ha,
    fun _ _ hl hd ha hs hdump hr => lpddr5SelfRefreshEntry_sleeps hl hd ha hs hdump hr, fun _ hl => lpddr5Access_touches hl,
    fun _ _ hl hd ha => selfRefreshExitDone_wakes hl hd ha, fun _ _ hl hd ha => loopEngineLoanReduction_reduces hl hd ha⟩

end Sys2Proof.Machine
end

section
/-! SUPPORT. The PLLs' lock, stop and losses (R64 to R70), PLL-S's search, hop, SYNC_IN and phase step (R71 to R75). -/

namespace Sys2Proof.Machine

set_option Elab.async false

theorem exec_pllLock (p : Fin 4) (s : State) : exec (.pllLock p) s = execPllLock p s := rfl
theorem exec_pllStopTimeout (p : Fin 4) (s : State) : exec (.pllStopTimeout p) s = execPllStopTimeout p s := rfl
theorem exec_pllLockLost (p : Fin 4) (s : State) : exec (.pllLockLost p) s = execPllLockLost p s := rfl
theorem exec_refclkLost (s : State) : exec .refclkLost s = execRefclkLost s := rfl
theorem exec_pllLossReset (s : State) : exec .pllLossReset s = execPllLossReset s := rfl
theorem exec_pllsHopSearchDone (h : Fin 16) (s : State) : exec (.pllsHopSearchDone h) s = execPllsHopSearchDone h s := rfl
theorem exec_pllsHopSwitch (s : State) : exec .pllsHopSwitch s = execPllsHopSwitch s := rfl
theorem exec_syncInEdge (instant : Nat) (s : State) : exec (.syncInEdge instant) s = execSyncInEdge instant s := rfl
theorem exec_syncInLost (s : State) : exec .syncInLost s = execSyncInLost s := rfl
theorem exec_pllsPstepDone (s : State) : exec .pllsPstepDone s = execPllsPstepDone s := rfl

/-! A lock -/

/-- What a PLL's lock is free to change once it is shown: metering and the lanes with PLL-T, the drive with PLL-S. -/
def lockMask : Mask := ⟨grantMask.regs ++ meterMask.regs ++ [F.CHR_STATE.FULL_RES, F.MET_STATUS.RUN], grantMask.parts ++ meterMask.parts⟩

theorem lockView_intervalOpen (d : Dev) (e start : Nat) (fr : Nat × Nat × List Nat) (extra last : Nat) :
    (d.intervalOpen e start fr extra last).calm.view lockMask = d.calm.view lockMask := view_le (m := meterMask) (by decide) (meterView_intervalOpen ..)

theorem lockView_elResume (d : Dev) (e t : Nat) : (d.elResume e t).calm.view lockMask = d.calm.view lockMask := by
  unfold Dev.elResume
  extract_lets missed
  split
  next v same =>
    extract_lets open_ last
    split
    · exact (view_setB (by decide) ..).trans ((view_set (by decide) ..).trans (view_mel d e (by decide) _))
    · split
      rename_i d1 fr closed
      have shown : d1.calm.view lockMask = d.calm.view lockMask := by
        have close := view_le (m := meterMask) (n := lockMask) (by decide)
          (meterView_intervalClose d e { v with nGap := v.nGap + missed v v.stop })
        rwa [closed] at close
      exact (view_mel _ e (by decide) _).trans ((lockView_intervalOpen ..).trans shown)
  next => exact (view_mel _ e (by decide) _).trans (lockView_intervalOpen ..)

theorem lockView_metStart (d : Dev) : d.metStart.calm.view lockMask = d.calm.view lockMask := by
  unfold Dev.metStart
  extract_lets k met pwr d1 d2
  have begun : d1.calm.view lockMask = d.calm.view lockMask := (view_setB (by decide) ..).trans (view_withMet d (by decide) _)
  have channels : d2.calm.view lockMask = d1.calm.view lockMask := by
    refine view_each (fun e m => ?_) _ _
    extract_lets e1
    split
    · exact (view_arm ..).trans (view_mch e m (by decide) _)
    · exact view_mch e m (by decide) _
  split
  · rfl
  · exact (view_each (fun e m => (lockView_elResume ..).trans (view_mel e m (by decide) _)) _ _).trans (channels.trans begun)

theorem lockView_groupGo (d : Dev) (g : Nat) : (d.groupGo g).calm.view lockMask = d.calm.view lockMask :=
  view_each (fun e k => view_le (m := grantMask) (by decide) (grantView_laneTry ..)) _ _

theorem pllLock_locks {s : State} {p : Fin 4} (hl : s.dev.live = true) (hs : s.dev.clk.starting.getD p false = true) :
    After (.pllLock p) s fun d => d.bit F.PLL_STATUS.LOCKED p = true := by
  refine after_main ((exec_pllLock ..).trans (by rw [execPllLock])) hl ?_
  simp only [hs, Bool.not_true, Bool.false_eq_true, if_false]
  refine (settle_bit _ (by decide) p.isLt).trans ?_
  generalize hd : ({ s.dev with clk := { s.dev.clk with starting := s.dev.clk.starting.set p false } } : Dev) = d
  have locked : ((d.setB F.PLL_STATUS.LOCKED true p).loanReduce p 0).bit F.PLL_STATUS.LOCKED p = true :=
    (bit_of_calm (calm_loanReduce ..) (by decide) p.isLt).trans (Dev.bit_setB_same d (by decide) true p.isLt (by decide) (by decide))
  refine Eq.trans (Dev.bit_of_get ?_) locked
  split
  · refine get_of_view (m := lockMask) ?_ (by decide) p.isLt (by decide) (by decide)
    exact (view_each (fun e g => lockView_groupGo ..) _ _).trans ((lockView_metStart _).trans ((view_setB (by decide) ..).trans (view_elapse ..)))
  · split
    · exact get_of_view (m := grantMask) ((grantView_colReady _).trans (view_disarm ..)) (by decide) p.isLt (by decide) (by decide)
    · rfl

/-! A PLL off -/

theorem pllOff_locked (d : Dev) {p : Nat} (hp : p < 4) : (d.pllOff p).bit F.PLL_STATUS.LOCKED p = false := by
  unfold Dev.pllOff
  extract_lets d1 d2 clk d3 d4 d5
  have off : d2.bit F.PLL_STATUS.LOCKED p = false := by
    simp only [d2, bit_disarm]
    exact Dev.bit_setB_same d1 (by decide) false hp (by decide) (by decide)
  have waits : d5.calm = d3.calm := (calm_loanReturn ..).trans ((calm_loanDrop ..).trans (calm_setB _ _ _ _ _ _ (by decide)))
  have stays : d5.bit F.PLL_STATUS.LOCKED p = false := (bit_of_calm waits (by decide) hp).trans off
  split
  · exact (Dev.bit_setB_apart _ (by decide) false hp (by decide) (by decide)).trans stays
  · exact stays

/-- What a PLL off shows beside. -/
def pllOffMask : Mask := ⟨[F.PLL_STATUS.LOCKED, F.CHR_STATE.FULL_RES], []⟩

theorem pllOff_view (d : Dev) (p : Nat) : (d.pllOff p).calm.view pllOffMask = d.calm.view pllOffMask := by
  unfold Dev.pllOff
  extract_lets d1 d2 clk d3 d4 d5
  have late : d1.calm.view pllOffMask = d.calm.view pllOffMask := by
    simp only [d1]
    split
    · exact view_elapse ..
    · rfl
  have shown : d3.calm.view pllOffMask = d1.calm.view pllOffMask  := view_setB (by decide) d1 false p 0 0
  have waits : d5.calm = d3.calm := (calm_loanReturn ..).trans ((calm_loanDrop ..).trans (calm_setB _ _ _ _ _ _ (by decide)))
  have off : d5.calm.view pllOffMask = d.calm.view pllOffMask := (view_of_calm waits _).trans (shown.trans late)
  split
  · exact (view_setB (by decide) ..).trans off
  · exact off

theorem pllStopTimeout_stops {s : State} {p : Fin 4} {x : Nat} (hl : s.dev.live = true) (hd : s.dev.due (.pllStop p) = some x) (ha : s.dev.ahead x = true)
    (hn : s.dev.clk.demand.getD p [] = []) (hf : s.dev.bit F.PLL_CTRL.FORCE_ON p = false) :
    After (.pllStopTimeout p) s fun d => d.bit F.PLL_STATUS.LOCKED p = false := by
  refine after_fire ((exec_pllStopTimeout ..).trans (by rw [execPllStopTimeout])) hl hd ha ?_
  have idle : (((s.dev.until x).disarm (.pllStop p)).clk.demand.getD p []).isEmpty ∧ !((s.dev.until x).disarm (.pllStop p)).bit F.PLL_CTRL.FORCE_ON p := by
    rw [Dev.disarm_clk, Dev.until, elapse_clk, hn, bit_disarm, elapse_bit _ _ (by decide) p.isLt (by decide) (by decide), hf]
    exact ⟨rfl, rfl⟩
  rw [if_pos idle]
  exact (settle_bit _ (by decide) p.isLt).trans (pllOff_locked _ p.isLt)

/-! A loss -/

/-- What the loss of a PLL's lock is free to change once it is counted: metering and the lanes with PLL-T, network time and the ports with PLL-E. -/
def lossMask : Mask := ⟨laneMask.regs ++ networkMask.regs ++ [F.MET_HARM_SKIPPED.COUNT, F.MET_STATUS.RUN], .met :: laneMask.parts ++ networkMask.parts⟩

theorem lossView_metStop (d : Dev) : d.metStop.calm.view lossMask = d.calm.view lossMask := by
  unfold Dev.metStop
  extract_lets d1 met pwr d2 d3
  split
  · rfl
  · have counted : d1.calm.view lossMask = d.calm.view lossMask := view_inc (by decide) ..
    have ended : d2.calm.view lossMask = d1.calm.view lossMask := (view_setB (by decide) ..).trans (view_withMet d1 (by decide) _)
    have still : d3.calm.view lossMask = d2.calm.view lossMask := view_each (fun e m => view_disarm ..) _ _
    refine (view_of_calm ((calm_loanDrop ..).trans (calm_loanReturn ..)) _).trans ((view_disarm ..).trans (still.trans (ended.trans counted)))

theorem lossView_lanesOff (d : Dev) : (d.lanesOff false).calm.view lossMask = d.calm.view lossMask := by
  refine (view_of_calm (calm_loanEnd ..) _).trans (view_each (fun e k => (view_laneOff (by decide) ..).trans ?_) _ _)
  split
  · exact view_laneLoss (by decide) ..
  · rfl

/-- What a PLL's loss does once it is counted. -/
def Dev.pllGone (d : Dev) (p : Nat) (gates : Bool) : Dev :=
  match p with
  | 0 => (d.anchorBegin).arm .pllReset (msT 10)
  | 1 => (d.metStop).lanesOff false
  | 2 => (if gates then (((d.softOffs [0, 1, 2]).grpFast 0).grpFast 1).cond (d.colMoving || d.get F.COL_STATUS.STATE == 6) (·.colHeld) else d).startEnd
  | _ => (d.holdover 1).each [0, 1] (fun d n => d.ethDown n)

theorem lossView_pllGone (d : Dev) (p : Nat) (gates : Bool) : (d.pllGone p gates).calm.view lossMask = d.calm.view lossMask := by
  unfold Dev.pllGone
  split
  · refine (view_arm ..).trans ?_
    unfold Dev.anchorBegin
    exact (view_of_calm (calm_anchored _) _).trans rfl
  · exact (lossView_lanesOff _).trans (lossView_metStop d)
  · refine view_of_calm ((calm_startEnd _).trans ?_) _
    split
    · exact (calm_cond _ _ _ (calm_colHeld _)).trans ((calm_grpFast ..).trans ((calm_grpFast ..).trans (calm_softOffs ..)))
    · rfl
  · exact (view_each (fun e n => view_le (m := networkMask) (by decide) (networkView_ethDown ..)) _ _).trans
      (view_le (m := networkMask) (by decide) (networkView_holdover ..))

/-- The block with a PLL's loss shown and counted. -/
def Dev.pllCounted (d : Dev) (p : Nat) (ref : Bool) : Dev :=
  ((if p = 0 then d.setB F.PLL_STATUS.LOCKED false 0 else d.pllOff p).setB (if ref then F.PLL_STATUS.REF_LOST else F.PLL_STATUS.LOCK_LOST) true p).inc
    F.PLL_LOSS_COUNT.COUNT 1 p

theorem pllLost_view (d : Dev) (p : Nat) (ref hot gates : Bool) : (d.pllLost p ref hot gates).calm.view lossMask = (d.pllCounted p ref).calm.view lossMask := by
  unfold Dev.pllLost
  extract_lets d1 d2 recent clk d3 cls d4
  have gone : d4 = d3.pllGone p gates := rfl
  refine (view_of_calm (calm_raise ..) _).trans ?_
  rw [gone, lossView_pllGone]
  rfl

theorem pllCounted_view (d : Dev) (p : Nat) (ref : Bool) {m : Mask} (hm : pllOffMask.le m = true)
    (hl : m.frees (if ref then F.PLL_STATUS.REF_LOST else F.PLL_STATUS.LOCK_LOST) = true) (hc : m.frees F.PLL_LOSS_COUNT.COUNT = true) :
    (d.pllCounted p ref).calm.view m = d.calm.view m := by
  refine (view_inc hc ..).trans ((view_setB hl ..).trans ?_)
  split
  · exact view_le (m := pllOffMask) hm (view_setB (by decide) ..)
  · exact view_le hm (pllOff_view ..)

theorem pllLost_locked (d : Dev) {p : Nat} (hp : p < 4) (ref hot gates : Bool) : (d.pllLost p ref hot gates).bit F.PLL_STATUS.LOCKED p = false := by
  refine (Dev.bit_of_get (get_of_view (pllLost_view ..) (by decide) hp)).trans ?_
  have apart : F.PLL_STATUS.LOCKED.apart (if ref then F.PLL_STATUS.REF_LOST else F.PLL_STATUS.LOCK_LOST) = true := by cases ref <;> decide
  refine (Dev.bit_of_get (Dev.get_inc_apart _ (by decide) 1 hp (by decide) (by decide))).trans ?_
  refine (Dev.bit_setB_apart _ apart true hp (by decide) (by decide)).trans ?_
  split
  next zero =>
    subst zero
    exact Dev.bit_setB_same d (by decide) false (by decide) (by decide) (by decide)
  next => exact pllOff_locked d hp

theorem pllLost_shows (d : Dev) {p : Nat} (hp : p < 4) (ref hot gates : Bool) :
    (d.pllLost p ref hot gates).bit (if ref then F.PLL_STATUS.REF_LOST else F.PLL_STATUS.LOCK_LOST) p = true := by
  have far : lossMask.keeps (if ref then F.PLL_STATUS.REF_LOST else F.PLL_STATUS.LOCK_LOST) = true := by cases ref <;> decide
  have apart : (if ref then F.PLL_STATUS.REF_LOST else F.PLL_STATUS.LOCK_LOST).apart F.PLL_LOSS_COUNT.COUNT = true := by cases ref <;> decide
  have size : p < (if ref then F.PLL_STATUS.REF_LOST else F.PLL_STATUS.LOCK_LOST).n1 ∧ 0 < (if ref then F.PLL_STATUS.REF_LOST else F.PLL_STATUS.LOCK_LOST).n2
      ∧ 0 < (if ref then F.PLL_STATUS.REF_LOST else F.PLL_STATUS.LOCK_LOST).n3 ∧ 0 < (if ref then F.PLL_STATUS.REF_LOST else F.PLL_STATUS.LOCK_LOST).w := by
    cases ref <;> exact ⟨hp, by decide, by decide, by decide⟩
  obtain ⟨h1, h2, h3, hw⟩ := size
  refine (Dev.bit_of_get (get_of_view (pllLost_view ..) far h1 h2 h3)).trans ?_
  exact (Dev.bit_of_get (Dev.get_inc_apart _ apart 1 h1 h2 h3)).trans (Dev.bit_setB_same _ hw true h1 h2 h3)

theorem pllLost_counts (d : Dev) {p : Nat} (hp : p < 4) (ref hot gates : Bool) :
    (d.pllLost p ref hot gates).get F.PLL_LOSS_COUNT.COUNT p = (d.get F.PLL_LOSS_COUNT.COUNT p + 1) % 2 ^ 64 := by
  have apart : F.PLL_LOSS_COUNT.COUNT.apart (if ref then F.PLL_STATUS.REF_LOST else F.PLL_STATUS.LOCK_LOST) = true := by cases ref <;> decide
  refine (get_of_view (pllLost_view ..) (by decide) hp).trans ((Dev.get_inc_same _ F.PLL_LOSS_COUNT.COUNT 1 hp (by decide) (by decide)).trans ?_)
  have before : ((if p = 0 then d.setB F.PLL_STATUS.LOCKED false 0 else d.pllOff p).setB (if ref then F.PLL_STATUS.REF_LOST else F.PLL_STATUS.LOCK_LOST) true
      p).get F.PLL_LOSS_COUNT.COUNT p = d.get F.PLL_LOSS_COUNT.COUNT p := by
    rw [Dev.get_setB_apart _ apart true hp (by decide) (by decide)]
    split
    · exact Dev.get_setB_apart d (by decide) false hp (by decide) (by decide)
    · exact get_of_view (pllOff_view d p) (by decide) hp
  rw [before]
  rfl

/-- A loss of another PLL's reference leaves the marks of this one. -/
theorem pllLost_refLost (d : Dev) {p q : Nat} (hq : q < 4) (h : q ≠ p) (hot gates : Bool) :
    (d.pllLost p true hot gates).bit F.PLL_STATUS.REF_LOST q = d.bit F.PLL_STATUS.REF_LOST q := by
  refine Dev.bit_of_get ((get_of_view (pllLost_view ..) (by decide) hq).trans ((Dev.get_inc_apart _ (by decide) 1 hq (by decide) (by decide)).trans ?_))
  refine (Dev.get_set_ne _ _ _ _ (by simp only [Fld.key, Fld.off, if_true, F.PLL_STATUS.REF_LOST]; omega)).trans ?_
  split
  · exact Dev.get_setB_apart d (by decide) false hq (by decide) (by decide)
  · exact get_of_view (pllOff_view d p) (by decide) hq

theorem pllLost_refclk (d : Dev) (p : Nat) (hot gates : Bool) : (d.pllLost p true hot gates).bit F.RSV_STATUS.REFCLK_OK = d.bit F.RSV_STATUS.REFCLK_OK := by
  refine Dev.bit_of_get ((get_of_view (pllLost_view ..) (by decide)).trans ?_)
  exact get_of_view (pllCounted_view d p true (m := ⟨F.PLL_STATUS.REF_LOST :: F.PLL_LOSS_COUNT.COUNT :: pllOffMask.regs, []⟩) (by decide) (by decide) (by decide))
    (by decide)

theorem pllLockLost_loses {s : State} {p : Fin 4} (hl : s.dev.live = true) (hp : s.dev.bit F.PLL_STATUS.LOCKED p = true) :
    After (.pllLockLost p) s fun d => d.bit F.PLL_STATUS.LOCKED p = false ∧ d.bit F.PLL_STATUS.LOCK_LOST p = true
      ∧ d.get F.PLL_LOSS_COUNT.COUNT p = (s.dev.get F.PLL_LOSS_COUNT.COUNT p + 1) % 2 ^ 64 := by
  refine after_main ((exec_pllLockLost ..).trans (by rw [execPllLockLost])) hl ?_
  rw [if_pos hp]
  exact ⟨(settle_bit _ (by decide) p.isLt).trans (pllLost_locked _ p.isLt ..), (settle_bit _ (by decide) p.isLt).trans (pllLost_shows _ p.isLt false ..),
    (settle_get _ (by decide) p.isLt).trans (pllLost_counts _ p.isLt ..)⟩

theorem refclkLost_loses {s : State} (hl : s.dev.live = true) (hr : s.dev.bit F.RSV_STATUS.REFCLK_OK = true) :
    After .refclkLost s fun d => d.bit F.RSV_STATUS.REFCLK_OK = false ∧ ∀ p < 4, d.bit F.PLL_STATUS.REF_LOST p = true := by
  refine after_main ((exec_refclkLost ..).trans (by rw [execRefclkLost])) hl ?_
  simp only [hr, if_true, Dev.each, List.foldl]
  refine ⟨(settle_bit _ (by decide)).trans ?_, fun p hp => (settle_bit _ (by decide) hp).trans ?_⟩
  · rw [pllLost_refclk, pllLost_refclk, pllLost_refclk, pllLost_refclk, Dev.bit_setB_apart _ (by decide) false (by decide) (by decide) (by decide)]
    exact Dev.bit_setB_same _ (by decide) false (by decide) (by decide) (by decide)
  · have cases4 : p = 0 ∨ p = 1 ∨ p = 2 ∨ p = 3 := by omega
    rcases cases4 with rfl | rfl | rfl | rfl
    · rw [pllLost_refLost _ hp (by decide), pllLost_refLost _ hp (by decide), pllLost_refLost _ hp (by decide)]
      exact pllLost_shows _ hp true ..
    · rw [pllLost_refLost _ hp (by decide), pllLost_refLost _ hp (by decide)]
      exact pllLost_shows _ hp true ..
    · rw [pllLost_refLost _ hp (by decide)]
      exact pllLost_shows _ hp true ..
    · exact pllLost_shows _ hp true ..

theorem pllLossReset_holds {s : State} {x : Nat} (hl : s.dev.live = true) (hd : s.dev.due .pllReset = some x) (ha : s.dev.ahead x = true) :
    After .pllLossReset s fun d => d.pwr.main = .held ∧ d.pwr.cause = s.dev.pwr.cause ||| 2 ^ 4 := by
  refine after_fire ((exec_pllLossReset ..).trans (by rw [execPllLossReset])) hl hd ha ?_
  have live : ((s.dev.until x).disarm .pllReset).live = true := (elapse_live ..).trans hl
  have main : ((s.dev.until x).disarm .pllReset).pwr.main ≠ .off := fun off => by
    rw [Dev.live, off] at live
    exact absurd live (by decide)
  rw [Dev.mainCause, if_neg main, settle_dead (holdMain_held_live ..)]
  refine ⟨rfl, (holdMain_cause _ (by decide) _).trans ?_⟩
  obtain ⟨r, same⟩ := elapse_pwr s.dev (x - s.dev.tick)
  rw [Dev.disarm_pwr, Dev.until, same]

/-! PLL-S -/

theorem pllsHopSearchDone_finds {s : State} {h : Fin 16} {x : Nat} (hl : s.dev.live = true) (hd : s.dev.due (.hopSearch h) = some x) (ha : s.dev.ahead x = true) :
    After (.pllsHopSearchDone h) s fun d => d.bit F.PLLS_HOP.VALID h = true := by
  refine after_fire ((exec_pllsHopSearchDone ..).trans (by rw [execPllsHopSearchDone])) hl hd ha ?_
  exact (settle_bit _ (by decide) h.isLt).trans ((Dev.bit_of_get (get_of_regs (Dev.free_regs _) ..)).trans
    (Dev.bit_setB_same _ (by decide) true h.isLt (by decide) (by decide)))

theorem freqSet_regs (d : Dev) (f : Nat) : (d.freqSet f).regs = d.regs := by
  unfold Dev.freqSet
  extract_lets old t
  split <;> rfl

theorem pllsHopSwitch_switches {s : State} {x : Nat} (hl : s.dev.live = true) (hd : s.dev.due .hopLock = some x) (ha : s.dev.ahead x = true) :
    After .pllsHopSwitch s fun d => d.bit F.PLLS_SEL.HOP_BUSY = false := by
  refine after_fire ((exec_pllsHopSwitch ..).trans (by rw [execPllsHopSwitch])) hl hd ha ?_
  exact (settle_bit _ (by decide)).trans ((Dev.bit_of_get (get_of_regs (freqSet_regs ..) ..)).trans
    (Dev.bit_setB_same _ (by decide) false (by decide) (by decide) (by decide)))

theorem syncLast_settle (d : Dev) : d.settle.clk.syncLast = d.clk.syncLast := congrArg (fun x => x.clk.syncLast) (calm_settle d)

theorem syncInEdge_first {s : State} {instant : Nat} (hl : s.dev.live = true) (he : s.dev.bit F.PLLS_SYNC.EN = true)
    (hk : s.dev.bit F.PLL_STATUS.LOCKED 2 = true) (hn : s.dev.clk.syncLast = none) :
    After (.syncInEdge instant) s fun d => d.clk.syncLast = some instant ∧ d.tick = max s.dev.tick (instant / 64) := by
  refine after_main ((exec_syncInEdge ..).trans (by rw [execSyncInEdge])) hl ?_
  have en : (s.dev.until (instant / 64)).bit F.PLLS_SYNC.EN = true := (until_bit _ _ (by decide)).trans he
  have lock : (s.dev.until (instant / 64)).bit F.PLL_STATUS.LOCKED 2 = true := (until_bit _ _ (by decide)).trans hk
  have last : (s.dev.until (instant / 64)).clk.syncLast = none := by rw [Dev.until, elapse_clk, hn]
  simp only [en, lock, last, Bool.not_true, Bool.false_eq_true, or_self, if_false]
  exact ⟨syncLast_settle _, (tick_of_calm (calm_settle _)).trans (until_tick _ _ hl)⟩

theorem syncInLost_loses {s : State} {t : Nat} (hl : s.dev.live = true) (he : s.dev.bit F.PLLS_SYNC.EN = true) (hk : s.dev.clk.syncLast = some t)
    (hn : (12, 0) ∉ s.dev.reg.active)
    (ha : s.dev.ahead ((t + s.dev.osAfter 0 (64 * s.dev.get F.PW_PERIOD.PERIOD (s.dev.get F.PWM_SYNC.MASTER)) * 3 / 2 + 63) / 64) = true) :
    After .syncInLost s fun d => d.bit F.PLLS_SYNC.LOST = true ∧ d.bit F.PLLS_SYNC.LOCKED = false ∧ d.clk.syncLast = none := by
  refine after_main ((exec_syncInLost ..).trans (by rw [execSyncInLost])) hl ?_
  generalize hx : (t + s.dev.osAfter 0 (64 * s.dev.get F.PW_PERIOD.PERIOD (s.dev.get F.PWM_SYNC.MASTER)) * 3 / 2 + 63) / 64 = x at ha
  simp only [hk, he, Bool.not_true, Bool.false_eq_true, if_false, hx, wait_ahead ha]
  have none : ((s.dev.until x).reg.active.contains (12, 0)) = false := by
    rw [Dev.until, elapse_reg]
    simpa using hn
  simp only [none, Bool.false_eq_true, if_false]
  generalize hd : ({ s.dev.until x with clk := { (s.dev.until x).clk with syncLast := .none, syncGood := 0, syncBack := 0 } } : Dev) = d
  have calm : (((((d.setB F.PLLS_SYNC.LOST true).setB F.PLLS_SYNC.LOCKED false).condOn 12 0).raise 12 1 0).settle).calm
      = ((d.setB F.PLLS_SYNC.LOST true).setB F.PLLS_SYNC.LOCKED false).calm := (calm_settle _).trans ((calm_raise ..).trans (calm_condOn ..))
  refine ⟨(bit_of_calm calm (by decide)).trans ?_, (bit_of_calm calm (by decide)).trans ?_, (congrArg (fun x => x.clk.syncLast) calm).trans ?_⟩
  · exact (Dev.bit_setB_apart _ (by decide) false (by decide) (by decide) (by decide)).trans (Dev.bit_setB_same _ (by decide) true (by decide) (by decide) (by decide))
  · exact Dev.bit_setB_same _ (by decide) false (by decide) (by decide) (by decide)
  · have kept : ((d.setB F.PLLS_SYNC.LOST true).setB F.PLLS_SYNC.LOCKED false).clk = d.clk := (Dev.set_clk ..).trans (Dev.set_clk ..)
    exact (congrArg Clk.syncLast kept).trans (hd ▸ rfl)

theorem pllsPstepDone_ends {s : State} {x : Nat} (hl : s.dev.live = true) (hd : s.dev.due .pstep = some x) (ha : s.dev.ahead x = true) :
    After .pllsPstepDone s fun d => d.bit F.PLLS_PSTEP.BUSY = false ∧ d.clk.pstep = 0 := by
  refine after_fire ((exec_pllsPstepDone ..).trans (by rw [execPllsPstepDone])) hl hd ha ?_
  refine ⟨(settle_bit _ (by decide)).trans (Dev.bit_setB_same _ (by decide) false (by decide) (by decide) (by decide)), ?_⟩
  refine (congrArg (fun x => x.clk.pstep) (calm_settle _)).trans ?_
  exact congrArg Clk.pstep (Dev.set_clk ..)

/-- Settles O5: a lock, a stop and a loss show, and what they begin or end leaves the marks; each of PLL-S's events. -/
theorem clockEvents : Obligations.ClockEvents :=
  ⟨⟨fun _ _ hl hs => pllLock_locks hl hs, fun _ _ _ hl hd ha hn hf => pllStopTimeout_stops hl hd ha hn hf, fun _ _ hl hp => pllLockLost_loses hl hp,
      fun _ hl hr => refclkLost_loses hl hr, fun _ _ hl hd ha => pllLossReset_holds hl hd ha⟩,
    fun _ _ _ hl hd ha => pllsHopSearchDone_finds hl hd ha, fun _ _ hl hd ha => pllsHopSwitch_switches hl hd ha,
    fun _ _ hl he hk hn => syncInEdge_first hl he hk hn, fun _ _ hl he hk hn ha => syncInLost_loses hl he hk hn ha,
    fun _ _ hl hd ha => pllsPstepDone_ends hl hd ha⟩

end Sys2Proof.Machine
end

section
/-! SUPPORT. Encoder edges and indices, SSI frames, the drive handed over and the end of braking (R398 to R409). -/

namespace Sys2Proof.Machine

set_option Elab.async false

open Mask

theorem exec_encoderEdge (n : Fin 2) (a b : Bool) (instant : Nat) (s : State) : exec (.encoderEdge n a b instant) s = execEncoderEdge n a b instant s := rfl
theorem exec_encoderIndex (n : Fin 2) (z : Bool) (s : State) : exec (.encoderIndex n z) s = execEncoderIndex n z s := rfl
theorem exec_colReversal (n : Fin 2) (s : State) : exec (.colReversal n) s = execColReversal n s := rfl
theorem exec_ssiFrame (x : SsiFrame) (s : State) : exec (.ssiFrame x) s = execSsiFrame x s := rfl
theorem exec_collectorDriveHandover (s : State) : exec .collectorDriveHandover s = execCollectorDriveHandover s := rfl
theorem exec_colBrakeEnd (s : State) : exec .colBrakeEnd s = execColBrakeEnd s := rfl

/-! What an encoder's edge and index leave -/

/-- What an overrun of edges is free to change beside its mark and its count, and a reversal beside its count. -/
def edgeMask : Mask := ⟨F.ENC_STATUS.EDGE_OVR :: F.ENC_OVR_COUNT.COUNT :: F.ENC_REVERSALS.COUNT :: colMask.regs, [.enc]⟩

section
variable (d : Dev) (n : Nat)

theorem colInvalid_view (enc cause : Nat) (lose : Bool) : (d.colInvalid enc cause lose).calm.view colMask = d.calm.view colMask := (within_colInvalid ..).1
theorem colValid_view : d.colValid.calm.view colMask = d.calm.view colMask := congrArg Prod.fst (pic_colValid d)
theorem colRefer_view (p : Int) (count : Nat) : (d.colRefer p count).calm.view colMask = d.calm.view colMask := congrArg Prod.fst (pic_colRefer d p count)

/-- The mark and the count of an overrun, with what it shows of the encoder. -/
theorem edgeOvr_counted : ((d.edgeOvr n).calm.view colMask)
    = (((d.setB F.ENC_STATUS.EDGE_OVR true n).inc F.ENC_OVR_COUNT.COUNT 1 n).calm.view colMask) := by
  unfold Dev.edgeOvr
  extract_lets was d1
  have shown : d1.calm.view colMask = ((d.setB F.ENC_STATUS.EDGE_OVR true n).inc F.ENC_OVR_COUNT.COUNT 1 n).calm.view colMask := view_en _ n (by decide) _
  split
  · exact (colInvalid_view ..).trans shown
  · exact shown

theorem edgeOvr_view : (d.edgeOvr n).calm.view edgeMask = d.calm.view edgeMask :=
  (view_le (m := colMask) (by decide) (edgeOvr_counted d n)).trans ((view_inc (by decide) ..).trans (view_setB (by decide) ..))

theorem reversal_view (instant : Nat) : (d.reversal n instant).calm.view edgeMask = d.calm.view edgeMask := by
  unfold Dev.reversal
  extract_lets d1 e free d2
  have counted : d1.calm.view edgeMask = d.calm.view edgeMask := view_inc (by decide) ..
  split
  · exact (view_of_calm (calm_raise ..) _).trans ((view_en d1 n (by decide) _).trans counted)
  · refine (view_en d2 n (by decide) _).trans (Eq.trans ?_ counted)
    simp only [d2]
    split
    · exact view_arm ..
    · rfl

end

theorem encOn_of_get {d e : Dev} (h : e.get F.COL_CFG.ENC2_MODE = d.get F.COL_CFG.ENC2_MODE) (n : Nat) : e.encOn n = d.encOn n := by
  rw [Dev.encOn, Dev.encOn, h]

theorem encoderEdge_plain {s : State} {n : Fin 2} {a b : Bool} {instant : Nat} (hl : s.dev.live = true) (hn : s.dev.encOn n = false) :
    After (.encoderEdge n a b instant) s fun d => d.get F.ENC_STATUS.LEVELS n = (b2n a + 2 * b2n b + s.dev.get F.ENC_STATUS.LEVELS n / 4 * 4) % 8
      ∧ d.get F.ENC_COUNT.COUNT n = s.dev.get F.ENC_COUNT.COUNT n := by
  refine after_main ((exec_encoderEdge ..).trans (by rw [execEncoderEdge])) hl ?_
  have off : (s.dev.until (instant / 64)).encOn n = false := (encOn_of_get (until_get _ _ (by decide)) n).trans hn
  have levels : (s.dev.until (instant / 64)).get F.ENC_STATUS.LEVELS n = s.dev.get F.ENC_STATUS.LEVELS n := until_get _ _ (by decide) n.isLt
  simp only [off, levels, Bool.not_false, if_true]
  refine ⟨(settle_get _ (by decide) n.isLt).trans ?_, (settle_get _ (by decide) n.isLt).trans ?_⟩
  · exact Dev.get_set_here _ F.ENC_STATUS.LEVELS _ n.isLt (by decide) (by decide)
  exact (Dev.get_set_there _ (by decide) _ n.isLt (by decide) (by decide)).trans (until_get _ _ (by decide) n.isLt)

/-- R399, R401: both levels changed between two samples. -/
theorem encoderEdge_double {s : State} {n : Fin 2} {a b : Bool} {instant : Nat} (hl : s.dev.live = true) (hn : s.dev.encOn n = true)
    (ha : a ≠ (s.dev.get F.ENC_STATUS.LEVELS n).testBit 0) (hb : b ≠ (s.dev.get F.ENC_STATUS.LEVELS n).testBit 1) :
    After (.encoderEdge n a b instant) s fun d => d.get F.ENC_COUNT.COUNT n = s.dev.get F.ENC_COUNT.COUNT n
      ∧ d.bit F.ENC_STATUS.EDGE_OVR n = true ∧ d.get F.ENC_OVR_COUNT.COUNT n = (s.dev.get F.ENC_OVR_COUNT.COUNT n + 1) % 2 ^ 64 := by
  refine after_main ((exec_encoderEdge ..).trans (by rw [execEncoderEdge])) hl ?_
  have on : (s.dev.until (instant / 64)).encOn n = true := (encOn_of_get (until_get _ _ (by decide)) n).trans hn
  have levels : (s.dev.until (instant / 64)).get F.ENC_STATUS.LEVELS n = s.dev.get F.ENC_STATUS.LEVELS n := until_get _ _ (by decide) n.isLt
  simp only [on, levels, ha, hb, ne_eq, not_false_eq_true, and_self, Bool.not_true, Bool.false_eq_true, if_false, if_true]
  generalize hx : (b2n a + 2 * b2n b + s.dev.get F.ENC_STATUS.LEVELS n / 4 * 4) = x
  generalize hd : (s.dev.until (instant / 64)).set F.ENC_STATUS.LEVELS x n = d
  have before : ∀ {f : Fld}, f.apart F.ENC_STATUS.LEVELS = true → f.apart F.RSV_TIME.COUNT = true → n.val < f.n1 → 0 < f.n2 → 0 < f.n3 →
      d.get f n = s.dev.get f n := fun hf ht h1 h2 h3 => by
    rw [← hd, Dev.get_set_there _ hf _ h1 h2 h3, until_get _ _ ht h1 h2 h3]
  have edge : ∀ e : Dev, ((d.edgeOvr n).en n fun x => { x with edgeA := instant / 8 * 8, edgeB := instant / 8 * 8 }).calm.view colMask
      = ((d.setB F.ENC_STATUS.EDGE_OVR true n).inc F.ENC_OVR_COUNT.COUNT 1 n).calm.view colMask := fun _ =>
    (view_en _ _ (by decide) _).trans (edgeOvr_counted d n)
  refine ⟨(settle_get _ (by decide) n.isLt).trans ?_, (settle_bit _ (by decide) n.isLt).trans ?_, (settle_get _ (by decide) n.isLt).trans ?_⟩
  · refine (get_of_view (edge d) (by decide) n.isLt).trans ((Dev.get_inc_apart _ (by decide) 1 n.isLt (by decide) (by decide)).trans ?_)
    exact (Dev.get_setB_apart _ (by decide) true n.isLt (by decide) (by decide)).trans (before (by decide) (by decide) n.isLt (by decide) (by decide))
  · refine Dev.bit_of_get ((get_of_view (edge d) (by decide) n.isLt).trans (Dev.get_inc_apart _ (by decide) 1 n.isLt (by decide) (by decide))) |>.trans ?_
    exact Dev.bit_setB_same d (by decide) true n.isLt (by decide) (by decide)
  · refine (get_of_view (edge d) (by decide) n.isLt).trans ((Dev.get_inc_same _ F.ENC_OVR_COUNT.COUNT 1 n.isLt (by decide) (by decide)).trans ?_)
    rw [Dev.get_setB_apart _ (by decide) true n.isLt (by decide) (by decide), before (by decide) (by decide) n.isLt (by decide) (by decide)]
    rfl

/-- What follows a single edge: an overrun where it came too soon, a reversal where the direction changed. -/
theorem edgeNext_view (d : Dev) (n stamp : Nat) (close back : Bool) :
    (if back then (if close then d.edgeOvr n else d).reversal n stamp else if close then d.edgeOvr n else d).calm.view edgeMask = d.calm.view edgeMask := by
  have overrun : (if close then d.edgeOvr n else d).calm.view edgeMask = d.calm.view edgeMask := by
    split
    · exact edgeOvr_view d n
    · rfl
  split
  · exact (reversal_view ..).trans overrun
  · exact overrun

/-- R398, R402: one of the levels changed. -/
theorem encoderEdge_single {s : State} {n : Fin 2} {a b : Bool} {instant : Nat} (hl : s.dev.live = true) (hn : s.dev.encOn n = true) {up : Bool}
    (hu : ((if a ≠ (s.dev.get F.ENC_STATUS.LEVELS n).testBit 0 then a != b else a == b) != s.dev.bit F.ENC_CFG.INV n) = up)
    (h : ¬ (a ≠ (s.dev.get F.ENC_STATUS.LEVELS n).testBit 0 ↔ b ≠ (s.dev.get F.ENC_STATUS.LEVELS n).testBit 1)) :
    After (.encoderEdge n a b instant) s fun d => d.bit F.ENC_STATUS.DIR n = !up
      ∧ d.get F.ENC_COUNT.COUNT n = (s.dev.get F.ENC_COUNT.COUNT n + (if up then 1 else 2 ^ 32 - 1)) % 2 ^ 32 := by
  refine after_main ((exec_encoderEdge ..).trans (by rw [execEncoderEdge])) hl ?_
  have on : (s.dev.until (instant / 64)).encOn n = true := (encOn_of_get (until_get _ _ (by decide)) n).trans hn
  have levels : (s.dev.until (instant / 64)).get F.ENC_STATUS.LEVELS n = s.dev.get F.ENC_STATUS.LEVELS n := until_get _ _ (by decide) n.isLt
  have one : ¬ (a ≠ (s.dev.get F.ENC_STATUS.LEVELS n).testBit 0 ∧ b ≠ (s.dev.get F.ENC_STATUS.LEVELS n).testBit 1) := fun both => h ⟨fun _ => both.2, fun _ => both.1⟩
  have some_ : ¬ (a = (s.dev.get F.ENC_STATUS.LEVELS n).testBit 0 ∧ b = (s.dev.get F.ENC_STATUS.LEVELS n).testBit 1) := fun same => h ⟨fun x => absurd same.1 x, fun x => absurd same.2 x⟩
  simp only [on, levels, Bool.not_true, Bool.false_eq_true, if_false, if_neg one, if_neg some_]
  generalize hx : (b2n a + 2 * b2n b + s.dev.get F.ENC_STATUS.LEVELS n / 4 * 4) = x
  generalize hd : (s.dev.until (instant / 64)).set F.ENC_STATUS.LEVELS x n = d
  have before : ∀ {f : Fld}, f.apart F.ENC_STATUS.LEVELS = true → f.apart F.RSV_TIME.COUNT = true → n.val < f.n1 → 0 < f.n2 → 0 < f.n3 →
      d.get f n = s.dev.get f n := fun hf ht h1 h2 h3 => by
    rw [← hd, Dev.get_set_there _ hf _ h1 h2 h3, until_get _ _ ht h1 h2 h3]
  have inv : d.bit F.ENC_CFG.INV n = s.dev.bit F.ENC_CFG.INV n := Dev.bit_of_get (before (by decide) (by decide) n.isLt (by decide) (by decide))
  have count : d.get F.ENC_COUNT.COUNT n = s.dev.get F.ENC_COUNT.COUNT n := before (by decide) (by decide) n.isLt (by decide) (by decide)
  simp only [inv, hu, count]
  refine ⟨(settle_bit _ (by decide) n.isLt).trans (Dev.bit_of_get (get_of_view (edgeNext_view ..) (by decide) n.isLt) |>.trans ?_),
    (settle_get _ (by decide) n.isLt).trans ((get_of_view (edgeNext_view ..) (by decide) n.isLt).trans ?_)⟩
  · exact Dev.bit_setB_same _ (by decide) (!up) n.isLt (by decide) (by decide)
  · refine (Dev.get_setB_apart _ (by decide) (!up) n.isLt (by decide) (by decide)).trans ?_
    refine (Dev.get_set_here _ F.ENC_COUNT.COUNT _ n.isLt (by decide) (by decide)).trans ?_
    exact Nat.mod_mod _ _

/-! An index -/

/-- What follows the latch of the count at an index: the check against the last one, and the end of a homing. -/
def indexMask : Mask := ⟨F.ENC_IDX_DIFF.D :: F.ENC_STATUS.LINE_FAULT :: colMask.regs, [.enc]⟩

theorem indexCheck_view (d : Dev) (n : Nat) (x : Int) : (d.indexCheck n x).calm.view indexMask = d.calm.view indexMask := by
  unfold Dev.indexCheck
  extract_lets l4 tol k d1
  have moved : d1.calm.view indexMask = d.calm.view indexMask := by
    simp only [d1]
    split
    · exact view_setS (by decide) ..
    · rfl
  split
  · rfl
  · split
    · exact (view_le (m := colMask) (by decide) (colValid_view _)).trans ((view_en d1 n (by decide) _).trans moved)
    · split
      · rfl
      · exact (view_le (m := colMask) (by decide) (colInvalid_view ..)).trans (view_setB (by decide) ..)

theorem encoderIndex_latches {s : State} {n : Fin 2} {z : Bool} (hl : s.dev.live = true) (hn : s.dev.encOn n = true)
    (hz : z ≠ (s.dev.get F.ENC_STATUS.LEVELS n).testBit 2) (hd : z ≠ s.dev.bit F.ENC_STATUS.DIR n) :
    After (.encoderIndex n z) s fun d => d.get F.ENC_IDX.LATCH n = s.dev.get F.ENC_COUNT.COUNT n % 2 ^ 32 ∧ d.bit F.ENC_STATUS.IDX_SEEN n = true := by
  refine after_main ((exec_encoderIndex ..).trans (by rw [execEncoderIndex])) hl ?_
  dsimp only
  generalize hx : s.dev.get F.ENC_STATUS.LEVELS n % 4 + 4 * b2n z = x
  have before : ∀ {f : Fld}, f.apart F.ENC_STATUS.LEVELS = true → n.val < f.n1 → 0 < f.n2 → 0 < f.n3 →
      (s.dev.set F.ENC_STATUS.LEVELS x n).get f n = s.dev.get f n := fun hf h1 h2 h3 => Dev.get_set_there _ hf _ h1 h2 h3
  have on : (s.dev.set F.ENC_STATUS.LEVELS x n).encOn n = true :=
    (encOn_of_get (Dev.get_set_apart _ (by decide) _ (by decide) (by decide) (by decide)) n).trans hn
  have dir : (s.dev.set F.ENC_STATUS.LEVELS x n).bit F.ENC_STATUS.DIR n = s.dev.bit F.ENC_STATUS.DIR n :=
    Dev.bit_of_get (before (by decide) n.isLt (by decide) (by decide))
  have count : (s.dev.set F.ENC_STATUS.LEVELS x n).get F.ENC_COUNT.COUNT n = s.dev.get F.ENC_COUNT.COUNT n := before (by decide) n.isLt (by decide) (by decide)
  simp only [on, dir, hz, hd, count, Bool.not_true, Bool.false_eq_true, if_false, or_self]
  generalize hc : s.dev.set F.ENC_STATUS.LEVELS x n = d
  generalize hi : toS 32 (s.dev.get F.ENC_COUNT.COUNT n + 2 ^ 32 - d.get F.ENC_IDX.LATCH n) = i
  generalize ht : (d.set F.ENC_IDX.LATCH (s.dev.get F.ENC_COUNT.COUNT n) n).setB F.ENC_STATUS.IDX_SEEN true n = e
  have latch : e.get F.ENC_IDX.LATCH n = s.dev.get F.ENC_COUNT.COUNT n % 2 ^ 32 := by
    rw [← ht, Dev.get_setB_apart _ (by decide) true n.isLt (by decide) (by decide)]
    exact Dev.get_set_here _ F.ENC_IDX.LATCH _ n.isLt (by decide) (by decide)
  have seen : e.bit F.ENC_STATUS.IDX_SEEN n = true := by
    rw [← ht]
    exact Dev.bit_setB_same _ (by decide) true n.isLt (by decide) (by decide)
  have checked : (if d.bit F.ENC_STATUS.IDX_SEEN n = true then (e.setS F.ENC_IDX_DIFF.D i n).indexCheck n i else e).calm.view indexMask = e.calm.view indexMask := by
    split
    · exact (indexCheck_view ..).trans (view_setS (by decide) ..)
    · rfl
  generalize (if d.bit F.ENC_STATUS.IDX_SEEN n = true then (e.setS F.ENC_IDX_DIFF.D i n).indexCheck n i else e) = f at checked
  have referred : ∀ g : Dev, g.calm.view indexMask = f.calm.view indexMask → g.settle.get F.ENC_IDX.LATCH n = s.dev.get F.ENC_COUNT.COUNT n % 2 ^ 32
      ∧ g.settle.bit F.ENC_STATUS.IDX_SEEN n = true := fun g h =>
    ⟨(settle_get _ (by decide) n.isLt).trans ((get_of_view (h.trans checked) (by decide) n.isLt).trans latch),
      (settle_bit _ (by decide) n.isLt).trans ((Dev.bit_of_get (get_of_view (h.trans checked) (by decide) n.isLt)).trans seen)⟩
  refine referred _ ?_
  have fresh : (f.en 1 fun e => { e with ovr := false }).calm.view indexMask = f.calm.view indexMask := view_en f 1 (by decide) _
  split
  · split
    · exact (view_le (m := colMask) (by decide) (colRefer_view ..)).trans fresh
    · exact fresh
  · rfl

theorem colReversal_clears {s : State} {n : Fin 2} {x : Nat} (hl : s.dev.live = true) (hd : s.dev.due (.reversal n) = some x) (ha : s.dev.ahead x = true) :
    After (.colReversal n) s fun d => (unit d.enc n).revs = 0 := by
  refine after_fire ((exec_colReversal ..).trans (by rw [execColReversal])) hl hd ha ?_
  refine (congrArg (fun x => (unit x.enc n.val).revs) ((calm_settle _).trans (calm_raise ..))).trans ?_
  generalize (s.dev.until x).disarm (.reversal n) = d
  show (unit (d.enc.modify n fun e => { e with revs := 0, revAt := some (e.revAt.getD 0 + 6400) }) n).revs = 0
  by_cases hn : n.val < d.enc.length
  · rw [unit_modify _ _ _ hn]
  · rw [unit_beyond (by simpa using hn)]
    rfl

/-! A frame of the SSI -/

/-- What follows a frame that is bad or good: the third bad one is a fault, a good one is compared with the position or refers it. -/
def ssiMask : Mask := ⟨F.COL_STATUS.XCHK_FAIL :: checkMask.regs ++ colMask.regs, checkMask.parts ++ colMask.parts⟩

theorem crossCheck_view (d : Dev) (p q : Rat) : (d.crossCheck p q).calm.view ssiMask = d.calm.view ssiMask := by
  unfold Dev.crossCheck
  split
  · exact (view_le (m := colMask) (by decide) (colInvalid_view ..)).trans (view_setB (by decide) ..)
  · rfl

/-- What a frame's verdict and data rest on. -/
theorem ssi_of_get {d e : Dev} (h : ∀ f ∈ [F.SSI_CFG.BITS, F.SSI_CFG.ERR_EN, F.SSI_CFG.DIV, F.SSI_CFG.DLY], e.get f = d.get f)
    (x : SsiFrame) : e.ssiGood x = d.ssiGood x ∧ e.ssiData x = d.ssiData x := by
  simp only [List.forall_mem_cons, List.not_mem_nil, false_imp_iff, implies_true, and_true] at h
  obtain ⟨bits, en, div, dly⟩ := h
  have bit : ∀ k, e.ssiBit x k = d.ssiBit x k := fun k => by rw [Dev.ssiBit, Dev.ssiBit, div, dly]
  have err : e.ssiErr x = d.ssiErr x := by rw [Dev.ssiErr, Dev.ssiErr, bit, Dev.bit_of_get en, bits]
  constructor
  · rw [Dev.ssiGood, Dev.ssiGood, bit, err, bits, en]
  · simp only [Dev.ssiData, bits, bit]

/-- The block when a frame's last bit has come. -/
def Dev.ssiRead (d : Dev) (x : SsiFrame) : Dev :=
  let start := d.ssiNext
  let d := d.until (start + d.ssiLen)
  let d := { d with col := { d.col with ssiAt := some start } }
  d.setB F.SSI_STATUS.ENC_ERR (d.ssiErr x)

theorem ssiRead_get (d : Dev) (x : SsiFrame) {f : Fld} (hf : f.apart F.SSI_STATUS.ENC_ERR = true) (ht : f.apart F.RSV_TIME.COUNT = true) (h1 : 0 < f.n1)
    (h2 : 0 < f.n2) (h3 : 0 < f.n3) : (d.ssiRead x).get f = d.get f :=
  (Dev.get_setB_apart _ hf _ h1 h2 h3).trans (until_get d _ ht h1 h2 h3)

theorem ssiRead_same (d : Dev) (x : SsiFrame) : (d.ssiRead x).ssiGood x = d.ssiGood x ∧ (d.ssiRead x).ssiData x = d.ssiData x := by
  refine ssi_of_get ?_ x
  simp only [List.forall_mem_cons, List.not_mem_nil, false_imp_iff, implies_true, and_true]
  refine ⟨?_, ?_, ?_, ?_⟩ <;> exact ssiRead_get d x (by decide) (by decide) (by decide) (by decide) (by decide)

/-- R407, R408: what a frame read does; `captured` is the count of encoder 1 at its first edge. -/
def Dev.ssiTake (d : Dev) (x : SsiFrame) (captured : Nat) : Dev :=
  if !d.ssiGood x then
    let n := d.col.badSsi + 1
    let d := ((d.setB F.SSI_STATUS.LAST_OK false).inc F.SSI_ERR_COUNT.COUNT 1)
    let d := { d with col := { d.col with badSsi := n } }
    if n = 3 then (d.raise 147 1 2 (leBytes 4 (d.get F.SSI_VALUE.VALUE))).checkFail 23 2 else d
  else
    let w := d.get F.SSI_CFG.BITS
    let v : Nat := if d.bit F.SSI_CFG.GRAY then unGray w (d.ssiData x) else d.ssiData x
    let d := (d.set F.SSI_VALUE.VALUE v).setB F.SSI_STATUS.LAST_OK true
    let d := ({ d with col := { d.col with badSsi := 0, ssiSeen := true } }).checkPass 23 2
    let p2 := rRound (((v : Int) - (d.get F.SSI_ZERO.ZERO : Nat) : Int) * ((d.get F.COL_XCHK.NUM : Nat) : Rat) / ((d.get F.COL_XCHK.DEN : Nat) : Rat))
    if d.bit F.COL_STATUS.REFERENCED then d.crossCheck p2 (d.posAt captured)
    else if d.bit F.COL_STATUS.XCHK_FAIL then d
    else d.colRefer p2 captured

/-- The count of encoder 1 at the frame's first edge. -/
def Dev.ssiCaptured (d : Dev) : Nat :=
  let start := d.ssiNext
  let d := d.until (start + d.ssiLen)
  ({ d with col := { d.col with ssiAt := some start } } : Dev).countAt (start * 64)

theorem ssiFrame_eq (x : SsiFrame) (s : State) : exec (.ssiFrame x) s
    = onMain s fun d => if d.get F.COL_CFG.ENC2_MODE ≠ 2 then d else (d.ssiRead x).ssiTake x d.ssiCaptured := rfl

theorem ssiTake_bad {d : Dev} {x : SsiFrame} (hg : d.ssiGood x = false) (n : Nat) : (d.ssiTake x n).bit F.SSI_STATUS.LAST_OK = false
    ∧ (d.ssiTake x n).get F.SSI_ERR_COUNT.COUNT = (d.get F.SSI_ERR_COUNT.COUNT + 1) % 2 ^ 64 := by
  have view : (d.ssiTake x n).calm.view ssiMask = ((d.setB F.SSI_STATUS.LAST_OK false).inc F.SSI_ERR_COUNT.COUNT 1).calm.view ssiMask := by
    unfold Dev.ssiTake
    extract_lets k d1 col d2
    rw [if_pos (by rw [hg]; rfl)]
    split
    · exact (view_checkFail (by decide) ..).trans (view_of_calm (calm_raise ..) _)
    · rfl
  constructor
  · refine (Dev.bit_of_get (get_of_view view (by decide))).trans ((Dev.bit_of_get (Dev.get_inc_apart _ (by decide) 1 (by decide) (by decide) (by decide))).trans ?_)
    exact Dev.bit_setB_same d (by decide) false (by decide) (by decide) (by decide)
  · refine (get_of_view view (by decide)).trans ((Dev.get_inc_same _ F.SSI_ERR_COUNT.COUNT 1 (by decide) (by decide) (by decide)).trans ?_)
    rw [Dev.get_setB_apart d (by decide) false (by decide) (by decide) (by decide)]
    rfl

theorem ssiTake_good {d : Dev} {x : SsiFrame} (hg : d.ssiGood x = true) (n : Nat) : (d.ssiTake x n).bit F.SSI_STATUS.LAST_OK = true
    ∧ (d.bit F.SSI_CFG.GRAY = false → (d.ssiTake x n).get F.SSI_VALUE.VALUE = d.ssiData x % 2 ^ 32) := by
  have view : (d.ssiTake x n).calm.view ssiMask = ((d.set F.SSI_VALUE.VALUE
      (if d.bit F.SSI_CFG.GRAY then unGray (d.get F.SSI_CFG.BITS) (d.ssiData x) else d.ssiData x)).setB F.SSI_STATUS.LAST_OK true).calm.view ssiMask := by
    unfold Dev.ssiTake
    extract_lets k d1 col d2 w v d3 col2 d4 p2
    have passed : d4.calm.view ssiMask = d3.calm.view ssiMask := view_checkPass (by decide) ..
    rw [if_neg (by rw [hg]; decide)]
    split
    · exact (crossCheck_view ..).trans passed
    · split
      · exact passed
      · exact (view_le (m := colMask) (by decide) (colRefer_view ..)).trans passed
  refine ⟨(Dev.bit_of_get (get_of_view view (by decide))).trans (Dev.bit_setB_same _ (by decide) true (by decide) (by decide) (by decide)), fun plain => ?_⟩
  refine (get_of_view view (by decide)).trans ((Dev.get_setB_apart _ (by decide) true (by decide) (by decide) (by decide)).trans ?_)
  rw [plain]
  exact Dev.get_set_here _ F.SSI_VALUE.VALUE _ (by decide) (by decide) (by decide)

theorem ssiFrame_bad {s : State} {x : SsiFrame} (hl : s.dev.live = true) (hm : s.dev.get F.COL_CFG.ENC2_MODE = 2) (hg : s.dev.ssiGood x = false) :
    After (.ssiFrame x) s fun d => d.bit F.SSI_STATUS.LAST_OK = false ∧ d.get F.SSI_ERR_COUNT.COUNT = (s.dev.get F.SSI_ERR_COUNT.COUNT + 1) % 2 ^ 64 := by
  refine after_main (ssiFrame_eq ..) hl ?_
  rw [if_neg (by simp [hm])]
  obtain ⟨ok, count⟩ := ssiTake_bad ((ssiRead_same s.dev x).1.trans hg) s.dev.ssiCaptured
  refine ⟨(settle_bit _ (by decide)).trans ok, (settle_get _ (by decide)).trans (count.trans ?_)⟩
  rw [ssiRead_get _ _ (by decide) (by decide) (by decide) (by decide) (by decide)]

theorem ssiFrame_good {s : State} {x : SsiFrame} (hl : s.dev.live = true) (hm : s.dev.get F.COL_CFG.ENC2_MODE = 2) (hg : s.dev.ssiGood x = true) :
    After (.ssiFrame x) s fun d => d.bit F.SSI_STATUS.LAST_OK = true
      ∧ (s.dev.bit F.SSI_CFG.GRAY = false → d.get F.SSI_VALUE.VALUE = s.dev.ssiData x % 2 ^ 32) := by
  refine after_main (ssiFrame_eq ..) hl ?_
  rw [if_neg (by simp [hm])]
  obtain ⟨good, data⟩ := ssiRead_same s.dev x
  obtain ⟨ok, value⟩ := ssiTake_good (good.trans hg) s.dev.ssiCaptured
  refine ⟨(settle_bit _ (by decide)).trans ok, fun plain => (settle_get _ (by decide)).trans ((value ?_).trans (by rw [data]))⟩
  rw [Dev.bit_of_get (ssiRead_get _ _ (by decide) (by decide) (by decide) (by decide) (by decide)), plain]

/-! The drive -/

/-- A part of a unit that a projection shows is the same where the projections of the lists are. -/
theorem unit_of_map {α β : Type} [Inhabited α] {g : α → α} (p : α → β) (hp : ∀ x, p (g x) = p x) {l m : List α} (h : l.map g = m.map g) (i : Nat) :
    p (unit l i) = p (unit m i) := by
  have through : ∀ l : List α, l.map p = (l.map g).map p := fun l => by
    rw [List.map_map]
    exact List.map_congr_left fun x _ => (hp x).symm
  rw [unit_map p l, unit_map p m, through l, through m, h]

theorem unit_modify_ne {α : Type} [Inhabited α] {i j : Nat} (h : i ≠ j) (l : List α) (g : α → α) : unit (l.modify i g) j = unit l j := by
  rw [unit, unit, List.getD_eq_getElem?_getD, List.getD_eq_getElem?_getD, List.getElem?_modify]
  cases l[j]? <;> simp [h]

/-- The shadowed period of a channel stands over the end of a step. -/
theorem shPeriod_settle (d : Dev) (c : Nat) : (unit d.settle.pwm c).shPeriod = (unit d.pwm c).shPeriod :=
  unit_of_map (g := Pwm.still) Pwm.shPeriod (fun _ => rfl) (congrArg Calm.pwm (calm_settle d)) c

/-- The drive's channels, given a compare and the period. -/
def Dev.driveSet (d : Dev) (c per : Nat) : Dev :=
  d.each [26, 28, 30] (fun d e => (d.set F.PW_SHADOW.CMP (min c 0x3FFFFFF) e).pw e (fun p => { p with shPeriod := per }))

theorem driveSet_period (d : Dev) (n per : Nat) {c : Nat} (hc : c ∈ [26, 28, 30]) (h : c < d.pwm.length) :
    (unit (d.driveSet n per).pwm c).shPeriod = per := by
  have pwm : (d.driveSet n per).pwm = ((d.pwm.modify 26 fun p => { p with shPeriod := per }).modify 28 fun p => { p with shPeriod := per }).modify 30
      fun p => { p with shPeriod := per } := by
    simp [Dev.driveSet, Dev.each, Dev.pw]
  rw [pwm]
  simp only [List.mem_cons, List.not_mem_nil, or_false] at hc
  rcases hc with rfl | rfl | rfl
  · rw [unit_modify_ne (by decide), unit_modify_ne (by decide), unit_modify _ _ _ h]
  · rw [unit_modify_ne (by decide), unit_modify _ _ _ (by simpa using h)]
  · rw [unit_modify _ _ _ (by simpa using h)]

theorem collectorDriveHandover_hands {s : State} (hl : s.dev.live = true) (hk : s.dev.get F.COL_CFG.KIND ≠ 0)
    (hr : s.dev.slotRuns (s.dev.get F.COL_SLOTS.SPD) = true)
    (ha : s.dev.ahead (s.dev.tick + ((s.dev.get F.SLOT_CFG.RELEASE (s.dev.get F.COL_SLOTS.SPD) + 2) % 1024 + 1024 - s.dev.phase) % 1024) = true) :
    After .collectorDriveHandover s fun d => ∀ c ∈ [26, 28, 30], c < s.dev.pwm.length → (unit d.pwm c).shPeriod = s.dev.get F.COL_DRIVE.PERIOD := by
  refine after_main ((exec_collectorDriveHandover ..).trans (by rw [execCollectorDriveHandover])) hl ?_
  have runs : ¬ (s.dev.get F.COL_CFG.KIND = 0 ∨ (!s.dev.slotRuns (s.dev.get F.COL_SLOTS.SPD)) = true) := by simp [hk, hr]
  rw [if_neg runs]
  intro c hc h
  rw [Dev.atPhase, wait_ahead ha, shPeriod_settle]
  generalize s.dev.tick + ((s.dev.get F.SLOT_CFG.RELEASE (s.dev.get F.COL_SLOTS.SPD) + 2) % 1024 + 1024 - s.dev.phase) % 1024 = t
  refine (driveSet_period _ _ _ hc ?_).trans ?_
  · simpa [Dev.setS, Dev.until] using h
  · exact (Dev.get_set_apart _ (by decide) _ (by decide) (by decide) (by decide)).trans (until_get s.dev t (by decide))

theorem pllDrop_get (d : Dev) {p u : Nat} {f : Fld} (h : f.apart F.PLL_STATUS.DEMAND = true) {a b c : Nat} (ha : a < f.n1) (hb : b < f.n2) (hc : c < f.n3) :
    (d.pllDrop p u).get f a b c = d.get f a b c := by
  unfold Dev.pllDrop
  extract_lets v had clk d1 d2
  have shown : d2.get f a b c = d.get f a b c := Dev.get_setB_apart d1 h _ ha hb hc
  split
  · exact (get_arm ..).trans shown
  · exact shown

theorem colOff_state (d : Dev) : d.colOff.get F.COL_STATUS.STATE = 0 := by
  unfold Dev.colOff
  extract_lets d1 os
  have dropped : ((((d1.loanReturn 10 0).loanDrop 10 0).set F.COL_STATUS.STATE 0).pllDrop 2 3).get F.COL_STATUS.STATE = 0 := by
    rw [pllDrop_get _ (by decide) (by decide) (by decide) (by decide)]
    exact Dev.get_set_here _ F.COL_STATUS.STATE _ (by decide) (by decide) (by decide)
  clear_value d1
  rw [get_disarm]
  exact dropped

theorem colBrakeEnd_ends {s : State} {x : Nat} (hl : s.dev.live = true) (hd : s.dev.due .brake = some x) (ha : s.dev.ahead x = true)
    (hs : s.dev.get F.COL_STATUS.STATE = 6) : Leaves .colBrakeEnd s fun e => e.get F.COL_STATUS.STATE = 0 := by
  refine leaves_fire ((exec_colBrakeEnd ..).trans (by rw [execColBrakeEnd])) hl hd ha ?_
  have braking : ((s.dev.until x).disarm .brake).get F.COL_STATUS.STATE = 6 := (get_disarm ..).trans ((until_get _ _ (by decide)).trans hs)
  rw [if_pos braking]
  exact colOff_state _

/-- Settles O24: an edge's count and marks stand over what it begins; an index, a frame, the drive's period and the end of braking, each. -/
theorem collectorEvents : Obligations.CollectorEvents :=
  ⟨fun _ _ _ _ _ hl hn => encoderEdge_plain hl hn,
    fun _ _ _ _ _ hl hn => ⟨fun h => encoderEdge_single hl hn rfl h, fun ha hb => encoderEdge_double hl hn ha hb⟩,
    fun _ _ _ hl hn hz hd => encoderIndex_latches hl hn hz hd, fun _ _ _ hl hd ha => colReversal_clears hl hd ha,
    fun _ _ hl hm => ⟨fun hg => ssiFrame_bad hl hm hg, fun hg => ssiFrame_good hl hm hg⟩, fun _ hl hk hr ha => collectorDriveHandover_hands hl hk hr ha,
    fun _ _ hl hd ha hs => colBrakeEnd_ends hl hd ha hs⟩

end Sys2Proof.Machine
end

section
/-! SUPPORT. Upstream messages of an ACTIVE lane and repeats (R221 to R243). -/

namespace Sys2Proof.Machine

set_option Elab.async false

theorem exec_sample (k : Fin 96) (bad : Fin 4) (m : SampleMsg) (s : State) : exec (.sample k bad m) s = execSample k bad m s := rfl
theorem exec_status (k : Fin 96) (bad : Fin 4) (m : StatusMsg) (s : State) : exec (.status k bad m) s = execStatus k bad m s := rfl
theorem exec_capturePage (k : Fin 96) (bad : Fin 4) (m : PageMsg) (s : State) : exec (.capturePage k bad m) s = execCapturePage k bad m s := rfl
theorem exec_credit (k : Fin 96) (h : UpHead) (rcvd freed : Nat) (s : State) : exec (.credit k h rcvd freed) s = execCredit k h rcvd freed s := rfl
theorem exec_bypassRepeat (k : Fin 96) (s : State) : exec (.bypassRepeat k) s = execBypassRepeat k s := rfl
theorem exec_captureRepeat (k : Fin 96) (s : State) : exec (.captureRepeat k) s = execCaptureRepeat k s := rfl

/-! What a lane's unit keeps -/

section
variable (d : Dev) (k j : Nat)

theorem unit_of_lanes {d e : Dev} (h : e.lanes = d.lanes) (k : Nat) : unit e.lanes k = unit d.lanes k := by rw [h]

theorem creditSync_lanes : (d.creditSync k).lanes = d.lanes := by simp [Dev.creditSync]

theorem slotFree_keeps {β : Type} (p : Lane → β) (h : ∀ (l : Lane) n, p { l with upFreed := n } = p l) (n : Nat) :
    p (unit (d.slotFree k n).lanes j) = p (unit d.lanes j) := by
  rw [Dev.slotFree, creditSync_lanes]
  exact lane_keeps p (fun l => h l _) d k j

theorem seqTake_keeps {β : Type} (p : Lane → β)
    (h : ∀ (l : Lane) a b c e, p { l with upRcvd := a, upFreed := b, upNext := c, auditBad := e } = p l) (q : Nat) :
    p (unit (d.seqTake k q).lanes j) = p (unit d.lanes j) := by
  unfold Dev.seqTake
  extract_lets l gap bad d1
  rw [creditSync_lanes, Dev.inc, Dev.set_lanes]
  exact lane_keeps p (fun l => h l _ _ _ _) d k j

theorem seqTake_size (q : Nat) : (d.seqTake k q).lanes.length = d.lanes.length := by
  simp [Dev.seqTake, creditSync_lanes, Dev.inc, Dev.lane]

theorem slotFree_size (n : Nat) : (d.slotFree k n).lanes.length = d.lanes.length := by
  simp [Dev.slotFree, creditSync_lanes, Dev.lane]

theorem seqTake_arr (q : Nat) : (d.seqTake k q).arr = d.arr := by
  simp [Dev.seqTake, Dev.creditSync, Dev.inc, Dev.lane]

theorem lanes_settle : d.settle.lanes = d.lanes := lanes_of_calm (calm_settle d)

end

/-! A message of the burst -/

/-- R222, R223: a message of the burst of a beat that has begun and is not taken yet, without fault, is passed on once its sequence is taken. -/
theorem burstIn_takes {d : Dev} {k seq b : Nat} {ok : Bool} (hh : d.laneHears k = true) (hok : ok = true) (h0 : 0 ≤ d.beatOf b) (hb : d.beatOf b ≤ (d.beat : Int))
    (ht : d.taken (d.beatOf b) = false) (g : Dev → Nat → Dev) : d.burstIn k 0 seq b ok g = g (d.seqTake k seq) (d.beatOf b).toNat := by
  have fresh : (d.seqTake k seq).taken (d.beatOf b) = false := by rw [Dev.taken, seqTake_arr]; exact ht
  simp [Dev.burstIn, Dev.msgIn, hh, hok, h0, hb, fresh]

theorem sample_keeps {s : State} {k : Fin 96} (hl : s.dev.live = true) (hk : k.val < s.dev.lanes.length) {m : SampleMsg} (hh : s.dev.laneHears k = true)
    (hp : m.part < 16) (h0 : 0 ≤ s.dev.beatOf m.beat) (hb : s.dev.beatOf m.beat ≤ (s.dev.beat : Int)) (ht : s.dev.taken (s.dev.beatOf m.beat) = false)
    (hn : ((unit s.dev.lanes k).parts.any fun p => p.1 == (s.dev.beatOf m.beat).toNat && p.2.1 == m.part) = false) :
    After (.sample k 0 m) s fun d => ((s.dev.beatOf m.beat).toNat, m.part, m.codes) ∈ (unit d.lanes k).parts := by
  refine after_main ((exec_sample ..).trans (by rw [execSample])) hl ?_
  have free : ((unit (s.dev.seqTake k m.seq).lanes k).parts.any fun p => p.1 == (s.dev.beatOf m.beat).toNat && p.2.1 == m.part) = false := by
    rw [seqTake_keeps _ k k Lane.parts (by intros; rfl), hn]
  rw [show ((0 : Fin 4) : Nat) = 0 from rfl, burstIn_takes hh (by simp [hp]) h0 hb ht, free, lanes_settle]
  simp only [Bool.false_eq_true, if_false]
  rw [unit_lane _ _ (by rwa [seqTake_size])]
  exact List.mem_cons_self

/-! A STATUS -/

/-- What a STATUS is free to change once its words are shown. -/
def nodeMask : Mask := ⟨linkFields.filter fun f => !([F.LANE_NODE.STATE, F.LANE_NODE_BEAT.APPLIED_BEAT, F.LANE_NODE_TRIP.TRIP_MASK].contains f), [.lanes, .cells, .slots]⟩

section
variable (d : Dev) (k : Nat)

theorem nodeView_captureRead (first last : Nat) : (d.captureRead k first last).calm.view nodeMask = d.calm.view nodeMask := by
  unfold Dev.captureRead
  split
  rename_i d1 q same
  have sent : d1.calm.view nodeMask = d.calm.view nodeMask := by
    refine (congrArg (fun x => x.1.calm.view nodeMask) same).symm.trans ?_
    unfold Dev.credSend
    extract_lets l
    split
    · unfold Dev.creditSync
      extract_lets l
      exact (view_set (by decide) ..).trans ((view_set (by decide) ..).trans (view_lane _ _ (by decide) _))
    · rfl
  extract_lets d2
  have asked : d2.calm.view nodeMask = d.calm.view nodeMask := by
    simp only [d2]
    split
    · exact (view_laneSend (by decide) ..).trans sent
    · exact sent
  exact (view_arm ..).trans ((view_lane _ _ (by decide) _).trans asked)

theorem nodeView_nodeCounts (late disc uns : Nat) : (d.nodeCounts k late disc uns).calm.view nodeMask = d.calm.view nodeMask := by
  unfold Dev.nodeCounts
  extract_lets l d1 m
  have noted : d1.calm.view nodeMask = d.calm.view nodeMask := view_lane _ _ (by decide) _
  split
  · exact noted
  · extract_lets d2
    have counted : d2.calm.view nodeMask = d.calm.view nodeMask :=
      (view_inc (by decide) ..).trans ((view_inc (by decide) ..).trans ((view_inc (by decide) ..).trans noted))
    split
    · exact counted
    · exact (view_of_calm (calm_raise ..) _).trans counted

theorem nodeView_bypassStart : (d.bypassStart k).calm.view nodeMask = d.calm.view nodeMask := by
  unfold Dev.bypassStart
  extract_lets was n d1 d2 d3
  have begun : d1.calm.view nodeMask = d.calm.view nodeMask := (view_cell _ _ (by decide) _).trans (view_setRole (by decide) ..)
  have asked : d2.calm.view nodeMask = d1.calm.view nodeMask := (view_disarm ..).trans ((view_lane _ _ (by decide) _).trans (view_disarm ..))
  have counted : d3.calm.view nodeMask = d.calm.view nodeMask := by
    refine Eq.trans ?_ (asked.trans begun)
    simp only [d3]
    split
    · exact view_redundancy ..
    · rfl
  split
  · rfl
  · split
    · exact (view_of_calm (calm_raise ..) _).trans ((view_lane _ _ (by decide) _).trans counted)
    · exact (view_arm ..).trans counted

theorem nodeView_cellStatus (cause flags : Nat) : (d.cellStatus k cause flags).calm.view nodeMask = d.calm.view nodeMask := by
  have role : ∀ (e : Dev) (r : Nat), (e.setRole k r).calm.view nodeMask = e.calm.view nodeMask := fun e r => view_setRole (by decide) e k r
  unfold Dev.cellStatus
  extract_lets closed x d1 blocked rest
  have done : d1.calm.view nodeMask = d.calm.view nodeMask := (view_cell _ _ (by decide) _).trans ((role ..).trans (view_disarm ..))
  split
  · exact (view_of_calm (calm_raise ..) _).trans done
  · simp (disch := decide) [role]

theorem nodeView_cellFault : (d.cellFault k).calm.view nodeMask = d.calm.view nodeMask := by
  unfold Dev.cellFault
  split
  · exact nodeView_bypassStart ..
  · rfl

end

/-- The words that a STATUS shows at once. -/
def Dev.statusShown (d : Dev) (k : Nat) (m : StatusMsg) : Dev :=
  ((d.set F.LANE_NODE.STATE m.w08 k).set F.LANE_NODE_BEAT.APPLIED_BEAT m.applied k).set F.LANE_NODE_TRIP.TRIP_MASK m.tripMask k

theorem statusTake_view (d : Dev) (k : Nat) (m : StatusMsg) : (d.statusTake k m).calm.view nodeMask = (d.statusShown k m).calm.view nodeMask := by
  unfold Dev.statusTake
  extract_lets l cause tripNew d1 d2 d3 d4 d5 d6 d7 now d8 d9
  have shown : d2.calm.view nodeMask = (d.statusShown k m).calm.view nodeMask := view_set (by decide) ..
  have counted : d3.calm.view nodeMask = d2.calm.view nodeMask := nodeView_nodeCounts ..
  have acked : d4.calm.view nodeMask = d3.calm.view nodeMask := by
    simp only [d4]
    split
    · split
      · split
        · exact (view_disarm ..).trans (view_lane _ _ (by decide) _)
        · rfl
      · rfl
    · rfl
  have read : d5.calm.view nodeMask = d4.calm.view nodeMask := by
    simp only [d5]
    split
    · split
      · exact view_lane _ _ (by decide) _
      · rfl
    · rfl
  have captured : d6.calm.view nodeMask = d5.calm.view nodeMask := by
    simp only [d6]
    split
    · exact (nodeView_captureRead ..).trans (view_lane _ _ (by decide) _)
    · rfl
  have traced : d8.calm.view nodeMask = d7.calm.view nodeMask := by
    simp only [d8]
    split
    · exact view_of_calm (calm_condOff ..) _
    · rfl
  have faulted : d9.calm.view nodeMask = d8.calm.view nodeMask := by
    simp only [d9]
    split
    · split
      · exact (nodeView_cellFault ..).trans ((view_of_calm (calm_raise ..) _).trans (view_of_calm (calm_condOn ..) _))
      · rfl
    · rfl
  have noted : d7.calm.view nodeMask = d6.calm.view nodeMask := view_lane _ _ (by decide) _
  rw [nodeView_cellStatus, faulted, traced, noted, captured, read, acked, counted, shown]

theorem status_shows {s : State} {k : Fin 96} (hl : s.dev.live = true) {m : StatusMsg} (hh : s.dev.laneHears k = true) (hok : statusOk m.w08 = true)
    (h0 : 0 ≤ s.dev.beatOf m.beat) (hb : s.dev.beatOf m.beat ≤ (s.dev.beat : Int)) (ht : s.dev.taken (s.dev.beatOf m.beat) = false) :
    After (.status k 0 m) s fun d => d.get F.LANE_NODE_BEAT.APPLIED_BEAT k = m.applied % 2 ^ 32 ∧ d.get F.LANE_NODE.STATE k = m.w08 % 2 ^ 32
      ∧ d.get F.LANE_NODE_TRIP.TRIP_MASK k = m.tripMask % 2 ^ 16 := by
  refine after_main ((exec_status ..).trans (by rw [execStatus])) hl ?_
  rw [show ((0 : Fin 4) : Nat) = 0 from rfl, burstIn_takes hh hok h0 hb ht]
  dsimp only
  generalize (if (unit (s.dev.seqTake k m.seq).lanes k).status.isSome then (s.dev.seqTake k m.seq).slotFree k 1 else s.dev.seqTake k m.seq) = d
  generalize (d.lane k fun l => { l with status := some { m with beat := (s.dev.beatOf m.beat).toNat } }) = e
  have view := statusTake_view e k m
  refine ⟨(settle_get _ (by decide) k.isLt).trans ((get_of_view view (by decide) k.isLt).trans ?_),
    (settle_get _ (by decide) k.isLt).trans ((get_of_view view (by decide) k.isLt).trans ?_),
    (settle_get _ (by decide) k.isLt).trans ((get_of_view view (by decide) k.isLt).trans ?_)⟩
  · refine (Dev.get_set_there _ (by decide) _ k.isLt (by decide) (by decide)).trans ?_
    exact Dev.get_set_here _ F.LANE_NODE_BEAT.APPLIED_BEAT _ k.isLt (by decide) (by decide)
  · refine (Dev.get_set_there _ (by decide) _ k.isLt (by decide) (by decide)).trans ((Dev.get_set_there _ (by decide) _ k.isLt (by decide) (by decide)).trans ?_)
    exact Dev.get_set_here _ F.LANE_NODE.STATE _ k.isLt (by decide) (by decide)
  · exact Dev.get_set_here _ F.LANE_NODE_TRIP.TRIP_MASK _ k.isLt (by decide) (by decide)

/-! Pages and credits -/

/-- A message that is neither bad nor stale is passed on. -/
theorem msgIn_fresh {d : Dev} {b : Nat} (h : (d.beatOf b - (d.beat : Int)).natAbs ≤ 4) (k : Nat) (g : Dev → Dev) :
    d.msgIn k (d.unlessStale b 0) g = g d := by
  have fresh : d.unlessStale b 0 = 0 := if_neg (by omega)
  rw [fresh]
  rfl

theorem lanes_arcMark (d : Dev) (type flags object aux : Nat) (body : List Int) (len : Nat) :
    (d.arcMark type flags object aux body len).lanes = d.lanes := lanes_of_calm (calm_arcMark ..)

theorem capturePage_takes {s : State} {k : Fin 96} (hl : s.dev.live = true) (hk : k.val < s.dev.lanes.length) {m : PageMsg} (hh : s.dev.laneHears k = true)
    (hp : m.page ≤ 15) (hb : (s.dev.beatOf m.beat - (s.dev.beat : Int)).natAbs ≤ 4) :
    After (.capturePage k 0 m) s fun d => m.page ∉ (unit d.lanes k).capWait := by
  refine after_main ((exec_capturePage ..).trans (by rw [execCapturePage])) hl ?_
  rw [if_neg (by simp [hh]), if_neg (by omega), show ((0 : Fin 4) : Nat) = 0 from rfl, msgIn_fresh hb, lanes_settle]
  dsimp only
  generalize hd : (((s.dev.seqTake k m.seq).slotFree k 1).lane k fun l => { l with capAcked := true }) = d
  have size : k.val < d.lanes.length := by
    rw [← hd]
    simpa [Dev.lane, slotFree_size, seqTake_size] using hk
  split
  · have gone : ∀ e : Dev, e.lanes = (d.lane k fun l => { l with capWait := l.capWait.filter (· != m.page) }).lanes → m.page ∉ (unit e.lanes k).capWait :=
      fun e h => by
        rw [h, unit_lane d _ size]
        simp
    refine gone _ ?_
    split
    · exact (Dev.disarm_lanes ..).trans (lanes_arcMark ..)
    · exact lanes_arcMark ..
  next absent => simpa using absent

theorem credit_keeps {s : State} {k : Fin 96} (hl : s.dev.live = true) (hk : k.val < s.dev.lanes.length) {rcvd freed b : Nat} (hh : s.dev.laneHears k = true)
    (hb : (s.dev.beatOf b - (s.dev.beat : Int)).natAbs ≤ 4) : After (.credit k ⟨0, b⟩ rcvd freed) s fun d => (unit d.lanes k).dnRcvd = rcvd % 65536
      ∧ (unit d.lanes k).dnFreed = freed % 65536 ∧ (unit d.lanes k).creditBeat = s.dev.beat := by
  refine after_main ((exec_credit ..).trans (by rw [execCredit])) hl ?_
  rw [if_neg (by simp [hh])]
  dsimp only
  rw [show ((0 : Fin 4) : Nat) = 0 from rfl, msgIn_fresh hb, lanes_settle, creditSync_lanes, unit_lane _ _ hk]
  exact ⟨rfl, rfl, rfl⟩

/-! Repeats -/

theorem mcnt_here (d : Dev) (k : Fin 96) (n : Nat) : (d.inc F.LANE_MCNT.COUNT n k 9).get F.LANE_MCNT.COUNT k 9 = (d.get F.LANE_MCNT.COUNT k 9 + n) % 2 ^ 64 :=
  Dev.get_inc_same d F.LANE_MCNT.COUNT n k.isLt (by decide) (by decide)

theorem bypassRepeat_repeats {s : State} {k : Fin 96} (hl : s.dev.live = true) (hk : k.val < s.dev.lanes.length) {x : Nat} {b : Byp}
    (hd : s.dev.due (.bypRep k) = some x) (ha : s.dev.ahead x = true) (hb : (unit s.dev.lanes k).byp = some b) (h3 : b.reps < 3) :
    After (.bypassRepeat k) s fun d => d.get F.LANE_MCNT.COUNT k 9 = (s.dev.get F.LANE_MCNT.COUNT k 9 + 1) % 2 ^ 64
      ∧ ∃ b', (unit d.lanes k).byp = some b' ∧ b'.action = b.action ∧ b'.reps = b.reps + 1 ∧ b'.sent = false := by
  refine after_fire ((exec_bypassRepeat ..).trans (by rw [execBypassRepeat])) hl hd ha ?_
  have lanes : ((s.dev.until x).disarm (.bypRep k)).lanes = s.dev.lanes := by rw [Dev.disarm_lanes, Dev.until, elapse_lanes]
  have count : ((s.dev.until x).disarm (.bypRep k)).get F.LANE_MCNT.COUNT k 9 = s.dev.get F.LANE_MCNT.COUNT k 9 :=
    (get_disarm ..).trans (until_get _ _ (by decide) k.isLt)
  generalize (s.dev.until x).disarm (.bypRep k) = d at lanes count
  rw [← lanes] at hb hk
  simp only [hb, h3, if_true]
  refine ⟨(settle_get _ (by decide) k.isLt).trans ((mcnt_here d k 1).trans (by rw [count])), ?_⟩
  rw [lanes_settle, unit_lane _ _ (by simpa [Dev.inc] using hk)]
  exact ⟨_, rfl, rfl, rfl, rfl⟩

/-- What a CAPTURE_REQ is free to change. -/
def askMask : Mask := ⟨[F.LANE_CREDIT.DN_AVAIL, F.LANE_CREDIT.UP_OUT], [.lanes]⟩

theorem credSend_leaves (d : Dev) (k : Nat) : (d.credSend k).1.calm.view askMask = d.calm.view askMask
    ∧ ∀ j, (unit (d.credSend k).1.lanes j).capAgain = (unit d.lanes j).capAgain := by
  unfold Dev.credSend
  extract_lets l
  split
  · refine ⟨(view_set (by decide) ..).trans ((view_set (by decide) ..).trans (view_lane _ _ (by decide) _)), fun j => ?_⟩
    rw [creditSync_lanes]
    exact lane_keeps Lane.capAgain (by intro l; rfl) ..
  · exact ⟨rfl, fun _ => rfl⟩

theorem captureRead_leaves (d : Dev) (k first last : Nat) : (d.captureRead k first last).calm.view askMask = d.calm.view askMask
    ∧ ∀ j, (unit (d.captureRead k first last).lanes j).capAgain = (unit d.lanes j).capAgain := by
  obtain ⟨view, again⟩ := credSend_leaves d k
  unfold Dev.captureRead
  split
  rename_i d1 q same
  rw [same] at view again
  extract_lets d2
  have asked : d2.calm.view askMask = d1.calm.view askMask ∧ ∀ j, (unit d2.lanes j).capAgain = (unit d1.lanes j).capAgain := by
    simp only [d2]
    split
    · refine ⟨?_, fun j => laneSend_keeps Lane.capAgain (by intros; rfl) ..⟩
      unfold Dev.laneSend
      split
      · exact (view_lane _ _ (by decide) _).trans (view_emit ..)
      · exact view_emit ..
    · exact ⟨rfl, fun _ => rfl⟩
  refine ⟨(view_arm ..).trans ((view_lane _ _ (by decide) _).trans (asked.1.trans view)), fun j => ?_⟩
  exact (lane_keeps Lane.capAgain (by intro l; rfl) ..).trans ((asked.2 j).trans (again j))

theorem captureAgain_repeats {d : Dev} {k : Fin 96} (hk : k.val < d.lanes.length) (hw : (unit d.lanes k).capWait ≠ [])
    (ha : ((unit d.lanes k).capAcked && (unit d.lanes k).capAgain) = false) :
    (unit (d.captureAgain k).lanes k).capAgain = ((unit d.lanes k).capAgain || (unit d.lanes k).capAcked)
      ∧ (d.captureAgain k).get F.LANE_MCNT.COUNT k 9 = (d.get F.LANE_MCNT.COUNT k 9 + 1) % 2 ^ 64 := by
  unfold Dev.captureAgain
  extract_lets l w
  have more : ¬ (w.isEmpty = true ∨ l.capAcked = true ∧ l.capAgain = true) := by
    rintro (none | both)
    · exact hw (List.isEmpty_iff.mp none)
    · simp [l, both.1, both.2] at ha
  rw [if_neg more]
  obtain ⟨view, again⟩ := captureRead_leaves ((d.inc F.LANE_MCNT.COUNT 1 k 9).lane k fun l => { l with capAgain := l.capAgain || l.capAcked }) k
    (w.foldl min 15) (w.foldl max 0)
  refine ⟨(again k).trans ?_, (get_of_view view (by decide) k.isLt).trans (mcnt_here d k 1)⟩
  rw [unit_lane _ _ (by simpa [Dev.inc] using hk), Dev.inc, Dev.set_lanes]

theorem captureRepeat_repeats {s : State} {k : Fin 96} (hl : s.dev.live = true) (hk : k.val < s.dev.lanes.length) {x : Nat}
    (hd : s.dev.due (.capRep k) = some x) (ha : s.dev.ahead x = true) (hw : (unit s.dev.lanes k).capWait ≠ [])
    (hg : ((unit s.dev.lanes k).capAcked && (unit s.dev.lanes k).capAgain) = false) :
    After (.captureRepeat k) s fun d => (unit d.lanes k).capAgain = ((unit s.dev.lanes k).capAgain || (unit s.dev.lanes k).capAcked)
      ∧ d.get F.LANE_MCNT.COUNT k 9 = (s.dev.get F.LANE_MCNT.COUNT k 9 + 1) % 2 ^ 64 := by
  refine after_fire ((exec_captureRepeat ..).trans (by rw [execCaptureRepeat])) hl hd ha ?_
  have lanes : ((s.dev.until x).disarm (.capRep k)).lanes = s.dev.lanes := by rw [Dev.disarm_lanes, Dev.until, elapse_lanes]
  have count : ((s.dev.until x).disarm (.capRep k)).get F.LANE_MCNT.COUNT k 9 = s.dev.get F.LANE_MCNT.COUNT k 9 :=
    (get_disarm ..).trans (until_get _ _ (by decide) k.isLt)
  rw [← lanes] at hw hg hk
  obtain ⟨again, counted⟩ := captureAgain_repeats hk hw hg
  rw [lanes_settle, again, lanes, settle_get _ (by decide) k.isLt, counted, count]
  exact ⟨rfl, rfl⟩

/-- Settles O31: a message without fault passes the receiver, and what it shows stands over what follows; a repeat is counted and sent again. -/
theorem laneMessages : Obligations.LaneMessages := fun _ _ hl hk =>
  ⟨fun _ hh hp h0 hb ht hn => sample_keeps hl hk hh hp h0 hb ht hn, fun _ hh hok h0 hb ht => status_shows hl hh hok h0 hb ht,
    fun _ hh hp hb => capturePage_takes hl hk hh hp hb, fun _ _ _ hh hb => credit_keeps hl hk hh hb,
    fun _ _ hd ha hb h3 => bypassRepeat_repeats hl hk hd ha hb h3, fun _ hd ha hw hg => captureRepeat_repeats hl hk hd ha hw hg⟩

end Sys2Proof.Machine
end

section
/-! SUPPORT. SLEEP by idleness, waking, the Keeper's watchdog and the boot (R60 to R63, R86 to R92). -/

namespace Sys2Proof.Machine

set_option Elab.async false

theorem exec_idleSleepTimeout (s : State) : exec .idleSleepTimeout s = execIdleSleepTimeout s := rfl
theorem exec_wakeSequence (s : State) : exec .wakeSequence s = execWakeSequence s := rfl
theorem exec_sleepRestartDelay (s : State) : exec .sleepRestartDelay s = execSleepRestartDelay s := rfl
theorem exec_keeperWdExpiry (core : Fin 2) (s : State) : exec (.keeperWdExpiry core) s = execKeeperWdExpiry core s := rfl
theorem exec_keeperWdReset (s : State) : exec .keeperWdReset s = execKeeperWdReset s := rfl
theorem exec_mainResetRelease (selfTest : Bool) (s : State) : exec (.mainResetRelease selfTest) s = execMainResetRelease selfTest s := rfl

theorem until_sleepBusy (d : Dev) (n : Nat) : (d.until n).sleepBusy = d.sleepBusy := by
  rw [Dev.sleepBusy, Dev.sleepBusy, until_bit d n (by decide), until_get d n (by decide), until_get d n (by decide), Dev.until, elapse_testEn]

theorem idleSleepTimeout_sleeps {s : State} (hl : s.dev.live = true) (hs : s.dev.st = QUIET) (hi : s.dev.get F.RSV_CTRL.IDLE_SLEEP ≠ 0)
    (hb : s.dev.sleepBusy = false)
    (ha : s.dev.ahead ((s.dev.due .idleSleep).getD (s.dev.rings.lastCmd + s.dev.get F.RSV_CTRL.IDLE_SLEEP * 6000000000)) = true) :
    After .idleSleepTimeout s fun d => d.pwr.asleep = true ∧ d.pwr.main = .off ∧ d.pwr.canStb = [true, true] := by
  refine after_main ((exec_idleSleepTimeout ..).trans (by rw [execIdleSleepTimeout])) hl ?_
  rw [if_neg (by simp [hs, hi])]
  dsimp only
  rw [wait_ahead ha, if_neg]
  · exact sleepEnter_sleeps ..
  · have idle : ((s.dev.until ((s.dev.due .idleSleep).getD (s.dev.rings.lastCmd + s.dev.get F.RSV_CTRL.IDLE_SLEEP * 6000000000))).disarm .idleSleep).sleepBusy
        = false := (until_sleepBusy ..).trans hb
    rw [idle]
    decide

/-- The word of RSV_WAKE_CAUSE is no window on a unit. -/
theorem windowWord_wakeCause (d : Dev) : d.windowWord 0x100014 = none := by
  simp [Dev.windowWord, F.OS_LINK.I_LINK]

/-- Every field of RSV_WAKE_CAUSE is apart from RSV_TIME.COUNT. -/
theorem wakeCause_apart : ((fieldsAt (aliasOff 0x100014)).all fun x => x.1.apart F.RSV_TIME.COUNT
    && (decide (x.2.1 < x.1.n1) && (decide (x.2.2.1 < x.1.n2) && decide (x.2.2.2.1 < x.1.n3)))) = true := by decide +kernel

theorem foldl_same {α β : Type} {f g : β → α → β} {l : List α} (h : ∀ x ∈ l, ∀ b, f b x = g b x) (b : β) : l.foldl f b = l.foldl g b := by
  induction l generalizing b with
  | nil => rfl
  | cons x l ih => rw [List.foldl_cons, List.foldl_cons, h x List.mem_cons_self, ih fun y hy => h y (List.mem_cons_of_mem _ hy)]

theorem anyCause_of_get {d e : Dev} (h : ∀ x ∈ fieldsAt (aliasOff 0x100014), e.get x.1 x.2.1 x.2.2.1 x.2.2.2.1 = d.get x.1 x.2.1 x.2.2.1 x.2.2.2.1) :
    e.anyCause = d.anyCause := by
  rw [Dev.anyCause, Dev.anyCause, Dev.readWord, Dev.readWord, windowWord_wakeCause, windowWord_wakeCause]
  dsimp only
  rw [foldl_same fun x hx b => by rw [h x hx]]

theorem anyCause_of_regs {d e : Dev} (h : e.regs = d.regs) : e.anyCause = d.anyCause := anyCause_of_get fun _ _ => get_of_regs h ..

theorem until_anyCause (d : Dev) (n : Nat) : (d.until n).anyCause = d.anyCause :=
  anyCause_of_get fun x hx => by
    have far := List.all_eq_true.mp wakeCause_apart x hx
    simp only [Bool.and_eq_true, decide_eq_true_eq] at far
    obtain ⟨apart, ha, hb, hc⟩ := far
    exact until_get d n apart ha hb hc

/-- R61: the main domain is held when the block wakes. -/
theorem wakeUp_held (d : Dev) : d.wakeUp.pwr.asleep = false ∧ d.wakeUp.pwr.main = .held ∧ d.wakeUp.pwr.cause = d.pwr.cause ||| 2 ^ 7 := ⟨rfl, rfl, rfl⟩

theorem wakeSequence_wakes {s : State} (hr : s.dev.pwr.reserveOn = true) (hs : s.dev.pwr.asleep = true) (hm : s.dev.pwr.main = .off)
    (hv : s.dev.bit F.RSV_STATUS.VIN_OK = true) (hc : s.dev.anyCause = true) (hn : s.dev.due .sleepRestart = none) :
    After .wakeSequence s fun d => d.pwr.asleep = false ∧ d.pwr.main = .held ∧ d.pwr.cause = s.dev.pwr.cause ||| 2 ^ 7 := by
  refine after_reserve ((exec_wakeSequence ..).trans (by rw [execWakeSequence])) hr ?_
  rw [if_pos (by simp [hs, hm, hv, hc, hn]), settle_dead (by rfl)]
  exact wakeUp_held _

theorem sleepRestartDelay_wakes {s : State} {x : Nat} (hr : s.dev.pwr.reserveOn = true) (hs : s.dev.pwr.asleep = true) (hm : s.dev.pwr.main = .off)
    (hv : s.dev.bit F.RSV_STATUS.VIN_OK = true) (hc : s.dev.anyCause = true) (hd : s.dev.due .sleepRestart = some x) (ha : s.dev.ahead x = true) :
    After .sleepRestartDelay s fun d => d.pwr.asleep = false ∧ d.pwr.main = .held ∧ d.pwr.cause = s.dev.pwr.cause ||| 2 ^ 7 := by
  refine after_reserve ((exec_sleepRestartDelay ..).trans (by rw [execSleepRestartDelay])) hr ?_
  have vin : ((s.dev.until x).disarm .sleepRestart).bit F.RSV_STATUS.VIN_OK = true := (bit_disarm ..).trans ((until_bit _ _ (by decide)).trans hv)
  have cause : ((s.dev.until x).disarm .sleepRestart).anyCause = true := (anyCause_of_regs (Dev.disarm_regs ..)).trans ((until_anyCause ..).trans hc)
  rw [if_pos (by simp [hs, hm]), fire_due hd ha, if_pos (by rw [vin, cause]; rfl), settle_dead (by rfl)]
  obtain ⟨r, same⟩ := elapse_pwr s.dev (x - s.dev.tick)
  refine ⟨rfl, rfl, ?_⟩
  rw [(wakeUp_held _).2.2, Dev.disarm_pwr, Dev.until, same]

theorem keeperWdExpiry_arms {s : State} {core : Fin 2} (hl : s.dev.live = true) (hn : s.dev.due .keeperReset = none) :
    After (.keeperWdExpiry core) s fun d => d.due .keeperReset = some (s.dev.tick + msT 10) := by
  refine after_main ((exec_keeperWdExpiry ..).trans (by rw [execKeeperWdExpiry])) hl ?_
  rw [if_neg (by simp [hn]), calm_due (calm_settle _) _ rfl, due_arm]
  have tick : ((s.dev.raise 2 (if s.dev.energy then 4 else 1) 0).anchorBegin).tick = s.dev.tick := by
    unfold Dev.anchorBegin
    extract_lets t prov
    exact (tick_of_calm (calm_anchored _)).trans (tick_of_calm (calm_raise ..))
  rw [tick]

theorem keeperWdReset_holds {s : State} {x : Nat} (hl : s.dev.live = true) (hd : s.dev.due .keeperReset = some x) (ha : s.dev.ahead x = true) :
    After .keeperWdReset s fun d => d.pwr.main = .held ∧ d.pwr.cause = s.dev.pwr.cause ||| 2 ^ 5 := by
  refine after_fire ((exec_keeperWdReset ..).trans (by rw [execKeeperWdReset])) hl hd ha ?_
  rw [settle_dead (holdMain_held_live ..)]
  refine ⟨rfl, (holdMain_cause _ (by decide) _).trans ?_⟩
  obtain ⟨r, same⟩ := elapse_pwr s.dev (x - s.dev.tick)
  rw [Dev.disarm_pwr, Dev.until, same]

/-! The boot -/

theorem mramSpare_lt {α : Type} (bytes : α → List Nat) (l : List (Option (MramSlot α))) : mramSpare bytes l < 2 := by
  unfold mramSpare
  split
  · omega
  · decide

/-- R91: what is written stands valid in the slot that was not in use. -/
theorem mramPut_spare {α : Type} (bytes : α → List Nat) {l : List (Option (MramSlot α))} (h : l.length = 2) (b : α) :
    ∃ y : MramSlot α, (mramPut bytes l b).getD (mramSpare bytes l) none = some y ∧ y.good bytes = true ∧ y.body = b := by
  refine ⟨⟨true, crc32 (bytes b), match mramUse bytes l with | some x => (x.seq + 1) % 2 ^ 32 | none => 0, b⟩, ?_, ?_, rfl⟩
  · rw [mramPut, List.getD_eq_getElem?_getD, List.getElem?_set_self (by rw [h]; exact mramSpare_lt ..)]
    rfl
  · simp [MramSlot.good]

/-- What the boot leaves for the host to see: the main domain, the records of the boots, the self-test and the causes. -/
def Dev.bootMark (d : Dev) : (Main × List (Option (MramSlot Nat))) × Nat × Nat :=
  ((d.pwr.main, d.mram.bootRecs), d.get F.GLB_BOOT.SELFTEST_OK, d.get F.GLB_RESET_CAUSE.CAUSE)

section
variable {d e : Dev}

theorem bootMark_of_calm (h : e.calm = d.calm) : e.bootMark = d.bootMark := by
  have mem : (e.pwr.main, e.mram.bootRecs) = (d.pwr.main, d.mram.bootRecs) := congrArg (fun x => (x.pwr.main, x.mram.bootRecs)) h
  rw [Dev.bootMark, Dev.bootMark, mem, get_of_calm h (by decide), get_of_calm h (by decide)]

theorem bootMark_same (hr : e.regs = d.regs) (hp : e.pwr.main = d.pwr.main) (hm : e.mram.bootRecs = d.mram.bootRecs) : e.bootMark = d.bootMark := by
  rw [Dev.bootMark, Dev.bootMark, hp, hm, get_of_regs hr, get_of_regs hr]

/-- The fields a boot writes beside. -/
def Fld.besideBoot (f : Fld) : Bool := F.GLB_BOOT.SELFTEST_OK.apart f && F.GLB_RESET_CAUSE.CAUSE.apart f

@[simp] theorem bootMark_set {f : Fld} (h : f.besideBoot = true) (d : Dev) (v a b c : Nat) : (d.set f v a b c).bootMark = d.bootMark := by
  obtain ⟨test, cause⟩ := Bool.and_eq_true_iff.mp h
  rw [Dev.bootMark, Dev.bootMark, Dev.get_set_apart d test _ (by decide) (by decide) (by decide), Dev.get_set_apart d cause _ (by decide) (by decide) (by decide),
    Dev.set_pwr, Dev.set_mram]

@[simp] theorem bootMark_setB {f : Fld} (h : f.besideBoot = true) (d : Dev) (v : Bool) (a b c : Nat) : (d.setB f v a b c).bootMark = d.bootMark := bootMark_set h ..
@[simp] theorem bootMark_setFlag {f : Fld} (h : f.besideBoot = true) (d : Dev) (i : Nat) (v : Bool) : (d.setFlag f i v).bootMark = d.bootMark := bootMark_set h ..
@[simp] theorem bootMark_arm (d : Dev) (t : Timer) (n : Nat) : (d.arm t n).bootMark = d.bootMark := rfl
@[simp] theorem bootMark_ite {p : Prop} [Decidable p] (x y : Dev) : (if p then x else y).bootMark = if p then x.bootMark else y.bootMark :=
  apply_ite Dev.bootMark p x y

theorem bootMark_each {α : Type} {g : Dev → α → Dev} (h : ∀ d x, (g d x).bootMark = d.bootMark) (l : List α) (d : Dev) : (d.each l g).bootMark = d.bootMark :=
  each_keeps Dev.bootMark h l d

@[simp] theorem bootMark_raise (d : Dev) (src cls obj : Nat) (data : List Nat) (i factor : Option Nat) :
    (d.raise src cls obj data i factor).bootMark = d.bootMark := bootMark_of_calm (calm_raise ..)

theorem bootMark_logResume (d : Dev) (found : Option Anchor) : (d.logResume found).bootMark = d.bootMark := by
  unfold Dev.logResume
  extract_lets boot start prov d1 d2 d3 old
  refine (bootMark_of_calm ((calm_anchor ..).trans (calm_log ..))).trans ?_
  have begun : d1.bootMark = d.bootMark := bootMark_same rfl rfl rfl
  simp (disch := decide) [d3, d2, begun]

/-- The registers of metering that are saved are none of the marks. -/
theorem metKey_beside : metKey (F.GLB_BOOT.SELFTEST_OK.key 0 0 0) = false ∧ metKey (F.GLB_RESET_CAUSE.CAUSE.key 0 0 0) = false := by decide

theorem regsBack_get (d : Dev) (l : List (Nat × Nat)) {f : Fld} {a b c : Nat} (h : ∀ x ∈ l, x.1 ≠ f.key a b c) :
    (d.regsBack l).get f a b c = d.get f a b c := by
  have words : ∀ r : List (Nat × Nat), regGet (l.foldl (fun r x => regPut r x.1 x.2) r) (f.key a b c) = regGet r (f.key a b c) := by
    induction l with
    | nil => exact fun _ => rfl
    | cons x l ih =>
      intro r
      rw [List.foldl_cons, ih fun y hy => h y (List.mem_cons_of_mem _ hy), regGet_regPut_ne _ _ (h x List.mem_cons_self).symm]
  rw [Dev.get, Dev.get, Dev.regsBack, words]

theorem bootMark_regsBack (d : Dev) (l : List (Nat × Nat)) : (d.regsBack (l.filter fun y => metKey y.1)).bootMark = d.bootMark := by
  have none : ∀ f : Fld, metKey (f.key 0 0 0) = false → ∀ x ∈ l.filter (fun y => metKey y.1), x.1 ≠ f.key 0 0 0 := fun f hf x hx same => by
    have saved := (List.mem_filter.mp hx).2
    rw [same, hf] at saved
    exact absurd saved (by decide)
  rw [Dev.bootMark, regsBack_get d _ (none _ metKey_beside.1), regsBack_get d _ (none _ metKey_beside.2)]
  rfl

theorem bootMark_saveRestore (d : Dev) : d.saveRestore.bootMark = d.bootMark := by
  unfold Dev.saveRestore
  split
  · split
    · rfl
    · exact bootMark_raise ..
  · rename_i x same
    extract_lets d1 d2 last met
    have back : d1.bootMark = d.bootMark := (bootMark_regsBack ..).trans (bootMark_setB (by decide) ..)
    have one : ∀ (e : Dev) (k : Nat) (g : MetEl → MetEl), (e.mel k g).bootMark = e.bootMark := fun _ _ _ => rfl
    have open_ : d2.bootMark = d.bootMark := (bootMark_each (fun e k => one e k _) _ _).trans back
    split
    · exact (bootMark_raise ..).trans open_
    · exact open_

theorem bootMark_latchBack (d : Dev) : d.latchBack.bootMark = d.bootMark := by
  unfold Dev.latchBack
  split
  · extract_lets d1 saf mram
    refine Eq.trans (b := (d1.set F.SAF_LATCH_TICK.TICK _).bootMark) rfl ?_
    simp (disch := decide) [d1]
  · rfl

theorem bootMark_sdoCheck (d : Dev) : d.sdoCheck.bootMark = d.bootMark := by
  unfold Dev.sdoCheck
  extract_lets d1 okC okD d2
  have shown : d1.bootMark = d.bootMark := bootMark_each (fun e n => by simp (disch := decide)) _ _
  have dropped : d2.bootMark = d.bootMark := (bootMark_of_calm (calm_sdoDrop ..)).trans shown
  split
  · exact (bootMark_of_calm (calm_loopSilence _)).trans dropped
  · exact dropped

theorem bootMark_safetyApply (d : Dev) (b : List Nat) : (d.safetyApply b false).bootMark = d.bootMark := by
  unfold Dev.safetyApply
  extract_lets d1 prov d2 d3
  have begun : d2.bootMark = d.bootMark := by
    refine Eq.trans (b := d1.bootMark) rfl ?_
    simp (disch := decide) [d1]
  have applied : d3.bootMark = d2.bootMark := bootMark_each (fun e n => by simp (disch := decide)) _ _
  exact (bootMark_sdoCheck _).trans (applied.trans begun)

theorem bootMark_safetyReload (d : Dev) : d.safetyReload.bootMark = d.bootMark := by
  unfold Dev.safetyReload
  split
  · exact (bootMark_set (by decide) ..).trans (bootMark_safetyApply ..)
  · exact (bootMark_set (by decide) ..).trans (bootMark_safetyApply ..)

end

/-- What of the boot's state the image in force leaves as it is. -/
theorem bootMark_imaged (d : Dev) (img : Option (Nat × FwImage)) : (match img with
    | some (i, x) => ((d.set F.GLB_BOOT.IMAGE i).setB F.GLB_BOOT.SIG_OK true).set F.GLB_FW_VERSION.VERSION x.version
    | none => d).bootMark = d.bootMark := by
  cases img with
  | none => rfl
  | some x => simp (disch := decide)

theorem bootMark_ntSet (d : Dev) (t : Int) : (d.ntSet t).bootMark = d.bootMark := rfl

theorem bootMark_startTick (d : Dev) : d.startTick.bootMark = d.bootMark := by
  unfold Dev.startTick
  extract_lets t0 t chr d1
  have begun : d1.bootMark = d.bootMark := rfl
  split
  · split
    · exact (bootMark_ntSet ..).trans begun
    · exact begun
  · exact begun

theorem bootMark_identify (d : Dev) : d.identify.bootMark = d.bootMark := by
  unfold Dev.identify
  extract_lets d1 d2
  simp (disch := decide) [d1, d2]

theorem bootMark_selfTest (d : Dev) (v : Bool) : (d.setB F.GLB_BOOT.SELFTEST_OK v).bootMark = (d.bootMark.1, b2n v, d.bootMark.2.2) := by
  have width : b2n v % 2 ^ F.GLB_BOOT.SELFTEST_OK.w = b2n v := by cases v <;> rfl
  rw [Dev.bootMark, Dev.bootMark, Dev.setB, Dev.get_set_here _ _ _ (by decide) (by decide) (by decide), width,
    Dev.get_set_there _ (by decide) _ (by decide) (by decide) (by decide), Dev.set_pwr, Dev.set_mram]

theorem bootMark_cause (d : Dev) (n : Nat) : (d.set F.GLB_RESET_CAUSE.CAUSE n).bootMark = (d.bootMark.1, d.bootMark.2.1, n % 256) := by
  rw [Dev.bootMark, Dev.bootMark, Dev.get_set_here _ _ _ (by decide) (by decide) (by decide),
    Dev.get_set_there _ (by decide) _ (by decide) (by decide) (by decide), Dev.set_pwr, Dev.set_mram]
  rfl

theorem boot_shows (d : Dev) (selfTest : Bool) : (d.boot selfTest).bootMark
    = ((.running, mramPut (leBytes 4) d.mram.bootRecs ((d.mram.boots + 1) % 2 ^ 32)), b2n selfTest, d.pwr.cause % 256) := by
  unfold Dev.boot
  extract_lets cause p0 m0 d1 found d2 d3 d4 img good d5 d6 floor p6 m6 d7 d8 d9 d10 d11 r11 s11 d12 d13 d14 d15 d16 p16 d17 p17
  -- before the self-test is shown
  have begun : d1.bootMark.1 = (.running, mramPut (leBytes 4) d.mram.bootRecs ((d.mram.boots + 1) % 2 ^ 32)) := rfl
  have named : d2.bootMark = d1.bootMark := (bootMark_identify _).trans (bootMark_startTick _)
  have known : d3.bootMark = (d1.bootMark.1, d1.bootMark.2.1, cause % 256) :=
    (bootMark_set (by decide) ..).trans ((bootMark_cause ..).trans (by rw [named]))
  have clocked : d4.bootMark = d3.bootMark := by simp (disch := decide) [d4]
  have imaged : d5.bootMark = d4.bootMark := bootMark_imaged ..
  have tested : d6.bootMark = (d1.bootMark.1, b2n selfTest, cause % 256) :=
    (bootMark_selfTest ..).trans (by rw [imaged, clocked, known])
  -- after it
  have floored : d8.bootMark = d6.bootMark := (bootMark_set (by decide) ..).trans rfl
  have resumed : d9.bootMark = d8.bootMark := (bootMark_arm ..).trans (bootMark_logResume ..)
  have unfound : d10.bootMark = d9.bootMark := by simp [d10]
  have restored : d11.bootMark = d10.bootMark := (bootMark_latchBack _).trans (bootMark_saveRestore _)
  have reloaded : d13.bootMark = d11.bootMark := (bootMark_safetyReload d12).trans rfl
  have watched : d14.bootMark = d13.bootMark := by
    simp only [d14]
    split <;> rfl
  have healthy : d15.bootMark = d14.bootMark := by simp (disch := decide) [d15]
  have raised : d16.bootMark = d15.bootMark := (bootMark_raise ..).trans (bootMark_set (by decide) ..)
  have noted : d17.bootMark = d16.bootMark := by
    simp only [d17]
    split
    · exact (bootMark_raise ..).trans rfl
    · rfl
  have all : d17.bootMark
      = ((.running, mramPut (leBytes 4) d.mram.bootRecs ((d.mram.boots + 1) % 2 ^ 32)), b2n selfTest, d.pwr.cause % 256) := by
    rw [noted, raised, healthy, watched, reloaded, restored, unfound, resumed, floored, tested, begun]
  split
  · exact (bootMark_of_calm (calm_record ..)).trans all
  · exact all

theorem mainResetRelease_boots {s : State} (selfTest : Bool) (hr : s.dev.pwr.reserveOn = true) (hm : s.dev.pwr.main = .held)
    (hv : s.dev.pwr.vinOk = true) :
    After (.mainResetRelease selfTest) s fun d => d.live = true
      ∧ (s.dev.mram.bootRecs.length = 2 → ∃ y : MramSlot Nat, d.mram.bootRecs.getD (mramSpare (leBytes 4) s.dev.mram.bootRecs) none = some y
        ∧ y.good (leBytes 4) = true ∧ y.body = (s.dev.mram.boots + 1) % 2 ^ 32)
      ∧ d.bit F.GLB_BOOT.SELFTEST_OK = selfTest ∧ d.get F.GLB_RESET_CAUSE.CAUSE = s.dev.pwr.cause % 256 := by
  refine after_reserve ((exec_mainResetRelease ..).trans (by rw [execMainResetRelease])) hr ?_
  rw [if_pos (by rw [hm, hv]; rfl)]
  have shown := (bootMark_of_calm (calm_settle _)).trans (boot_shows s.dev selfTest)
  rw [Dev.bootMark, Prod.mk.injEq, Prod.mk.injEq, Prod.mk.injEq] at shown
  obtain ⟨⟨main, recs⟩, test, cause⟩ := shown
  refine ⟨?_, fun two => ?_, ?_, cause⟩
  · rw [Dev.live, main]
    rfl
  · rw [recs]
    exact mramPut_spare (leBytes 4) two _
  · rw [Dev.bit, test]
    cases selfTest <;> rfl

/-- Settles O3: idleness and SLEEP, waking, the Keeper's watchdog and the boot. -/
theorem sleepAndBoot : Obligations.SleepAndBoot := by
  unfold Obligations.SleepAndBoot
  refine ⟨?_, ?_, ?_, ?_, ?_, ?_⟩
  · exact fun _ => idleSleepTimeout_sleeps
  · exact fun _ => wakeSequence_wakes
  · exact fun _ _ => sleepRestartDelay_wakes
  · exact fun _ _ => keeperWdExpiry_arms
  · exact fun _ _ => keeperWdReset_holds
  · exact fun _ selfTest => mainResetRelease_boots selfTest

end Sys2Proof.Machine
end

section
/-! SUPPORT. A beat whose start does not stay the present: a PPS measurement evaluated there steps network time, and a step that meets a set just applied
takes the tick after it (R128, R456, R468; note 58). -/

namespace Sys2Proof.Machine

set_option Elab.async false

open Sys2Proof.Tests

/-- Beat 50,000 begins with a PPS edge's offset of one second held for 50,000,000 ticks, two offsets beyond STEP_NS before it, and a set of this tick applied. -/
def steppedBeat : State := on fun d =>
  { d with tick := 51200000, chr := { d.chr with ppsHold := some 1000000000, ppsAt := some 0, steps := 2, setAt := some 51200000 } }

/-- The tick after a step. -/
def tickAfter : Host.Outcome State Fault Refusal → Nat
  | .next t => t.dev.tick
  | _ => 0

theorem steppedBeat_passes : tickAfter (exec (.beatStart ⟨[]⟩) steppedBeat) = 51200001 := by decide +kernel

/-- Refutes O13: the servo's step at the beat's start, on the tick at which a set applied, takes the next tick, so that time stands one tick past the beat's first. -/
theorem not_beatStart : ¬ Obligations.BeatStart := by
  intro starts
  obtain ⟨t, ht, -, -, first⟩ := starts steppedBeat ⟨[]⟩ (by decide +kernel) (by decide +kernel)
  have passed := steppedBeat_passes
  have beat : (if steppedBeat.dev.phase = 0 ∧ steppedBeat.dev.arr.beat ≠ some steppedBeat.dev.beat then steppedBeat.dev.beat else steppedBeat.dev.beat + 1)
      = 50000 := by decide +kernel
  rw [ht] at passed
  rw [beat] at first
  exact absurd (passed.symm.trans first) (by decide)

end Sys2Proof.Machine
end

section
/-! SUPPORT. The array's events (R247 to R279, R484). What the latch does after it has taken its beat leaves the beat and the latest delivery as they are. -/

namespace Sys2Proof.Machine

set_option Elab.async false

/-- The beat last latched and the latest delivery shown. -/
def Calm.latch (x : Calm) : Option Nat × Nat := (x.arr.latched, x.reg (F.GLB_TIMING.UP_LATEST.key 0 0 0))

theorem latch_of_calm {d e : Dev} (h : e.calm = d.calm) : e.calm.latch = d.calm.latch := congrArg Calm.latch h

section
variable {d e : Dev} (h : e.calm.latch = d.calm.latch)
include h

theorem latched_of_latch : e.arr.latched = d.arr.latched := congrArg (·.1) h

theorem upLatest_of_latch : e.get F.GLB_TIMING.UP_LATEST = d.get F.GLB_TIMING.UP_LATEST := by
  have same : calmRegs e.regs (F.GLB_TIMING.UP_LATEST.key 0 0 0) = calmRegs d.regs (F.GLB_TIMING.UP_LATEST.key 0 0 0) := congrArg (·.2) h
  have calm : calmKey (F.GLB_TIMING.UP_LATEST.key 0 0 0) = true := by decide +kernel
  rw [calmRegs, calmRegs, if_pos calm, if_pos calm] at same
  rw [Dev.get, Dev.get, same]

end

@[simp] theorem still_latched (x : Arr) : x.still.latched = x.latched := rfl

@[simp] theorem latch_mk (reg due tick lanes cells slots bank2 gates enc metCh metEl met ports chr hk pwr rings clk mram prov saf col arr os pwm
    groups phases) :
    (Calm.mk reg due tick lanes cells slots bank2 gates enc metCh metEl met ports chr hk pwr rings clk mram prov saf col arr os pwm groups phases).latch
      = (arr.latched, reg (F.GLB_TIMING.UP_LATEST.key 0 0 0)) := rfl

@[simp] theorem latch_eta (d : Dev) : (d.arr.latched, calmRegs d.regs (F.GLB_TIMING.UP_LATEST.key 0 0 0)) = d.calm.latch := rfl

section
variable (d : Dev)

@[simp] theorem upLatest_set {f : Fld} (h : F.GLB_TIMING.UP_LATEST.apart f = true) (v a b c : Nat) :
    calmRegs (d.set f v a b c).regs (F.GLB_TIMING.UP_LATEST.key 0 0 0) = calmRegs d.regs (F.GLB_TIMING.UP_LATEST.key 0 0 0) := by
  have same : (d.set f v a b c).get F.GLB_TIMING.UP_LATEST = d.get F.GLB_TIMING.UP_LATEST :=
    Dev.get_set_apart d h _ (by decide) (by decide) (by decide)
  rw [Dev.get, Dev.get, Nat.xor_left_inj] at same
  rw [calmRegs, calmRegs, same]

@[simp] theorem latch_set {f : Fld} (h : F.GLB_TIMING.UP_LATEST.apart f = true) (v a b c : Nat) : (d.set f v a b c).calm.latch = d.calm.latch := by
  simp only [Dev.calm, latch_mk, upLatest_set d h, Dev.set_arr]

section
variable {f : Fld} (h : F.GLB_TIMING.UP_LATEST.apart f = true)
include h

@[simp] theorem latch_setB (v : Bool) (a b c : Nat) : (d.setB f v a b c).calm.latch = d.calm.latch := latch_set d h ..
@[simp] theorem latch_setS (v : Int) (a b c : Nat) : (d.setS f v a b c).calm.latch = d.calm.latch := latch_set d h ..
@[simp] theorem latch_incSat (n a b c : Nat) : (d.incSat f n a b c).calm.latch = d.calm.latch := latch_set d h ..
@[simp] theorem latch_inc (n a b c : Nat) : (d.inc f n a b c).calm.latch = d.calm.latch := latch_set d h ..
@[simp] theorem latch_setFlag (i : Nat) (v : Bool) : (d.setFlag f i v).calm.latch = d.calm.latch := latch_set d h ..

end

@[simp] theorem latch_arm (t : Timer) (n : Nat) : (d.arm t n).calm.latch = d.calm.latch := rfl
@[simp] theorem latch_free : d.free.calm.latch = d.calm.latch := rfl
@[simp] theorem latch_lane (k : Nat) (g : Lane → Lane) : (d.lane k g).calm.latch = d.calm.latch := rfl
@[simp] theorem latch_cell (k : Nat) (g : Cell → Cell) : (d.cell k g).calm.latch = d.calm.latch := rfl
@[simp] theorem latch_slot (k : Nat) (g : Slot → Slot) : (d.slot k g).calm.latch = d.calm.latch := rfl

@[simp] theorem latch_ite {p : Prop} [Decidable p] (x y : Dev) :
    (if p then x else y).calm.latch = if p then x.calm.latch else y.calm.latch := apply_ite (fun d : Dev => d.calm.latch) p x y

@[simp] theorem latch_cond (b : Bool) (g : Dev → Dev) : (d.cond b g).calm.latch = if b then (g d).calm.latch else d.calm.latch := by cases b <;> rfl

omit d in
theorem latch_each {α : Type} {g : Dev → α → Dev} (h : ∀ d x, (g d x).calm.latch = d.calm.latch) (l : List α) (d : Dev) :
    (d.each l g).calm.latch = d.calm.latch :=
  each_keeps (fun d => d.calm.latch) h l d

theorem latch_foldl {α β : Type} {g : Dev × β → α → Dev × β} (h : ∀ x a, (g x a).1.calm.latch = x.1.calm.latch) (l : List α) (x : Dev × β) :
    (l.foldl g x).1.calm.latch = x.1.calm.latch := by
  induction l generalizing x with
  | nil => rfl
  | cons a l ih => exact (ih _).trans (h x a)

@[simp] theorem latch_closeBeat (s : Nat) (rows : List (Nat × List Int × List Rat × List Rat × List Rat)) : (d.closeBeat s rows).calm.latch = d.calm.latch := by
  unfold Dev.closeBeat
  split
  extract_lets arr d1 d2
  have cells : d2.calm.latch = d1.calm.latch := latch_each (fun d x => latch_cell ..) _ _
  exact (latch_setS _ (by decide) ..).trans cells

@[simp] theorem latch_disarm (t : Timer) : (d.disarm t).calm.latch = d.calm.latch := rfl
@[simp] theorem latch_freeze (ks : List Nat) (f : Bool) : (d.freeze ks f).calm.latch = d.calm.latch :=
  latch_each (fun d j => (latch_setB _ (by decide) ..).trans (latch_slot ..)) _ _

@[simp] theorem latch_limits (k : Nat) (lo hi : Rat) : (d.limits k lo hi).calm.latch = d.calm.latch := by
  simp (disch := decide) [Dev.limits]

@[simp] theorem latch_ownA (k : Nat) (q : Rat) : (d.ownA k q).calm.latch = d.calm.latch := by
  simp (disch := decide) [Dev.ownA]

@[simp] theorem latch_feedLink : d.feedLink.calm.latch = d.calm.latch := by
  simp (disch := decide) [Dev.feedLink]

@[simp] theorem latch_noLimits (k : Nat) : (d.noLimits k).calm.latch = d.calm.latch := by
  simp (disch := decide) [Dev.noLimits]

@[simp] theorem latch_ownIdx (k i : Nat) : (d.ownIdx k i).calm.latch = d.calm.latch := by
  simp (disch := decide) [Dev.ownIdx]

@[simp] theorem latch_feedString (s : Nat) : (d.feedString s).calm.latch = d.calm.latch := by
  unfold Dev.feedString
  extract_lets act kc ki cells mean d1 cost d2 lim d3 d4 ps
  have run : d1.calm.latch = d.calm.latch := by simp [d1]
  have capacitor : d2.calm.latch = d.calm.latch := by simp [d2, run]
  have current : d3.calm.latch = d.calm.latch := (latch_limits ..).trans capacitor
  have forward : d4.calm.latch = d.calm.latch := by simp (disch := decide) [d4, current]
  split
  · exact latch_freeze ..
  · refine (latch_each (fun d k => ?_) _ _).trans forward
    split
    · simp
    · rfl

@[simp] theorem latch_arcSample (type flags object time aux : Nat) (body : List Int) (len : Nat) : (d.arcSample type flags object time aux body len).calm.latch = d.calm.latch := by
  simp (disch := decide) [Dev.arcSample]

@[simp] theorem latch_cellRecord (k b : Nat) (x : Burst) (filled void : Bool) (w08 : Nat) : (d.cellRecord k b x filled void w08).calm.latch = d.calm.latch := by
  simp (disch := decide) [Dev.cellRecord]

@[simp] theorem latch_auxTake (k b : Nat) (x : Burst) : (d.auxTake k b x).calm.latch = d.calm.latch := by
  simp (disch := decide) [Dev.auxTake]

@[simp] theorem latch_estimates (k : Nat) (codes : List (List Int)) (ns : List Int) : (d.estimates k codes ns).calm.latch = d.calm.latch := by
  simp (disch := decide) [Dev.estimates]

@[simp] theorem latch_capGather (k : Nat) (inc : Int) (dv : Option Rat) : (d.capGather k inc dv).calm.latch = d.calm.latch := by
  simp (disch := decide) [Dev.capGather]

@[simp] theorem latch_bypassAsk (k action send apply : Nat) : (d.bypassAsk k action send apply).calm.latch = d.calm.latch := by
  simp (disch := decide) [Dev.bypassAsk]

@[simp] theorem latch_redundancy (s : Nat) (always : Bool) : (d.redundancy s always).calm.latch = d.calm.latch := by
  simp (disch := decide) [Dev.redundancy]

@[simp] theorem latch_carMove (k phi : Nat) : (d.carMove k phi).calm.latch = d.calm.latch := by
  simp only [Dev.carMove]
  split
  · simp (disch := decide)
  · exact latch_set _ (by decide) ..

@[simp] theorem latch_respreadString (s : Nat) : (d.respreadString s).calm.latch = d.calm.latch :=
  (latch_setB _ (by decide) ..).trans (latch_each (fun d j => latch_carMove ..) _ _)

@[simp] theorem latch_stringSync (s : Nat) : (d.stringSync s).calm.latch = d.calm.latch := by
  simp (disch := decide) [Dev.stringSync]

@[simp] theorem latch_setRole (k r : Nat) : (d.setRole k r).calm.latch = d.calm.latch := by
  simp (disch := decide) [Dev.setRole]

@[simp] theorem latch_bypassStart (k : Nat) : (d.bypassStart k).calm.latch = d.calm.latch := by
  simp (disch := decide) [Dev.bypassStart]

@[simp] theorem latch_cellFault (k : Nat) : (d.cellFault k).calm.latch = d.calm.latch := by
  simp (disch := decide) [Dev.cellFault]

@[simp] theorem latch_residual (k : Nat) (inc : Int) (dv : Rat) : (d.residual k inc dv).calm.latch = d.calm.latch := by
  simp (disch := decide) [Dev.residual]

@[simp] theorem latch_post (k : Nat) (codes : List (List Int)) (nh np : List Int) : (d.post k codes nh np).calm.latch = d.calm.latch := by
  unfold Dev.post
  extract_lets l dot inc a d1 dv d2 d3
  have posted : d1.calm.latch = d.calm.latch := by simp (disch := decide) [d1]
  have gathered : d2.calm.latch = d.calm.latch := (latch_capGather ..).trans posted
  have judged : d3.calm.latch = d.calm.latch := by
    simp only [d3]
    clear_value dv
    split
    · simp [gathered]
    · exact gathered
  exact (latch_cell ..).trans judged

@[simp] theorem latch_goodBurst (k b : Nat) (x : Burst) (m : StatusMsg) : (d.goodBurst k b x m).1.calm.latch = d.calm.latch := by
  unfold Dev.goodBurst
  extract_lets l filled codes fs d1 d2 d3 phys
  split
  extract_lets d4 d5
  have flags : d1.calm.latch = d.calm.latch := by simp (disch := decide) [d1]
  have counted : d2.calm.latch = d.calm.latch := by simp (disch := decide) [d2, flags]
  have taken : d4.calm.latch = d.calm.latch := by simp (disch := decide) [d4, d3, counted, Dev.auxTake]
  exact (latch_post ..).trans taken

@[simp] theorem latch_creditSync (k : Nat) : (d.creditSync k).calm.latch = d.calm.latch := by
  simp (disch := decide) [Dev.creditSync]

@[simp] theorem latch_slotFree (k n : Nat) : (d.slotFree k n).calm.latch = d.calm.latch := by
  simp (disch := decide) [Dev.slotFree]

@[simp] theorem latch_voidBurst (k : Nat) (up : Bool) (parts : Nat) : (d.voidBurst k up parts).calm.latch = d.calm.latch := by
  simp (disch := decide) [Dev.voidBurst]

@[simp] theorem latch_latchCell (k : Nat) : (d.latchCell k).1.calm.latch = d.calm.latch := by
  unfold Dev.latchCell
  extract_lets b l up x st n w08 r1 r2 d1 d2
  have burst : r1.1.calm.latch = d.calm.latch := by
    simp only [r1]
    split
    · split
      · exact latch_goodBurst ..
      · exact latch_voidBurst ..
    · exact latch_voidBurst ..
  have last : r2.1.calm.latch = d.calm.latch := by
    simp only [r2]
    split
    · exact (latch_lane ..).trans burst
    · exact burst
  have record : d1.calm.latch = d.calm.latch := (latch_cellRecord ..).trans last
  simp only [d2]
  split
  · exact (latch_slotFree ..).trans ((latch_lane ..).trans record)
  · exact record

@[simp] theorem latch_metShift : d.metShift.calm.latch = d.calm.latch := by
  simp (disch := decide) [Dev.metShift]

@[simp] theorem latch_preBeat (s : Nat) : (d.preBeat s).calm.latch = d.calm.latch := by
  simp (disch := decide) [Dev.preBeat]

@[simp] theorem latch_rampStep : d.rampStep.calm.latch = d.calm.latch := by
  unfold Dev.rampStep
  extract_lets r
  split
  · split <;> rfl
  · rfl

omit d in
/-- The beat in which the block stands at phase `p` next. -/
theorem until_phase_beat {d : Dev} (hl : d.live = true) {p : Nat} (hp : p < 1024) :
    (d.until (d.tick + (p + 1024 - d.phase) % 1024)).beat = if d.phase ≤ p then d.beat else d.beat + 1 := by
  rw [Dev.beat, until_tick _ _ hl, Dev.phase, Dev.beat]
  split <;> omega

omit d in
theorem arrayLatch_latches {d : Dev} (hl : d.live = true) (u : Nat) (hd : d.prov.decl ≠ none)
    (ha : d.ahead (d.tick + (140 + 1024 - d.phase) % 1024) = true) (hn : d.arr.latched ≠ some (if d.phase ≤ 140 then d.beat else d.beat + 1)) :
    (d.arrayLatch u).arr.latched = some (if d.phase ≤ 140 then d.beat else d.beat + 1)
      ∧ (d.arrayLatch u).get F.GLB_TIMING.UP_LATEST = u % 1024 := by
  have now := until_phase_beat hl (show 140 < 1024 by decide)
  unfold Dev.arrayLatch Dev.atPhase
  rw [wait_ahead ha]
  have decl : (d.until (d.tick + (140 + 1024 - d.phase) % 1024)).prov.decl = d.prov.decl := congrArg Prov.decl (elapse_prov ..)
  have arr : (d.until (d.tick + (140 + 1024 - d.phase) % 1024)).arr = d.arr := elapse_arr ..
  generalize d.until (d.tick + (140 + 1024 - d.phase) % 1024) = e at now decl arr
  rw [if_neg (by rw [now, decl, arr]; simp [hn, hd])]
  extract_lets arr1 d1 d2 gaps before
  have taken : d2.arr.latched = some (if d.phase ≤ 140 then d.beat else d.beat + 1) := (congrArg Arr.latched (Dev.set_arr ..)).trans (congrArg some now)
  have shown : d2.get F.GLB_TIMING.UP_LATEST = u % 1024 := Dev.get_set_here _ _ _ (by decide) (by decide) (by decide)
  split
  rename_i d3 rows same
  have cells : d3.calm.latch = d2.calm.latch := by
    refine (congrArg (fun x => x.1.calm.latch) same).symm.trans (latch_foldl (fun x k => ?_) _ _)
    exact latch_latchCell x.1 k
  extract_lets bad d4 d5 d6
  have counts : d4.calm.latch = d3.calm.latch := by simp [d4]
  have shift : d5.calm.latch = d4.calm.latch := (latch_metShift _).trans (latch_rampStep _)
  have all : d6.feedLink.calm.latch = d2.calm.latch := by
    refine (latch_feedLink _).trans ((latch_each (fun d s => ?_) _ _).trans (shift.trans (counts.trans cells)))
    simp
  exact ⟨(latched_of_latch all).trans taken, (upLatest_of_latch all).trans shown⟩

end

/-! The hand-over (R247) -/

theorem get_atPhase_escape {d : Dev} (hl : d.live = true) (miss : List (Nat × Nat)) (n : Nat) (hd : d.prov.decl ≠ none)
    (hn : d.arr.handed ≠ some (if d.phase ≤ 290 then d.beat else d.beat + 1)) (ha : d.ahead (d.tick + (290 + 1024 - d.phase) % 1024) = true) :
    (d.escape miss n).get F.GLB_TIMING.DN_LATEST = n % 1024 := by
  have now := until_phase_beat hl (show 290 < 1024 by decide)
  unfold Dev.escape Dev.atPhase
  rw [wait_ahead ha]
  have decl : (d.until (d.tick + (290 + 1024 - d.phase) % 1024)).prov.decl = d.prov.decl := congrArg Prov.decl (elapse_prov ..)
  have arr : (d.until (d.tick + (290 + 1024 - d.phase) % 1024)).arr = d.arr := elapse_arr ..
  generalize d.until (d.tick + (290 + 1024 - d.phase) % 1024) = e at now decl arr
  rw [if_neg (by rw [now, decl, arr]; simp [hn, hd])]
  exact Dev.get_set_here _ _ _ (by decide) (by decide) (by decide)

/-! The capacitance estimates (R275): what a period gathers for a cell -/

/-- The sums and the extremes of a cell's period. -/
def Cell.gathered (x : Cell) : Rat × Rat × Option Nat × Option Nat := (x.capA, x.capB, x.vLo, x.vHi)

/-- The gatherings of the cells. -/
def Dev.gathered (d : Dev) : List (Rat × Rat × Option Nat × Option Nat) := d.cells.map Cell.gathered

section
variable (d : Dev)

omit d in
theorem gathered_of_calm {d e : Dev} (h : e.calm = d.calm) : e.gathered = d.gathered := congrArg (fun x : Calm => x.cells.map Cell.gathered) h

@[simp] theorem gathered_set (f : Fld) (v a b c : Nat) : (d.set f v a b c).gathered = d.gathered := by rw [Dev.gathered, Dev.gathered, Dev.set_cells]
@[simp] theorem gathered_setB (f : Fld) (v : Bool) (a b c : Nat) : (d.setB f v a b c).gathered = d.gathered := gathered_set ..
@[simp] theorem gathered_arm (t : Timer) (n : Nat) : (d.arm t n).gathered = d.gathered := rfl
@[simp] theorem gathered_disarm (t : Timer) : (d.disarm t).gathered = d.gathered := rfl
@[simp] theorem gathered_lane (k : Nat) (g : Lane → Lane) : (d.lane k g).gathered = d.gathered := rfl
@[simp] theorem gathered_raise (src cls obj : Nat) (data : List Nat) (i factor : Option Nat) : (d.raise src cls obj data i factor).gathered = d.gathered :=
  gathered_of_calm (calm_raise ..)
@[simp] theorem gathered_condOn (s o : Nat) : (d.condOn s o).gathered = d.gathered := gathered_of_calm (calm_condOn ..)
@[simp] theorem gathered_condOff (s o : Nat) : (d.condOff s o).gathered = d.gathered := gathered_of_calm (calm_condOff ..)
@[simp] theorem gathered_ite {p : Prop} [Decidable p] (x y : Dev) : (if p then x else y).gathered = if p then x.gathered else y.gathered :=
  apply_ite Dev.gathered p x y

theorem gathered_cell (k : Nat) {g : Cell → Cell} (h : ∀ x, (g x).gathered = x.gathered) : (d.cell k g).gathered = d.gathered := by
  refine List.ext_getElem? fun i => ?_
  rw [Dev.gathered, Dev.gathered, Dev.cell, List.getElem?_map, List.getElem?_map, List.getElem?_modify]
  cases d.cells[i]? with
  | none => rfl
  | some x => by_cases hk : k = i <;> simp [hk, h]

@[simp] theorem gathered_carMove (k phi : Nat) : (d.carMove k phi).gathered = d.gathered := by
  have moved : ∀ (e : Dev) (a b : Nat), (e.cell k fun x => { x with move1 := x.move1 + a, move2 := x.move2 + b }).gathered = e.gathered :=
    fun e a b => gathered_cell e k (by intro x; rfl)
  have stopped : ∀ e : Dev, (e.cell k fun x => { x with car := none, move1 := 0, move2 := 0 }).gathered = e.gathered :=
    fun e => gathered_cell e k (by intro x; rfl)
  unfold Dev.carMove
  extract_lets x d1
  have phase : d1.gathered = d.gathered := gathered_set ..
  split
  · split
    · exact (moved ..).trans phase
    · exact (stopped _).trans phase
  · exact phase

@[simp] theorem gathered_respreadString (s : Nat) : (d.respreadString s).gathered = d.gathered :=
  (gathered_setB ..).trans (each_keeps Dev.gathered (fun _ _ => gathered_carMove ..) _ _)

@[simp] theorem gathered_setRole (k r : Nat) : (d.setRole k r).gathered = d.gathered := by
  have stopped : ∀ e : Dev, (e.cell k fun x => { x with car := none, move1 := 0, move2 := 0, running := false }).gathered = e.gathered :=
    fun e => gathered_cell e k (by intro x; rfl)
  simp [Dev.setRole, Dev.stringSync, stopped]

@[simp] theorem gathered_bypassStart (k : Nat) : (d.bypassStart k).gathered = d.gathered := by
  have left : ∀ e : Dev, (e.cell k fun x => { x with rejoin := 0 }).gathered = e.gathered := fun e => gathered_cell e k (by intro x; rfl)
  simp [Dev.bypassStart, Dev.bypassAsk, Dev.redundancy, left]

/-- A period's end clears what the period gathered for the cell. -/
theorem gathered_capEnd (k : Nat) : (d.capEnd k).gathered = d.gathered.modify k fun _ => (0, 0, none, none) := by
  unfold Dev.capEnd
  extract_lets x c nom q ok tenth d1 d2 e level was d3 d4 d5
  have estimate : d1.gathered = d.gathered := by simp [d1]
  have cleared : d2.gathered = d.gathered.modify k fun _ => (0, 0, none, none) := by
    rw [← estimate]
    refine List.ext_getElem? fun i => ?_
    rw [List.getElem?_modify, Dev.gathered, Dev.gathered, List.getElem?_map, List.getElem?_map]
    simp only [d2, Dev.cell, List.getElem?_modify]
    cases d1.cells[i]? with
    | none => rfl
    | some x => by_cases hk : k = i <;> simp [hk, Cell.gathered]
  have judged : d3.gathered = d2.gathered := gathered_cell _ _ (by intro x; rfl)
  have shown : d4.gathered = d3.gathered := by simp [d4]
  have raised : d5.gathered = d4.gathered := by simp [d5]
  simp [Dev.cellFault, raised, shown, judged, cleared]

end

theorem foldl_modify_const {α : Type} (z : α) {l : List Nat} {k : Nat} (h : k ∈ l) {e : List α} (hk : k < e.length) :
    (l.foldl (fun e k => e.modify k fun _ => z) e)[k]? = some z := by
  have stays : ∀ (l : List Nat) (e : List α), e[k]? = some z → (l.foldl (fun e k => e.modify k fun _ => z) e)[k]? = some z := by
    intro l
    induction l with
    | nil => exact fun _ h => h
    | cons j l ih =>
      refine fun e he => ih _ ?_
      rw [List.getElem?_modify, he]
      by_cases hj : j = k <;> simp [hj]
  induction l generalizing e with
  | nil => exact absurd h List.not_mem_nil
  | cons j l ih =>
    rcases List.mem_cons.mp h with rfl | h
    · exact stays l _ (by rw [List.getElem?_modify, List.getElem?_eq_getElem hk, Option.map_eq_map]; simp)
    · exact ih h (by simpa using hk)

theorem gathered_capEnds (l : List Nat) (d : Dev) :
    (d.each l fun d k => d.capEnd k).gathered = l.foldl (fun e k => e.modify k fun _ => (0, 0, none, none)) d.gathered := by
  induction l generalizing d with
  | nil => rfl
  | cons k l ih => exact (ih _).trans (by rw [gathered_capEnd, List.foldl_cons])

theorem capEnds_clear {l : List Nat} {d : Dev} {k : Nat} (h : k ∈ l) (hk : k < d.cells.length) :
    (unit (d.each l fun d k => d.capEnd k).cells k).gathered = (0, 0, none, none) := by
  have all := congrArg (·[k]?) (gathered_capEnds l d)
  rw [foldl_modify_const _ h (by rwa [Dev.gathered, List.length_map]), Dev.gathered, List.getElem?_map, Option.map_eq_some_iff] at all
  obtain ⟨x, found, same⟩ := all
  rw [unit, List.getD_eq_getElem?_getD, found]
  exact same

/-! The closure windows (R276) -/

theorem closeEnd_get (d : Dev) (s : Nat) {n : Nat} (hn : n < 6) :
    (d.closeEnd s).get F.ARR_STRING_CLOSE.D n = if s = n then 0 else d.get F.ARR_STRING_CLOSE.D n := by
  unfold Dev.closeEnd
  extract_lets D lim mag worst d1 d2 arr
  have raised : d1.get F.ARR_STRING_CLOSE.D n = d.get F.ARR_STRING_CLOSE.D n := by
    simp only [d1]
    split
    · exact get_of_calm (calm_raise ..) (by decide) hn
    · rfl
  have cells : d2.get F.ARR_STRING_CLOSE.D n = d1.get F.ARR_STRING_CLOSE.D n :=
    get_of_regs (each_keeps Dev.regs (fun d k => (rfl : (d.cell k fun x => { x with closeDiff := 0 }).regs = d.regs)) _ _) ..
  clear_value d2 d1
  split
  next same =>
    subst same
    exact Dev.get_set_here _ _ _ hn (by decide) (by decide)
  next other =>
    refine (Dev.get_set_ne _ _ _ _ (by simp only [Fld.key, Fld.off, F.ARR_STRING_CLOSE.D]; omega)).trans ((get_of_regs rfl ..).trans (cells.trans raised))

theorem closeEnds_get {l : List Nat} {n : Nat} (h : n ∈ l) (hn : n < 6) (d : Dev) :
    (d.each l fun d s => d.closeEnd s).get F.ARR_STRING_CLOSE.D n = 0 := by
  have stays : ∀ (l : List Nat) (d : Dev), d.get F.ARR_STRING_CLOSE.D n = 0 → (d.each l fun d s => d.closeEnd s).get F.ARR_STRING_CLOSE.D n = 0 := by
    intro l
    induction l with
    | nil => exact fun _ h => h
    | cons s l ih => exact fun d hd => ih _ (by rw [closeEnd_get _ _ hn, hd, ite_self])
  induction l generalizing d with
  | nil => exact absurd h List.not_mem_nil
  | cons s l ih =>
    rcases List.mem_cons.mp h with rfl | h
    · exact stays l _ (by rw [closeEnd_get _ _ hn, if_pos rfl])
    · exact ih h _

/-! The end of a stop (R279, R484) -/

theorem incidentEnd_stop (d : Dev) : d.incidentEnd.arr = d.arr ∧ d.incidentEnd.st = d.st := by
  unfold Dev.incidentEnd
  split
  · extract_lets d1 reg
    exact ⟨Dev.set_arr .., Dev.get_set_apart _ (by decide) _ (by decide) (by decide) (by decide)⟩
  · exact ⟨rfl, rfl⟩

theorem stopReached_stop (d : Dev) : d.stopReached.arr = d.arr ∧ d.stopReached.st = d.st := by
  unfold Dev.stopReached
  split
  · exact incidentEnd_stop d
  · exact ⟨rfl, rfl⟩

/-! The settling theorem -/

theorem exec_arrayLatch (i : SensedLink) (s : State) : exec (.arrayLatch i) s = execArrayLatch i s := rfl
theorem exec_escapement (miss : List (Nat × Nat)) (n : Nat) (s : State) : exec (.escapement miss n) s = execEscapement miss n s := rfl
theorem exec_bypassTimeout (k : Fin 96) (s : State) : exec (.bypassTimeout k) s = execBypassTimeout k s := rfl
theorem exec_retrainTimeout (k : Fin 96) (s : State) : exec (.retrainTimeout k) s = execRetrainTimeout k s := rfl
theorem exec_capEstimatePeriodEnd (s : State) : exec .capEstimatePeriodEnd s = execCapEstimatePeriodEnd s := rfl
theorem exec_closureWindowEnd (s : State) : exec .closureWindowEnd s = execClosureWindowEnd s := rfl
theorem exec_derateRiseStep (s : State) : exec .derateRiseStep s = execDerateRiseStep s := rfl
theorem exec_arrayZeroPower (s : State) : exec .arrayZeroPower s = execArrayZeroPower s := rfl

theorem until_cellRole (d : Dev) (n : Nat) {k : Nat} (hk : k < 96) : (d.until n).cellRole k = d.cellRole k := until_get d n (by decide) hk

theorem setRole_shows (d : Dev) {k r : Nat} (hk : k < 96) (hr : r < 8) (hn : d.cellRole k ≠ r) (h0 : d.cellRole k ≠ 1) (h1 : r ≠ 1) :
    (d.setRole k r).cellRole k = r := by
  unfold Dev.setRole
  extract_lets was d1 d2
  rw [if_neg hn, if_neg (by simp [was, h0, h1])]
  have role : d1.cellRole k = r := by
    simp only [d1, Dev.stringSync, Dev.cellRole]
    rw [Dev.get_set_there _ (by decide) _ hk (by decide) (by decide), Dev.get_set_there _ (by decide) _ hk (by decide) (by decide),
      Dev.get_set_there _ (by decide) _ hk (by decide) (by decide), Dev.get_set_here _ _ _ hk (by decide) (by decide)]
    exact Nat.mod_eq_of_lt hr
  simp only [d2]
  rwa [if_neg (by exact h0)]

/-- Settles O32: the array's latch and hand-over, the ends for its cells and strings, the rise of F and the end of a stop. -/
theorem arrayEvents : Obligations.ArrayEvents := by
  unfold Obligations.ArrayEvents
  refine ⟨?_, ?_, ?_, ?_, ?_, ?_, ?_, ?_⟩
  · intro s i hl hd b hn ha
    refine after_main ((exec_arrayLatch ..).trans (by rw [execArrayLatch])) hl ?_
    obtain ⟨latched, shown⟩ := arrayLatch_latches hl i.upLatest hd ha hn
    have calm := latch_of_calm (calm_settle (s.dev.arrayLatch i.upLatest))
    exact ⟨(latched_of_latch calm).trans latched, (upLatest_of_latch calm).trans shown⟩
  · intro s miss n hl hd hn ha
    refine after_main ((exec_escapement ..).trans (by rw [execEscapement])) hl ?_
    rw [settle_get _ (by decide)]
    exact get_atPhase_escape hl miss n hd hn ha
  · intro s k x hl hx ha hr
    refine leaves_fire ((exec_bypassTimeout ..).trans (by rw [execBypassTimeout])) hl hx ha ?_
    have role : ((s.dev.until x).disarm (.bypassMax k)).cellRole k = 2 := (until_cellRole _ _ k.isLt).trans hr
    rw [if_pos role, raise_srcCount _ _ _ _ _ _ _ (by decide) (by decide)]
    rw [get_disarm, until_get _ _ (by decide)]
  · intro s k x hl hx ha hr hu
    refine after_fire ((exec_retrainTimeout ..).trans (by rw [execRetrainTimeout])) hl hx ha ?_
    have role : ((s.dev.until x).disarm (.retrain k)).cellRole k = 0 := (until_cellRole _ _ k.isLt).trans hr
    have down : ((s.dev.until x).disarm (.retrain k)).laneUp k = false := by
      rw [← hu, Dev.laneUp, Dev.laneUp, Dev.laneSt, Dev.laneSt, get_disarm, until_get _ _ (by decide) k.isLt]
    rw [if_pos (by rw [role, down]; decide), Dev.cellRole, settle_get _ (by decide) k.isLt]
    have left : (((s.dev.until x).disarm (.retrain k)).cell k fun x => { x with rejoin := 0 }).cellRole k = 0 := (get_of_regs rfl ..).trans role
    exact setRole_shows _ k.isLt (by decide) (by rw [left]; decide) (by rw [left]; decide) (by decide)
  · intro s hl ha
    refine after_main ((exec_capEstimatePeriodEnd ..).trans (by rw [execCapEstimatePeriodEnd])) hl ?_
    dsimp only
    rw [wait_ahead ha]
    intro k hk hc
    have clear := capEnds_clear (d := s.dev.until ((s.dev.tick + 65536 * 1024 - 1) / (65536 * 1024) * (65536 * 1024))) hk (by rwa [Dev.until, elapse_cells])
    rw [Cell.gathered, Prod.mk.injEq, Prod.mk.injEq, Prod.mk.injEq] at clear
    have prov : (s.dev.until ((s.dev.tick + 65536 * 1024 - 1) / (65536 * 1024) * (65536 * 1024))).prov = s.dev.prov := elapse_prov ..
    rw [cells_of_held (held_of_calm (calm_settle _)), Dev.cellsDecl, Dev.dcl, prov]
    exact clear
  · intro s hl ha
    refine after_main ((exec_closureWindowEnd ..).trans (by rw [execClosureWindowEnd])) hl ?_
    dsimp only
    rw [wait_ahead ha]
    intro n hn h6
    have prov : (s.dev.until ((s.dev.tick + 256 * 1024 - 1) / (256 * 1024) * (256 * 1024))).prov = s.dev.prov := elapse_prov ..
    rw [settle_get _ (by decide) h6, Dev.dcl, prov]
    exact closeEnds_get (List.mem_range.mpr hn) h6 _
  · intro s hl hm ha
    refine after_main ((exec_derateRiseStep ..).trans (by rw [execDerateRiseStep])) hl ?_
    rw [if_pos hm, wait_ahead ha, settle_get _ (by decide), Dev.get_set_here _ _ _ (by decide) (by decide) (by decide), until_get _ _ (by decide)]
    rfl
  · intro s hl hs hz hp
    refine leaves_main ((exec_arrayZeroPower ..).trans (by rw [execArrayZeroPower])) hl ?_
    rw [if_pos ⟨hs, hz, by rw [hp]; rfl⟩]
    obtain ⟨arr, st⟩ := stopReached_stop { s.dev with arr := { s.dev.arr with zeroPower := true } }
    exact ⟨congrArg Arr.zeroPower arr, st.trans hs⟩

end Sys2Proof.Machine
end

section
/-! SUPPORT. A START that does not stay in PRECHARGE: a forced channel that PRECHARGE releases turns on and trips (R104, R378, R386). -/

namespace Sys2Proof.Machine

set_option Elab.async false

open Sys2Proof.Tests

/-! The end of a step keeps the device state where it raises no event: the log is below none of its tiers, promise 3 stands and the LPDDR5 is awake -/

theorem tier_far : reactFields.all F.VP_LOG_STATUS.LOW.apart = true ∧ reactFields.all F.VP_LOG_STATUS.FULL.apart = true := by decide +kernel

/-- A tier that is shown below is shown below after an event. -/
theorem tier_raise (d : Dev) (src cls : Nat) : (d.raise src cls 0).bit F.VP_LOG_STATUS.LOW = d.bit F.VP_LOG_STATUS.LOW
    ∧ (d.raise src cls 0).bit F.VP_LOG_STATUS.FULL = d.bit F.VP_LOG_STATUS.FULL :=
  ⟨Dev.bit_of_get (raise_leaves _ _ _ _ _ _ _ tier_far.1 (by decide) (by decide) (by decide) (by decide)),
    Dev.bit_of_get (raise_leaves _ _ _ _ _ _ _ tier_far.2 (by decide) (by decide) (by decide) (by decide))⟩

theorem logTiers_core {d : Dev} (low : d.logTiers.bit F.VP_LOG_STATUS.LOW = false) (full : d.logTiers.bit F.VP_LOG_STATUS.FULL = false) :
    d.logTiers.core = d.core := by
  unfold Dev.logTiers at *
  extract_lets d1 d2 at *
  have shown : d1.bit F.VP_LOG_STATUS.LOW = false := by
    have second : d2.bit F.VP_LOG_STATUS.LOW = d1.bit F.VP_LOG_STATUS.LOW := Dev.bit_setB_apart _ (by decide) _ (by decide) (by decide) (by decide)
    rw [← second, ← low]
    split
    · split
      · rfl
      · exact ((tier_raise ..).1.trans (Dev.bit_setB_apart _ (by decide) _ (by decide) (by decide) (by decide))).symm
    · exact (Dev.bit_setB_apart _ (by decide) _ (by decide) (by decide) (by decide)).symm
  have first : d1.core = d.core := by
    simp only [d1] at shown ⊢
    split at shown
    · split at shown
      · rename_i below was
        rw [was] at shown
        exact absurd shown (by decide)
      · rw [(tier_raise ..).1, Dev.bit_setB_same _ (by decide) _ (by decide) (by decide) (by decide)] at shown
        exact absurd shown (by decide)
    · rename_i above
      rw [if_neg above]
      exact core_setB (by decide) ..
  have held : d2.core = d.core := (core_setB (by decide) ..).trans first
  split at full
  · split at full
    · rename_i below was
      rw [was] at full
      exact absurd full (by decide)
    · rw [(tier_raise ..).2, Dev.bit_setB_same _ (by decide) _ (by decide) (by decide) (by decide)] at full
      exact absurd full (by decide)
  · rename_i above
    rw [if_neg above]
    exact (core_setB (by decide) ..).trans held

theorem loanCheck_core {d : Dev} (h : (193, 3) ∉ d.loanCheck.reg.active) : d.loanCheck.core = d.core := by
  unfold Dev.loanCheck at *
  extract_lets gap n at *
  split at h
  · rename_i none
    rw [if_pos none]
    exact core_condOff ..
  · split at h
    · rename_i some standing
      rw [if_neg some, if_pos standing]
    · rw [active_conserve] at h
      exact absurd (mem_active_condOn ..) h

theorem tier_loanCheck (d : Dev) : d.loanCheck.bit F.VP_LOG_STATUS.LOW = d.bit F.VP_LOG_STATUS.LOW
    ∧ d.loanCheck.bit F.VP_LOG_STATUS.FULL = d.bit F.VP_LOG_STATUS.FULL := by
  have read : ∀ {f : Fld}, reactFields.all f.apart = true → f.apart F.REG_SRC_COUNT.COUNT = true → 0 < f.n1 → 0 < f.n2 → 0 < f.n3 →
      d.loanCheck.get f = d.get f := fun hf hs ha hb hc => by
    unfold Dev.loanCheck
    extract_lets gap n
    split
    · exact get_of_stance hf ha hb hc (stance_condOff ..)
    · split
      · rfl
      · exact (conserve_get _ hf ha hb hc _ _ hs).trans (get_of_stance hf ha hb hc ((stance_condOn ..).trans rfl))
  exact ⟨Dev.bit_of_get (read tier_far.1 (by decide) (by decide) (by decide) (by decide)),
    Dev.bit_of_get (read tier_far.2 (by decide) (by decide) (by decide) (by decide))⟩

theorem core_arrMode (d : Dev) : d.arrMode.core = d.core := core_set (by decide) ..

theorem core_healthOf (d : Dev) (p : Nat) : (d.healthOf p).core = d.core := by
  unfold Dev.healthOf
  split
  · split
    · refine Eq.trans (b := (d.setB (if p = 0 then F.SAF_STATE.CURATOR_OK else F.SAF_STATE.DETENT_OK) true).core) rfl ?_
      split <;> exact core_setB (by decide) ..
    · rfl
  · rfl

theorem settle_core_of_quiet {d : Dev} (low : d.settle.bit F.VP_LOG_STATUS.LOW = false) (full : d.settle.bit F.VP_LOG_STATUS.FULL = false)
    (loans : (193, 3) ∉ d.settle.reg.active) (awake : d.settle.clk.lpddrAwake = true) : d.settle.core = d.core := by
  have ram : d.clk.lpddrAwake = true := (awake_of_calm (calm_settle d)).1.symm.trans awake
  unfold Dev.settle at *
  split at low
  next live =>
    rw [if_pos live] at full loans ⊢
    -- the last two write no tier and end no condition
    have tail : ∀ e : Dev, e.errSync.arrMode.stance = e.stance := fun e => (stance_set (by decide) ..).trans (stance_errSync e)
    rw [Dev.bit_of_get (get_of_stance tier_far.1 (by decide) (by decide) (by decide) (tail _)), (tier_loanCheck _).1] at low
    rw [Dev.bit_of_get (get_of_stance tier_far.2 (by decide) (by decide) (by decide) (tail _)), (tier_loanCheck _).2] at full
    rw [Dev.arrMode, Dev.set_reg, active_errSync] at loans
    rw [core_arrMode, core_errSync, loanCheck_core loans]
    have kept : (((d.anchorFlush.healthOf 0).healthOf 1).logTiers).clk.lpddrAwake = true := by
      rw [← ram]
      exact (awake_of_calm ((calm_logTiers _).trans ((calm_healthOf ..).trans ((calm_healthOf ..).trans (calm_anchorFlush _))))).1
    have still : (((d.anchorFlush.healthOf 0).healthOf 1).logTiers).lpddrAsk = ((d.anchorFlush.healthOf 0).healthOf 1).logTiers := by
      unfold Dev.lpddrAsk
      rw [kept]
      rfl
    rw [still] at low full ⊢
    rw [logTiers_core low full, core_healthOf, core_healthOf]
    exact core_of_st (get_of_sight (books_anchorFlush d).1 (by decide +kernel)) (congrArg Calm.slots (calm_anchorFlush d))
  next dead => rw [if_neg dead]

/-! The START -/

/-- A START in LINKED with its loan, PLL-S locked, and channel 24, a chopper that is wanted on, forced off while its gate shows an active trip input. -/
def trippedStart : State := on fun d =>
  let e := ((d.set F.GLB_STATE.DEVICE LINKED).setB F.PLL_STATUS.LOCKED true 2).setB F.GLB_CAT.SAFETY_MATCH true
  let e := ((e.set F.LOAN_OP_WAIT.WAIT_MS 1 8).set F.PW_FORCE.FORCE 2 24).set F.PW_CFG.FUNC 2 24
  let e := (e.setB F.OS_STATUS.BRAKE_ON true).setB F.GD_STATUS.T_ACTIVE true (e.gateOf 24)
  { e with arr := { e.arr with starting := true }, loans := [⟨4, 0, 0⟩], clk := { e.clk with lpddrAwake := true } }

/-- The device state after a step, and whether its end raised no event. -/
def stAfter : Host.Outcome State Fault Refusal → Nat × Bool
  | .next t => (t.dev.st, !t.dev.bit F.VP_LOG_STATUS.LOW && (!t.dev.bit F.VP_LOG_STATUS.FULL && (!t.dev.reg.active.contains (193, 3) && t.dev.clk.lpddrAwake)))
  | _ => (0, false)

theorem trippedStart_stays : stAfter (exec .enterPrecharge trippedStart) = (LINKED, true) := by decide +kernel

/-- Refutes O34: the entry to PRECHARGE releases a forced channel, whose gate trips at once, and the trip's reaction takes the block back to LINKED. -/
theorem not_bringUpEvents : ¬ Obligations.BringUpEvents := by
  rintro ⟨-, enters, -⟩
  obtain ⟨e, he, entered, -⟩ := enters trippedStart (by decide +kernel) (by decide +kernel) (by decide +kernel) (by decide +kernel) (by decide +kernel)
    (by decide +kernel) (by decide +kernel) (by decide +kernel) (by decide +kernel)
  have stays := trippedStart_stays
  rw [he] at stays
  simp only [stAfter, Prod.mk.injEq, Bool.and_eq_true, Bool.not_eq_true', List.contains_eq_mem, decide_eq_false_iff_not] at stays
  obtain ⟨linked, low, full, loans, awake⟩ := stays
  have settled : e.settle.st = e.st := st_of_core (settle_core_of_quiet low full loans awake)
  exact absurd (linked.symm.trans (settled.trans entered)) (by decide)

end Sys2Proof.Machine
end

section
/-! SUPPORT. A slot's release (R289, R295, R298, R300). -/

namespace Sys2Proof.Machine

set_option Elab.async false

theorem exec_slotRelease (k : Fin 1024) (late : Option Nat) (s : State) : exec (.slotRelease k late) s = execSlotRelease k late s := rfl

/-! What the evaluation reads: the words of the slots, which stand above 2^30, the slots beyond their registers, and the Catalogue -/

/-- Two blocks with the same words of slots, the same slots and the same Catalogue. -/
def SameSlots (d e : Dev) : Prop := e.prov = d.prov ∧ e.slots = d.slots ∧ ∀ k, 2 ^ 30 ≤ k → regGet e.regs k = regGet d.regs k

section
variable {d e : Dev} (h : SameSlots d e)
include h

theorem SameSlots.get {f : Fld} (hf : 2 ^ 24 ≤ f.base) (a b c : Nat) : e.get f a b c = d.get f a b c := by
  rw [Dev.get, Dev.get, h.2.2]
  simp only [Fld.key, Fld.off]
  omega

theorem SameSlots.bit {f : Fld} (hf : 2 ^ 24 ≤ f.base) (a b c : Nat) : e.bit f a b c = d.bit f a b c := Dev.bit_of_get (h.get hf a b c)

theorem SameSlots.owner (k : Nat) : e.owner k = d.owner k := h.get (by decide) ..

theorem SameSlots.slotSrcs (k : Nat) : e.slotSrcs k = d.slotSrcs k := by
  rw [Dev.slotSrcs, Dev.slotSrcs, h.owner, h.get (by decide), h.get (by decide), h.get (by decide), h.get (by decide)]

theorem SameSlots.slotPreds (k : Nat) : e.slotPreds k = d.slotPreds k := by rw [Dev.slotPreds, Dev.slotPreds, Dev.links, Dev.links, h.1]

theorem SameSlots.colOnly (n : Nat) (ks seen : List Nat) : e.colOnly n ks seen = d.colOnly n ks seen := by
  induction n generalizing ks seen with
  | zero => rfl
  | succ n ih =>
    cases ks with
    | nil => rfl
    | cons k ks => rw [Dev.colOnly, Dev.colOnly, ih, ih, ih, h.owner, h.slotSrcs, h.slotPreds]

theorem SameSlots.slotRuns (hp : e.pwr.saveWin = d.pwr.saveWin) (hs : e.st = d.st) (k : Nat) : e.slotRuns k = d.slotRuns k := by
  have energy : e.energy = d.energy := by rw [Dev.energy, Dev.energy, hs]
  rw [Dev.slotRuns, Dev.slotRuns, hp, energy, hs, h.colOnly]

theorem SameSlots.slotLo (k : Nat) : e.slotLo k = d.slotLo k := by rw [Dev.slotLo, Dev.slotLo, h.2.1, h.get (by decide)]
theorem SameSlots.slotHi (k : Nat) : e.slotHi k = d.slotHi k := by rw [Dev.slotHi, Dev.slotHi, h.2.1, h.get (by decide)]

end

theorem sameSlots_elapse (d : Dev) (n : Nat) : SameSlots d (d.elapse n) := by
  refine ⟨elapse_prov .., elapse_slots .., fun k hk => ?_⟩
  have far : F.RSV_TIME.COUNT.key 0 0 0 < 2 ^ 30 := by decide
  have put : ∀ (e : Dev) (v : Nat), regGet (e.inc F.RSV_TIME.COUNT v).regs k = regGet e.regs k := fun e v => by
    unfold Dev.inc Dev.set
    split
    · exact regGet_regPut_ne _ _ (by omega)
    · rfl
  unfold Dev.elapse
  extract_lets a p d1 t1
  have counted : regGet d1.regs k = regGet d.regs k := by
    simp only [d1]
    split
    · exact put ..
    · rfl
  split <;> exact counted

theorem sameSlots_trans {d e f : Dev} (h : SameSlots d e) (g : SameSlots e f) : SameSlots d f :=
  ⟨g.1.trans h.1, g.2.1.trans h.2.1, fun k hk => (g.2.2 k hk).trans (h.2.2 k hk)⟩

/-! The evaluation of a slot, with its status shown before -/

/-- A block with the FROZEN of a slot shown. -/
def Dev.frozenShown (d : Dev) (k : Nat) (v : Bool) : Dev := d.setB F.SLOT_STATUS.FROZEN v k

theorem frozenShown_get (d : Dev) (k : Nat) (v : Bool) {f : Fld} (hf : f.lo < 25) (a b c : Nat) : (d.frozenShown k v).get f a b c = d.get f a b c :=
  Dev.get_set_ne _ _ _ _ (by simp only [Fld.key, F.SLOT_STATUS.FROZEN]; omega)

theorem frozenShown_bit (d : Dev) (k : Nat) (v : Bool) {f : Fld} (hf : f.lo < 25) (a b c : Nat) : (d.frozenShown k v).bit f a b c = d.bit f a b c :=
  Dev.bit_of_get (frozenShown_get d k v hf a b c)

theorem frozenShown_slots (d : Dev) (k : Nat) (v : Bool) : (d.frozenShown k v).slots = d.slots := Dev.set_slots ..

section
variable {d e : Dev} (h : ∀ {f : Fld}, 2 ^ 24 ≤ f.base → f.lo < 25 → ∀ a b c, e.get f a b c = d.get f a b c) (hs : e.slots = d.slots)
include h hs

theorem slotSrc_congr (code idx const : Nat) : e.slotSrc code idx const = d.slotSrc code idx const := by
  rw [Dev.slotSrc, Dev.slotSrc, hs, h (by decide) (by decide)]

omit hs in
theorem slotAcc_congr (k x : Nat) : e.slotAcc k x = d.slotAcc k x := by
  have three : e.bit F.SLOT_CFG.ORDER k = d.bit F.SLOT_CFG.ORDER k := Dev.bit_of_get (h (by decide) (by decide) ..)
  have coefficients : ∀ j, e.get F.SLOT_B.B k j = d.get F.SLOT_B.B k j ∧ e.get F.SLOT_A.A k j = d.get F.SLOT_A.A k j
      ∧ e.get F.SLOT_E.E k j = d.get F.SLOT_E.E k j ∧ e.get F.SLOT_Y.Y k j = d.get F.SLOT_Y.Y k j := fun j =>
    ⟨h (by decide) (by decide) .., h (by decide) (by decide) .., h (by decide) (by decide) .., h (by decide) (by decide) ..⟩
  simp only [Dev.slotAcc, three, coefficients]

theorem slotLo_congr (k : Nat) : e.slotLo k = d.slotLo k := by rw [Dev.slotLo, Dev.slotLo, hs, h (by decide) (by decide)]
theorem slotHi_congr (k : Nat) : e.slotHi k = d.slotHi k := by rw [Dev.slotHi, Dev.slotHi, hs, h (by decide) (by decide)]

end

/-- The error a free slot regulates on. -/
def Dev.slotDiff (d : Dev) (k : Nat) : Nat :=
  fSubt (d.slotSrc (d.get F.SLOT_SRC.SRC_A k) (d.get F.SLOT_SRC.IDX_A k) (d.get F.SLOT_REF.REF k))
    (d.slotSrc (d.get F.SLOT_SRC.SRC_B k) (d.get F.SLOT_SRC.IDX_B k) 0)

theorem slotLimits_condOff (d : Dev) {k : Nat} (hk : k < 1024) (src obj : Nat) :
    (d.condOff src obj).slotLo k = d.slotLo k ∧ (d.condOff src obj).slotHi k = d.slotHi k := by
  have calm := calm_condOff d src obj
  have slots : (d.condOff src obj).slots = d.slots := congrArg Calm.slots calm
  constructor
  · rw [Dev.slotLo, Dev.slotLo, slots, get_of_calm calm (by decide) hk]
  · rw [Dev.slotHi, Dev.slotHi, slots, get_of_calm calm (by decide) hk]

/-- R295: a free slot without members, feed-forward and anti-windup hold gives the difference equation's sum within its limits. -/
theorem slotEval_free (d : Dev) {k : Nat} (hk : k < 1024) (ho : d.owner k = 0) (hm : d.get F.SLOT_CFG.MEMBERS k = 0) (hf : d.bit F.SLOT_CFG.FF_EN k = false)
    (hx : fBad (d.slotDiff k) = false) (he : fBad (fMul (d.get F.SLOT_K_IN.K_IN k) (d.slotDiff k)) = false)
    (ha : fBad (d.slotAcc k (fMul (d.get F.SLOT_K_IN.K_IN k) (d.slotDiff k))) = false)
    (hy : fBad (fAdd (d.slotAcc k (fMul (d.get F.SLOT_K_IN.K_IN k) (d.slotDiff k))) 0) = false) :
    (d.slotEval k).get F.SLOT_Y_OUT.Y_LIM k
      = fMin (fMax (fAdd (d.slotAcc k (fMul (d.get F.SLOT_K_IN.K_IN k) (d.slotDiff k))) 0) (d.slotLo k)) (d.slotHi k) % 2 ^ 32 := by
  have free : ¬ d.owner k ≠ 0 := fun h => h ho
  have alone : d.members k = [] := by rw [Dev.members, hm]; rfl
  obtain ⟨lo, hi⟩ := slotLimits_condOff d hk 96 k
  unfold Dev.slotEval
  extract_lets own a b x e ms acc accs yc ff yt d1 lo' hi' y
  have diff : x = d.slotDiff k := by simp only [x, a, b, own, if_neg free]; rfl
  have scaled : e = fMul (d.get F.SLOT_K_IN.K_IN k) (d.slotDiff k) := by rw [← diff]
  have sum : acc = d.slotAcc k (fMul (d.get F.SLOT_K_IN.K_IN k) (d.slotDiff k)) := by rw [← scaled]
  have none : accs = [] := by simp only [accs, ms, alone, List.map_nil]
  have total : yc = acc := by simp only [yc, none, List.foldl_nil]
  have unaided : ff = 0 := by simp only [ff, hf, Bool.false_eq_true, if_false]
  have out : yt = fAdd acc 0 := by simp only [yt, total, unaided]
  rw [← sum] at ha hy ⊢
  rw [if_neg (by rw [diff, hx]; decide), if_neg (by rw [scaled, he]; decide), if_neg (by rw [ha, none]; decide), if_neg (by rw [total, ha]; decide),
    if_neg (by rw [unaided]; decide), if_neg (by rw [out, hy]; decide)]
  rw [Dev.get_set_here _ _ _ hk (by decide) (by decide)]
  simp only [y, lo', hi', d1, lo, hi, out]
  rfl

/-! What follows the evaluation feeds other slots -/

theorem yLim_osRelease (d : Dev) {j k : Nat} (hj : j < 1024) : (d.osRelease k).get F.SLOT_Y_OUT.Y_LIM j = d.get F.SLOT_Y_OUT.Y_LIM j
    ∧ (d.osRelease k).get F.SLOT_STATUS.FROZEN j = d.get F.SLOT_STATUS.FROZEN j ∧ (d.osRelease k).get F.LE_OVERRUN.COUNT = d.get F.LE_OVERRUN.COUNT :=
  ⟨each_keeps (fun d : Dev => d.get F.SLOT_Y_OUT.Y_LIM j) (fun d g => Dev.get_set_apart d (by decide) _ hj (by decide) (by decide)) _ _,
    each_keeps (fun d : Dev => d.get F.SLOT_STATUS.FROZEN j) (fun d g => Dev.get_set_apart d (by decide) _ hj (by decide) (by decide)) _ _,
    each_keeps (fun d : Dev => d.get F.LE_OVERRUN.COUNT) (fun d g => Dev.get_set_apart d (by decide) _ (by decide) (by decide) (by decide)) _ _⟩

theorem yLim_colRelease (d : Dev) {j k : Nat} (hj : j < 1024) : (d.colRelease k).get F.SLOT_Y_OUT.Y_LIM j = d.get F.SLOT_Y_OUT.Y_LIM j
    ∧ (d.colRelease k).get F.SLOT_STATUS.FROZEN j = d.get F.SLOT_STATUS.FROZEN j ∧ (d.colRelease k).get F.LE_OVERRUN.COUNT = d.get F.LE_OVERRUN.COUNT := by
  unfold Dev.colRelease
  split
  · exact ⟨rfl, rfl, rfl⟩
  · exact ⟨(get_of_regs rfl ..).trans (Dev.get_set_apart d (by decide) _ hj (by decide) (by decide)),
      (get_of_regs rfl ..).trans (Dev.get_set_apart d (by decide) _ hj (by decide) (by decide)),
      (get_of_regs rfl ..).trans (Dev.get_set_apart d (by decide) _ (by decide) (by decide) (by decide))⟩

/-- What the release of a slot leaves of its output, its FROZEN and the overruns is what its own part leaves. -/
theorem released_get (d : Dev) {k : Nat} (hk : k < 1024) :
    ((d.osRelease k).colRelease k).settle.get F.SLOT_Y_OUT.Y_LIM k = d.get F.SLOT_Y_OUT.Y_LIM k
      ∧ ((d.osRelease k).colRelease k).settle.bit F.SLOT_STATUS.FROZEN k = d.bit F.SLOT_STATUS.FROZEN k
      ∧ ((d.osRelease k).colRelease k).settle.get F.LE_OVERRUN.COUNT = d.get F.LE_OVERRUN.COUNT := by
  obtain ⟨out, frozen, count⟩ := yLim_osRelease d (k := k) hk
  obtain ⟨out2, frozen2, count2⟩ := yLim_colRelease (d.osRelease k) (k := k) hk
  exact ⟨(settle_get _ (by decide) hk).trans (out2.trans out), (settle_bit _ (by decide) hk).trans (Dev.bit_of_get (frozen2.trans frozen)),
    (settle_get _ (by decide)).trans (count2.trans count)⟩

/-! The own part -/

theorem arrFeed_get (d : Dev) {f : Fld} (h : f.apart F.SLOT_OWN_A.OWN_A = true) (k : Nat) {a b c : Nat} (ha : a < f.n1)
    (hb : b < f.n2) (hc : c < f.n3) : (d.arrFeed k).get f a b c = d.get f a b c := by
  have feed : ∀ (l : List Nat) (q : Dev → Nat → Rat) (d : Dev), (l.foldl (fun d s => d.ownA k (q d s)) d).get f a b c = d.get f a b c := fun l q d =>
    each_keeps (fun d : Dev => d.get f a b c) (fun d s => Dev.get_set_apart d h _ ha hb hc) l d
  exact (feed _ _ _).trans (feed _ _ _)

theorem arrFeed_slots (d : Dev) (k : Nat) : (d.arrFeed k).slots = d.slots := by
  have feed : ∀ (l : List Nat) (q : Dev → Nat → Rat) (d : Dev), (l.foldl (fun d s => d.ownA k (q d s)) d).slots = d.slots := fun l q d =>
    each_keeps Dev.slots (fun d s => Dev.set_slots ..) l d
  exact (feed _ _ _).trans (feed _ _ _)

/-- The block as the own part of a release finds it: at its phase, the array's feed taken. -/
def Dev.atRelease (d : Dev) (k : Nat) : Dev :=
  let e := if d.owner k = 1 then d.arrFeed k else d
  e.toPhase (e.get F.SLOT_CFG.RELEASE k)

section
variable (d : Dev) {k : Nat}

theorem atRelease_slots : (d.atRelease k).slots = d.slots := by
  unfold Dev.atRelease
  extract_lets e
  refine (elapse_slots ..).trans ?_
  simp only [e]
  split
  · exact arrFeed_slots ..
  · rfl

theorem atRelease_get {f : Fld} (h : f.apart F.SLOT_OWN_A.OWN_A = true) (ht : f.apart F.RSV_TIME.COUNT = true) {a b c : Nat} (ha : a < f.n1) (hb : b < f.n2)
    (hc : c < f.n3) : (d.atRelease k).get f a b c = d.get f a b c := by
  unfold Dev.atRelease
  extract_lets e
  refine (elapse_get _ _ ht ha hb hc).trans ?_
  simp only [e]
  split
  · exact arrFeed_get _ h _ ha hb hc
  · rfl

theorem slotGo_eq (late : Option Nat) : (if d.owner k = 1 then d.arrFeed k else d).slotGo k late
    = if (unit d.slots k).frozen then (d.atRelease k).frozenShown k true
      else match late with
        | some p => (((d.atRelease k).frozenShown k false).inc F.LE_OVERRUN.COUNT 1).raise 97 4 k (leBytes 4 (if p < 1024 then p else 0xFFFFFFFF))
        | none => ((d.atRelease k).frozenShown k false).slotEval k := by
  have slots := atRelease_slots d (k := k)
  unfold Dev.slotGo
  extract_lets d1 d2
  have same : d1 = d.atRelease k := rfl
  have shown : d2 = (d.atRelease k).frozenShown k (unit d.slots k).frozen := by simp only [d2, same, slots, Dev.frozenShown]
  rw [shown, frozenShown_slots, slots]
  cases (unit d.slots k).frozen
  · simp only [Bool.false_eq_true, if_false] <;> cases late <;> rfl
  · simp only [if_true]

end

theorem slotRelease_body {s : State} {k : Fin 1024} {late : Option Nat} {P : Dev → Prop} (hl : s.dev.live = true)
    (he : s.dev.bit F.SLOT_CFG.EN k = true) (hm : s.dev.bit F.SLOT_CFG.MEMBER k = false) (hr : s.dev.slotRuns k = true)
    (ha : s.dev.ahead (s.dev.tick + (s.dev.get F.SLOT_CFG.RELEASE k + 1024 - s.dev.phase) % 1024) = true)
    (hp : ∀ d : Dev, SameSlots s.dev d → d.get F.LE_OVERRUN.COUNT = s.dev.get F.LE_OVERRUN.COUNT →
      P (((((if d.owner k = 1 then d.arrFeed k else d).slotGo k late).osRelease k).colRelease k).settle)) :
    After (.slotRelease k late) s P := by
  refine after_main ((exec_slotRelease ..).trans (by rw [execSlotRelease])) hl ?_
  rw [Dev.atPhase, wait_ahead ha]
  have same := sameSlots_elapse s.dev (s.dev.tick + (s.dev.get F.SLOT_CFG.RELEASE k + 1024 - s.dev.phase) % 1024 - s.dev.tick)
  have count : (s.dev.until (s.dev.tick + (s.dev.get F.SLOT_CFG.RELEASE k + 1024 - s.dev.phase) % 1024)).get F.LE_OVERRUN.COUNT = s.dev.get F.LE_OVERRUN.COUNT :=
    until_get _ _ (by decide)
  have st : (s.dev.until (s.dev.tick + (s.dev.get F.SLOT_CFG.RELEASE k + 1024 - s.dev.phase) % 1024)).st = s.dev.st := st_elapse ..
  have win : (s.dev.until (s.dev.tick + (s.dev.get F.SLOT_CFG.RELEASE k + 1024 - s.dev.phase) % 1024)).pwr.saveWin = s.dev.pwr.saveWin := by
    obtain ⟨r, kept⟩ := elapse_pwr s.dev (s.dev.tick + (s.dev.get F.SLOT_CFG.RELEASE k + 1024 - s.dev.phase) % 1024 - s.dev.tick)
    rw [Dev.until, kept]
  rw [← Dev.until] at same
  generalize s.dev.until _ = d at same count st win
  rw [if_neg (by rw [same.bit (by decide), same.bit (by decide), same.slotRuns win st, he, hm, hr]; decide)]
  exact hp d same count

/-- Settles O33: a slot frozen or late keeps its output, and a free one gives the difference equation's sum within its limits. -/
theorem slotRelease : Obligations.SlotRelease := by
  unfold Obligations.SlotRelease
  intro s k late hl he hm hr ha
  refine ⟨fun frozen => ?_, fun p running tardy => ?_, ?_⟩
  · refine slotRelease_body hl he hm hr ha fun d same count => ?_
    obtain ⟨out, shown, -⟩ := released_get ((if d.owner k = 1 then d.arrFeed k else d).slotGo k late) k.isLt
    rw [out, shown, slotGo_eq, same.2.1, if_pos frozen]
    refine ⟨Dev.bit_setB_same _ (by decide) _ k.isLt (by decide) (by decide), ?_⟩
    rw [frozenShown_get _ _ _ (by decide), atRelease_get _ (by decide) (by decide) k.isLt (by decide) (by decide), same.get (by decide)]
  · refine slotRelease_body hl he hm hr ha fun d same count => ?_
    obtain ⟨out, -, runs⟩ := released_get ((if d.owner k = 1 then d.arrFeed k else d).slotGo k late) k.isLt
    rw [out, runs, slotGo_eq, same.2.1, if_neg (by rw [running]; decide), tardy]
    dsimp only
    rw [get_of_calm (calm_raise ..) (by decide), get_of_calm (calm_raise ..) (by decide) k.isLt]
    constructor
    · rw [Dev.get_inc_same _ _ _ (by decide) (by decide) (by decide), frozenShown_get _ _ _ (by decide),
        atRelease_get _ (by decide) (by decide) (by decide) (by decide) (by decide), count]
      rfl
    · rw [Dev.get_inc_apart _ (by decide) _ k.isLt (by decide) (by decide), frozenShown_get _ _ _ (by decide),
        atRelease_get _ (by decide) (by decide) k.isLt (by decide) (by decide), same.get (by decide)]
  · intro running timely free alone unaided _ x e y hx hscale hacc hy
    refine slotRelease_body hl he hm hr ha fun d same count => ?_
    obtain ⟨out, -, -⟩ := released_get ((if d.owner k = 1 then d.arrFeed k else d).slotGo k late) k.isLt
    rw [out, slotGo_eq, same.2.1, if_neg (by rw [running]; decide), timely]
    dsimp only
    have own : d.owner k = 0 := (same.owner k).trans free
    have whole : SameSlots s.dev (d.atRelease k) := by
      rw [Dev.atRelease, own]
      exact sameSlots_trans same (sameSlots_elapse ..)
    have words : ∀ {f : Fld}, 2 ^ 24 ≤ f.base → f.lo < 25 → ∀ a b c, ((d.atRelease k).frozenShown k false).get f a b c = s.dev.get f a b c :=
      fun hf hlo a b c => (frozenShown_get _ _ _ hlo ..).trans (whole.get hf ..)
    have slots : ((d.atRelease k).frozenShown k false).slots = s.dev.slots := (frozenShown_slots ..).trans whole.2.1
    generalize (d.atRelease k).frozenShown k false = f at words slots
    have diff : f.slotDiff k = x := by
      rw [Dev.slotDiff, slotSrc_congr words slots, slotSrc_congr words slots, words (by decide) (by decide), words (by decide) (by decide),
        words (by decide) (by decide), words (by decide) (by decide), words (by decide) (by decide)]
    have scaled : fMul (f.get F.SLOT_K_IN.K_IN k) (f.slotDiff k) = e := by rw [diff, words (by decide) (by decide)]
    have sum : f.slotAcc k e = s.dev.slotAcc k e := slotAcc_congr words ..
    have value := slotEval_free f k.isLt ((words (by decide) (by decide) ..).trans free) ((words (by decide) (by decide) ..).trans alone)
      ((Dev.bit_of_get (words (by decide) (by decide) ..)).trans unaided) (by rw [diff]; exact hx) (by rw [scaled]; exact hscale)
      (by rw [scaled, sum]; exact hacc) (by rw [scaled, sum]; exact hy)
    rw [value, scaled, sum, slotLo_congr words slots, slotHi_congr words slots]

end Sys2Proof.Machine
end

section
/-! SUPPORT. Metering (R422 to R447). What follows in a sample instant leaves the number of the sample and the count as they are. -/

namespace Sys2Proof.Machine

set_option Elab.async false

/-- The number of the next sample and the count of the samples. -/
def Calm.samples (x : Calm) : Nat × Nat := (x.met.k, x.reg (F.MET_SAMPLES.COUNT.key 0 0 0))

theorem samples_of_calm {d e : Dev} (h : e.calm = d.calm) : e.calm.samples = d.calm.samples := congrArg Calm.samples h

theorem samplesKey_calm : calmKey (F.MET_SAMPLES.COUNT.key 0 0 0) = true := by decide +kernel

theorem count_of_samples {d e : Dev} (h : e.calm.samples = d.calm.samples) : e.get F.MET_SAMPLES.COUNT = d.get F.MET_SAMPLES.COUNT := by
  have same : calmRegs e.regs (F.MET_SAMPLES.COUNT.key 0 0 0) = calmRegs d.regs (F.MET_SAMPLES.COUNT.key 0 0 0) := congrArg (·.2) h
  rw [calmRegs, calmRegs, if_pos samplesKey_calm, if_pos samplesKey_calm] at same
  rw [Dev.get, Dev.get, same]

theorem samples_of {d e : Dev} (hm : e.met.k = d.met.k) (h : e.get F.MET_SAMPLES.COUNT = d.get F.MET_SAMPLES.COUNT) : e.calm.samples = d.calm.samples := by
  rw [Dev.get, Dev.get, Nat.xor_left_inj] at h
  simp only [Dev.calm, Calm.samples, calmRegs, hm, h]

@[simp] theorem samples_mk (reg due tick lanes cells slots bank2 gates enc metCh metEl met ports chr hk pwr rings clk mram prov saf col arr os pwm
    groups phases) :
    (Calm.mk reg due tick lanes cells slots bank2 gates enc metCh metEl met ports chr hk pwr rings clk mram prov saf col arr os pwm groups phases).samples
      = (met.k, reg (F.MET_SAMPLES.COUNT.key 0 0 0)) := rfl

@[simp] theorem samples_eta (d : Dev) : (d.met.k, calmRegs d.regs (F.MET_SAMPLES.COUNT.key 0 0 0)) = d.calm.samples := rfl

section
variable (d : Dev)

section
variable {f : Fld} (h : F.MET_SAMPLES.COUNT.apart f = true)
include h

@[simp] theorem samples_set (v a b c : Nat) : (d.set f v a b c).calm.samples = d.calm.samples :=
  samples_of (congrArg Met.k (Dev.set_met ..)) (Dev.get_set_apart d h _ (by decide) (by decide) (by decide))
@[simp] theorem samples_setB (v : Bool) (a b c : Nat) : (d.setB f v a b c).calm.samples = d.calm.samples := samples_set d h ..
@[simp] theorem samples_setS (v : Int) (a b c : Nat) : (d.setS f v a b c).calm.samples = d.calm.samples := samples_set d h ..
@[simp] theorem samples_inc (n a b c : Nat) : (d.inc f n a b c).calm.samples = d.calm.samples := samples_set d h ..
@[simp] theorem samples_setFlag (i : Nat) (v : Bool) : (d.setFlag f i v).calm.samples = d.calm.samples := samples_set d h ..

end

@[simp] theorem samples_arm (t : Timer) (n : Nat) : (d.arm t n).calm.samples = d.calm.samples := rfl
@[simp] theorem samples_mch (k : Nat) (g : MetCh → MetCh) : (d.mch k g).calm.samples = d.calm.samples := rfl
@[simp] theorem samples_mel (k : Nat) (g : MetEl → MetEl) : (d.mel k g).calm.samples = d.calm.samples := rfl
theorem samples_met (x : Met) (h : x.k = d.met.k) : ({ d with met := x } : Dev).calm.samples = d.calm.samples :=
  samples_of (e := { d with met := x }) h rfl
@[simp] theorem samples_free : d.free.calm.samples = d.calm.samples := rfl

@[simp] theorem samples_ite {p : Prop} [Decidable p] (x y : Dev) :
    (if p then x else y).calm.samples = if p then x.calm.samples else y.calm.samples := apply_ite (fun d : Dev => d.calm.samples) p x y

omit d in
theorem samples_each {α : Type} {g : Dev → α → Dev} (h : ∀ d x, (g d x).calm.samples = d.calm.samples) (l : List α) (d : Dev) :
    (d.each l g).calm.samples = d.calm.samples :=
  each_keeps (fun d => d.calm.samples) h l d

@[simp] theorem samples_checkFail (code obj : Nat) : (d.checkFail code obj).calm.samples = d.calm.samples :=
  samples_of (congrArg (fun x : Calm => x.met.k) (held_checkFail d code obj)) (get_of_view (checkView_checkFail d code obj) (by decide))

@[simp] theorem samples_checkPass (code obj : Nat) : (d.checkPass code obj).calm.samples = d.calm.samples :=
  samples_of (congrArg (fun x : Calm => x.met.k) (held_checkPass d code obj))
    (get_of_view (view_checkPass (m := checkMask) (by decide) d code obj) (by decide))

@[simp] theorem samples_arcSample (type flags object time aux : Nat) (body : List Int) (len : Nat) :
    (d.arcSample type flags object time aux body len).calm.samples = d.calm.samples := by
  unfold Dev.arcSample
  split <;> rfl

@[simp] theorem samples_refuse7 (inst why : Nat) : (d.refuse 7 inst why).calm.samples = d.calm.samples := by
  simp (disch := decide) [Dev.refuse, Dev.refuseRec, Dev.refuseEffect]

@[simp] theorem samples_loanFile7 (inst : Nat) : (d.loanFile 7 inst).calm.samples = d.calm.samples := by simp [Dev.loanFile]

@[simp] theorem samples_metFlag (es : List Nat) (bit : Nat) : (d.metFlag es bit).calm.samples = d.calm.samples :=
  samples_each (fun _ _ => samples_mel ..) _ _

@[simp] theorem samples_chConditions (m : Nat) (x : Int) : (d.chConditions m x).calm.samples = d.calm.samples := by
  unfold Dev.chConditions
  extract_lets c inside back mean d1 d2 d3 d4 d5 n
  have back_ : d2.calm.samples = d.calm.samples := by simp [d2, d1]
  have checked : d3.calm.samples = d.calm.samples := by simp (disch := decide) [d3, back_]
  have beyond : d5.calm.samples = d.calm.samples := by simp (disch := decide) [d5, d4, checked]
  simp [beyond, checked]

@[simp] theorem samples_periodCount (m : Nat) : (d.periodCount m).calm.samples = d.calm.samples :=
  samples_each (fun _ _ => samples_mel ..) _ _

@[simp] theorem samples_periodEnd (m a b t : Nat) : (d.periodEnd m a b t).calm.samples = d.calm.samples := by
  simp [Dev.periodEnd]

@[simp] theorem samples_crossing (m t now : Nat) : (d.crossing m t now).calm.samples = d.calm.samples := by
  unfold Dev.crossing
  extract_lets c gap nom near d1 was ends d2 d3 d4
  have first : d1.calm.samples = d.calm.samples := by simp [d1]
  have measured : d4.calm.samples = d.calm.samples := by simp [d4, d3, d2]
  simp (disch := decide) [first, measured]

@[simp] theorem samples_zcStep (m t : Nat) (v : Rat) : (d.zcStep m t v).calm.samples = d.calm.samples := by
  unfold Dev.zcStep
  extract_lets c d1 d2 d3
  have first : d1.calm.samples = d.calm.samples := samples_mch ..
  have period : d2.calm.samples = d1.calm.samples := by
    simp only [d2]
    split
    · exact (samples_mch ..).trans (samples_periodEnd ..)
    · rfl
  split
  · exact (samples_mch ..).trans (period.trans first)
  · split
    · exact (samples_crossing ..).trans ((samples_mch ..).trans (period.trans first))
    · exact period.trans first

@[simp] theorem samples_elPower (e : Nat) : (d.elPower e).1.calm.samples = d.calm.samples := by
  unfold Dev.elPower
  extract_lets v i sgn w p q d1 x
  split
  · rfl
  · exact samples_mel ..

@[simp] theorem samples_chWindow (m : Nat) : (d.chWindow m).calm.samples = d.calm.samples := by
  unfold Dev.chWindow
  extract_lets c n mean rms d1 avg mu inside out d2 d3
  have shown : d1.calm.samples = d.calm.samples := by simp (disch := decide) [d1]
  have judged : d2.calm.samples = d.calm.samples := by simp (disch := decide) [d2, shown]
  have flagged : d3.calm.samples = d.calm.samples := (samples_metFlag ..).trans judged
  simp [judged, flagged]

@[simp] theorem samples_harmWindow : d.harmWindow.calm.samples = d.calm.samples := by
  unfold Dev.harmWindow
  extract_lets w met d1 h
  have counted : d1.calm.samples = d.calm.samples := rfl
  have waits : ∀ x : Met, x.k = d1.met.k → ({ d1 with met := x } : Dev).calm.samples = d.calm.samples := fun x hx =>
    (samples_met d1 x hx).trans counted
  split
  · exact counted
  · split
    · exact (samples_inc _ (by decide) ..).trans (waits _ rfl)
    · split
      · split
        · exact (samples_inc _ (by decide) ..).trans counted
        · exact (samples_loanFile7 ..).trans (waits _ rfl)
      · exact counted

@[simp] theorem samples_elWindow (e t : Nat) : (d.elWindow e t).calm.samples = d.calm.samples := by
  unfold Dev.elWindow
  extract_lets x n p q sv d1 c stop d2 own v i d3 d4
  have shown : d2.calm.samples = d.calm.samples := by simp (disch := decide) [d2, d1]
  have voltage : d3.calm.samples = d.calm.samples := by simp [d3, shown]
  have current : d4.calm.samples = d.calm.samples := by simp [d4, voltage]
  simp [current]

@[simp] theorem samples_elSample (e t : Nat) : (d.elSample e t).calm.samples = d.calm.samples := by
  unfold Dev.elSample
  extract_lets v i lost dc
  split
  rename_i d1 P Q same
  have power : d1.calm.samples = d.calm.samples := (congrArg (fun x => x.1.calm.samples) same).symm.trans (samples_elPower ..)
  extract_lets nl rv ri d2 d3 d4 d5 d6
  have windows : d3.calm.samples = d.calm.samples := by simp [d3, d2, power]
  have sums : d4.calm.samples = d.calm.samples := (samples_each (fun _ _ => samples_mch ..) _ _).trans windows
  have closed : d6.calm.samples = d.calm.samples := (samples_mel ..).trans ((samples_mel ..).trans sums)
  simp [closed]

@[simp] theorem samples_arcMeter (k : Nat) : (d.arcMeter k).calm.samples = d.calm.samples := by
  simp [Dev.arcMeter]

@[simp] theorem samples_intervalOpen (e start : Nat) (fr : Nat × Nat × List Nat) (extra last : Nat) :
    (d.intervalOpen e start fr extra last).calm.samples = d.calm.samples := by
  unfold Dev.intervalOpen
  split
  simp (disch := decide)

@[simp] theorem samples_totalsAdd (e : Nat) (v : Interval) : (d.totalsAdd e v).1.calm.samples = d.calm.samples := by
  unfold Dev.totalsAdd
  extract_lets m x1 x2 exact_
  refine (samples_each (fun d j => samples_inc _ (by decide) ..) _ _).trans ?_
  simp (disch := decide) [x1]

@[simp] theorem samples_intervalClose (e : Nat) (v : Interval) : (d.intervalClose e v).1.calm.samples = d.calm.samples := by
  unfold Dev.intervalClose
  extract_lets m count
  split
  rename_i d1 exact_ same
  have totals : d1.calm.samples = d.calm.samples := (congrArg (fun x => x.1.calm.samples) same).symm.trans (samples_totalsAdd ..)
  extract_lets bad seq fl r met d2 d3 d4
  have kept : d2.calm.samples = d.calm.samples := rfl.trans totals
  have raised : d3.calm.samples = d.calm.samples := (samples_of_calm (calm_raise ..)).trans ((samples_set _ (by decide) ..).trans kept)
  simp [d4, raised]

@[simp] theorem samples_intervalNext (e : Nat) : (d.intervalNext e).calm.samples = d.calm.samples := by
  unfold Dev.intervalNext
  split
  · rfl
  · exact (samples_intervalOpen ..).trans (samples_intervalClose ..)

@[simp] theorem samples_intervalsTo (t : Nat) : (d.intervalsTo t).calm.samples = d.calm.samples := by
  refine samples_each (fun d e => ?_) _ _
  split
  · simp
  · rfl

end

theorem exec_meterSample (x : List MbWave) (s : State) : exec (.meterSample x) s = execMeterSample x s := rfl
theorem exec_metChannelLost (m : Fin 16) (density : Nat) (s : State) : exec (.metChannelLost m density) s = execMetChannelLost m density s := rfl
theorem exec_zcTimeout (m : Fin 16) (s : State) : exec (.zcTimeout m) s = execZcTimeout m s := rfl
theorem exec_meterIntervalClose (e : Fin 8) (s : State) : exec (.meterIntervalClose e) s = execMeterIntervalClose e s := rfl
theorem exec_harmonicBurstDone (s : State) : exec .harmonicBurstDone s = execHarmonicBurstDone s := rfl
theorem exec_meterClosureWindow (s : State) : exec .meterClosureWindow s = execMeterClosureWindow s := rfl

theorem meterSample_counts {s : State} {x : List MbWave} (hl : s.dev.live = true) (hr : s.dev.bit F.MET_STATUS.RUN = true) :
    After (.meterSample x) s fun d => d.get F.MET_SAMPLES.COUNT = (s.dev.get F.MET_SAMPLES.COUNT + 1) % 2 ^ 64 ∧ d.met.k = s.dev.met.k + 1 := by
  refine after_main ((exec_meterSample ..).trans (by rw [execMeterSample])) hl ?_
  rw [if_neg (by rw [hr]; decide)]
  extract_lets t d1 met d2 d3
  have counted : d1.get F.MET_SAMPLES.COUNT = (s.dev.get F.MET_SAMPLES.COUNT + 1) % 2 ^ 64 :=
    (Dev.get_inc_same _ _ _ (by decide) (by decide) (by decide)).trans (by rw [until_get _ _ (by decide)]; rfl)
  have number : d1.met.k = s.dev.met.k := congrArg Met.k ((Dev.set_met ..).trans (elapse_met ..))
  have channels : d3.calm.samples = d2.calm.samples := by
    refine samples_each (fun d m => ?_) _ _
    simp [Dev.metFilter]
  have all : (((d3.each d3.metEls (fun d e => d.elSample e t)).arcMeter (d3.met.k - 1)).free.settle).calm.samples = d2.calm.samples := by
    refine (samples_of_calm (calm_settle _)).trans ((samples_free _).trans ((samples_arcMeter ..).trans ((samples_each (fun d e => ?_) _ _).trans channels)))
    exact samples_elSample ..
  have begun : d2.get F.MET_SAMPLES.COUNT = d1.get F.MET_SAMPLES.COUNT ∧ d2.met.k = d1.met.k + 1 := by
    have same : d2.calm.samples = ({ d1 with met := { met with k := d1.met.k + 1 } } : Dev).calm.samples :=
      samples_intervalsTo ..
    exact ⟨(count_of_samples same).trans (get_of_regs rfl ..), congrArg (·.1) same⟩
  exact ⟨(count_of_samples all).trans (begun.1.trans counted), (congrArg (·.1) all).trans (begun.2.trans (congrArg (· + 1) number))⟩

theorem metChannelLost_flags {s : State} {m : Fin 16} {density : Nat} (hl : s.dev.live = true) (hd : s.dev.bit F.MET_CH_CFG.DECLARED m = true)
    (hr : s.dev.bit F.MET_STATUS.RUN = true) (hn : (unit s.dev.metCh m).lostNow = false) (hm : m.val < s.dev.metCh.length) :
    After (.metChannelLost m density) s fun d => d.flag F.MET_CH_FLAGS.LOST m = true ∧ (unit d.metCh m).lostNow = true := by
  refine after_main ((exec_metChannelLost ..).trans (by rw [execMetChannelLost])) hl ?_
  rw [if_neg (by rw [hd, hr, hn]; decide)]
  extract_lets d1
  have calm : d1.calm = ((s.dev.setFlag F.MET_CH_FLAGS.LOST m true).mch m fun c => { c with lostNow := true, lostBack := 0 }).calm := calm_condOn ..
  have flag : d1.get F.MET_CH_FLAGS.LOST = (s.dev.setFlag F.MET_CH_FLAGS.LOST m true).get F.MET_CH_FLAGS.LOST :=
    (get_of_calm calm (by decide)).trans (get_of_regs rfl ..)
  have lost : (unit d1.metCh m).lostNow = true := by
    have channels : d1.metCh = ((s.dev.setFlag F.MET_CH_FLAGS.LOST m true).mch m fun c => { c with lostNow := true, lostBack := 0 }).metCh :=
      congrArg Calm.metCh calm
    rw [channels]
    refine congrArg MetCh.lostNow (unit_modify _ _ _ ?_)
    rwa [Dev.setFlag, Dev.set_metCh]
  have after : ∀ cls data, ((d1.raise 160 cls m data).checkFail 24 m).settle.calm.view checkMask = d1.calm.view checkMask := fun cls data =>
    (view_of_calm (calm_settle _) _).trans ((checkView_checkFail ..).trans (view_of_calm (calm_raise ..) _))
  refine ⟨?_, ?_⟩
  · rw [Dev.flag, get_of_view (after ..) (by decide), flag]
    exact Dev.flag_setFlag_same s.dev (by decide) m.isLt true
  · rw [metCh_of_view (after ..) (by decide)]
    exact lost

/-- The block after a crossing timeout of a channel has emptied its periods. -/
def Dev.zcEmptied (d : Dev) (m : Nat) : Dev :=
  let c := unit d.metCh m
  let d := d.arm (.zc m) (msT (d.get F.MET_CH_ZC.ZC_TMO m))
  let z := c.zcAt.getD (d.tick * 64)
  d.mch m (fun c => { c with zcOut := true, valid := 0, fresh := true, periods := []
                             nomAt := if c.zcOut then c.nomAt else z + (d.tick * 64 - z) / d.nominal * d.nominal })

theorem zcTimeout_empties {s : State} {m : Fin 16} {x : Nat} (hl : s.dev.live = true) (hd : s.dev.due (.zc m) = some x) (ha : s.dev.ahead x = true)
    (hr : s.dev.bit F.MET_STATUS.RUN = true) (hv : s.dev.acVolt m = true) (hm : m.val < s.dev.metCh.length) :
    After (.zcTimeout m) s fun d => (unit d.metCh m).zcOut = true ∧ (unit d.metCh m).periods = []
      ∧ d.due (.zc m) = some (max s.dev.tick x + msT (s.dev.get F.MET_CH_ZC.ZC_TMO m)) := by
  refine after_fire ((exec_zcTimeout ..).trans (by rw [execZcTimeout])) hl hd ha ?_
  have run : ((s.dev.until x).disarm (.zc m)).bit F.MET_STATUS.RUN = true := (bit_disarm ..).trans ((until_bit _ _ (by decide)).trans hr)
  have volt : ((s.dev.until x).disarm (.zc m)).acVolt m = true := by
    rw [← hv, Dev.acVolt, Dev.acVolt, Dev.isDc, Dev.isDc, bit_disarm, bit_disarm, until_bit _ _ (by decide) m.isLt, until_bit _ _ (by decide) m.isLt]
  rw [if_neg (by rw [run, volt]; decide)]
  have tick : ((s.dev.until x).disarm (.zc m)).tick = max s.dev.tick x := until_tick _ _ hl
  have span : ((s.dev.until x).disarm (.zc m)).get F.MET_CH_ZC.ZC_TMO m = s.dev.get F.MET_CH_ZC.ZC_TMO m :=
    (get_disarm ..).trans (until_get _ _ (by decide) m.isLt)
  have channels : ((s.dev.until x).disarm (.zc m)).metCh.length = s.dev.metCh.length := congrArg List.length (elapse_metCh ..)
  generalize (s.dev.until x).disarm (.zc m) = d at tick span channels
  extract_lets c d1 z d2 d3
  have emptied : (unit d2.metCh m).zcOut = true ∧ (unit d2.metCh m).periods = [] := by
    have here : unit d2.metCh m = _ := unit_modify d1.metCh m _ (by rw [← channels] at hm; exact hm)
    rw [here]
    exact ⟨rfl, rfl⟩
  have due : d2.due (.zc m) = some (max s.dev.tick x + msT (s.dev.get F.MET_CH_ZC.ZC_TMO m)) := by
    rw [← tick, ← span]
    exact due_arm ..
  split
  · refine ⟨?_, ?_, ?_⟩
    · rw [metCh_of_held (held_of_calm (calm_settle _))]; exact emptied.1
    · rw [metCh_of_held (held_of_calm (calm_settle _))]; exact emptied.2
    · rw [calm_due (calm_settle _) _ rfl]; exact due
  · have shown : d3.metCh = d2.metCh ∧ d3.due (.zc m) = d2.due (.zc m) := by
      have flags : ∀ (e : Dev) (l : List Nat) (b : Nat), (e.metFlag l b).metCh = e.metCh ∧ (e.metFlag l b).timers = e.timers := fun e l b =>
        ⟨each_keeps Dev.metCh (fun d k => (rfl : (d.mel k _).metCh = d.metCh)) _ _,
          each_keeps Dev.timers (fun d k => (rfl : (d.mel k _).timers = d.timers)) _ _⟩
      have begun := calm_condOn (d2.setFlag F.MET_ZC.TIMEOUT m true) 163 m
      refine ⟨(Dev.set_metCh ..).trans ((flags ..).1.trans ((congrArg Calm.metCh begun).trans (Dev.set_metCh ..))), ?_⟩
      refine (due_set ..).trans ((due_of_timers (flags ..).2 _).trans ((calm_due begun _ rfl).trans (due_set ..)))
    refine ⟨?_, ?_, ?_⟩
    · rw [metCh_of_held (held_of_calm ((calm_settle _).trans (calm_raise ..))), shown.1]; exact emptied.1
    · rw [metCh_of_held (held_of_calm ((calm_settle _).trans (calm_raise ..))), shown.1]; exact emptied.2
    · rw [calm_due ((calm_settle _).trans (calm_raise ..)) _ rfl, shown.2]; exact due

/-! An interval closes (R436) -/

theorem totalsAdd_get (d : Dev) {e : Nat} (he : e < 8) (v : Interval) :
    (d.totalsAdd e v).1.get F.MET_EL_TOT_IMP.MJ e = (d.get F.MET_EL_TOT_IMP.MJ e + v.imp / 2 ^ 32) % 2 ^ 64
      ∧ (d.totalsAdd e v).1.get F.MET_EL_TOT_EXP.MJ e = (d.get F.MET_EL_TOT_EXP.MJ e + v.exp / 2 ^ 32) % 2 ^ 64
      ∧ (d.totalsAdd e v).1.get F.MET_EL_RECS.SEQ e = d.get F.MET_EL_RECS.SEQ e := by
  unfold Dev.totalsAdd
  extract_lets m x1 x2 exact_
  have rest : ∀ {f : Fld}, f.apart F.MET_EL_TOT_Q.MVARS = true → e < f.n1 → 0 < f.n2 → 0 < f.n3 → x2.get f e = x1.get f e := fun hf ha hb hc =>
    each_keeps (fun d : Dev => d.get _ e) (fun d j => Dev.get_inc_apart d hf _ ha hb hc) _ _
  refine ⟨(rest (by decide) he (by decide) (by decide)).trans ?_, (rest (by decide) he (by decide) (by decide)).trans ?_,
    (rest (by decide) he (by decide) (by decide)).trans ?_⟩
  · exact (Dev.get_inc_apart _ (by decide) _ he (by decide) (by decide)).trans (Dev.get_inc_same _ _ _ he (by decide) (by decide))
  · refine (Dev.get_inc_same _ _ _ he (by decide) (by decide)).trans ?_
    rw [Dev.get_inc_apart _ (by decide) _ he (by decide) (by decide)]
    rfl
  · exact (Dev.get_inc_apart _ (by decide) _ he (by decide) (by decide)).trans (Dev.get_inc_apart _ (by decide) _ he (by decide) (by decide))

theorem intervalClose_get (d : Dev) {e : Nat} (he : e < 8) (v : Interval) :
    (d.intervalClose e v).1.get F.MET_EL_TOT_IMP.MJ e = (d.get F.MET_EL_TOT_IMP.MJ e + v.imp / 2 ^ 32) % 2 ^ 64
      ∧ (d.intervalClose e v).1.get F.MET_EL_TOT_EXP.MJ e = (d.get F.MET_EL_TOT_EXP.MJ e + v.exp / 2 ^ 32) % 2 ^ 64
      ∧ (d.intervalClose e v).1.get F.MET_EL_RECS.SEQ e = (d.get F.MET_EL_RECS.SEQ e + 1) % 2 ^ 64 := by
  obtain ⟨imp, exp, number⟩ := totalsAdd_get d he v
  unfold Dev.intervalClose
  extract_lets m count
  split
  rename_i d1 exact_ same
  rw [same] at imp exp number
  extract_lets bad seq fl r met d2 d3 d4
  have raised : d3.calm = (d2.set F.MET_EL_RECS.SEQ (seq + 1) e).calm := calm_raise ..
  have calm : d4.calm = (d2.set F.MET_EL_RECS.SEQ (seq + 1) e).calm := by
    refine Eq.trans ?_ raised
    simp only [d4]
    split
    · exact (calm_conserve ..).trans (calm_condOn ..)
    · exact calm_condOff ..
  refine ⟨?_, ?_, ?_⟩
  · exact (get_of_calm calm (by decide) he).trans ((Dev.get_set_apart _ (by decide) _ he (by decide) (by decide)).trans ((get_of_regs rfl ..).trans imp))
  · exact (get_of_calm calm (by decide) he).trans ((Dev.get_set_apart _ (by decide) _ he (by decide) (by decide)).trans ((get_of_regs rfl ..).trans exp))
  · refine (get_of_calm calm (by decide) he).trans ((Dev.get_set_here _ _ _ he (by decide) (by decide)).trans ?_)
    rw [← number]
    rfl

theorem intervalOpen_get (d : Dev) {e : Nat} (he : e < 8) (start : Nat) (fr : Nat × Nat × List Nat) (extra last : Nat) :
    (d.intervalOpen e start fr extra last).get F.MET_EL_OPEN.START e = start / 64 % 2 ^ 64
      ∧ ∀ {f : Fld}, f.apart F.MET_EL_OPEN.START = true → f.apart F.MET_STATUS.TICK_ALIGNED = true → e < f.n1 → 0 < f.n2 → 0 < f.n3 →
        (d.intervalOpen e start fr extra last).get f e = d.get f e := by
  unfold Dev.intervalOpen
  split
  extract_lets step v
  refine ⟨?_, fun hs ht ha hb hc => ?_⟩
  · exact (Dev.get_set_apart _ (by decide) _ he (by decide) (by decide)).trans (Dev.get_set_here _ _ _ he (by decide) (by decide))
  · exact (Dev.get_set_apart _ ht _ ha hb hc).trans ((Dev.get_set_apart _ hs _ ha hb hc).trans (get_of_regs rfl ..))

theorem meterIntervalClose_closes {s : State} {e : Fin 8} {v : Interval} (hl : s.dev.live = true) (ho : (unit s.dev.metEl e).open_ = some v)
    (hr : s.dev.bit F.MET_STATUS.RUN = true) (hv : v.stop ≤ sampleAt s.dev.met.k) :
    After (.meterIntervalClose e) s fun d => d.get F.MET_EL_RECS.SEQ e = (s.dev.get F.MET_EL_RECS.SEQ e + 1) % 2 ^ 64
      ∧ d.get F.MET_EL_OPEN.START e = v.stop / 64 % 2 ^ 64
      ∧ d.get F.MET_EL_TOT_IMP.MJ e = (s.dev.get F.MET_EL_TOT_IMP.MJ e + v.imp / 2 ^ 32) % 2 ^ 64
      ∧ d.get F.MET_EL_TOT_EXP.MJ e = (s.dev.get F.MET_EL_TOT_EXP.MJ e + v.exp / 2 ^ 32) % 2 ^ 64 := by
  refine after_main ((exec_meterIntervalClose ..).trans (by rw [execMeterIntervalClose])) hl ?_
  rw [ho]
  dsimp only
  rw [if_pos ⟨hr, hv⟩]
  unfold Dev.intervalNext
  rw [ho]
  dsimp only
  obtain ⟨imp, exp, number⟩ := intervalClose_get s.dev e.isLt v
  obtain ⟨start, rest⟩ := intervalOpen_get (s.dev.intervalClose e v).1 e.isLt v.stop (s.dev.intervalClose e v).2 0 v.lastTick
  have shown : ∀ {f : Fld}, f.calm = true → e.val < f.n1 → 0 < f.n2 → 0 < f.n3 → ∀ x : Dev, x.settle.get f e = x.get f e := fun hf ha hb hc x =>
    settle_get x hf ha hb hc
  rw [shown (by decide) e.isLt (by decide) (by decide), shown (by decide) e.isLt (by decide) (by decide), shown (by decide) e.isLt (by decide) (by decide),
    shown (by decide) e.isLt (by decide) (by decide), start, rest (by decide) (by decide) e.isLt (by decide) (by decide),
    rest (by decide) (by decide) e.isLt (by decide) (by decide), rest (by decide) (by decide) e.isLt (by decide) (by decide)]
  exact ⟨number, rfl, imp, exp⟩

/-! A harmonic burst is done (R439) -/

theorem harmElement_keeps (d : Dev) (e : Nat) : (d.harmElement e).met.bursting = d.met.bursting ∧ (d.harmElement e).timers = d.timers := by
  unfold Dev.harmElement
  split
  · exact ⟨rfl, rfl⟩
  · extract_lets M met
    split
    split
    extract_lets rows d1
    have shown : ∀ e v w, ((d1.set F.MET_EL_THD_V.THD v e).set F.MET_EL_THD_I.THD w e).met.bursting = d1.met.bursting := fun e v w => by
      rw [Dev.set_met, Dev.set_met]
    exact ⟨shown .., (Dev.set_timers ..).trans (Dev.set_timers ..)⟩

theorem harmonicBurstDone_ends {s : State} {x : Nat} (hl : s.dev.live = true) (hd : s.dev.due .harm = some x) (ha : s.dev.ahead x = true) :
    After .harmonicBurstDone s fun d =>
      d.met.bursting = none ∧ d.get F.MET_HARM_WIN.WINDOW = s.dev.met.bursting.getD 0 % 2 ^ 64 ∧ d.due .harm = none := by
  refine after_fire ((exec_harmonicBurstDone ..).trans (by rw [execHarmonicBurstDone])) hl hd ha ?_
  extract_lets d1 d2 met
  have burst : d1.met.bursting = s.dev.met.bursting :=
    (each_keeps (fun d : Dev => d.met.bursting) (fun d e => (harmElement_keeps d e).1) _ _).trans (congrArg Met.bursting (elapse_met ..))
  have idle : d2.due .harm = none :=
    (due_set ..).trans ((due_of_timers (each_keeps Dev.timers (fun d e => (harmElement_keeps d e).2) _ _) _).trans (due_disarm ..))
  have calm : ∀ e : Dev, (e.loanReturn 7 0).settle.calm = e.calm := fun e => (calm_settle _).trans (calm_loanReturn ..)
  refine ⟨congrArg (fun x : Calm => x.met.bursting) (calm _), ?_, (calm_due (calm _) _ rfl).trans idle⟩
  rw [get_of_calm (calm _) (by decide), ← burst]
  exact (get_of_regs rfl ..).trans (Dev.get_set_here _ _ _ (by decide) (by decide) (by decide))

/-! A closure window of an element (R447) -/

/-- What an element's part of a closure window does. -/
def Dev.elClose (d : Dev) (e : Nat) : Dev :=
  match (unit d.metEl e).prev, d.arr.metPrev with
  | some (k, sum, abs), some (ka, l) =>
    if k = ka then
      let d := d.mel e (fun x => { x with prev := none })
      if d.met.runPrev = some (k, true) then d.elClosure e sum abs (l.getD (d.get F.MET_EL_CFG.STRING e) 0) else d
    else d
  | _, _ => d

theorem meterClosureWindow_eq (s : State) : execMeterClosureWindow s
    = onMain s fun d => d.each (d.metEls.filter fun e => d.bit F.MET_EL_CFG.CLOSE_EN e) fun d e => d.elClose e := rfl

/-- What of a closure window the part of another element leaves. -/
def Dev.closing (d : Dev) (e : Nat) : Option (Nat × Int × Nat) × Option (Nat × List Rat) × Option (Nat × Bool) × Nat × Nat :=
  ((unit d.metEl e).prev, d.arr.metPrev, d.met.runPrev, d.get F.MET_EL_CFG.STRING e, d.get F.MET_EL_CLOSE.D e)

/-- The difference a closure window shows. -/
def closureDiff (sum : Int) (a : Rat) : Nat := ofS 32 (rAway (((sum : Rat) * 1000 / ((2 ^ 32 : Nat) : Rat) - a) / 1000000))

theorem ofS_mod (w : Nat) (i : Int) : ofS w i % 2 ^ w = ofS w i :=
  Nat.mod_eq_of_lt (by
    have small := Int.emod_lt_of_pos i (show (0 : Int) < ((2 ^ w : Nat) : Int) by positivity)
    have whole := Int.emod_nonneg i (show ((2 ^ w : Nat) : Int) ≠ 0 by positivity)
    rw [ofS]
    omega)

theorem closing_of_calm {d e : Dev} (h : e.calm = d.calm) {i : Nat} (hi : i < 8) : e.closing i = d.closing i := by
  have parts : (e.metEl, e.arr.metPrev, e.met.runPrev) = (d.metEl, d.arr.metPrev, d.met.runPrev) :=
    congrArg (fun x : Calm => (x.metEl, x.arr.metPrev, x.met.runPrev)) h
  simp only [Prod.mk.injEq] at parts
  obtain ⟨els, array, run⟩ := parts
  rw [Dev.closing, Dev.closing, els, array, run, get_of_calm h (by decide) hi, get_of_calm h (by decide) hi]

theorem closing_metFlag (d : Dev) (l : List Nat) (b i : Nat) : (d.metFlag l b).closing i = d.closing i :=
  each_keeps (fun d : Dev => d.closing i) (fun d k => by
    rw [Dev.closing, Dev.closing, Dev.mel]
    dsimp only
    rw [unit_modify_keeps MetEl.prev (by intro x; rfl)]
    rfl) _ _

theorem elClosure_closing (d : Dev) {i e : Nat} (hi : i < 8) (he : e < 8) (sum : Int) (abs : Nat) (a : Rat) :
    (d.elClosure i sum abs a).closing e
      = ((d.closing e).1, (d.closing e).2.1, (d.closing e).2.2.1, (d.closing e).2.2.2.1, if i = e then closureDiff sum a else (d.closing e).2.2.2.2) := by
  unfold Dev.elClosure
  extract_lets met tot diff lim j d1
  have shown : d1.closing e
      = ((d.closing e).1, (d.closing e).2.1, (d.closing e).2.2.1, (d.closing e).2.2.2.1, if i = e then closureDiff sum a else (d.closing e).2.2.2.2) := by
    have value : d1.get F.MET_EL_CLOSE.D e = if i = e then closureDiff sum a else d.get F.MET_EL_CLOSE.D e := by
      split
      next same =>
        subst same
        exact (Dev.get_set_here _ _ _ hi (by decide) (by decide)).trans (ofS_mod 32 j)
      next other => exact Dev.get_set_ne _ _ _ _ (by simp only [Fld.key, Fld.off, F.MET_EL_CLOSE.D]; omega)
    have string : d1.get F.MET_EL_CFG.STRING e = d.get F.MET_EL_CFG.STRING e := Dev.get_set_apart _ (by decide) _ he (by decide) (by decide)
    have els : d1.metEl = d.metEl := Dev.set_metEl ..
    have array : d1.arr = d.arr := Dev.set_arr ..
    have run : d1.met = d.met := Dev.set_met ..
    rw [Dev.closing, value, string, els, array, run]
    rfl
  split
  · exact (closing_of_calm (calm_raise ..) he).trans ((closing_metFlag ..).trans shown)
  · exact shown

/-- The part of another element leaves what an element's own part reads and shows. -/
theorem elClose_other (d : Dev) {i e : Nat} (hi : i < 8) (he : e < 8) (h : i ≠ e) : (d.elClose i).closing e = d.closing e := by
  have emptied : (d.mel i fun x => { x with prev := none }).closing e = d.closing e := by
    rw [Dev.closing, Dev.closing, Dev.mel]
    dsimp only
    rw [unit_modify_ne h]
    rfl
  unfold Dev.elClose
  split
  · split
    · extract_lets d1
      split
      · rw [elClosure_closing _ hi he, if_neg h, emptied]
      · exact emptied
    · rfl
  · rfl

/-- An element's own part ends its window and shows the difference. -/
theorem elClose_own (d : Dev) {e k : Nat} {sum : Int} {abs : Nat} {l : List Rat} {q D : Nat} (he : e < 8) (hl : e < d.metEl.length)
    (h : d.closing e = (some (k, sum, abs), some (k, l), some (k, true), q, D)) :
    (d.elClose e).closing e = (none, some (k, l), some (k, true), q, closureDiff sum (l.getD q 0)) := by
  simp only [Dev.closing, Prod.mk.injEq] at h
  obtain ⟨prev, array, run, string, shown⟩ := h
  unfold Dev.elClose
  rw [prev, array]
  dsimp only
  have whole : (d.mel e fun x => { x with prev := none }).met.runPrev = some (k, true) := run
  rw [if_pos rfl, if_pos whole, elClosure_closing _ he he, if_pos rfl]
  have emptied : (unit (d.metEl.modify e fun x => { x with prev := none }) e).prev = none := by
    rw [unit_modify _ _ _ hl]
  have words : (d.mel e fun x => { x with prev := none }).get F.MET_EL_CFG.STRING e = q := (get_of_regs rfl ..).trans string
  rw [words]
  simp only [Dev.closing, words, Prod.mk.injEq, and_true]
  exact ⟨emptied, array, run⟩

/-- A window that is ended is left. -/
theorem elClose_ended (d : Dev) {e : Nat} (h : (d.closing e).1 = none) : d.elClose e = d := by
  have prev : (unit d.metEl e).prev = none := h
  unfold Dev.elClose
  rw [prev]

theorem elClose_length (d : Dev) (e : Nat) : (d.elClose e).metEl.length = d.metEl.length := by
  have closure : ∀ (x : Dev) (i : Nat) (sum : Int) (abs : Nat) (a : Rat), (x.elClosure i sum abs a).metEl.length = x.metEl.length := fun x i sum abs a => by
    unfold Dev.elClosure
    extract_lets met tot diff lim j d1
    have shown : d1.metEl.length = x.metEl.length := congrArg List.length (Dev.set_metEl ..)
    have flags : ∀ l b, (d1.metFlag l b).metEl.length = d1.metEl.length := fun l b =>
      each_keeps (fun d : Dev => d.metEl.length) (fun d k => List.length_modify ..) _ _
    split
    · exact (congrArg (fun x : Calm => x.metEl.length) (calm_raise ..)).trans ((flags ..).trans shown)
    · exact shown
  unfold Dev.elClose
  split
  · split
    · extract_lets d1
      have kept : d1.metEl.length = d.metEl.length := List.length_modify ..
      split
      · exact (closure ..).trans kept
      · exact kept
    · rfl
  · rfl

theorem elCloses_shows {ks : List Nat} {e k : Nat} {sum : Int} {abs : Nat} {l : List Rat} {q D : Nat} (hk : ∀ i ∈ ks, i < 8) (he : e ∈ ks) (d : Dev)
    (hl : e < d.metEl.length) (h : d.closing e = (some (k, sum, abs), some (k, l), some (k, true), q, D)) :
    (d.each ks fun d e => d.elClose e).closing e = (none, some (k, l), some (k, true), q, closureDiff sum (l.getD q 0)) := by
  have e8 := hk e he
  have stays : ∀ (ks : List Nat) (d : Dev), (∀ i ∈ ks, i < 8) → (d.closing e).1 = none → (d.each ks fun d e => d.elClose e).closing e = d.closing e := by
    intro ks
    induction ks with
    | nil => exact fun _ _ _ => rfl
    | cons i ks ih =>
      intro d hk hd
      have one : (d.elClose i).closing e = d.closing e := by
        by_cases same : i = e
        · subst same
          rw [elClose_ended _ hd]
        · exact elClose_other d (hk i List.mem_cons_self) e8 same
      exact (ih _ (fun j hj => hk j (List.mem_cons_of_mem _ hj)) (by rw [one, hd])).trans one
  induction ks generalizing d with
  | nil => exact absurd he List.not_mem_nil
  | cons i ks ih =>
    have rest : ∀ j ∈ ks, j < 8 := fun j hj => hk j (List.mem_cons_of_mem _ hj)
    by_cases same : i = e
    · subst same
      have own := elClose_own d e8 hl h
      exact (stays ks _ rest (by rw [own])).trans own
    · have mem : e ∈ ks := (List.mem_cons.mp he).resolve_left (Ne.symm same)
      exact ih rest mem _ (by rwa [elClose_length]) ((elClose_other d (hk i List.mem_cons_self) e8 same).trans h)

/-- Settles O35: a sample instant, a channel lost, a crossing timeout, an interval, a harmonic burst, a closure window. -/
theorem meteringEvents : Obligations.MeteringEvents := by
  unfold Obligations.MeteringEvents
  intro s hl
  refine ⟨?_, ?_, ?_, ?_, ?_, ?_⟩
  · exact fun _ => meterSample_counts hl
  · exact fun _ _ => metChannelLost_flags hl
  · exact fun _ _ => zcTimeout_empties hl
  · exact fun _ _ => meterIntervalClose_closes hl
  · exact fun _ => harmonicBurstDone_ends hl
  · intro e k sum abs l hd hc hp ha hr hm
    refine after_main ((exec_meterClosureWindow ..).trans (meterClosureWindow_eq s)) hl ?_
    have mem : e.val ∈ s.dev.metEls.filter fun e => s.dev.bit F.MET_EL_CFG.CLOSE_EN e := by
      simp [Dev.metEls, those, hd, hc, e.isLt]
    have bound : ∀ i ∈ s.dev.metEls.filter fun e => s.dev.bit F.MET_EL_CFG.CLOSE_EN e, i < 8 := fun i hi => by
      simp only [Dev.metEls, those, List.mem_filter, List.mem_range] at hi
      exact hi.1.1
    have shown := elCloses_shows bound mem s.dev hm (k := k) (sum := sum) (abs := abs) (l := l) (by rw [Dev.closing, hp, ha, hr])
    rw [← closing_of_calm (calm_settle _) e.isLt] at shown
    simp only [Dev.closing, Prod.mk.injEq] at shown
    obtain ⟨ended, -, -, -, value⟩ := shown
    exact ⟨ended, value⟩

end Sys2Proof.Machine
end

section
/-! SUPPORT. The networks: Announces, PTP exchanges, links and passing frames (R458 to R463, R474). -/

namespace Sys2Proof.Machine

set_option Elab.async false

theorem exec_ptpAnnounce (n : Fin 2) (a : Announce) (s : State) : exec (.ptpAnnounce n a) s = execPtpAnnounce n a s := rfl
theorem exec_ptpMasterLost (n : Fin 2) (s : State) : exec (.ptpMasterLost n) s = execPtpMasterLost n s := rfl
theorem exec_ptpSync (n : Fin 2) (m : PtpSync) (s : State) : exec (.ptpSync n m) s = execPtpSync n m s := rfl
theorem exec_ptpFollowUp (n : Fin 2) (m : PtpSync) (s : State) : exec (.ptpFollowUp n m) s = execPtpFollowUp n m s := rfl
theorem exec_ptpDelayResp (n : Fin 2) (m : PtpDelay) (s : State) : exec (.ptpDelayResp n m) s = execPtpDelayResp n m s := rfl
theorem exec_ptpPdelayResp (n : Fin 2) (m : PtpDelay) (s : State) : exec (.ptpPdelayResp n m) s = execPtpPdelayResp n m s := rfl
theorem exec_ptpPdelayReq (n : Fin 2) (m : PtpSync) (s : State) : exec (.ptpPdelayReq n m) s = execPtpPdelayReq n m s := rfl
theorem exec_ethLinkUp (x : EthModule) (s : State) : exec (.ethLinkUp x) s = execEthLinkUp x s := rfl
theorem exec_ethLinkDown (x : EthModule) (s : State) : exec (.ethLinkDown x) s = execEthLinkDown x s := rfl
theorem exec_ethFrameForward (n : Fin 2) (x : EthFrame) (s : State) : exec (.ethFrameForward n x) s = execEthFrameForward n x s := rfl

/-! A measurement moves the servo and leaves the ports (R456) -/

/-- What a measurement is free to change. -/
def servoMask : Mask := ⟨[F.CHR_OFFSET.THETA, F.CHR_STATE.NT_STATE, F.CHR_STATE.VALID, F.CHR_STEPS.COUNT, F.CHR_RATE.R, F.CHR_INC.INC], [.met, .metEl]⟩

section
variable (d : Dev)

@[simp] theorem servoView_endsFix : d.endsFix.calm.view servoMask = d.calm.view servoMask := by
  refine view_each (fun d e => ?_) _ _
  split
  · split
    · exact view_mel _ _ (by decide) _
    · rfl
  · rfl

@[simp] theorem servoView_stepFlag : d.stepFlag.calm.view servoMask = d.calm.view servoMask :=
  (view_withMet _ (by decide) _).trans (view_each (fun d e => view_mel d e (by decide) _) _ _)

@[simp] theorem servoView_ntState (s : Nat) : (d.ntState s).calm.view servoMask = d.calm.view servoMask := by
  simp (disch := decide) [Dev.ntState, Dev.cond]

@[simp] theorem servoView_ntStep (x : Int) (w : Nat) : (d.ntStep x w).calm.view servoMask = d.calm.view servoMask := by
  simp (disch := decide) [Dev.ntStep, Dev.ntSet]

@[simp] theorem servoView_servoLock (th : Rat) : (d.servoLock th).calm.view servoMask = d.calm.view servoMask := by
  simp (disch := decide) [Dev.servoLock, Dev.chrLock]

theorem servoView_measure (th : Rat) : (d.measure th).calm.view servoMask = d.calm.view servoMask := by
  have heard : ∀ e : Dev, (e.servoHeard th).calm.view servoMask = e.calm.view servoMask := fun e => by
    simp (disch := decide) [Dev.servoHeard]
  have rate : ∀ e : Dev, (e.servoRate th).calm.view servoMask = e.calm.view servoMask := fun e => by
    simp (disch := decide) [Dev.servoRate, Dev.setRate]
  simp (disch := decide) [Dev.measure, heard, rate]

/-! A request for the delay -/

theorem delayRequest_ports (n : Nat) : ∃ t, (d.delayRequest n).ports
    = d.ports.modify n fun p => { p with req := some ((unit d.ports n).seq, t), seq := ((unit d.ports n).seq + 1) % 65536 } :=
  ⟨_, congrArg (fun l : List Port => l.modify n _) (Dev.set_ports ..)⟩

theorem delayRequest_get {n : Nat} {f : Fld} (h : f.apart F.ETH_TX.COUNT = true) {a b c : Nat} (ha : a < f.n1) (hb : b < f.n2) (hc : c < f.n3) :
    (d.delayRequest n).get f a b c = d.get f a b c := by
  unfold Dev.delayRequest
  extract_lets peer t q d1
  exact (get_of_regs rfl ..).trans (Dev.get_set_apart _ h _ ha hb hc)

theorem delayRequest_sent {n : Nat} (hn : n < 2) : (d.delayRequest n).get F.ETH_TX.COUNT n = (d.get F.ETH_TX.COUNT n + 1) % 2 ^ 64 := by
  unfold Dev.delayRequest
  extract_lets peer t q d1
  exact (get_of_regs rfl ..).trans ((Dev.get_inc_same _ _ _ hn (by decide) (by decide)).trans rfl)

/-! Masters (R460) -/

/-- A port takes the best of its masters and shows it. -/
def Dev.bestShown (d : Dev) (n : Nat) : Dev :=
  let p := unit d.ports n
  let b := d.bestOf ((p.masters.map Prod.fst).filter (fun a => p.qualified.contains a.sender && a.stepsRemoved < 255))
  let d := (d.port n (fun p => { p with best := b })).setB F.ETH_STATUS.MASTER b.isSome n
  d.set F.ETH_GM.CLOCK_ID (match b with | some a => a.identity | none => 0) n

theorem bestShown_masters (k n : Nat) : (unit (d.bestShown k).ports n).masters = (unit d.ports n).masters := by
  unfold Dev.bestShown
  extract_lets p b d1
  rw [Dev.set_ports]
  have ports : d1.ports = d.ports.modify k fun p => { p with best := b } := Dev.set_ports ..
  rw [ports]
  exact unit_modify_keeps Port.masters (by intro x; rfl) ..

theorem bestShown_here {n : Nat} (hn : n < 2) (hp : n < d.ports.length) :
    (d.bestShown n).bit F.ETH_STATUS.MASTER n = (unit (d.bestShown n).ports n).best.isSome := by
  unfold Dev.bestShown
  extract_lets p b d1
  have ports : d1.ports = d.ports.modify n fun p => { p with best := b } := Dev.set_ports ..
  rw [Dev.set_ports, ports, unit_modify _ _ _ hp, Dev.bit_set_apart _ (by decide) _ hn (by decide) (by decide)]
  exact Dev.bit_setB_same _ (by decide) _ hn (by decide) (by decide)

theorem bestShown_there {k n : Nat} (h : k ≠ n) (hn : n < 2) : (d.bestShown k).bit F.ETH_STATUS.MASTER n = d.bit F.ETH_STATUS.MASTER n
    ∧ (unit (d.bestShown k).ports n).best = (unit d.ports n).best := by
  unfold Dev.bestShown
  extract_lets p b d1
  have ports : d1.ports = d.ports.modify k fun p => { p with best := b } := Dev.set_ports ..
  refine ⟨?_, ?_⟩
  · refine (Dev.bit_set_apart _ (by decide) _ hn (by decide) (by decide)).trans (Dev.bit_of_get ?_)
    exact Dev.get_set_ne (d.port k _) _ _ _ (by simp only [Fld.key, Fld.off, F.ETH_STATUS.MASTER]; omega)
  · rw [Dev.set_ports, ports, unit_modify_ne h]

theorem masterSync_eq : d.masterSync = (((d.bestShown 0).bestShown 1).each [0, 1]
    (fun e n => e.setB F.ETH_STATUS.SELECTED (((d.bestShown 0).bestShown 1).servoPort == some n) n)).free := rfl

theorem masterSync_shows {n : Nat} (hn : n < 2) (hp : n < d.ports.length) : (unit d.masterSync.ports n).masters = (unit d.ports n).masters
    ∧ d.masterSync.bit F.ETH_STATUS.MASTER n = (unit d.masterSync.ports n).best.isSome := by
  have selected : d.masterSync.ports = ((d.bestShown 0).bestShown 1).ports
      ∧ d.masterSync.bit F.ETH_STATUS.MASTER n = ((d.bestShown 0).bestShown 1).bit F.ETH_STATUS.MASTER n := by
    rw [masterSync_eq]
    exact ⟨each_keeps Dev.ports (fun d k => Dev.set_ports ..) _ _,
      each_keeps (fun d : Dev => d.bit F.ETH_STATUS.MASTER n) (fun d k => Dev.bit_setB_apart _ (by decide) _ hn (by decide) (by decide)) _ _⟩
  rw [selected.1, selected.2, bestShown_masters, bestShown_masters]
  refine ⟨rfl, ?_⟩
  by_cases h : n = 0
  · subst h
    obtain ⟨bit, best⟩ := bestShown_there (d.bestShown 0) (show 1 ≠ 0 by decide) hn
    rw [bit, best, bestShown_here d hn hp]
  · obtain rfl : n = 1 := by omega
    refine bestShown_here _ hn ?_
    unfold Dev.bestShown
    extract_lets p b d1
    have ports : d1.ports = d.ports.modify 0 fun p => { p with best := b } := Dev.set_ports ..
    rwa [Dev.set_ports, ports, List.length_modify]

theorem announceArm_keeps (n : Nat) : (d.announceArm n).ports = d.ports ∧ (d.announceArm n).regs = d.regs := by
  unfold Dev.announceArm
  split <;> exact ⟨rfl, rfl⟩

end

/-! A message received where PTP is on -/

section
variable (d : Dev) {n domain : Nat} {udp : Bool}

theorem ptpRx_on (hn : n < 2) (h : d.ptpOn n domain udp = true) (g : Dev → Dev) : d.ptpRx n domain udp g = g (d.inc F.ETH_RX.COUNT 1 n) := by
  have link : d.bit F.ETH_STATUS.LINK n = true := by
    simp only [Dev.ptpOn, Bool.and_eq_true] at h
    exact h.1.1.1
  have still : (d.inc F.ETH_RX.COUNT 1 n).ptpOn n domain udp = true := by
    have read : ∀ {f : Fld}, f.apart F.ETH_RX.COUNT = true → n < f.n1 → 0 < f.n2 → 0 < f.n3 → (d.inc F.ETH_RX.COUNT 1 n).get f n = d.get f n :=
      fun hf ha hb hc => Dev.get_inc_apart _ hf _ ha hb hc
    rw [← h, Dev.ptpOn, Dev.ptpOn, Dev.bit_of_get (read (by decide) hn (by decide) (by decide)), Dev.bit_of_get (read (by decide) hn (by decide) (by decide)),
      Dev.bit_of_get (read (by decide) hn (by decide) (by decide)), read (by decide) hn (by decide) (by decide)]
  rw [Dev.ptpRx, if_pos link, if_pos still]

theorem inc_ports (f : Fld) (v a b c : Nat) : (d.inc f v a b c).ports = d.ports := Dev.set_ports ..

theorem rx_bit {f : Fld} (h : f.apart F.ETH_RX.COUNT = true) (ha : n < f.n1) (hb : 0 < f.n2) (hc : 0 < f.n3) :
    (d.inc F.ETH_RX.COUNT 1 n).bit f n = d.bit f n := Dev.bit_of_get (Dev.get_inc_apart _ h _ ha hb hc)

/-- The times of a port do not depend on what it counts. -/
theorem rx_ns {k : Nat} (hk : k < 2) (x : Nat) : (d.inc F.ETH_RX.COUNT 1 n).ntNs ((d.inc F.ETH_RX.COUNT 1 n).stampAt x) = d.ntNs (d.stampAt x)
    ∧ (d.inc F.ETH_RX.COUNT 1 n).get F.ETH_CFG.MODE k = d.get F.ETH_CFG.MODE k
    ∧ (d.inc F.ETH_RX.COUNT 1 n).extRx k = d.extRx k ∧ (d.inc F.ETH_RX.COUNT 1 n).extTx k = d.extTx k := by
  have read : ∀ {f : Fld} {a : Nat}, f.apart F.ETH_RX.COUNT = true → a < f.n1 → 0 < f.n2 → 0 < f.n3 → (d.inc F.ETH_RX.COUNT 1 n).get f a = d.get f a :=
    fun hf ha hb hc => Dev.get_inc_apart _ hf _ ha hb hc
  have nt : (d.inc F.ETH_RX.COUNT 1 n).nt = d.nt := by unfold Dev.inc Dev.set; split <;> rfl
  have tick : (d.inc F.ETH_RX.COUNT 1 n).tick = d.tick := Dev.set_tick ..
  have chr : (d.inc F.ETH_RX.COUNT 1 n).chr = d.chr := Dev.set_chr ..
  refine ⟨?_, read (by decide) hk (by decide) (by decide), ?_, ?_⟩
  · rw [Dev.ntNs, Dev.ntNs, Dev.ntAt, Dev.ntAt, Dev.stampAt, Dev.stampAt, nt, tick, chr, read (by decide) (by decide) (by decide) (by decide),
      Dev.bit_of_get (read (by decide) (by decide) (by decide) (by decide))]
  · rw [Dev.extRx, Dev.extRx, Dev.getS, Dev.getS, read (by decide) hk (by decide) (by decide)]
  · rw [Dev.extTx, Dev.extTx, Dev.getS, Dev.getS, read (by decide) hk (by decide) (by decide)]

theorem rx_times (hn : n < 2) (x pos : Nat) : (d.inc F.ETH_RX.COUNT 1 n).rxNs n x pos = d.rxNs n x pos := by
  obtain ⟨-, mode, ext, -⟩ := rx_ns d (n := n) hn 0
  rw [Dev.rxNs, Dev.rxNs, Dev.rxBall, Dev.rxBall, mode, ext, (rx_ns d (n := n) hn _).1]

theorem rx_dwell (hn : n < 2) (x pos t : Nat) : (d.inc F.ETH_RX.COUNT 1 n).dwell n n x pos t = d.dwell n n x pos t := by
  obtain ⟨-, mode, -, ext⟩ := rx_ns d (n := n) hn 0
  rw [Dev.dwell, Dev.dwell, rx_times d hn, Dev.txNs, Dev.txNs, Dev.txBall, Dev.txBall, mode, ext, (rx_ns d (n := n) hn _).1]

end

theorem ports_settle (d : Dev) : d.settle.ports = d.ports := congrArg Calm.ports (calm_settle d)

section
variable {s : State} {n : Fin 2} (hl : s.dev.live = true) (hp : n.val < s.dev.ports.length)
include hl hp

theorem ptpAnnounce_kept {a : Announce} (h : s.dev.ptpOn n a.domain a.udp = true) : After (.ptpAnnounce n a) s fun d =>
    (a, s.dev.tick) ∈ (unit d.ports n).masters ∧ d.bit F.ETH_STATUS.MASTER n = (unit d.ports n).best.isSome := by
  refine after_main ((exec_ptpAnnounce ..).trans (by rw [execPtpAnnounce])) hl ?_
  rw [ptpRx_on _ n.isLt h]
  extract_lets again d1
  have tick : (s.dev.inc F.ETH_RX.COUNT 1 n).tick = s.dev.tick := Dev.set_tick ..
  have kept : (a, s.dev.tick) ∈ (unit d1.ports n).masters := by
    have here : unit d1.ports n = _ := unit_modify (s.dev.inc F.ETH_RX.COUNT 1 n).ports n _ (by rwa [inc_ports])
    rw [here, ← tick]
    exact List.mem_cons_self
  have room : n.val < (d1.announceArm n).ports.length := by
    rw [(announceArm_keeps d1 n).1]
    exact (List.length_modify ..).trans_gt (by rwa [inc_ports])
  obtain ⟨masters, shown⟩ := masterSync_shows (d1.announceArm n) n.isLt room
  rw [(announceArm_keeps d1 n).1] at masters
  have asked : ∀ e : Dev, (unit (e.delayRequest n).ports n).masters = (unit e.ports n).masters ∧ (unit (e.delayRequest n).ports n).best = (unit e.ports n).best
      ∧ (e.delayRequest n).bit F.ETH_STATUS.MASTER n = e.bit F.ETH_STATUS.MASTER n := fun e => by
    obtain ⟨t, ports⟩ := delayRequest_ports e n
    rw [ports]
    exact ⟨unit_modify_keeps Port.masters (by intro x; rfl) .., unit_modify_keeps Port.best (by intro x; rfl) ..,
      Dev.bit_of_get (delayRequest_get e (by decide) n.isLt (by decide) (by decide))⟩
  have last : ∀ (e : Dev) (b : Bool), (unit (e.cond b (fun x => x.delayRequest n)).settle.ports n).masters = (unit e.ports n).masters
      ∧ ((e.cond b (fun x => x.delayRequest n)).settle.bit F.ETH_STATUS.MASTER n = (unit (e.cond b (fun x => x.delayRequest n)).settle.ports n).best.isSome
        ↔ e.bit F.ETH_STATUS.MASTER n = (unit e.ports n).best.isSome) := fun e b => by
    rw [ports_settle, settle_bit _ (by decide) n.isLt]
    cases b
    · exact ⟨rfl, Iff.rfl⟩
    · obtain ⟨m, best, bit⟩ := asked e
      refine ⟨m, ?_⟩
      change (e.delayRequest n).bit F.ETH_STATUS.MASTER n = (unit (e.delayRequest n).ports n).best.isSome ↔ _
      rw [best, bit]
  obtain ⟨same, shows⟩ := last (d1.announceArm n).masterSync (d1.bit F.ETH_CFG.P2P n)
  exact ⟨(same.trans masters).symm ▸ kept, shows.mpr shown⟩

omit hp in
theorem ptpMasterLost_drops {x : Nat} (hd : s.dev.due (.announce n) = some x) (ha : s.dev.ahead x = true) (hp : n.val < s.dev.ports.length) :
    After (.ptpMasterLost n) s fun d => ∀ y ∈ (unit d.ports n).masters, max s.dev.tick x < y.2 + lostAfter y.1 := by
  refine after_fire ((exec_ptpMasterLost ..).trans (by rw [execPtpMasterLost])) hl hd ha ?_
  extract_lets d1
  have tick : ((s.dev.until x).disarm (.announce n)).tick = max s.dev.tick x := until_tick _ _ hl
  have ports : ((s.dev.until x).disarm (.announce n)).ports = s.dev.ports := elapse_ports ..
  have room : n.val < (d1.announceArm n).ports.length := by
    rw [(announceArm_keeps d1 n).1]
    exact (List.length_modify ..).trans_gt (by rwa [ports])
  obtain ⟨masters, -⟩ := masterSync_shows (d1.announceArm n) n.isLt room
  rw [(announceArm_keeps d1 n).1] at masters
  have here : unit d1.ports n = _ := unit_modify ((s.dev.until x).disarm (.announce n)).ports n _ (by rwa [ports])
  intro y hy
  rw [ports_settle, masters, here, tick] at hy
  exact of_decide_eq_true (List.mem_filter.1 hy).2

/-! Syncs -/

/-- What the module asks for, once a measurement has come to a port. -/
def Dev.noted (d : Dev) (n : Nat) (x : Rat × Rat) : Dev :=
  (d.port n (fun p => { p with last := some x })).cond (!d.bit F.ETH_CFG.P2P n) (·.delayRequest n)

omit hl hp in
theorem ptpMeasure_view (d : Dev) (k : Nat) (t2 : Int) (origin : Nat) (c : Int) :
    ∃ x, (d.ptpMeasure k t2 origin c).calm.view servoMask = (d.noted k x).calm.view servoMask := by
  refine ⟨((t2 : Rat) - d.extRx k, (origin : Rat) + (c : Rat) / 65536), ?_⟩
  unfold Dev.ptpMeasure
  extract_lets rx tx th d1
  split
  · exact servoView_measure ..
  · rfl

omit hl hp in
theorem measured_ports (d : Dev) (k : Nat) (t2 : Int) (origin : Nat) (c : Int) :
    ∃ x, (d.ptpMeasure k t2 origin c).settle.ports = (d.noted k x).ports
      ∧ ∀ n < 2, (d.ptpMeasure k t2 origin c).settle.get F.ETH_TX.COUNT n = (d.noted k x).get F.ETH_TX.COUNT n := by
  obtain ⟨x, v⟩ := ptpMeasure_view d k t2 origin c
  exact ⟨x, (ports_settle _).trans (ports_of_view v (by decide)), fun n hn => (settle_get _ (by decide) hn).trans (get_of_view v (by decide) hn)⟩

theorem ptpSync_kept {m : PtpSync} (h : s.dev.ptpOn n m.domain m.udp = true) (from_ : s.dev.fromBest n m.sender = true) (two : m.twoStep = true) :
    After (.ptpSync n m) s fun d =>
      (unit d.ports n).syncRx.map Prod.fst = some m ∧ d.get F.ETH_RX.COUNT n = (s.dev.get F.ETH_RX.COUNT n + 1) % 2 ^ 64 := by
  refine after_main ((exec_ptpSync ..).trans (by rw [execPtpSync])) hl ?_
  rw [ptpRx_on _ n.isLt h, if_pos (by rw [Dev.fromBest, inc_ports]; exact from_)]
  extract_lets d1 t2
  rw [if_pos two, ports_settle, settle_get _ (by decide) n.isLt]
  have ports : d1.ports = s.dev.ports := (elapse_ports ..).trans (inc_ports ..)
  refine ⟨?_, ?_⟩
  · have here : unit (d1.port n fun p => { p with syncRx := some (m, t2) }).ports n = _ := unit_modify d1.ports n _ (by rwa [ports])
    rw [here]
    rfl
  · exact (get_of_regs rfl ..).trans ((until_get _ _ (by decide) n.isLt).trans (Dev.get_inc_same _ _ _ n.isLt (by decide) (by decide)))

theorem ptpSync_answered {m : PtpSync} (h : s.dev.ptpOn n m.domain m.udp = true) (from_ : s.dev.fromBest n m.sender = true) (two : m.twoStep = false)
    (direct : s.dev.bit F.ETH_CFG.P2P n = false) : After (.ptpSync n m) s fun d =>
      (unit d.ports n).req.map Prod.fst = some (unit s.dev.ports n).seq ∧ d.get F.ETH_TX.COUNT n = (s.dev.get F.ETH_TX.COUNT n + 1) % 2 ^ 64 := by
  refine after_main ((exec_ptpSync ..).trans (by rw [execPtpSync])) hl ?_
  rw [ptpRx_on _ n.isLt h, if_pos (by rw [Dev.fromBest, inc_ports]; exact from_)]
  extract_lets d1 t2
  rw [if_neg (by simp [two])]
  have ports : d1.ports = s.dev.ports := (elapse_ports ..).trans (inc_ports ..)
  have read : ∀ {f : Fld}, f.apart F.ETH_RX.COUNT = true → f.apart F.RSV_TIME.COUNT = true → n.val < f.n1 → 0 < f.n2 → 0 < f.n3 → d1.get f n = s.dev.get f n :=
    fun h1 h2 ha hb hc => (until_get _ _ h2 ha hb hc).trans (Dev.get_inc_apart _ h1 _ ha hb hc)
  obtain ⟨x, same, sent⟩ := measured_ports d1 n t2 m.origin m.correction
  have asks : d1.noted n x = (d1.port n fun p => { p with last := some x }).delayRequest n := by
    rw [Dev.noted, Dev.bit_of_get (read (by decide) (by decide) n.isLt (by decide) (by decide)), direct]
    rfl
  rw [same, sent n n.isLt, asks]
  refine ⟨?_, ?_⟩
  · obtain ⟨t, req⟩ := delayRequest_ports (d1.port n fun p => { p with last := some x }) n
    have seq : (unit (d1.port n fun p => { p with last := some x }).ports n).seq = (unit d1.ports n).seq :=
      unit_modify_keeps Port.seq (by intro x; rfl) ..
    have room : n.val < (d1.port n fun p => { p with last := some x }).ports.length := (List.length_modify ..).trans_gt (by rwa [ports])
    rw [req, unit_modify _ _ _ room, Option.map_some, seq, ports]
  · rw [delayRequest_sent _ n.isLt, ← read (f := F.ETH_TX.COUNT) (by decide) (by decide) n.isLt (by decide) (by decide)]
    rfl

omit hl hp in
theorem noted_syncRx (d : Dev) (k : Nat) (x : Rat × Rat) : (unit (d.noted k x).ports k).syncRx = (unit d.ports k).syncRx := by
  have last : (unit (d.port k fun p => { p with last := some x }).ports k).syncRx = (unit d.ports k).syncRx := unit_modify_keeps Port.syncRx (by intro x; rfl) ..
  rw [Dev.noted, Dev.cond]
  split
  · obtain ⟨t, req⟩ := delayRequest_ports (d.port k fun p => { p with last := some x }) k
    rw [req]
    exact (unit_modify_keeps Port.syncRx (by intro x; rfl) ..).trans last
  · exact last

theorem ptpFollowUp_taken {m y : PtpSync} {t2 : Int} (h : s.dev.ptpOn n m.domain m.udp = true) (rx : (unit s.dev.ports n).syncRx = some (y, t2))
    (from_ : s.dev.fromBest n m.sender = true) (sender : y.sender = m.sender) (seq : y.seq = m.seq) :
    After (.ptpFollowUp n m) s fun d => (unit d.ports n).syncRx = none := by
  refine after_main ((exec_ptpFollowUp ..).trans (by rw [execPtpFollowUp])) hl ?_
  rw [ptpRx_on _ n.isLt h]
  simp only [inc_ports, rx]
  rw [if_pos (by simp only [Dev.fromBest, inc_ports, sender, seq, beq_self_eq_true, Bool.and_true]; exact from_)]
  obtain ⟨x, same, -⟩ := measured_ports ((s.dev.inc F.ETH_RX.COUNT 1 n).port n fun p => { p with syncRx := none }) n t2 m.origin (y.correction + m.correction)
  have cleared : (unit ((s.dev.inc F.ETH_RX.COUNT 1 n).port n fun p => { p with syncRx := none }).ports n).syncRx = none := by
    have here : unit ((s.dev.inc F.ETH_RX.COUNT 1 n).port n fun p => { p with syncRx := none }).ports n = _ := unit_modify (s.dev.inc F.ETH_RX.COUNT 1 n).ports n _ (by rwa [inc_ports])
    rw [here]
  rw [same, noted_syncRx]
  exact cleared

/-! Delays -/

omit hl in
theorem setDelay_shows {d : Dev} (same : d.ports = s.dev.ports) (x : Rat) :
    (unit ((d.port n fun p => { p with req := none }).setDelay n x).settle.ports n).req = none
      ∧ ((d.port n fun p => { p with req := none }).setDelay n x).settle.get F.ETH_DELAY.DELAY n = fRnd x % 2 ^ 32
      ∧ (unit ((d.port n fun p => { p with req := none }).setDelay n x).settle.ports n).delay = x := by
  have here : unit ((d.port n fun p => { p with req := none }).setDelay n x).settle.ports n = { unit d.ports n with req := none, delay := x } := by
    rw [ports_settle, Dev.setDelay, Dev.set_ports]
    refine (unit_modify (d.port n fun p => { p with req := none }).ports n _ ((List.length_modify ..).trans_gt (by rwa [same]))).trans ?_
    have first : unit (d.port n fun p => { p with req := none }).ports n = _ := unit_modify d.ports n _ (by rwa [same])
    rw [first]
  rw [here]
  exact ⟨rfl, (settle_get _ (by decide) n.isLt).trans (Dev.get_set_here _ _ _ n.isLt (by decide) (by decide)), rfl⟩

theorem ptpDelayResp_shows {m : PtpDelay} {t1 t2 t3 : Rat} (h : s.dev.ptpOn n m.domain m.udp = true) (direct : s.dev.bit F.ETH_CFG.P2P n = false)
    (from_ : s.dev.fromBest n m.sender = true) (req : s.dev.reqOf n m.seq = some t3) (last : (unit s.dev.ports n).last = some (t2, t1)) :
    After (.ptpDelayResp n m) s fun d => (unit d.ports n).req = none ∧ d.get F.ETH_DELAY.DELAY n = fRnd (unit d.ports n).delay % 2 ^ 32
      ∧ 2 * (unit d.ports n).delay = t2 - t1 + ((m.peerRx : Rat) - t3) - (m.correction : Rat) / 65536 := by
  refine after_main ((exec_ptpDelayResp ..).trans (by rw [execPtpDelayResp])) hl ?_
  rw [ptpRx_on _ n.isLt h, rx_bit _ (by decide) n.isLt (by decide) (by decide)]
  have from' : (s.dev.inc F.ETH_RX.COUNT 1 n).fromBest n m.sender = true := by rw [Dev.fromBest, inc_ports]; exact from_
  have req' : (s.dev.inc F.ETH_RX.COUNT 1 n).reqOf n m.seq = some t3 := by rw [Dev.reqOf, inc_ports]; exact req
  simp only [direct, from', req', inc_ports, last, Bool.not_true, Bool.or_false, Bool.false_eq_true, if_false]
  obtain ⟨none_, shown, delay⟩ := setDelay_shows hp (inc_ports s.dev F.ETH_RX.COUNT 1 n 0 0) ((t2 - t1 + ((m.peerRx : Rat) - t3) - (m.correction : Rat) / 65536) / 2)
  rw [delay]
  exact ⟨none_, shown, by ring⟩

theorem ptpPdelayResp_shows {m : PtpDelay} {t1 : Rat} (h : s.dev.ptpOn n m.domain m.udp = true) (peer : s.dev.bit F.ETH_CFG.P2P n = true)
    (req : s.dev.reqOf n m.seq = some t1) :
    After (.ptpPdelayResp n m) s fun d => (unit d.ports n).req = none ∧ d.get F.ETH_DELAY.DELAY n = fRnd (unit d.ports n).delay % 2 ^ 32
      ∧ 2 * (unit d.ports n).delay = s.dev.rxNs n m.rx m.pos - t1 - ((m.peerTx - m.peerRx : Int) : Rat) - (m.correction : Rat) / 65536 := by
  refine after_main ((exec_ptpPdelayResp ..).trans (by rw [execPtpPdelayResp])) hl ?_
  rw [ptpRx_on _ n.isLt h, rx_bit _ (by decide) n.isLt (by decide) (by decide)]
  have req' : (s.dev.inc F.ETH_RX.COUNT 1 n).reqOf n m.seq = some t1 := by rw [Dev.reqOf, inc_ports]; exact req
  simp only [peer, req', rx_times _ n.isLt, Bool.not_true, Bool.false_eq_true, if_false]
  obtain ⟨none_, shown, delay⟩ := setDelay_shows hp (inc_ports s.dev F.ETH_RX.COUNT 1 n 0 0)
    ((s.dev.rxNs n m.rx m.pos - t1 - ((m.peerTx - m.peerRx : Int) : Rat) - (m.correction : Rat) / 65536) / 2)
  rw [delay]
  exact ⟨none_, shown, by ring⟩

omit hp in
theorem ptpPdelayReq_answered {m : PtpSync} (h : s.dev.ptpOn n m.domain m.udp = true) (peer : s.dev.bit F.ETH_CFG.P2P n = true) :
    Leaves (.ptpPdelayReq n m) s fun e =>
      Out.pdelayResp n m.seq (m.correction + s.dev.dwell n n m.rx m.pos (m.rx + Config.freeNat s.dev.freeCtr)) 0 (s.dev.udpSum n) ∈ e.out
        ∧ e.get F.ETH_TX.COUNT n = (s.dev.get F.ETH_TX.COUNT n + 1) % 2 ^ 64 := by
  refine leaves_main ((exec_ptpPdelayReq ..).trans (by rw [execPtpPdelayReq])) hl ?_
  have sum : (s.dev.inc F.ETH_RX.COUNT 1 n).udpSum n = s.dev.udpSum n := by
    rw [Dev.udpSum, Dev.udpSum, rx_bit _ (by decide) n.isLt (by decide) (by decide)]
  have ctr : (s.dev.inc F.ETH_RX.COUNT 1 n).freeCtr = s.dev.freeCtr := Dev.set_freeCtr ..
  rw [ptpRx_on _ n.isLt h, if_pos ((rx_bit _ (by decide) n.isLt (by decide) (by decide)).trans peer), rx_dwell _ n.isLt, sum, ctr]
  refine ⟨?_, ?_⟩
  · rw [show ∀ e : Dev, (e.inc F.ETH_TX.COUNT 1 n).out = e.out from fun e => Dev.set_out ..]
    exact List.mem_cons_self
  · refine (Dev.get_inc_same _ _ _ n.isLt (by decide) (by decide)).trans ?_
    rw [show ∀ (e : Dev) (o : Out), ((e.emit o).free).get F.ETH_TX.COUNT n = e.get F.ETH_TX.COUNT n from fun e o => get_of_regs rfl ..,
      Dev.get_inc_apart _ (by decide) _ n.isLt (by decide) (by decide)]
    rfl

end

/-! The link of a port -/

section
variable {s : State} (hl : s.dev.live = true)
include hl

theorem ethLinkUp_up {x : EthModule} (on_ : s.dev.get F.ETH_CFG.MODE x.port ≠ 0) (clock : s.dev.bit F.PLL_STATUS.LOCKED 3 = true)
    (light : (s.dev.ethPins x).ethDark x.port = false) : After (.ethLinkUp x) s fun d => d.bit F.ETH_STATUS.LINK x.port = true := by
  refine after_main ((exec_ethLinkUp ..).trans (by rw [execEthLinkUp])) hl ?_
  have mode : (s.dev.ethPins x).get F.ETH_CFG.MODE x.port ≠ 0 := on_
  have pll : (s.dev.ethPins x).bit F.PLL_STATUS.LOCKED 3 = true := clock
  extract_lets n d1
  rw [if_neg (by simp only [d1, n, pll, light]; simpa using mode), settle_bit _ (by decide) x.port.isLt, Dev.cond]
  have up : (d1.setB F.ETH_STATUS.LINK true n).bit F.ETH_STATUS.LINK x.port = true := Dev.bit_setB_same _ (by decide) _ x.port.isLt (by decide) (by decide)
  split
  · exact (Dev.bit_of_get (delayRequest_get _ (by decide) x.port.isLt (by decide) (by decide))).trans up
  · exact up

theorem ethLinkDown_down (x : EthModule) : After (.ethLinkDown x) s fun d => d.bit F.ETH_STATUS.LINK x.port = false
    ∧ (x.port.val < s.dev.ports.length → (unit d.ports x.port).absent = (x.absent && ((unit s.dev.ports x.port).absent || decide (2 ≤ x.ticks)))) := by
  refine after_main ((exec_ethLinkDown ..).trans (by rw [execEthLinkDown])) hl ?_
  refine ⟨?_, fun hp => ?_⟩
  · rw [settle_bit _ (by decide) x.port.isLt, Dev.ethDown]
    split
    · rw [bit_of_calm (calm_raise ..) (by decide) x.port.isLt]
      exact Dev.bit_setB_same _ (by decide) _ x.port.isLt (by decide) (by decide)
    next h => simpa using h
  · have pins : unit (s.dev.ethPins x).ports x.port = _ := unit_modify s.dev.ports x.port _ hp
    have same : ((s.dev.ethPins x).ethDown x.port).ports = (s.dev.ethPins x).ports := by
      rw [Dev.ethDown]
      split
      · exact (congrArg Calm.ports (calm_raise ..)).trans (Dev.set_ports ..)
      · rfl
    rw [ports_settle, same, pins]

end

/-! Frames that pass through (R462) -/

section
variable {s : State} {n : Fin 2} {x : EthFrame} (hl : s.dev.live = true) (up : s.dev.bit F.ETH_STATUS.LINK n = true)
include hl up

/-- A port has received a frame. -/
def Dev.heard (d : Dev) (n : Nat) (x : EthFrame) : Dev := (d.until (x.rx / 64)).inc F.ETH_RX.COUNT 1 n

omit hl up in
theorem heard_get (d : Dev) (k : Nat) (x : EthFrame) {f : Fld} {a : Nat} (h1 : f.apart F.ETH_RX.COUNT = true := by decide) (h2 : f.apart F.RSV_TIME.COUNT = true := by decide)
    (ha : a < f.n1 := by decide) (hb : 0 < f.n2 := by decide) (hc : 0 < f.n3 := by decide) : (d.heard k x).get f a = d.get f a :=
  (Dev.get_inc_apart _ h1 _ ha hb hc).trans (until_get _ _ h2 ha hb hc)

omit hl up in
theorem heard_mac (d : Dev) (k : Nat) (x : EthFrame) : (beAt x.bytes 0 6 = (d.heard k x).get F.ETH_MAC.MAC 0 ∨ beAt x.bytes 0 6 = (d.heard k x).get F.ETH_MAC.MAC 1)
    = (beAt x.bytes 0 6 = d.get F.ETH_MAC.MAC 0 ∨ beAt x.bytes 0 6 = d.get F.ETH_MAC.MAC 1) := by rw [heard_get, heard_get]

theorem ethFrame_own (own : beAt x.bytes 0 6 = s.dev.get F.ETH_MAC.MAC 0 ∨ beAt x.bytes 0 6 = s.dev.get F.ETH_MAC.MAC 1) : After (.ethFrameForward n x) s fun d =>
    d.get F.ETH_RX.COUNT n = (s.dev.get F.ETH_RX.COUNT n + 1) % 2 ^ 64
      ∧ d.get F.ETH_DROP.COUNT n = (if (ptpAt x.bytes).isSome then s.dev.get F.ETH_DROP.COUNT n else (s.dev.get F.ETH_DROP.COUNT n + 1) % 2 ^ 64)
      ∧ d.get F.ETH_FWD.COUNT n = s.dev.get F.ETH_FWD.COUNT n := by
  refine after_main ((exec_ethFrameForward ..).trans (by rw [execEthFrameForward])) hl ?_
  rw [if_neg (by simp [up])]
  extract_lets d1 dest
  have mine : dest = d1.get F.ETH_MAC.MAC 0 ∨ dest = d1.get F.ETH_MAC.MAC 1 := (heard_mac s.dev n x).symm ▸ own
  have rx : d1.get F.ETH_RX.COUNT n = (s.dev.get F.ETH_RX.COUNT n + 1) % 2 ^ 64 :=
    (Dev.get_inc_same _ _ _ n.isLt (by decide) (by decide)).trans (by rw [until_get _ _ (by decide) n.isLt]; rfl)
  have drop : d1.get F.ETH_DROP.COUNT n = s.dev.get F.ETH_DROP.COUNT n := heard_get _ _ _ (ha := n.isLt)
  have fwd : d1.get F.ETH_FWD.COUNT n = s.dev.get F.ETH_FWD.COUNT n := heard_get _ _ _ (ha := n.isLt)
  rw [if_pos mine, settle_get _ (by decide) n.isLt, settle_get _ (by decide) n.isLt, settle_get _ (by decide) n.isLt]
  split
  · exact ⟨rx, drop, fwd⟩
  · exact ⟨(Dev.get_inc_apart _ (by decide) _ n.isLt (by decide) (by decide)).trans rx,
      (Dev.get_inc_same _ _ _ n.isLt (by decide) (by decide)).trans (by rw [drop]; rfl),
      (Dev.get_inc_apart _ (by decide) _ n.isLt (by decide) (by decide)).trans fwd⟩

section
variable (other : ¬ (beAt x.bytes 0 6 = s.dev.get F.ETH_MAC.MAC 0 ∨ beAt x.bytes 0 6 = s.dev.get F.ETH_MAC.MAC 1))
include other

theorem ethFrame_held (held : s.dev.bit F.ETH_CFG.P2P n = true ∧ (ptpKind x.bytes = some 2 ∨ ptpKind x.bytes = some 3)) : After (.ethFrameForward n x) s fun d =>
    d.get F.ETH_FWD.COUNT n = s.dev.get F.ETH_FWD.COUNT n ∧ d.get F.ETH_DROP.COUNT n = s.dev.get F.ETH_DROP.COUNT n := by
  refine after_main ((exec_ethFrameForward ..).trans (by rw [execEthFrameForward])) hl ?_
  rw [if_neg (by simp [up])]
  extract_lets d1 dest q r
  have p2p : d1.bit F.ETH_CFG.P2P n = s.dev.bit F.ETH_CFG.P2P n := Dev.bit_of_get (heard_get _ _ _ (ha := n.isLt))
  rw [if_neg ((heard_mac s.dev n x).symm ▸ other), if_pos (p2p.symm ▸ held), settle_get _ (by decide) n.isLt, settle_get _ (by decide) n.isLt]
  exact ⟨heard_get _ _ _ (ha := n.isLt), heard_get _ _ _ (ha := n.isLt)⟩

theorem ethFrame_passes (free : ¬ (s.dev.bit F.ETH_CFG.P2P n = true ∧ (ptpKind x.bytes = some 2 ∨ ptpKind x.bytes = some 3)))
    (pass0 : s.dev.bit F.ETH_CFG.PASS 0 = true) (pass1 : s.dev.bit F.ETH_CFG.PASS 1 = true)
    (room : ((unit s.dev.ports n).queue.filter (fun t => decide (x.rx < t))).length < 16) (hp : n.val < s.dev.ports.length) :
    After (.ethFrameForward n x) s fun d =>
      d.get F.ETH_FWD.COUNT n = (s.dev.get F.ETH_FWD.COUNT n + 1) % 2 ^ 64
        ∧ d.get F.ETH_TX.COUNT (1 - n.val) = (s.dev.get F.ETH_TX.COUNT (1 - n.val) + 1) % 2 ^ 64
        ∧ d.get F.ETH_DROP.COUNT n = s.dev.get F.ETH_DROP.COUNT n ∧ x.tx ∈ (unit d.ports n).queue := by
  refine after_main ((exec_ethFrameForward ..).trans (by rw [execEthFrameForward])) hl ?_
  rw [if_neg (by simp [up])]
  extract_lets d1 dest q d2 d3 r
  have p2p : d1.bit F.ETH_CFG.P2P n = s.dev.bit F.ETH_CFG.P2P n := Dev.bit_of_get (heard_get _ _ _ (ha := n.isLt))
  have both : (d1.bit F.ETH_CFG.PASS 0 && d1.bit F.ETH_CFG.PASS 1) = true := by
    rw [show d1.bit F.ETH_CFG.PASS 0 = true from (Dev.bit_of_get (heard_get ..)).trans pass0,
      show d1.bit F.ETH_CFG.PASS 1 = true from (Dev.bit_of_get (heard_get ..)).trans pass1]
    rfl
  have ports : d1.ports = s.dev.ports := (inc_ports ..).trans (elapse_ports ..)
  have short : ¬ 16 ≤ q.length := by
    rw [show q = ((unit d1.ports n).queue.filter (fun t => decide (x.rx < t))) from rfl, ports]
    omega
  rw [if_neg ((heard_mac s.dev n x).symm ▸ other), if_neg (p2p.symm ▸ free), if_pos both, if_neg short]
  have peer : 1 - n.val < 2 := by omega
  have queued : (d1.port n fun p => { p with queue := q ++ [x.tx] }).regs = d1.regs := rfl
  have fwd : d3.get F.ETH_FWD.COUNT n = (s.dev.get F.ETH_FWD.COUNT n + 1) % 2 ^ 64 :=
    (Dev.get_inc_apart _ (by decide) _ n.isLt (by decide) (by decide)).trans ((Dev.get_inc_same _ _ _ n.isLt (by decide) (by decide)).trans
      (by rw [get_of_regs queued, show d1.get F.ETH_FWD.COUNT n = _ from heard_get _ _ _ (ha := n.isLt)]; rfl))
  have tx : d3.get F.ETH_TX.COUNT (1 - n.val) = (s.dev.get F.ETH_TX.COUNT (1 - n.val) + 1) % 2 ^ 64 :=
    (Dev.get_inc_same _ _ _ peer (by decide) (by decide)).trans (by
      rw [show d2.get F.ETH_TX.COUNT (1 - n.val) = _ from (Dev.get_inc_apart _ (by decide) _ peer (by decide) (by decide)).trans
        ((get_of_regs queued ..).trans (heard_get _ _ _ (ha := peer)))]
      rfl)
  have drop : d3.get F.ETH_DROP.COUNT n = s.dev.get F.ETH_DROP.COUNT n :=
    (Dev.get_inc_apart _ (by decide) _ n.isLt (by decide) (by decide)).trans ((Dev.get_inc_apart _ (by decide) _ n.isLt (by decide) (by decide)).trans
      ((get_of_regs queued ..).trans (heard_get _ _ _ (ha := n.isLt))))
  have queue : x.tx ∈ (unit d3.ports n).queue := by
    have here : unit (d1.port n fun p => { p with queue := q ++ [x.tx] }).ports n = _ := unit_modify d1.ports n _ (by rwa [ports])
    rw [show d3.ports = (d1.port n fun p => { p with queue := q ++ [x.tx] }).ports from (inc_ports ..).trans (inc_ports ..), here]
    simp
  have ends : ∀ b : Bool, let e := (d3.emit (.forward (1 - n.val) r.1 (crc32 r.1))).cond b (fun d => d.inc F.ETH_TC_OVF.COUNT 1 n)
      (∀ {f : Fld} {a : Nat}, f.apart F.ETH_TC_OVF.COUNT = true → a < f.n1 → 0 < f.n2 → 0 < f.n3 → e.get f a = d3.get f a) ∧ e.ports = d3.ports := by
    intro b
    cases b
    · exact ⟨fun _ _ _ _ => rfl, rfl⟩
    · exact ⟨fun h ha hb hc => Dev.get_inc_apart _ h _ ha hb hc, inc_ports ..⟩
  obtain ⟨read, same⟩ := ends r.2
  rw [settle_get _ (by decide) n.isLt, settle_get _ (by decide) peer, settle_get _ (by decide) n.isLt, ports_settle]
  exact ⟨(read (by decide) n.isLt (by decide) (by decide)).trans fwd, (read (by decide) peer (by decide) (by decide)).trans tx,
    (read (by decide) n.isLt (by decide) (by decide)).trans drop, same ▸ queue⟩

end

end

/-- Settles O37: the clauses on Announces, exchanges, links and frames, one by one. -/
theorem ethernetEvents : Obligations.EthernetEvents :=
  ⟨fun _ _ hl hp => ⟨fun _ h => ptpAnnounce_kept hl hp h, fun _ hd ha => ptpMasterLost_drops hl hd ha hp,
      fun _ h from_ => ⟨fun two => ptpSync_kept hl hp h from_ two, fun two direct => ptpSync_answered hl hp h from_ two direct⟩,
      fun _ _ _ h rx from_ sender seq => ptpFollowUp_taken hl hp h rx from_ sender seq,
      fun _ _ _ _ h direct from_ req last => ptpDelayResp_shows hl hp h direct from_ req last,
      fun _ _ h peer req => ptpPdelayResp_shows hl hp h peer req, fun _ h peer => ptpPdelayReq_answered hl h peer⟩,
    fun _ x hl => ⟨fun on_ clock light => ethLinkUp_up hl on_ clock light, ethLinkDown_down hl x⟩,
    fun _ _ _ hl up => ⟨fun own => ethFrame_own hl up own, fun other held => ethFrame_held hl up other held,
      fun other free pass0 pass1 room hp => ethFrame_passes hl up other free pass0 pass1 room hp⟩⟩

end Sys2Proof.Machine
end

section
/-! SUPPORT. The Archive, the end of a C2 incident and the ERR pair (R484, R489, R494 to R499). -/

namespace Sys2Proof.Machine

set_option Elab.async false

theorem exec_archiveTrigger (c : HostCmd) (s : State) : exec (.archiveTrigger c) s = execArchiveTrigger c s := rfl
theorem exec_archiveDump (c : HostCmd) (s : State) : exec (.archiveDump c) s = execArchiveDump c s := rfl
theorem exec_archiveRelease (c : HostCmd) (s : State) : exec (.archiveRelease c) s = execArchiveRelease c s := rfl
theorem exec_archiveFreeze (s : State) : exec .archiveFreeze s = execArchiveFreeze s := rfl
theorem exec_arcDumpDone (o : Fin 4) (s : State) : exec (.arcDumpDone o) s = execArcDumpDone o s := rfl
theorem exec_arcMem (r : Fin 2) (k : Nat) (s : State) : exec (.arcMem r k) s = execArcMem r k s := rfl
theorem exec_incidentEndC2 (s : State) : exec .incidentEndC2 s = execIncidentEndC2 s := rfl
theorem exec_errFaultHoldEnd (s : State) : exec .errFaultHoldEnd s = execErrFaultHoldEnd s := rfl

/-! What an applied command leaves of its effect -/

section
variable (d x : Dev) (op : Nat) (c : HostCmd) (r : Nat)

theorem answered_reg : (d.answered op c x r).reg = x.reg :=
  show (d.answered op c x r).rest.reg = x.rest.reg from congrArg Dev.reg (books_answered d op c x r).2

theorem answered_reads {f : Fld} (h : bookFields.all f.apart = true) {i j k : Nat} (hi : i < f.n1 := by decide) (hj : j < f.n2 := by decide)
    (hk : k < f.n3 := by decide) : (d.answered op c x r).get f i j k = x.get f i j k := get_of_sight (books_answered d op c x r).1 h hi hj hk

theorem atBeat_reg : (d.atBeat op c).reg = d.reg := by simp [Dev.atBeat, Dev.until, Dev.pendSync, each_keeps Dev.reg]

end

/-! Commands of the Archive -/

section
variable (d : Dev)

theorem arcMark_get (type flags object aux : Nat) (body : List Int) (len : Nat) {f : Fld} (h : f.apart F.ARC_MARK_LOST.COUNT = true)
    (ha : 0 < f.n1) (hb : 0 < f.n2) (hc : 0 < f.n3) : (d.arcMark type flags object aux body len).get f = d.get f := by
  unfold Dev.arcMark
  split
  · extract_lets m kept d1
    split
    · exact Dev.get_inc_apart _ h _ ha hb hc
    · rfl
  · rfl

/-- R494: the registers and the deadline of an image that a trigger closes. -/
def Dev.triggered (d : Dev) (cause : Nat) : Dev :=
  let d := ((d.set F.ARC_STATE.STATE 2).set F.ARC_STATE.CAUSE cause).set F.ARC_TRIG_TICK.TICK d.stamp
  let d := { d with reg := { d.reg with trigSample := d.reg.beatBytes, trigMarker := d.reg.markerBytes } }
  d.arm .freeze ((d.beat + d.get F.ARC_CFG.POST_BEATS + 1) * 1024 - d.tick)

theorem arcTrigger_recording (h : d.get F.ARC_STATE.STATE = 1) (cause aux : Nat) :
    d.arcTrigger cause aux = (d.triggered cause).arcMark 0x13 0 cause aux [] 32 := by
  unfold Dev.arcTrigger
  rw [h]
  rfl

theorem arcTrigger_triggers (h : d.get F.ARC_STATE.STATE = 1) (aux : Nat) :
    (d.arcTrigger 0x100 aux).get F.ARC_STATE.STATE = 2 ∧ (d.arcTrigger 0x100 aux).get F.ARC_STATE.CAUSE = 0x100 := by
  rw [arcTrigger_recording d h, arcMark_get _ _ _ _ _ _ _ (by decide) (by decide) (by decide) (by decide), arcMark_get _ _ _ _ _ _ _ (by decide) (by decide) (by decide) (by decide), Dev.triggered]
  extract_lets d1
  rw [get_arm, get_arm]
  refine ⟨?_, ?_⟩
  · refine (Dev.get_set_apart _ (by decide) _ (by decide) (by decide) (by decide)).trans ((Dev.get_set_apart _ (by decide) _ (by decide) (by decide) (by decide)).trans ?_)
    exact Dev.get_set_here _ _ _ (by decide) (by decide) (by decide)
  · refine (Dev.get_set_apart _ (by decide) _ (by decide) (by decide) (by decide)).trans ?_
    exact Dev.get_set_here _ _ _ (by decide) (by decide) (by decide)

end

theorem archiveTrigger_triggers {s : State} {c : HostCmd} (h : Ready 0x68 c s) (rec : s.dev.get F.ARC_STATE.STATE = 1) :
    Leaves (.archiveTrigger c) s fun e => Completed e 0x68 0 c ∧ e.get F.ARC_STATE.STATE = 2 ∧ e.get F.ARC_STATE.CAUSE = 0x100 := by
  refine leaves_main ((exec_archiveTrigger ..).trans (by rw [execArchiveTrigger])) h.1 ?_
  obtain ⟨state, cause⟩ := arcTrigger_triggers (s.dev.atBeat 0x68 c) ((atBeat_get _ _ _ (by decide) (by decide) (by decide)).trans rec) (arg c 0)
  rw [command_applied h (by decide) rfl]
  exact ⟨completed_answered .., (answered_reads _ _ _ _ _ (by decide)).trans state, (answered_reads _ _ _ _ _ (by decide)).trans cause⟩

/-- A request that the budget and the save window allow waits its turn, but for one that may not wait. -/
theorem loanFile_reg (d : Dev) {op inst : Nat} (hop : op < 11) (win : d.pwr.saveWin = false) (room : d.get F.LOAN_OP_COST.COST op ≤ d.loanBudget (isSite op))
    (waits : d.get F.LOAN_OP_WAIT.WAIT_MS op ≠ 0) : (d.loanFile op inst).reg = d.reg := by
  unfold Dev.loanFile
  extract_lets cost d1 mine
  have synced : ∀ e : Dev, e.waitSync.reg = e.reg := fun e => each_keeps Dev.reg (fun d k => Dev.set_reg ..) _ _
  have wait : d1.get F.LOAN_OP_WAIT.WAIT_MS op = d.get F.LOAN_OP_WAIT.WAIT_MS op :=
    (each_keeps (fun e : Dev => e.get F.LOAN_OP_WAIT.WAIT_MS op) (fun e k => Dev.get_set_apart _ (by decide) _ hop (by decide) (by decide)) _ _).trans
      (get_of_regs rfl ..)
  rw [if_neg (by simp [win]), if_neg (by omega), if_neg (fun h => waits (wait ▸ h.1))]
  exact synced _

/-- A dump has been asked for. -/
def Dev.dumping (d : Dev) (j : Nat × Nat × Nat × Nat) : Dev := { d with reg := { d.reg with dump := some j } }

theorem dumping_get (d : Dev) (j : Nat × Nat × Nat × Nat) (f : Fld) (a b c : Nat) : (d.dumping j).get f a b c = d.get f a b c := get_of_regs rfl ..

theorem dumping_pwr (d : Dev) (j : Nat × Nat × Nat × Nat) : (d.dumping j).pwr = d.pwr := rfl

theorem archiveDump_begins {s : State} {c : HostCmd} (h : Ready 0x69 c s) (frozen : s.dev.get F.ARC_STATE.STATE = 3) (idle : s.dev.reg.dump = none)
    (some_ : 0 < arg c 3)
    (within : arg c 2 + arg c 3 ≤ (if (arg c 4).testBit 0 then s.dev.get F.ARC_MARK_SEGS.SEGS else s.dev.get F.ARC_IMAGE_SEGS.SEGS))
    (win : s.dev.pwr.saveWin = false) (room : s.dev.get F.LOAN_OP_COST.COST 6 ≤ s.dev.get F.LOAN_CHIP.BUDGET) (waits : s.dev.get F.LOAN_OP_WAIT.WAIT_MS 6 ≠ 0) :
    Leaves (.archiveDump c) s fun e => Completed e 0x69 0 c ∧ e.reg.dump = some (arg2 c 0, arg c 2, arg c 3, arg c 4 % 2) := by
  refine leaves_main ((exec_archiveDump ..).trans (by rw [execArchiveDump])) h.1 ?_
  have admitted : (s.dev.atBeat 0x69 c).dumpFault c = none := by
    unfold Dev.dumpFault
    rw [atBeat_get _ _ _ (g := F.ARC_MARK_SEGS.SEGS) (by decide) (by decide) (by decide), atBeat_get _ _ _ (g := F.ARC_IMAGE_SEGS.SEGS) (by decide) (by decide) (by decide),
      atBeat_get _ _ _ (g := F.ARC_STATE.STATE) (by decide) (by decide) (by decide), atBeat_reg, frozen, idle]
    extract_lets segs
    have within' : arg c 2 + arg c 3 ≤ segs := within
    rw [if_neg (by simp), if_neg (by simp), if_neg (by omega)]
  rw [command_applied h (by decide) (x := ((s.dev.atBeat 0x69 c).dumping (arg2 c 0, arg c 2, arg c 3, arg c 4 % 2)).loanFile 6 0) (by rw [admitted]; rfl)]
  refine ⟨completed_answered .., ?_⟩
  have win' : ((s.dev.atBeat 0x69 c).dumping (arg2 c 0, arg c 2, arg c 3, arg c 4 % 2)).pwr.saveWin = false :=
    (congrArg Pwr.saveWin (dumping_pwr ..)).trans ((atBeat_saveWin s.dev 0x69 c).trans win)
  rw [answered_reg, loanFile_reg _ (by decide) win']
  · rfl
  · rw [Dev.loanBudget, if_neg (by decide), dumping_get, dumping_get, atBeat_get _ _ _ (by decide) (by decide) (by decide),
      atBeat_get _ _ _ (by decide) (by decide) (by decide)]
    exact room
  · rw [dumping_get, atBeat_get _ _ _ (by decide) (by decide) (by decide)]
    exact waits

/-- R496: the image is empty, and the Archive records again where it records. -/
def Dev.imageReleased (d : Dev) : Dev :=
  let d := (d.arcStart).disarm .freeze
  let d := (((d.set F.ARC_IMAGE_SEGS.SEGS 0).set F.ARC_TRIG_SEG.SEG 0).set F.ARC_MARK_SEGS.SEGS 0).set F.ARC_MARK_TRIG_SEG.SEG 0
  if LINKED ≤ d.st ∧ d.st ≤ STOP then d else d.set F.ARC_STATE.STATE 0

theorem released_shows (d : Dev) : d.imageReleased.get F.ARC_IMAGE_SEGS.SEGS = 0 ∧ d.imageReleased.reg.samples = []
    ∧ d.imageReleased.get F.ARC_STATE.STATE = if LINKED ≤ d.st ∧ d.st ≤ STOP then 1 else 0 := by
  unfold Dev.imageReleased Dev.arcStart
  extract_lets d1 reg d2 d3
  have first : ∀ (f : Fld), d2.get f = d1.get f := fun f => rfl
  have st : d3.st = d.st := by simp +decide [d3, first, d1, Dev.st]
  have segs : d3.get F.ARC_IMAGE_SEGS.SEGS = 0 := by simp +decide [d3]
  have state : d3.get F.ARC_STATE.STATE = 1 := by simp +decide [d3, first, d1]
  have samples : d3.reg.samples = [] := by simp [d3, d2]
  rw [st]
  split
  · exact ⟨segs, samples, state⟩
  · exact ⟨(Dev.get_set_apart _ (by decide) _ (by decide) (by decide) (by decide)).trans segs, (congrArg Reg.samples (Dev.set_reg ..)).trans samples,
      Dev.get_set_here _ _ _ (by decide) (by decide) (by decide)⟩

theorem archiveRelease_records {s : State} {c : HostCmd} (h : Ready 0x6A c s) (idle : s.dev.reg.dump = none)
    (held : s.dev.get F.ARC_STATE.STATE = 3 ∨ s.dev.get F.ARC_STATE.STATE = 4) :
    Leaves (.archiveRelease c) s fun e => Completed e 0x6A 0 c ∧ e.get F.ARC_IMAGE_SEGS.SEGS = 0 ∧ e.reg.samples = []
      ∧ e.get F.ARC_STATE.STATE = if LINKED ≤ s.dev.st ∧ s.dev.st ≤ STOP then 1 else 0 := by
  refine leaves_main ((exec_archiveRelease ..).trans (by rw [execArchiveRelease])) h.1 ?_
  have idle' : ¬ (s.dev.atBeat 0x6A c).reg.dump.isSome = true := by rw [atBeat_reg, idle]; decide
  have held' : (s.dev.atBeat 0x6A c).get F.ARC_STATE.STATE = 3 ∨ (s.dev.atBeat 0x6A c).get F.ARC_STATE.STATE = 4 := by
    rwa [atBeat_get _ _ _ (by decide) (by decide) (by decide)]
  obtain ⟨segs, samples, state⟩ := released_shows (s.dev.atBeat 0x6A c)
  rw [checked_applied h (by decide) (x := (s.dev.atBeat 0x6A c).imageReleased) ((if_neg idle').trans (if_pos held'))]
  refine ⟨completed_answered .., (answered_reads _ _ _ _ _ (by decide)).trans segs, ?_, (answered_reads _ _ _ _ _ (by decide)).trans (state.trans ?_)⟩
  · rw [answered_reg, samples]
  · rw [atBeat_st]

/-! Events of the Archive -/

section
variable {s : State} (hl : s.dev.live = true)
include hl

theorem archiveFreeze_counts {x : Nat} (hd : s.dev.due .freeze = some x) (ha : s.dev.ahead x = true) (closing : s.dev.get F.ARC_STATE.STATE = 2) :
    After .archiveFreeze s fun d => d.get F.ARC_FREEZES.COUNT = (s.dev.get F.ARC_FREEZES.COUNT + 1) % 2 ^ 64
      ∧ d.get F.ARC_IMAGE_SEGS.SEGS = min ((s.dev.reg.sampleBytes + 65503) / 65504) 245760
      ∧ d.get F.ARC_MARK_SEGS.SEGS = min ((s.dev.reg.markerBytes + 65503) / 65504) 4096 := by
  refine after_fire ((exec_archiveFreeze ..).trans (by rw [execArchiveFreeze])) hl hd ha ?_
  have read : ∀ {f : Fld}, f.apart F.RSV_TIME.COUNT = true → 0 < f.n1 → 0 < f.n2 → 0 < f.n3 → ((s.dev.until x).disarm .freeze).get f = s.dev.get f :=
    fun h ha hb hc => (get_disarm ..).trans (until_get _ _ h ha hb hc)
  have reg : ((s.dev.until x).disarm .freeze).reg = s.dev.reg := elapse_reg ..
  rw [read (by decide) (by decide) (by decide) (by decide), if_neg (not_not_intro closing)]
  extract_lets a b d1 d2
  rw [get_of_calm ((calm_settle _).trans (calm_raise ..)) (by decide), get_of_calm ((calm_settle _).trans (calm_raise ..)) (by decide),
    get_of_calm ((calm_settle _).trans (calm_raise ..)) (by decide)]
  refine ⟨?_, ?_, ?_⟩
  · refine (Dev.get_inc_same _ _ _ (by decide) (by decide) (by decide)).trans ?_
    rw [show (d1.set F.ARC_STATE.STATE 3).get F.ARC_FREEZES.COUNT = ((s.dev.until x).disarm .freeze).get F.ARC_FREEZES.COUNT by simp +decide [d1],
      read (by decide) (by decide) (by decide) (by decide)]
    rfl
  · have segs : d2.get F.ARC_IMAGE_SEGS.SEGS = a.1 % 2 ^ 32 := (Dev.get_inc_apart _ (by decide) 1 (by decide) (by decide) (by decide)).trans (by simp +decide [d1]; rfl)
    rw [segs, show a.1 = _ from congrArg (fun r : Reg => (imageSegs r.sampleBytes r.trigSample 245760).1) reg]
    exact Nat.mod_eq_of_lt (Nat.lt_of_le_of_lt (Nat.min_le_right ..) (by decide))
  · have segs : d2.get F.ARC_MARK_SEGS.SEGS = b.1 % 2 ^ 32 := (Dev.get_inc_apart _ (by decide) 1 (by decide) (by decide) (by decide)).trans (by simp +decide [d1]; rfl)
    rw [segs, show b.1 = _ from congrArg (fun r : Reg => (imageSegs r.markerBytes r.trigMarker 4096).1) reg]
    exact Nat.mod_eq_of_lt (Nat.lt_of_le_of_lt (Nat.min_le_right ..) (by decide))

/-- R498: a dump has ended, with `k` segments written. -/
def Dev.dumpEnded (d : Dev) (k : Nat) : Dev :=
  (({ d with reg := { d.reg with dump := none } }).setB F.ARC_STATE.DUMPING false).set F.ARC_DUMPED.BYTES (65536 * k)

theorem arcDumpDone_ends {addr first n image : Nat} {outcome : Fin 4} (dump : s.dev.reg.dump = some (addr, first, n, image))
    (dumping : s.dev.bit F.ARC_STATE.DUMPING = true) (other : outcome ≠ 1) (awake : s.dev.clk.lpddrAwake = true)
    (ha : s.dev.ahead (if outcome.val = 0 then s.dev.reg.dumpAt + (6553600 * n + max 1 (s.dev.get F.ARC_DUMP.MBPS) - 1) / max 1 (s.dev.get F.ARC_DUMP.MBPS)
      else s.dev.tick) = true) :
    After (.arcDumpDone outcome) s fun d => d.bit F.ARC_STATE.DUMPING = false ∧ (outcome = 0 → d.get F.ARC_DUMPED.BYTES = 65536 * n % 2 ^ 64) := by
  refine after_main ((exec_arcDumpDone ..).trans (by rw [execArcDumpDone])) hl ?_
  have other' : ¬ outcome.val = 1 := fun h => other (Fin.ext h)
  rw [dump]
  dsimp -zeta only
  rw [if_neg (by simp [dumping, other', awake])]
  extract_lets rate
  rw [wait_ahead ha]
  extract_lets k d1 reg d2 d3
  have ended : d3.calm = (d1.dumpEnded k).calm := by
    change (if outcome.val = 2 then d2.emit (.aer 0) else d2).calm = _
    split <;> rfl
  have shown : ((d3.loanReturn 6 0).raise 197 0 image ([outcome.val, 0, 0, 0] ++ leBytes 4 k)).settle.calm = (d1.dumpEnded k).calm :=
    (calm_settle _).trans ((calm_raise ..).trans ((calm_loanReturn ..).trans ended))
  rw [bit_of_calm shown (by decide), get_of_calm shown (by decide)]
  refine ⟨(Dev.bit_set_apart _ (by decide) _ (by decide) (by decide) (by decide)).trans (Dev.bit_setB_same _ (by decide) _ (by decide) (by decide) (by decide)), fun whole => ?_⟩
  rw [show k = n from if_pos (congrArg Fin.val whole)]
  exact Dev.get_set_here _ _ _ (by decide) (by decide) (by decide)

theorem arcMem_counts (ring : Fin 2) (segment : Nat) :
    Leaves (.arcMem ring segment) s fun e => e.get F.REG_SRC_COUNT.COUNT 198 = (s.dev.get F.REG_SRC_COUNT.COUNT 198 + 1) % 2 ^ 64 := by
  refine leaves_main ((exec_arcMem ..).trans (by rw [execArcMem])) hl ?_
  rw [raise_srcCount _ _ _ _ _ _ _ (by decide) (by decide)]
  rfl

/-! The end of an incident, and of the ERR pair's hold -/

omit hl in
theorem incidentEnd_closes (d : Dev) (h : d.bit F.REG_INC.RUNNING = true) :
    d.incidentEnd.bit F.REG_INC.RUNNING = false ∧ d.incidentEnd.reg.derates = [] ∧ d.incidentEnd.reg.merged = [] := by
  rw [Dev.incidentEnd, if_pos h]
  exact ⟨(Dev.bit_of_get (get_of_regs rfl ..)).trans (Dev.bit_setB_same _ (by decide) _ (by decide) (by decide) (by decide)), rfl, rfl⟩

theorem incidentEndC2_ends (run : s.dev.bit F.REG_INC.RUNNING = true) (cls : s.dev.get F.REG_INC.CLASS = 2)
    (idle : (s.dev.reg.merged.all fun x => !s.dev.isActive x.1) = true) (ha : s.dev.ahead (s.dev.reg.lastMerge + max 1 (msT (s.dev.get F.REG_CTRL.C2_HOLD))) = true) :
    Leaves .incidentEndC2 s fun e => e.bit F.REG_INC.RUNNING = false ∧ e.reg.derates = [] ∧ e.reg.merged = [] := by
  refine leaves_main ((exec_incidentEndC2 ..).trans (by rw [execIncidentEndC2])) hl ?_
  rw [if_pos (by simp only [run, cls, idle]; rfl), wait_ahead ha]
  exact incidentEnd_closes (s.dev.until _) ((until_bit s.dev _ (by decide)).trans run)

theorem errFaultHoldEnd_heals {t : Nat} (since : s.dev.reg.errSince = some t) (none_ : s.dev.errCause = 0) (ha : s.dev.ahead (t + msT 1) = true) :
    Leaves .errFaultHoldEnd s fun e => e.bit F.REG_ERR.P = true ∧ e.bit F.REG_ERR.N = false ∧ e.get F.REG_ERR.CAUSE = 0 ∧ e.reg.errSince = none := by
  refine leaves_main ((exec_errFaultHoldEnd ..).trans (by rw [execErrFaultHoldEnd])) hl ?_
  rw [since]
  dsimp -zeta only
  rw [if_pos none_, wait_ahead ha]
  extract_lets d1
  refine ⟨?_, ?_, Dev.get_set_here _ _ _ (by decide) (by decide) (by decide), ?_⟩
  · exact (Dev.bit_set_apart _ (by decide) _ (by decide) (by decide) (by decide)).trans ((Dev.bit_setB_apart _ (by decide) _ (by decide) (by decide) (by decide)).trans
      (Dev.bit_setB_same _ (by decide) _ (by decide) (by decide) (by decide)))
  · exact (Dev.bit_set_apart _ (by decide) _ (by decide) (by decide) (by decide)).trans (Dev.bit_setB_same _ (by decide) _ (by decide) (by decide) (by decide))
  · simp [Dev.setB]

end

/-- Settles O12: the clauses on the Archive's commands and events, the end of a C2 incident and the ERR pair. -/
theorem archiveAndIncidents : Obligations.ArchiveAndIncidents :=
  ⟨fun _ _ h rec => archiveTrigger_triggers h rec,
    fun _ _ h frozen idle some_ within win room waits => archiveDump_begins h frozen idle some_ within win room waits,
    fun _ _ h idle held => archiveRelease_records h idle held, fun _ _ hl hd ha closing => archiveFreeze_counts hl hd ha closing,
    fun _ _ _ _ _ _ hl dump dumping other awake ha => arcDumpDone_ends hl dump dumping other awake ha, fun _ ring segment hl => arcMem_counts hl ring segment,
    fun _ hl run cls idle ha => incidentEndC2_ends hl run cls idle ha, fun _ _ hl since none_ ha => errFaultHoldEnd_heals hl since none_ ha⟩

end Sys2Proof.Machine
end

section
/-! SUPPORT. A lane in EXCHANGE: capability record, ECHOs, TSYNC and timeouts (R192, R204 to R210, R238). -/

namespace Sys2Proof.Machine

set_option Elab.async false

theorem exec_capUp (k : Fin 96) (bad : Fin 4) (c : CapUp) (s : State) : exec (.capUp k bad c) s = execCapUp k bad c s := rfl
theorem exec_echo (k : Fin 96) (e : Echo) (s : State) : exec (.echo k e) s = execEcho k e s := rfl
theorem exec_echoTimeout (k : Fin 96) (id : Fin 16) (s : State) : exec (.echoTimeout k id) s = execEchoTimeout k id s := rfl
theorem exec_tsyncReport (k : Fin 96) (h : UpHead) (index : Nat) (e : Int) (s : State) : exec (.tsyncReport k h index e) s = execTsyncReport k h index e s := rfl
theorem exec_laneExchangeTimeout (k : Fin 96) (s : State) : exec (.laneExchangeTimeout k) s = execLaneExchangeTimeout k s := rfl
theorem exec_laneRttRepeat (k : Fin 96) (s : State) : exec (.laneRttRepeat k) s = execLaneRttRepeat k s := rfl

/-! The failure that a held lane shows -/

/-- What a state entered presets (R299, R406). -/
def presetMask : Mask := ⟨[F.SLOT_E.E, F.SLOT_Y.Y, F.COL_STATUS.REFERENCED, F.COL_STATUS.VALID], [.slots]⟩

theorem presetView_stagedEntry (d : Dev) : d.stagedEntry.calm.view presetMask = d.calm.view presetMask := by
  have preset : ∀ (e : Dev) (k y : Nat), (e.preset k y).calm.view presetMask = e.calm.view presetMask := fun e k y =>
    view_each (fun d j => by simp (disch := decide)) _ _
  have loop : ∀ (e : Dev) (full : Bool), (e.loopEntry full).calm.view presetMask = e.calm.view presetMask := fun e full =>
    (view_each (fun d k => view_slot d k (by decide) _) _ _).trans (view_each (fun d k => preset ..) _ _)
  simp (disch := decide) [Dev.stagedEntry, loop]

theorem presetView_setState (d : Dev) (s : Nat) (o : Orig) : (d.setState s o).calm.view presetMask = d.calm.view presetMask := by
  have unproven : ∀ e : Dev, (e.each (List.range 32) fun d x =>
      d.setB F.GD_STATUS.UNPROVEN (d.bit F.GD_CFG.BOOTSTRAP x && d.bit F.GD_CFG.DECLARED x) x).calm.view presetMask = e.calm.view presetMask :=
    fun e => view_each (fun d x => view_setB (by decide) ..) _ _
  have brake : ∀ e : Dev, (e.each [24, 25] fun d c => d.level c 0).calm.view presetMask = e.calm.view presetMask :=
    fun e => view_each (fun d c => view_of_calm (calm_level ..) _) _ _
  unfold Dev.setState
  extract_lets old d1 d2 a d3 d4 d5 d6 d7
  have entered : d2.calm.view presetMask = d.calm.view presetMask := by simp [d2, d1, presetView_stagedEntry]
  have archive : d3.calm.view presetMask = d.calm.view presetMask := by simp [d3, entered]
  have silent : d4.calm.view presetMask = d.calm.view presetMask := by simp [d4, archive]
  have proofs : d5.calm.view presetMask = d.calm.view presetMask := by simp [d5, unproven, silent]
  have unarmed : d6.calm.view presetMask = d.calm.view presetMask := by simp [d6, proofs]
  have braked : d7.calm.view presetMask = d.calm.view presetMask := by simp [d7, brake, unarmed, proofs]
  simp [braked]

theorem checkFail_shows {d : Dev} {k : Fin 96} {code : Nat} (hc : 16 ≤ code) (hc' : code ≤ 20) (h : d.get F.LANE_STATUS.FAIL k = code) :
    (d.checkFail code k).get F.LANE_STATUS.FAIL k = code := by
  unfold Dev.checkFail
  extract_lets arr d1 d2
  have shown : d2.get F.LANE_STATUS.FAIL k = code := by
    have here : ∀ e : Dev, (e.set F.LANE_STATUS.FAIL code k).get F.LANE_STATUS.FAIL k = code := fun e =>
      (Dev.get_set_here _ _ _ k.isLt (by decide) (by decide)).trans (Nat.mod_eq_of_lt (Nat.lt_of_le_of_lt hc' (by decide)))
    have lane : (decide (16 ≤ code) && decide (code ≤ 20)) = true := by simp [hc, hc']
    change ((d1.raise 6 1 k [code]).cond _ _).get F.LANE_STATUS.FAIL k = code
    rw [lane]
    exact here _
  split
  · split
    · have v : (((d2.startEnd).setState STAGED).groupFile).calm.view presetMask = d2.calm.view presetMask := by simp [presetView_setState]
      exact (get_of_view v (by decide) k.isLt).trans shown
    · exact shown
  · exact h

theorem laneHold_fail (d : Dev) (k : Fin 96) {code : Nat} (hc : 16 ≤ code) (hc' : code ≤ 20) : (d.laneHold k code).get F.LANE_STATUS.FAIL k = code :=
  checkFail_shows hc hc' ((Dev.get_set_here _ _ _ k.isLt (by decide) (by decide)).trans (Nat.mod_eq_of_lt (Nat.lt_of_le_of_lt hc' (by decide))))

/-- The three things a held lane shows. -/
theorem laneHold_settled (d : Dev) (k : Fin 96) {code : Nat} (hc : 16 ≤ code) (hc' : code ≤ 20) : (d.laneHold k code).settle.laneSt k = 0
    ∧ (d.laneHold k code).settle.bit F.LANE_STATUS.HELD k = true ∧ (d.laneHold k code).settle.get F.LANE_STATUS.FAIL k = code := by
  obtain ⟨st, held⟩ := laneHold_held d k code
  exact ⟨(settle_get _ (by decide) k.isLt).trans st, (settle_bit _ (by decide) k.isLt).trans held, (settle_get _ (by decide) k.isLt).trans (laneHold_fail d k hc hc')⟩

/-! MARKs and runs -/

section
variable (d : Dev) (k : Nat)

theorem laneSend_view {m : Mask} (h : m.parts.contains .lanes = true) (t : Nat) (o : Out) : (d.laneSend t o).calm.view m = d.calm.view m := by
  unfold Dev.laneSend
  split
  · exact (view_lane _ _ h _).trans (view_emit ..)
  · exact view_emit ..

theorem markSend_view {m : Mask} (h : m.parts.contains .lanes = true) (id n : Nat) : (d.markSend k id n).calm.view m = d.calm.view m :=
  laneSend_view d h ..

theorem markSend_keeps {β : Type} (p : Lane → β) (h : ∀ (l : Lane) (x : LineTx), p { l with tx := x } = p l) (id n j : Nat) :
    p (unit (d.markSend k id n).lanes j) = p (unit d.lanes j) := laneSend_keeps p h ..

/-- A run of MARKs begins, before its MARKs are sent. -/
def Dev.runOpen (d : Dev) : Dev := (d.inc F.LANE_RTT.RUNS 1 k).lane k (fun l => { l with waiting := List.range 16, run := [] })

theorem runStart_view {m : Mask} (h : m.parts.contains .lanes = true) : (d.runStart k).calm.view m = (d.runOpen k).calm.view m :=
  view_each (fun d _ => markSend_view d k h ..) _ _

theorem runStart_keeps {β : Type} (p : Lane → β) (h : ∀ (l : Lane) (x : LineTx), p { l with tx := x } = p l)
    (h' : ∀ (l : Lane) w r, p { l with waiting := w, run := r } = p l) (j : Nat) : p (unit (d.runStart k).lanes j) = p (unit d.lanes j) := by
  have sent : ∀ e : Dev, p (unit (e.each (List.range 16) fun d i => d.markSend k i (248 * i)).lanes j) = p (unit e.lanes j) := fun e =>
    each_keeps (fun e : Dev => p (unit e.lanes j)) (fun d i => markSend_keeps d k p h ..) _ _
  refine (sent _).trans ((lane_keeps p (fun l => h' l _ _) ..).trans ?_)
  rw [Dev.inc, Dev.set_lanes]

end

/-! The capability record (R204 to R206, R238) -/

section
variable (d : Dev) (k : Nat)

theorem laneSend_prov (t : Nat) (o : Out) : (d.laneSend t o).prov = d.prov := by
  unfold Dev.laneSend
  split <;> rfl

theorem laneSend_size (t : Nat) (o : Out) : (d.laneSend t o).lanes.length = d.lanes.length := by
  unfold Dev.laneSend
  split
  · exact List.length_modify ..
  · rfl

theorem capDnDue_keeps {β : Type} (p : Dev → β) (hs : ∀ e t o, p (Dev.laneSend e t o) = p e) (hl : ∀ e g, p (Dev.lane e k g) = p e) : p (d.capDnDue k) = p d := by
  unfold Dev.capDnDue
  split
  · extract_lets per n
    split
    · rfl
    · exact (hl ..).trans (each_keeps p (fun d i => hs ..) _ _)
  · rfl

theorem capDnDue_prov : (d.capDnDue k).prov = d.prov := capDnDue_keeps d k Dev.prov (fun e => laneSend_prov e) (fun _ _ => rfl)

theorem capDnDue_size : (d.capDnDue k).lanes.length = d.lanes.length :=
  capDnDue_keeps d k (fun e => e.lanes.length) (fun e => laneSend_size e) (fun _ _ => List.length_modify ..)

/-- R205: what a capability record shows. -/
def Dev.capShown (d : Dev) (k : Nat) (c : CapUp) : Dev :=
  let d := (d.capDnDue k).lane k (fun l => { l with capAt := none })
  let d := ((d.set F.LANE_SERIAL.SERIAL c.serial k).set F.LANE_CAP.PREP_TICKS c.prepTicks k).set F.LANE_CAP.CELL_CLASS c.cellClass k
  let d := ((d.set F.LANE_CAP.BYPASS_KIND c.bypassKind k).setB F.LANE_CAP.AUTO_BYPASS c.autoBypass k).set F.LANE_CAP.HOLD_BEATS c.holdBeats k
  let d := (d.set F.LANE_CAP.PROTO_MINOR c.protoMinor k).set F.LANE_CREDIT.DN_SLOTS c.dnSlots k
  d.lane k (fun l => { l with deadtime := c.deadtime, minPulse := c.minPulse, dabDeadtime := c.dabDeadtime, sampleDelay := c.sampleDelay, fs := c.fs, prbsErr := c.prbsErr })

theorem capShown_matches (c : CapUp) : (d.capShown k c).capMatches k c = d.capMatches k c := by
  have prov : (d.capShown k c).prov = d.prov := by simp [Dev.capShown, Dev.lane, Dev.setB, capDnDue_prov]
  simp only [Dev.capMatches, Dev.ldec, Dev.dcl, prov]

theorem capShown_size (c : CapUp) : (d.capShown k c).lanes.length = d.lanes.length := by
  simp [Dev.capShown, Dev.lane, Dev.setB, capDnDue_size]

/-- What follows the record's serial number. -/
def recordMask : Mask := ⟨checkMask.regs ++ [F.LANE_CAP.PREP_TICKS, F.LANE_CAP.CELL_CLASS, F.LANE_CAP.BYPASS_KIND, F.LANE_CAP.AUTO_BYPASS, F.LANE_CAP.HOLD_BEATS,
  F.LANE_CAP.PROTO_MINOR, F.LANE_CREDIT.DN_SLOTS, F.LANE_RTT.RUNS], [.lanes, .slots]⟩

theorem capShown_serial (c : CapUp) (hk : k < 96) : (d.capShown k c).get F.LANE_SERIAL.SERIAL k = c.serial % 2 ^ 64 := by
  have v : (d.capShown k c).calm.view recordMask
      = (((d.capDnDue k).lane k fun l => { l with capAt := none }).set F.LANE_SERIAL.SERIAL c.serial k).calm.view recordMask := by
    simp (disch := decide) [Dev.capShown]
  exact (get_of_view v (by decide) hk).trans (Dev.get_set_here _ _ _ hk (by decide) (by decide))

/-- R206: a record that matches begins the round-trip measurement. -/
def Dev.capKept (d : Dev) (k : Nat) : Dev := (((d.checkPass 18 k).lane k (fun l => { l with capOk := true })).set F.LANE_RTT.RUNS 0 k).runStart k

theorem capKept_shows {k : Nat} (hk : k < 96) (size : k < d.lanes.length) : (unit (d.capKept k).lanes k).capOk = true
    ∧ (d.capKept k).get F.LANE_SERIAL.SERIAL k = d.get F.LANE_SERIAL.SERIAL k ∧ (d.capKept k).get F.LANE_RTT.RUNS k = 1 := by
  refine ⟨?_, ?_, ?_⟩
  · refine (runStart_keeps _ k Lane.capOk (fun l x => rfl) (fun l w r => rfl) k).trans ?_
    rw [Dev.set_lanes, unit_lane _ _ (by rw [lanes_of_held (held_checkPass ..)]; exact size)]
  · have v : (d.capKept k).calm.view recordMask = d.calm.view recordMask := by
      refine (runStart_view _ k (by decide)).trans ?_
      refine (view_lane _ _ (by decide) _).trans ((view_inc (by decide) ..).trans ((view_set (by decide) ..).trans ((view_lane _ _ (by decide) _).trans ?_)))
      exact view_checkPass (by decide) ..
    exact get_of_view v (by decide) hk
  · refine (get_of_view (runStart_view _ k (m := ⟨[], [.lanes]⟩) (by decide)) (by decide) hk).trans ?_
    refine (get_of_regs rfl ..).trans ((Dev.get_inc_same _ _ _ hk (by decide) (by decide)).trans ?_)
    rw [Dev.get_set_here _ _ _ hk (by decide) (by decide)]
    rfl

end

section
variable {s : State} {k : Fin 96} (hl : s.dev.live = true)
include hl

theorem capUp_taken {c : CapUp} (h4 : s.dev.laneSt k = 4) (own : s.dev.ownLocks k = true) (first : (unit s.dev.lanes k).capOk = false)
    (fresh : (s.dev.beatOf c.beat - (s.dev.beat : Int)).natAbs ≤ 4) {P : Dev → Prop}
    (hm : s.dev.capMatches k c = true → P (((s.dev.capShown k c).capKept k).settle))
    (hn : s.dev.capMatches k c = false → P (((s.dev.capShown k c).laneHold k 18).settle)) : After (.capUp k 0 c) s P := by
  refine after_main ((exec_capUp ..).trans (by rw [execCapUp])) hl ?_
  rw [show ((0 : Fin 4) : Nat) = 0 from rfl, msgIn_fresh fresh, if_pos ⟨h4, own, by simp [first]⟩]
  change P (if (s.dev.capShown k c).capMatches k c = true then (s.dev.capShown k c).capKept k else (s.dev.capShown k c).laneHold k 18).settle
  rw [capShown_matches]
  cases h : s.dev.capMatches k c
  · exact hn h
  · exact hm h

theorem capUp_refused (bad : Fin 4) (c : CapUp) {j : Nat} (hj : j < F.LANE_MCNT.COUNT.n2)
    (h : ∀ g, s.dev.msgIn k (s.dev.unlessStale c.beat bad) g = s.dev.inc F.LANE_MCNT.COUNT 1 k j) : After (.capUp k bad c) s fun d =>
      d.get F.LANE_MCNT.COUNT k j = (s.dev.get F.LANE_MCNT.COUNT k j + 1) % 2 ^ 64 ∧ d.lanes = s.dev.lanes := by
  refine after_main ((exec_capUp ..).trans (by rw [execCapUp])) hl ?_
  rw [h, lanes_settle]
  exact ⟨(settle_get _ (by decide) k.isLt hj).trans (Dev.get_inc_same _ _ _ k.isLt hj (by decide)), Dev.set_lanes ..⟩

/-! ECHOs (R207 to R210) -/

/-- What the answer to a MARK is free to change. -/
def echoMask : Mask := ⟨laneMask.regs ++ [F.LANE_RTT.RTT, F.LANE_RTT.SPREAD, F.LANE_RTT.VALID, F.LANE_RTT.RUNS, F.LANE_LAT.ONE_WAY, F.LANE_BUDGET.ESAP_K,
  F.LANE_BUDGET.UP_SLACK], [.lanes, .cells, .slots]⟩

omit hl in
theorem echoView_laneHold (d : Dev) (k code : Nat) : (d.laneHold k code).calm.view echoMask = d.calm.view echoMask := by
  unfold Dev.laneHold
  refine (view_checkFail (by decide) ..).trans ?_
  exact (view_set (by decide) ..).trans ((view_setB (by decide) ..).trans (view_laneOff (by decide) ..))

omit hl in
theorem echoView_runStart (d : Dev) (k : Nat) : (d.runStart k).calm.view echoMask = d.calm.view echoMask :=
  (runStart_view d k (by decide)).trans ((view_lane _ _ (by decide) _).trans (view_inc (by decide) ..))

omit hl in
theorem echoView_runResult (d : Dev) (k : Nat) (r : Int) (spread : Nat) : (d.runResult k r spread).calm.view echoMask = d.calm.view echoMask := by
  unfold Dev.runResult
  extract_lets d1 d2 d3
  have shown : d2.calm.view echoMask = d.calm.view echoMask := by simp (disch := decide) [d2, d1]
  have inside : d3.calm.view echoMask = d2.calm.view echoMask := by
    refine (view_esapSync (by decide) _).trans ((view_setS (by decide) ..).trans ((view_set (by decide) ..).trans ?_))
    exact (view_lane _ _ (by decide) _).trans (view_checkPass (by decide) ..)
  split
  · exact (echoView_laneHold ..).trans shown
  · split
    · exact (echoView_laneHold ..).trans (inside.trans shown)
    · refine .trans ?_ (inside.trans shown)
      unfold Dev.tsyncSend
      exact (view_free ..).trans ((laneSend_view _ (by decide) ..).trans (view_lane _ _ (by decide) _))

omit hl in
theorem echoView_rttAgain (d : Dev) (k : Nat) (r : Int) : (d.rttAgain k r).calm.view echoMask = d.calm.view echoMask := by
  unfold Dev.rttAgain
  extract_lets diff d1
  have raised : d1.calm.view echoMask = d.calm.view echoMask := view_of_calm (calm_raise ..) _
  split
  · rfl
  · split
    · exact raised
    · exact (echoView_laneHold ..).trans ((view_laneLoss (by decide) ..).trans raised)

theorem echo_shows (e : Echo) (h45 : s.dev.laneSt k = 4 ∨ s.dev.laneSt k = 5) (own : s.dev.ownLocks k = true) :
    After (.echo k e) s fun d => d.get F.LANE_DNODE.TURNAROUND k = e.turnaround % 2 ^ 32 := by
  refine after_main ((exec_echo ..).trans (by rw [execEcho])) hl ?_
  extract_lets l d1 d2 r d3 run spread
  have here : d1.get F.LANE_DNODE.TURNAROUND k = e.turnaround % 2 ^ 32 := by
    rw [show d1 = _ from if_pos ⟨by omega, own⟩]
    exact Dev.get_set_here _ _ _ k.isLt (by decide) (by decide)
  have kept : ∀ x : Dev, x.calm.view echoMask = d1.calm.view echoMask → x.settle.get F.LANE_DNODE.TURNAROUND k = e.turnaround % 2 ^ 32 := fun x v =>
    (settle_get _ (by decide) k.isLt).trans ((get_of_view v (by decide) k.isLt).trans here)
  have taken : d3.calm.view echoMask = d1.calm.view echoMask := (view_lane _ _ (by decide) _).trans (view_disarm ..)
  split
  · split
    · exact kept _ ((echoView_rttAgain ..).trans ((view_lane _ _ (by decide) _).trans taken))
    · split
      · exact kept _ taken
      · split
        · exact kept _ ((echoView_runResult ..).trans taken)
        · split
          · exact kept _ ((echoView_runStart ..).trans taken)
          · exact kept _ ((echoView_laneHold ..).trans taken)
  · exact kept _ rfl

theorem echoTimeout_repeats {id : Fin 16} {x : Nat} (waits : id.val ∈ (unit s.dev.lanes k).waiting) (hd : s.dev.due (.echo k id) = some x) (ha : s.dev.ahead x = true) :
    After (.echoTimeout k id) s fun d => d.due (.echo k id) = some (max s.dev.tick x + usT 20)
      ∧ d.get F.LANE_CNT.COUNT k 13 = (s.dev.get F.LANE_CNT.COUNT k 13 + 1) % 2 ^ 64 := by
  refine after_fire ((exec_echoTimeout ..).trans (by rw [execEchoTimeout])) hl hd ha ?_
  have lanes : ((s.dev.until x).disarm (.echo k id)).lanes = s.dev.lanes := elapse_lanes ..
  rw [if_pos (by rw [lanes, List.contains_iff_mem]; exact waits)]
  refine ⟨(calm_due (calm_settle _) _ rfl).trans ?_, ?_⟩
  · have tick : ∀ (e : Dev) (t : Nat) (o : Out), (e.laneSend t o).tick = e.tick := fun e t o => by
      unfold Dev.laneSend
      split <;> rfl
    have none_ : ∀ e : Dev, e.blockTicks k 0 = 0 := fun e => by simp [Dev.blockTicks]
    rw [Dev.markSend, due_arm, tick, none_, Nat.zero_add]
    have now : (((s.dev.until x).disarm (.echo k id)).laneCnt k 13 1).tick = max s.dev.tick x := (Dev.set_tick ..).trans (until_tick _ _ hl)
    rw [now]
  · refine (settle_get _ (by decide) k.isLt).trans ((get_of_view (markSend_view _ k (m := ⟨[], [.lanes]⟩) (by decide) ..) (by decide) k.isLt).trans ?_)
    refine (laneCnt_here _ k (by decide) 1).trans ?_
    rw [get_disarm, until_get _ _ (by decide) k.isLt]

/-! TSYNC, and the end of EXCHANGE -/

/-- What a cell that returns is free to change. -/
def cellMask : Mask := ⟨[F.ARR_STRING_STATUS.ACTIVE, F.ARR_STRING_STATUS.BYPASSED, F.ARR_STRING_STATUS.ABSENT, F.ARR_STRING_STATUS.RESPREAD,
  F.CELL_CARRIER.PHASE, F.CELL_STATUS.ROLE], [.lanes, .cells]⟩

omit hl in
theorem cellView_setRole (d : Dev) (k r : Nat) : (d.setRole k r).calm.view cellMask = d.calm.view cellMask := by
  have count : ∀ (e : Dev) (s : Nat), (e.stringSync s).calm.view cellMask = e.calm.view cellMask := fun e s => by
    simp (disch := decide) [Dev.stringSync]
  have move : ∀ (e : Dev) (j phi : Nat), (e.carMove j phi).calm.view cellMask = e.calm.view cellMask := fun e j phi => by
    simp only [Dev.carMove]
    split
    · simp (disch := decide)
    · exact view_set (by decide) ..
  have spread : ∀ (e : Dev) (s : Nat), (e.respreadString s).calm.view cellMask = e.calm.view cellMask := fun e s =>
    (view_setB (by decide) ..).trans (view_each (fun d j => move ..) _ _)
  simp (disch := decide) [Dev.setRole, count, spread]

/-- What a lane that becomes ACTIVE is free to change after its state. -/
def activeMask : Mask := ⟨cellMask.regs ++ checkMask.regs ++ [F.LANE_CREDIT.DN_AVAIL, F.LANE_CREDIT.UP_OUT, F.LANE_QWIN.CORR, F.LANE_QWIN.UNCORR],
  [.lanes, .cells, .slots]⟩

omit hl in
theorem laneActive_st (d : Dev) (k : Fin 96) : (d.laneActive k).laneSt k = 5 := by
  unfold Dev.laneActive
  extract_lets d1 b d2 d3 d4 d5
  have st : d1.laneSt k = 5 := Dev.get_set_here _ _ _ k.isLt (by decide) (by decide)
  have credit : d3.calm.view activeMask = d1.calm.view activeMask := by
    refine (view_arm ..).trans ((view_set (by decide) ..).trans ((view_set (by decide) ..).trans ?_))
    exact (laneSend_view _ (by decide) ..).trans (view_lane _ _ (by decide) _)
  have window : ∀ e : Dev, (e.qwinStart k).calm.view activeMask = e.calm.view activeMask := fun e => by
    simp (disch := decide) [Dev.qwinStart, Dev.qwinSync]
  have quality : d4.calm.view activeMask = d3.calm.view activeMask := by
    change (if d3.bit F.LANE_STATUS.MODE k then d3 else d3.qwinStart k).calm.view activeMask = _
    split
    · rfl
    · exact window d3
  have passed : d5.calm.view activeMask = d4.calm.view activeMask :=
    (view_groupSync ..).trans (view_each (fun d c => view_checkPass (by decide) ..) _ _)
  have back : ∀ e : Dev, (e.cellBack k).calm.view activeMask = e.calm.view activeMask := fun e => by
    unfold Dev.cellBack
    split
    · rfl
    · split
      · exact view_le (m := cellMask) (by decide) (cellView_setRole ..)
      · exact view_cell _ _ (by decide) _
  exact (get_of_view ((back d5).trans (passed.trans (quality.trans credit))) (f := F.LANE_STATUS.STATE) (by decide) k.isLt).trans st

omit hl in
theorem forward_before {d : Dev} {t : Timer} (h : ((d.due t).all fun x => d.tick < x) = true) (bad good : Dev → Dev) : d.forward t bad good = good d := by
  unfold Dev.forward
  split
  next y hy =>
    rw [hy] at h
    exact if_neg (by simpa using h)
  · rfl

theorem tsyncReport_activates {b : Nat} {e : Int} (h4 : s.dev.laneSt k = 4) (own : s.dev.ownLocks k = true) (rtt : (unit s.dev.lanes k).rttOk = true)
    (init : (unit s.dev.lanes k).tsyncInit = true) (fresh : (s.dev.beatOf b - (s.dev.beat : Int)).natAbs ≤ 4)
    (before : ((s.dev.due (.exchange k)).all fun x => s.dev.tick < x) = true) :
    After (.tsyncReport k ⟨0, b⟩ (unit s.dev.lanes k).tsyncIdx e) s fun d => d.laneSt k = 5 := by
  refine after_main ((exec_tsyncReport ..).trans (by rw [execTsyncReport])) hl ?_
  rw [show ((⟨0, b⟩ : UpHead).bad : Nat) = 0 from rfl, msgIn_fresh fresh]
  extract_lets l
  rw [if_neg (by simp [own, l]), if_pos ⟨h4, rtt, init⟩, forward_before before]
  exact (settle_get _ (by decide) k.isLt).trans (laneActive_st _ k)

theorem laneExchangeTimeout_holds {x : Nat} (hd : s.dev.due (.exchange k) = some x) (ha : s.dev.ahead x = true) :
    After (.laneExchangeTimeout k) s fun d => d.laneSt k = 0 ∧ d.bit F.LANE_STATUS.HELD k = true
      ∧ d.get F.LANE_STATUS.FAIL k = if (unit s.dev.lanes k).capOk && !(unit s.dev.lanes k).rttOk then 19 else 18 := by
  refine after_fire ((exec_laneExchangeTimeout ..).trans (by rw [execLaneExchangeTimeout])) hl hd ha ?_
  have lanes : ((s.dev.until x).disarm (.exchange k)).lanes = s.dev.lanes := elapse_lanes ..
  rw [Dev.exchangeFail, lanes]
  exact laneHold_settled _ k (by split <;> decide) (by split <;> decide)

theorem laneRttRepeat_repeats {x : Nat} (hd : s.dev.due (.rtt k) = some x) (ha : s.dev.ahead x = true) (hk : k.val < s.dev.lanes.length) :
    After (.laneRttRepeat k) s fun d => (unit d.lanes k).waiting = [0] := by
  refine after_fire ((exec_laneRttRepeat ..).trans (by rw [execLaneRttRepeat])) hl hd ha ?_
  have lanes : (((s.dev.until x).disarm (.rtt k)).arm (.rtt k) (4096 * 1024)).lanes = s.dev.lanes := elapse_lanes ..
  rw [lanes_settle, markSend_keeps _ k Lane.waiting (fun l x => rfl), unit_lane _ _ (by rwa [lanes])]

end

/-- Settles O29: a capability record, ECHOs, a TSYNC_REPORT, the timeouts and the round trip repeated. -/
theorem laneExchange : Obligations.LaneExchange := by
  intro s k hl
  refine ⟨fun c h4 own first hk fresh => ⟨fun hm => ?_, fun hn => ?_⟩, fun c => capUp_refused hl 1 c (by decide) fun g => ?_,
    fun c stale => capUp_refused hl 0 c (by decide) fun g => ?_, fun e h45 own => echo_shows hl e h45 own,
    fun id x waits hd ha => echoTimeout_repeats hl waits hd ha, fun b e h4 own rtt init fresh before => tsyncReport_activates hl h4 own rtt init fresh before,
    fun x hd ha => laneExchangeTimeout_holds hl hd ha, fun x hd ha hk => laneRttRepeat_repeats hl hd ha hk⟩
  · refine capUp_taken hl h4 own first fresh (fun _ => ?_) (fun hn => absurd (hm.symm.trans hn) (by decide))
    obtain ⟨ok, serial, runs⟩ := capKept_shows (s.dev.capShown k c) k.isLt (by rwa [capShown_size])
    rw [lanes_settle, settle_get _ (by decide) k.isLt, settle_get _ (by decide) k.isLt]
    exact ⟨ok, serial.trans (capShown_serial _ k c k.isLt), runs⟩
  · exact capUp_taken hl h4 own first fresh (fun hm => absurd (hm.symm.trans hn) (by decide)) fun _ => laneHold_settled _ k (by decide) (by decide)
  · rfl
  · rw [Dev.unlessStale, if_pos ⟨rfl, stale⟩]
    rfl

end Sys2Proof.Machine
end

section
/-! SUPPORT. Lane training from light to LOCK and EXCHANGE (R100, R186 to R195). -/

namespace Sys2Proof.Machine

set_option Elab.async false

theorem exec_lanePrsLost (k : Fin 96) (s : State) : exec (.lanePrsLost k) s = execLanePrsLost k s := rfl
theorem exec_laneDetectEntry (k : Fin 96) (s : State) : exec (.laneDetectEntry k) s = execLaneDetectEntry k s := rfl
theorem exec_laneTrainStart (k : Fin 96) (s : State) : exec (.laneTrainStart k) s = execLaneTrainStart k s := rfl
theorem exec_laneLos (k : Fin 96) (s : State) : exec (.laneLos k) s = execLaneLos k s := rfl
theorem exec_xcvrCheckTimeout (k : Fin 96) (s : State) : exec (.xcvrCheckTimeout k) s = execXcvrCheckTimeout k s := rfl
theorem exec_laneTp1Lock (k : Fin 96) (m1 m2 : Nat) (s : State) : exec (.laneTp1Lock k m1 m2) s = execLaneTp1Lock k m1 m2 s := rfl
theorem exec_laneTp1End (k : Fin 96) (s : State) : exec (.laneTp1End k) s = execLaneTp1End k s := rfl
theorem exec_laneSymbolLock (k : Fin 96) (x : Tp2Check) (s : State) : exec (.laneSymbolLock k x) s = execLaneSymbolLock k x s := rfl
theorem exec_laneBlockLock (k : Fin 96) (h : HeaderTest) (r : List HeaderTest) (s : State) : exec (.laneBlockLock k h r) s = execLaneBlockLock k h r s := rfl
theorem exec_laneFrameLock (k : Fin 96) (f : List Nat) (s : State) : exec (.laneFrameLock k f) s = execLaneFrameLock k f s := rfl
theorem exec_laneLockEntry (k : Fin 96) (s : State) : exec (.laneLockEntry k) s = execLaneLockEntry k s := rfl
theorem exec_laneAttemptTimeout (k : Fin 96) (s : State) : exec (.laneAttemptTimeout k) s = execLaneAttemptTimeout k s := rfl
theorem exec_laneLockTimeout (k : Fin 96) (s : State) : exec (.laneLockTimeout k) s = execLaneLockTimeout k s := rfl
theorem exec_laneRetryGapEnd (k : Fin 96) (s : State) : exec (.laneRetryGapEnd k) s = execLaneRetryGapEnd k s := rfl
theorem exec_laneExchangeEntry (k : Fin 96) (s : State) : exec (.laneExchangeEntry k) s = execLaneExchangeEntry k s := rfl

/-! A lane that loses its line: what it leaves in view -/

section
variable (d : Dev) (k : Nat)

theorem laneView_laneHold (code : Nat) : (d.laneHold k code).calm.view laneMask = d.calm.view laneMask := by
  unfold Dev.laneHold
  exact (view_checkFail (by decide) ..).trans ((view_set (by decide) ..).trans ((view_setB (by decide) ..).trans (laneView_laneOff ..)))

theorem laneView_laneFail : (d.laneFail k).calm.view laneMask = d.calm.view laneMask := by
  unfold Dev.laneFail
  extract_lets last
  split
  · exact laneView_laneHold ..
  · exact (view_arm ..).trans ((view_lane _ _ (by decide) _).trans ((view_set (by decide) ..).trans (laneView_laneStill ..)))

theorem laneView_lineLoss (code : Nat) : (d.lineLoss k code).calm.view laneMask = d.calm.view laneMask := by
  unfold Dev.lineLoss
  split
  · split
    · rfl
    · exact laneView_laneFail ..
  · split
    · rfl
    · exact laneView_laneFail ..
  · unfold Dev.forward
    split
    · split
      · exact (laneView_laneHold ..).trans (view_disarm ..)
      · exact laneView_laneFail ..
    · exact laneView_laneFail ..
  · exact laneView_laneRetrain ..
  · rfl

/-- The same, without the counts of the lane. -/
def lineMask : Mask := ⟨cellMask.regs ++ checkMask.regs ++ [F.GLB_ESAP.TICKS, F.LANE_STATUS.STATE, F.LANE_STATUS.MODE, F.LANE_STATUS.HELD, F.LANE_STATUS.STEP,
  F.LANE_STATUS.ATTEMPT, F.LANE_STATUS.SYM_LOCK, F.LANE_STATUS.BLK_LOCK, F.LANE_STATUS.FRM_LOCK, F.LANE_STATUS.PEER_LOCKED], [.lanes, .cells, .slots]⟩

theorem lineView_laneStill : (d.laneStill k).calm.view lineMask = d.calm.view lineMask := by
  have sent : ∀ e : Dev, (e.capDnDue k).calm.view lineMask = e.calm.view lineMask := fun e =>
    capDnDue_keeps e k (fun e => e.calm.view lineMask) (fun e => laneSend_view e (by decide)) (fun e g => view_lane e k (by decide) g)
  unfold Dev.laneStill
  extract_lets d1 d2
  have quiet : d1.calm.view lineMask = d.calm.view lineMask := (view_each (fun d t => view_disarm d t) _ _).trans (sent d)
  have locks : d2.calm.view lineMask = d1.calm.view lineMask := by simp (disch := decide) [d2, Dev.each]
  exact (view_lane _ _ (by decide) _).trans ((view_set (by decide) ..).trans (locks.trans quiet))

theorem lineView_laneOff : (d.laneOff k).calm.view lineMask = d.calm.view lineMask := by
  unfold Dev.laneOff
  refine (view_groupSync ..).trans ((view_le (m := offMask) (by decide) (offView_esapSync _)).trans ((view_lane _ _ (by decide) _).trans ?_))
  exact (view_set (by decide) ..).trans ((view_set (by decide) ..).trans (lineView_laneStill ..))

theorem lineView_laneLoss : (d.laneLoss k).calm.view lineMask = d.calm.view lineMask := by
  have role : ∀ (e : Dev) (j r : Nat), (e.setRole j r).calm.view lineMask = e.calm.view lineMask := fun e j r => view_le (m := cellMask) (by decide) (cellView_setRole ..)
  have cell : ∀ e : Dev, (e.cellLost k).calm.view lineMask = e.calm.view lineMask := fun e => by simp (disch := decide) [Dev.cellLost, role]
  simp (disch := decide) [Dev.laneLoss, cell]

theorem lineView_laneHold (code : Nat) : (d.laneHold k code).calm.view lineMask = d.calm.view lineMask := by
  unfold Dev.laneHold
  exact (view_checkFail (by decide) ..).trans ((view_set (by decide) ..).trans ((view_setB (by decide) ..).trans (lineView_laneOff ..)))

theorem lineView_laneFail : (d.laneFail k).calm.view lineMask = d.calm.view lineMask := by
  unfold Dev.laneFail
  extract_lets last
  split
  · exact lineView_laneHold ..
  · exact (view_arm ..).trans ((view_lane _ _ (by decide) _).trans ((view_set (by decide) ..).trans (lineView_laneStill ..)))

theorem lineView_attemptStart (n : Nat) : (d.attemptStart k n).calm.view lineMask = d.calm.view lineMask := by
  simp (disch := decide) [Dev.attemptStart, lineView_laneStill]

end

section
variable (d : Dev) (k : Fin 96)

/-- R199: but for retrainings, a lost line counts nothing itself. -/
theorem laneRetrain_count (code : Nat) {j : Nat} (hj : j < 14) (h9 : j ≠ 9) : (d.laneRetrain k code).get F.LANE_CNT.COUNT k j = d.get F.LANE_CNT.COUNT k j := by
  unfold Dev.laneRetrain
  extract_lets two d1 recent d2
  have counted : d2.get F.LANE_CNT.COUNT k j = d.get F.LANE_CNT.COUNT k j := by
    refine (get_of_regs rfl ..).trans ((laneCnt_there _ k 1 h9).trans ?_)
    exact get_of_view ((view_checkFail (by decide) ..).trans (lineView_laneLoss d k)) (by decide) k.isLt hj
  split
  · exact (get_of_view ((view_setB (by decide) ..).trans ((view_lane _ _ (by decide) _).trans (lineView_laneOff d2 k))) (by decide) k.isLt hj).trans counted
  · exact (get_of_view (lineView_attemptStart d2 k 1) (by decide) k.isLt hj).trans counted

theorem lineLoss_count (code : Nat) {j : Nat} (hj : j < 14) (h9 : j ≠ 9) : (d.lineLoss k code).get F.LANE_CNT.COUNT k j = d.get F.LANE_CNT.COUNT k j := by
  have fail : ∀ e : Dev, (e.laneFail k).get F.LANE_CNT.COUNT k j = e.get F.LANE_CNT.COUNT k j := fun e => get_of_view (lineView_laneFail e k) (by decide) k.isLt hj
  unfold Dev.lineLoss
  split
  · split
    · rfl
    · exact fail d
  · split
    · rfl
    · exact fail d
  · unfold Dev.forward
    split
    · split
      · exact get_of_view ((lineView_laneHold _ k _).trans (view_disarm d _)) (by decide) k.isLt hj
      · exact fail d
    · exact fail d
  · exact laneRetrain_count d k code hj h9
  · rfl

/-! A lane without its locks -/

/-- The receiver's locks are off. -/
def Dev.unlocked (d : Dev) (k : Nat) : Prop := d.bit F.LANE_STATUS.BLK_LOCK k = false ∧ d.bit F.LANE_STATUS.FRM_LOCK k = false

theorem unlocked_of_view {d e : Dev} {m : Mask} (v : e.calm.view m = d.calm.view m) (hb : m.keeps F.LANE_STATUS.BLK_LOCK = true)
    (hf : m.keeps F.LANE_STATUS.FRM_LOCK = true) (h : d.unlocked k) : e.unlocked k :=
  ⟨(Dev.bit_of_get (get_of_view v hb k.isLt)).trans h.1, (Dev.bit_of_get (get_of_view v hf k.isLt)).trans h.2⟩

theorem laneStill_unlocked : (d.laneStill k).unlocked k := by
  unfold Dev.laneStill
  extract_lets d1 d2
  have off : ∀ e : Dev, (((e.setB F.LANE_STATUS.BLK_LOCK false k).setB F.LANE_STATUS.FRM_LOCK false k).setB F.LANE_STATUS.PEER_LOCKED false k).unlocked k := fun e =>
    ⟨(Dev.bit_setB_apart _ (by decide) _ k.isLt (by decide) (by decide)).trans ((Dev.bit_setB_apart _ (by decide) _ k.isLt (by decide) (by decide)).trans
        (Dev.bit_setB_same _ (by decide) _ k.isLt (by decide) (by decide))),
      (Dev.bit_setB_apart _ (by decide) _ k.isLt (by decide) (by decide)).trans (Dev.bit_setB_same _ (by decide) _ k.isLt (by decide) (by decide))⟩
  exact unlocked_of_view (m := ⟨[F.LANE_STATUS.STEP], [.lanes]⟩) k ((view_lane _ _ (by decide) _).trans (view_set (by decide) ..)) (by decide) (by decide) (off _)

theorem laneOff_unlocked : (d.laneOff k).unlocked k := by
  refine unlocked_of_view k (laneOff_view d k) (by decide) (by decide) ?_
  exact unlocked_of_view (m := ⟨[F.LANE_STATUS.STATE, F.LANE_STATUS.MODE], [.lanes]⟩) k
    ((view_lane _ _ (by decide) _).trans ((view_set (by decide) ..).trans (view_set (by decide) ..))) (by decide) (by decide) (laneStill_unlocked d k)

theorem laneHold_unlocked (code : Nat) : (d.laneHold k code).unlocked k := by
  refine unlocked_of_view k (checkView_checkFail _ code k) (by decide) (by decide) ?_
  exact unlocked_of_view (m := ⟨[F.LANE_STATUS.HELD, F.LANE_STATUS.FAIL], []⟩) k ((view_set (by decide) ..).trans (view_setB (by decide) ..)) (by decide) (by decide)
    (laneOff_unlocked d k)

theorem laneFail_unlocked : (d.laneFail k).unlocked k := by
  unfold Dev.laneFail
  extract_lets last
  split
  · exact laneHold_unlocked ..
  · exact unlocked_of_view (m := ⟨[F.LANE_STATUS.STATE], [.lanes]⟩) k ((view_arm ..).trans ((view_lane _ _ (by decide) _).trans (view_set (by decide) ..)))
      (by decide) (by decide) (laneStill_unlocked d k)

theorem attemptStart_unlocked (n : Nat) : (d.attemptStart k n).unlocked k := by
  have v : (d.attemptStart k n).calm.view ⟨[F.LANE_STATUS.STATE, F.LANE_STATUS.ATTEMPT, F.LANE_STATUS.MODE], [.lanes]⟩
      = (d.laneStill k).calm.view ⟨[F.LANE_STATUS.STATE, F.LANE_STATUS.ATTEMPT, F.LANE_STATUS.MODE], [.lanes]⟩ := by
    simp (disch := decide) [Dev.attemptStart]
  exact unlocked_of_view k v (by decide) (by decide) (laneStill_unlocked d k)

theorem laneRetrain_unlocked (code : Nat) : (d.laneRetrain k code).unlocked k := by
  unfold Dev.laneRetrain
  extract_lets two d1 recent d2
  split
  · exact unlocked_of_view (m := ⟨[F.LANE_STATUS.HELD], [.lanes]⟩) k ((view_setB (by decide) ..).trans (view_lane _ _ (by decide) _)) (by decide) (by decide)
      (laneOff_unlocked d2 k)
  · exact attemptStart_unlocked ..

theorem lineLoss_cases (code : Nat) : d.lineLoss k code = d ∨ (d.lineLoss k code).unlocked k := by
  unfold Dev.lineLoss
  split
  · split
    · exact .inl rfl
    · exact .inr (laneFail_unlocked d k)
  · split
    · exact .inl rfl
    · exact .inr (laneFail_unlocked d k)
  · unfold Dev.forward
    split
    · split
      · exact .inr (laneHold_unlocked ..)
      · exact .inr (laneFail_unlocked d k)
    · exact .inr (laneFail_unlocked d k)
  · exact .inr (laneRetrain_unlocked d k code)
  · exact .inl rfl

/-- A lock that is off stays off when the line is lost. -/
theorem lineLoss_unlocks (code : Nat) : (d.bit F.LANE_STATUS.BLK_LOCK k = false → (d.lineLoss k code).bit F.LANE_STATUS.BLK_LOCK k = false)
    ∧ (d.bit F.LANE_STATUS.FRM_LOCK k = false → (d.lineLoss k code).bit F.LANE_STATUS.FRM_LOCK k = false) := by
  rcases lineLoss_cases d k code with same | off
  · rw [same]
    exact ⟨id, id⟩
  · exact ⟨fun _ => off.1, fun _ => off.2⟩

end

/-! A failure of a check that stays listed -/

/-- The failures of the checks that stand. -/
def Dev.faults (d : Dev) : List (Nat × Nat) := d.calm.arr.fails

theorem faults_of_calm {d e : Dev} (h : e.calm = d.calm) : e.faults = d.faults := by rw [Dev.faults, Dev.faults, h]

@[simp] theorem faults_set (d : Dev) (f : Fld) (v a b c : Nat) : (d.set f v a b c).faults = d.faults := by
  unfold Dev.set
  split <;> rfl
@[simp] theorem faults_setB (d : Dev) (f : Fld) (v : Bool) (a b c : Nat) : (d.setB f v a b c).faults = d.faults := faults_set ..
@[simp] theorem faults_ite {p : Prop} [Decidable p] (x y : Dev) : (if p then x else y).faults = if p then x.faults else y.faults := apply_ite Dev.faults p x y

theorem faults_each {α : Type} {g : Dev → α → Dev} (h : ∀ d x, (g d x).faults = d.faults) (l : List α) (d : Dev) : (d.each l g).faults = d.faults :=
  each_keeps Dev.faults h l d

theorem faults_loopEntry (d : Dev) (full : Bool) : (d.loopEntry full).faults = d.faults :=
  (faults_each (fun d k => by rfl) _ _).trans (faults_each (fun d k => faults_each (fun d j => by simp) _ _) _ _)

theorem faults_fell (d : Dev) (x : Bool) : ({ d with col := { d.col with fell := x } } : Dev).faults = d.faults := rfl

theorem faults_stagedEntry (d : Dev) : d.stagedEntry.faults = d.faults := by
  unfold Dev.stagedEntry
  extract_lets d1 col d2
  have entered : d1.faults = d.faults := faults_loopEntry ..
  have fell : d2.faults = d1.faults := faults_fell ..
  simp [fell, entered]

theorem faults_setState (d : Dev) (s : Nat) (o : Orig) : (d.setState s o).faults = d.faults := by
  have unproven : ∀ e : Dev, (e.each (List.range 32) fun d x =>
      d.setB F.GD_STATUS.UNPROVEN (d.bit F.GD_CFG.BOOTSTRAP x && d.bit F.GD_CFG.DECLARED x) x).faults = e.faults :=
    fun e => faults_each (fun d x => faults_setB ..) _ _
  have brake : ∀ e : Dev, (e.each [24, 25] fun d c => d.level c 0).faults = e.faults := fun e => faults_each (fun d c => faults_of_calm (calm_level ..)) _ _
  unfold Dev.setState
  extract_lets old d1 d2 a d3 d4 d5 d6 d7
  have logged : d1.faults = d.faults := (faults_of_calm (calm_log ..)).trans ((faults_set ..).trans ((faults_of_calm (calm_loopRate _)).trans (faults_set ..)))
  have entered : d2.faults = d.faults := by simp [d2, logged, faults_stagedEntry]
  have archive : d3.faults = d.faults := by simp [d3, faults_of_calm (calm_arcStart _), entered]
  have silent : d4.faults = d.faults := by simp [d4, faults_of_calm (calm_loopSilence _), archive]
  have proofs : d5.faults = d.faults := by simp [d5, unproven, silent]
  have unarmed : d6.faults = d.faults := by simp [d6, proofs]
  have braked : d7.faults = d.faults := by simp [d7, brake, unarmed, proofs]
  simp [faults_of_calm (calm_sdoDrop ..), braked]

theorem faults_failSync (d : Dev) : d.failSync.faults = d.faults := by
  unfold Dev.failSync
  extract_lets l d1
  exact (faults_each (fun d w => faults_set ..) _ _).trans (by simp [d1])

/-- R102: a check that fails in STAGED or LINKED is listed. -/
theorem checkFail_lists {d : Dev} (code obj : Nat) (h : d.st = STAGED ∨ d.st = LINKED) : (code, obj) ∈ (d.checkFail code obj).faults := by
  unfold Dev.checkFail
  extract_lets arr d1 d2
  split
  · have listed : d1.faults = d.arr.fails ++ [(code, obj)] := faults_failSync ..
    have shown : d2.faults = d1.faults := by
      change ((d1.raise 6 1 obj [code]).cond _ _).faults = _
      rw [Dev.cond]
      split
      · exact (faults_set ..).trans (faults_of_calm (calm_raise ..))
      · exact faults_of_calm (calm_raise ..)
    have here : (code, obj) ∈ d2.faults := by
      rw [shown, listed]
      exact List.mem_append_right _ List.mem_cons_self
    split
    · rwa [faults_of_calm (calm_groupFile _), faults_setState, faults_of_calm (calm_startEnd _)]
    · exact here
  next old =>
    have known : d.arr.fails.contains (code, obj) = true := by
      simp only [h, true_and] at old
      simpa using old
    exact List.contains_iff_mem.1 known

/-! Transceiver, light and the attempts up to TP3 -/

section
variable {s : State} {k : Fin 96} (hl : s.dev.live = true)
include hl

theorem lanePrsLost_shows : After (.lanePrsLost k) s fun d => d.bit F.LANE_STATUS.PRS k = false := by
  refine after_main ((exec_lanePrsLost ..).trans (by rw [execLanePrsLost])) hl ?_
  extract_lets d1 d2
  have gone : d2.bit F.LANE_STATUS.PRS k = false :=
    (Dev.bit_of_get (get_of_view (laneView_laneLoss ..) (by decide) k.isLt)).trans (Dev.bit_setB_same _ (by decide) _ k.isLt (by decide) (by decide))
  have watch : ∀ e : Dev, (e.xcvrWatch k).settle.bit F.LANE_STATUS.PRS k = e.bit F.LANE_STATUS.PRS k := fun e => by
    rw [settle_bit _ (by decide) k.isLt, Dev.xcvrWatch]
    split
    · exact bit_arm ..
    · rfl
  rw [watch]
  split
  · exact gone
  · exact (Dev.bit_of_get (get_of_view (laneView_laneOff ..) (by decide) k.isLt)).trans gone

omit hl in
theorem laneDetect_keeps (d : Dev) (k : Nat) : (d.laneDetect k).lanes = d.lanes
    ∧ (d.laneDetect k).calm.view ⟨[F.LANE_STATUS.STATE, F.LANE_RTT.VALID], []⟩ = d.calm.view ⟨[F.LANE_STATUS.STATE, F.LANE_RTT.VALID], []⟩ := by
  have watch : ∀ e : Dev, (e.xcvrWatch k).lanes = e.lanes ∧ (e.xcvrWatch k).regs = e.regs := fun e => by
    unfold Dev.xcvrWatch
    split <;> exact ⟨rfl, rfl⟩
  refine ⟨?_, ?_⟩
  · unfold Dev.laneDetect
    split
    · extract_lets d1 d2
      have still : d2.lanes = d.lanes := (Dev.set_lanes ..).trans (Dev.set_lanes ..)
      split
      · exact (watch d2).1.trans still
      · exact still
    · rfl
  · simp (disch := decide) [Dev.laneDetect, Dev.xcvrWatch]

theorem laneDetectEntry_shows : After (.laneDetectEntry k) s fun d => d.bit F.LANE_STATUS.PRS k = true ∧ (unit d.lanes k).prsHigh = false := by
  refine after_main ((exec_laneDetectEntry ..).trans (by rw [execLaneDetectEntry])) hl ?_
  extract_lets new d1
  have here : d1.bit F.LANE_STATUS.PRS k = true := Dev.bit_setB_same _ (by decide) _ k.isLt (by decide) (by decide)
  have low : (unit d1.lanes k).prsHigh = false := by
    rw [show d1.lanes = _ from Dev.set_lanes ..]
    by_cases hk : k.val < s.dev.lanes.length
    · rw [unit_lane _ _ hk]
    · rw [unit_beyond (by rwa [show (s.dev.lane k _).lanes.length = s.dev.lanes.length from List.length_modify ..])]
      rfl
  rw [settle_bit _ (by decide) k.isLt, lanes_settle]
  split
  · obtain ⟨lanes, v⟩ := laneDetect_keeps d1 k
    exact ⟨(Dev.bit_of_get (get_of_view v (by decide) k.isLt)).trans here, lanes ▸ low⟩
  · split
    · exact ⟨(bit_of_calm (calm_raise ..) (by decide) k.isLt).trans here, (lanes_of_calm (calm_raise ..)).symm ▸ low⟩
    · exact ⟨here, low⟩

theorem laneTrainStart_lights {x : Nat} (h1 : s.dev.laneSt k = 1) (hd : s.dev.due (.losClear k) = some x) (ha : s.dev.ahead x = true) :
    After (.laneTrainStart k) s fun d => d.bit F.LANE_STATUS.LOS k = false := by
  refine after_main ((exec_laneTrainStart ..).trans (by rw [execLaneTrainStart])) hl ?_
  rw [if_pos h1, fire_due hd ha, settle_bit _ (by decide) k.isLt]
  have tried : ∀ e : Dev, (e.laneTry k).calm.view laneMask = e.calm.view laneMask := fun e => by simp [Dev.laneTry]
  refine (Dev.bit_of_get (get_of_view ((tried _).trans ((view_checkPass (by decide) ..).trans (view_disarm ..))) (by decide) k.isLt)).trans ?_
  exact Dev.bit_setB_same _ (by decide) _ k.isLt (by decide) (by decide)

theorem laneLos_shows (ha : s.dev.ahead (s.dev.tick + if 2 ≤ s.dev.laneSt k ∧ s.dev.laneSt k ≤ 4 ∧ !s.dev.inGap k then usT 2 else 0) = true) :
    After (.laneLos k) s fun d => d.bit F.LANE_STATUS.LOS k = true := by
  refine after_main ((exec_laneLos ..).trans (by rw [execLaneLos])) hl ?_
  extract_lets st
  rw [wait_ahead ha, settle_bit _ (by decide) k.isLt]
  have watch : ∀ e : Dev, (e.xcvrWatch k).calm.view laneMask = e.calm.view laneMask := fun e => by
    unfold Dev.xcvrWatch
    split <;> rfl
  extract_lets d1
  have dark : d1.bit F.LANE_STATUS.LOS k = true :=
    (Dev.bit_of_get (get_of_view (watch _) (by decide) k.isLt)).trans (Dev.bit_setB_same _ (by decide) _ k.isLt (by decide) (by decide))
  split
  · exact (bit_arm ..).trans dark
  · split
    · exact dark
    · exact (Dev.bit_of_get (get_of_view ((laneView_lineLoss ..).trans (view_inc (by decide) ..)) (by decide) k.isLt)).trans dark

theorem xcvrCheckTimeout_lists {x : Nat} (hd : s.dev.due (.xcvr k) = some x) (ha : s.dev.ahead x = true)
    (bad : (unit s.dev.lanes k).prsHigh = true ∨ (unit s.dev.lanes k).los = true) (st : s.dev.st = STAGED ∨ s.dev.st = LINKED) :
    After (.xcvrCheckTimeout k) s fun d => (16, k.val) ∈ d.arr.fails := by
  refine after_fire ((exec_xcvrCheckTimeout ..).trans (by rw [execXcvrCheckTimeout])) hl hd ha ?_
  have lanes : ((s.dev.until x).disarm (.xcvr k)).lanes = s.dev.lanes := elapse_lanes ..
  have state : ((s.dev.until x).disarm (.xcvr k)).st = s.dev.st := (get_disarm ..).trans (until_get _ _ (by decide))
  rw [lanes, if_pos (by simpa using bad)]
  have listed := checkFail_lists (d := (s.dev.until x).disarm (.xcvr k)) 16 k (by rwa [state])
  rwa [← faults_of_calm (calm_settle _)] at listed

theorem laneTp1Lock_locks {m : Nat} (h2 : s.dev.laneSt k = 2) (going : s.dev.inGap k = false) (first : (unit s.dev.lanes k).tp1 = false)
    (step : s.dev.get F.LANE_STATUS.STEP k < 2) (hm : m = (if s.dev.bit F.LANE_STATUS.MODE k then 0xFF00FF00F0F0F0F0 else 0x00FF00FF0F0F0F0F))
    (hk : k.val < s.dev.lanes.length) : After (.laneTp1Lock k m m) s fun d => (unit d.lanes k).tp1 = true ∧ d.bit F.LANE_STATUS.LOS k = false := by
  refine after_main ((exec_laneTp1Lock ..).trans (by rw [execLaneTp1Lock])) hl ?_
  rw [if_pos ⟨h2, by simp [going], by simp [first], step⟩]
  extract_lets own d1
  rw [if_pos ⟨hm, hm⟩, lanes_settle, settle_bit _ (by decide) k.isLt]
  have lanes : d1.lanes = (s.dev.lane k fun l => { l with los := false }).lanes := Dev.set_lanes ..
  have lit : d1.bit F.LANE_STATUS.LOS k = false := Dev.bit_setB_same _ (by decide) _ k.isLt (by decide) (by decide)
  refine ⟨?_, lit⟩
  rw [unit_lane _ _ (by rw [lanes]; exact (List.length_modify ..).trans_gt hk)]

theorem laneTp1End_steps {x : Nat} (hd : s.dev.due (.tp1 k) = some x) (ha : s.dev.ahead x = true) :
    After (.laneTp1End k) s fun d => d.get F.LANE_STATUS.STEP k = 1 := by
  refine after_fire ((exec_laneTp1End ..).trans (by rw [execLaneTp1End])) hl hd ha ?_
  exact (settle_get _ (by decide) k.isLt).trans ((get_of_regs rfl ..).trans (Dev.get_set_here _ _ _ k.isLt (by decide) (by decide)))

theorem laneSymbolLock_shows {x : Tp2Check} (h2 : s.dev.laneSt k = 2) (step : s.dev.get F.LANE_STATUS.STEP k = 1) (tp1 : (unit s.dev.lanes k).tp1 = true) :
    After (.laneSymbolLock k x) s fun d => (4096 ≤ x.clean → d.bit F.LANE_STATUS.SYM_LOCK k = true
        ∧ d.get F.LANE_STATUS.STEP k = (if s.dev.bit F.LANE_CTRL.TEST_HOLD k then 1 else 2))
      ∧ d.get F.LANE_CNT.COUNT k 7 = (s.dev.get F.LANE_CNT.COUNT k 7 + x.errors) % 2 ^ 64 := by
  refine after_main ((exec_laneSymbolLock ..).trans (by rw [execLaneSymbolLock])) hl ?_
  rw [if_pos ⟨h2, step, tp1⟩, settle_bit _ (by decide) k.isLt, settle_get _ (by decide) k.isLt, settle_get _ (by decide) k.isLt]
  extract_lets d1 d2
  have count : d1.get F.LANE_CNT.COUNT k 7 = (s.dev.get F.LANE_CNT.COUNT k 7 + x.errors) % 2 ^ 64 := laneCnt_here _ k (by decide) _
  have apart : ∀ {f : Fld}, f.apart F.LANE_CNT.COUNT = true → k.val < f.n1 → 0 < f.n2 → 0 < f.n3 → d1.get f k = s.dev.get f k :=
    fun h ha hb hc => Dev.get_inc_apart _ h _ ha hb hc
  have count2 : d2.get F.LANE_CNT.COUNT k 7 = d1.get F.LANE_CNT.COUNT k 7 := Dev.get_setB_apart _ (by decide) _ k.isLt (by decide) (by decide)
  have lock : d2.bit F.LANE_STATUS.SYM_LOCK k = true := Dev.bit_setB_same _ (by decide) _ k.isLt (by decide) (by decide)
  have step2 : d2.get F.LANE_STATUS.STEP k = 1 :=
    (Dev.get_setB_apart _ (by decide) _ k.isLt (by decide) (by decide)).trans ((apart (by decide) k.isLt (by decide) (by decide)).trans step)
  have held : d2.bit F.LANE_CTRL.TEST_HOLD k = s.dev.bit F.LANE_CTRL.TEST_HOLD k :=
    (Dev.bit_setB_apart _ (by decide) _ k.isLt (by decide) (by decide)).trans (Dev.bit_of_get (apart (by decide) k.isLt (by decide) (by decide)))
  split
  next few => exact ⟨fun many => absurd few (by omega), count⟩
  · rw [held]
    split
    next hold => exact ⟨fun _ => ⟨lock, step2⟩, count2.trans count⟩
    next hold =>
      refine ⟨fun _ => ⟨?_, ?_⟩, ?_⟩
      · exact (Dev.bit_of_get (get_of_regs rfl ..)).trans ((Dev.bit_set_apart _ (by decide) _ k.isLt (by decide) (by decide)).trans lock)
      · exact (get_of_regs rfl ..).trans (Dev.get_set_here _ _ _ k.isLt (by decide) (by decide))
      · exact (get_of_regs rfl ..).trans ((Dev.get_set_apart _ (by decide) _ k.isLt (by decide) (by decide)).trans (count2.trans count))

/-! Block and frame lock -/

omit hl in
/-- What the end of a shift is free to change. -/
def shiftedMask : Mask := ⟨offMask.regs ++ [F.LANE_STATUS.STEP, F.LANE_STATUS.MODE, F.LANE_BUDGET.ESAP_K, F.LANE_BUDGET.UP_SLACK], [.lanes, .slots]⟩

omit hl in
theorem shiftDone_view (d : Dev) (k : Nat) : (d.shiftDone k).calm.view shiftedMask = d.calm.view shiftedMask := by
  unfold Dev.shiftDone
  extract_lets d1
  refine (view_le (m := offMask) (by decide) (offView_esapSync _)).trans ?_
  simp (disch := decide) [Dev.budgetSync, d1]

omit hl in
/-- A header that is looked at is counted, and moves the aligner. -/
theorem headerIn_counted {d : Dev} {h : HeaderTest} (looks : d.hunting k = true ∨ d.bit F.LANE_STATUS.BLK_LOCK k = true) (hk : k.val < d.lanes.length)
    (late : d.bit F.LANE_STATUS.BLK_LOCK k = false → ∀ t, (unit d.lanes k).slipTick = some t → t + 8 ≤ h.end_) :
    (d.headerIn k h).bit F.LANE_STATUS.BLK_LOCK k = (({ (unit d.lanes k).align with lock := d.bit F.LANE_STATUS.BLK_LOCK k } : Aligner).step h.valid).lock
      ∧ (d.headerIn k h).get F.LANE_CNT.COUNT k 0 = (d.get F.LANE_CNT.COUNT k 0 + b2n (!h.valid)) % 2 ^ 64 := by
  unfold Dev.headerIn
  extract_lets held early d1 d2 lock d3 d4
  have counts : ¬ (!(d.hunting k || held) || (!held && early)) = true := by
    have looks' : (d.hunting k || held) = true := by simpa using looks
    cases hh : held
    · have not_early : early = false := by
        change (match (unit d.lanes k).slipTick with | some t => decide (h.end_ < t + 8) | none => false) = false
        split
        next t ht => simpa using late hh t ht
        · rfl
      simp [not_early, hh ▸ looks']
    · simp
  rw [if_neg counts]
  have lanes : d1.lanes = d.lanes := (Dev.set_lanes ..).trans (elapse_lanes ..)
  have moved : lock = (({ (unit d.lanes k).align with lock := held } : Aligner).step h.valid).lock := by
    rw [show lock = (unit d2.lanes k).align.lock from rfl, unit_lane d1 _ (by rwa [lanes]), lanes]
  have bit : d3.bit F.LANE_STATUS.BLK_LOCK k = lock := Dev.bit_setB_same _ (by decide) _ k.isLt (by decide) (by decide)
  have count : d3.get F.LANE_CNT.COUNT k 0 = (d.get F.LANE_CNT.COUNT k 0 + b2n (!h.valid)) % 2 ^ 64 := by
    refine (Dev.get_setB_apart _ (by decide) _ k.isLt (by decide) (by decide)).trans ((get_of_regs rfl ..).trans ((laneCnt_here _ k (by decide) _).trans ?_))
    rw [until_get _ _ (by decide) k.isLt]
  rw [← moved]
  split
  next locked =>
    have ends : ∀ e : Dev, e.calm.view shiftedMask = d3.calm.view shiftedMask → (e.idleSync k).bit F.LANE_STATUS.BLK_LOCK k = lock
        ∧ (e.idleSync k).get F.LANE_CNT.COUNT k 0 = (d.get F.LANE_CNT.COUNT k 0 + b2n (!h.valid)) % 2 ^ 64 := fun e v =>
      ⟨((Dev.bit_of_get (get_of_regs rfl ..)).trans (Dev.bit_of_get (get_of_view v (by decide) k.isLt))).trans bit,
        ((get_of_regs rfl ..).trans (get_of_view v (by decide) k.isLt (by decide))).trans count⟩
    refine ends _ ?_
    split
    · exact shiftDone_view d3 k
    · rfl
  next open_ =>
    have off : lock = false := by simpa using open_
    split
    · have bit4 : d4.bit F.LANE_STATUS.BLK_LOCK k = lock :=
        (Dev.bit_of_get (get_of_regs rfl ..)).trans ((Dev.bit_setB_apart _ (by decide) _ k.isLt (by decide) (by decide)).trans
          ((Dev.bit_of_get (Dev.get_inc_apart _ (by decide) _ k.isLt (by decide) (by decide))).trans bit))
      have count4 : d4.get F.LANE_CNT.COUNT k 0 = (d.get F.LANE_CNT.COUNT k 0 + b2n (!h.valid)) % 2 ^ 64 :=
        (get_of_regs rfl ..).trans ((Dev.get_setB_apart _ (by decide) _ k.isLt (by decide) (by decide)).trans ((laneCnt_there _ k 1 (by decide)).trans count))
      split
      · exact ⟨bit4, count4⟩
      · exact ⟨((lineLoss_unlocks d4 k 17).1 (bit4.trans off)).trans off.symm, (lineLoss_count d4 k 17 (by decide) (by decide)).trans count4⟩
    · split
      · exact ⟨bit, count⟩
      · unfold Dev.slip
        extract_lets t d5
        have through : ∀ {f : Fld} {j : Nat}, f.apart F.RSV_TIME.COUNT = true → f.apart F.LANE_SLIP.DONE = true → k.val < f.n1 → j < f.n2 → 0 < f.n3 →
            ((d3.until (t + 2)).laneCnt k 11 1).get f k j = (d3.until (t + 2)).get f k j → d5.get f k j = d3.get f k j := fun h1 h2 ha hb hc same =>
          (Dev.get_setB_apart _ h2 _ ha hb hc).trans (same.trans (until_get _ _ h1 ha hb hc))
        refine ⟨(Dev.bit_of_get ((get_of_regs rfl ..).trans (through (by decide) (by decide) k.isLt (by decide) (by decide) ?_))).trans bit,
          ((get_of_regs rfl ..).trans (through (by decide) (by decide) k.isLt (by decide) (by decide) ?_)).trans count⟩
        · exact Dev.get_inc_apart _ (by decide) _ k.isLt (by decide) (by decide)
        · exact laneCnt_there _ k 1 (by decide)

theorem laneBlockLock_counts {h : HeaderTest} (looks : s.dev.hunting k = true ∨ s.dev.bit F.LANE_STATUS.BLK_LOCK k = true) (hk : k.val < s.dev.lanes.length)
    (late : s.dev.bit F.LANE_STATUS.BLK_LOCK k = false → ∀ t, (unit s.dev.lanes k).slipTick = some t → t + 8 ≤ h.end_) :
    After (.laneBlockLock k h []) s fun d =>
      d.bit F.LANE_STATUS.BLK_LOCK k = (({ (unit s.dev.lanes k).align with lock := s.dev.bit F.LANE_STATUS.BLK_LOCK k } : Aligner).step h.valid).lock
        ∧ d.get F.LANE_CNT.COUNT k 0 = (s.dev.get F.LANE_CNT.COUNT k 0 + b2n (!h.valid)) % 2 ^ 64 := by
  refine after_main ((exec_laneBlockLock ..).trans (by rw [execLaneBlockLock])) hl ?_
  rw [settle_bit _ (by decide) k.isLt, settle_get _ (by decide) k.isLt]
  exact headerIn_counted looks hk late

theorem laneBlockLock_early {h : HeaderTest} {t : Nat} (unlocked : s.dev.bit F.LANE_STATUS.BLK_LOCK k = false) (slip : (unit s.dev.lanes k).slipTick = some t)
    (early : h.end_ < t + 8) : After (.laneBlockLock k h []) s fun d => d.lanes = s.dev.lanes ∧ d.get F.LANE_CNT.COUNT k 0 = s.dev.get F.LANE_CNT.COUNT k 0 := by
  refine after_main ((exec_laneBlockLock ..).trans (by rw [execLaneBlockLock])) hl ?_
  rw [lanes_settle, settle_get _ (by decide) k.isLt]
  have skipped : s.dev.headerIn k h = s.dev := by
    unfold Dev.headerIn
    rw [slip, unlocked]
    exact if_pos (by simp [early])
  rw [show (s.dev.each [h] fun d h => d.headerIn k h) = s.dev.headerIn k h from rfl, skipped]
  exact ⟨rfl, rfl⟩

theorem laneFrameLock_shows {frames : List Nat} {a : Framer} {got : List Nat} (four : s.dev.bit F.LANE_STATUS.MODE k = false)
    (blk : s.dev.bit F.LANE_STATUS.BLK_LOCK k = true)
    (hr : ({ (unit s.dev.lanes k).framer with lock := s.dev.bit F.LANE_STATUS.FRM_LOCK k } : Framer).take frames = (a, got)) :
    After (.laneFrameLock k frames) s fun d => d.bit F.LANE_STATUS.FRM_LOCK k = a.lock
      ∧ d.get F.LANE_CNT.COUNT k 5 = (s.dev.get F.LANE_CNT.COUNT k 5 + (got.filter fun e => 4 < e).length) % 2 ^ 64 := by
  refine after_main ((exec_laneFrameLock ..).trans (by rw [execLaneFrameLock])) hl ?_
  rw [if_neg (by simp [four, blk]), settle_bit _ (by decide) k.isLt, settle_get _ (by decide) k.isLt]
  extract_lets held
  rw [hr]
  dsimp -zeta only
  extract_lets fixed lost d1 d2 d3 d4
  have counted : d1.get F.LANE_CNT.COUNT k 5 = (s.dev.get F.LANE_CNT.COUNT k 5 + lost) % 2 ^ 64 := by
    refine (laneCnt_here _ k (by decide) _).trans ?_
    rw [laneCnt_there _ k _ (by decide), laneCnt_there _ k _ (by decide)]
  have quality : (d1.qwinAdd k fixed.sum lost).get F.LANE_CNT.COUNT k 5 = d1.get F.LANE_CNT.COUNT k 5 := by
    have v : (d1.qwinAdd k fixed.sum lost).calm.view ⟨[F.LANE_QWIN.CORR, F.LANE_QWIN.UNCORR], [.lanes]⟩ = d1.calm.view ⟨[F.LANE_QWIN.CORR, F.LANE_QWIN.UNCORR], [.lanes]⟩ := by
      simp (disch := decide) [Dev.qwinAdd, Dev.qwinSync]
    exact get_of_view v (by decide) k.isLt
  have bit : d3.bit F.LANE_STATUS.FRM_LOCK k = a.lock :=
    (Dev.bit_of_get (get_of_regs rfl ..)).trans (Dev.bit_setB_same _ (by decide) _ k.isLt (by decide) (by decide))
  have count : d3.get F.LANE_CNT.COUNT k 5 = (s.dev.get F.LANE_CNT.COUNT k 5 + lost) % 2 ^ 64 :=
    (get_of_regs rfl ..).trans ((Dev.get_setB_apart _ (by decide) _ k.isLt (by decide) (by decide)).trans ((get_of_regs rfl ..).trans (quality.trans counted)))
  split
  next gone =>
    have off : a.lock = false := by simp only [Bool.and_eq_true, Bool.not_eq_true'] at gone; exact gone.2
    have bit4 : d4.bit F.LANE_STATUS.FRM_LOCK k = a.lock := (Dev.bit_of_get (Dev.get_inc_apart _ (by decide) _ k.isLt (by decide) (by decide))).trans bit
    have count4 : d4.get F.LANE_CNT.COUNT k 5 = (s.dev.get F.LANE_CNT.COUNT k 5 + lost) % 2 ^ 64 := (laneCnt_there _ k 1 (by decide)).trans count
    split
    · exact ⟨bit4, count4⟩
    · exact ⟨((lineLoss_unlocks d4 k 17).2 (bit4.trans off)).trans off.symm, (lineLoss_count d4 k 17 (by decide) (by decide)).trans count4⟩
  · exact ⟨bit, count⟩

/-! LOCK, EXCHANGE and the attempts that fail -/

theorem laneLockEntry_enters (h2 : s.dev.laneSt k = 2) (step : s.dev.get F.LANE_STATUS.STEP k = 2) (own : s.dev.ownLocks k = true)
    (idle : 16 ≤ (unit s.dev.lanes k).idleRun) (before : ((s.dev.due (.attempt k)).all fun x => s.dev.tick < x) = true) :
    After (.laneLockEntry k) s fun d => d.laneSt k = 3 ∧ d.bit F.LANE_STATUS.PEER_LOCKED k = true := by
  refine after_main ((exec_laneLockEntry ..).trans (by rw [execLaneLockEntry])) hl ?_
  rw [if_pos ⟨h2, step, own, idle⟩, forward_before before]
  extract_lets d1 d2
  have st : d2.laneSt k = 3 := (get_of_regs rfl ..).trans ((Dev.get_setB_apart _ (by decide) _ k.isLt (by decide) (by decide)).trans
    ((Dev.get_set_apart _ (by decide) _ k.isLt (by decide) (by decide)).trans (Dev.get_set_here _ _ _ k.isLt (by decide) (by decide))))
  have peer : d2.bit F.LANE_STATUS.PEER_LOCKED k = true := (Dev.bit_of_get (get_of_regs rfl ..)).trans (Dev.bit_setB_same _ (by decide) _ k.isLt (by decide) (by decide))
  have kept : ∀ e : Dev, e.calm.view checkMask = d2.calm.view checkMask → e.settle.laneSt k = 3 ∧ e.settle.bit F.LANE_STATUS.PEER_LOCKED k = true := fun e v =>
    ⟨(settle_get _ (by decide) k.isLt).trans ((get_of_view v (by decide) k.isLt).trans st),
      (settle_bit _ (by decide) k.isLt).trans ((Dev.bit_of_get (get_of_view v (by decide) k.isLt)).trans peer)⟩
  split
  · exact kept _ rfl
  · exact kept _ (view_checkPass (by decide) ..)

omit hl in
/-- R195, R199: the last attempt that fails holds the lane; another is followed by a gap. -/
theorem laneFail_settled (d : Dev) (k : Fin 96) :
    if (if d.bit F.LANE_CTRL.FB_ALLOWED k || (unit d.lanes k).twoLevel then 6 else 3) ≤ d.get F.LANE_STATUS.ATTEMPT k then
      (d.laneFail k).settle.laneSt k = 0 ∧ (d.laneFail k).settle.bit F.LANE_STATUS.HELD k = true ∧ (d.laneFail k).settle.get F.LANE_STATUS.FAIL k = 17
    else (d.laneFail k).settle.laneSt k = 2 ∧ (d.laneFail k).settle.due (.gap k) = some ((d.laneFail k).settle.tick + usT 200) := by
  unfold Dev.laneFail
  extract_lets last
  by_cases h : last ≤ d.get F.LANE_STATUS.ATTEMPT k
  · rw [if_pos h, if_pos h]
    exact laneHold_settled d k (by decide) (by decide)
  · rw [if_neg h, if_neg h]
    refine ⟨(settle_get _ (by decide) k.isLt).trans ((get_of_regs rfl ..).trans (Dev.get_set_here _ _ _ k.isLt (by decide) (by decide))), ?_⟩
    rw [calm_due (calm_settle _) _ rfl, tick_of_calm (calm_settle _), due_arm]
    rfl

theorem lane_tried {i : Instr} {t : Timer} {x : Nat} (he : exec i s = onMain s fun d => d.fire t (·.laneFail k)) (hd : s.dev.due t = some x)
    (ha : s.dev.ahead x = true) : After i s fun d =>
      if (if s.dev.bit F.LANE_CTRL.FB_ALLOWED k || (unit s.dev.lanes k).twoLevel then 6 else 3) ≤ s.dev.get F.LANE_STATUS.ATTEMPT k then
        d.laneSt k = 0 ∧ d.bit F.LANE_STATUS.HELD k = true ∧ d.get F.LANE_STATUS.FAIL k = 17
      else d.laneSt k = 2 ∧ d.due (.gap k) = some (d.tick + usT 200) := by
  refine after_fire he hl hd ha ?_
  have failed := laneFail_settled ((s.dev.until x).disarm t) k
  have lanes : ((s.dev.until x).disarm t).lanes = s.dev.lanes := elapse_lanes ..
  rwa [bit_disarm, get_disarm, until_bit _ _ (by decide) k.isLt, until_get _ _ (by decide) k.isLt, lanes] at failed

theorem laneRetryGapEnd_tries {x : Nat} (hd : s.dev.due (.gap k) = some x) (ha : s.dev.ahead x = true) :
    After (.laneRetryGapEnd k) s fun d => d.laneSt k = 2 ∧ d.get F.LANE_STATUS.ATTEMPT k = (s.dev.get F.LANE_STATUS.ATTEMPT k + 1) % 16 := by
  refine after_fire ((exec_laneRetryGapEnd ..).trans (by rw [execLaneRetryGapEnd])) hl hd ha ?_
  rw [get_disarm, until_get _ _ (by decide) k.isLt]
  refine ⟨(settle_get _ (by decide) k.isLt).trans (attemptStart_st _ k _), (settle_get _ (by decide) k.isLt).trans ?_⟩
  have v : ∀ (e : Dev) (n : Nat), (e.attemptStart k n).calm.view ⟨[F.LANE_STATUS.MODE], [.lanes]⟩
      = (((e.laneStill k).set F.LANE_STATUS.STATE 2 k).set F.LANE_STATUS.ATTEMPT n k).calm.view ⟨[F.LANE_STATUS.MODE], [.lanes]⟩ := fun e n => by
    simp (disch := decide) [Dev.attemptStart]
  exact (get_of_view (v _ _) (by decide) k.isLt).trans (Dev.get_set_here _ _ _ k.isLt (by decide) (by decide))

theorem laneExchangeEntry_enters (h3 : s.dev.laneSt k = 3) (own : s.dev.ownLocks k = true) (idle : 256 ≤ (unit s.dev.lanes k).idleRun)
    (before : ((s.dev.due (.lockState k)).all fun x => s.dev.tick < x) = true) :
    After (.laneExchangeEntry k) s fun d => d.laneSt k = 4 ∧ d.due (.exchange k) = some (s.dev.tick + msT 5) := by
  refine after_main ((exec_laneExchangeEntry ..).trans (by rw [execLaneExchangeEntry])) hl ?_
  rw [if_pos ⟨h3, own, idle⟩, forward_before before]
  have sent : ∀ (e : Dev) (t per n : Nat), (e.capDnSend k t per n).calm.view ⟨[], [.lanes]⟩ = e.calm.view ⟨[], [.lanes]⟩
      ∧ (e.capDnSend k t per n).due (.exchange k) = e.due (.exchange k) := fun e t per n =>
    ⟨view_each (fun d _ => laneSend_view d (by decide) ..) _ _, due_each _ _ (fun d _ => by unfold Dev.laneSend; split <;> rfl) _⟩
  obtain ⟨v, due⟩ := sent (((s.dev.set F.LANE_STATUS.STATE 4 k).disarm (.lockState k)).arm (.exchange k) (msT 5)) (s.dev.tick * 64) 0 1
  refine ⟨(settle_get _ (by decide) k.isLt).trans ((get_of_view ((view_lane _ _ (by decide) _).trans v) (f := F.LANE_STATUS.STATE) (by decide) k.isLt).trans ?_),
    (calm_due (calm_settle _) _ rfl).trans (due.trans ((due_arm ..).trans ?_))⟩
  · exact (get_of_regs rfl ..).trans (Dev.get_set_here _ _ _ k.isLt (by decide) (by decide))
  · rw [show ((s.dev.set F.LANE_STATUS.STATE 4 k).disarm (.lockState k)).tick = s.dev.tick from Dev.set_tick ..]

end

/-! The aligner and the framer (R188, R189) -/

theorem aligner_valid (a : Aligner) (h : a.lock = false) (h0 : a.run = 0) {n : Nat} (hn : n < 64) :
    (List.replicate n true).foldl Aligner.step a = { a with run := n } := by
  induction n with
  | zero =>
    cases a
    cases h0
    rfl
  | succ n ih =>
    rw [List.replicate_succ', List.foldl_append, ih (by omega)]
    have more : ¬ n + 1 = 64 := by omega
    simp [Aligner.step, h, more]

theorem aligner_invalid (a : Aligner) (h : a.lock = true) (h0 : a.last = []) {n : Nat} (hn : n < 16) :
    (List.replicate n false).foldl Aligner.step a = { a with last := List.replicate n false } := by
  induction n with
  | zero =>
    cases a
    cases h0
    rfl
  | succ n ih =>
    rw [List.replicate_succ', List.foldl_append, ih (by omega)]
    have few : ¬ 16 ≤ n + 1 := by omega
    have all : (List.replicate n false).take 63 = List.replicate n false := List.take_of_length_le (by simp; omega)
    simp [Aligner.step, h, all, few, ← List.replicate_succ']
    rfl

theorem aligner_wins (a : Aligner) (h : a.lock = false) (h0 : a.run = 0) : ((List.replicate 64 true).foldl Aligner.step a).lock = true
    ∧ ((List.replicate 63 true).foldl Aligner.step a).lock = false := by
  refine ⟨?_, ?_⟩
  · rw [List.replicate_succ' (n := 63), List.foldl_append, aligner_valid a h h0 (by decide)]
    simp [Aligner.step, h]
  · rw [aligner_valid a h h0 (by decide)]
    exact h

theorem aligner_loses (a : Aligner) (h : a.lock = true) (h0 : a.last = []) : ((List.replicate 16 false).foldl Aligner.step a).lock = false
    ∧ ((List.replicate 15 false).foldl Aligner.step a).lock = true := by
  refine ⟨?_, ?_⟩
  · rw [List.replicate_succ' (n := 15), List.foldl_append, aligner_invalid a h h0 (by decide)]
    simp [Aligner.step, h]
  · rw [aligner_invalid a h h0 (by decide)]
    exact h

theorem framer_wins (a : Framer) {x y z : Nat} (hx : x ∈ [0, 1]) (hy : y ∈ [0, 1]) (hz : z ∈ [0, 1]) (h : a.lock = false) (h0 : a.run = 0) :
    (a.take [x, y, z]).1.lock = true := by
  have few : ∀ {e}, e ∈ [0, 1] → ¬ 1 < e := fun he => by simp at he; omega
  simp [Framer.take, Framer.step, h, h0, few hx, few hy, few hz]

/-- An uncorrectable frame under lock, after `m` of them. -/
theorem framer_step {e : Nat} (he : 4 < e) (a : Framer) (h : a.lock = true) {m : Nat} (h0 : a.last = List.replicate m false) (hm : m < 8) :
    a.step e = if m = 7 then { a with lock := false, run := 0, last := [] } else { a with last := List.replicate (m + 1) false } := by
  have bad : decide (e ≤ 4) = false := by simp; omega
  have listed : (decide (e ≤ 4) :: a.last).take 64 = List.replicate (m + 1) false := by
    rw [bad, h0, ← List.replicate_succ]
    exact List.take_of_length_le (by simp; omega)
  unfold Framer.step
  rw [if_pos h, listed]
  have many : 8 ≤ ((List.replicate (m + 1) false).filter (!·)).length ↔ m = 7 := by
    rw [List.filter_replicate_of_pos rfl, List.length_replicate]
    omega
  simp only [many]

theorem framer_bad {e : Nat} (he : 4 < e) (a : Framer) (h : a.lock = true) {n m : Nat} (h0 : a.last = List.replicate m false) :
    (m + n < 8 → (a.take (List.replicate n e)).1.lock = true) ∧ (m + n = 8 → 0 < n → (a.take (List.replicate n e)).1.lock = false) := by
  induction n generalizing a m with
  | zero => exact ⟨fun _ => h, fun _ h => absurd h (by decide)⟩
  | succ n ih =>
    rw [List.replicate_succ, Framer.take]
    by_cases h7 : m = 7
    · refine ⟨fun hn => by omega, fun _ _ => ?_⟩
      rw [framer_step he a h h0 (by omega), if_pos h7]
      simp [h]
    · refine ⟨fun hn => ?_, fun hn _ => ?_⟩
      · rw [framer_step he a h h0 (by omega), if_neg h7]
        have next := (ih { a with last := List.replicate (m + 1) false } h rfl).1 (by omega)
        simpa [h] using next
      · rw [framer_step he a h h0 (by omega), if_neg h7]
        have next := (ih { a with last := List.replicate (m + 1) false } h rfl).2 (by omega) (by omega)
        simpa [h] using next

theorem framer_loses (a : Framer) {e : Nat} (he : 4 < e) (h : a.lock = true) (h0 : a.last = []) :
    (a.take (List.replicate 8 e)).1.lock = false ∧ (a.take (List.replicate 7 e)).1.lock = true :=
  ⟨(framer_bad he a h (m := 0) h0).2 rfl (by decide), (framer_bad he a h (m := 0) h0).1 (by decide)⟩

/-- Settles O28: transceiver and light, the training patterns, block and frame lock, LOCK, EXCHANGE and the attempts that fail. -/
theorem laneTraining : Obligations.LaneTraining :=
  ⟨fun _ _ hl => ⟨lanePrsLost_shows hl, laneDetectEntry_shows hl, fun _ h1 hd ha => laneTrainStart_lights hl h1 hd ha, fun ha => laneLos_shows hl ha,
      fun _ hd ha bad st => xcvrCheckTimeout_lists hl hd ha bad st, fun _ h2 going first step hm hk => laneTp1Lock_locks hl h2 going first step hm hk,
      fun _ hd ha => laneTp1End_steps hl hd ha, fun _ h2 step tp1 => laneSymbolLock_shows hl h2 step tp1⟩,
    fun _ k hl => ⟨fun _ looks hk late => laneBlockLock_counts hl looks hk late, fun _ _ unlocked slip early => laneBlockLock_early hl unlocked slip early,
      fun _ four blk => laneFrameLock_shows hl four blk rfl, fun h2 step own idle before => laneLockEntry_enters hl h2 step own idle before,
      ⟨fun _ hd ha => lane_tried hl ((exec_laneAttemptTimeout k _).trans (by rw [execLaneAttemptTimeout])) hd ha,
        fun _ hd ha => lane_tried hl ((exec_laneLockTimeout k _).trans (by rw [execLaneLockTimeout])) hd ha⟩,
      fun _ hd ha => laneRetryGapEnd_tries hl hd ha, fun h3 own idle before => laneExchangeEntry_enters hl h3 own idle before⟩,
    fun a => ⟨aligner_wins a, aligner_loses a⟩,
    fun a => ⟨fun _ hx _ hy _ hz h h0 => framer_wins a hx hy hz h h0, fun _ he h h0 => framer_loses a he h h0⟩⟩

end Sys2Proof.Machine
end

section
/-! SUPPORT. Trips and blanking, status carriers, the bootstrap proof and Hall changes (R370 to R388). -/

namespace Sys2Proof.Machine

set_option Elab.async false

theorem exec_gdTrip (x : Fin 32) (e : Edge) (s : State) : exec (.gdTrip x e) s = execGdTrip x e s := rfl
theorem exec_blankingEnd (x : Fin 32) (a : Bool) (s : State) : exec (.blankingEnd x a) s = execBlankingEnd x a s := rfl
theorem exec_xtrip (n : Fin 4) (e : Edge) (s : State) : exec (.xtrip n e) s = execXtrip n e s := rfl
theorem exec_softOffStep (c : Fin 32) (s : State) : exec (.softOffStep c) s = execSoftOffStep c s := rfl
theorem exec_statusCarrierFrame (x : Fin 32) (p : Nat) (f : FrameHigh) (s : State) : exec (.statusCarrierFrame x p f) s = execStatusCarrierFrame x p f s := rfl
theorem exec_carrierLost (x : Fin 32) (s : State) : exec (.carrierLost x) s = execCarrierLost x s := rfl
theorem exec_bootstrapProofTimeout (x : Fin 32) (s : State) : exec (.bootstrapProofTimeout x) s = execBootstrapProofTimeout x s := rfl
theorem exec_hallChange (x : HallRun) (s : State) : exec (.hallChange x) s = execHallChange x s := rfl

/-! Channels and stamps after time has passed -/

theorem until_chanOf (d : Dev) (n x : Nat) : (d.until n).chanOf x = d.chanOf x := by
  refine List.find?_congr fun c hc => ?_
  have small := List.mem_range.1 hc
  rw [Dev.stageOf, Dev.stageOf, Dev.gateOf, Dev.gateOf, until_get _ _ (by decide) small, until_get _ _ (by decide) small]

/-! A trip that acts -/

section
variable (d : Dev) {x : Nat} (hx : x < 32) (instant : Nat)
include hx

/-- R370: what a trip latches before its stage answers. -/
theorem gdAct_latches : (d.gdAct x instant).bit F.GD_STATUS.TRIP x = true ∧ (d.gdAct x instant).bit F.GD_STATUS.T_ACTIVE x = d.bit F.GD_STATUS.T_ACTIVE x
    ∧ (d.gdAct x instant).get F.GD_TRIP_COUNT.COUNT x = (d.get F.GD_TRIP_COUNT.COUNT x + 1) % 2 ^ 64
    ∧ (d.gdAct x instant).get F.GD_TRIP_TICK.TICK x = d.stampAt instant / 64 % 2 ^ 58 := by
  unfold Dev.gdAct
  extract_lets d1 i d2 d3 d4
  have stage : d4.calm = d3.calm := by
    simp only [d4]
    split
    · exact calm_stageTrip ..
    · rfl
  have calm : (d4.raise 128 4 x (leBytes 4 (i / 64)) (some instant)).calm = d3.calm := (calm_raise ..).trans stage
  rw [bit_of_calm calm (by decide) hx, bit_of_calm calm (by decide) hx, get_of_calm calm (by decide) hx, get_of_calm calm (by decide) hx]
  have stamp : i = d.stampAt instant :=
    stampAt_of ((Dev.bit_setB_apart _ (by decide) _ (by decide) (by decide) (by decide)).trans
      (Dev.bit_setB_apart _ (by decide) _ (by decide) (by decide) (by decide))) (congrArg Chr.edge0 ((Dev.set_chr ..).trans (Dev.set_chr ..))) instant
  have apart : ∀ {f : Fld}, f.apart F.GD_TRIP_TICK.SUBTICK = true → f.apart F.GD_TRIP_TICK.TICK = true → f.apart F.GD_TRIP_COUNT.COUNT = true → x < f.n1 → 0 < f.n2 →
      0 < f.n3 → d3.get f x = d1.get f x := fun h1 h2 h3 ha hb hc =>
    (Dev.get_inc_apart _ h3 _ ha hb hc).trans ((Dev.get_set_apart _ h2 _ ha hb hc).trans (Dev.get_set_apart _ h1 _ ha hb hc))
  refine ⟨?_, ?_, ?_, ?_⟩
  · refine (Dev.bit_of_get (apart (by decide) (by decide) (by decide) hx (by decide) (by decide))).trans ?_
    exact (Dev.bit_setB_apart _ (by decide) _ hx (by decide) (by decide)).trans (Dev.bit_setB_same _ (by decide) _ hx (by decide) (by decide))
  · refine (Dev.bit_of_get (apart (by decide) (by decide) (by decide) hx (by decide) (by decide))).trans ?_
    exact (Dev.bit_setB_apart _ (by decide) _ hx (by decide) (by decide)).trans (Dev.bit_setB_apart _ (by decide) _ hx (by decide) (by decide))
  · refine (Dev.get_inc_same _ _ _ hx (by decide) (by decide)).trans ?_
    rw [show d2.get F.GD_TRIP_COUNT.COUNT x = d.get F.GD_TRIP_COUNT.COUNT x from
      (Dev.get_set_apart _ (by decide) _ hx (by decide) (by decide)).trans ((Dev.get_set_apart _ (by decide) _ hx (by decide) (by decide)).trans
        ((Dev.get_setB_apart _ (by decide) _ hx (by decide) (by decide)).trans (Dev.get_setB_apart _ (by decide) _ hx (by decide) (by decide))))]
    rfl
  · refine (Dev.get_inc_apart _ (by decide) _ hx (by decide) (by decide)).trans ((Dev.get_set_here _ _ _ hx (by decide) (by decide)).trans ?_)
    rw [stamp]
    rfl

end

section
variable {s : State} {x : Fin 32} {instant : Nat} (hl : s.dev.live = true)
include hl

omit hl in
/-- R370: a trip input that has been active for its filter time. -/
def Dev.tripSeen (d : Dev) (x instant : Nat) (first : Nat) : Dev :=
  ((d.until (instant / 64 + d.osTicks (d.get F.GD_CFG.T_FILT x))).setB F.GD_STATUS.T_ACTIVE true x).gd x (fun g => { g with pendTick := first })

omit hl in
theorem tripSeen_get (d : Dev) (x instant first : Nat) {f : Fld} (h1 : f.apart F.GD_STATUS.T_ACTIVE = true) (h2 : f.apart F.RSV_TIME.COUNT = true) {a : Nat}
    (ha : a < f.n1) (hb : 0 < f.n2) (hc : 0 < f.n3) : (d.tripSeen x instant first).get f a = d.get f a :=
  (get_of_regs rfl ..).trans ((Dev.get_setB_apart _ h1 _ ha hb hc).trans (until_get _ _ h2 ha hb hc))

omit hl in
theorem chanOf_small {d : Dev} {x c : Nat} (h : d.chanOf x = some c) : c < 32 := List.mem_range.1 (List.mem_of_find?_eq_some h)

/-- R370, R371: what follows a trip that has been seen. -/
def Dev.tripMet (d : Dev) (x first : Nat) : Dev :=
  match d.due (.blank x) with
  | some t => if d.tick < t then d.setB F.GD_STATUS.PENDING true x else (d.disarm (.blank x)).gdAct x first
  | none => d.gdAct x first

omit hl in
theorem gdTrip_seen {c : Nat} (hc : s.dev.chanOf x = some c) (declared : s.dev.bit F.GD_CFG.DECLARED x = true) (driven : s.dev.get F.PW_STATUS.LEVEL c ≠ 0) :
    ∃ f : Dev → Dev, exec (.gdTrip x ⟨true, instant⟩) s = onMain s f
      ∧ ∃ first, (s.dev.bit F.GD_STATUS.PENDING x = false → first = instant) ∧ f s.dev = (s.dev.tripSeen x instant first).tripMet x first := by
  refine ⟨_, (exec_gdTrip ..).trans (by rw [execGdTrip]), if s.dev.bit F.GD_STATUS.PENDING x then (unit s.dev.gates x).pendTick else instant, fun h => by simp [h], ?_⟩
  have small := chanOf_small hc
  dsimp -zeta only
  rw [if_neg (by decide)]
  extract_lets d1 first d2
  have chan : d1.chanOf x = some c := (until_chanOf ..).trans hc
  have gates : d1.gates = s.dev.gates := elapse_gates ..
  have known : d1.bit F.GD_CFG.DECLARED x = true := (until_bit _ _ (by decide) x.isLt).trans declared
  have pend : d1.bit F.GD_STATUS.PENDING x = s.dev.bit F.GD_STATUS.PENDING x := until_bit _ _ (by decide) x.isLt
  have since : first = if s.dev.bit F.GD_STATUS.PENDING x then (unit s.dev.gates x).pendTick else instant := by
    show (if d1.bit F.GD_STATUS.PENDING x then (unit d1.gates x).pendTick else instant) = _
    rw [pend, gates]
  rw [chan]
  dsimp -zeta only
  rw [if_neg (by simp [known]), ← since]
  have level : ¬ d2.get F.PW_STATUS.LEVEL c = 0 := by
    rwa [show d2.get F.PW_STATUS.LEVEL c = _ from tripSeen_get _ _ _ _ (by decide) (by decide) small (by decide) (by decide)]
  have seen : d2 = s.dev.tripSeen x instant first := rfl
  rw [if_neg level, seen]
  rfl

theorem gdTrip_acts {c : Nat} (hc : s.dev.chanOf x = some c) (declared : s.dev.bit F.GD_CFG.DECLARED x = true) (driven : s.dev.get F.PW_STATUS.LEVEL c ≠ 0)
    (open_ : s.dev.due (.blank x) = none) (fresh : s.dev.bit F.GD_STATUS.PENDING x = false) :
    After (.gdTrip x ⟨true, instant⟩) s fun d => d.bit F.GD_STATUS.TRIP x = true ∧ d.bit F.GD_STATUS.T_ACTIVE x = true
      ∧ d.get F.GD_TRIP_COUNT.COUNT x = (s.dev.get F.GD_TRIP_COUNT.COUNT x + 1) % 2 ^ 64 ∧ d.get F.GD_TRIP_TICK.TICK x = s.dev.stampAt instant / 64 % 2 ^ 58 := by
  obtain ⟨f, he, first, hf, met⟩ := gdTrip_seen (instant := instant) hc declared driven
  refine after_main he hl ?_
  have due : (s.dev.tripSeen x instant first).due (.blank x) = none := ((due_setB ..).trans (due_until ..)).trans open_
  have stamp : (s.dev.tripSeen x instant first).stampAt first = s.dev.stampAt first :=
    (stampAt_of (Dev.bit_setB_apart _ (by decide) _ (by decide) (by decide) (by decide)) (congrArg Chr.edge0 (Dev.set_chr ..)) first).trans (until_stampAt ..)
  obtain ⟨trip, active, count, tick⟩ := gdAct_latches (s.dev.tripSeen x instant first) x.isLt first
  rw [met, Dev.tripMet, due]
  dsimp only
  rw [settle_bit _ (by decide) x.isLt, settle_bit _ (by decide) x.isLt, settle_get _ (by decide) x.isLt, settle_get _ (by decide) x.isLt, trip, active, count, tick, stamp,
    hf fresh, tripSeen_get _ _ _ _ (by decide) (by decide) x.isLt (by decide) (by decide)]
  exact ⟨rfl, (Dev.bit_of_get (get_of_regs rfl ..)).trans (Dev.bit_setB_same _ (by decide) _ x.isLt (by decide) (by decide)), rfl, rfl⟩

theorem gdTrip_waits {c t : Nat} (hc : s.dev.chanOf x = some c) (declared : s.dev.bit F.GD_CFG.DECLARED x = true) (driven : s.dev.get F.PW_STATUS.LEVEL c ≠ 0)
    (window : s.dev.due (.blank x) = some t) (long : max s.dev.tick (instant / 64 + s.dev.osTicks (s.dev.get F.GD_CFG.T_FILT x)) < t) :
    Leaves (.gdTrip x ⟨true, instant⟩) s fun e => e.bit F.GD_STATUS.PENDING x = true ∧ e.bit F.GD_STATUS.TRIP x = s.dev.bit F.GD_STATUS.TRIP x := by
  obtain ⟨f, he, first, -, met⟩ := gdTrip_seen (instant := instant) hc declared driven
  refine leaves_main he hl ?_
  have due : (s.dev.tripSeen x instant first).due (.blank x) = some t := ((due_setB ..).trans (due_until ..)).trans window
  have tick : (s.dev.tripSeen x instant first).tick = max s.dev.tick (instant / 64 + s.dev.osTicks (s.dev.get F.GD_CFG.T_FILT x)) :=
    (Dev.set_tick ..).trans (until_tick _ _ hl)
  rw [met, Dev.tripMet, due]
  dsimp only
  rw [tick, if_pos long]
  exact ⟨Dev.bit_setB_same _ (by decide) _ x.isLt (by decide) (by decide), (Dev.bit_setB_apart _ (by decide) _ x.isLt (by decide) (by decide)).trans
    (Dev.bit_of_get (tripSeen_get _ _ _ _ (by decide) (by decide) x.isLt (by decide) (by decide)))⟩

theorem gdTrip_ends : After (.gdTrip x ⟨false, instant⟩) s fun d => d.bit F.GD_STATUS.T_ACTIVE x = false ∧ d.tick = max s.dev.tick (instant / 64) := by
  refine after_main ((exec_gdTrip ..).trans (by rw [execGdTrip])) hl ?_
  dsimp -zeta only
  rw [if_pos (by decide), settle_bit _ (by decide) x.isLt, tick_of_calm (calm_settle _)]
  exact ⟨Dev.bit_setB_same _ (by decide) _ x.isLt (by decide) (by decide), (Dev.set_tick ..).trans (until_tick _ _ hl)⟩

theorem blankingEnd_shows {active : Bool} {t : Nat} (hd : s.dev.due (.blank x) = some t) (ha : s.dev.ahead t = true) :
    After (.blankingEnd x active) s fun d => d.bit F.GD_STATUS.T_ACTIVE x = active
      ∧ (s.dev.bit F.GD_STATUS.PENDING x = true → active = true → d.bit F.GD_STATUS.TRIP x = true)
      ∧ (s.dev.bit F.GD_STATUS.PENDING x = true → active = false → d.get F.GD_BLANKED.COUNT x = min (2 ^ 32 - 1) (s.dev.get F.GD_BLANKED.COUNT x + 1)) := by
  refine after_fire ((exec_blankingEnd ..).trans (by rw [execBlankingEnd])) hl hd ha ?_
  extract_lets d1
  have here : d1.bit F.GD_STATUS.T_ACTIVE x = active := Dev.bit_setB_same _ (by decide) _ x.isLt (by decide) (by decide)
  have read : ∀ {f : Fld}, f.apart F.GD_STATUS.T_ACTIVE = true → f.apart F.RSV_TIME.COUNT = true → x.val < f.n1 → 0 < f.n2 → 0 < f.n3 → d1.get f x = s.dev.get f x :=
    fun h1 h2 ha hb hc => (Dev.get_setB_apart _ h1 _ ha hb hc).trans ((get_disarm ..).trans (until_get _ _ h2 ha hb hc))
  have pend : d1.bit F.GD_STATUS.PENDING x = s.dev.bit F.GD_STATUS.PENDING x := Dev.bit_of_get (read (by decide) (by decide) x.isLt (by decide) (by decide))
  rw [settle_bit _ (by decide) x.isLt, settle_bit _ (by decide) x.isLt, settle_get _ (by decide) x.isLt, pend]
  split
  · split
    next act =>
      obtain ⟨trip, tact, -, -⟩ := gdAct_latches d1 x.isLt (unit d1.gates x).pendTick
      exact ⟨tact.trans here, fun _ _ => trip, fun _ off => absurd (act.symm.trans off) (by decide)⟩
    next off =>
      refine ⟨?_, fun _ act => absurd act off, fun _ _ => ?_⟩
      · exact (Dev.bit_set_apart _ (by decide) _ x.isLt (by decide) (by decide)).trans ((Dev.bit_setB_apart _ (by decide) _ x.isLt (by decide) (by decide)).trans here)
      · refine (Dev.get_set_here _ _ _ x.isLt (by decide) (by decide)).trans ?_
        rw [Dev.get_setB_apart _ (by decide) _ x.isLt (by decide) (by decide), read (by decide) (by decide) x.isLt (by decide) (by decide)]
        exact Nat.mod_eq_of_lt (Nat.lt_of_le_of_lt (Nat.min_le_left ..) (by decide))
  next idle => exact ⟨here, fun h => absurd h idle, fun h => absurd h idle⟩

end

/-! XTRIP -/

section
variable {s : State} {n : Fin 4} {instant : Nat} (hl : s.dev.live = true)
include hl

omit hl in
theorem xtripAct_latches (d : Dev) (i : Nat) : (d.xtripAct n i).bit F.XTRIP_CFG.ACTIVE n = d.bit F.XTRIP_CFG.ACTIVE n
    ∧ (d.xtripAct n i).bit F.XTRIP_CFG.TRIP n = (d.bit F.XTRIP_CFG.EN n || d.bit F.XTRIP_CFG.TRIP n) := by
  unfold Dev.xtripAct
  split
  next off =>
    have off' : d.bit F.XTRIP_CFG.EN n = false := by simpa using off
    exact ⟨rfl, by rw [off', Bool.false_or]⟩
  next on_ =>
    have on' : d.bit F.XTRIP_CFG.EN n = true := by simpa using on_
    extract_lets st ss i' d1
    have stamped : d1.calm.view gateMask = ((d.setB F.XTRIP_CFG.TRIP true n).stagesTrip ss).calm.view gateMask :=
      view_each (fun e c => by simp (disch := decide)) _ _
    have v : (d1.raise 129 4 n [st] (some i)).calm.view gateMask = (d.setB F.XTRIP_CFG.TRIP true n).calm.view gateMask :=
      (view_of_calm (calm_raise ..) _).trans (stamped.trans (view_of_calm (calm_stagesTrip ..) _))
    rw [on', Bool.true_or]
    exact ⟨(Dev.bit_of_get (get_of_view v (by decide) n.isLt)).trans (Dev.bit_setB_apart _ (by decide) _ n.isLt (by decide) (by decide)),
      (Dev.bit_of_get (get_of_view v (by decide) n.isLt)).trans (Dev.bit_setB_same _ (by decide) _ n.isLt (by decide) (by decide))⟩

theorem xtrip_acts : After (.xtrip n ⟨true, instant⟩) s fun d => d.bit F.XTRIP_CFG.ACTIVE n = true
    ∧ d.bit F.XTRIP_CFG.TRIP n = (s.dev.bit F.XTRIP_CFG.EN n || s.dev.bit F.XTRIP_CFG.TRIP n) := by
  refine after_main ((exec_xtrip ..).trans (by rw [execXtrip])) hl ?_
  dsimp -zeta only
  rw [if_neg (by decide)]
  extract_lets d1
  obtain ⟨active, trip⟩ := xtripAct_latches (n := n) (d1.setB F.XTRIP_CFG.ACTIVE true n) instant
  have read : ∀ {f : Fld}, f.apart F.XTRIP_CFG.ACTIVE = true → f.apart F.RSV_TIME.COUNT = true → n.val < f.n1 → 0 < f.n2 → 0 < f.n3 →
      (d1.setB F.XTRIP_CFG.ACTIVE true n).bit f n = s.dev.bit f n := fun h1 h2 ha hb hc =>
    (Dev.bit_setB_apart _ h1 _ ha hb hc).trans (until_bit _ _ h2 ha hb hc)
  rw [settle_bit _ (by decide) n.isLt, settle_bit _ (by decide) n.isLt, active, trip,
    read (f := F.XTRIP_CFG.EN) (by decide) (by decide) n.isLt (by decide) (by decide),
    read (f := F.XTRIP_CFG.TRIP) (by decide) (by decide) n.isLt (by decide) (by decide)]
  exact ⟨Dev.bit_setB_same _ (by decide) _ n.isLt (by decide) (by decide), rfl⟩

theorem xtrip_ends : After (.xtrip n ⟨false, instant⟩) s fun d => d.bit F.XTRIP_CFG.ACTIVE n = false ∧ d.bit F.XTRIP_CFG.TRIP n = s.dev.bit F.XTRIP_CFG.TRIP n := by
  refine after_main ((exec_xtrip ..).trans (by rw [execXtrip])) hl ?_
  dsimp -zeta only
  rw [if_pos (by decide), settle_bit _ (by decide) n.isLt, settle_bit _ (by decide) n.isLt]
  exact ⟨Dev.bit_setB_same _ (by decide) _ n.isLt (by decide) (by decide),
    (Dev.bit_setB_apart _ (by decide) _ n.isLt (by decide) (by decide)).trans (until_bit _ _ (by decide) n.isLt)⟩

end

/-! The soft-off's last step (R350, R366): LEVEL 0 stays 0 as the block locks out -/

/-- What entry to LOCKOUT writes, but for the levels of the brake's channels. -/
def dropFields : List Fld :=
  loanFields ++ [F.GLB_PRECHARGE.PHASE, F.GLB_PRECHARGE.ELAPSED, F.PLL_STATUS.DEMAND, F.GLB_STATE.DEVICE, F.GLB_STATE_SINCE.BEAT, F.LE_STATUS.RATE, F.ARC_STATE.STATE,
    F.ARC_STATE.CAUSE, F.SAF_STATE.LOOP_ON, F.SAF_STATE.SDO_C, F.SAF_STATE.SDO_D, F.SAF_STATE.RB_C, F.SAF_STATE.RB_D, F.OS_STATUS.BRAKE_ARMED, F.OS_STATUS.BRAKE_ON]

section
variable (d : Dev)

theorem drop_of_loan {d e : Dev} (h : e.sight loanFields = d.sight loanFields) : e.sight dropFields = d.sight dropFields := sight_le (by decide) h

theorem drop_loanEnd (op : Nat) : (d.loanEnd op).sight dropFields = d.sight dropFields :=
  (sight_each _ (fun e i => drop_of_loan (sight_loanDrop e op i)) _).trans (sight_each _ (fun e i => drop_of_loan (sight_loanReturn e op i)) _)

theorem drop_preEnd : d.preEnd.sight dropFields = d.sight dropFields := by
  have phases : ∀ (e : Dev) (s : Nat), (e.prePhase s 0).sight dropFields = e.sight dropFields := fun e s =>
    (sight_of_regs rfl _).trans ((sight_set _ (by decide) ..).trans (sight_set _ (by decide) ..))
  refine (sight_each _ (fun e s => ?_) _).trans (drop_loanEnd d 8)
  rw [Dev.cond]
  split
  · exact (phases ..).trans (sight_disarm ..)
  · exact sight_disarm ..

theorem drop_pllDrop (p u : Nat) : (d.pllDrop p u).sight dropFields = d.sight dropFields := by
  have gone : ∀ (e : Dev) (x : List (List Nat)), ({ e with clk := { e.clk with demand := x } } : Dev).sight dropFields = e.sight dropFields :=
    fun e x => sight_of_regs rfl _
  simp (disch := decide) [Dev.pllDrop, gone]

theorem drop_loopSilence : d.loopSilence.sight dropFields = d.sight dropFields :=
  (sight_of_regs (d := d.setB F.SAF_STATE.LOOP_ON false) rfl _).trans (sight_setB _ (by decide) ..)

theorem drop_sdoDrop (c x : Bool) : (d.sdoDrop c x).sight dropFields = d.sight dropFields := by
  simp (disch := decide) [Dev.sdoDrop]

/-- A channel whose level is 0. -/
def Dev.low (c : Nat) (d : Dev) : Prop := d.get F.PW_STATUS.LEVEL c = 0

variable {d} {c : Nat} (hc : c < 32)
include hc

theorem low_of_drop {e : Dev} (h : e.sight dropFields = d.sight dropFields) (low : d.low c) : e.low c :=
  (get_of_sight h (by decide) hc).trans low

theorem low_level {c' : Nat} (h : c' = c ∨ d.low c) : (d.level c' 0).low c := by
  have set : ((d.set F.PW_STATUS.LEVEL 0 c').set F.GD_STATUS.CMD 0 (d.gateOf c')).low c := by
    refine (Dev.get_set_apart _ (by decide) _ hc (by decide) (by decide)).trans ?_
    by_cases same : c' = c
    · subst same
      exact Dev.get_set_here _ _ _ hc (by decide) (by decide)
    · exact (Dev.get_set_ne _ _ _ _ (by simp only [Fld.key, Fld.off, F.PW_STATUS.LEVEL]; omega)).trans (h.resolve_left same)
  exact (Dev.get_setB_apart _ (by decide) _ hc (by decide) (by decide)).trans set

theorem low_each {l : List Nat} (low : d.low c) : (d.each l fun d c => d.level c 0).low c := by
  induction l generalizing d with
  | nil => exact low
  | cons x xs ih => exact ih (low_level hc (.inr low))

theorem low_lockout (o : Orig) (low : d.low c) : (d.setState LOCKOUT o).low c := by
  unfold Dev.setState
  extract_lets old d1 d2 a d3 d4 d5 d6 d7
  have entered : d1.low c := low_of_drop hc ((drop_of_loan (loan_of_books (books_log ..))).trans
    ((sight_set _ (by decide) ..).trans ((sight_set _ (by decide) ..).trans (sight_set _ (by decide) ..)))) low
  have archive : d3.low c := entered
  have silent : d4.low c := by
    change (if d3.bit F.SAF_STATE.LOOP_ON then d3.loopSilence else d3).low c
    split
    · exact low_of_drop hc (drop_loopSilence _) archive
    · exact archive
  have braked : d7.low c := by
    change (if d5.bit F.OS_STATUS.BRAKE_ARMED then (if d6.bit F.PWM_STAGE.HELD 1 then d6 else d6.each [24, 25] fun d c => d.level c 0) else d5).low c
    have unarmed : d6.low c := low_of_drop hc ((sight_setB _ (by decide) ..).trans (sight_setB _ (by decide) ..)) silent
    split
    · split
      · exact unarmed
      · exact low_each hc unarmed
    · exact silent
  split
  · exact low
  · rw [if_pos (.inr rfl)]
    exact low_of_drop hc (drop_sdoDrop ..) braked

theorem low_lockTry (low : d.low c) : d.lockTry.low c := by
  unfold Dev.lockTry
  split
  · split
    · exact low
    · unfold Dev.lockEnter
      extract_lets d1 d2 saf
      have returned : d1.sight dropFields = d.sight dropFields := by
        change ((((d.loanReturn 4 0).loanDrop 4 0).preEnd.loanEnd 9).loanEnd 10).sight dropFields = _
        rw [drop_loanEnd, drop_loanEnd, drop_preEnd, drop_of_loan (sight_loanDrop _ 4 0), drop_of_loan (sight_loanReturn d 4 0)]
      have stopped : d2.sight dropFields = d1.sight dropFields := (drop_pllDrop ..).trans (drop_pllDrop ..)
      have ended : d2.low c := low_of_drop hc (stopped.trans returned) low
      clear_value d2
      exact low_lockout (d := { d2 with saf := { saf with lockDue := none } }) hc _ ended
  · exact low

end

theorem softOffStep_low {s : State} {c : Fin 32} {x : Nat} (hl : s.dev.live = true) (hd : s.dev.due (.softOff c) = some x) (ha : s.dev.ahead x = true) :
    Leaves (.softOffStep c) s fun e => e.get F.PW_STATUS.LEVEL c = 0 := by
  refine leaves_fire ((exec_softOffStep ..).trans (by rw [execSoftOffStep])) hl hd ha ?_
  refine low_lockTry c.isLt ?_
  exact low_level c.isLt (.inl rfl)

/-! What the stages' answers leave of the gate units and of the Hall stamp -/

/-- Carrier lost now and bridge locked out, per gate unit, and the tick of the last Hall change. -/
def Dev.marks (d : Dev) : List (Bool × Bool) × Nat := (d.gates.map fun g => (g.lostNow, g.bridge), d.os.hallTick)

theorem marks_of {d e : Dev} (hg : e.gates = d.gates) (ho : e.os.hallTick = d.os.hallTick) : e.marks = d.marks := by rw [Dev.marks, Dev.marks, hg, ho]

theorem marks_of_held {d e : Dev} (h : e.held = d.held) : e.marks = d.marks :=
  marks_of (congrArg Calm.gates h) (congrArg (fun x : Calm => x.os.hallTick) h)

theorem marks_of_calm {d e : Dev} (h : e.calm = d.calm) : e.marks = d.marks := marks_of_held (held_of_calm h)

theorem unit_of_marks {d e : Dev} (h : e.marks = d.marks) (x : Nat) :
    (unit e.gates x).lostNow = (unit d.gates x).lostNow ∧ (unit e.gates x).bridge = (unit d.gates x).bridge := by
  have pair : ∀ l : List Gate, (l.map fun g => (g.lostNow, g.bridge)).getD x (false, false) = ((unit l x).lostNow, (unit l x).bridge) :=
    fun l => List.getD_map (l := l) (d := default) (fun g : Gate => (g.lostNow, g.bridge))
  have same := congrArg (fun y => y.1.getD x (false, false)) h
  exact Prod.mk.inj ((pair e.gates).symm.trans (same.trans (pair d.gates)))

theorem many_of_marks {d e : Dev} (h : e.marks = d.marks) : e.gates.length = d.gates.length := by
  have same := congrArg (fun y => y.1.length) h
  simpa only [Dev.marks, List.length_map] using same

theorem hallTick_of_marks {d e : Dev} (h : e.marks = d.marks) : e.os.hallTick = d.os.hallTick := congrArg Prod.snd h

section
variable (d : Dev)

@[simp] theorem marks_set (f : Fld) (v a b c : Nat) : (d.set f v a b c).marks = d.marks := marks_of_held (held_set ..)
@[simp] theorem marks_setB (f : Fld) (v : Bool) (a b c : Nat) : (d.setB f v a b c).marks = d.marks := marks_set ..
@[simp] theorem marks_inc (f : Fld) (n a b c : Nat) : (d.inc f n a b c).marks = d.marks := marks_set ..
@[simp] theorem marks_incSat (f : Fld) (n a b c : Nat) : (d.incSat f n a b c).marks = d.marks := marks_set ..
@[simp] theorem marks_arm (t : Timer) (n : Nat) : (d.arm t n).marks = d.marks := rfl
@[simp] theorem marks_disarm (t : Timer) : (d.disarm t).marks = d.marks := rfl
@[simp] theorem marks_pw (k : Nat) (g : Pwm → Pwm) : (d.pw k g).marks = d.marks := rfl
@[simp] theorem marks_elapse (n : Nat) : (d.elapse n).marks = d.marks := marks_of (elapse_gates ..) (congrArg Os.hallTick (elapse_os ..))
@[simp] theorem marks_level (c l : Nat) : (d.level c l).marks = d.marks := marks_of_calm (calm_level ..)
@[simp] theorem marks_stageTrip (s : Nat) : (d.stageTrip s).marks = d.marks := marks_of_calm (calm_stageTrip ..)
@[simp] theorem marks_softOffChan (s c : Nat) : (d.softOffChan s c).marks = d.marks := marks_of_calm (calm_softOffChan ..)
@[simp] theorem marks_raise (src cls obj : Nat) (data : List Nat) (i factor : Option Nat) : (d.raise src cls obj data i factor).marks = d.marks :=
  marks_of_calm (calm_raise ..)
@[simp] theorem marks_checkFail (code obj : Nat) : (d.checkFail code obj).marks = d.marks := marks_of_held (held_checkFail ..)
@[simp] theorem marks_check (code obj : Nat) (ok : Bool) : (d.check code obj ok).marks = d.marks := marks_of_held (held_check ..)

@[simp] theorem marks_gd (x : Nat) {g : Gate → Gate} (h : ∀ u, (g u).lostNow = u.lostNow ∧ (g u).bridge = u.bridge) : (d.gd x g).marks = d.marks := by
  have same : (d.gates.modify x g).map (fun u => (u.lostNow, u.bridge)) = d.gates.map fun u => (u.lostNow, u.bridge) := by
    refine List.ext_getElem? fun i => ?_
    rw [List.getElem?_map, List.getElem?_map, List.getElem?_modify]
    split
    · cases d.gates[i]? with
      | none => rfl
      | some u =>
        obtain ⟨hl, hb⟩ := h u
        simp [hl, hb]
    · exact congrArg _ (id_map d.gates[i]?)
  exact congrArg (·, d.os.hallTick) same

@[simp] theorem marks_ite {p : Prop} [Decidable p] (x y : Dev) : (if p then x else y).marks = if p then x.marks else y.marks := apply_ite Dev.marks p x y

theorem marks_each {α : Type} {g : Dev → α → Dev} (h : ∀ d x, (g d x).marks = d.marks) (l : List α) : (d.each l g).marks = d.marks :=
  each_keeps Dev.marks h l d

@[simp] theorem marks_gdAct (x instant : Nat) : (d.gdAct x instant).marks = d.marks := by
  unfold Dev.gdAct
  extract_lets d1 i d2 d3 d4
  have latched : d3.marks = d.marks := by simp [d3, d2, d1]
  have tripped : d4.marks = d3.marks := by
    simp only [d4]
    split
    · simp
    · rfl
  simp [tripped, latched]

@[simp] theorem marks_pwRise (c l : Nat) : (d.pwRise c l).marks = d.marks := by simp [Dev.pwRise]
@[simp] theorem marks_forceUp (c l : Nat) : (d.forceUp c l).marks = d.marks := by simp [Dev.forceUp]
@[simp] theorem marks_forceAgain (c : Nat) : (d.forceAgain c).marks = d.marks := by simp [Dev.forceAgain]
@[simp] theorem marks_pwOff (c : Nat) : (d.pwOff c).marks = d.marks := by simp [Dev.pwOff]
@[simp] theorem marks_deadStart (c : Nat) (l : Option Nat) : (d.deadStart c l).marks = d.marks := by simp [Dev.deadStart]

@[simp] theorem marks_pwOn (c : Nat) : (d.pwOn c).marks = d.marks := by
  unfold Dev.pwOn
  split
  · rfl
  · split <;> simp

@[simp] theorem marks_pwDrive (c : Nat) : (d.pwDrive c).marks = d.marks := by
  unfold Dev.pwDrive
  split
  · exact marks_pwOn ..
  · split <;> simp
  · simp

@[simp] theorem marks_lockSync (x : Nat) : (d.lockSync x).marks = d.marks := by
  simp only [Dev.lockSync]
  split <;> simp

@[simp] theorem marks_uvlo (x : Nat) : (d.uvlo x).marks = d.marks := by
  simp only [Dev.uvlo]
  split <;> split <;> simp

@[simp] theorem marks_legChange (e was : Nat) : (d.legChange e was).marks = d.marks := by simp [Dev.legChange]
@[simp] theorem marks_hallFault (old new : Nat) : (d.hallFault old new).marks = d.marks := by simp [Dev.hallFault]

end

/-! Registers under the stages' answers -/

/-- What a channel that loses its supply may write. -/
def supplyMask : Mask := ⟨stageMask.regs ++ checkMask.regs ++ [F.GD_STATUS.UV_POS, F.GD_STATUS.UV_NEG], [.gates, .slots]⟩

section
variable (d : Dev)

@[simp] theorem supplyView_uvlo (x : Nat) : (d.uvlo x).calm.view supplyMask = d.calm.view supplyMask := by
  unfold Dev.uvlo
  extract_lets d1 d2 d3
  have locked : d1.calm.view supplyMask = d.calm.view supplyMask := view_le (by decide) (stageView_lockSync d x)
  have tripped : d2.calm = d1.calm := by
    simp only [d2]
    split
    · exact calm_stageTrip ..
    · rfl
  have low : d3.calm = d1.calm := by
    simp only [d3]
    split
    · split
      · rfl
      · exact calm_level ..
    · rfl
  split
  · exact (view_of_calm ((calm_raise ..).trans tripped) _).trans locked
  · exact (view_checkFail (by decide) ..).trans ((view_of_calm ((calm_raise ..).trans low) _).trans locked)

@[simp] theorem supplyView_bridgeLock (x data : Nat) : (d.bridgeLock x data).calm.view supplyMask = d.calm.view supplyMask := by
  unfold Dev.bridgeLock
  split
  · rfl
  next c _ =>
    extract_lets s pair cs d1 d2
    have locked : d1.calm.view supplyMask = d.calm.view supplyMask :=
      view_each (fun e k => (view_le (by decide) (stageView_lockSync ..)).trans (view_gd _ _ (by decide) _)) _ _
    have off : d2.calm = d1.calm := by
      simp only [d2]
      split
      · exact calm_stageTrip ..
      · exact each_keeps Dev.calm (fun e k => calm_softOffChan ..) _ _
    exact (view_of_calm (calm_raise ..) _).trans ((view_disarm ..).trans ((view_of_calm off _).trans locked))

end

/-! Carriers and frames (R382 to R384) -/

theorem settle_gateUnits (d : Dev) : d.settle.gates = d.gates := congrArg Calm.gates (calm_settle _)
theorem settle_hallTick (d : Dev) : d.settle.os.hallTick = d.os.hallTick := congrArg (fun y : Calm => y.os.hallTick) (calm_settle _)

section
variable {s : State} {x : Fin 32} (hl : s.dev.live = true)
include hl

theorem carrierFrame_undeclared {period : Nat} {f : FrameHigh} (unknown : s.dev.bit F.GD_CFG.DECLARED x = false) :
    Leaves (.statusCarrierFrame x period f) s fun e => e.tick = max s.dev.tick f.end_ ∧ (x.val, f.end_) ∈ e.os.undeclared := by
  refine leaves_main ((exec_statusCarrierFrame ..).trans (by rw [execStatusCarrierFrame])) hl ?_
  extract_lets d1 high os q band g
  have unknown1 : d1.bit F.GD_CFG.DECLARED x = false := (until_bit _ _ (by decide) x.isLt).trans unknown
  rw [if_pos (by simp [unknown1])]
  have kept := held_checkFail
    (({ d1 with os := { d1.os with undeclared := ((x : Nat), f.end_) :: d1.os.undeclared.filter (fun u => u.1 != (x : Nat)) } }).arm (.carrier x) 4000) 21 x
  refine ⟨(congrArg Calm.tick kept).trans (until_tick _ _ hl), ?_⟩
  have listed := congrArg (fun y : Calm => y.os.undeclared) kept
  exact (congrArg ((x.val, f.end_) ∈ ·) listed).mpr List.mem_cons_self

/-- R382: what a frame outside its bands, or out of turn, leaves. -/
theorem carrierFrame_errs {period : Nat} {f : FrameHigh} (known : s.dev.bit F.GD_CFG.DECLARED x = true) (out : period < 800 ∨ 1200 < period) :
    After (.statusCarrierFrame x period f) s fun d => d.get F.GD_FRAME_ERR.COUNT x = (s.dev.get F.GD_FRAME_ERR.COUNT x + 1) % 2 ^ 64 ∧ (unit d.gates x).good = 0 := by
  refine after_main ((exec_statusCarrierFrame ..).trans (by rw [execStatusCarrierFrame])) hl ?_
  extract_lets d1 high os q band g ok d2
  have known1 : d1.bit F.GD_CFG.DECLARED x = true := (until_bit _ _ (by decide) x.isLt).trans known
  have bad : ¬ ok := fun h => by
    obtain ⟨low, high, -⟩ := h
    omega
  rw [if_neg (by simp [known1]), if_pos (by simp [bad])]
  refine ⟨(settle_get _ (by decide) x.isLt).trans ((Dev.get_inc_same _ _ _ x.isLt (by decide) (by decide)).trans ?_), ?_⟩
  · exact congrArg (fun y => (y + 1) % 2 ^ 64) ((get_of_regs rfl ..).trans (until_get _ _ (by decide) x.isLt))
  · rw [settle_gateUnits, show ∀ e : Dev, (e.inc F.GD_FRAME_ERR.COUNT 1 x).gates = e.gates from fun e => Dev.set_gates ..]
    by_cases there : x.val < d2.gates.length
    · exact congrArg Gate.good (unit_modify _ _ _ there)
    · refine congrArg Gate.good (unit_beyond (l := d2.gates.modify x _) ?_)
      rwa [List.length_modify]

omit hl in
theorem framePos_shows (d : Dev) (v begun : Nat) (small : v < 2 ^ 16) : (d.framePos x v begun).get F.GD_SUPPLY.VPOS x = v := by
  have freed : ∀ (e : Dev) (g : Gate → Gate), (e.gd x g).calm.view supplyMask = e.calm.view supplyMask := fun e g => view_gd _ _ (by decide) _
  unfold Dev.framePos
  extract_lets th up g d1 new d2 d3 d4
  have here : d1.get F.GD_SUPPLY.VPOS x = v := (Dev.get_set_here _ _ _ x.isLt (by decide) (by decide)).trans (Nat.mod_eq_of_lt small)
  have low : d2.calm.view supplyMask = d1.calm.view supplyMask := (freed ..).trans (view_setB (by decide) ..)
  have judged : d3.calm.view supplyMask = d1.calm.view supplyMask := by
    simp only [d3]
    split
    · simp [freed, low]
    · simp [freed]
  refine (get_of_view (m := supplyMask) ?_ (by decide) x.isLt).trans here
  clear_value d3
  have proven : ((d3.setB F.GD_STATUS.UNPROVEN false x).disarm (.proof x)).calm.view supplyMask = d3.calm.view supplyMask :=
    (view_disarm ..).trans (view_setB (by decide) ..)
  have refreshed : d4.calm.view supplyMask = d3.calm.view supplyMask := freed ..
  simp [proven, refreshed, judged]

omit hl in
theorem frameNeg_shows (d : Dev) (v : Nat) (small : v < 2 ^ 16) : (d.frameNeg x v).get F.GD_SUPPLY.VNEG x = v := by
  have freed : ∀ (e : Dev) (g : Gate → Gate), (e.gd x g).calm.view supplyMask = e.calm.view supplyMask := fun e g => view_gd _ _ (by decide) _
  have here : (d.set F.GD_SUPPLY.VNEG v x).get F.GD_SUPPLY.VNEG x = v := (Dev.get_set_here _ _ _ x.isLt (by decide) (by decide)).trans (Nat.mod_eq_of_lt small)
  refine (get_of_view (m := supplyMask) ?_ (by decide) x.isLt).trans here
  simp (disch := decide) [Dev.frameNeg, freed]

omit hl in
theorem check21_get (d : Dev) {f : Fld} (h : failMask.keeps f = true) (ha : x.val < f.n1) (hb : 0 < f.n2) (hc : 0 < f.n3) : (d.check21 x).get f x = d.get f x := by
  simp only [Dev.check21]
  split
  · exact get_of_view (view_checkPass (m := failMask) (by decide) d 21 x) h ha hb hc
  · rfl

/-- R382: a frame in its band and in its turn shows the supply it carries. -/
theorem carrierFrame_showsPos {period : Nat} {f : FrameHigh} (known : s.dev.bit F.GD_CFG.DECLARED x = true) (long : 800 ≤ period) (short : period ≤ 1200)
    (low : 512 ≤ 4096 * f.ticks / period) (top : 4096 * f.ticks / period ≤ 1791) (turn : (unit s.dev.gates x).band ≠ 1) :
    After (.statusCarrierFrame x period f) s fun d => d.get F.GD_SUPPLY.VPOS x = 5000 + 20 * (4096 * f.ticks / period - 512) := by
  refine after_main ((exec_statusCarrierFrame ..).trans (by rw [execStatusCarrierFrame])) hl ?_
  extract_lets d1 high os q band g ok d2 good d3 d4 d5
  have known1 : d1.bit F.GD_CFG.DECLARED x = true := (until_bit _ _ (by decide) x.isLt).trans known
  have width : q ≤ 1791 := top
  have first : band = 1 := if_pos ⟨low, top⟩
  have inTurn : ok := ⟨long, short, by omega, by rwa [first, ne_comm, show g = unit s.dev.gates x from congrArg (unit · x) (elapse_gates ..)]⟩
  have shown : d5.get F.GD_SUPPLY.VPOS x = 5000 + 20 * (q - 512) := by
    rw [show d5 = d4.framePos x (5000 + 20 * (q - 512)) (f.end_ - period) from if_pos first]
    exact framePos_shows _ _ _ (show 5000 + 20 * (q - 512) < 2 ^ 16 by omega)
  rw [if_neg (by simp [known1]), if_neg (by simp [inTurn]), settle_get _ (by decide) x.isLt]
  exact (check21_get d5 (by decide) x.isLt (by decide) (by decide)).trans shown

theorem carrierFrame_showsNeg {period : Nat} {f : FrameHigh} (known : s.dev.bit F.GD_CFG.DECLARED x = true) (long : 800 ≤ period) (short : period ≤ 1200)
    (low : 2304 ≤ 4096 * f.ticks / period) (top : 4096 * f.ticks / period ≤ 3583) (turn : (unit s.dev.gates x).band ≠ 2) :
    After (.statusCarrierFrame x period f) s fun d => d.get F.GD_SUPPLY.VNEG x = 10 * (4096 * f.ticks / period - 2304) := by
  refine after_main ((exec_statusCarrierFrame ..).trans (by rw [execStatusCarrierFrame])) hl ?_
  extract_lets d1 high os q band g ok d2 good d3 d4 d5
  have known1 : d1.bit F.GD_CFG.DECLARED x = true := (until_bit _ _ (by decide) x.isLt).trans known
  have width : 2304 ≤ q ∧ q ≤ 3583 := ⟨low, top⟩
  have high' : ¬ (512 ≤ q ∧ q ≤ 1791) := by omega
  have second : band = 2 := (if_neg high').trans (if_pos ⟨low, top⟩)
  have inTurn : ok := ⟨long, short, by omega, by rwa [second, ne_comm, show g = unit s.dev.gates x from congrArg (unit · x) (elapse_gates ..)]⟩
  have shown : d5.get F.GD_SUPPLY.VNEG x = 10 * (q - 2304) := by
    rw [show d5 = d4.frameNeg x (10 * (q - 2304)) from if_neg (by omega)]
    exact frameNeg_shows _ _ (show 10 * (q - 2304) < 2 ^ 16 by omega)
  rw [if_neg (by simp [known1]), if_neg (by simp [inTurn]), settle_get _ (by decide) x.isLt]
  exact (check21_get d5 (by decide) x.isLt (by decide) (by decide)).trans shown

/-- R383: a carrier that stays away is kept as lost. -/
theorem carrierLost_keeps {t : Nat} (hd : s.dev.due (.carrier x) = some t) (ha : s.dev.ahead t = true) (known : s.dev.bit F.GD_CFG.DECLARED x = true)
    (there : x.val < s.dev.gates.length) :
    After (.carrierLost x) s fun d => d.bit F.GD_STATUS.CARRIER_LOST x = true ∧ (unit d.gates x).lostNow = true := by
  refine after_fire ((exec_carrierLost ..).trans (by rw [execCarrierLost])) hl hd ha ?_
  have known1 : ((s.dev.until t).disarm (.carrier x)).bit F.GD_CFG.DECLARED x = true := (bit_disarm ..).trans ((until_bit _ _ (by decide) x.isLt).trans known)
  rw [if_neg (by simp [known1])]
  extract_lets d1
  have gates : ((s.dev.until t).disarm (.carrier x)).gates = s.dev.gates := elapse_gates ..
  refine ⟨(settle_bit _ (by decide) x.isLt).trans ((Dev.bit_of_get (get_of_view (supplyView_uvlo d1 x) (by decide) x.isLt)).trans ?_), ?_⟩
  · exact (Dev.bit_of_get (get_of_regs rfl ..)).trans (Dev.bit_setB_same _ (by decide) _ x.isLt (by decide) (by decide))
  · rw [settle_gateUnits, (unit_of_marks (marks_uvlo d1 x) x).1]
    refine congrArg Gate.lostNow (unit_modify _ _ _ ?_)
    rwa [show ∀ e : Dev, (e.setB F.GD_STATUS.CARRIER_LOST true x).gates = e.gates from fun e => Dev.set_gates .., gates]

end

/-! The bootstrap proof (R386) -/

theorem chanOf_spec {d : Dev} {x c : Nat} (h : d.chanOf x = some c) : c < 32 ∧ d.stageOf c < 3 ∧ d.gateOf c = x := by
  have found := List.find?_some h
  simp only [Bool.and_eq_true, decide_eq_true_eq, beq_iff_eq] at found
  exact ⟨chanOf_small h, found⟩

/-- The lock of one channel's bridge. -/
def Dev.bridged (d : Dev) (c : Nat) : Dev := (d.gd (d.gateOf c) fun g => { g with bridge := true }).lockSync (d.gateOf c)

section
variable (d : Dev) (c : Nat)

theorem bridged_gateOf {c' : Nat} (hc : c' < 32) : (d.bridged c).gateOf c' = d.gateOf c' :=
  get_of_view ((stageView_lockSync ..).trans (view_gd _ _ (by decide) _)) (by decide) hc

theorem bridged_many : (d.bridged c).gates.length = d.gates.length :=
  (many_of_marks (marks_lockSync ..)).trans (List.length_modify ..)

theorem bridged_here (h : d.gateOf c < d.gates.length) : (unit (d.bridged c).gates (d.gateOf c)).bridge = true := by
  rw [Dev.bridged, (unit_of_marks (marks_lockSync ..) _).2]
  exact congrArg Gate.bridge (unit_modify _ _ _ h)

theorem bridged_stays {x : Nat} (h : (unit d.gates x).bridge = true) : (unit (d.bridged c).gates x).bridge = true := by
  rw [Dev.bridged, (unit_of_marks (marks_lockSync ..) _).2]
  by_cases same : d.gateOf c = x
  · subst same
    by_cases there : d.gateOf c < d.gates.length
    · exact congrArg Gate.bridge (unit_modify _ _ _ there)
    · rw [unit_beyond there] at h
      exact absurd h (by decide)
  · rwa [show unit ((d.gd (d.gateOf c) fun g => { g with bridge := true }).gates) x = unit d.gates x from unit_modify_ne same _ _]

theorem bridged_each_stays {x : Nat} (l : List Nat) (h : (unit d.gates x).bridge = true) : (unit (d.each l Dev.bridged).gates x).bridge = true := by
  induction l generalizing d with
  | nil => exact h
  | cons c cs ih => exact ih _ (bridged_stays d c h)

theorem bridged_each {l : List Nat} (hm : c ∈ l) (hc : c < 32) (h : d.gateOf c < d.gates.length) : (unit (d.each l Dev.bridged).gates (d.gateOf c)).bridge = true := by
  induction l generalizing d with
  | nil => exact absurd hm (List.not_mem_nil)
  | cons k ks ih =>
    rcases List.mem_cons.1 hm with rfl | rest
    · exact bridged_each_stays _ ks (bridged_here d c h)
    · rw [← bridged_gateOf d k hc]
      exact ih (d.bridged k) rest (by rwa [bridged_gateOf d k hc, bridged_many])

variable {d c}

theorem mem_stageChans {s : Nat} (hc : c < 32) (hs : d.stageOf c = s) (hg : d.gateOf c < 32) : c ∈ d.stageChans s := by
  rw [Dev.stageChans, Dev.chansOf, List.mem_flatMap]
  refine ⟨d.gateOf c, List.mem_range.2 hg, ?_⟩
  rw [those, List.mem_filter]
  exact ⟨List.mem_range.2 hc, by simp [hs]⟩

theorem mem_pair (c : Nat) (p : Prop) [Decidable p] : c ∈ if p then [c / 2 * 2, c / 2 * 2 + 1] else [c / 2 * 2 + 1, c / 2 * 2] := by
  split
  all_goals
    simp only [List.mem_cons, List.not_mem_nil, or_false]
    omega

theorem bridgeLock_locks {x : Nat} (data : Nat) (hx : x < 32) (h : d.chanOf x = some c) (there : x < d.gates.length) :
    (unit (d.bridgeLock x data).gates x).bridge = true := by
  obtain ⟨hc, -, rfl⟩ := chanOf_spec h
  unfold Dev.bridgeLock
  rw [h]
  dsimp -zeta only
  extract_lets s pair cs d1 d2
  have member : c ∈ cs := by
    change c ∈ if s = 2 then d.stageChans 2 else pair
    split
    next two => exact mem_stageChans hc two hx
    next => exact mem_pair c _
  have locked : (unit d1.gates (d.gateOf c)).bridge = true := bridged_each d c member hc there
  have off : d2.marks = d1.marks := by
    simp only [d2]
    split
    · exact marks_stageTrip ..
    · exact marks_each _ (fun e k => marks_softOffChan ..) _
  rw [(unit_of_marks ((marks_raise ..).trans ((marks_disarm ..).trans off)) _).2]
  exact locked

end

theorem bootstrapProof_locks {s : State} {x : Fin 32} {t c : Nat} (hl : s.dev.live = true) (hd : s.dev.due (.proof x) = some t) (ha : s.dev.ahead t = true)
    (unproven : s.dev.bit F.GD_STATUS.UNPROVEN x = true) (energy : s.dev.energy = true) (hc : s.dev.chanOf x = some c) (there : x.val < s.dev.gates.length) :
    After (.bootstrapProofTimeout x) s fun d => (unit d.gates x).bridge = true := by
  refine after_fire ((exec_bootstrapProofTimeout ..).trans (by rw [execBootstrapProofTimeout])) hl hd ha ?_
  have unproven1 : ((s.dev.until t).disarm (.proof x)).bit F.GD_STATUS.UNPROVEN x = true := (bit_disarm ..).trans ((until_bit _ _ (by decide) x.isLt).trans unproven)
  have state : ((s.dev.until t).disarm (.proof x)).st = s.dev.st := until_get _ _ (by decide)
  have energy1 : ((s.dev.until t).disarm (.proof x)).energy = true := by rw [Dev.energy, state]; exact energy
  rw [if_pos ⟨unproven1, energy1⟩, settle_gateUnits]
  refine bridgeLock_locks (c := c) 0 x.isLt ?_ ?_
  · exact (until_chanOf ..).trans hc
  · rwa [show ((s.dev.until t).disarm (.proof x)).gates = s.dev.gates from elapse_gates ..]

/-! Hall changes (R388) -/

/-- What the legs' turn may write. -/
def legMask : Mask := ⟨gateMask.regs ++ checkMask.regs ++ [F.PW_CMP.CMP, F.PW_DROP.COUNT, F.HALL_STATUS.FAULT], [.gates, .slots]⟩

@[simp] theorem legView_legChange (d : Dev) (e was : Nat) : (d.legChange e was).calm.view legMask = d.calm.view legMask := by
  simp (disch := decide) [Dev.legChange, view_pwDrive]

section
variable {s : State} {h : HallRun} (hl : s.dev.live = true) (differs : s.dev.get F.HALL_STATUS.STATE ≠ h.state)
include hl differs

theorem hallChange_shows (enough : max 1 (s.dev.get F.HALL_CFG.FILT) ≤ h.samples) :
    After (.hallChange h) s fun d => d.get F.HALL_STATUS.STATE = h.state ∧ d.os.hallTick = s.dev.tick := by
  refine after_main ((exec_hallChange ..).trans (by rw [execHallChange])) hl ?_
  extract_lets hs old d1 run bad legs d0 os d2
  rw [if_neg (by omega), if_neg differs]
  have tick : d1.tick = s.dev.tick := by
    simp only [d1]
    split
    · exact congrArg Calm.tick (held_check ..)
    · rfl
  have stamped : d2.os.hallTick = s.dev.tick := tick
  have here : d2.get F.HALL_STATUS.STATE = h.state :=
    (Dev.get_set_here d1 _ _ (by decide) (by decide) (by decide)).trans (Nat.mod_eq_of_lt h.state.isLt)
  rw [settle_get _ (by decide), settle_hallTick]
  split
  · refine ⟨(get_of_view (m := legMask) ?_ (by decide)).trans here, (hallTick_of_marks (marks_hallFault ..)).trans stamped⟩
    exact (view_of_calm ((calm_raise ..).trans (calm_stageTrip ..)) _).trans (view_setB (by decide) ..)
  · split
    · refine ⟨?_, (hallTick_of_marks ((marks_each _ (fun e k => marks_legChange ..) _).trans ((marks_inc ..).trans (marks_elapse ..)))).trans stamped⟩
      refine (get_of_view (m := legMask) (view_each (fun e k => legView_legChange ..) _ _) (by decide)).trans ?_
      exact (Dev.get_inc_apart _ (by decide) _ (by decide) (by decide) (by decide)).trans ((elapse_get _ _ (by decide) (by decide) (by decide) (by decide)).trans here)
    · exact ⟨here, stamped⟩

omit differs in
theorem hallChange_waits (few : h.samples < max 1 (s.dev.get F.HALL_CFG.FILT)) :
    After (.hallChange h) s fun d => d.get F.HALL_STATUS.STATE = s.dev.get F.HALL_STATUS.STATE ∧ d.os.hallTick = s.dev.os.hallTick := by
  refine after_main ((exec_hallChange ..).trans (by rw [execHallChange])) hl ?_
  rw [if_pos few, settle_get _ (by decide), settle_hallTick]
  exact ⟨rfl, rfl⟩

end

/-- Settles O23: each event's chain of calls leaves the fields it latched alone, whatever the stages, the log and entry to LOCKOUT write. -/
theorem tripsAndCarriers : Obligations.TripsAndCarriers := by
  unfold Obligations.TripsAndCarriers
  refine ⟨⟨fun s x instant c hl hc hk hn => ⟨gdTrip_acts hl hc hk hn, fun t => gdTrip_waits hl hc hk hn⟩, fun s x instant hl => gdTrip_ends hl,
      fun s x active t hl hd ha => blankingEnd_shows hl hd ha, fun s n instant hl => ⟨xtrip_acts hl, xtrip_ends hl⟩,
      fun s c x hl hd ha => softOffStep_low hl hd ha⟩,
    fun s x period f hl => carrierFrame_undeclared hl, fun s x period f hl hk => ⟨carrierFrame_errs hl hk, carrierFrame_showsPos hl hk, carrierFrame_showsNeg hl hk⟩,
    fun s x t hl hd ha hk => carrierLost_keeps hl hd ha hk, fun s x t c hl hd ha hu he hc => bootstrapProof_locks hl hd ha hu he hc,
    fun s h hl hn => ⟨hallChange_shows hl hn, hallChange_waits hl⟩⟩

end Sys2Proof.Machine
end

section
/-! SUPPORT. What an event and its reactions leave of the Safety Island (R484, R513 to R515): the times at which its parts are healthy again stand, a latch
stays set, and an output that is off stays off. -/

namespace Sys2Proof.Machine

set_option Elab.async false

def safBits : List Fld := [F.SAF_STATE.LATCHED, F.SAF_STATE.SDO_C, F.SAF_STATE.SDO_D]

def safWords (l : List (Nat × Nat)) : List Nat := safBits.map fun f => regGet l (f.key 0 0 0)

/-- The latch, the two outputs and the times at which the parts are healthy again. -/
def Dev.vital (d : Dev) : List Nat × List (Option Nat) := (safWords d.regs, d.saf.health)

theorem bits_of_vital {d e : Dev} (h : e.vital = d.vital) : ∀ f ∈ safBits, e.bit f = d.bit f := by
  intro f hf
  have words : safWords e.regs = safWords d.regs := congrArg Prod.fst h
  have same := List.map_inj_left.mp words f hf
  exact Dev.bit_of_get (congrArg (· ^^^ f.reset 0) same)

theorem health_of_vital {d e : Dev} (h : e.vital = d.vital) : e.saf.health = d.saf.health := congrArg Prod.snd h

theorem safWords_of_sight {d e : Dev} {fs : List Fld} (h : e.sight fs = d.sight fs) (hs : (safBits.all fun g => fs.all g.apart) = true) :
    safWords e.regs = safWords d.regs := by
  refine List.map_congr_left fun g hg => ?_
  have small : ∀ g ∈ safBits, 0 < g.n1 ∧ 0 < g.n2 ∧ 0 < g.n3 := by decide
  obtain ⟨h1, h2, h3⟩ := small g hg
  exact Nat.xor_left_inj.mp (get_of_sight h (List.all_eq_true.mp hs g hg) h1 h2 h3)

/-! What leaves all of it alone -/

@[simp] theorem vital_mk (regs tick freeCtr timers out pwr clk loans loanWait mram rings prov reg lanes cells arr slots bank2 phases groups pwm gates os enc
    col metCh metEl met ports chr saf hk) :
    (Dev.mk regs tick freeCtr timers out pwr clk loans loanWait mram rings prov reg lanes cells arr slots bank2 phases groups pwm gates os enc col
      metCh metEl met ports chr saf hk).vital = (safWords regs, saf.health) := rfl

@[simp] theorem vital_eta (d : Dev) : (safWords d.regs, d.saf.health) = d.vital := rfl

section
variable {f : Fld} (h : (safBits.all fun g => [f].all g.apart) = true) (d : Dev)
include h

@[simp] theorem safWords_set (v a b c : Nat) : safWords (d.set f v a b c).regs = safWords d.regs :=
  safWords_of_sight (fs := [f]) (sight_set d (by simp) ..) h
@[simp] theorem safWords_setB (v : Bool) (a b c : Nat) : safWords (d.setB f v a b c).regs = safWords d.regs := safWords_set h ..
@[simp] theorem safWords_inc (n a b c : Nat) : safWords (d.inc f n a b c).regs = safWords d.regs := safWords_set h ..
@[simp] theorem safWords_setFlag (i : Nat) (v : Bool) : safWords (d.setFlag f i v).regs = safWords d.regs := safWords_set h ..
@[simp] theorem vital_set (v a b c : Nat) : (d.set f v a b c).vital = d.vital :=
  Prod.ext (safWords_set h ..) (congrArg Saf.health (Dev.set_saf ..))
@[simp] theorem vital_setB (v : Bool) (a b c : Nat) : (d.setB f v a b c).vital = d.vital := vital_set h ..
@[simp] theorem vital_inc (n a b c : Nat) : (d.inc f n a b c).vital = d.vital := vital_set h ..
@[simp] theorem vital_setFlag (i : Nat) (v : Bool) : (d.setFlag f i v).vital = d.vital := vital_set h ..

end

section
variable (d : Dev)

@[simp] theorem health_set (f : Fld) (v a b c : Nat) : (d.set f v a b c).saf.health = d.saf.health := congrArg Saf.health (Dev.set_saf ..)
@[simp] theorem health_setB (f : Fld) (v : Bool) (a b c : Nat) : (d.setB f v a b c).saf.health = d.saf.health := health_set ..
@[simp] theorem health_inc (f : Fld) (n a b c : Nat) : (d.inc f n a b c).saf.health = d.saf.health := health_set ..
@[simp] theorem health_setFlag (f : Fld) (i : Nat) (v : Bool) : (d.setFlag f i v).saf.health = d.saf.health := health_set ..

@[simp] theorem vital_arm (t : Timer) (n : Nat) : (d.arm t n).vital = d.vital := rfl
@[simp] theorem vital_disarm (t : Timer) : (d.disarm t).vital = d.vital := rfl
@[simp] theorem vital_emit (o : Out) : (d.emit o).vital = d.vital := rfl
@[simp] theorem vital_free : d.free.vital = d.vital := rfl
@[simp] theorem vital_grp (k : Nat) (g : Group → Group) : (d.grp k g).vital = d.vital := rfl
@[simp] theorem vital_pw (k : Nat) (g : Pwm → Pwm) : (d.pw k g).vital = d.vital := rfl
@[simp] theorem vital_phs (k : Nat) (g : Phase → Phase) : (d.phs k g).vital = d.vital := rfl

@[simp] theorem vital_ite {p : Prop} [Decidable p] (x y : Dev) : (if p then x else y).vital = if p then x.vital else y.vital := apply_ite Dev.vital p x y

@[simp] theorem vital_cond (b : Bool) (g : Dev → Dev) : (d.cond b g).vital = if b then (g d).vital else d.vital := by cases b <;> rfl

theorem vital_each {α : Type} {g : Dev → α → Dev} (h : ∀ d x, (g d x).vital = d.vital) (l : List α) : (d.each l g).vital = d.vital :=
  each_keeps Dev.vital h l d

theorem vital_of_books {d e : Dev} (h : Books d e) : e.vital = d.vital :=
  Prod.ext (safWords_of_sight h.1 (by decide)) (show e.rest.saf.health = d.rest.saf.health from congrArg (fun x : Dev => x.saf.health) h.2)

@[simp] theorem vital_log (kind : Nat) (o : Orig) (object aux old new r x : Nat) : (d.log kind o object aux old new r x).vital = d.vital :=
  vital_of_books (books_log ..)

@[simp] theorem vital_ringPush (r : Nat) : (d.ringPush r).vital = d.vital := vital_of_books (books_ringPush ..)
@[simp] theorem vital_msix (f v : Nat) : (d.msix f v).vital = d.vital := vital_of_books (books_msix ..)

@[simp] theorem vital_evWrite (e : Nat) (x : Event) : (d.evWrite e x).vital = d.vital := by
  simp only [Dev.evWrite, Dev.writeBack]
  split <;> simp

@[simp] theorem vital_evPut (e : Nat) (x : Event) : (d.evPut e x).vital = d.vital := by simp (disch := decide) [Dev.evPut]

@[simp] theorem vital_loanSync : d.loanSync.vital = d.vital := by simp (disch := decide) [Dev.loanSync]
@[simp] theorem vital_waitSync : d.waitSync.vital = d.vital := vital_each d (fun d op => vital_set (by decide) ..) _
@[simp] theorem vital_loanReturn (op inst : Nat) : (d.loanReturn op inst).vital = d.vital := by simp [Dev.loanReturn, Dev.loanLog]
@[simp] theorem vital_loanDrop (op inst : Nat) : (d.loanDrop op inst).vital = d.vital := by simp [Dev.loanDrop]

@[simp] theorem vital_loanEnd (op : Nat) : (d.loanEnd op).vital = d.vital :=
  (vital_each _ (fun _ _ => vital_loanDrop ..) _).trans (vital_each _ (fun _ _ => vital_loanReturn ..) _)

@[simp] theorem vital_grpLoanEnd (g : Nat) : (d.grpLoanEnd g).vital = d.vital := by simp [Dev.grpLoanEnd]
@[simp] theorem vital_pllDrop (p u : Nat) : (d.pllDrop p u).vital = d.vital := by simp (disch := decide) [Dev.pllDrop]

@[simp] theorem vital_arcMark (type flags object aux : Nat) (body : List Int) (len : Nat) : (d.arcMark type flags object aux body len).vital = d.vital := by
  simp (disch := decide) [Dev.arcMark]

@[simp] theorem vital_arcTrigger (cause aux : Nat) : (d.arcTrigger cause aux).vital = d.vital := by
  unfold Dev.arcTrigger
  split <;> simp (disch := decide)

@[simp] theorem vital_arcStart : d.arcStart.vital = d.vital := by simp (disch := decide) [Dev.arcStart]

/-! Stops of the blocks -/

@[simp] theorem vital_loopSilence : d.loopSilence.vital = d.vital := by simp (disch := decide) [Dev.loopSilence]

@[simp] theorem vital_level (c l : Nat) : (d.level c l).vital = d.vital := by
  unfold Dev.level
  extract_lets x was d1
  have set : d1.vital = d.vital := (vital_pw ..).trans ((vital_set (by decide) ..).trans (vital_set (by decide) ..))
  clear_value d1
  simp (disch := decide) [set]

@[simp] theorem vital_softOffChan (s c : Nat) : (d.softOffChan s c).vital = d.vital := by simp (disch := decide) [Dev.softOffChan, Dev.deadEnd]

@[simp] theorem vital_softOffs (ss : List Nat) : (d.softOffs ss).vital = d.vital := by
  unfold Dev.softOffs
  extract_lets ss1 d1
  have channels : d1.vital = d.vital :=
    (vital_each _ (fun d s => vital_setB (by decide) ..) _).trans (vital_each _ (fun d c => vital_softOffChan d _ c) _)
  clear_value d1
  simp (disch := decide) [channels]

@[simp] theorem vital_grpPhasesOff (g : Nat) : (d.grpPhasesOff g).vital = d.vital :=
  (vital_set (by decide) ..).trans (vital_each _ (fun d k => by simp (disch := decide)) _)

@[simp] theorem vital_grpStop (g : Nat) : (d.grpStop g).vital = d.vital := by simp (disch := decide) [Dev.grpStop]
@[simp] theorem vital_grpFast (g : Nat) : (d.grpFast g).vital = d.vital := by simp (disch := decide) [Dev.grpFast]
@[simp] theorem vital_colStop : d.colStop.vital = d.vital := by simp [Dev.colStop]
@[simp] theorem vital_colHeld : d.colHeld.vital = d.vital := by simp (disch := decide) [Dev.colHeld]
@[simp] theorem vital_prePhase (s ph : Nat) : (d.prePhase s ph).vital = d.vital := by simp (disch := decide) [Dev.prePhase]
@[simp] theorem vital_preEnd : d.preEnd.vital = d.vital := (vital_each _ (fun e s => by simp) _).trans (vital_loanEnd ..)

/-! Events -/

@[simp] theorem vital_activeSync (src : Nat) : (d.activeSync src).vital = d.vital := by simp (disch := decide) [Dev.activeSync]
@[simp] theorem vital_condOn (src obj : Nat) : (d.condOn src obj).vital = d.vital := by simp [Dev.condOn]
@[simp] theorem vital_condOff (src obj : Nat) : (d.condOff src obj).vital = d.vital := by simp [Dev.condOff]
@[simp] theorem vital_earlyMerge : d.earlyMerge.vital = d.vital := by simp (disch := decide) [Dev.earlyMerge]
@[simp] theorem vital_earlyNote (src obj : Nat) (slot : Option Nat) : (d.earlyNote src obj slot).vital = d.vital := by simp [Dev.earlyNote]
@[simp] theorem vital_incidentEnd : d.incidentEnd.vital = d.vital := by simp (disch := decide) [Dev.incidentEnd]
@[simp] theorem vital_stopReached : d.stopReached.vital = d.vital := by simp [Dev.stopReached]
@[simp] theorem vital_errSync : d.errSync.vital = d.vital := by simp (disch := decide) [Dev.errSync]

@[simp] theorem vital_aqEnter (x : Event) (opened : Bool) : (d.aqEnter x opened).vital = d.vital := by
  simp only [Dev.aqEnter]
  split
  · rfl
  · exact vital_inc (by decide) ..

@[simp] theorem vital_incidentTake (src cls obj : Nat) : (d.incidentTake src cls obj).1.vital = d.vital := by
  simp (disch := decide) [Dev.incidentTake, apply_ite Prod.fst]

@[simp] theorem vital_latchOnly (src cls obj : Nat) (data : List Nat) (i : Option Nat) (forced : Bool) :
    (d.latchOnly src cls obj data i forced).vital = d.vital := by
  unfold Dev.latchOnly
  extract_lets cls1 d1 d2 bytes
  have counted : d2.vital = d.vital := by simp (disch := decide) [d2, d1]
  split
  rename_i d3 merged opened same
  have taken : d3.vital = d.vital := (congrArg (fun x => x.1.vital) same).symm.trans ((vital_incidentTake ..).trans counted)
  extract_lets at_ x n d4 d5 d6 d7
  have logged : d4.vital = d3.vital := by simp [d4]
  have noted : d6.vital = d3.vital := by simp [d6, d5, logged]
  have routed : d7.vital = d3.vital := (vital_each _ (fun d n => vital_evPut ..) _).trans noted
  simp [routed, taken]

end

/-! Reactions: the latch may be set, and outputs go off -/

/-- The times stand, a latch stays set, and an output that is off stays off. -/
def Lapses (d e : Dev) : Prop :=
  e.saf.health = d.saf.health ∧ (d.bit F.SAF_STATE.LATCHED = true → e.bit F.SAF_STATE.LATCHED = true)
    ∧ (d.bit F.SAF_STATE.SDO_C = false → e.bit F.SAF_STATE.SDO_C = false) ∧ (d.bit F.SAF_STATE.SDO_D = false → e.bit F.SAF_STATE.SDO_D = false)

theorem Lapses.trans {d e f : Dev} (h : Lapses d e) (g : Lapses e f) : Lapses d f := by
  obtain ⟨health, latch, c, dd⟩ := h
  obtain ⟨health', latch', c', dd'⟩ := g
  exact ⟨health'.trans health, latch' ∘ latch, c' ∘ c, dd' ∘ dd⟩

theorem lapses_vital {d e : Dev} (h : e.vital = d.vital) : Lapses d e := by
  have same := bits_of_vital h
  exact ⟨health_of_vital h, (same _ (by decide)).trans, (same _ (by decide)).trans, (same _ (by decide)).trans⟩

section
variable (d : Dev)

theorem lapses_refl : Lapses d d := lapses_vital rfl

theorem lapses_ite {p : Prop} [Decidable p] {x y : Dev} (hx : Lapses d x) (hy : Lapses d y) : Lapses d (if p then x else y) := by
  split
  · exact hx
  · exact hy

/-- R506: what is turned off reads off, and the rest of it stands. -/
theorem sdoDrop_bits (c x : Bool) : (d.sdoDrop c x).bit F.SAF_STATE.SDO_C = (d.bit F.SAF_STATE.SDO_C && !c)
    ∧ (d.sdoDrop c x).bit F.SAF_STATE.SDO_D = (d.bit F.SAF_STATE.SDO_D && !x) ∧ (d.sdoDrop c x).bit F.SAF_STATE.LATCHED = d.bit F.SAF_STATE.LATCHED
    ∧ (d.sdoDrop c x).saf.health = d.saf.health := by
  cases c <;> cases x <;> simp (disch := decide) [Dev.sdoDrop, Dev.bit_setB_same, Dev.bit_setB_apart]

theorem lapses_sdoDrop (c x : Bool) : Lapses d (d.sdoDrop c x) := by
  obtain ⟨hc, hx, latch, health⟩ := sdoDrop_bits d c x
  exact ⟨health, latch.trans, fun off => by rw [hc, off, Bool.false_and], fun off => by rw [hx, off, Bool.false_and]⟩

/-- R515: the latch is set, whatever it was. -/
theorem latchSet_latched (src obj : Nat) : (d.latchSet src obj).bit F.SAF_STATE.LATCHED = true := by
  unfold Dev.latchSet
  split
  · assumption
  · extract_lets d1 d2
    have set : d1.bit F.SAF_STATE.LATCHED = true := by simp (disch := decide) only [d1, Dev.bit_set_apart, Dev.bit_setB_same]
    refine (Dev.bit_of_get (get_of_regs rfl ..)).trans ((Dev.bit_set_apart _ (by decide) _ (by decide) (by decide) (by decide)).trans ?_)
    exact (Dev.bit_set_apart _ (by decide) _ (by decide) (by decide) (by decide)).trans set

/-- What the latch writes beside it. -/
def latchFields : List Fld :=
  [F.SAF_STATE.LATCHED, F.SAF_LATCH_CAUSE.SOURCE, F.SAF_LATCH_CAUSE.OBJECT, F.SAF_LATCH_TICK.TICK, F.SAF_LOCKOUTS.COUNT]

theorem lapses_latchSet (src obj : Nat) : Lapses d (d.latchSet src obj) := by
  have apart : (d.latchSet src obj).sight latchFields = d.sight latchFields ∧ (d.latchSet src obj).saf.health = d.saf.health := by
    unfold Dev.latchSet
    split
    · exact ⟨rfl, rfl⟩
    · extract_lets d1 d2 e saf
      have written : d2.sight latchFields = d.sight latchFields := by simp (disch := decide) [d2, d1]
      exact ⟨(sight_of_regs rfl _).trans written, by simp [saf, d2, d1]⟩
  obtain ⟨seen, health⟩ := apart
  exact ⟨health, fun _ => latchSet_latched d src obj, (bit_of_sight seen (by decide)).trans, (bit_of_sight seen (by decide)).trans⟩

/-- Entry to a device state other than STAGED. -/
theorem lapses_setState {s : Nat} (hs : s ≠ STAGED) (o : Orig) : Lapses d (d.setState s o) := by
  have unproven : ∀ e : Dev, (e.each (List.range 32) fun d x =>
      d.setB F.GD_STATUS.UNPROVEN (d.bit F.GD_CFG.BOOTSTRAP x && d.bit F.GD_CFG.DECLARED x) x).vital = e.vital :=
    fun e => vital_each e (fun d x => vital_setB (by decide) ..) _
  have brake : ∀ e : Dev, (e.each [24, 25] fun d c => d.level c 0).vital = e.vital := fun e => vital_each e (fun d c => vital_level ..) _
  unfold Dev.setState
  extract_lets old d1 d2 a d3 d4 d5 d6 d7
  have entered : d1.vital = d.vital := by simp (disch := decide) [d1, Dev.loopRate]
  have same : d2.vital = d1.vital := by simp [d2, hs]
  have archive : d3.vital = d2.vital := by simp (disch := decide) [d3]
  have silent : d4.vital = d3.vital := by simp [d4]
  have proofs : d5.vital = d4.vital := by simp [d5, unproven]
  have unarmed : d6.vital = d5.vital := by simp (disch := decide) [d6]
  have braked : d7.vital = d5.vital := by simp [d7, brake, unarmed]
  have left : Lapses d d7 := lapses_vital (braked.trans (proofs.trans (silent.trans (archive.trans (same.trans entered)))))
  exact lapses_ite d (lapses_refl d) (left.trans (lapses_ite d7 (lapses_sdoDrop ..) (lapses_refl d7)))

theorem lapses_precharge0 (o : Orig) : Lapses d (d.precharge0 o) := by
  unfold Dev.precharge0
  exact .trans (lapses_vital (by simp)) (lapses_setState _ (by decide) o)

theorem lapses_orderlyStop (o : Orig) : Lapses d (d.orderlyStop o) := by
  unfold Dev.orderlyStop
  extract_lets arr d1
  have stopped : ((d1.grpStop 0).grpStop 1).colStop.vital = d.vital := by simp [d1]
  exact lapses_ite d (.trans (lapses_vital stopped) (lapses_setState _ (by decide) o))
    (lapses_ite d (.trans (lapses_vital (vital_colStop d)) (lapses_precharge0 _ o)) (lapses_ite d (lapses_vital (vital_colStop d)) (lapses_refl d)))

theorem lapses_fastStop (o : Orig) (hall : Bool) : Lapses d (d.fastStop o hall) := by
  unfold Dev.fastStop
  extract_lets since arr d1 d2
  have stopped : d2.vital = d.vital := by simp [d2, d1, Dev.softOff]
  have left : Lapses d d2 := lapses_vital stopped
  exact lapses_ite d (left.trans (lapses_ite d2 (lapses_setState _ (by decide) o) (lapses_ite d2 (lapses_precharge0 _ o) (lapses_refl d2)))) (lapses_refl d)

theorem lapses_lockEnter (o : Orig) : Lapses d (d.lockEnter o) := by
  unfold Dev.lockEnter
  extract_lets d1 d2 saf
  have ended : d2.vital = d.vital := by simp [d2, d1]
  clear_value d2
  exact .trans (lapses_vital (e := { d2 with saf := { saf with lockDue := none } }) ended) (lapses_setState _ (by decide) o)

theorem lapses_lockTry : Lapses d d.lockTry := by
  unfold Dev.lockTry
  split
  · exact lapses_ite d (lapses_refl d) (lapses_lockEnter ..)
  · exact lapses_refl d

/-- R506, R515: after a safe-off the latch is set and both outputs are off. -/
theorem safeOff_ends (src obj : Nat) (o : Orig) : Lapses d (d.safeOff src obj o) ∧ (d.safeOff src obj o).bit F.SAF_STATE.LATCHED = true
    ∧ (d.safeOff src obj o).bit F.SAF_STATE.SDO_C = false ∧ (d.safeOff src obj o).bit F.SAF_STATE.SDO_D = false := by
  unfold Dev.safeOff
  extract_lets d1 arr d2 d3 d4 arr2 d5 d6 saf
  have latched : Lapses d (d.latchSet src obj).loopSilence := (lapses_latchSet d src obj).trans (lapses_vital (vital_loopSilence _))
  have off : Lapses d d1 := latched.trans (lapses_sdoDrop _ true true)
  obtain ⟨c, x, latch, -⟩ := sdoDrop_bits (d.latchSet src obj).loopSilence true true
  have set : d1.bit F.SAF_STATE.LATCHED = true := latch.trans ((bits_of_vital (vital_loopSilence _) _ (by decide)).trans (latchSet_latched d src obj))
  have begun : d2.vital = d1.vital := by simp [d2]
  have fast : d3.vital = d2.vital := by simp [d3]
  have dark : d4.vital = d3.vital := by simp (disch := decide) [d4]
  clear_value d4
  have tried : Lapses d1 ({ d6 with saf := { saf with lockDue := some o } } : Dev).lockTry :=
    .trans (lapses_vital (e := { d6 with saf := { saf with lockDue := some o } }) (dark.trans (fast.trans begun))) (lapses_lockTry _)
  refine ⟨off.trans tried, ?_⟩
  obtain ⟨-, latchKept, cKept, xKept⟩ := tried
  exact ⟨latchKept set, cKept (c.trans (Bool.and_false _)), xKept (x.trans (Bool.and_false _))⟩

theorem lapses_react (src cls obj factor : Nat) : Lapses d (d.react src cls obj factor) := by
  unfold Dev.react
  extract_lets reg d1 x
  have derated : Lapses d d1 := lapses_ite d (lapses_vital rfl) (lapses_refl d)
  have answered : Lapses d1 x :=
    lapses_ite d1 (safeOff_ends ..).1 (lapses_ite d1 (lapses_fastStop ..) (lapses_ite d1 (lapses_orderlyStop ..) (lapses_refl d1)))
  exact (derated.trans answered).trans (lapses_ite x (lapses_vital (by simp)) (lapses_refl x))

variable (src cls obj : Nat) (data : List Nat) (i factor : Option Nat)

theorem lapses_latchEvent (forced : Bool) : Lapses d (d.latchEvent src cls obj data i forced factor) :=
  .trans (lapses_vital (vital_latchOnly ..)) (lapses_react ..)

theorem lapses_countCheck : Lapses d d.countCheck := by
  unfold Dev.countCheck Dev.conserve
  extract_lets a b
  exact lapses_ite d (lapses_vital (vital_condOff ..)) (.trans (lapses_vital (by simp (disch := decide))) (lapses_latchEvent ..))

theorem lapses_raise : Lapses d (d.raise src cls obj data i factor) := (lapses_latchEvent ..).trans (lapses_countCheck _)

theorem vital_safSync : d.safSync.vital = d.vital := vital_each d (fun d n => by simp (disch := decide)) _

theorem lapses_sdoCheck : Lapses d d.sdoCheck := by
  unfold Dev.sdoCheck
  extract_lets d1 okC okD d2
  have dropped : Lapses d d2 := .trans (lapses_vital (vital_safSync d)) (lapses_sdoDrop ..)
  exact dropped.trans (lapses_ite d2 (lapses_vital (vital_loopSilence d2)) (lapses_refl d2))

end

end Sys2Proof.Machine
end

section
/-! SUPPORT. The safety outputs, the diagnostics and the lock-out reset (R350, R490, R506 to R517): a part found faulty stays unhealthy to the end of the step. -/

namespace Sys2Proof.Machine

set_option Elab.async false

theorem exec_sdoEnergise (s : State) : exec .sdoEnergise s = execSdoEnergise s := rfl
theorem exec_safetyDiagFail (x : Diag) (s : State) : exec (.safetyDiagFail x) s = execSafetyDiagFail x s := rfl
theorem exec_sdoOffPulseTest (o : Fin 2) (v : Nat) (n : Fin 10) (s : State) : exec (.sdoOffPulseTest o v n) s = execSdoOffPulseTest o v n s := rfl
theorem exec_safeLoopEdge (b : Bool) (s : State) : exec (.safeLoopEdge b) s = execSafeLoopEdge b s := rfl
theorem exec_registrarHeartbeatLost (s : State) : exec .registrarHeartbeatLost s = execRegistrarHeartbeatLost s := rfl
theorem exec_registrarMemoryError (s : State) : exec .registrarMemoryError s = execRegistrarMemoryError s := rfl
theorem exec_lorPress (n : Nat) (s : State) : exec (.lorPress n) s = execLorPress n s := rfl
theorem exec_lorRelease (n : Nat) (s : State) : exec (.lorRelease n) s = execLorRelease n s := rfl
theorem exec_lorHoldTimeout (n : Fin 4) (s : State) : exec (.lorHoldTimeout n) s = execLorHoldTimeout n s := rfl
theorem exec_resetWindowExpiry (s : State) : exec .resetWindowExpiry s = execResetWindowExpiry s := rfl

/-! What the end of a step leaves of a field that no reaction writes -/

/-- The field is apart from what events, their reactions, the tiers of the log and a refused loan write. -/
def Fld.calmest (f : Fld) : Bool :=
  reactFields.all f.apart && ([F.REG_SRC_COUNT.COUNT, F.LOAN_OP_REFUSED.COUNT, F.VP_LOG_STATUS.LOW, F.VP_LOG_STATUS.FULL].all f.apart
    && (decide (0 < f.n1) && (decide (0 < f.n2) && decide (0 < f.n3))))

section
variable {f : Fld} (h : f.calmest = true) (d : Dev)
include h

theorem calmest_parts : reactFields.all f.apart = true ∧ f.apart F.REG_SRC_COUNT.COUNT = true ∧ f.apart F.LOAN_OP_REFUSED.COUNT = true
    ∧ f.apart F.VP_LOG_STATUS.LOW = true ∧ f.apart F.VP_LOG_STATUS.FULL = true ∧ 0 < f.n1 ∧ 0 < f.n2 ∧ 0 < f.n3 := by
  simp only [Fld.calmest, Bool.and_eq_true, decide_eq_true_eq, List.all_cons, List.all_nil, Bool.and_true] at h
  obtain ⟨react, ⟨src, refused, low, full⟩, h1, h2, h3⟩ := h
  exact ⟨react, src, refused, low, full, h1, h2, h3⟩

theorem calmest_raise (src cls obj : Nat) (data : List Nat) (i factor : Option Nat) : (d.raise src cls obj data i factor).get f = d.get f := by
  obtain ⟨react, src', -, -, -, h1, h2, h3⟩ := calmest_parts h
  exact raise_leaves _ _ _ _ _ _ _ react h1 h2 h3 src'

theorem calmest_stance {d e : Dev} (same : e.stance = d.stance) : e.get f = d.get f := by
  obtain ⟨react, -, -, -, -, h1, h2, h3⟩ := calmest_parts h
  exact get_of_stance react h1 h2 h3 same

theorem calmest_logTiers : d.logTiers.get f = d.get f := by
  obtain ⟨-, -, -, low, full, h1, h2, h3⟩ := calmest_parts h
  have setLow : ∀ (e : Dev) (v : Bool), (e.setB F.VP_LOG_STATUS.LOW v).get f = e.get f := fun e v => Dev.get_setB_apart e low v h1 h2 h3
  have setFull : ∀ (e : Dev) (v : Bool), (e.setB F.VP_LOG_STATUS.FULL v).get f = e.get f := fun e v => Dev.get_setB_apart e full v h1 h2 h3
  unfold Dev.logTiers
  extract_lets d1 d2
  have first : d1.get f = d.get f := by
    simp only [d1]
    split
    · split
      · rfl
      · rw [calmest_raise h, setLow]
    · exact setLow ..
  have second : d2.get f = d.get f := (calmest_stance h (stance_setB (by decide) ..)).trans first
  split
  · split
    · exact second
    · rw [calmest_raise h, setFull, second]
  · rw [setFull, second]

theorem calmest_loanDrop (op inst : Nat) : (d.loanDrop op inst).get f = d.get f := by
  unfold Dev.loanDrop
  split
  · exact (calmest_stance h (stance_waitSync _)).trans (get_of_regs rfl ..)
  · rfl

theorem calmest_refuse (why : Nat) : (d.refuse 0 0 why).get f = d.get f := by
  obtain ⟨-, -, refused, -, -, h1, h2, h3⟩ := calmest_parts h
  have recorded : (d.refuseRec 0 0 why).get f = d.get f := by
    unfold Dev.refuseRec
    extract_lets d1
    rw [if_neg (by decide), calmest_raise h]
    exact (calmest_stance h (stance_log ..)).trans (Dev.get_inc_apart _ refused _ h1 h2 h3)
  refine Eq.trans ?_ recorded
  rw [Dev.refuse, Dev.refuseEffect]
  split
  · rfl
  · exact (calmest_stance h (stance_waitSync _)).trans (get_of_regs rfl ..)

theorem calmest_lpddrAsk : d.lpddrAsk.get f = d.get f := by
  have asked : (d.loanFile 0 0).get f = d.get f := by
    unfold Dev.loanFile
    extract_lets cost d1 mine
    have filed : d1.get f = d.get f := (calmest_stance h (stance_waitSync _)).trans (get_of_regs rfl ..)
    split
    · exact calmest_refuse h ..
    · split
      · exact calmest_refuse h ..
      · split
        · rw [calmest_refuse h, calmest_loanDrop h, filed]
        · exact filed
  unfold Dev.lpddrAsk
  split
  · exact asked
  · rfl

theorem calmest_loanCheck : d.loanCheck.get f = d.get f := by
  obtain ⟨react, src', -, -, -, h1, h2, h3⟩ := calmest_parts h
  unfold Dev.loanCheck
  extract_lets gap n
  split
  · exact calmest_stance h (stance_condOff ..)
  · split
    · rfl
    · exact (conserve_get _ react h1 h2 h3 _ _ src').trans (calmest_stance h ((stance_condOn ..).trans rfl))

end

/-! A part that has been found faulty -/

/-- A part of the Safety Island's health register. -/
def partOk (p : Nat) : Fld := if p = 0 then F.SAF_STATE.CURATOR_OK else F.SAF_STATE.DETENT_OK

/-- R513: the part is shown unhealthy, and no interval runs after which it is healthy again. -/
def Dev.unwell (d : Dev) (p : Nat) : Prop := d.bit (partOk p) = false ∧ d.saf.health.getD p none = none

theorem partOk_calmest (p : Nat) : (partOk p).calmest = true := by
  unfold partOk
  split <;> decide +kernel

section
variable {d : Dev} {p : Nat}

/-- What one part's fault writes, and what the outputs' check writes. -/
def islandFields : List Fld :=
  [F.SAF_STATE.SDO_C, F.SAF_STATE.SDO_D, F.SAF_STATE.RB_C, F.SAF_STATE.RB_D, F.SAF_STATE.LOOP_ON, F.SAF_PAIR_STATUS.A, F.SAF_PAIR_STATUS.B, F.SAF_PAIR_STATUS.DEMAND,
    F.SAF_PAIR_STATUS.WINDOW, F.SAF_PAIR_STATUS.DISC_FAULT, F.SAF_PAIR_STATUS.CHATTER, F.SAF_PAIR_STATUS.C_DEMAND, F.SAF_PAIR_STATUS.TRANS, F.SAF_STATE.DEMAND,
    F.SAF_STATE.FAULT]

theorem sight_sdoDropOut (d : Dev) (c x : Bool) : (d.sdoDrop c x).sight islandFields = d.sight islandFields := by
  simp (disch := decide) [Dev.sdoDrop]

theorem sight_loopSilence (d : Dev) : d.loopSilence.sight islandFields = d.sight islandFields :=
  (sight_of_regs (d := d.setB F.SAF_STATE.LOOP_ON false) rfl _).trans (sight_setB _ (by decide) ..)

theorem sight_sdoCheck (d : Dev) : d.sdoCheck.sight islandFields = d.sight islandFields := by
  unfold Dev.sdoCheck
  extract_lets d1 okC okD d2
  have synced : d1.sight islandFields = d.sight islandFields := sight_each d (fun e n => by simp (disch := decide)) _
  have dropped : d2.sight islandFields = d.sight islandFields := (sight_sdoDropOut ..).trans synced
  split
  · exact (sight_loopSilence d2).trans dropped
  · exact dropped

theorem partOk_apart (p : Nat) : islandFields.all (partOk p).apart = true ∧ 0 < (partOk p).n1 ∧ 0 < (partOk p).n2 ∧ 0 < (partOk p).n3 := by
  unfold partOk
  split <;> decide

theorem partOk_outputs {d e : Dev} (h : e.sight islandFields = d.sight islandFields) (p : Nat) : e.bit (partOk p) = d.bit (partOk p) := by
  obtain ⟨apart, h1, h2, h3⟩ := partOk_apart p
  exact bit_of_sight h apart h1 h2 h3

/-- R513: a part's fault shows it unhealthy and ends its interval; the other part is shown as it was. -/
theorem unhealthy_bit (d : Dev) (q p : Nat) : (d.unhealthy q).bit (partOk p) = if partOk q = partOk p then false else d.bit (partOk p) := by
  have shown : ∀ e : Dev, (e.setB (partOk q) false).bit (partOk p) = if partOk q = partOk p then false else e.bit (partOk p) := fun e => by
    obtain ⟨-, h1, h2, h3⟩ := partOk_apart p
    split
    next same =>
      rw [same]
      exact Dev.bit_setB_same e (by unfold partOk; split <;> decide) false h1 h2 h3
    next other =>
      refine Dev.bit_setB_apart e ?_ false h1 h2 h3
      revert other
      unfold partOk
      split <;> split <;> decide
  refine Eq.trans ?_ (shown { d with saf := { d.saf with health := d.saf.health.set q none } })
  unfold Dev.unhealthy
  extract_lets d1
  split
  next zero =>
    subst zero
    exact partOk_outputs (sight_sdoDropOut ..) p
  next other =>
    rw [show partOk q = F.SAF_STATE.DETENT_OK from if_neg other]
    exact partOk_outputs ((sight_loopSilence _).trans (sight_sdoDropOut ..)) p

theorem unhealthy_health (d : Dev) (q : Nat) : (d.unhealthy q).saf.health = d.saf.health.set q none := by
  unfold Dev.unhealthy
  extract_lets d1
  have silent : ∀ e : Dev, e.loopSilence.saf.health = e.saf.health := fun e => health_of_vital (vital_loopSilence e)
  have dropped : ∀ (e : Dev) (c x : Bool), (e.sdoDrop c x).saf.health = e.saf.health := fun e c x => (lapses_sdoDrop e c x).1
  split
  · rw [dropped, health_setB]
  · rw [silent, dropped, health_setB]

theorem getD_set_none (l : List (Option Nat)) (q p : Nat) (h : q = p ∨ l.getD p none = none) : (l.set q none).getD p none = none := by
  rw [List.getD_eq_getElem?_getD, List.getElem?_set]
  split
  · split <;> rfl
  next other => exact (List.getD_eq_getElem?_getD ..).symm.trans (h.resolve_left other)

theorem unwell_unhealthy (d : Dev) (p : Nat) : (d.unhealthy p).unwell p :=
  ⟨(unhealthy_bit d p p).trans (if_pos rfl), by rw [unhealthy_health]; exact getD_set_none _ _ _ (.inl rfl)⟩

theorem unhealthy_unwell (h : d.unwell p) (q : Nat) : (d.unhealthy q).unwell p := by
  obtain ⟨off, rest⟩ := h
  exact ⟨by rw [unhealthy_bit, off, ite_self], by rw [unhealthy_health]; exact getD_set_none _ _ _ (.inr rest)⟩

theorem unwell_raise (h : d.unwell p) (src cls obj : Nat) (data : List Nat) : (d.raise src cls obj data).unwell p := by
  obtain ⟨off, rest⟩ := h
  exact ⟨(Dev.bit_of_get (calmest_raise (partOk_calmest p) ..)).trans off, by rwa [(lapses_raise ..).1]⟩

theorem unwell_sdoCheck (h : d.unwell p) : d.sdoCheck.unwell p := by
  obtain ⟨off, rest⟩ := h
  exact ⟨(partOk_outputs (sight_sdoCheck d) p).trans off, by rwa [(lapses_sdoCheck d).1]⟩

theorem unwell_healthOf (h : d.unwell p) (q : Nat) (hp : p < 2) (hq : q < 2) : (d.healthOf q).unwell p := by
  obtain ⟨off, rest⟩ := h
  unfold Dev.healthOf
  split
  next t due =>
    have other : q ≠ p := fun same => by rw [same, rest] at due; exact nomatch due
    split
    · refine ⟨(Dev.bit_of_get (get_of_regs rfl ..)).trans ?_, ?_⟩
      · have apart : (partOk p).apart (partOk q) = true := by
          obtain ⟨rfl, rfl⟩ | ⟨rfl, rfl⟩ : p = 0 ∧ q = 1 ∨ p = 1 ∧ q = 0 := by omega
          · decide
          · decide
        obtain ⟨-, h1, h2, h3⟩ := partOk_apart p
        exact (Dev.bit_setB_apart d apart true h1 h2 h3).trans off
      · change (d.saf.health.set q none).getD p none = none
        exact getD_set_none _ _ _ (.inr rest)
    · exact ⟨off, rest⟩
  next => exact ⟨off, rest⟩

theorem unwell_settle (h : d.unwell p) (hp : p < 2) : d.settle.bit (partOk p) = false := by
  have calmest := partOk_calmest p
  unfold Dev.settle
  split
  · have flushed : d.anchorFlush.unwell p :=
      ⟨(Dev.bit_of_get (calmest_stance calmest (stance_of_books (books_anchorFlush d)))).trans h.1, by
        rw [health_of_vital (vital_of_books (books_anchorFlush d)), h.2]⟩
    obtain ⟨well, -⟩ := unwell_healthOf (unwell_healthOf flushed 0 hp (by decide)) 1 hp (by decide)
    refine (Dev.bit_of_get ?_).trans well
    rw [show ∀ e : Dev, e.arrMode.get (partOk p) = e.get (partOk p) from fun e => calmest_stance calmest (stance_set (by decide) ..),
      calmest_stance calmest (stance_errSync _), calmest_loanCheck calmest, calmest_lpddrAsk calmest, calmest_logTiers calmest]
  · exact h.1

end

end Sys2Proof.Machine
end

section
/-! SUPPORT. The Registrar's heartbeat lost (R350, R490): what entry to LOCKOUT leaves of the soft-offs that run. -/

namespace Sys2Proof.Machine

set_option Elab.async false

/-- The ends of the soft-offs that run, per channel. -/
def Dev.softs (d : Dev) : List (Option Nat) := d.pwm.map (·.offAt)

theorem dark_of_softs {d e : Dev} (h : e.softs = d.softs) : (e.pwm.any fun p => p.offAt.isSome) = d.pwm.any fun p => p.offAt.isSome := by
  have shown : ∀ l : List Pwm, l.any (fun p => p.offAt.isSome) = (l.map (·.offAt)).any Option.isSome := fun l => by rw [List.any_map]; rfl
  rw [shown, shown]
  exact congrArg (·.any Option.isSome) h

section
variable (d : Dev)

@[simp] theorem softs_set (f : Fld) (v a b c : Nat) : (d.set f v a b c).softs = d.softs := congrArg (List.map Pwm.offAt) (Dev.set_pwm ..)
@[simp] theorem softs_setB (f : Fld) (v : Bool) (a b c : Nat) : (d.setB f v a b c).softs = d.softs := softs_set ..
@[simp] theorem softs_setFlag (f : Fld) (i : Nat) (v : Bool) : (d.setFlag f i v).softs = d.softs := softs_set ..
@[simp] theorem softs_arm (t : Timer) (n : Nat) : (d.arm t n).softs = d.softs := rfl
@[simp] theorem softs_disarm (t : Timer) : (d.disarm t).softs = d.softs := rfl
@[simp] theorem softs_ite {p : Prop} [Decidable p] (x y : Dev) : (if p then x else y).softs = if p then x.softs else y.softs := apply_ite Dev.softs p x y
@[simp] theorem softs_cond (b : Bool) (g : Dev → Dev) : (d.cond b g).softs = if b then (g d).softs else d.softs := by cases b <;> rfl

theorem softs_each {α : Type} {g : Dev → α → Dev} (h : ∀ d x, (g d x).softs = d.softs) (l : List α) : (d.each l g).softs = d.softs :=
  each_keeps Dev.softs h l d

@[simp] theorem softs_mk (regs tick freeCtr timers out pwr clk loans loanWait mram rings prov reg lanes cells arr slots bank2 phases groups pwm gates os enc
    col metCh metEl met ports chr saf hk) :
    (Dev.mk regs tick freeCtr timers out pwr clk loans loanWait mram rings prov reg lanes cells arr slots bank2 phases groups pwm gates os enc col
      metCh metEl met ports chr saf hk).softs = pwm.map (·.offAt) := rfl

@[simp] theorem softs_eta : d.pwm.map (·.offAt) = d.softs := rfl

theorem softs_of_books {d e : Dev} (h : Books d e) : e.softs = d.softs :=
  congrArg (List.map Pwm.offAt) (show e.rest.pwm = d.rest.pwm from congrArg (fun x : Dev => x.pwm) h.2)

@[simp] theorem softs_log (kind : Nat) (o : Orig) (object aux old new r x : Nat) : (d.log kind o object aux old new r x).softs = d.softs :=
  softs_of_books (books_log ..)

@[simp] theorem softs_loanSync : d.loanSync.softs = d.softs := by simp [Dev.loanSync]
@[simp] theorem softs_waitSync : d.waitSync.softs = d.softs := softs_each d (fun _ _ => softs_set ..) _
@[simp] theorem softs_loanReturn (op inst : Nat) : (d.loanReturn op inst).softs = d.softs := by simp [Dev.loanReturn, Dev.loanLog]
@[simp] theorem softs_loanDrop (op inst : Nat) : (d.loanDrop op inst).softs = d.softs := by simp [Dev.loanDrop]

@[simp] theorem softs_loanEnd (op : Nat) : (d.loanEnd op).softs = d.softs :=
  (softs_each _ (fun _ _ => softs_loanDrop ..) _).trans (softs_each _ (fun _ _ => softs_loanReturn ..) _)

@[simp] theorem softs_pllDrop (p u : Nat) : (d.pllDrop p u).softs = d.softs := by simp [Dev.pllDrop]
@[simp] theorem softs_prePhase (s ph : Nat) : (d.prePhase s ph).softs = d.softs := by simp [Dev.prePhase]
@[simp] theorem softs_preEnd : d.preEnd.softs = d.softs := (softs_each _ (fun e s => by simp) _).trans (softs_loanEnd ..)
@[simp] theorem softs_loopSilence : d.loopSilence.softs = d.softs := by simp [Dev.loopSilence]
@[simp] theorem softs_sdoDrop (c x : Bool) : (d.sdoDrop c x).softs = d.softs := by simp [Dev.sdoDrop]
@[simp] theorem softs_arcStart : d.arcStart.softs = d.softs := by simp [Dev.arcStart]

@[simp] theorem softs_level (c l : Nat) : (d.level c l).softs = d.softs := by
  have edge : ∀ (e : Dev) (n : Nat), (e.pw c fun p => { p with edge := n }).softs = e.softs := fun e n => by
    refine List.ext_getElem? fun i => ?_
    simp only [Dev.softs, Dev.pw, List.getElem?_map, List.getElem?_modify]
    cases e.pwm[i]? with
    | none => rfl
    | some p =>
      by_cases same : c = i
      · simp [same]
      · simp [same]
  unfold Dev.level
  extract_lets x was d1
  have set : d1.softs = d.softs := (edge ((d.set F.PW_STATUS.LEVEL l c).set F.GD_STATUS.CMD l x) d.now).trans (by simp)
  clear_value d1
  simp [set]

/-- Entry to LOCKOUT leaves the soft-offs. -/
theorem softs_lockout (o : Orig) : (d.setState LOCKOUT o).softs = d.softs := by
  unfold Dev.setState
  extract_lets old d1 d2 a d3 d4 d5 d6 d7
  have entered : d1.softs = d.softs := by simp [d1, Dev.loopRate]
  have archive : d3.softs = d1.softs := rfl
  have silent : d4.softs = d3.softs := by
    change (if d3.bit F.SAF_STATE.LOOP_ON then d3.loopSilence else d3).softs = _
    simp
  have braked : d7.softs = d4.softs := by
    change (if d5.bit F.OS_STATUS.BRAKE_ARMED then (if d6.bit F.PWM_STAGE.HELD 1 then d6 else d6.each [24, 25] fun d c => d.level c 0) else d5).softs = _
    have brake : ∀ e : Dev, (e.each [24, 25] fun d c => d.level c 0).softs = e.softs := fun e => softs_each e (fun d c => softs_level ..) _
    have same : d5.softs = d4.softs := rfl
    simp [brake, d6, same]
  simp [braked, silent, archive, entered]

theorem lockout_st (o : Orig) (ht : d.pwr.testEn = false) : (d.setState LOCKOUT o).st = LOCKOUT := by
  by_cases h : LOCKOUT = d.st
  · unfold Dev.setState
    extract_lets old
    rw [if_pos (.inl h)]
    exact h.symm
  · refine (st_of_core (core_setState_entered (by decide) ?_ o)).trans ?_
    · rintro (same | ⟨test, -⟩)
      · exact h same
      · exact absurd (ht.symm.trans test) (by decide)
    · exact (Dev.get_set_same d F.GLB_STATE.DEVICE LOCKOUT (by decide)).trans (Nat.mod_eq_of_lt (by decide))

theorem testEn_of_calm {d e : Dev} (h : e.calm = d.calm) : e.pwr.testEn = d.pwr.testEn := congrArg (fun x : Calm => x.pwr.testEn) h

/-- R350: LOCKOUT waits for the soft-offs that run, and has come where none does. -/
def Dev.locking (d : Dev) : Prop := if (d.pwm.any fun p => p.offAt.isSome) = true then d.saf.lockDue ≠ none else d.st = LOCKOUT

theorem lockTry_locking {o : Orig} (due : d.saf.lockDue = some o) (ht : d.pwr.testEn = false) : d.lockTry.locking := by
  unfold Dev.lockTry
  rw [due]
  dsimp only
  split
  next running =>
    rw [Dev.locking, if_pos running, due]
    exact Option.some_ne_none o
  next none_ =>
    unfold Dev.lockEnter
    extract_lets d1 d2 saf
    have ended : d2.softs = d.softs := by simp [d2, d1]
    have pwr : d2.pwr.testEn = false := by
      have calm : d2.calm = d.calm := by simp [d2, d1]
      exact (testEn_of_calm calm).trans ht
    clear_value d2
    have left : (({ d2 with saf := { saf with lockDue := none } } : Dev).setState LOCKOUT o).softs = d.softs := (softs_lockout _ o).trans ended
    rw [Dev.locking, dark_of_softs left, if_neg none_]
    exact lockout_st _ o pwr

theorem safeOff_locking (src obj : Nat) (o : Orig) (ht : d.pwr.testEn = false) : (d.safeOff src obj o).locking := by
  unfold Dev.safeOff
  extract_lets d1 arr d2 d3 d4 arr2 d5 d6 saf
  have test1 : d1.pwr.testEn = false := by
    have calm : d1.calm = d.calm := by simp [d1]
    exact (testEn_of_calm calm).trans ht
  have test2 : d2.pwr.testEn = false := by
    simp only [d2]
    split
    · exact test1
    · exact test1
  have test : d4.pwr.testEn = false := by
    have calm : d4.calm = d2.calm := by simp [d4, d3]
    exact (testEn_of_calm calm).trans test2
  exact lockTry_locking _ rfl test

end

end Sys2Proof.Machine
end

section
/-! SUPPORT. The Safety Island's diagnostics, outputs and reset (R490, R506 to R517), command by command. -/

namespace Sys2Proof.Machine

set_option Elab.async false

/-! Readings of the unit -/

theorem permit_of_held {d e : Dev} (h : e.held = d.held) : e.saf.permit = d.saf.permit := congrArg (fun x : Calm => x.saf.permit) h
theorem pressAt_of_held {d e : Dev} (h : e.held = d.held) : e.saf.pressAt = d.saf.pressAt := congrArg (fun x : Calm => x.saf.pressAt) h

/-! Outputs turned on (R506) -/

theorem sdoEnergise_on {s : State} (hl : s.dev.live = true) (ok0 : s.dev.sdoOk 0 = true) (ok1 : s.dev.sdoOk 1 = true)
    (off : (s.dev.bit F.SAF_STATE.SDO_C && s.dev.bit F.SAF_STATE.SDO_D) = false) :
    Leaves .sdoEnergise s fun e => e.bit F.SAF_STATE.SDO_C = true ∧ e.bit F.SAF_STATE.SDO_D = true
      ∧ e.bit F.SAF_STATE.RB_C = s.dev.pwr.vsdoOk ∧ e.bit F.SAF_STATE.RB_D = s.dev.pwr.vsdoOk := by
  refine leaves_main ((exec_sdoEnergise ..).trans (by rw [execSdoEnergise])) hl ?_
  rw [if_pos (by simp [ok0, ok1, off])]
  extract_lets d1 d2
  have supply : d2.pwr.vsdoOk = s.dev.pwr.vsdoOk := by
    obtain ⟨r, same⟩ := elapse_pwr s.dev ((0 + 1024 - s.dev.phase) % 1024)
    have kept : d2.pwr = d1.pwr := (Dev.set_pwr ..).trans (Dev.set_pwr ..)
    rw [kept, show d1.pwr = _ from same]
  refine ⟨?_, ?_, ?_, ?_⟩ <;> simp (disch := decide) only [d2, Dev.bit_setB_same, Dev.bit_setB_apart, supply]

/-! Diagnostics (R512, R513) -/

/-- A part's fault, with its event and the outputs checked again. -/
def Dev.faulty (d : Dev) (p src obj : Nat) (data : List Nat) : Dev := ((d.unhealthy p).raise src 5 obj data).sdoCheck

section
variable (d : Dev) {p : Nat} (src obj : Nat) (data : List Nat)

theorem faulty_shows (hp : p < 2) : (d.faulty p src obj data).settle.bit (partOk p) = false :=
  unwell_settle (unwell_sdoCheck (unwell_raise (unwell_unhealthy d p) ..)) hp

theorem faulty_held : (d.faulty p src obj data).held = d.held :=
  (held_sdoCheck _).trans ((held_raise ..).trans (held_of_calm (calm_unhealthy ..)))

theorem faulty_permit : (d.faulty p src obj data).settle.saf.permit = d.saf.permit :=
  (permit_of_held (held_of_calm (calm_settle _))).trans (permit_of_held (faulty_held ..))

end

theorem part_shown {d : Dev} (p : Fin 2) (h : d.bit (partOk p) = false) :
    if p = 0 then d.bit F.SAF_STATE.CURATOR_OK = false else d.bit F.SAF_STATE.DETENT_OK = false := by
  match p with
  | 0 => exact h
  | 1 => exact h

theorem safetyDiagFail_shows {s : State} (x : Diag) (hl : s.dev.live = true) :
    After (.safetyDiagFail x) s fun d => match x with
      | .lockstep => d.bit F.SAF_STATE.CURATOR_OK = false ∧ d.saf.permit = false
      | .permit => d.bit F.SAF_STATE.DETENT_OK = false ∧ d.saf.permit = false
      | .clock | .loop => d.bit F.SAF_STATE.DETENT_OK = false
      | .disagree n => ∀ t, s.dev.saf.diffAt.getD n none = some t → s.dev.bit F.SAF_PAIR_CFG.DECLARED n = true →
          s.dev.ahead (t + msT 2) = true → d.bit F.SAF_STATE.CURATOR_OK = false ∧ d.bit F.SAF_STATE.DETENT_OK = false ∧ d.tick = max s.dev.tick (t + msT 2)
      | .readback p _ => if p = 0 then d.bit F.SAF_STATE.CURATOR_OK = false else d.bit F.SAF_STATE.DETENT_OK = false
      | .paramCrc p v => v ≠ s.dev.get F.VP_SAFE_IN_FORCE.CRC →
          if p = 0 then d.bit F.SAF_STATE.CURATOR_OK = false else d.bit F.SAF_STATE.DETENT_OK = false := by
  refine after_main ((exec_safetyDiagFail ..).trans (by rw [execSafetyDiagFail])) hl ?_
  extract_lets noPermit
  cases x with
  | lockstep => exact ⟨faulty_shows _ (p := 0) 214 1 [] (by decide), faulty_permit (p := 0) _ 214 1 []⟩
  | permit => exact ⟨faulty_shows _ (p := 1) 214 2 [] (by decide), faulty_permit (p := 1) _ 214 2 []⟩
  | clock => exact faulty_shows _ (p := 1) 214 3 [] (by decide)
  | loop => exact faulty_shows _ (p := 1) 213 0 [] (by decide)
  | readback p v => exact part_shown p (faulty_shows _ 212 p (leBytes 4 v) p.isLt)
  | paramCrc p v =>
    intro other
    dsimp only
    rw [if_neg other]
    exact part_shown p (faulty_shows _ 215 p (leBytes 4 v) p.isLt)
  | disagree n =>
    intro t found known ahead
    dsimp only
    rw [found]
    dsimp only
    rw [if_pos known, wait_ahead ahead]
    have curator : (((s.dev.until (t + msT 2)).unhealthy 0).unhealthy 1).unwell 0 := unhealthy_unwell (unwell_unhealthy _ 0) 1
    have detent : (((s.dev.until (t + msT 2)).unhealthy 0).unhealthy 1).unwell 1 := unwell_unhealthy _ 1
    refine ⟨unwell_settle (p := 0) (unwell_sdoCheck (unwell_raise curator ..)) (by decide),
      unwell_settle (p := 1) (unwell_sdoCheck (unwell_raise detent ..)) (by decide), ?_⟩
    rw [tick_of_calm (calm_settle _), tick_of_held (held_sdoCheck _), tick_of_calm (calm_raise ..), tick_of_calm (calm_unhealthy ..), tick_of_calm (calm_unhealthy ..),
      until_tick _ _ hl]

/-! Tests of the outputs and of the loop (R508, R512) -/

theorem offPulse_tests {s : State} (o : Fin 2) (volts x : Nat) (tenths : Fin 10) (hl : s.dev.live = true) (hd : s.dev.due (.offPulse o) = some x)
    (ha : s.dev.ahead x = true) :
    After (.sdoOffPulseTest o volts tenths) s fun d => d.tick = max s.dev.tick x ∧ d.due (.offPulse o) = some (max s.dev.tick x + msT 10000)
      ∧ (s.dev.bit F.SAF_GLOBAL.SDO_TEST = true → (if o = 0 then s.dev.bit F.SAF_STATE.SDO_C else s.dev.bit F.SAF_STATE.SDO_D) = true → 1 ≤ volts →
        if o = 0 then d.bit F.SAF_STATE.CURATOR_OK = false else d.bit F.SAF_STATE.DETENT_OK = false) := by
  refine after_fire ((exec_sdoOffPulseTest ..).trans (by rw [execSdoOffPulseTest])) hl hd ha ?_
  extract_lets d1 shown
  have tick : d1.tick = max s.dev.tick x := until_tick _ _ hl
  have due : d1.due (.offPulse o) = some (max s.dev.tick x + msT 10000) := (due_arm ..).trans (congrArg (fun n => some (n + msT 10000)) (until_tick _ _ hl))
  have read : ∀ {f : Fld}, f.apart F.RSV_TIME.COUNT = true → 0 < f.n1 → 0 < f.n2 → 0 < f.n3 → d1.bit f = s.dev.bit f := fun hf h1 h2 h3 =>
    (bit_arm ..).trans ((bit_disarm ..).trans (until_bit _ _ hf h1 h2 h3))
  split
  next fails =>
    refine ⟨?_, ?_, fun _ _ _ => ?_⟩
    · exact (tick_of_calm (calm_settle _)).trans ((tick_of_held (faulty_held d1 212 o (leBytes 4 (10 * volts + tenths.val)))).trans tick)
    · exact (due_of_held (held_of_calm (calm_settle _)) rfl).trans ((due_of_held (faulty_held d1 212 o (leBytes 4 (10 * volts + tenths.val))) rfl).trans due)
    · exact part_shown o (faulty_shows d1 (p := o) 212 o (leBytes 4 (10 * volts + tenths.val)) o.isLt)
  next passes =>
    refine ⟨(tick_of_calm (calm_settle _)).trans tick, (calm_due (calm_settle _) _ rfl).trans due, fun test on_ high => absurd ?_ passes⟩
    have level : 10 ≤ 10 * volts + tenths.val := by omega
    have driven : shown = true := by
      change (if o.val = 0 then d1.bit F.SAF_STATE.SDO_C else d1.bit F.SAF_STATE.SDO_D) = true
      rw [read (f := F.SAF_STATE.SDO_C) (by decide) (by decide) (by decide) (by decide),
        read (f := F.SAF_STATE.SDO_D) (by decide) (by decide) (by decide) (by decide)]
      match o with
      | 0 => exact on_
      | 1 => exact on_
    rw [read (by decide) (by decide) (by decide) (by decide), test, driven]
    simpa using level

theorem safeLoopEdge_follows {s : State} {x : Nat} (hl : s.dev.live = true) (hd : s.dev.due .loopEdge = some x) (ha : s.dev.ahead x = true) :
    Leaves (.safeLoopEdge (!s.dev.pwr.loopLevel)) s (fun e => e.pwr.loopLevel = !s.dev.pwr.loopLevel ∧ e.due .loopEdge = some (max s.dev.tick x + 6250))
      ∧ After (.safeLoopEdge s.dev.pwr.loopLevel) s (fun d => d.bit F.SAF_STATE.DETENT_OK = false) := by
  have level : ((s.dev.until x).disarm .loopEdge).pwr.loopLevel = s.dev.pwr.loopLevel := by
    obtain ⟨r, same⟩ := elapse_pwr s.dev (x - s.dev.tick)
    rw [show ((s.dev.until x).disarm .loopEdge).pwr = _ from same]
  constructor
  · refine leaves_fire ((exec_safeLoopEdge ..).trans (by rw [execSafeLoopEdge])) hl hd ha ?_
    extract_lets d1 pwr d2
    have turned : d2.pwr.loopLevel = !s.dev.pwr.loopLevel := congrArg not level
    rw [if_pos turned.symm]
    exact ⟨turned, (due_arm ..).trans (congrArg (fun n => some (n + 6250)) (until_tick _ _ hl))⟩
  · refine after_fire ((exec_safeLoopEdge ..).trans (by rw [execSafeLoopEdge])) hl hd ha ?_
    extract_lets d1 pwr d2
    have turned : d2.pwr.loopLevel = !s.dev.pwr.loopLevel := congrArg not level
    rw [if_neg (by rw [turned]; cases s.dev.pwr.loopLevel <;> decide)]
    exact faulty_shows d2 (p := 1) 213 0 [] (by decide)

/-! The Registrar's own faults (R490) -/

theorem lockDue_sdoCheck (d : Dev) : d.sdoCheck.saf.lockDue = d.saf.lockDue := by
  have synced : d.safSync.saf.lockDue = d.saf.lockDue := each_keeps (fun e : Dev => e.saf.lockDue) (fun e n => by simp [Dev.setFlag, Dev.setB]) _ d
  unfold Dev.sdoCheck
  extract_lets d1 okC okD d2
  have dropped : d2.saf.lockDue = d1.saf.lockDue := by
    have same : ∀ (e : Dev) (c x : Bool), (e.sdoDrop c x).saf = e.saf := fun e c x => by simp only [Dev.sdoDrop]; split <;> split <;> simp [Dev.setB]
    rw [show d2.saf = d1.saf from same ..]
  split
  · exact dropped.trans synced
  · exact dropped.trans synced

theorem locking_sdoCheck {d : Dev} (h : d.locking) : d.sdoCheck.locking := by
  have softs : d.sdoCheck.softs = d.softs := by
    have synced : d.safSync.softs = d.softs := softs_each d (fun e n => by simp) _
    simp [Dev.sdoCheck, synced]
  rw [Dev.locking, dark_of_softs softs, lockDue_sdoCheck, st_of_core (core_sdoCheck d)]
  exact h

theorem detentOff_ends (d : Dev) : (d.safeOff 192 0 .detent).sdoCheck.pwr.regSelf = d.pwr.regSelf
    ∧ (d.safeOff 192 0 .detent).sdoCheck.bit F.SAF_STATE.LATCHED = true ∧ (d.safeOff 192 0 .detent).sdoCheck.bit F.SAF_STATE.SDO_C = false
    ∧ (d.safeOff 192 0 .detent).sdoCheck.bit F.SAF_STATE.SDO_D = false ∧ (d.pwr.testEn = false → (d.safeOff 192 0 .detent).sdoCheck.locking) := by
  obtain ⟨-, latch, c, x⟩ := safeOff_ends d 192 0 .detent
  obtain ⟨-, latch', c', x'⟩ := lapses_sdoCheck (d.safeOff 192 0 .detent)
  have held : (d.safeOff 192 0 .detent).sdoCheck.held = d.held := (held_sdoCheck _).trans (held_of_calm (calm_safeOff ..))
  exact ⟨congrArg (fun y : Calm => y.pwr.regSelf) held, latch' latch, c' c, x' x, fun test => locking_sdoCheck (safeOff_locking d 192 0 .detent test)⟩

theorem heartbeatLost_ends {s : State} (hl : s.dev.live = true) (ha : s.dev.ahead (s.dev.tick + usT 10) = true) :
    Leaves .registrarHeartbeatLost s fun e => e.pwr.regSelf = some 2 ∧ e.bit F.SAF_STATE.LATCHED = true
      ∧ e.bit F.SAF_STATE.SDO_C = false ∧ e.bit F.SAF_STATE.SDO_D = false ∧ (s.dev.pwr.testEn = false →
        if (e.pwm.any fun p => p.offAt.isSome) = true then e.saf.lockDue ≠ none else e.st = LOCKOUT) := by
  refine leaves_main ((exec_registrarHeartbeatLost ..).trans (by rw [execRegistrarHeartbeatLost])) hl ?_
  rw [wait_ahead ha]
  have test : (s.dev.until (s.dev.tick + usT 10)).pwr.testEn = s.dev.pwr.testEn := by
    obtain ⟨r, same⟩ := elapse_pwr s.dev (s.dev.tick + usT 10 - s.dev.tick)
    rw [show (s.dev.until (s.dev.tick + usT 10)).pwr = _ from same]
  obtain ⟨deaf, latch, c, x, locks⟩ := detentOff_ends
    { s.dev.until (s.dev.tick + usT 10) with pwr := { (s.dev.until (s.dev.tick + usT 10)).pwr with regSelf := some 2 } }
  exact ⟨deaf, latch, c, x, fun off => locks (test.trans off)⟩

theorem memoryError_latches {s : State} (hl : s.dev.live = true) : Leaves .registrarMemoryError s fun e => e.bit F.SAF_STATE.LATCHED = true := by
  refine leaves_main ((exec_registrarMemoryError ..).trans (by rw [execRegistrarMemoryError])) hl ?_
  obtain ⟨-, latch, -, -⟩ := safeOff_ends s.dev 192 0 .detent
  obtain ⟨-, raised, -, -⟩ := lapses_raise (s.dev.safeOff 192 0 .detent) 192 5 0 [1] none none
  obtain ⟨-, checked, -, -⟩ := lapses_sdoCheck ((s.dev.safeOff 192 0 .detent).raise 192 5 0 [1])
  exact checked (raised latch)

/-! The lock-out reset (R516, R517) -/

section
variable (d : Dev)

/-- R516: the sequence ends. -/
theorem resetAbort_ends (what : Nat) : (d.resetAbort what).settle.get F.SAF_STATE.RESET_STEP = 0
    ∧ (d.resetAbort what).settle.get F.SAF_RESETS.COUNT = d.get F.SAF_RESETS.COUNT := by
  have shown : ∀ {f : Fld}, f.calm = true → 0 < f.n1 → 0 < f.n2 → 0 < f.n3 → (d.resetAbort what).settle.get f = (d.set F.SAF_STATE.RESET_STEP 0).get f :=
    fun hf h1 h2 h3 => (settle_get _ hf h1 h2 h3).trans ((get_of_calm (calm_raise ..) hf h1 h2 h3).trans (get_of_regs rfl ..))
  constructor
  · rw [shown (by decide) (by decide) (by decide) (by decide), Dev.get_set_here _ _ _ (by decide) (by decide) (by decide)]
    rfl
  · rw [shown (by decide) (by decide) (by decide) (by decide), Dev.get_set_apart _ (by decide) _ (by decide) (by decide) (by decide)]

end

section
variable {s : State} (hl : s.dev.live = true)
include hl

theorem lorPress_steps {apart w : Nat} (first : s.dev.get F.SAF_STATE.RESET_STEP = 1) (hw : s.dev.due .resetWin = some w) :
    After (.lorPress apart) s fun d => if s.dev.tick < w ∧ apart ≤ msT 100 then d.get F.SAF_STATE.RESET_STEP = 2 ∧ d.saf.pressAt = some s.dev.tick
      else d.get F.SAF_STATE.RESET_STEP = 0 := by
  refine after_main ((exec_lorPress ..).trans (by rw [execLorPress])) hl ?_
  rw [hw, first]
  dsimp -zeta only
  extract_lets late d1 saf
  rw [if_neg (show ¬ 1 ≠ 1 from not_not.mpr rfl)]
  by_cases inside : s.dev.tick < w
  · have early : ¬ late = true := by simp [late, inside]
    rw [if_neg early]
    by_cases together : apart ≤ msT 100
    · rw [if_neg (Nat.not_lt.mpr together), if_pos ⟨inside, together⟩, settle_get _ (by decide), pressAt_of_held (held_of_calm (calm_settle _))]
      exact ⟨(get_of_regs (d := d1) rfl ..).trans (Dev.get_set_here _ _ _ (by decide) (by decide) (by decide)), rfl⟩
    · rw [if_pos (Nat.not_le.mp together), if_neg (fun h => together h.2)]
      exact (resetAbort_ends s.dev 2).1
  · have past : late = true := by simp [late]; omega
    rw [if_pos past, if_neg (fun h => inside h.1)]
    exact (resetAbort_ends s.dev 2).1

/-- R516: a release outside its times ends the sequence and counts none. -/
theorem lorRelease_aborts {held p : Nat} (second : s.dev.get F.SAF_STATE.RESET_STEP = 2) (hp : s.dev.saf.pressAt = some p) (ha : s.dev.ahead (p + held) = true) (wrong : held < msT 100 ∨ msT 5000 < held) :
    After (.lorRelease held) s fun d => d.get F.SAF_STATE.RESET_STEP = 0 ∧ d.get F.SAF_RESETS.COUNT = s.dev.get F.SAF_RESETS.COUNT := by
  refine after_main ((exec_lorRelease ..).trans (by rw [execLorRelease])) hl ?_
  rw [if_neg (not_not.mpr second), hp, Option.getD_some, wait_ahead ha]
  extract_lets late
  have out : (late || decide (held < msT 100) || decide (msT 5000 < held)) = true := by
    rcases wrong with short | long
    · simp [short]
    · simp [long]
  rw [if_pos out]
  obtain ⟨step, count⟩ := resetAbort_ends (s.dev.until (p + held)) 3
  exact ⟨step, count.trans (until_get _ _ (by decide))⟩

theorem lorHold_ends : (s.dev.get F.SAF_STATE.RESET_STEP = 2 → s.dev.ahead (s.dev.saf.pressAt.getD s.dev.tick + msT 5000 + 1) = true →
      After (.lorHoldTimeout 1) s fun d => d.get F.SAF_STATE.RESET_STEP = 0)
    ∧ (s.dev.get F.SAF_STATE.RESET_STEP ≠ 0 → s.dev.ahead (s.dev.tick + msT 100) = true → After (.lorHoldTimeout 0) s fun d => d.get F.SAF_STATE.RESET_STEP = 0)
    ∧ (s.dev.get F.SAF_STATE.RESET_STEP ≠ 0 → s.dev.ahead (s.dev.tick + msT 100) = true → After (.lorHoldTimeout 3) s fun d => d.get F.SAF_STATE.RESET_STEP = 0) := by
  refine ⟨fun second ha => ?_, fun runs ha => ?_, fun runs ha => ?_⟩
  all_goals refine after_main ((exec_lorHoldTimeout ..).trans (by rw [execLorHoldTimeout])) hl ?_
  · extract_lets st
    have two : st = 2 := second
    rw [if_neg (by omega), if_pos (show ((1 : Fin 4) : Nat) = 1 from rfl), if_pos two, wait_ahead ha]
    exact (resetAbort_ends _ 3).1
  · extract_lets st
    rw [if_neg runs, if_neg (by decide), if_neg (by decide), wait_ahead ha]
    exact (resetAbort_ends _ _).1
  · extract_lets st
    rw [if_neg runs, if_neg (by decide), if_neg (by decide), wait_ahead ha]
    exact (resetAbort_ends _ _).1

theorem resetWindow_ends {x : Nat} (hd : s.dev.due .resetWin = some x) (ha : s.dev.ahead x = true) :
    After .resetWindowExpiry s fun d => d.get F.SAF_STATE.RESET_STEP = 0 := by
  refine after_fire ((exec_resetWindowExpiry ..).trans (by rw [execResetWindowExpiry])) hl hd ha ?_
  split
  next idle => exact (settle_get _ (by decide)).trans idle
  next => exact (resetAbort_ends _ _).1

end

end Sys2Proof.Machine
end

section
/-! SUPPORT. The lock-out reset that takes effect (R516, R517): its step, its count and the press it forgets, through entry to STAGED. -/

namespace Sys2Proof.Machine

set_option Elab.async false

/-- What follows the reset's own writes: the groups released, the checks again, and the pairs shown. -/
def afterMask : Mask := ⟨checkMask.regs ++ [F.SAF_PAIR_STATUS.A, F.SAF_PAIR_STATUS.B, F.SAF_PAIR_STATUS.CHATTER, F.SAF_PAIR_STATUS.C_DEMAND,
  F.SAF_PAIR_STATUS.DEMAND, F.SAF_PAIR_STATUS.DISC_FAULT, F.SAF_PAIR_STATUS.TRANS, F.SAF_PAIR_STATUS.WINDOW, F.SAF_STATE.DEMAND, F.SAF_STATE.FAULT], [.slots]⟩

section
variable (d : Dev)

theorem afterView_grpOff (g : Nat) : (d.grpOff g).calm.view afterMask = d.calm.view afterMask := by
  unfold Dev.grpOff
  extract_lets d1 d2
  have off : d2.calm.view afterMask = d.calm.view afterMask := by simp (disch := decide) [d2, d1]
  refine (view_each (fun e k => ?_) _ _).trans off
  rw [phDrive_ended, view_pwOff, view_pwOff]
  exact view_pw ..

theorem afterView_sdoCheck : d.sdoCheck.calm.view afterMask = d.calm.view afterMask := by
  have synced : ∀ e : Dev, e.safSync.calm.view afterMask = e.calm.view afterMask := fun e => view_each (fun d n => by simp (disch := decide)) _ _
  simp [Dev.sdoCheck, synced]

theorem afterView_enterStaged (o : Orig) : (d.enterStaged o).calm.view afterMask = d.calm.view afterMask := by
  unfold Dev.enterStaged
  extract_lets locked d1 d2
  have entered : (d.setState STAGED o).calm.view afterMask = d.calm.view afterMask := view_le (by decide) (checkView_setState ..)
  have again : d1.calm.view afterMask = d.calm.view afterMask := by
    have passed : ∀ e : Dev, (e.each (e.arr.fails.filter fun x => !e.standing.contains x && (21 ≤ x.1 || e.get F.LANE_STATUS.STATE x.2 == 5))
        fun d x => d.checkPass x.1 x.2).calm.view afterMask = e.calm.view afterMask := fun e => view_each (fun d x => view_checkPass (by decide) ..) _ _
    exact (view_each (fun e x => view_checkFail (by decide) ..) _ _).trans ((passed _).trans entered)
  have raised : d2.calm.view afterMask = d1.calm.view afterMask := by
    simp only [d2]
    split
    · exact view_of_calm (calm_raise ..) _
    · rfl
  exact (afterView_sdoCheck d2).trans (raised.trans again)

theorem pressAt_of_calm {d e : Dev} (h : e.calm = d.calm) : e.saf.pressAt = d.saf.pressAt := pressAt_of_held (held_of_calm h)

theorem calm_pwOff (c : Nat) : (d.pwOff c).calm = d.calm := by
  have waits : ∀ e : Dev, (e.pw c fun p => { p with wait := none }).calm = e.calm := fun e => calm_pw _ _ _ (fun _ => by rfl)
  unfold Dev.pwOff
  split
  · rfl
  · rw [waits]
    split
    · rfl
    · exact calm_level ..

theorem pressAt_grpOff (g : Nat) : (d.grpOff g).saf.pressAt = d.saf.pressAt := by
  unfold Dev.grpOff
  extract_lets d1 d2
  have off : d1.saf.pressAt = d.saf.pressAt := by
    have phases : ((d.grpLoanEnd g).grpPhasesOff g).saf.pressAt = d.saf.pressAt := pressAt_of_calm (by simp)
    exact (congrArg Saf.pressAt (Dev.set_saf ..)).trans phases
  have shown : d2.saf.pressAt = d1.saf.pressAt := pressAt_of_held ((held_setB ..).trans (held_setB ..))
  refine (each_keeps (fun e : Dev => e.saf.pressAt) (fun e k => ?_) _ _).trans (shown.trans off)
  rw [phDrive_ended]
  exact pressAt_of_calm (d := e.pw (2 * k) fun p => { p with length := 0 }) ((calm_pwOff ..).trans (calm_pwOff ..))

theorem pressAt_enterStaged (o : Orig) : (d.enterStaged o).saf.pressAt = d.saf.pressAt := by
  unfold Dev.enterStaged
  extract_lets locked d1 d2
  have again : d1.held = d.held := by
    exact (held_each (fun e x => held_checkFail ..) _ _).trans ((held_each (fun e x => held_checkPass ..) _ _).trans (held_setState ..))
  have raised : d2.held = d1.held := by
    simp only [d2]
    split
    · exact held_raise ..
    · rfl
  exact pressAt_of_held ((held_sdoCheck d2).trans (raised.trans again))

/-- R516, R517: the reset counts one, and forgets its step and its press. -/
theorem resetEffect_ends : d.resetEffect.settle.get F.SAF_STATE.RESET_STEP = 0
    ∧ d.resetEffect.settle.get F.SAF_RESETS.COUNT = (d.get F.SAF_RESETS.COUNT + 1) % 2 ^ 64 ∧ d.resetEffect.settle.saf.pressAt = none := by
  unfold Dev.resetEffect
  extract_lets d1 src d2 clr d3 saf mram d4 c d5 d6 d7
  have counted : d3.get F.SAF_RESETS.COUNT = (d.get F.SAF_RESETS.COUNT + 1) % 2 ^ 64 := by
    have pairs : d3.regs = d2.regs := each_keeps Dev.regs (by intro e n; rfl) _ _
    have here : d3.get F.SAF_RESETS.COUNT = d2.get F.SAF_RESETS.COUNT := get_of_regs pairs ..
    refine here.trans ((Dev.get_inc_same _ _ _ (by decide) (by decide) (by decide)).trans ?_)
    rw [Dev.get_setB_apart _ (by decide) _ (by decide) (by decide) (by decide), show d1.get F.SAF_RESETS.COUNT = d.get F.SAF_RESETS.COUNT from
      elapse_get d 1 (by decide) (by decide) (by decide) (by decide)]
    rfl
  clear_value d3
  have kept : d5.calm = d4.calm := calm_log ..
  have count5 : d5.get F.SAF_RESETS.COUNT = (d.get F.SAF_RESETS.COUNT + 1) % 2 ^ 64 :=
    (get_of_calm kept (by decide) (by decide) (by decide) (by decide)).trans ((get_of_regs (d := d3) rfl ..).trans counted)
  have forgotten : d4.saf.pressAt = none := rfl
  have logged : d5.saf.pressAt = none := (pressAt_of_calm (d := d4) (e := d5) kept).trans forgotten
  clear_value d5
  have raised : d6.calm.view afterMask = ((d5.set F.SAF_STATE.RESET_STEP 0).disarm .resetWin).calm.view afterMask := view_of_calm (calm_raise ..) _
  have released : d7.calm.view afterMask = d6.calm.view afterMask := by
    refine (view_each (fun e g => ?_) _ _).trans (view_of_calm (calm_incidentEnd _) _)
    rw [view_ite, afterView_grpOff, ite_self]
  have left : ((d7.enterStaged .detent).groupFile).calm.view afterMask = ((d5.set F.SAF_STATE.RESET_STEP 0).disarm .resetWin).calm.view afterMask :=
    (view_of_calm (calm_groupFile _) _).trans ((afterView_enterStaged d7 .detent).trans (released.trans raised))
  refine ⟨?_, ?_, ?_⟩
  · refine (settle_get _ (by decide)).trans ((get_of_view left (by decide)).trans ((get_disarm ..).trans ?_))
    exact Dev.get_set_here _ _ _ (by decide) (by decide) (by decide)
  · refine (settle_get _ (by decide)).trans ((get_of_view left (by decide)).trans ((get_disarm ..).trans ?_))
    rw [Dev.get_set_apart _ (by decide) _ (by decide) (by decide) (by decide), count5]
  · rw [pressAt_of_calm (calm_settle _), pressAt_of_calm (calm_groupFile _), pressAt_enterStaged]
    have forgot : d6.saf.pressAt = none := (pressAt_of_calm (calm_raise ..)).trans ((congrArg Saf.pressAt (Dev.set_saf ..)).trans logged)
    refine (each_keeps (fun e : Dev => e.saf.pressAt) (fun e g => ?_) _ _).trans ((pressAt_of_calm (calm_incidentEnd _)).trans forgot)
    split
    · exact pressAt_grpOff ..
    · rfl

end

theorem lorRelease_resets {s : State} {held p w : Nat} (hl : s.dev.live = true) (second : s.dev.get F.SAF_STATE.RESET_STEP = 2)
    (hp : s.dev.saf.pressAt = some p) (hw : s.dev.due .resetWin = some w) (inside : max s.dev.tick (p + held) < w) (locked : s.dev.st = LOCKOUT)
    (ha : s.dev.ahead (p + held) = true) (long : msT 100 ≤ held) (short : held ≤ msT 5000) (passes : (s.dev.until (p + held)).resetCheck = none) :
    After (.lorRelease held) s fun d => d.get F.SAF_STATE.RESET_STEP = 0 ∧ d.get F.SAF_RESETS.COUNT = (s.dev.get F.SAF_RESETS.COUNT + 1) % 2 ^ 64
      ∧ d.saf.pressAt = none := by
  refine after_main ((exec_lorRelease ..).trans (by rw [execLorRelease])) hl ?_
  rw [if_neg (not_not.mpr second), hp, Option.getD_some, wait_ahead ha, due_until, hw, passes, show (s.dev.until (p + held)).st = s.dev.st from until_get _ _ (by decide)]
  dsimp -zeta only
  extract_lets late
  have early : late = false := decide_eq_false (by rw [until_tick _ _ hl]; omega)
  rw [early, if_neg (by simp only [Bool.false_or, Bool.or_eq_true, decide_eq_true_eq]; omega), if_pos locked]
  obtain ⟨step, count, press⟩ := resetEffect_ends (s.dev.until (p + held))
  exact ⟨step, by rw [count, until_get _ _ (by decide)], press⟩

/-- Settles O26: a part found faulty has no interval left after which it is healthy; the latch stays set and the outputs stay off through every reaction. -/
theorem safetyOutputsAndReset : Obligations.SafetyOutputsAndReset := by
  unfold Obligations.SafetyOutputsAndReset
  refine ⟨⟨fun s hl h0 h1 => sdoEnergise_on hl h0 h1, fun s x hl => safetyDiagFail_shows x hl, fun s o v x n hl hd ha => offPulse_tests o v x n hl hd ha,
      fun s x hl hd ha => safeLoopEdge_follows hl hd ha⟩,
    ⟨fun s hl ha => heartbeatLost_ends hl ha, fun s hl => memoryError_latches hl⟩, fun s n w hl first hw => lorPress_steps hl first hw,
    fun s held p w hl second hp hw inside locked ha => ⟨lorRelease_resets hl second hp hw inside locked ha, lorRelease_aborts hl second hp ha⟩,
    fun s hl => lorHold_ends hl, fun s x hl hd ha => resetWindow_ends hl hd ha⟩

end Sys2Proof.Machine
end

section
/-! SUPPORT. SLOT_WRITE and TABLE_WRITE (R302 to R304): what each item writes, read when the step ends. -/

namespace Sys2Proof.Machine

set_option Elab.async false

theorem exec_slotWriteCoefficients (c : HostCmd) (s : State) : exec (.slotWriteCoefficients c) s = slotCommand 1 c s := rfl
theorem exec_slotWriteLimits (c : HostCmd) (s : State) : exec (.slotWriteLimits c) s = slotCommand 2 c s := rfl
theorem exec_slotWriteInputs (c : HostCmd) (s : State) : exec (.slotWriteInputs c) s = slotCommand 3 c s := rfl
theorem exec_slotWriteFeedForward (c : HostCmd) (s : State) : exec (.slotWriteFeedForward c) s = slotCommand 4 c s := rfl
theorem exec_slotWriteHistoryPreset (c : HostCmd) (s : State) : exec (.slotWriteHistoryPreset c) s = slotCommand 5 c s := rfl
theorem exec_slotWriteConfiguration (c : HostCmd) (s : State) : exec (.slotWriteConfiguration c) s = slotCommand 6 c s := rfl
theorem exec_slotWriteInputScale (c : HostCmd) (s : State) : exec (.slotWriteInputScale c) s = slotCommand 7 c s := rfl
theorem exec_tableWrite (c : HostCmd) (s : State) : exec (.tableWrite c) s = execTableWrite c s := rfl

/-! A row of elements written one by one -/

theorem key_column {f : Fld} (a : Nat) (hs : 0 < f.s2) {i j : Nat} (h : i ≠ j) : f.key a j 0 ≠ f.key a i 0 := by
  intro same
  refine h (Nat.eq_of_mul_eq_mul_left hs ?_)
  simp only [Fld.key, Fld.off] at same
  omega

section
variable {f : Fld} {a : Nat} (v w : Nat → Nat) {j : Nat} (apart : ∀ i, i ≠ j → f.key a (w j) 0 ≠ f.key a (w i) 0)
include apart

theorem get_row_other {l : List Nat} (h : j ∉ l) (d : Dev) : (l.foldl (fun d i => d.set f (v i) a (w i)) d).get f a (w j) = d.get f a (w j) := by
  induction l generalizing d with
  | nil => rfl
  | cons i is ih =>
    rw [List.mem_cons, not_or] at h
    exact (ih h.2 _).trans (Dev.get_set_ne _ _ _ _ (apart i (Ne.symm h.1)))

/-- An element written once reads back. -/
theorem get_row (ha : a < f.n1) (hb : w j < f.n2) (hc : 0 < f.n3) {l : List Nat} (once : l.Nodup) (h : j ∈ l) (d : Dev) :
    (l.foldl (fun d i => d.set f (v i) a (w i)) d).get f a (w j) = v j % 2 ^ f.w := by
  induction l generalizing d with
  | nil => exact absurd h List.not_mem_nil
  | cons i is ih =>
    rw [List.nodup_cons] at once
    rcases List.mem_cons.mp h with rfl | rest
    · exact (get_row_other v w apart once.1 _).trans (Dev.get_set_here _ _ _ ha hb hc)
    · exact ih once.2 rest _

end

/-! The item's words -/

/-- The words of a command. -/
def cmdWords (c : HostCmd) : List Nat := c.p.map (· % 2 ^ 32)

theorem words_arg (c : HostCmd) (i : Nat) : (cmdWords c).getD i 0 = arg c i :=
  List.getD_map c.p 0 (fun n => n % 2 ^ 32)

/-! The effect of an item that passes its check -/

/-- What an item may write. -/
def putMask : Mask := ⟨[F.SLOT_B.B, F.SLOT_A.A, F.SLOT_YMIN.YMIN, F.SLOT_YMAX.YMAX, F.SLOT_K_IN.K_IN, F.SLOT_REF.REF, F.SLOT_SRC.SRC_A, F.SLOT_SRC.SRC_B,
  F.SLOT_SRC.IDX_A, F.SLOT_SRC.IDX_B, F.SLOT_FF_GAIN.FF_GAIN, F.SLOT_CFG.FF_EN, F.SLOT_CFG.FF_TABLE, F.SLOT_CFG.EN, F.SLOT_CFG.ORDER, F.SLOT_CFG.AW,
  F.SLOT_CFG.MEMBERS, F.SLOT_CFG.RELEASE, F.SLOT_CFG.MEMBER, F.SLOT_E.E, F.SLOT_Y.Y], [.slots]⟩

/-- What keeping the schedule may write. -/
def scheduleMask : Mask := ⟨[F.SLOT_STATUS.READY, F.SLOT_STATUS.DONE, F.SLOT_STATUS.LANE, F.LE_LOAD.SCHED, F.LE_STATUS.ENABLED], []⟩

/-- The slots' members shown. -/
def memberMask : Mask := ⟨[F.SLOT_CFG.MEMBER], []⟩

theorem memberView_memberSync (d : Dev) : d.memberSync.calm.view memberMask = d.calm.view memberMask :=
  view_each (fun d k => view_setB (by decide) ..) _ _

theorem scheduleView_scheduleSet (d : Dev) (preds : List (Nat × Nat)) : (d.scheduleSet preds).calm.view scheduleMask = d.calm.view scheduleMask := by
  simp only [Dev.scheduleSet]
  refine (view_set (by decide) ..).trans ((view_set (by decide) ..).trans (view_each (fun d x => ?_) _ _))
  simp (disch := decide)

theorem putView_slotPut (d : Dev) (k item : Nat) (p : List Nat) : (d.slotPut k item p).calm.view putMask = d.calm.view putMask := by
  have preset : ∀ (e : Dev) (y : Nat), (e.preset k y).calm.view putMask = e.calm.view putMask := fun e y => view_each (fun d j => by simp (disch := decide)) _ _
  have coeff : (d.slotCoeff k p).calm.view putMask = d.calm.view putMask :=
    (view_each (fun d j => view_set (by decide) ..) _ _).trans (view_each (fun d j => view_set (by decide) ..) _ _)
  have members : ∀ e : Dev, e.memberSync.calm.view putMask = e.calm.view putMask := fun e => view_le (by decide) (memberView_memberSync e)
  unfold Dev.slotPut
  dsimp only
  split
  case h_1 => exact coeff
  case h_5 => exact (view_each (fun e h => view_slot _ _ (by decide) _) _ _).trans (preset ..)
  all_goals simp (disch := decide) [members]

/-- R302: an item written, counted, and the schedule kept. -/
def Dev.slotDone (d : Dev) (k item : Nat) (p : List Nat) : Dev :=
  let e := (d.slotPut k item p).inc F.LE_UPDATES.COUNT 1
  if item = 3 ∨ item = 4 ∨ item = 6 then e.scheduleSet e.links else e

section
variable {d : Dev} {k item : Nat} {p : List Nat}

theorem slotWrite_passes (ok : d.slotCheck (d.slotPut k item p) k item p = none) : d.slotWrite k item p = (d.slotDone k item p, none) := by
  rw [Dev.slotWrite, ok]
  rfl

theorem slotDone_get {f : Fld} (hs : scheduleMask.keeps f = true) (hu : f.apart F.LE_UPDATES.COUNT = true) {i j : Nat} (hi : i < f.n1) (hj : j < f.n2 := by decide)
    (hc : 0 < f.n3 := by decide) : (d.slotDone k item p).get f i j = (d.slotPut k item p).get f i j := by
  unfold Dev.slotDone
  extract_lets e
  have counted : e.get f i j = (d.slotPut k item p).get f i j := Dev.get_inc_apart _ hu _ hi hj hc
  split
  · exact (get_of_view (scheduleView_scheduleSet ..) hs hi hj hc).trans counted
  · exact counted

theorem slotDone_counts : (d.slotDone k item p).get F.LE_UPDATES.COUNT = (d.get F.LE_UPDATES.COUNT + 1) % 2 ^ 64 := by
  unfold Dev.slotDone
  extract_lets e
  have counted : e.get F.LE_UPDATES.COUNT = (d.get F.LE_UPDATES.COUNT + 1) % 2 ^ 64 := by
    refine (Dev.get_inc_same _ _ _ (by decide) (by decide) (by decide)).trans ?_
    rw [get_of_view (putView_slotPut ..) (by decide)]
    rfl
  split
  · exact (get_of_view (scheduleView_scheduleSet ..) (by decide)).trans counted
  · exact counted

end

/-! Item by item -/

section
variable {s : State} {c : HostCmd} (h : Ready 0x48 c s) (hk : c.target < 1024)
include h hk

omit hk in
/-- R302: an item that passes its check counts one update and leaves what it put. -/
theorem slotCommand_puts {i : Instr} {item : Nat} {P : Dev → Prop} (he : exec i s = slotCommand item c s)
    (ok : (s.dev.atBeat 0x48 c).slotCheck ((s.dev.atBeat 0x48 c).slotPut c.target item (cmdWords c)) c.target item (cmdWords c) = none)
    (hp : ∀ e : Dev, (∀ {f : Fld}, f.calm = true → scheduleMask.keeps f = true → f.apart F.LE_UPDATES.COUNT = true → ∀ i j : Nat, i < f.n1 → j < f.n2 → 0 < f.n3 →
      e.get f i j = ((s.dev.atBeat 0x48 c).slotPut c.target item (cmdWords c)).get f i j) → P e) :
    After i s fun d => d.get F.LE_UPDATES.COUNT = (s.dev.get F.LE_UPDATES.COUNT + 1) % 2 ^ 64 ∧ P d := by
  refine after_main (he.trans (by rw [slotCommand])) h.1 ?_
  rw [checked_applied h (by decide) (slotWrite_passes ok)]
  refine ⟨answered_get (by decide) (slotDone_counts.trans ?_), hp _ fun hf hs hu i j hi hj hc => answered_get hf (slotDone_get hs hu hi hj hc) hi hj hc⟩
  rw [atBeat_get _ _ _ (by decide) (by decide) (by decide)]

omit h in
/-- A slot's register written last reads so, and one that is apart reads as before. -/
theorem slot_here {f : Fld} (d : Dev) (v : Nat) (h1 : 1024 ≤ f.n1) (h2 : 0 < f.n2) (h3 : 0 < f.n3) : (d.set f v c.target).get f c.target = v % 2 ^ f.w :=
  Dev.get_set_here _ _ _ (by omega) h2 h3

omit h in
theorem slot_there {f g : Fld} (d : Dev) (v : Nat) (hg : g.apart f = true) (h1 : 1024 ≤ g.n1) (h2 : 0 < g.n2) (h3 : 0 < g.n3) :
    (d.set f v c.target).get g c.target = d.get g c.target := Dev.get_set_apart _ hg _ (by omega) h2 h3

omit h in
/-- A history preset: three outputs and three inputs (R299). -/
theorem preset_rows (d : Dev) (y : Nat) {j : Nat} (hj : j < 3) :
    (d.preset c.target y).get F.SLOT_Y.Y c.target j = y % 2 ^ 32 ∧ (d.preset c.target y).get F.SLOT_E.E c.target j = 0 := by
  have stepY : ∀ (e : Dev) (i : Nat), (((e.set F.SLOT_E.E 0 c.target i).set F.SLOT_Y.Y y c.target i).get F.SLOT_Y.Y c.target j)
      = if i = j then y % 2 ^ 32 else e.get F.SLOT_Y.Y c.target j := fun e i => by
    split
    next same => subst same; exact Dev.get_set_here _ _ _ hk hj (by decide)
    next other =>
      exact (Dev.get_set_ne _ _ _ _ (key_column _ (by decide) other)).trans (Dev.get_set_apart _ (by decide) _ hk hj (by decide))
  have stepE : ∀ (e : Dev) (i : Nat), (((e.set F.SLOT_E.E 0 c.target i).set F.SLOT_Y.Y y c.target i).get F.SLOT_E.E c.target j)
      = if i = j then 0 else e.get F.SLOT_E.E c.target j := fun e i => by
    refine (Dev.get_set_apart _ (by decide) _ hk hj (by decide)).trans ?_
    split
    next same => subst same; exact Dev.get_set_here _ _ _ hk hj (by decide)
    next other => exact Dev.get_set_ne _ _ _ _ (key_column _ (by decide) other)
  have which : j = 0 ∨ j = 1 ∨ j = 2 := by omega
  rcases which with rfl | rfl | rfl <;> simp [Dev.preset, Dev.each, stepY, stepE]

theorem slotCoefficients_written (ok : (s.dev.atBeat 0x48 c).slotCheck ((s.dev.atBeat 0x48 c).slotPut c.target 1 (cmdWords c)) c.target 1 (cmdWords c) = none) :
    After (.slotWriteCoefficients c) s fun d => d.get F.LE_UPDATES.COUNT = (s.dev.get F.LE_UPDATES.COUNT + 1) % 2 ^ 64
      ∧ (∀ j < 4, d.get F.SLOT_B.B c.target j = arg c (j + 1)) ∧ ∀ j < 3, d.get F.SLOT_A.A c.target j = arg c (j + 5) := by
  have word : ∀ i, (cmdWords c).getD i 0 % 2 ^ 32 = arg c i := fun i => by rw [words_arg, Nat.mod_eq_of_lt (arg_lt c i)]
  refine slotCommand_puts h (exec_slotWriteCoefficients ..) ok fun e read => ⟨fun j hj => ?_, fun j hj => ?_⟩
  · rw [read (by decide) (by decide) (by decide) _ _ hk hj (by decide)]
    refine (each_keeps (fun d : Dev => d.get F.SLOT_B.B c.target j) (fun d i => Dev.get_set_apart d (by decide) _ hk hj (by decide)) _ _).trans ?_
    refine (get_row (f := F.SLOT_B.B) (j := j) (fun i => (cmdWords c).getD (i + 1) 0) id (fun i => key_column _ (by decide)) hk hj (by decide) (l := [0, 1, 2, 3])
      (by decide) ?_ _).trans (word (j + 1))
    simp only [List.mem_cons, List.not_mem_nil, or_false]
    omega
  · rw [read (by decide) (by decide) (by decide) _ _ hk hj (by decide)]
    refine (get_row (f := F.SLOT_A.A) (j := j) (fun i => (cmdWords c).getD (i + 5) 0) id (fun i => key_column _ (by decide)) hk hj (by decide) (l := [0, 1, 2])
      (by decide) ?_ _).trans (word (j + 5))
    simp only [List.mem_cons, List.not_mem_nil, or_false]
    omega

theorem slotLimits_written (ok : (s.dev.atBeat 0x48 c).slotCheck ((s.dev.atBeat 0x48 c).slotPut c.target 2 (cmdWords c)) c.target 2 (cmdWords c) = none) :
    After (.slotWriteLimits c) s fun d => d.get F.LE_UPDATES.COUNT = (s.dev.get F.LE_UPDATES.COUNT + 1) % 2 ^ 64
      ∧ d.get F.SLOT_YMIN.YMIN c.target = arg c 1 ∧ d.get F.SLOT_YMAX.YMAX c.target = arg c 2 := by
  refine slotCommand_puts h (exec_slotWriteLimits ..) ok fun e read => ⟨?_, ?_⟩
  all_goals
    rw [read (by decide) (by decide) (by decide) _ _ hk (by decide) (by decide), Dev.slotPut]
    simp (disch := decide) only [words_arg, slot_here hk, slot_there hk]
    exact Nat.mod_eq_of_lt (arg_lt c _)

theorem slotInputs_written (ok : (s.dev.atBeat 0x48 c).slotCheck ((s.dev.atBeat 0x48 c).slotPut c.target 3 (cmdWords c)) c.target 3 (cmdWords c) = none) :
    After (.slotWriteInputs c) s fun d => d.get F.LE_UPDATES.COUNT = (s.dev.get F.LE_UPDATES.COUNT + 1) % 2 ^ 64
      ∧ d.get F.SLOT_K_IN.K_IN c.target = arg c 1 ∧ d.get F.SLOT_REF.REF c.target = arg c 2
        ∧ d.get F.SLOT_SRC.SRC_A c.target = arg c 3 % 4 ∧ d.get F.SLOT_SRC.SRC_B c.target = arg c 3 / 4 % 4
        ∧ d.get F.SLOT_SRC.IDX_A c.target = arg c 3 / 16 % 1024 ∧ d.get F.SLOT_SRC.IDX_B c.target = arg c 3 / 2 ^ 14 % 1024 := by
  refine slotCommand_puts h (exec_slotWriteInputs ..) ok fun e read => ⟨?_, ?_, ?_, ?_, ?_, ?_⟩
  all_goals
    rw [read (by decide) (by decide) (by decide) _ _ hk (by decide) (by decide), Dev.slotPut]
    simp (disch := decide) only [words_arg, slot_here hk, slot_there hk]
  · exact Nat.mod_eq_of_lt (arg_lt c 1)
  · exact Nat.mod_eq_of_lt (arg_lt c 2)
  all_goals rfl

theorem slotFeedForward_written (ok : (s.dev.atBeat 0x48 c).slotCheck ((s.dev.atBeat 0x48 c).slotPut c.target 4 (cmdWords c)) c.target 4 (cmdWords c) = none) :
    After (.slotWriteFeedForward c) s fun d => d.get F.LE_UPDATES.COUNT = (s.dev.get F.LE_UPDATES.COUNT + 1) % 2 ^ 64
      ∧ d.get F.SLOT_FF_GAIN.FF_GAIN c.target = arg c 1
        ∧ d.get F.SLOT_CFG.FF_EN c.target = arg c 2 % 2 ∧ d.get F.SLOT_CFG.FF_TABLE c.target = arg c 2 / 2 % 4 := by
  refine slotCommand_puts h (exec_slotWriteFeedForward ..) ok fun e read => ⟨?_, ?_, ?_⟩
  all_goals
    rw [read (by decide) (by decide) (by decide) _ _ hk (by decide) (by decide), Dev.slotPut]
    simp (disch := decide) only [words_arg, slot_here hk, slot_there hk]
  · exact Nat.mod_eq_of_lt (arg_lt c 1)
  all_goals rfl

theorem slotPreset_written (ok : (s.dev.atBeat 0x48 c).slotCheck ((s.dev.atBeat 0x48 c).slotPut c.target 5 (cmdWords c)) c.target 5 (cmdWords c) = none) :
    After (.slotWriteHistoryPreset c) s fun d => d.get F.LE_UPDATES.COUNT = (s.dev.get F.LE_UPDATES.COUNT + 1) % 2 ^ 64
      ∧ ∀ j < 3, d.get F.SLOT_Y.Y c.target j = arg c 1 ∧ d.get F.SLOT_E.E c.target j = 0 := by
  refine slotCommand_puts h (exec_slotWriteHistoryPreset ..) ok fun e read j hj => ?_
  rw [read (by decide) (by decide) (by decide) _ _ hk hj (by decide), read (by decide) (by decide) (by decide) _ _ hk hj (by decide), Dev.slotPut]
  dsimp only
  rw [words_arg]
  have mean : ∀ (d : Dev) (l : List Nat), (d.each l fun d h => d.presetYc h).regs = d.regs := fun d l => each_keeps Dev.regs (by intro d h; rfl) l d
  rw [get_of_regs (mean ..), get_of_regs (mean ..)]
  obtain ⟨y, e0⟩ := preset_rows hk (s.dev.atBeat 0x48 c) (arg c 1) hj
  exact ⟨y.trans (Nat.mod_eq_of_lt (arg_lt c 1)), e0⟩

theorem slotConfiguration_written (ok : (s.dev.atBeat 0x48 c).slotCheck ((s.dev.atBeat 0x48 c).slotPut c.target 6 (cmdWords c)) c.target 6 (cmdWords c) = none) :
    After (.slotWriteConfiguration c) s fun d => d.get F.LE_UPDATES.COUNT = (s.dev.get F.LE_UPDATES.COUNT + 1) % 2 ^ 64
      ∧ d.get F.SLOT_CFG.EN c.target = arg c 1 % 2 ∧ d.get F.SLOT_CFG.ORDER c.target = arg c 1 / 2 % 2
        ∧ d.get F.SLOT_CFG.AW c.target = arg c 1 / 4 % 2 ∧ d.get F.SLOT_CFG.FF_EN c.target = arg c 1 / 8 % 2
        ∧ d.get F.SLOT_CFG.MEMBERS c.target = arg c 1 / 64 % 8 ∧ d.get F.SLOT_CFG.RELEASE c.target = arg c 1 / 2 ^ 16 % 1024 := by
  refine slotCommand_puts h (exec_slotWriteConfiguration ..) ok fun e read => ⟨?_, ?_, ?_, ?_, ?_, ?_⟩
  all_goals
    rw [read (by decide) (by decide) (by decide) _ _ hk (by decide) (by decide), Dev.slotPut, get_of_view (memberView_memberSync _) (by decide) hk]
    simp (disch := decide) only [words_arg, slot_here hk, slot_there hk]
    rfl

theorem slotInputScale_written (ok : (s.dev.atBeat 0x48 c).slotCheck ((s.dev.atBeat 0x48 c).slotPut c.target 7 (cmdWords c)) c.target 7 (cmdWords c) = none) :
    After (.slotWriteInputScale c) s fun d => d.get F.LE_UPDATES.COUNT = (s.dev.get F.LE_UPDATES.COUNT + 1) % 2 ^ 64
      ∧ d.get F.SLOT_K_IN.K_IN c.target = arg c 1 := by
  refine slotCommand_puts h (exec_slotWriteInputScale ..) ok fun e read => ?_
  rw [read (by decide) (by decide) (by decide) _ _ hk (by decide) (by decide), Dev.slotPut]
  dsimp only
  rw [words_arg, slot_here hk _ _ (by decide) (by decide) (by decide)]
  exact Nat.mod_eq_of_lt (arg_lt c 1)

end

/-! TABLE_WRITE -/

theorem tableWrite_entry (d : Dev) {t first : Nat} (ws : List Nat) {i : Nat} (ht : t < 4) (hi : i < ws.length) (hf : first + i < 4096) :
    (d.tableWrite t first ws).get F.LE_T.ENTRY t (first + i) = ws.getD i 0 % 2 ^ 32 := by
  unfold Dev.tableWrite
  extract_lets d1 d2
  have entries : d1.get F.LE_T.ENTRY t (first + i) = ws.getD i 0 % 2 ^ 32 :=
    get_row (f := F.LE_T.ENTRY) (j := i) (fun i => ws.getD i 0) (first + ·) (fun k hk => key_column _ (by decide) (by omega)) ht hf (by decide) List.nodup_range
      (List.mem_range.mpr hi) d
  refine (Dev.get_inc_apart _ (by decide) _ ht hf (by decide)).trans (Eq.trans ?_ entries)
  simp only [d2]
  split
  · rfl
  · exact (Dev.get_set_apart _ (by decide) _ ht hf (by decide)).trans (get_of_regs rfl ..)

theorem tableWrite_counts (d : Dev) (t first : Nat) (ws : List Nat) :
    (d.tableWrite t first ws).get F.LE_UPDATES.COUNT = (d.get F.LE_UPDATES.COUNT + 1) % 2 ^ 64 := by
  unfold Dev.tableWrite
  extract_lets d1 d2
  have entries : d1.get F.LE_UPDATES.COUNT = d.get F.LE_UPDATES.COUNT :=
    each_keeps (fun d : Dev => d.get F.LE_UPDATES.COUNT) (fun d i => Dev.get_set_apart d (by decide) _ (by decide) (by decide) (by decide)) _ d
  have banked : d2.get F.LE_UPDATES.COUNT = d1.get F.LE_UPDATES.COUNT := by
    simp only [d2]
    split
    · rfl
    · exact (Dev.get_set_apart _ (by decide) _ (by decide) (by decide) (by decide)).trans (get_of_regs rfl ..)
  refine (Dev.get_inc_same _ _ _ (by decide) (by decide) (by decide)).trans ?_
  rw [banked, entries]
  rfl

theorem tableWrite_written {s : State} {c : HostCmd} {ws : List Nat} (h : Ready 0x49 c s) (ht : c.target < 4) (hw : c.payload = .words ws) :
    After (.tableWrite c) s fun d => d.get F.LE_UPDATES.COUNT = (s.dev.get F.LE_UPDATES.COUNT + 1) % 2 ^ 64
      ∧ ∀ i < min ws.length (arg c 1), arg c 0 % 4096 + i < 4096 → d.get F.LE_T.ENTRY c.target (arg c 0 % 4096 + i) = ws.getD i 0 % 2 ^ 32 := by
  refine after_main ((exec_tableWrite ..).trans (by rw [execTableWrite])) h.1 ?_
  have effect : (fun d : Dev => match c.payload with
      | .words ws => (d.tableWrite c.target (arg c 0 % 4096) ((ws.take (arg c 1)).map (· % 2 ^ 32)), (none : Option Nat))
      | _ => (d.fetchAer c, some 1)) (s.dev.atBeat 0x49 c)
        = ((s.dev.atBeat 0x49 c).tableWrite c.target (arg c 0 % 4096) ((ws.take (arg c 1)).map (· % 2 ^ 32)), none) := by
    rw [hw]
  rw [checked_applied h (by decide) effect]
  refine ⟨answered_get (by decide) ((tableWrite_counts ..).trans ?_), fun i hi hf => answered_get (by decide) ?_ ht hf⟩
  · rw [atBeat_get _ _ _ (by decide) (by decide) (by decide)]
  · have len : i < ((ws.take (arg c 1)).map (· % 2 ^ 32)).length := by
      rw [List.length_map, List.length_take, Nat.min_comm]
      exact hi
    rw [tableWrite_entry _ _ ht len hf]
    have word : ((ws.take (arg c 1)).map (· % 2 ^ 32)).getD i 0 = ws.getD i 0 % 2 ^ 32 := by
      refine (List.getD_map (ws.take (arg c 1)) 0 (fun n => n % 2 ^ 32)).trans ?_
      rw [List.getD_eq_getElem?_getD, List.getD_eq_getElem?_getD, List.getElem?_take_of_lt (by omega)]
    rw [word, Nat.mod_mod]

/-- Settles O19: each item's registers are apart from the count, the schedule and each other, so each reads the word written. -/
theorem loopCommands : Obligations.LoopCommands := by
  unfold Obligations.LoopCommands
  refine ⟨fun s c h hk => ⟨fun ok => slotCoefficients_written h hk ok, fun ok => slotLimits_written h hk ok, fun ok => slotInputs_written h hk ok,
    fun ok => slotFeedForward_written h hk ok, fun ok => slotPreset_written h hk ok, fun ok => slotConfiguration_written h hk ok,
    fun ok => slotInputScale_written h hk ok⟩, fun s c ws h ht hw => tableWrite_written h ht hw⟩

end Sys2Proof.Machine
end

section
/-! SUPPORT. A moderation whose hold-off ends on a function in D3hot (R138, R110): the vector is kept pending and not sent. -/

namespace Sys2Proof.Machine

set_option Elab.async false

open Sys2Proof.Tests

/-! What the end of a step puts out where it raises no event -/

section
variable (d : Dev)

@[simp] theorem out_set (f : Fld) (v a b c : Nat) : (d.set f v a b c).out = d.out := by unfold Dev.set; split <;> rfl
@[simp] theorem out_setB (f : Fld) (v : Bool) (a b c : Nat) : (d.setB f v a b c).out = d.out := out_set ..
@[simp] theorem out_setFlag (f : Fld) (i : Nat) (v : Bool) : (d.setFlag f i v).out = d.out := out_set ..
@[simp] theorem out_arm (t : Timer) (n : Nat) : (d.arm t n).out = d.out := rfl
@[simp] theorem out_ite {p : Prop} [Decidable p] (x y : Dev) : (if p then x else y).out = if p then x.out else y.out := apply_ite Dev.out p x y

theorem out_anchorFlush : d.anchorFlush.out = d.out := by
  have put : ∀ (e : Dev) (a : Anchor), (e.anchorPut a).out = e.out := fun e a => by
    unfold Dev.anchorPut
    split <;> simp
  unfold Dev.anchorFlush
  split
  · split
    · exact put ..
    · rfl
  · rfl

theorem out_healthOf (p : Nat) : (d.healthOf p).out = d.out := by
  unfold Dev.healthOf
  split
  · split
    · exact out_setB ..
    · rfl
  · rfl

theorem out_condOff (src obj : Nat) : (d.condOff src obj).out = d.out := by simp [Dev.condOff, Dev.activeSync]
theorem out_errSync : d.errSync.out = d.out := by simp [Dev.errSync]
theorem out_arrMode : d.arrMode.out = d.out := out_set ..

variable {d}

theorem logTiers_out (low : d.logTiers.bit F.VP_LOG_STATUS.LOW = false) (full : d.logTiers.bit F.VP_LOG_STATUS.FULL = false) : d.logTiers.out = d.out := by
  unfold Dev.logTiers at *
  extract_lets d1 d2 at *
  have shown : d1.bit F.VP_LOG_STATUS.LOW = false := by
    have second : d2.bit F.VP_LOG_STATUS.LOW = d1.bit F.VP_LOG_STATUS.LOW := Dev.bit_setB_apart _ (by decide) _ (by decide) (by decide) (by decide)
    rw [← second, ← low]
    split
    · split
      · rfl
      · exact ((tier_raise ..).1.trans (Dev.bit_setB_apart _ (by decide) _ (by decide) (by decide) (by decide))).symm
    · exact (Dev.bit_setB_apart _ (by decide) _ (by decide) (by decide) (by decide)).symm
  have first : d1.out = d.out := by
    simp only [d1] at shown ⊢
    split at shown
    · split at shown
      next was =>
        rw [shown] at was
        exact absurd was (by decide)
      · rw [(tier_raise ..).1, Dev.bit_setB_same _ (by decide) _ (by decide) (by decide) (by decide)] at shown
        exact absurd shown (by decide)
    next above =>
      rw [if_neg above]
      exact out_setB ..
  have held : d2.out = d.out := (out_setB ..).trans first
  split at full
  · split at full
    next was =>
      rw [full] at was
      exact absurd was (by decide)
    · rw [(tier_raise ..).2, Dev.bit_setB_same _ (by decide) _ (by decide) (by decide) (by decide)] at full
      exact absurd full (by decide)
  next above =>
    rw [if_neg above]
    exact (out_setB ..).trans held

theorem loanCheck_out (h : (193, 3) ∉ d.loanCheck.reg.active) : d.loanCheck.out = d.out := by
  unfold Dev.loanCheck at *
  extract_lets gap n at *
  split at h
  next none_ =>
    rw [if_pos none_]
    exact out_condOff ..
  next some_ =>
    split at h
    next standing => rw [if_neg some_, if_pos standing]
    next =>
      rw [active_conserve] at h
      exact absurd (mem_active_condOn ..) h

/-- Where the end of a step raises no event and the LPDDR5 is awake, it puts nothing out. -/
theorem settle_out_of_quiet (low : d.settle.bit F.VP_LOG_STATUS.LOW = false) (full : d.settle.bit F.VP_LOG_STATUS.FULL = false)
    (loans : (193, 3) ∉ d.settle.reg.active) (awake : d.settle.clk.lpddrAwake = true) : d.settle.out = d.out := by
  have ram : d.clk.lpddrAwake = true := (awake_of_calm (calm_settle d)).1.symm.trans awake
  unfold Dev.settle at *
  split at low
  next live =>
    rw [if_pos live] at full loans ⊢
    have tail : ∀ e : Dev, e.errSync.arrMode.stance = e.stance := fun e => (stance_set (by decide) ..).trans (stance_errSync e)
    rw [Dev.bit_of_get (get_of_stance tier_far.1 (by decide) (by decide) (by decide) (tail _)), (tier_loanCheck _).1] at low
    rw [Dev.bit_of_get (get_of_stance tier_far.2 (by decide) (by decide) (by decide) (tail _)), (tier_loanCheck _).2] at full
    rw [Dev.arrMode, Dev.set_reg, active_errSync] at loans
    have kept : (((d.anchorFlush.healthOf 0).healthOf 1).logTiers).clk.lpddrAwake = true := by
      rw [← ram]
      exact (awake_of_calm ((calm_logTiers _).trans ((calm_healthOf ..).trans ((calm_healthOf ..).trans (calm_anchorFlush _))))).1
    have still : (((d.anchorFlush.healthOf 0).healthOf 1).logTiers).lpddrAsk = ((d.anchorFlush.healthOf 0).healthOf 1).logTiers := by
      unfold Dev.lpddrAsk
      rw [kept]
      rfl
    rw [out_arrMode, out_errSync, loanCheck_out loans, still]
    rw [still] at low full
    rw [logTiers_out low full, out_healthOf, out_healthOf, out_anchorFlush]
  next dead => rw [if_neg dead]

end

/-! The hold-off -/

/-- Function 0 in D3hot, with MSI-X on, and a cause collected for its vector 0, whose hold-off ends now. -/
def heldVector : State := on fun d =>
  let e := d.arm (.holdoff 0) 0
  { e with rings := { e.rings with collected := [0], masked := [], fn := [⟨true, true, true, false, 0, 0⟩] }, clk := { e.clk with lpddrAwake := true } }

/-- How many outputs stand after a step, and whether its end raised no event. -/
def outsAfter : Host.Outcome State Fault Refusal → Nat × Bool
  | .next t => (t.dev.out.length, !t.dev.bit F.VP_LOG_STATUS.LOW && (!t.dev.bit F.VP_LOG_STATUS.FULL && (!t.dev.reg.active.contains (193, 3) && t.dev.clk.lpddrAwake)))
  | _ => (0, false)

theorem heldVector_waits : outsAfter (exec (.msixHoldoffExpiry 0 0) heldVector) = (heldVector.dev.out.length, true) := by decide +kernel

/-- Refutes O10: where the function is in D3hot, the vector whose hold-off ends becomes pending and is not sent. -/
theorem not_hostRings : ¬ Obligations.HostRings := by
  rintro ⟨-, -, -, -, -, -, -, sends, -⟩
  obtain ⟨e, he, sent, -⟩ := sends heldVector 0 0 heldVector.dev.tick (by decide +kernel) (by decide +kernel) (by decide +kernel) (by decide +kernel)
    (by decide +kernel) (by decide +kernel) (by decide +kernel)
  have waits := heldVector_waits
  rw [he] at waits
  simp only [outsAfter, Prod.mk.injEq, Bool.and_eq_true, Bool.not_eq_true', List.contains_eq_mem, decide_eq_false_iff_not] at waits
  obtain ⟨count, low, full, loans, awake⟩ := waits
  rw [settle_out_of_quiet low full loans awake, sent] at count
  exact absurd count (Nat.succ_ne_self _)

end Sys2Proof.Machine
end

section
/-! SUPPORT. What an event and its reactions put out (R137, R138): what has been put out stands. -/

namespace Sys2Proof.Machine

set_option Elab.async false

/-! What puts nothing out -/

section
variable (d : Dev)

@[simp] theorem out_inc (f : Fld) (n a b c : Nat) : (d.inc f n a b c).out = d.out := out_set ..

@[simp] theorem out_log (kind : Nat) (o : Orig) (object aux old new r x : Nat) : (d.log kind o object aux old new r x).out = d.out := by
  have put : ∀ (e : Dev) (a : Anchor), (e.anchorPut a).out = e.out := fun e a => by
    unfold Dev.anchorPut
    split <;> simp
  have touch : ∀ e : Dev, e.lpddrTouch.out = e.out := fun e => by
    unfold Dev.lpddrTouch
    split <;> rfl
  have anchor : ∀ (e : Dev) (type : Nat), (e.anchor type).out = e.out := fun e type => (put ..).trans (out_anchorFlush e)
  unfold Dev.log
  extract_lets seq e prov d1 d2
  have entered : d2.out = d.out := (touch _).trans ((out_set ..).trans (out_set ..))
  split
  · exact (anchor ..).trans entered
  · exact entered

@[simp] theorem out_disarm (t : Timer) : (d.disarm t).out = d.out := rfl
@[simp] theorem out_free : d.free.out = d.out := rfl
@[simp] theorem out_grp (k : Nat) (g : Group → Group) : (d.grp k g).out = d.out := rfl
@[simp] theorem out_pw (k : Nat) (g : Pwm → Pwm) : (d.pw k g).out = d.out := rfl
@[simp] theorem out_phs (k : Nat) (g : Phase → Phase) : (d.phs k g).out = d.out := rfl

@[simp] theorem out_cond (b : Bool) (g : Dev → Dev) : (d.cond b g).out = if b then (g d).out else d.out := by cases b <;> rfl

theorem out_each {α : Type} {g : Dev → α → Dev} (h : ∀ d x, (g d x).out = d.out) (l : List α) : (d.each l g).out = d.out :=
  each_keeps Dev.out h l d

@[simp] theorem out_loanSync : d.loanSync.out = d.out := by simp [Dev.loanSync]
@[simp] theorem out_waitSync : d.waitSync.out = d.out := out_each d (fun _ _ => out_set ..) _
@[simp] theorem out_loanReturn (op inst : Nat) : (d.loanReturn op inst).out = d.out := by simp [Dev.loanReturn, Dev.loanLog]
@[simp] theorem out_loanDrop (op inst : Nat) : (d.loanDrop op inst).out = d.out := by simp [Dev.loanDrop]

@[simp] theorem out_loanEnd (op : Nat) : (d.loanEnd op).out = d.out :=
  (out_each _ (fun _ _ => out_loanDrop ..) _).trans (out_each _ (fun _ _ => out_loanReturn ..) _)

@[simp] theorem out_grpLoanEnd (g : Nat) : (d.grpLoanEnd g).out = d.out := by simp [Dev.grpLoanEnd]
@[simp] theorem out_pllDrop (p u : Nat) : (d.pllDrop p u).out = d.out := by simp [Dev.pllDrop]

@[simp] theorem out_arcMark (type flags object aux : Nat) (body : List Int) (len : Nat) : (d.arcMark type flags object aux body len).out = d.out := by
  simp [Dev.arcMark]

@[simp] theorem out_arcTrigger (cause aux : Nat) : (d.arcTrigger cause aux).out = d.out := by
  unfold Dev.arcTrigger
  split <;> simp

@[simp] theorem out_arcStart : d.arcStart.out = d.out := by simp [Dev.arcStart]

/-! Stops of the blocks -/

@[simp] theorem out_loopSilence : d.loopSilence.out = d.out := by simp [Dev.loopSilence]

@[simp] theorem out_level (c l : Nat) : (d.level c l).out = d.out := by
  unfold Dev.level
  extract_lets x was d1
  have set : d1.out = d.out := (out_pw ..).trans ((out_set ..).trans (out_set ..))
  clear_value d1
  simp [set]

@[simp] theorem out_softOffChan (s c : Nat) : (d.softOffChan s c).out = d.out := by simp [Dev.softOffChan, Dev.deadEnd]

@[simp] theorem out_softOffs (ss : List Nat) : (d.softOffs ss).out = d.out := by
  unfold Dev.softOffs
  extract_lets ss1 d1
  have channels : d1.out = d.out :=
    (out_each _ (fun d s => out_setB ..) _).trans (out_each _ (fun d c => out_softOffChan d _ c) _)
  clear_value d1
  simp [channels]

@[simp] theorem out_grpPhasesOff (g : Nat) : (d.grpPhasesOff g).out = d.out :=
  (out_set ..).trans (out_each _ (fun d k => by simp) _)

@[simp] theorem out_grpStop (g : Nat) : (d.grpStop g).out = d.out := by simp [Dev.grpStop]
@[simp] theorem out_grpFast (g : Nat) : (d.grpFast g).out = d.out := by simp [Dev.grpFast]
@[simp] theorem out_colStop : d.colStop.out = d.out := by simp [Dev.colStop]
@[simp] theorem out_colHeld : d.colHeld.out = d.out := by simp [Dev.colHeld]
@[simp] theorem out_prePhase (s ph : Nat) : (d.prePhase s ph).out = d.out := by simp [Dev.prePhase]
@[simp] theorem out_preEnd : d.preEnd.out = d.out := (out_each _ (fun e s => by simp) _).trans (out_loanEnd ..)

/-! Events -/

@[simp] theorem out_activeSync (src : Nat) : (d.activeSync src).out = d.out := by simp [Dev.activeSync]
@[simp] theorem out_condOn (src obj : Nat) : (d.condOn src obj).out = d.out := by simp [Dev.condOn]
@[simp] theorem out_earlyMerge : d.earlyMerge.out = d.out := by simp [Dev.earlyMerge]
@[simp] theorem out_earlyNote (src obj : Nat) (slot : Option Nat) : (d.earlyNote src obj slot).out = d.out := by simp [Dev.earlyNote]
@[simp] theorem out_incidentEnd : d.incidentEnd.out = d.out := by simp [Dev.incidentEnd]
@[simp] theorem out_stopReached : d.stopReached.out = d.out := by simp [Dev.stopReached]

@[simp] theorem out_aqEnter (x : Event) (opened : Bool) : (d.aqEnter x opened).out = d.out := by
  simp only [Dev.aqEnter]
  split
  · rfl
  · exact out_inc ..

@[simp] theorem out_incidentTake (src cls obj : Nat) : (d.incidentTake src cls obj).1.out = d.out := by
  simp [Dev.incidentTake, apply_ite Prod.fst]

end

/-! Events: what has been put out stands -/

/-- What has been put out stands. -/
structure Tells (d e : Dev) : Prop where
  stands : ∀ o ∈ d.out, o ∈ e.out

theorem Tells.trans {d e f : Dev} (h : Tells d e) (g : Tells e f) : Tells d f := ⟨fun o ho => g.stands o (h.stands o ho)⟩

theorem tells_out {d e : Dev} (h : e.out = d.out) : Tells d e := ⟨fun o ho => by rwa [h]⟩

section
variable (d : Dev)

theorem tells_refl : Tells d d := ⟨fun _ ho => ho⟩

theorem tells_ite {p : Prop} [Decidable p] {x y : Dev} (hx : Tells d x) (hy : Tells d y) : Tells d (if p then x else y) := by
  split
  · exact hx
  · exact hy

theorem tells_each {α : Type} {g : Dev → α → Dev} (h : ∀ d x, Tells d (g d x)) (l : List α) : Tells d (d.each l g) := by
  induction l generalizing d with
  | nil => exact tells_refl d
  | cons x xs ih => exact (h d x).trans (ih (g d x))

theorem tells_emit (o : Out) : Tells d (d.emit o) := ⟨fun _ ho => List.mem_cons_of_mem o ho⟩

theorem tells_msix (f v : Nat) : Tells d (d.msix f v) := by
  unfold Dev.msix
  extract_lets n c rings1 d1
  exact tells_ite d (tells_out rfl) (tells_ite d (tells_out rfl) ((tells_emit ..).trans (tells_ite d1 (tells_refl d1) (tells_out rfl))))

theorem tells_evWrite (e : Nat) (x : Event) : Tells d (d.evWrite e x) := by
  unfold Dev.evWrite
  extract_lets r i d1 d2
  have written : Tells d d2 := (tells_emit ..).trans (.trans (e := d1.ringPush r) (tells_out ((out_inc ..).trans (out_set ..))) (tells_emit ..))
  exact written.trans (tells_ite d2 (tells_msix ..) (tells_refl d2))

theorem tells_evPut (e : Nat) (x : Event) : Tells d (d.evPut e x) := by
  unfold Dev.evPut
  extract_lets r
  exact tells_ite d (tells_refl d) (tells_ite d (tells_evWrite ..) (tells_ite d (tells_out rfl) (tells_out (by simp))))

theorem tells_latchOnly (src cls obj : Nat) (data : List Nat) (i : Option Nat) (forced : Bool) : Tells d (d.latchOnly src cls obj data i forced) := by
  unfold Dev.latchOnly
  extract_lets cls1 d1 d2 bytes
  have counted : d2.out = d.out := by simp [d2, d1]
  split
  rename_i d3 merged opened same
  have taken : d3.out = d.out := (congrArg (fun x => x.1.out) same).symm.trans ((out_incidentTake ..).trans counted)
  extract_lets at_ x n d4 d5 d6 d7
  have logged : d4.out = d3.out := by simp [d4]
  have noted : d6.out = d.out := (show d6.out = d3.out by simp [d6, d5, logged]).trans taken
  have routed : Tells d d7 := (tells_out noted).trans (tells_each _ (fun d n => tells_evPut ..) _)
  exact routed.trans (tells_ite d7 (tells_out (out_arcTrigger ..)) (tells_refl d7))

/-! Reactions -/

@[simp] theorem out_sdoDrop (c x : Bool) : (d.sdoDrop c x).out = d.out := by simp [Dev.sdoDrop]
@[simp] theorem out_latchSet (src obj : Nat) : (d.latchSet src obj).out = d.out := by simp [Dev.latchSet, Dev.free]

theorem out_setState {s : Nat} (hs : s ≠ STAGED) (o : Orig) : (d.setState s o).out = d.out := by
  have unproven : ∀ e : Dev, (e.each (List.range 32) fun d x =>
      d.setB F.GD_STATUS.UNPROVEN (d.bit F.GD_CFG.BOOTSTRAP x && d.bit F.GD_CFG.DECLARED x) x).out = e.out :=
    fun e => out_each e (fun d x => out_setB ..) _
  have brake : ∀ e : Dev, (e.each [24, 25] fun d c => d.level c 0).out = e.out := fun e => out_each e (fun d c => out_level ..) _
  unfold Dev.setState
  extract_lets old d1 d2 a d3 d4 d5 d6 d7
  have entered : d1.out = d.out := by simp [d1, Dev.loopRate]
  have same : d2.out = d1.out := by simp [d2, hs]
  have archive : d3.out = d2.out := by simp [d3]
  have silent : d4.out = d3.out := by simp [d4]
  have proofs : d5.out = d4.out := by simp [d5, unproven]
  have unarmed : d6.out = d5.out := by simp [d6]
  have braked : d7.out = d5.out := by simp [d7, brake, unarmed]
  simp [braked, proofs, silent, archive, same, entered]

@[simp] theorem out_precharge0 (o : Orig) : (d.precharge0 o).out = d.out := by simp [Dev.precharge0, out_setState]

@[simp] theorem out_orderlyStop (o : Orig) : (d.orderlyStop o).out = d.out := by simp [Dev.orderlyStop, out_setState]

@[simp] theorem out_fastStop (o : Orig) (hall : Bool) : (d.fastStop o hall).out = d.out := by
  unfold Dev.fastStop
  extract_lets since arr d1 d2
  have stopped : d2.out = d.out := by simp [d2, d1, Dev.softOff]
  clear_value d2
  simp [apply_ite Dev.out, out_setState, stopped]

@[simp] theorem out_lockTry : d.lockTry.out = d.out := by
  have entered : ∀ o, (d.lockEnter o).out = d.out := fun o => by
    unfold Dev.lockEnter
    extract_lets d1 d2 saf
    have ended : d2.out = d.out := by simp [d2, d1]
    clear_value d2
    exact (out_setState _ (by decide) o).trans ended
  unfold Dev.lockTry
  split
  · split
    · rfl
    · exact entered ..
  · rfl

@[simp] theorem out_safeOff (src obj : Nat) (o : Orig) : (d.safeOff src obj o).out = d.out := by
  unfold Dev.safeOff
  extract_lets d1 arr d2 d3 d4 arr2 d5 d6 saf
  have off : d1.out = d.out := by simp [d1]
  have begun : d2.out = d1.out := by simp [d2]
  have fast : d3.out = d2.out := by simp [d3]
  have dark : d4.out = d3.out := by simp [d4]
  clear_value d4
  exact (out_lockTry _).trans (dark.trans (fast.trans (begun.trans off)))

@[simp] theorem out_react (src cls obj factor : Nat) : (d.react src cls obj factor).out = d.out := by
  unfold Dev.react
  extract_lets reg d1 x
  have derated : d1.out = d.out := by simp [d1]
  have answered : x.out = d1.out := by simp [x]
  simp [answered, derated, out_errSync]

variable (src cls obj : Nat) (data : List Nat) (i factor : Option Nat)

theorem tells_latchEvent (forced : Bool) : Tells d (d.latchEvent src cls obj data i forced factor) :=
  (tells_latchOnly ..).trans (tells_out (out_react ..))

theorem tells_raise : Tells d (d.raise src cls obj data i factor) := by
  refine Tells.trans (tells_latchEvent d src cls obj data i factor false) ?_
  unfold Dev.raise Dev.countCheck Dev.conserve
  extract_lets a b
  exact tells_ite _ (tells_out (out_condOff ..)) (.trans (tells_out (by simp)) (tells_latchEvent ..))

end

end Sys2Proof.Machine
end

section
/-! SUPPORT. The log's anchors, its reading and its acknowledgement, and the steps of a safety commit (R152 to R155, R160, R163, R164): what settles
O11. -/

namespace Sys2Proof.Machine

set_option Elab.async false

/-! The anchor of the event ring -/

theorem stamp_of_regs {d e : Dev} (hr : e.get F.CHR_STATE.FULL_RES = d.get F.CHR_STATE.FULL_RES) (ht : e.tick = d.tick) (hc : e.chr = d.chr) :
    e.stamp = d.stamp := by
  rw [Dev.stamp, Dev.stamp, Dev.bit_of_get hr, ht, hc]

theorem boots_of_still {x y : Mram} (h : x.still = y.still) : x.boots = y.boots :=
  show x.still.boots = y.still.boots from congrArg Mram.boots h

/-- R160: an anchor's write leaves the log's head. -/
theorem anchorPut_get (d : Dev) (a : Anchor) {f : Fld} (h : f.apart F.VP_ANCHOR_NEWEST.INDEX = true) (h' : f.apart F.VP_ANCHOR_NEWEST.T_INDEX = true)
    {i j k : Nat} (hi : i < f.n1) (hj : j < f.n2) (hk : k < f.n3) : (d.anchorPut a).get f i j k = d.get f i j k := by
  unfold Dev.anchorPut
  split
  · exact Dev.get_set_apart _ h _ hi hj hk
  · exact Dev.get_set_apart _ h' _ hi hj hk

theorem anchorFlush_get (d : Dev) {f : Fld} (h : f.apart F.VP_ANCHOR_NEWEST.INDEX = true) (h' : f.apart F.VP_ANCHOR_NEWEST.T_INDEX = true)
    {i j k : Nat} (hi : i < f.n1) (hj : j < f.n2) (hk : k < f.n3) : d.anchorFlush.get f i j k = d.get f i j k := by
  unfold Dev.anchorFlush
  split
  · split
    · exact anchorPut_get _ _ h h' hi hj hk
    · rfl
  · rfl

theorem anchorPut_chain (d : Dev) (a : Anchor) : (d.anchorPut a).prov = d.prov := by
  unfold Dev.anchorPut
  split
  · exact Dev.set_prov ..
  · exact Dev.set_prov ..

theorem anchorFlush_chain (d : Dev) : d.anchorFlush.prov.chain = d.prov.chain := by
  unfold Dev.anchorFlush
  split
  · split
    · exact (congrArg Prov.chain (anchorPut_chain ..)).trans rfl
    · rfl
  · rfl

/-- R160: an anchor that belongs to no block of entries is the newest of the event ring. -/
theorem anchorPut_event (d : Dev) {a : Anchor} (h : a.type ≠ 0) : (d.anchorPut a).mram.eventRing.head? = some a := by
  rw [Dev.anchorPut, if_neg h, Dev.set_mram]
  rfl

theorem anchor_event (d : Dev) :
    (d.anchor 1).mram.eventRing.head? = some ⟨d.get F.VP_LOG_HEAD.SEQ - 1, (d.anchor 1).stamp, d.prov.chain, d.mram.boots, 1⟩ := by
  have calm : (d.anchor 1).calm = d.anchorFlush.calm := (calm_anchorPut ..).trans (calm_anchored _)
  have full : (d.anchor 1).get F.CHR_STATE.FULL_RES = d.anchorFlush.get F.CHR_STATE.FULL_RES := get_of_calm calm (by decide)
  have head : d.anchorFlush.get F.VP_LOG_HEAD.SEQ = d.get F.VP_LOG_HEAD.SEQ :=
    anchorFlush_get d (by decide) (by decide) (by decide) (by decide) (by decide)
  refine (anchorPut_event (d.anchorFlush.anchored) (a := d.anchorFlush.anchorOf 1) Nat.one_ne_zero).trans ?_
  rw [Dev.anchorOf, head, anchorFlush_chain, boots_of_still (mram_of_calm (calm_anchorFlush d)),
    stamp_of_regs full (tick_of_calm calm) (congrArg Calm.chr calm)]

theorem exec_anchorTimed (s : State) : exec .anchorTimed s = execAnchorTimed s := rfl

theorem anchorTimed_records {s : State} (hl : s.dev.live = true) (hd : s.dev.prov.dirty = true)
    (ha : s.dev.ahead (s.dev.prov.anchorTick + 2 ^ 30) = true) :
    Leaves .anchorTimed s fun e => e.prov.dirty = false ∧ e.tick = max s.dev.tick (s.dev.prov.anchorTick + 2 ^ 30)
      ∧ e.mram.eventRing.head? = some ⟨s.dev.get F.VP_LOG_HEAD.SEQ - 1, e.stamp, s.dev.prov.chain, s.dev.mram.boots, 1⟩ := by
  refine leaves_main ((exec_anchorTimed s).trans (by rw [execAnchorTimed])) hl ?_
  rw [if_pos hd, wait_ahead ha]
  have head : (s.dev.until (s.dev.prov.anchorTick + 2 ^ 30)).get F.VP_LOG_HEAD.SEQ = s.dev.get F.VP_LOG_HEAD.SEQ := until_get _ _ (by decide)
  have prov : (s.dev.until (s.dev.prov.anchorTick + 2 ^ 30)).prov = s.dev.prov := elapse_prov ..
  have mram : (s.dev.until (s.dev.prov.anchorTick + 2 ^ 30)).mram = s.dev.mram := elapse_mram ..
  have event := anchor_event (s.dev.until (s.dev.prov.anchorTick + 2 ^ 30))
  rw [head, prov, mram] at event
  exact ⟨congrArg Prov.dirty (anchorPut_chain ..), (tick_of_calm (calm_anchor ..)).trans (until_tick _ _ hl), event⟩

/-! Reading the log (R163) -/

theorem reads_of_still {x y : Prov} (h : x.still = y.still) : x.reads = y.reads :=
  show x.still.reads = y.still.reads from congrArg Prov.reads h

theorem exec_logRead (c : HostCmd) (s : State) : exec (.logRead c) s = execLogRead c s := rfl

theorem logRead_queues {s : State} {c : HostCmd} (h : Ready 0x70 c s) (hf : arg2 c 2 < s.dev.get F.VP_LOG_HEAD.SEQ)
    (he : (s.dev.prov.entries.any fun e => e.seq == arg2 c 2) = true) :
    Leaves (.logRead c) s fun e => Completed e 0x70 0 c
      ∧ e.prov.reads = s.dev.prov.reads ++ [(c.func, arg2 c 0, arg2 c 2, min (arg c 4) (s.dev.get F.VP_LOG_HEAD.SEQ - arg2 c 2))] := by
  have head : (s.dev.atBeat 0x70 c).get F.VP_LOG_HEAD.SEQ = s.dev.get F.VP_LOG_HEAD.SEQ := atBeat_get _ _ _ (by decide) (by decide) (by decide)
  have past : ¬(s.dev.atBeat 0x70 c).get F.VP_LOG_HEAD.SEQ ≤ arg2 c 2 := by rw [head]; exact hf.not_ge
  have held : ¬(!((s.dev.atBeat 0x70 c).prov.entries.any fun e => e.seq == arg2 c 2)) = true := by rw [atBeat_prov, he]; decide
  have taken : (s.dev.atBeat 0x70 c).logRead c
      = ((({ s.dev.atBeat 0x70 c with prov := { (s.dev.atBeat 0x70 c).prov with
          reads := (s.dev.atBeat 0x70 c).prov.reads ++ [(c.func, arg2 c 0, arg2 c 2, min (arg c 4) ((s.dev.atBeat 0x70 c).get F.VP_LOG_HEAD.SEQ - arg2 c 2))] } }
          : Dev).lpddrTouch), .applied (min (arg c 4) ((s.dev.atBeat 0x70 c).get F.VP_LOG_HEAD.SEQ - arg2 c 2))) :=
    if_neg (not_or.mpr ⟨past, held⟩)
  refine leaves_main (f := fun d => (d.command 0x70 c (·.logRead c)).1) (exec_logRead c s) h.1 ?_
  rw [command_applied h (by decide) taken]
  refine ⟨completed_answered .., ?_⟩
  refine (reads_of_still ((prov_of_calm (calm_answered ..)).trans (prov_of_calm (calm_lpddrTouch _)))).trans ?_
  rw [head, atBeat_prov]

theorem exec_logReadDone (s : State) : exec .logReadDone s = execLogReadDone s := rfl

theorem logReadDone_copies {s : State} {f addr first n : Nat} {r : List (Nat × Nat × Nat × Nat)} (hl : s.dev.live = true)
    (hw : s.dev.clk.lpddrAwake = true) (hr : s.dev.prov.reads = (f, addr, first, n) :: r) :
    Leaves .logReadDone s fun e => e.prov.reads = r ∧ Out.logCopy f addr first n ∈ e.out := by
  refine leaves_main ((exec_logReadDone s).trans (by rw [execLogReadDone])) hl ?_
  rw [hr]
  dsimp only
  rw [if_pos hw]
  refine ⟨reads_of_still (prov_of_calm ((calm_raise ..).trans (calm_lpddrTouch _))), ?_⟩
  have touch : ∀ e : Dev, e.lpddrTouch.out = e.out := fun e => by
    unfold Dev.lpddrTouch
    split <;> rfl
  refine (tells_raise ..).stands _ ?_
  rw [touch]
  exact List.mem_cons_self

end Sys2Proof.Machine
end

section
/-! SUPPORT. The two-step safety commit (R152 to R155) and the acknowledgement of the log (R164); O11 is settled here. -/

namespace Sys2Proof.Machine

set_option Elab.async false

/-! What the safety commit is kept in: the provenance, the stored image and the instant -/

/-- The provenance but for the log, the stored safety image, and the tick. -/
def Dev.paper (d : Dev) : Prov × List (Option (MramSlot (List Nat))) × Nat := (d.prov.still, d.mram.safety, d.tick)

section
variable {d e : Dev}

theorem paper_of_calm (h : e.calm = d.calm) : e.paper = d.paper :=
  Prod.ext (prov_of_calm h) (Prod.ext (congrArg Mram.safety (mram_of_calm h) :) (tick_of_calm h))

theorem paper_of_held (h : e.held = d.held) : e.paper = d.paper :=
  Prod.ext (congrArg Calm.prov h) (Prod.ext (congrArg (fun x => x.mram.safety) h) (tick_of_held h))

theorem paper_same (hp : e.prov = d.prov) (hm : e.mram = d.mram) (ht : e.tick = d.tick) : e.paper = d.paper := by
  rw [Dev.paper, Dev.paper, hp, hm, ht]

end

section
variable (d : Dev)

@[simp] theorem paper_set (f : Fld) (v a b c : Nat) : (d.set f v a b c).paper = d.paper := paper_same (Dev.set_prov ..) (Dev.set_mram ..) (Dev.set_tick ..)
@[simp] theorem paper_setB (f : Fld) (v : Bool) (a b c : Nat) : (d.setB f v a b c).paper = d.paper := paper_set ..
@[simp] theorem paper_inc (f : Fld) (n a b c : Nat) : (d.inc f n a b c).paper = d.paper := paper_set ..
@[simp] theorem paper_arm (t : Timer) (n : Nat) : (d.arm t n).paper = d.paper := rfl
@[simp] theorem paper_disarm (t : Timer) : (d.disarm t).paper = d.paper := rfl
@[simp] theorem paper_pair (p n : Nat) (g : Pair → Pair) : (d.pair p n g).paper = d.paper := rfl

theorem paper_each {α : Type} {g : Dev → α → Dev} (h : ∀ e x, (g e x).paper = e.paper) (l : List α) : (d.each l g).paper = d.paper :=
  each_keeps Dev.paper h l d

@[simp] theorem paper_condOn (s o : Nat) : (d.condOn s o).paper = d.paper := paper_of_calm (calm_condOn ..)

@[simp] theorem paper_raise (s k o : Nat) (l : List Nat) (i m : Option Nat) : (d.raise s k o l i m).paper = d.paper := paper_of_calm (calm_raise ..)

@[simp] theorem paper_resetAbort (n : Nat) : (d.resetAbort n).paper = d.paper := by
  rw [Dev.resetAbort, paper_raise, paper_disarm]
  exact paper_set d F.SAF_STATE.RESET_STEP 0 0 0 0

@[simp] theorem paper_demandBegin (part n : Nat) : (d.demandBegin part n).paper = d.paper := by
  unfold Dev.demandBegin
  extract_lets known big kind x data d1 d2 d3
  have delayed : d1.paper = d.paper := by simp only [d1, apply_ite Dev.paper, paper_arm, paper_pair, ite_self]
  have begun : d3.paper = d.paper := by simp only [d3, d2, apply_ite Dev.paper, paper_resetAbort, paper_condOn, paper_inc, ite_self, delayed]
  rw [apply_ite Dev.paper, paper_raise, begun, delayed, ite_self]

/-- R153: the image comes into force; what is stored and what is staged stay. -/
theorem paper_safetyApply (b : List Nat) (fresh : Bool) :
    (d.safetyApply b fresh).paper = ({ d with prov := { d.prov with inForce := b.take 128 } } : Dev).paper := by
  unfold Dev.safetyApply
  extract_lets d1 prov d2 d3
  have words : d2.paper = ({ d with prov := { d.prov with inForce := b.take 128 } } : Dev).paper :=
    paper_same (congrArg (fun p : Prov => { p with inForce := b.take 128 }) ((Dev.set_prov ..).trans (Dev.set_prov ..)))
      ((Dev.set_mram ..).trans (Dev.set_mram ..)) ((Dev.set_tick ..).trans (Dev.set_tick ..))
  have pairs : d3.paper = d2.paper := paper_each d2 (fun e n => by
    extract_lets c t old d4 d5 free d6
    have configured : d5.paper = e.paper := by simp [d5, d4]
    have begun : d6.paper = d5.paper := by simp [d6, free, apply_ite Dev.paper]
    clear_value d5 d6
    simp [apply_ite Dev.paper, configured, begun]) _
  exact (paper_of_held (held_sdoCheck d3)).trans (pairs.trans words)

end

/-! The stored image (R154) -/

/-- R154: parameters whose writing is due stand in the spare slot, which is then valid. -/
theorem safeFlush_stores {d : Dev} {t : Nat} {b : List Nat} (hw : d.prov.safeWrite = some (t, b)) (ht : t ≤ d.tick) (hl : d.mram.safety.length = 2) :
    d.safeFlush.prov.safeWrite = none
      ∧ ∃ x : MramSlot (List Nat), d.safeFlush.mram.safety.getD (mramSpare id d.mram.safety) none = some x ∧ x.good id = true ∧ x.body = b := by
  have latched : d.latchFlush.paper = d.paper := by
    unfold Dev.latchFlush
    split
    · split <;> rfl
    · rfl
  have flushed : d.latchFlush.anchorFlush.paper = d.paper := (paper_of_calm (calm_anchorFlush _)).trans latched
  have write : d.latchFlush.anchorFlush.prov.safeWrite = some (t, b) := (congrArg (fun x => x.1.safeWrite) flushed).trans hw
  have image : d.latchFlush.anchorFlush.mram.safety = d.mram.safety := congrArg (fun x => x.2.1) flushed
  have tick : d.latchFlush.anchorFlush.tick = d.tick := congrArg (fun x => x.2.2) flushed
  have stored : d.safeFlush = { d.latchFlush.anchorFlush with
      prov := { d.latchFlush.anchorFlush.prov with safeWrite := none },
      mram := { d.latchFlush.anchorFlush.mram with safety := mramPut id d.latchFlush.anchorFlush.mram.safety b } } := by
    unfold Dev.safeFlush Dev.safeStore
    simp only [write, tick, if_pos ht]
  rw [stored, image]
  exact ⟨rfl, mramPut_spare id hl b⟩

/-! The steps of a commit (R152, R153, R155) -/

section
variable (d : Dev)

@[simp] theorem paper_log (kind : Nat) (o : Orig) (object aux old new r x : Nat) : (d.log kind o object aux old new r x).paper = d.paper :=
  paper_of_calm (calm_log ..)

theorem paper_unstage : d.unstage.paper = ({ d with prov := { d.prov with staged := none } } : Dev).paper := by
  simp [Dev.unstage]

/-- A step of the commit ends with its SAFETY entry and its completion: neither reaches what the commit is kept in. -/
theorem calm_step (op : Nat) (c : HostCmd) (x : Dev) (o : Orig) (step before r : Nat) :
    (d.answered op c (x.safetyLog o step before) r).settle.calm = x.calm := (calm_settle_answered ..).trans (calm_log ..)

end

theorem staged_of_paper {d e : Dev} (h : e.paper = d.paper) : e.prov.staged = d.prov.staged := congrArg (fun x => x.1.staged) h
theorem safeWrite_of_paper {d e : Dev} (h : e.paper = d.paper) : e.prov.safeWrite = d.prov.safeWrite := congrArg (fun x => x.1.safeWrite) h
theorem inForce_of_paper {d e : Dev} (h : e.paper = d.paper) : e.prov.inForce = d.prov.inForce := congrArg (fun x => x.1.inForce) h
theorem safety_of_paper {d e : Dev} (h : e.paper = d.paper) : e.mram.safety = d.mram.safety := congrArg (fun x => x.2.1) h
theorem tick_of_paper {d e : Dev} (h : e.paper = d.paper) : e.tick = d.tick := congrArg (fun x => x.2.2) h

theorem unstage_kept (d : Dev) : d.unstage.prov.safeWrite = d.prov.safeWrite ∧ d.unstage.prov.inForce = d.prov.inForce :=
  ⟨(safeWrite_of_paper (paper_unstage d)).trans rfl, (inForce_of_paper (paper_unstage d)).trans rfl⟩

theorem unstage_tick (d : Dev) : d.unstage.tick = d.tick := tick_of_paper (d := { d with prov := { d.prov with staged := none } }) (paper_unstage d)

theorem unstage_bits (d : Dev) : d.unstage.bit F.VP_SAFE_STAGE.STAGED = false ∧ d.unstage.bit F.VP_SAFE_STAGE.CRC_DONE = false := by
  unfold Dev.unstage
  extract_lets prov d1 d2
  have done : d2.bit F.VP_SAFE_STAGE.CRC_DONE = false := Dev.bit_setB_same _ (by decide) _ (by decide) (by decide) (by decide)
  have staged : d2.bit F.VP_SAFE_STAGE.STAGED = false :=
    (Dev.bit_setB_apart _ (by decide) _ (by decide) (by decide) (by decide)).trans
      (Dev.bit_setB_same _ (by decide) _ (by decide) (by decide) (by decide))
  clear_value d2
  have crcs : ∀ f : Fld, f.apart F.VP_SAFE_CRC_C.CRC = true → f.apart F.VP_SAFE_CRC_D.CRC = true → 0 < f.n1 → 0 < f.n2 → 0 < f.n3 →
      ((d2.set F.VP_SAFE_CRC_C.CRC 0).set F.VP_SAFE_CRC_D.CRC 0).bit f = d2.bit f := fun f hc hd h1 h2 h3 =>
    (Dev.bit_set_apart _ hd _ h1 h2 h3).trans (Dev.bit_set_apart _ hc _ h1 h2 h3)
  exact ⟨(crcs _ (by decide) (by decide) (by decide) (by decide) (by decide)).trans staged,
    (crcs _ (by decide) (by decide) (by decide) (by decide) (by decide)).trans done⟩

theorem unstage_get (d : Dev) {f : Fld} (hs : f.apart F.VP_SAFE_STAGE.STAGED = true) (hd : f.apart F.VP_SAFE_STAGE.CRC_DONE = true)
    (hC : f.apart F.VP_SAFE_CRC_C.CRC = true) (hD : f.apart F.VP_SAFE_CRC_D.CRC = true) {i j k : Nat} (hi : i < f.n1) (hj : j < f.n2) (hk : k < f.n3) :
    d.unstage.get f i j k = d.get f i j k := by
  rw [Dev.unstage, Dev.get_set_there _ hD _ hi hj hk, Dev.get_set_there _ hC _ hi hj hk, Dev.get_setB_apart _ hd _ hi hj hk,
    Dev.get_setB_apart _ hs _ hi hj hk]
  exact get_disarm ..

theorem exec_safetyCommitDiscard (c : HostCmd) (s : State) : exec (.safetyCommitDiscard c) s = execSafetyCommitDiscard c s := rfl

theorem discard_empties {s : State} {c : HostCmd} (h : Ready 0x24 c s) :
    After (.safetyCommitDiscard c) s fun d => d.prov.staged = none ∧ d.bit F.VP_SAFE_STAGE.STAGED = false
      ∧ d.get F.VP_SAFE_IN_FORCE.CRC = s.dev.get F.VP_SAFE_IN_FORCE.CRC ∧ (s.dev.prov.safeWrite = none → d.mram.safety = s.dev.mram.safety) := by
  refine after_main ((exec_safetyCommitDiscard c s).trans (by rw [execSafetyCommitDiscard])) h.1 ?_
  rw [simple_applied h (by decide)]
  have calm := calm_step s.dev 0x24 c (s.dev.atBeat 0x24 c).unstage (Orig.cmd c) 3 ((s.dev.atBeat 0x24 c).get F.VP_SAFE_IN_FORCE.CRC) 0
  have paper := (paper_of_calm calm).trans (paper_unstage _)
  have force : (s.dev.atBeat 0x24 c).unstage.get F.VP_SAFE_IN_FORCE.CRC = s.dev.get F.VP_SAFE_IN_FORCE.CRC :=
    (unstage_get _ (by decide) (by decide) (by decide) (by decide) (by decide) (by decide) (by decide)).trans
      (atBeat_get _ _ _ (by decide) (by decide) (by decide))
  exact ⟨staged_of_paper paper, (bit_of_calm calm (by decide)).trans (unstage_bits _).1, (get_of_calm calm (by decide)).trans force,
    fun _ => (safety_of_paper paper).trans (congrArg Mram.safety (atBeat_mram s.dev 0x24 c))⟩

theorem exec_safetyCommitStage (c : HostCmd) (s : State) : exec (.safetyCommitStage c) s = execSafetyCommitStage c s := rfl

/-- R152: a staged image is kept, its CRC awaited. -/
theorem stage_keeps {s : State} {c : HostCmd} {b : List Nat} (h : Ready 0x24 c s) (hb : c.payload = .bytes b) :
    After (.safetyCommitStage c) s fun d => d.prov.staged = some b ∧ d.bit F.VP_SAFE_STAGE.STAGED = true
      ∧ d.bit F.VP_SAFE_STAGE.CRC_DONE = false ∧ d.due .safeCrc = some (max s.dev.tick (c.beat * 1024) + msT 5) := by
  refine after_main ((exec_safetyCommitStage c s).trans (by rw [execSafetyCommitStage])) h.1 ?_
  rw [checked_applied h (by decide) (x := (s.dev.atBeat 0x24 c).safetyStage (Orig.cmd c) b) (by rw [hb])]
  unfold Dev.safetyStage
  extract_lets d1 prov d2
  have calm := calm_step s.dev 0x24 c d2 (Orig.cmd c) 1 (d2.get F.VP_SAFE_IN_FORCE.CRC) 0
  have tick1 : d1.tick = max s.dev.tick (c.beat * 1024) := (unstage_tick _).trans (atBeat_tick _ _ _ h.1)
  have undone : d1.bit F.VP_SAFE_STAGE.CRC_DONE = false := (unstage_bits _).2
  clear_value d1
  have tick : d2.tick = max s.dev.tick (c.beat * 1024) := (Dev.set_tick ..).trans tick1
  have kept : d2.prov.staged = some b := congrArg Prov.staged ((Dev.set_prov ..).trans rfl)
  have staged : d2.bit F.VP_SAFE_STAGE.STAGED = true :=
    (bit_arm ..).trans (Dev.bit_setB_same _ (by decide) _ (by decide) (by decide) (by decide))
  have awaited : d2.bit F.VP_SAFE_STAGE.CRC_DONE = false :=
    (bit_arm ..).trans ((Dev.bit_setB_apart _ (by decide) _ (by decide) (by decide) (by decide)).trans undone)
  have due : d2.due .safeCrc = some (d2.tick + msT 5) := due_arm ..
  exact ⟨(staged_of_paper (paper_of_calm calm)).trans kept, (bit_of_calm calm (by decide)).trans staged, (bit_of_calm calm (by decide)).trans awaited,
    (calm_due calm _ (by decide)).trans (due.trans (by rw [tick]))⟩

theorem exec_safetyCrcDone (faultC faultD : Nat) (s : State) : exec (.safetyCrcDone faultC faultD) s = execSafetyCrcDone faultC faultD s := rfl

/-- R152: both parts show the CRC of the staged image. -/
theorem crcDone_shows {s : State} {b : List Nat} (faultC faultD : Nat) (hl : s.dev.live = true) (hs : s.dev.prov.staged = some b)
    (hd : s.dev.due .safeCrc ≠ none) :
    After (.safetyCrcDone faultC faultD) s fun d => d.bit F.VP_SAFE_STAGE.CRC_DONE = true ∧ d.get F.VP_SAFE_CRC_C.CRC = (crc32 b ^^^ faultC) % 2 ^ 32
      ∧ d.get F.VP_SAFE_CRC_D.CRC = (crc32 b ^^^ faultD) % 2 ^ 32 ∧ d.due .safeCrc = none := by
  refine after_main ((exec_safetyCrcDone faultC faultD s).trans (by rw [execSafetyCrcDone])) hl ?_
  rw [if_pos (Option.isSome_iff_ne_none.mpr hd), hs]
  dsimp -zeta only
  extract_lets crcC crcD d1
  have calm : ((d1.setB F.VP_SAFE_STAGE.CRC_DONE true).raise 23 (if crcC = crcD then 0 else 1) 0 (leBytes 4 crcC ++ leBytes 4 crcD)).settle.calm
      = (d1.setB F.VP_SAFE_STAGE.CRC_DONE true).calm := (calm_settle _).trans (calm_raise ..)
  have shownC : d1.get F.VP_SAFE_CRC_C.CRC = crcC % 2 ^ 32 :=
    (Dev.get_set_there _ (by decide) _ (by decide) (by decide) (by decide)).trans (Dev.get_set_here _ _ _ (by decide) (by decide) (by decide))
  have shownD : d1.get F.VP_SAFE_CRC_D.CRC = crcD % 2 ^ 32 := Dev.get_set_here _ _ _ (by decide) (by decide) (by decide)
  have due : d1.due .safeCrc = none := (due_set ..).trans ((due_set ..).trans (due_disarm ..))
  exact ⟨(bit_of_calm calm (by decide)).trans (Dev.bit_setB_same _ (by decide) _ (by decide) (by decide) (by decide)),
    (get_of_calm calm (by decide)).trans ((Dev.get_setB_apart _ (by decide) _ (by decide) (by decide) (by decide)).trans shownC),
    (get_of_calm calm (by decide)).trans ((Dev.get_setB_apart _ (by decide) _ (by decide) (by decide) (by decide)).trans shownD),
    (calm_due calm _ (by decide)).trans ((due_set ..).trans due)⟩

/-- R153, R154: an image comes into force under its CRC, its writing begins, and the stage is emptied. -/
def Dev.commit (d : Dev) (b : List Nat) (x : Nat) : Dev :=
  let e := (d.safetyApply b true).set F.VP_SAFE_IN_FORCE.CRC x
  ((({ e with prov := { e.prov with committed := true } } : Dev).safeBegin b).safetyMatch).unstage

theorem safetyConfirm_commits {d : Dev} {b : List Nat} {c : HostCmd} (hs : d.prov.staged = some b) (hd : d.bit F.VP_SAFE_STAGE.CRC_DONE = true)
    (hC : d.get F.VP_SAFE_CRC_C.CRC = arg c 4) (hD : d.get F.VP_SAFE_CRC_D.CRC = arg c 4) (hi : safetyImageOk b = true) :
    d.safetyConfirm c = ((d.commit b (arg c 4)).safetyLog (Orig.cmd c) 2 (d.get F.VP_SAFE_IN_FORCE.CRC), .applied (arg c 4)) := by
  unfold Dev.safetyConfirm
  rw [hs]
  simp only [hC, hD, hd, hi, ne_eq, not_true, if_false, Bool.not_true, Bool.false_eq_true]
  rfl

/-- R154: the writing of an image begins, to be done within 10 ms. -/
theorem safeBegin_writes (d : Dev) (b : List Nat) : ∃ t, (d.safeBegin b).prov.safeWrite = some (t, b) ∧ t ≤ d.tick + msT 10 := by
  have now : d.safeStore.tick = d.tick := by
    unfold Dev.safeStore
    split <;> rfl
  refine ⟨d.safeStore.tick + Config.freeNat d.safeStore.freeCtr % (msT 10 + 1), rfl, ?_⟩
  have within : Config.freeNat d.safeStore.freeCtr % (msT 10 + 1) < msT 10 + 1 := Nat.mod_lt _ (Nat.succ_pos _)
  omega

theorem safeBegin_kept (d : Dev) (b : List Nat) : (d.safeBegin b).prov.inForce = d.prov.inForce ∧ (d.safeBegin b).regs = d.regs := by
  unfold Dev.safeBegin Dev.safeStore
  split <;> exact ⟨rfl, rfl⟩

theorem commit_commits (d : Dev) (b : List Nat) {x : Nat} (hx : x < 2 ^ 32) :
    (d.commit b x).prov.staged = none ∧ (d.commit b x).bit F.VP_SAFE_STAGE.STAGED = false
      ∧ (∃ t, (d.commit b x).prov.safeWrite = some (t, b) ∧ t ≤ d.tick + msT 10) ∧ (d.commit b x).get F.VP_SAFE_IN_FORCE.CRC = x
      ∧ (d.commit b x).prov.inForce = b.take 128 := by
  have applied := paper_safetyApply d b true
  unfold Dev.commit Dev.safetyMatch
  extract_lets e prov
  have tick : e.tick = d.tick := (Dev.set_tick ..).trans ((tick_of_paper applied).trans rfl)
  have force : e.prov.inForce = b.take 128 := (congrArg Prov.inForce (Dev.set_prov ..)).trans ((inForce_of_paper applied).trans rfl)
  have shown : e.get F.VP_SAFE_IN_FORCE.CRC = x :=
    (Dev.get_set_here _ _ _ (by decide) (by decide) (by decide)).trans (Nat.mod_eq_of_lt hx)
  clear_value e
  obtain ⟨t, written, soon⟩ := safeBegin_writes { e with prov := { prov with committed := true } } b
  obtain ⟨kept, regs⟩ := safeBegin_kept { e with prov := { prov with committed := true } } b
  generalize ({ e with prov := { prov with committed := true } } : Dev).safeBegin b = begun at written kept regs ⊢
  generalize hm : begun.setB F.GLB_CAT.SAFETY_MATCH (begun.bit F.GLB_CAT.LOADED && begun.prov.committed
    && begun.get F.VP_SAFE_IN_FORCE.CRC == begun.prov.catSafetyCrc) = matched
  have same : matched.paper = begun.paper := hm ▸ paper_setB ..
  have crc : matched.get F.VP_SAFE_IN_FORCE.CRC = x :=
    (hm ▸ Dev.get_setB_apart _ (by decide) _ (by decide) (by decide) (by decide)).trans ((get_of_regs regs ..).trans shown)
  obtain ⟨writing, inForce⟩ := unstage_kept matched
  exact ⟨(staged_of_paper (paper_unstage matched)).trans rfl, (unstage_bits _).1,
    ⟨t, (writing.trans (safeWrite_of_paper same)).trans written, by rwa [tick] at soon⟩,
    (unstage_get _ (by decide) (by decide) (by decide) (by decide) (by decide) (by decide) (by decide)).trans crc,
    (inForce.trans (inForce_of_paper same)).trans (kept.trans force)⟩

/-- R153, R154: a CONFIRM with the CRC of both parts puts the image in force and begins its writing. -/
theorem confirm_commits {s : State} {c : HostCmd} {b : List Nat} (h : Ready 0x24 c s) (hs : s.dev.prov.staged = some b)
    (hd : s.dev.bit F.VP_SAFE_STAGE.CRC_DONE = true) (he : s.dev.get F.VP_SAFE_CRC_C.CRC = s.dev.get F.VP_SAFE_CRC_D.CRC)
    (hp : arg c 4 = s.dev.get F.VP_SAFE_CRC_C.CRC) (hi : safetyImageOk b = true) :
    After (.safetyCommitConfirm c) s fun d => d.prov.staged = none ∧ d.bit F.VP_SAFE_STAGE.STAGED = false
      ∧ (∃ t, d.prov.safeWrite = some (t, b) ∧ t ≤ max s.dev.tick (c.beat * 1024) + msT 10) ∧ d.get F.VP_SAFE_IN_FORCE.CRC = arg c 4
      ∧ d.prov.inForce = b.take 128 := by
  have crcC : (s.dev.atBeat 0x24 c).get F.VP_SAFE_CRC_C.CRC = arg c 4 :=
    (atBeat_get _ _ _ (by decide) (by decide) (by decide)).trans hp.symm
  have crcD : (s.dev.atBeat 0x24 c).get F.VP_SAFE_CRC_D.CRC = arg c 4 :=
    (atBeat_get _ _ _ (by decide) (by decide) (by decide)).trans (he.symm.trans hp.symm)
  have done : (s.dev.atBeat 0x24 c).bit F.VP_SAFE_STAGE.CRC_DONE = true :=
    (Dev.bit_of_get (atBeat_get s.dev 0x24 c (by decide) (by decide) (by decide))).trans hd
  have confirmed := safetyConfirm_commits ((atBeat_staged ..).trans hs) done crcC crcD hi
  obtain ⟨emptied, unstaged, ⟨t, written, soon⟩, shown, force⟩ := commit_commits (s.dev.atBeat 0x24 c) b (Nat.mod_lt (c.p.getD 4 0) (by decide) : arg c 4 < 2 ^ 32)
  refine after_main (f := fun d => (d.command 0x24 c (·.safetyConfirm c)).1) (exec_safetyCommitConfirm c s) h.1 ?_
  rw [command_applied h (by decide) confirmed]
  have calm := calm_step s.dev 0x24 c ((s.dev.atBeat 0x24 c).commit b (arg c 4)) (Orig.cmd c) 2 ((s.dev.atBeat 0x24 c).get F.VP_SAFE_IN_FORCE.CRC) (arg c 4)
  have paper := paper_of_calm calm
  rw [atBeat_tick _ _ _ h.1] at soon
  exact ⟨(staged_of_paper paper).trans emptied, (bit_of_calm calm (by decide)).trans unstaged, ⟨t, (safeWrite_of_paper paper).trans written, soon⟩,
    (get_of_calm calm (by decide)).trans shown, (inForce_of_paper paper).trans force⟩

/-! The acknowledgement (R164) -/

/-- R60, R128: a LOG_ACK's own entry stands before its effect. -/
def Dev.ackBeat (d : Dev) (c : HostCmd) : Dev :=
  { ({ d.atBeat 0x71 c with out := d.out } : Dev).log 3 (Orig.cmd c) 0x71 0 d.st d.st with out := [] }

theorem ack_applied {s : State} {c : HostCmd} (h : Ready 0x71 c s) {g : Dev → Dev × Verdict} {x : Dev} {r : Nat}
    (hg : g (s.dev.ackBeat c) = (x, .applied r)) : (s.dev.command 0x71 c g).1.calm = x.calm := by
  obtain ⟨-, hperm, hbeat, hforce⟩ := h
  have hst : ({ s.dev.atBeat 0x71 c with out := s.dev.out } : Dev).st = s.dev.st := atBeat_st s.dev 0x71 c
  have hp : ({ s.dev.atBeat 0x71 c with out := s.dev.out } : Dev).permits 0x71 = true := (atBeat_permits s.dev 0x71 c 0x71).trans hperm
  have hy : yields 0x71 = false := by decide
  rw [Dev.ackBeat] at hg
  simp only [Dev.command, Nat.not_lt.mpr hbeat, pendSync_atBeat, hst, hp, hy, hg, Bool.false_and, Bool.not_true, Bool.false_eq_true, if_true, if_false]
  exact calm_finish { x with out := s.dev.out } 0x71 c s.dev.st 0 0 r _

theorem ack_checked {s : State} {c : HostCmd} (h : Ready 0x71 c s) {g : Dev → Dev × Option Nat} {x : Dev} (hg : g (s.dev.ackBeat c) = (x, none)) :
    (s.dev.checked 0x71 c g).calm = x.calm := by
  rw [Dev.checked, ack_applied h (x := x) (r := 0)]
  rw [hg]

/-- R157: an entry advances the head of the log by one. -/
theorem log_head (d : Dev) (kind : Nat) (o : Orig) (object aux old new r x : Nat) :
    (d.log kind o object aux old new r x).get F.VP_LOG_HEAD.SEQ = (d.get F.VP_LOG_HEAD.SEQ + 1) % 2 ^ 64 := by
  unfold Dev.log
  extract_lets seq e prov d1 d2
  have counted : d2.get F.VP_LOG_HEAD.SEQ = (d.get F.VP_LOG_HEAD.SEQ + 1) % 2 ^ 64 := by
    have touch : ∀ e : Dev, e.lpddrTouch.regs = e.regs := fun e => by
      unfold Dev.lpddrTouch
      split <;> rfl
    refine (get_of_regs (touch _) ..).trans ?_
    exact (Dev.get_set_there _ (by decide) _ (by decide) (by decide) (by decide)).trans (Dev.get_set_here _ _ _ (by decide) (by decide) (by decide))
  clear_value d2
  split
  · exact (anchorPut_get _ _ (by decide) (by decide) (by decide) (by decide) (by decide)).trans
      ((anchorFlush_get _ (by decide) (by decide) (by decide) (by decide) (by decide)).trans counted)
  · exact counted

/-- R161: with no write held, the end of the hold reaches the log alone. -/
theorem holdDrain_get {d : Dev} (h : d.prov.holdWrites = []) {f : Fld} (hf : f.calm = true) (h1 : 0 < f.n1) (h2 : 0 < f.n2) (h3 : 0 < f.n3) :
    d.holdDrain.get f = d.get f := by
  unfold Dev.holdDrain Dev.attemptSum
  rw [h, List.foldl_nil]
  dsimp only
  split
  · rfl
  · split
    · rfl
    · exact (get_of_calm (calm_log ..) hf h1 h2 h3).trans (get_of_regs rfl ..)

theorem exec_logAck (c : HostCmd) (s : State) : exec (.logAck c) s = execLogAck c s := rfl

theorem holdWrites_of_calm {d e : Dev} (h : e.calm = d.calm) : e.prov.holdWrites = d.prov.holdWrites :=
  show e.calm.prov.holdWrites = d.calm.prov.holdWrites from congrArg (fun x => x.prov.holdWrites) h

theorem ackBeat_calm (d : Dev) (c : HostCmd) : (d.ackBeat c).calm = (d.atBeat 0x71 c).calm := (calm_log { d.atBeat 0x71 c with out := d.out } ..).trans rfl

theorem ackBeat_acked (d : Dev) (c : HostCmd) : (d.ackBeat c).get F.VP_LOG_ACKED.SEQ = d.get F.VP_LOG_ACKED.SEQ :=
  (get_of_calm (ackBeat_calm d c) (by decide)).trans (atBeat_get d 0x71 c (by decide) (by decide) (by decide))

theorem ackBeat_head {d : Dev} (c : HostCmd) (room : d.get F.VP_LOG_HEAD.SEQ + 1 < 2 ^ 64) :
    (d.ackBeat c).get F.VP_LOG_HEAD.SEQ = d.get F.VP_LOG_HEAD.SEQ + 1 := by
  have before : ({ d.atBeat 0x71 c with out := d.out } : Dev).get F.VP_LOG_HEAD.SEQ = d.get F.VP_LOG_HEAD.SEQ :=
    atBeat_get d 0x71 c (by decide) (by decide) (by decide)
  refine (log_head { d.atBeat 0x71 c with out := d.out } 3 (Orig.cmd c) 0x71 0 d.st d.st 0 0).trans ?_
  rw [before, Nat.mod_eq_of_lt room]

/-- R164: a number between what is acknowledged and the head passes the check. -/
theorem logAck_takes {d : Dev} {c : HostCmd} (low : d.get F.VP_LOG_ACKED.SEQ ≤ arg2 c 0) (high : arg2 c 0 ≤ d.get F.VP_LOG_HEAD.SEQ) :
    d.logAck c = ((d.set F.VP_LOG_ACKED.SEQ (arg2 c 0)).logFree, none) :=
  if_neg (not_or.mpr ⟨low.not_gt, high.not_gt⟩)

/-- R164: an acknowledgement between what is acknowledged and the head moves ACKED. -/
theorem logAck_acks {s : State} {c : HostCmd} (h : Ready 0x71 c s) (low : s.dev.get F.VP_LOG_ACKED.SEQ ≤ arg2 c 0)
    (high : arg2 c 0 ≤ s.dev.get F.VP_LOG_HEAD.SEQ) (room : s.dev.get F.VP_LOG_HEAD.SEQ + 1 < 2 ^ 64) (held : s.dev.prov.holdWrites = []) :
    After (.logAck c) s fun d => d.get F.VP_LOG_ACKED.SEQ = arg2 c 0 := by
  have small : arg2 c 0 < 2 ^ 64 := by omega
  have taken := logAck_takes (d := s.dev.ackBeat c) (c := c) (by rwa [ackBeat_acked]) (by rw [ackBeat_head c room]; omega)
  have tiers : (s.dev.checked 0x71 c (·.logAck c)).logTiers.calm = ((s.dev.ackBeat c).set F.VP_LOG_ACKED.SEQ (arg2 c 0)).calm :=
    (calm_logTiers _).trans ((ack_checked h taken).trans (calm_logFree _))
  have none : (s.dev.checked 0x71 c (·.logAck c)).logTiers.prov.holdWrites = [] := (holdWrites_of_calm tiers).trans
    ((congrArg Prov.holdWrites (Dev.set_prov ..)).trans ((holdWrites_of_calm (ackBeat_calm s.dev c)).trans
      ((congrArg Prov.holdWrites (atBeat_prov s.dev 0x71 c)).trans held)))
  have shown : ((s.dev.ackBeat c).set F.VP_LOG_ACKED.SEQ (arg2 c 0)).get F.VP_LOG_ACKED.SEQ = arg2 c 0 :=
    (Dev.get_set_here _ _ _ (by decide) (by decide) (by decide)).trans (Nat.mod_eq_of_lt small)
  refine after_main ((exec_logAck c s).trans (by rw [execLogAck])) h.1 ?_
  refine (settle_get _ (by decide)).trans ((holdDrain_get none (by decide) (by decide) (by decide) (by decide)).trans ?_)
  exact (get_of_calm tiers (by decide)).trans shown

/-- Settles O11, event by event: the anchor, the reads and the acknowledgement of the log above, and the steps of a commit, whose log entries and
completions reach neither the image nor its writing (`calm_step`). -/
theorem logAndCommit : Obligations.LogAndCommit := by
  unfold Obligations.LogAndCommit
  exact ⟨fun _ hl hd ha => anchorTimed_records hl hd ha, fun _ _ h hf he => logRead_queues h hf he, fun _ _ _ _ _ _ hl hw hr => logReadDone_copies hl hw hr,
    fun _ _ h low high room held => logAck_acks h low high room held, fun _ _ _ h hb => stage_keeps h hb,
    fun _ _ faultC faultD hl hs hd => crcDone_shows faultC faultD hl hs hd, fun _ _ _ h hs hd he hp hi => confirm_commits h hs hd he hp hi,
    fun _ _ h => discard_empties h, fun _ _ _ hw ht hl => safeFlush_stores hw ht hl⟩

end Sys2Proof.Machine
end

section
/-! SUPPORT. What a load of a Catalogue leaves standing: its declarations, the copies in MRAM, and what shows that one is loaded (R96, R97, R100). -/

namespace Sys2Proof.Machine

set_option Elab.async false

/-! The declarations and the copies -/

/-- The declarations of the loaded Catalogue and the copies in MRAM. -/
def Dev.stock (d : Dev) : Option CatDecl × List (Option CatFile) × Nat := (d.prov.decl, d.mram.cats, d.mram.active)

section
variable {d e : Dev}

theorem stock_of_held (h : e.held = d.held) : e.stock = d.stock :=
  Prod.ext (congrArg (fun x => x.prov.decl) h) (Prod.ext (congrArg (fun x => x.mram.cats) h) (congrArg (fun x => x.mram.active) h))

theorem stock_of_calm (h : e.calm = d.calm) : e.stock = d.stock := stock_of_held (held_of_calm h)

theorem stock_same (hp : e.prov = d.prov) (hm : e.mram = d.mram) : e.stock = d.stock := by rw [Dev.stock, Dev.stock, hp, hm]

end

section
variable (d : Dev)

@[simp] theorem stock_set (f : Fld) (v a b c : Nat) : (d.set f v a b c).stock = d.stock := stock_same (Dev.set_prov ..) (Dev.set_mram ..)
@[simp] theorem stock_setB (f : Fld) (v : Bool) (a b c : Nat) : (d.setB f v a b c).stock = d.stock := stock_set ..
@[simp] theorem stock_inc (f : Fld) (n a b c : Nat) : (d.inc f n a b c).stock = d.stock := stock_set ..
@[simp] theorem stock_arm (t : Timer) (n : Nat) : (d.arm t n).stock = d.stock := rfl
@[simp] theorem stock_disarm (t : Timer) : (d.disarm t).stock = d.stock := rfl
@[simp] theorem stock_mel (k : Nat) (g : MetEl → MetEl) : (d.mel k g).stock = d.stock := rfl
@[simp] theorem stock_mch (k : Nat) (g : MetCh → MetCh) : (d.mch k g).stock = d.stock := rfl
@[simp] theorem stock_pw (k : Nat) (g : Pwm → Pwm) : (d.pw k g).stock = d.stock := rfl

@[simp] theorem stock_raise (s k o : Nat) (l : List Nat) (i m : Option Nat) : (d.raise s k o l i m).stock = d.stock := stock_of_calm (calm_raise ..)

theorem stock_ite {p : Prop} [Decidable p] {x y : Dev} (hx : x.stock = d.stock) (hy : y.stock = d.stock) : (if p then x else y).stock = d.stock := by
  split
  · exact hx
  · exact hy

theorem stock_each {α : Type} {g : Dev → α → Dev} (h : ∀ e x, (g e x).stock = e.stock) (l : List α) : (d.each l g).stock = d.stock :=
  each_keeps Dev.stock h l d

/-! Loans and clocks -/

theorem stock_refuse (op inst why : Nat) : (d.refuse op inst why).stock = d.stock := by
  have recorded : (d.refuseRec op inst why).stock = d.stock := by
    have counted : ∀ e : Dev, (e.loanLog 4 op inst (d.loanAvail (isSite op))).stock = e.stock := fun e => stock_of_calm (calm_log ..)
    unfold Dev.refuseRec
    extract_lets d1
    exact stock_ite d ((counted _).trans (stock_inc ..)) ((stock_raise ..).trans ((counted _).trans (stock_inc ..)))
  refine Eq.trans ?_ recorded
  unfold Dev.refuse
  generalize d.refuseRec op inst why = e
  unfold Dev.refuseEffect
  split
  case h_1 => exact stock_ite e rfl ((stock_of_calm (calm_waitSync _)).trans rfl)
  case h_2 => exact (stock_of_calm (calm_startEnd _)).trans (stock_setB ..)
  case h_3 => exact stock_of_calm (calm_startEnd _)
  case h_4 =>
    split
    · exact (stock_raise ..).trans rfl
    · rfl
  case h_5 => exact (stock_inc ..).trans rfl
  case h_6 => exact stock_of_calm (calm_preFail ..)
  case h_7 => exact stock_ite e (stock_set ..) rfl
  case h_8 => exact (stock_raise ..).trans (stock_ite e ((stock_of_calm (calm_pllDrop ..)).trans (stock_set ..)) rfl)
  case h_9 => exact stock_setB ..
  case h_10 => exact stock_setB ..
  case h_11 => rfl

theorem stock_loanFile (op inst : Nat) : (d.loanFile op inst).stock = d.stock := by
  unfold Dev.loanFile
  extract_lets cost d1 mine
  have waits : d1.stock = d.stock := (stock_of_calm (calm_waitSync _)).trans rfl
  refine stock_ite d (stock_refuse ..) (stock_ite d (stock_refuse ..) (stock_ite d ?_ waits))
  exact (stock_refuse ..).trans ((stock_of_calm (calm_loanDrop ..)).trans waits)

theorem stock_pllDemand (p user : Nat) : (d.pllDemand p user).stock = d.stock := by
  unfold Dev.pllDemand Dev.pllAsk
  extract_lets u clk d1 d2
  have asked : d2.stock = d.stock := (stock_disarm ..).trans ((stock_setB ..).trans rfl)
  exact stock_ite d asked ((stock_loanFile ..).trans ((stock_setB ..).trans asked))

/-! Metering begins (R423) -/

theorem stock_intervalClose (e : Nat) (v : Interval) : (d.intervalClose e v).1.stock = d.stock := by
  have added : (d.totalsAdd e v).1.stock = d.stock :=
    (stock_each _ (fun e j => stock_inc ..) _).trans ((stock_inc ..).trans (stock_inc ..))
  unfold Dev.intervalClose
  extract_lets m count
  split
  rename_i d1 exact_ same
  rw [same] at added
  extract_lets bad seq fl r met d2 d3 d4
  have raised : d3.stock = d.stock := (stock_raise ..).trans ((stock_set ..).trans ((show d2.stock = d1.stock from rfl).trans added))
  exact stock_ite d ((stock_of_calm ((calm_conserve ..).trans (calm_condOn ..))).trans raised) ((stock_of_calm (calm_condOff ..)).trans raised)

theorem stock_intervalOpen (e start : Nat) (fr : Nat × Nat × List Nat) (extra last : Nat) : (d.intervalOpen e start fr extra last).stock = d.stock := by
  unfold Dev.intervalOpen
  split
  extract_lets step v
  exact (stock_setB ..).trans ((stock_set ..).trans (stock_mel ..))

theorem stock_elResume (e t : Nat) : (d.elResume e t).stock = d.stock := by
  unfold Dev.elResume
  extract_lets missed
  split
  next v same =>
    extract_lets open_ last
    refine stock_ite d ((stock_setB ..).trans ((stock_set ..).trans (stock_mel ..))) ?_
    split
    rename_i d1 fr closed
    have kept := stock_intervalClose d e { v with nGap := v.nGap + missed v v.stop }
    rw [closed] at kept
    exact (stock_mel ..).trans ((stock_intervalOpen ..).trans kept)
  next => exact (stock_mel ..).trans (stock_intervalOpen ..)

theorem stock_metStart : d.metStart.stock = d.stock := by
  unfold Dev.metStart
  extract_lets k met pwr d1 d2
  have begun : d1.stock = d.stock := (stock_setB ..).trans rfl
  have channels : d2.stock = d1.stock := stock_each d1 (fun e m => by
    extract_lets e1
    exact stock_ite e ((stock_arm ..).trans (stock_mch ..)) (stock_mch ..)) _
  exact stock_ite d rfl ((stock_each d2 (fun e m => (stock_elResume ..).trans (stock_mel ..)) _).trans (channels.trans begun))

/-! Lanes at STAGED -/

theorem stock_lanesStage : d.lanesStage.stock = d.stock := by
  have watch : ∀ (e : Dev) (k : Nat), (e.xcvrWatch k).stock = e.stock := fun e k => stock_ite e rfl rfl
  have detect : ∀ (e : Dev) (k : Nat), (e.laneDetect k).stock = e.stock := fun e k => by
    unfold Dev.laneDetect
    extract_lets e1 e2
    have found : e2.stock = e.stock := (stock_arm ..).trans ((stock_setB ..).trans (stock_set ..))
    exact stock_ite e (stock_ite e ((watch ..).trans found) found) rfl
  unfold Dev.lanesStage
  extract_lets ks d1
  have staged : d1.stock = d.stock := stock_each d (fun e k => stock_ite e (watch ..) (detect ..)) _
  exact (stock_each d1 (fun e g => stock_ite e rfl (stock_loanFile ..)) _).trans staged

/-! Trips and the entry to STAGED -/

theorem stock_xtripAct (n instant : Nat) : (d.xtripAct n instant).stock = d.stock := by
  unfold Dev.xtripAct
  extract_lets st ss i d1
  have tripped : d1.stock = d.stock := by
    refine (stock_each _ (fun e c => ?_) _).trans ((stock_of_calm (calm_stagesTrip ..)).trans (stock_setB ..))
    extract_lets x
    exact (stock_inc ..).trans ((stock_set ..).trans (stock_set ..))
  exact stock_ite d rfl ((stock_raise ..).trans tripped)

theorem stock_enterStaged (o : Orig) : (d.enterStaged o).stock = d.stock := by
  unfold Dev.enterStaged
  extract_lets locked d1 d2
  have again : d1.held = d.held :=
    (held_each (fun e x => held_checkFail ..) _ _).trans ((held_each (fun e x => held_checkPass ..) _ _).trans (held_setState ..))
  have raised : d2.stock = d.stock := stock_ite d ((stock_raise ..).trans (stock_of_held again)) (stock_of_held again)
  exact (stock_of_held (held_sdoCheck d2)).trans raised

theorem stock_safetyStage (o : Orig) (b : List Nat) : (d.safetyStage o b).stock = d.stock := by
  have unstaged : d.unstage.stock = d.stock := by
    unfold Dev.unstage
    extract_lets prov d1 d2
    exact (stock_set ..).trans ((stock_set ..).trans ((stock_setB ..).trans ((stock_setB ..).trans rfl)))
  unfold Dev.safetyStage
  extract_lets d1 prov d2
  have staged : d2.stock = d.stock := (stock_arm ..).trans ((stock_setB ..).trans ((show _ = d1.stock from rfl).trans unstaged))
  exact (stock_of_calm (calm_log ..)).trans staged

/-! What a load writes (R97) -/

theorem stock_offUndeclared (all : Bool) : (d.offUndeclared all).stock = d.stock := by
  have shown : (d.phSync all).stock = d.stock := stock_each d (fun e k => stock_ite e (stock_set ..) (stock_ite e (stock_set ..) rfl)) _
  exact (stock_each _ (fun e c => (stock_pw ..).trans (stock_of_calm (calm_level ..))) _).trans shown

/-- R94, R97: a load takes the Catalogue's declarations and leaves the copies. -/
theorem stock_catWrite (x : CatImage) : (d.catWrite x).stock = (some x.decl, d.mram.cats, d.mram.active) := by
  unfold Dev.catWrite
  extract_lets c prov d1 d2 d3 d4 d5 d6 d7 d8
  have declared : d1.stock = (some x.decl, d.mram.cats, d.mram.active) := rfl
  have settings : d2.stock = d1.stock := stock_each d1 (fun e y => by
    split
    · exact stock_set ..
    · rfl) _
  have safety : d3.stock = d2.stock := by
    unfold d3 Dev.safetySettings
    extract_lets r a e
    have registrar : e.stock = d2.stock := (stock_set ..).trans ((stock_set ..).trans ((stock_set ..).trans (stock_set ..)))
    refine (stock_each e (fun e y => ?_) _).trans registrar
    obtain ⟨w, n⟩ := y
    dsimp -zeta only
    extract_lets e1
    have set : e1.stock = e.stock := (stock_set ..).trans (stock_set ..)
    exact stock_ite e set ((stock_set ..).trans set)
  have array : d5.stock = d3.stock := by simp only [d5, d4, stock_set]
  have ranks : d6.stock = d5.stock := stock_each d5 (fun e s => (stock_set ..).trans (stock_setB ..)) _
  have trunc : d7.stock = d6.stock := stock_each d6 (fun e g => stock_set ..) _
  have sync : d8.stock = d7.stock := stock_each d7 (fun e m => stock_setB ..) _
  have members : (d8.memberSync.offUndeclared false).stock = d8.stock := (stock_offUndeclared ..).trans (stock_each d8 (fun e k => stock_setB ..) _)
  have scheduled : ∀ e : Dev, (e.scheduleSet (declLinks c)).stock = e.stock := fun e =>
    (stock_set ..).trans ((stock_set ..).trans (stock_each e (fun e y => (stock_set ..).trans ((stock_set ..).trans (stock_set ..))) _))
  exact (scheduled _).trans (members.trans (sync.trans (trunc.trans (ranks.trans (array.trans (safety.trans (settings.trans declared)))))))

theorem stock_ledgerLoad (x : CatImage) : (d.ledgerLoad x).stock = d.stock := by
  unfold Dev.ledgerLoad
  extract_lets d1
  have cleared : d1.stock = d.stock := rfl
  have fresh : (d1.each x.decl.lanes fun d l => d.set F.LEDGER_C.C_EST (d.get F.LEDGER_C_NOM.C_NOM l.lane) l.lane).stock = d1.stock :=
    stock_each d1 (fun e l => stock_set ..) _
  split
  · exact stock_ite d ((show _ = d1.stock from rfl).trans cleared) (fresh.trans cleared)
  · exact fresh.trans cleared

/-- R97, R100: what follows a load that passed keeps the declarations it took and the copies. -/
theorem stock_catCommit (c : HostCmd) (x : CatImage) : (d.catCommit c x).stock = (some x.decl, d.mram.cats, d.mram.active) := by
  unfold Dev.catCommit
  extract_lets d1 d2 prov arr met pwr os d3 d4 d5 d6 d7 d8 d9 d10 d11 d12 d13
  have written : d2.stock = (some x.decl, d.mram.cats, d.mram.active) :=
    (stock_set ..).trans ((stock_set ..).trans ((stock_setB ..).trans ((stock_ledgerLoad ..).trans ((stock_of_calm (calm_loanSync _)).trans (stock_catWrite ..)))))
  clear_value d2
  have noted : d3.stock = d2.stock := rfl
  clear_value d3
  have absent : d4.stock = d3.stock := (stock_each _ (fun e s => (stock_set ..).trans ((stock_set ..).trans (stock_set ..))) _).trans
    (stock_each d3 (fun e k => stock_set ..) _)
  have staged : d5.stock = d4.stock := (stock_safetyStage ..).trans ((stock_setB ..).trans (stock_of_held (held_failSync _)))
  have frames : ∀ e : Dev, e.canStart.stock = e.stock := fun e => stock_each e (fun e n => stock_each e (fun e f => stock_ite e (stock_arm ..) (stock_disarm ..)) _) _
  have entered : d6.stock = d5.stock := (stock_enterStaged ..).trans ((frames _).trans (stock_set ..))
  have carriers : d7.stock = d6.stock := stock_each d6 (fun e n => stock_ite e (stock_arm ..) (stock_disarm ..)) _
  have trips : d8.stock = d7.stock := stock_each d7 (fun e n => stock_xtripAct ..) _
  have meter : d10.stock = d8.stock := by
    have one : d9.stock = d8.stock := stock_pllDemand ..
    exact (stock_ite d9 (stock_pllDemand ..) rfl).trans one
  have ports : d12.stock = d10.stock := by
    have down : ∀ (e : Dev) (n : Nat), (e.ethDown n).stock = e.stock := fun e n => stock_ite e ((stock_raise ..).trans (stock_setB ..)) rfl
    exact (stock_each d11 (fun e n => down ..) _).trans (stock_ite d10 (stock_pllDemand ..) (stock_of_calm (calm_pllDrop ..)))
  have lanes : d13.stock = d12.stock := (stock_lanesStage _).trans (stock_metStart _)
  exact (stock_each d13 (fun e k => stock_raise ..) _).trans (lanes.trans (ports.trans (meter.trans (trips.trans (carriers.trans
    (entered.trans (staged.trans (absent.trans (noted.trans written)))))))))

end

end Sys2Proof.Machine
end

section
/-! SUPPORT. Loading and unloading a Catalogue, the floor and STAGE_RETRY (R96, R97, R101, R103): what settles O15. -/

namespace Sys2Proof.Machine

set_option Elab.async false

/-! The registers a load writes after it has shown the Catalogue -/

/-- What follows a load that passed is free to change. -/
def catMask : Mask := ⟨afterMask.regs ++ lockMask.regs ++ commandFields ++ networkFields ++ driveFields
    ++ [F.ARR_STRING_STATUS.ACTIVE, F.ARR_STRING_STATUS.BYPASSED, F.ARR_STRING_STATUS.ABSENT, F.CELL_STATUS.ROLE, F.ARC_DEPTH.BEATS],
  [.lanes, .cells, .slots, .bank2, .phases, .gates, .enc, .metCh, .metEl, .met, .ports, .hk, .mram]⟩

section
variable (d : Dev)

theorem view_lanesStage {m : Mask} (hs : m.frees F.LANE_STATUS.STATE = true) (hv : m.frees F.LANE_RTT.VALID = true) (hr : refuseMask.le m = true) :
    d.lanesStage.calm.view m = d.calm.view m := by
  have watch : ∀ (e : Dev) (k : Nat), (e.xcvrWatch k).calm.view m = e.calm.view m := fun e k => by simp [Dev.xcvrWatch]
  have detect : ∀ (e : Dev) (k : Nat), (e.laneDetect k).calm.view m = e.calm.view m := fun e k => by
    unfold Dev.laneDetect
    extract_lets e1 e2
    have found : e2.calm.view m = e.calm.view m := (view_arm ..).trans ((view_setB hv ..).trans (view_set hs ..))
    split
    · split
      · exact (watch ..).trans found
      · exact found
    · rfl
  unfold Dev.lanesStage
  extract_lets ks d1
  have staged : d1.calm.view m = d.calm.view m := view_each (fun e k => by
    split
    · exact watch ..
    · exact detect ..) _ _
  refine (view_each (fun e g => ?_) _ _).trans staged
  split
  · rfl
  · exact view_loanFile hr ..

theorem catView_xtripAct (n instant : Nat) : (d.xtripAct n instant).calm.view catMask = d.calm.view catMask := by
  unfold Dev.xtripAct
  extract_lets st ss i d1
  have tripped : d1.calm.view catMask = d.calm.view catMask := by
    refine (view_each (fun e c => ?_) _ _).trans ((view_of_calm (calm_stagesTrip ..) _).trans (view_setB (by decide +kernel) ..))
    extract_lets x
    exact (view_inc (by decide +kernel) ..).trans ((view_set (by decide +kernel) ..).trans (view_set (by decide +kernel) ..))
  split
  · rfl
  · exact (view_of_calm (calm_raise ..) _).trans tripped

theorem catView_canStart : d.canStart.calm.view catMask = d.calm.view catMask :=
  view_each (fun e n => view_each (fun e f => by
    split
    · exact view_arm ..
    · exact view_disarm ..) _ _) _ _

end

/-- R97: a load that passed shows that a Catalogue is loaded, with the ID and the revision its header holds. -/
theorem catCommit_shows (d : Dev) (c : HostCmd) (x : CatImage) :
    (d.catCommit c x).bit F.GLB_CAT.LOADED = true ∧ (d.catCommit c x).get F.GLB_CAT_ID.ID = x.catId % 2 ^ 32
      ∧ (d.catCommit c x).get F.GLB_CAT_REV.REVISION = x.revision % 2 ^ 32 := by
  unfold Dev.catCommit
  extract_lets d1 d2 prov arr met pwr os d3 d4 d5 d6 d7 d8 d9 d10 d11 d12 d13
  have loaded : d2.bit F.GLB_CAT.LOADED = true :=
    (Dev.bit_set_apart _ (by decide) _ (by decide) (by decide) (by decide)).trans ((Dev.bit_set_apart _ (by decide) _ (by decide) (by decide) (by decide)).trans
      (Dev.bit_setB_same _ (by decide) _ (by decide) (by decide) (by decide)))
  have id : d2.get F.GLB_CAT_ID.ID = x.catId % 2 ^ 32 :=
    (Dev.get_set_there _ (by decide) _ (by decide) (by decide) (by decide)).trans (Dev.get_set_here _ _ _ (by decide) (by decide) (by decide))
  have revision : d2.get F.GLB_CAT_REV.REVISION = x.revision % 2 ^ 32 := Dev.get_set_here _ _ _ (by decide) (by decide) (by decide)
  clear_value d2
  have noted : d3.regs = d2.regs := rfl
  clear_value d3
  have absent : d4.calm.view catMask = d3.calm.view catMask :=
    (view_each (fun e s => view_le (m := laneMask) (by decide +kernel) (laneView_stringSync ..)) _ _).trans (view_each (fun e k => view_set (by decide +kernel) ..) _ _)
  have staged : d5.calm.view catMask = d4.calm.view catMask :=
    (view_le (m := moduleMask) (by decide +kernel) (moduleView_safetyStage ..)).trans ((view_setB (by decide +kernel) ..).trans
      (view_le (m := failMask) (by decide +kernel) (failView_failSync _)))
  have entered : d6.calm.view catMask = d5.calm.view catMask :=
    (view_le (m := afterMask) (by decide +kernel) (afterView_enterStaged ..)).trans ((catView_canStart _).trans (view_set (by decide +kernel) ..))
  have carriers : d7.calm.view catMask = d6.calm.view catMask := view_each (fun e n => by
    split
    · exact view_arm ..
    · exact view_disarm ..) _ _
  have trips : d8.calm.view catMask = d7.calm.view catMask := view_each (fun e n => catView_xtripAct ..) _ _
  have meter : d10.calm.view catMask = d8.calm.view catMask := by
    have one : d9.calm.view catMask = d8.calm.view catMask := view_pllDemand (by decide +kernel) ..
    simp only [d10]
    split
    · exact (view_pllDemand (by decide +kernel) ..).trans one
    · exact one
  have ports : d12.calm.view catMask = d10.calm.view catMask := by
    have asked : d11.calm.view catMask = d10.calm.view catMask := by
      simp only [d11]
      split
      · exact view_pllDemand (by decide +kernel) ..
      · exact view_of_calm (calm_pllDrop ..) _
    exact (view_each (fun e n => view_le (m := networkMask) (by decide +kernel) (networkView_ethDown ..)) _ _).trans asked
  have lanes : d13.calm.view catMask = d12.calm.view catMask :=
    (view_lanesStage _ (by decide +kernel) (by decide +kernel) (by decide +kernel)).trans (view_le (m := lockMask) (by decide +kernel) (lockView_metStart _))
  have shown := (lanes.trans (ports.trans (meter.trans (trips.trans (carriers.trans (entered.trans (staged.trans absent)))))))
  have view : (d13.each (those 96 fun k => !d13.bit F.LANE_CTRL.DECLARED k && !(unit d13.lanes k).prsHigh) fun e k => e.raise 7 0 k).calm.view catMask
      = d3.calm.view catMask := (view_each (fun e k => view_of_calm (calm_raise ..) _) _ _).trans shown
  exact ⟨(Dev.bit_of_get ((get_of_view view (by decide +kernel)).trans (get_of_regs noted ..))).trans loaded,
    (get_of_view view (by decide +kernel)).trans ((get_of_regs noted ..).trans id),
    (get_of_view view (by decide +kernel)).trans ((get_of_regs noted ..).trans revision)⟩

/-! The commands -/

theorem decl_of_stock {d e : Dev} {x : Option CatDecl × List (Option CatFile) × Nat} (h : e.stock = d.stock) (hd : d.stock = x) :
    e.prov.decl = x.1 ∧ e.mram.cats = x.2.1 ∧ e.mram.active = x.2.2 :=
  ⟨congrArg Prod.fst (h.trans hd), congrArg (fun y => y.2.1) (h.trans hd), congrArg (fun y => y.2.2) (h.trans hd)⟩

theorem decl_of_held {d e : Dev} (h : e.held = d.held) : e.prov.decl = d.prov.decl := congrArg (·.1) (stock_of_held h)

theorem exec_catLoad (c : HostCmd) (s : State) : exec (.catLoad c) s = execCatLoad c s := rfl

/-- R97: a load that passed, as it stands at the end of the step. -/
theorem load_shows (s : State) (c : HostCmd) (d : Dev) (x : CatImage) :
    (((s.dev.answered 0x20 c (d.catCommit c x) 0).settle.bit F.GLB_CAT.LOADED = true
      ∧ (s.dev.answered 0x20 c (d.catCommit c x) 0).settle.get F.GLB_CAT_ID.ID = x.catId % 2 ^ 32
      ∧ (s.dev.answered 0x20 c (d.catCommit c x) 0).settle.get F.GLB_CAT_REV.REVISION = x.revision % 2 ^ 32)
      ∧ (s.dev.answered 0x20 c (d.catCommit c x) 0).settle.prov.decl = some x.decl
      ∧ (s.dev.answered 0x20 c (d.catCommit c x) 0).settle.mram.cats = d.mram.cats
      ∧ (s.dev.answered 0x20 c (d.catCommit c x) 0).settle.mram.active = d.mram.active) := by
  obtain ⟨loaded, id, revision⟩ := catCommit_shows d c x
  have calm := calm_settle_answered s.dev 0x20 c (d.catCommit c x) 0
  exact ⟨⟨(bit_of_calm calm (by decide)).trans loaded, (get_of_calm calm (by decide)).trans id, (get_of_calm calm (by decide)).trans revision⟩,
    decl_of_stock (stock_of_calm calm) (stock_catCommit ..)⟩

/-- R96, R97: a Catalogue from host memory that passes every check. -/
theorem catLoad_host {s : State} {c : HostCmd} {x : CatFile} (h : Ready 0x20 c s) (hh : (arg c 3).testBit 0 = false) (hp : c.payload = .catalogue x)
    (hx : x.bytes.length = arg c 2) (hc : (s.dev.atBeat 0x20 c).catCheck (arg c 2) (some (catalogueOf x)) = none) :
    After (.catLoad c) s fun d => d.bit F.GLB_CAT.LOADED = true ∧ d.get F.GLB_CAT_ID.ID = leAt x.bytes 0xC 4 % 2 ^ 32
      ∧ d.get F.GLB_CAT_REV.REVISION = leAt x.bytes 0x10 4 % 2 ^ 32 ∧ d.prov.decl = some x.decl
      ∧ d.mram.active = 1 - s.dev.mram.active ∧ (s.dev.mram.cats.length = 2 → d.mram.cats.getD d.mram.active none = some x) := by
  have supplied : catSupplied c true (some x) = arg c 2 := by simp [catSupplied, hx]
  refine after_main ((exec_catLoad c s).trans (by rw [execCatLoad])) h.1 ?_
  rw [checked_applied h (by decide) (x := ((s.dev.atBeat 0x20 c).catKeep (some x)).catCommit c (catalogueOf x)) (by
    simp only [hh, hp, Bool.not_false, if_true, Option.map_some, supplied, hc])]
  obtain ⟨⟨loaded, id, revision⟩, decl, cats, active⟩ := load_shows s c ((s.dev.atBeat 0x20 c).catKeep (some x)) (catalogueOf x)
  refine ⟨loaded, id, revision, decl, active.trans (congrArg (1 - ·.active) (atBeat_mram ..)), fun two => ?_⟩
  have fits : 1 - (s.dev.atBeat 0x20 c).mram.active < (s.dev.atBeat 0x20 c).mram.cats.length := by
    rw [atBeat_mram, two]
    omega
  rw [cats, active, Dev.catKeep, List.getD_eq_getElem?_getD, List.getElem?_set_self fits]
  rfl

/-- R96: a Catalogue of the active copy that passes every check. -/
theorem catLoad_mram {s : State} {c : HostCmd} {x : CatFile} (h : Ready 0x20 c s) (hh : (arg c 3).testBit 0 = true)
    (hx : s.dev.mram.cats.getD s.dev.mram.active none = some x)
    (hc : (s.dev.atBeat 0x20 c).catCheck x.bytes.length (some (catalogueOf x)) = none) :
    After (.catLoad c) s fun d => d.bit F.GLB_CAT.LOADED = true ∧ d.get F.GLB_CAT_ID.ID = leAt x.bytes 0xC 4 % 2 ^ 32
      ∧ d.prov.decl = some x.decl ∧ d.mram.cats = s.dev.mram.cats := by
  refine after_main ((exec_catLoad c s).trans (by rw [execCatLoad])) h.1 ?_
  rw [checked_applied h (by decide) (x := (s.dev.atBeat 0x20 c).catCommit c (catalogueOf x)) (by
    simp only [hh, atBeat_mram, hx, Bool.not_true, Bool.false_eq_true, if_false, Option.map_some, catSupplied, Bool.false_and, hc])]
  obtain ⟨⟨loaded, id, -⟩, decl, cats, -⟩ := load_shows s c (s.dev.atBeat 0x20 c) (catalogueOf x)
  exact ⟨loaded, id, decl, cats.trans (congrArg Mram.cats (atBeat_mram ..))⟩

theorem exec_catUnload (c : HostCmd) (s : State) : exec (.catUnload c) s = execCatUnload c s := rfl

/-- R103: an unloaded Catalogue is shown no longer. -/
theorem catUnload_clears {s : State} {c : HostCmd} (h : Ready 0x21 c s) :
    After (.catUnload c) s fun d => d.bit F.GLB_CAT.LOADED = false ∧ d.get F.GLB_CAT_ID.ID = 0 ∧ d.get F.GLB_CAT_REV.REVISION = 0 ∧ d.prov.decl = none := by
  refine after_main ((exec_catUnload c s).trans (by rw [execCatUnload])) h.1 ?_
  rw [simple_applied h (by decide)]
  extract_lets d1 d2 d3 d4 d5 d6 d7 prov arr met d8
  have loaded : d7.bit F.GLB_CAT.LOADED = false :=
    (Dev.bit_set_apart _ (by decide) _ (by decide) (by decide) (by decide)).trans ((Dev.bit_set_apart _ (by decide) _ (by decide) (by decide) (by decide)).trans
      (Dev.bit_setB_same _ (by decide) _ (by decide) (by decide) (by decide)))
  have id : d7.get F.GLB_CAT_ID.ID = 0 :=
    (Dev.get_set_there _ (by decide) _ (by decide) (by decide) (by decide)).trans (Dev.get_set_here _ _ _ (by decide) (by decide) (by decide))
  have revision : d7.get F.GLB_CAT_REV.REVISION = 0 := Dev.get_set_here _ _ _ (by decide) (by decide) (by decide)
  clear_value d7
  have matched : ∀ f : Fld, catMask.keeps f = true → 0 < f.n1 → 0 < f.n2 → 0 < f.n3 → d8.safetyMatch.get f = d7.get f := fun f hf h1 h2 h3 => by
    refine (get_of_view (m := catMask) ((view_setB (by decide +kernel) ..).trans
      (view_le (m := failMask) (by decide +kernel) (failView_failSync _))) hf h1 h2 h3).trans (get_of_regs rfl ..)
  have none : d8.prov.decl = none := (decl_of_held (held_failSync _)).trans rfl
  clear_value d8
  have calm : (s.dev.answered 0x21 c (d8.safetyMatch.setState QUIET (Orig.cmd c)) 0).settle.calm = d8.safetyMatch.calm :=
    (calm_settle_answered ..).trans (calm_setState _ _ _ (by decide))
  have decl : d8.safetyMatch.prov.decl = d8.prov.decl := congrArg Prov.decl (Dev.set_prov ..)
  exact ⟨(bit_of_calm calm (by decide)).trans ((Dev.bit_of_get (matched _ (by decide +kernel) (by decide) (by decide) (by decide))).trans loaded),
    (get_of_calm calm (by decide)).trans ((matched _ (by decide +kernel) (by decide) (by decide) (by decide)).trans id),
    (get_of_calm calm (by decide)).trans ((matched _ (by decide +kernel) (by decide) (by decide) (by decide)).trans revision),
    (congrArg (·.1) (stock_of_calm calm)).trans (decl.trans none)⟩

theorem exec_setFloor (c : HostCmd) (s : State) : exec (.setFloor c) s = execSetFloor c s := rfl

/-- R97: the floor rises to the revision of the loaded Catalogue. -/
theorem setFloor_raises {s : State} {c : HostCmd} (h : Ready 0x22 c s) :
    After (.setFloor c) s fun d => d.mram.catFloor = max (s.dev.get F.GLB_CAT_FLOOR.FLOOR) (s.dev.get F.GLB_CAT_REV.REVISION)
      ∧ d.get F.GLB_CAT_FLOOR.FLOOR = max (s.dev.get F.GLB_CAT_FLOOR.FLOOR) (s.dev.get F.GLB_CAT_REV.REVISION) % 2 ^ 32 := by
  have floor : (s.dev.atBeat 0x22 c).get F.GLB_CAT_FLOOR.FLOOR = s.dev.get F.GLB_CAT_FLOOR.FLOOR := atBeat_get _ _ _ (by decide) (by decide) (by decide)
  have revision : (s.dev.atBeat 0x22 c).get F.GLB_CAT_REV.REVISION = s.dev.get F.GLB_CAT_REV.REVISION := atBeat_get _ _ _ (by decide) (by decide) (by decide)
  refine after_main ((exec_setFloor c s).trans (by rw [execSetFloor])) h.1 ?_
  rw [simple_applied h (by decide)]
  extract_lets n e mram
  have shown : e.get F.GLB_CAT_FLOOR.FLOOR = n % 2 ^ 32 := Dev.get_set_here _ _ _ (by decide) (by decide) (by decide)
  clear_value e
  have calm := calm_settle_answered s.dev 0x22 c { e with mram := { mram with catFloor := n } } 0
  have high : n = max (s.dev.get F.GLB_CAT_FLOOR.FLOOR) (s.dev.get F.GLB_CAT_REV.REVISION) := by rw [← floor, ← revision]
  rw [← high]
  exact ⟨congrArg Mram.catFloor (mram_of_calm calm), (get_of_calm calm (by decide)).trans ((get_of_regs rfl ..).trans shown)⟩

/-! STAGE_RETRY (R101) -/

/-- What the lanes of STAGED are free to change. -/
def retryMask : Mask := ⟨F.LANE_STATUS.STATE :: F.LANE_RTT.VALID :: refuseMask.regs, refuseMask.parts⟩

/-- A lane whose hold is ended, or that is not held, is not held. -/
theorem released_each (l : List Nat) {k : Nat} (hk : k < 96) :
    ∀ d : Dev, k ∈ l ∨ d.bit F.LANE_STATUS.HELD k = false → (d.each l fun e j => e.setB F.LANE_STATUS.HELD false j).bit F.LANE_STATUS.HELD k = false := by
  induction l with
  | nil => exact fun d h => h.resolve_left (List.not_mem_nil)
  | cons j l ih =>
    intro d h
    by_cases same : k = j
    · subst same
      exact ih _ (Or.inr (Dev.bit_setB_same _ (by decide) _ hk (by decide) (by decide)))
    · refine ih _ (h.imp (fun mem => (List.mem_cons.mp mem).resolve_left same) fun off => (Dev.bit_of_get (Dev.get_set_ne _ _ _ _ ?_)).trans off)
      simp only [Fld.key, Fld.off, F.LANE_STATUS.HELD]
      omega

theorem lanesRetry_releases (d : Dev) {k : Nat} (hk : k < 96) : d.lanesRetry.bit F.LANE_STATUS.HELD k = false := by
  unfold Dev.lanesRetry
  refine (Dev.bit_of_get (get_of_view (m := retryMask) (view_lanesStage _ (by decide +kernel) (by decide +kernel) (by decide +kernel)) (by decide +kernel) hk)).trans ?_
  refine released_each _ hk d ?_
  cases held : d.bit F.LANE_STATUS.HELD k with
  | false => exact Or.inr rfl
  | true => exact Or.inl (by simp [those, hk, held])

theorem exec_stageRetry (c : HostCmd) (s : State) : exec (.stageRetry c) s = execStageRetry c s := rfl

theorem stageRetry_releases {s : State} {c : HostCmd} (h : Ready 0x23 c s) :
    Leaves (.stageRetry c) s fun e => Completed e 0x23 0 c ∧ ∀ k < 96, s.dev.bit F.LANE_STATUS.HELD k = true → e.bit F.LANE_STATUS.HELD k = false := by
  refine leaves_main ((exec_stageRetry c s).trans (by rw [execStageRetry])) h.1 ?_
  rw [simple_applied h (by decide)]
  exact ⟨completed_answered .., fun k hk _ => (bit_of_calm (calm_answered ..) (by decide) hk).trans (lanesRetry_releases _ hk)⟩

/-- Settles O15, command by command: what follows a load writes none of the registers that show the Catalogue (`catCommit_shows`), and a retry releases
every lane it finds held before the lanes are detected anew. -/
theorem catalogueCommands : Obligations.CatalogueCommands := by
  unfold Obligations.CatalogueCommands
  exact ⟨fun _ _ _ h hh hp hx hc => catLoad_host h hh hp hx hc, fun _ _ _ h hh hx hc => catLoad_mram h hh hx hc, fun _ _ h => catUnload_clears h,
    fun _ _ h => setFloor_raises h, fun _ _ h => stageRetry_releases h⟩

end Sys2Proof.Machine
end

section
/-! SUPPORT. Changes of a supply, the save window's end and the tick-count record (R42 to R45, R55, R91). -/

namespace Sys2Proof.Machine

set_option Elab.async false

/-! The Reserve domain's own registers stand through a reset of the main domain (R43) -/

theorem regGet_filter {p : Nat → Bool} {k : Nat} (h : p k = true) (r : List (Nat × Nat)) : regGet (r.filter fun x => p x.1) k = regGet r k := by
  induction r with
  | nil => rfl
  | cons x r ih =>
    obtain ⟨k', v⟩ := x
    by_cases same : k' = k
    · subst same
      simp [List.filter, h, regGet]
    · cases hp : p k' <;> simp [List.filter, hp, regGet, same, ih]

theorem safeFlush_get (d : Dev) {f : Fld} (h : f.apart F.VP_ANCHOR_NEWEST.INDEX = true) (h' : f.apart F.VP_ANCHOR_NEWEST.T_INDEX = true)
    {i j k : Nat} (hi : i < f.n1) (hj : j < f.n2) (hk : k < f.n3) : d.safeFlush.get f i j k = d.get f i j k := by
  have latched : d.latchFlush.regs = d.regs := by
    unfold Dev.latchFlush
    split
    · split <;> rfl
    · rfl
  have flushed : d.latchFlush.anchorFlush.get f i j k = d.get f i j k := (anchorFlush_get _ h h' hi hj hk).trans (get_of_regs latched ..)
  have stored : ∀ e : Dev, e.safeStore.regs = e.regs := fun e => by
    unfold Dev.safeStore
    split <;> rfl
  unfold Dev.safeFlush
  dsimp only
  split
  · split
    · exact (get_of_regs (stored _) ..).trans flushed
    · exact flushed
  · exact flushed

/-- R43: a reset of the main domain leaves a register of the Reserve domain. -/
theorem holdMain_get (d : Dev) (bit : Nat) (stand : Main) {f : Fld} (h : f.apart F.VP_ANCHOR_NEWEST.INDEX = true)
    (h' : f.apart F.VP_ANCHOR_NEWEST.T_INDEX = true) (hr : reserveKey (f.key 0 0 0) = true) (h1 : 0 < f.n1) (h2 : 0 < f.n2) (h3 : 0 < f.n3) :
    (d.holdMain bit stand).get f = d.get f := by
  refine Eq.trans ?_ (safeFlush_get d h h' h1 h2 h3)
  rw [Dev.get, Dev.get]
  exact congrArg (· ^^^ f.reset 0) (regGet_filter hr d.safeFlush.regs)

theorem holdMain_pwr (d : Dev) (bit : Nat) (stand : Main) : (d.holdMain bit stand).pwr.vinOk = d.pwr.vinOk
    ∧ (d.holdMain bit stand).pwr.vinFell = d.pwr.vinFell ∧ (d.holdMain bit stand).pwr.mrstLow = d.pwr.mrstLow := by
  refine ⟨show d.safeFlush.pwr.vinOk = d.pwr.vinOk from ?_, show d.safeFlush.pwr.vinFell = d.pwr.vinFell from ?_,
    show d.safeFlush.pwr.mrstLow = d.pwr.mrstLow from ?_⟩ <;> rw [safeFlush_pwr]

/-- What a cause of a main reset leaves is not live. -/
theorem mainCause_live (d : Dev) (bit : Nat) : (d.mainCause bit).live = false := by
  unfold Dev.mainCause
  split
  · rename_i off
    rw [Dev.live, off]
    rfl
  · rfl

theorem mainCause_get (d : Dev) (bit : Nat) {f : Fld} (h : f.apart F.VP_ANCHOR_NEWEST.INDEX = true) (h' : f.apart F.VP_ANCHOR_NEWEST.T_INDEX = true)
    (hr : reserveKey (f.key 0 0 0) = true) (h1 : 0 < f.n1) (h2 : 0 < f.n2) (h3 : 0 < f.n3) : (d.mainCause bit).get f = d.get f := by
  unfold Dev.mainCause
  split
  · rfl
  · exact holdMain_get d bit .held h h' hr h1 h2 h3

theorem mainCause_pwr (d : Dev) (bit : Nat) : (d.mainCause bit).pwr.vinOk = d.pwr.vinOk ∧ (d.mainCause bit).pwr.vinFell = d.pwr.vinFell
    ∧ (d.mainCause bit).pwr.mrstLow = d.pwr.mrstLow := by
  unfold Dev.mainCause
  split
  · exact ⟨rfl, rfl, rfl⟩
  · exact holdMain_pwr d bit .held

/-! The supplies (R42 to R45, R56) -/

theorem exec_reserveStart (testEn : Bool) (supplies : Supplies) (s : State) : exec (.reserveStart testEn supplies) s = execReserveStart testEn supplies s := rfl

theorem reserveStart_holds {s : State} (testEn : Bool) (supplies : Supplies) (hr : s.dev.pwr.reserveOn = false) :
    After (.reserveStart testEn supplies) s fun d =>
      d.pwr.reserveOn = true ∧ d.pwr.main = .held ∧ d.pwr.testEn = testEn ∧ d.pwr.vinOk = supplies.vin ∧ d.get F.RSV_TIME.COUNT = 0
        ∧ d.bit F.RSV_STATUS.VIN_OK = supplies.vin ∧ d.bit F.RSV_STATUS.VKEEP_OK = supplies.vkeep ∧ d.bit F.RSV_VWARN.BELOW = !supplies.vin := by
  have started := exec_reserveStart testEn supplies s
  rw [execReserveStart, if_neg (by rw [hr]; exact Bool.false_ne_true)] at started
  refine ⟨_, started, rfl, ?_⟩
  generalize hd : Dev.mainReset [] s.dev.tick s.dev.freeCtr s.dev.out { Pwr.first with testEn := testEn, vinOk := supplies.vin, vsdoOk := supplies.vsdo }
    s.dev.mram s.dev.mram.latch = d
  have pwr : d.pwr = { Pwr.first with testEn := testEn, vinOk := supplies.vin, vsdoOk := supplies.vsdo } := hd ▸ rfl
  have count : d.get F.RSV_TIME.COUNT = 0 := by
    rw [← hd, Dev.get]
    exact (by decide : 0 ^^^ F.RSV_TIME.COUNT.reset 0 = 0)
  clear hd
  generalize hx : ((d.setB F.RSV_STATUS.VIN_OK supplies.vin).setB F.RSV_STATUS.VKEEP_OK supplies.vkeep).setB F.RSV_VWARN.BELOW (!supplies.vin) = x
  have same : x.pwr = d.pwr := by rw [← hx, Dev.setB, Dev.setB, Dev.setB, Dev.set_pwr, Dev.set_pwr, Dev.set_pwr]
  have dead : x.live = false := by rw [Dev.live, same, pwr]; rfl
  rw [settle_dead dead, same, pwr, ← hx]
  refine ⟨rfl, rfl, rfl, rfl, ?_, ?_, ?_, Dev.bit_setB_same _ (by decide) _ (by decide) (by decide) (by decide)⟩
  · rw [Dev.get_setB_apart _ (by decide) _ (by decide) (by decide) (by decide), Dev.get_setB_apart _ (by decide) _ (by decide) (by decide) (by decide),
      Dev.get_setB_apart _ (by decide) _ (by decide) (by decide) (by decide), count]
  · rw [Dev.bit_setB_apart _ (by decide) _ (by decide) (by decide) (by decide), Dev.bit_setB_apart _ (by decide) _ (by decide) (by decide) (by decide),
      Dev.bit_setB_same _ (by decide) _ (by decide) (by decide) (by decide)]
  · rw [Dev.bit_setB_apart _ (by decide) _ (by decide) (by decide) (by decide), Dev.bit_setB_same _ (by decide) _ (by decide) (by decide) (by decide)]

theorem exec_reserveReset (s : State) : exec .reserveReset s = execReserveReset s := rfl

theorem reserveReset_empties {s : State} (hr : s.dev.pwr.reserveOn = true) :
    After .reserveReset s fun d => d.pwr.reserveOn = false ∧ d.pwr.main = .off ∧ d.regs = [] ∧ d.mram = s.dev.mram := by
  refine after_reserve (exec_reserveReset s) hr ?_
  rw [settle_dead (by rfl)]
  exact ⟨rfl, rfl, rfl, rfl⟩

theorem exec_vinBelow4v4 (s : State) : exec .vinBelow4v4 s = execVinBelow4v4 s := rfl

theorem vinBelow4v4_ends {s : State} (hr : s.dev.pwr.reserveOn = true) :
    After .vinBelow4v4 s fun d => d.pwr.vinOk = false ∧ d.pwr.vinFell = true ∧ d.live = false
      ∧ d.bit F.RSV_VWARN.BELOW = true ∧ d.bit F.RSV_STATUS.VIN_OK = false := by
  refine after_reserve ((exec_vinBelow4v4 s).trans (by rw [execVinBelow4v4])) hr ?_
  extract_lets p d1
  generalize hx : (d1.setB F.RSV_VWARN.BELOW true).setB F.RSV_STATUS.VIN_OK false = x
  have pwr : x.pwr = { s.dev.pwr with vinOk := false, vinFell := true } := by rw [← hx, Dev.setB, Dev.setB, Dev.set_pwr, Dev.set_pwr]
  have low : x.bit F.RSV_VWARN.BELOW = true := by
    rw [← hx]
    exact (Dev.bit_setB_apart _ (by decide) _ (by decide) (by decide) (by decide)).trans (Dev.bit_setB_same _ (by decide) _ (by decide) (by decide) (by decide))
  have gone : x.bit F.RSV_STATUS.VIN_OK = false := by
    rw [← hx]
    exact Dev.bit_setB_same _ (by decide) _ (by decide) (by decide) (by decide)
  obtain ⟨vin, fell, -⟩ := mainCause_pwr x 1
  rw [settle_dead (mainCause_live x 1)]
  exact ⟨by rw [vin, pwr], by rw [fell, pwr], mainCause_live x 1,
    (Dev.bit_of_get (mainCause_get x 1 (by decide) (by decide) (by decide) (by decide) (by decide) (by decide))).trans low,
    (Dev.bit_of_get (mainCause_get x 1 (by decide) (by decide) (by decide) (by decide) (by decide) (by decide))).trans gone⟩

theorem exec_vinReturn (s : State) : exec .vinReturn s = execVinReturn s := rfl

theorem vinReturn_shows {s : State} (hr : s.dev.pwr.reserveOn = true) (hv : s.dev.pwr.vinOk = false) :
    After .vinReturn s fun d => d.pwr.vinOk = true ∧ d.pwr.vinFell = false ∧ (s.dev.pwr.vinFell = true → d.bit F.RSV_WAKE_CAUSE.VIN = true)
      ∧ d.bit F.RSV_VWARN.BELOW = false ∧ d.bit F.RSV_STATUS.VIN_OK = true := by
  refine after_reserve ((exec_vinReturn s).trans (by rw [execVinReturn])) hr ?_
  rw [if_neg (fun h => by rw [hv] at h; exact Bool.false_ne_true h.1)]
  unfold Dev.vinBack
  extract_lets pwr x
  have back : x.pwr = { s.dev.pwr with vinOk := true, vinFell := false } := (Dev.set_pwr ..).trans (Dev.set_pwr ..)
  have above : x.bit F.RSV_VWARN.BELOW = false :=
    (Dev.bit_setB_apart _ (by decide) _ (by decide) (by decide) (by decide)).trans (Dev.bit_setB_same _ (by decide) _ (by decide) (by decide) (by decide))
  have good : x.bit F.RSV_STATUS.VIN_OK = true := Dev.bit_setB_same _ (by decide) _ (by decide) (by decide) (by decide)
  clear_value x
  have settled : ∀ y : Dev, y.pwr = x.pwr → y.settle.pwr.vinOk = true ∧ y.settle.pwr.vinFell = false := fun y hy => by
    have still := pwr_of_calm (calm_settle y)
    exact ⟨(congrArg Pwr.vinOk still).trans (by rw [hy, back]; rfl), (congrArg Pwr.vinFell still).trans (by rw [hy, back]; rfl)⟩
  split
  next fell =>
    obtain ⟨ok, past⟩ := settled (x.setB F.RSV_WAKE_CAUSE.VIN true) (Dev.set_pwr ..)
    exact ⟨ok, past, fun _ => (settle_bit _ (by decide)).trans (Dev.bit_setB_same _ (by decide) _ (by decide) (by decide) (by decide)),
      (settle_bit _ (by decide)).trans ((Dev.bit_setB_apart _ (by decide) _ (by decide) (by decide) (by decide)).trans above),
      (settle_bit _ (by decide)).trans ((Dev.bit_setB_apart _ (by decide) _ (by decide) (by decide) (by decide)).trans good)⟩
  next stood =>
    obtain ⟨ok, past⟩ := settled x rfl
    exact ⟨ok, past, fun fell => absurd fell stood, (settle_bit _ (by decide)).trans above, (settle_bit _ (by decide)).trans good⟩

theorem exec_mrstNLow (s : State) : exec .mrstNLow s = execMrstNLow s := rfl

theorem mrstNLow_holds {s : State} (hr : s.dev.pwr.reserveOn = true) :
    After .mrstNLow s fun d => d.pwr.mrstLow = true ∧ d.live = false := by
  refine after_reserve ((exec_mrstNLow s).trans (by rw [execMrstNLow])) hr ?_
  rw [settle_dead (mainCause_live ..)]
  exact ⟨(mainCause_pwr _ 3).2.2, mainCause_live ..⟩

/-- R507: where both safety outputs drop, both are off, and so are their readbacks. -/
theorem sdoDrop_both (d : Dev) : (d.sdoDrop true true).bit F.SAF_STATE.SDO_C = false ∧ (d.sdoDrop true true).bit F.SAF_STATE.SDO_D = false
    ∧ (d.sdoDrop true true).bit F.SAF_STATE.RB_C = false ∧ (d.sdoDrop true true).bit F.SAF_STATE.RB_D = false := by
  simp (disch := decide) [Dev.sdoDrop, Dev.bit_setB_same, Dev.bit_setB_apart]

theorem exec_vsdoLost (s : State) : exec .vsdoLost s = execVsdoLost s := rfl

theorem vsdoLost_drops {s : State} (hr : s.dev.pwr.reserveOn = true) :
    Leaves .vsdoLost s fun d => d.pwr.vsdoOk = false ∧ d.bit F.SAF_STATE.SDO_C = false ∧ d.bit F.SAF_STATE.SDO_D = false
      ∧ d.bit F.SAF_STATE.RB_C = false ∧ d.bit F.SAF_STATE.RB_D = false := by
  refine leaves_reserve ((exec_vsdoLost s).trans (by rw [execVsdoLost])) hr ?_
  unfold Dev.vsdo
  extract_lets p d1
  obtain ⟨outC, outD, backC, backD⟩ := sdoDrop_both d1
  exact ⟨congrArg Pwr.vsdoOk (pwr_of_calm (calm_sdoDrop d1 true true)), outC, outD, backC, backD⟩

/-! The save slot (R91) -/

theorem saveSpare_lt (m : Mram) : m.saveSpare < 2 := by
  unfold Mram.saveSpare
  split
  · rename_i b _
    cases b <;> decide
  · decide

/-- R91: a save stands in the spare slot, valid, with its tick. -/
theorem saveSlot_stands {d : Dev} (h : d.mram.saves.length = 2) :
    ∃ y : Save, d.saveSlot.mram.saves.getD d.mram.saveSpare none = some y ∧ y.good = true ∧ y.tick = d.tick := by
  unfold Dev.saveSlot
  extract_lets n x mram
  refine ⟨{ x with crc := crc32 x.bytes }, ?_, ?_, rfl⟩
  · rw [List.getD_eq_getElem?_getD, List.getElem?_set_self (by rw [h]; exact saveSpare_lt ..)]
    rfl
  · have same : ({ x with crc := crc32 x.bytes } : Save).bytes = x.bytes := rfl
    rw [Save.good, same, Bool.and_eq_true]
    exact ⟨rfl, beq_self_eq_true _⟩

theorem safeFlush_saves (d : Dev) : d.safeFlush.mram.saves = d.mram.saves := by
  have latched : d.latchFlush.mram.saves = d.mram.saves := by
    unfold Dev.latchFlush
    split
    · split <;> rfl
    · rfl
  have flushed : d.latchFlush.anchorFlush.mram.saves = d.mram.saves :=
    (congrArg Mram.saves (mram_of_calm (calm_anchorFlush d.latchFlush)) : _).trans latched
  have stored : ∀ e : Dev, e.safeStore.mram.saves = e.mram.saves := fun e => by
    unfold Dev.safeStore
    split <;> rfl
  unfold Dev.safeFlush
  dsimp only
  split
  · split
    · exact (stored _).trans flushed
    · exact flushed
  · exact flushed

theorem exec_saveWindowEnd (s : State) : exec .saveWindowEnd s = execSaveWindowEnd s := rfl

theorem saveWindowEnd_saves {s : State} {x : Nat} (hl : s.dev.live = true) (hw : s.dev.pwr.saveWin = true) (hd : s.dev.due .saveEnd = some x)
    (ha : s.dev.ahead x = true) (h : s.dev.mram.saves.length = 2) :
    After .saveWindowEnd s fun d => d.pwr.main = .held ∧ d.pwr.saveWin = false
      ∧ ∃ y : Save, d.mram.saves.getD s.dev.mram.saveSpare none = some y ∧ y.good = true ∧ y.tick = max s.dev.tick x := by
  refine after_main ((exec_saveWindowEnd s).trans (by rw [execSaveWindowEnd])) hl ?_
  rw [if_pos hw, fire_due hd ha, settle_dead (holdMain_held_live ..)]
  have mram : ((s.dev.until x).disarm .saveEnd).mram = s.dev.mram := (Dev.disarm_mram ..).trans (elapse_mram ..)
  obtain ⟨y, stands, good, tick⟩ := saveSlot_stands (d := (s.dev.until x).disarm .saveEnd) (by rw [mram, h])
  rw [mram] at stands
  refine ⟨rfl, rfl, y, ?_, good, tick.trans ((Dev.disarm_tick ..).trans (until_tick _ _ hl))⟩
  exact (congrArg (fun l => l.getD s.dev.mram.saveSpare none) (safeFlush_saves _)).trans stands

/-! The tick-count record (R55) -/

/-- R55: a record of the current tick, as it is stamped, stands in the spare slot, valid, with its network time. -/
theorem tickRecord_stands {d : Dev} (h : d.mram.tickRecs.length = 2) : ∃ y : MramSlot TickRec,
    d.tickRecord.mram.tickRecs.getD (mramSpare TickRec.bytes d.mram.tickRecs) none = some y ∧ y.good TickRec.bytes = true ∧ y.body.tick = d.stamp
      ∧ y.body.sec * 1000000000 + y.body.ns = (d.ntNs (d.stamp * 64)).toNat := by
  obtain ⟨y, stands, good, body⟩ := mramPut_spare TickRec.bytes h (⟨d.stamp, (d.ntNs (d.stamp * 64)).toNat / 1000000000,
    (d.ntNs (d.stamp * 64)).toNat % 1000000000, d.bit F.CHR_STATE.VALID⟩ : TickRec)
  refine ⟨y, stands, good, by rw [body], ?_⟩
  rw [body]
  exact Nat.div_add_mod' ..

theorem stamp_of_calm {d e : Dev} (h : e.calm = d.calm) : e.stamp = d.stamp :=
  stamp_of_regs (get_of_calm h (by decide)) (tick_of_calm h) (congrArg Calm.chr h)

theorem ntNs_of_calm {d e : Dev} (h : e.calm = d.calm) (x : Nat) : e.ntNs x = d.ntNs x := by
  have chr : e.chr = d.chr := congrArg Calm.chr h
  have inc : e.get F.CHR_INC.INC = d.get F.CHR_INC.INC := get_of_calm h (by decide)
  rw [Dev.ntNs, Dev.ntNs, Dev.ntAt, Dev.ntAt, Dev.nt, Dev.nt, chr, inc, tick_of_calm h]

theorem exec_tickRecordWrite (s : State) : exec .tickRecordWrite s = execTickRecordWrite s := rfl

theorem tickRecordWrite_writes {s : State} {x : Nat} (hl : s.dev.live = true) (hd : s.dev.due .tickRec = some x) (ha : s.dev.ahead x = true) :
    After .tickRecordWrite s fun d => d.tick = max s.dev.tick x ∧ d.due .tickRec = some (d.tick + 2 ^ 30)
      ∧ (s.dev.mram.tickRecs.length = 2 → ∃ y : MramSlot TickRec,
        d.mram.tickRecs.getD (mramSpare TickRec.bytes s.dev.mram.tickRecs) none = some y ∧ y.good TickRec.bytes = true ∧ y.body.tick = d.stamp
          ∧ y.body.sec * 1000000000 + y.body.ns = (d.ntNs (d.stamp * 64)).toNat) := by
  refine after_fire ((exec_tickRecordWrite s).trans (by rw [execTickRecordWrite])) hl hd ha ?_
  have mram : ((s.dev.until x).disarm .tickRec).mram = s.dev.mram := (Dev.disarm_mram ..).trans (elapse_mram ..)
  have now : ((s.dev.until x).disarm .tickRec).tick = max s.dev.tick x := (Dev.disarm_tick ..).trans (until_tick _ _ hl)
  generalize (s.dev.until x).disarm .tickRec = d at mram now
  have calm := calm_settle (d.tickRecord.arm .tickRec (2 ^ 30))
  have tick : (d.tickRecord.arm .tickRec (2 ^ 30)).settle.tick = d.tick := (tick_of_calm calm).trans rfl
  have stamp : (d.tickRecord.arm .tickRec (2 ^ 30)).settle.stamp = d.stamp := (stamp_of_calm calm).trans (stamp_of_regs rfl rfl rfl)
  have time : ∀ n, (d.tickRecord.arm .tickRec (2 ^ 30)).settle.ntNs n = d.ntNs n := fun n => (ntNs_of_calm calm n).trans rfl
  refine ⟨tick.trans now, (calm_due calm _ (by decide)).trans ((due_arm ..).trans (by rw [tick]; rfl)), fun two => ?_⟩
  obtain ⟨y, stands, good, at_, net⟩ := tickRecord_stands (d := d) (by rw [mram, two])
  rw [mram] at stands
  refine ⟨y, ?_, good, at_.trans stamp.symm, ?_⟩
  · exact (congrArg (fun m => m.tickRecs.getD (mramSpare TickRec.bytes s.dev.mram.tickRecs) none) (mram_of_calm calm) : _).trans stands
  · rw [stamp, time, net]

end Sys2Proof.Machine
end

section
/-! SUPPORT. The save window (R45, R55, R84); what settles O1. -/

namespace Sys2Proof.Machine

set_option Elab.async false

/-! What the window's opening keeps -/

/-- The supply as it is remembered, the window and its end, and the tick-count records. -/
def Dev.window (d : Dev) : Bool × Bool × Option Nat × List (Option (MramSlot TickRec)) :=
  (d.pwr.vinOk, d.pwr.saveWin, d.due .saveEnd, d.mram.tickRecs)

section
variable {d e : Dev}

theorem window_of_calm (h : e.calm = d.calm) : e.window = d.window :=
  Prod.ext (congrArg (fun x => x.pwr.vinOk) h) (Prod.ext (congrArg (fun x => x.pwr.saveWin) h)
    (Prod.ext (calm_due h _ (by decide)) (congrArg (fun x => x.mram.tickRecs) h)))

theorem window_same (hp : e.pwr = d.pwr) (ht : e.timers = d.timers) (hm : e.mram = d.mram) : e.window = d.window := by
  rw [Dev.window, Dev.window, hp, hm, Dev.due, Dev.due, ht]

end

section
variable (d : Dev)

@[simp] theorem window_set (f : Fld) (v a b c : Nat) : (d.set f v a b c).window = d.window :=
  window_same (Dev.set_pwr ..) (Dev.set_timers ..) (Dev.set_mram ..)
@[simp] theorem window_setB (f : Fld) (v : Bool) (a b c : Nat) : (d.setB f v a b c).window = d.window := window_set ..
@[simp] theorem window_inc (f : Fld) (n a b c : Nat) : (d.inc f n a b c).window = d.window := window_set ..

@[simp] theorem window_raise (s k o : Nat) (l : List Nat) (i m : Option Nat) : (d.raise s k o l i m).window = d.window := window_of_calm (calm_raise ..)

theorem window_disarm {t : Timer} (h : t ≠ .saveEnd) : (d.disarm t).window = d.window := by
  rw [Dev.window, Dev.window, due_disarm_there d _ h.symm]
  rfl

theorem window_ite {p : Prop} [Decidable p] {x y : Dev} (hx : x.window = d.window) (hy : y.window = d.window) : (if p then x else y).window = d.window := by
  split
  · exact hx
  · exact hy

theorem window_each {α : Type} {g : Dev → α → Dev} (h : ∀ e x, (g e x).window = e.window) (l : List α) : (d.each l g).window = d.window :=
  each_keeps Dev.window h l d

theorem window_refuse (op inst why : Nat) : (d.refuse op inst why).window = d.window := by
  have recorded : (d.refuseRec op inst why).window = d.window := by
    have counted : ∀ e : Dev, (e.loanLog 4 op inst (d.loanAvail (isSite op))).window = e.window := fun e => window_of_calm (calm_log ..)
    unfold Dev.refuseRec
    extract_lets d1
    exact window_ite d ((counted _).trans (window_inc ..)) ((window_raise ..).trans ((counted _).trans (window_inc ..)))
  refine Eq.trans ?_ recorded
  unfold Dev.refuse
  generalize d.refuseRec op inst why = e
  unfold Dev.refuseEffect
  split
  case h_1 => exact window_ite e rfl ((window_of_calm (calm_waitSync _)).trans rfl)
  case h_2 => exact (window_of_calm (calm_startEnd _)).trans (window_setB ..)
  case h_3 => exact window_of_calm (calm_startEnd _)
  case h_4 =>
    split
    · exact (window_raise ..).trans rfl
    · rfl
  case h_5 => exact (window_inc ..).trans rfl
  case h_6 => exact window_of_calm (calm_preFail ..)
  case h_7 => exact window_ite e (window_set ..) rfl
  case h_8 => exact (window_raise ..).trans (window_ite e ((window_of_calm (calm_pllDrop ..)).trans (window_set ..)) rfl)
  case h_9 => exact window_setB ..
  case h_10 => exact window_setB ..
  case h_11 => rfl

theorem window_elapse (n : Nat) : (d.elapse n).window = d.window := by
  obtain ⟨r, pwr⟩ := elapse_pwr d n
  rw [Dev.window, Dev.window, pwr, elapse_due, elapse_mram]

theorem window_metStop : d.metStop.window = d.window := by
  unfold Dev.metStop
  extract_lets d1 met pwr d2 d3
  have stopped : d2.window = d.window := (window_setB ..).trans ((show _ = d1.window from rfl).trans (window_inc ..))
  have silent : d3.window = d2.window := window_each d2 (fun e m => window_disarm e (by simp)) _
  exact window_ite d rfl ((window_of_calm ((calm_loanDrop ..).trans (calm_loanReturn ..))).trans ((window_disarm _ (by simp)).trans (silent.trans stopped)))

theorem window_pllOff (p : Nat) : (d.pllOff p).window = d.window := by
  unfold Dev.pllOff
  extract_lets d1 d2 clk d3 d4 d5
  have edge : d1.window = d.window := window_ite d (window_elapse ..) rfl
  have off : d3.window = d1.window := (show _ = d2.window from rfl).trans ((window_disarm _ (by simp)).trans (window_setB ..))
  have returned : d5.window = d3.window :=
    (window_of_calm ((calm_loanReturn ..).trans (calm_loanDrop ..))).trans (window_setB ..)
  have all : d5.window = d.window := returned.trans (off.trans edge)
  exact window_ite d ((window_setB ..).trans all) all

end

/-! The registers -/

/-- What the window's opening is free to change, but for the supply. -/
def windowMask : Mask := ⟨lossMask.regs ++ pllOffMask.regs ++ [F.ARC_DUMPED.BYTES, F.ARC_STATE.DUMPING], .met :: .lanes :: lossMask.parts⟩

/-- R498: what ends a dump at a supply's fall. -/
def Dev.dumpCut (d : Dev) : Dev :=
  if d.bit F.ARC_STATE.DUMPING then
    match d.reg.dump with
    | some (_, _, n, image) =>
      let k := d.dumpPart n
      let d := ((d.free).setB F.ARC_STATE.DUMPING false).set F.ARC_DUMPED.BYTES (65536 * k)
      ({ d with reg := { d.reg with dump := none } }).raise 197 0 image ([3, 0, 0, 0] ++ leBytes 4 k)
    | none => d
  else d

/-- R84: every waiting request is refused. -/
def Dev.waitsCut (d : Dev) : Dev := (({ d with loanWait := [] } : Dev).waitSync).each d.loanWait fun e q => e.refuse q.op q.inst 3

/-- R45: the lanes go dark. -/
def Dev.lanesDark (d : Dev) : Dev := d.each (List.range 96) fun e k => (e.set F.LANE_STATUS.STATE 0 k).lane k fun _ => Lane.init

/-- R45: the PLLs stop, with no demand left. -/
def Dev.pllsOff (d : Dev) : Dev :=
  (d.each [1, 2, 3] fun e p => { e.pllOff p with clk := { (e.pllOff p).clk with demand := e.clk.demand.set p [] } }).each [1, 2, 3] fun e p =>
    e.setB F.PLL_STATUS.DEMAND false p

/-- R45: the Loop Engine stops, and the loans go back. -/
def Dev.loansBack (d : Dev) : Dev := (d.set F.LE_STATUS.RATE 0).each d.loans fun e l => e.loanReturn l.op l.inst

/-- R45: what the window sheds. -/
def Dev.shed (d : Dev) : Dev := d.waitsCut.dumpCut.metStop.lanesDark.pllsOff.loansBack

/-- R45: the window opens. -/
def Dev.opening (d : Dev) : Dev := (({ d with pwr := { d.pwr with saveWin := true } } : Dev).saveBegin).arm .saveEnd (usT 2100)

theorem window_opening (d : Dev) : d.opening.window = (d.pwr.vinOk, true, some (d.tick + usT 2100), d.mram.tickRecs) := by
  rw [Dev.window, Dev.opening, due_arm]
  rfl

theorem opening_regs (d : Dev) : d.opening.regs = d.regs := rfl

theorem saveOpen_eq (d : Dev) : d.saveOpen = ((d.opening.raise 5 4 0).shed.tickRecord).anchor 2 := rfl

section
variable (d : Dev)

theorem window_dumpCut : d.dumpCut.window = d.window := by
  unfold Dev.dumpCut
  split
  · split
    · extract_lets k d1 reg
      have counted : d1.window = d.window := (window_set ..).trans ((window_setB ..).trans rfl)
      clear_value d1
      exact (window_raise ..).trans ((show _ = d1.window from rfl).trans counted)
    · rfl
  · rfl

theorem view_dumpCut : d.dumpCut.calm.view windowMask = d.calm.view windowMask := by
  unfold Dev.dumpCut
  split
  · split
    · extract_lets k d1 reg
      have counted : d1.calm.view windowMask = d.calm.view windowMask := (view_set (by decide +kernel) ..).trans ((view_setB (by decide +kernel) ..).trans rfl)
      clear_value d1
      exact (view_of_calm (calm_raise ..) _).trans ((show _ = d1.calm.view windowMask from rfl).trans counted)
    · rfl
  · rfl

theorem window_waitsCut : d.waitsCut.window = d.window :=
  (window_each _ (fun _ _ => window_refuse ..) _).trans ((window_of_calm (calm_waitSync _)).trans rfl)

theorem view_waitsCut : d.waitsCut.calm.view windowMask = d.calm.view windowMask :=
  (view_each (fun e q => view_refuse (by decide +kernel) ..) _ _).trans ((view_of_calm (calm_waitSync _) _).trans rfl)

theorem window_lane (k : Nat) (g : Lane → Lane) : (d.lane k g).window = d.window := rfl
theorem window_clk (x : Clk) : ({ d with clk := x } : Dev).window = d.window := rfl

theorem window_lanesDark : d.lanesDark.window = d.window :=
  window_each d (fun e k => (window_lane ..).trans (window_set e F.LANE_STATUS.STATE 0 k 0 0)) _

theorem view_lanesDark : d.lanesDark.calm.view windowMask = d.calm.view windowMask :=
  view_each (fun e k => (view_lane _ k (by decide +kernel) _).trans (view_set (by decide +kernel) ..)) _ _

theorem window_pllsOff : d.pllsOff.window = d.window :=
  (window_each _ (fun _ _ => window_setB ..) _).trans (window_each d (fun e p => (window_clk ..).trans (window_pllOff e p)) _)

theorem view_pllsOff : d.pllsOff.calm.view pllOffMask = d.calm.view pllOffMask := by
  have off : ∀ (e : Dev) (x : Clk), ({ e with clk := x } : Dev).calm.view pllOffMask = e.calm.view pllOffMask := fun _ _ => rfl
  exact (view_each (fun e p => view_setB (by decide +kernel) ..) _ _).trans (view_each (fun e p => (off ..).trans (pllOff_view ..)) _ _)

theorem calm_loansBack : d.loansBack.calm = d.calm :=
  (calm_each _ _ _ (fun e l => calm_loanReturn ..)).trans (calm_set _ _ _ _ _ _ (by decide))

/-- R45: what is shed keeps the window, its end and the records. -/
theorem window_shed : d.shed.window = d.window := by
  rw [Dev.shed, window_of_calm (calm_loansBack _), window_pllsOff, window_lanesDark, window_metStop, window_dumpCut, window_waitsCut]

/-- R45: what is shed leaves what shows the supply. -/
theorem view_shed : d.shed.calm.view windowMask = d.calm.view windowMask := by
  rw [Dev.shed, calm_loansBack, view_le (m := pllOffMask) (by decide +kernel) (view_pllsOff _), view_lanesDark,
    view_le (m := lossMask) (by decide +kernel) (lossView_metStop _), view_dumpCut, view_waitsCut]

/-- R45: the Loop Engine stops. -/
theorem loansBack_rate : d.loansBack.get F.LE_STATUS.RATE = 0 := by
  have returned : d.loansBack.sight loanFields = (d.set F.LE_STATUS.RATE 0).sight loanFields :=
    sight_each (d.set F.LE_STATUS.RATE 0) (g := fun e (l : Loan) => e.loanReturn l.op l.inst) (fun e l => sight_loanReturn e l.op l.inst) _
  exact (get_of_sight returned (by decide +kernel)).trans (Dev.get_set_here _ _ _ (by decide) (by decide) (by decide))

theorem dark_each (l : List Nat) {k : Nat} (hk : k < 96) : ∀ e : Dev, k ∈ l ∨ e.get F.LANE_STATUS.STATE k = 0 →
    (e.each l fun e k => (e.set F.LANE_STATUS.STATE 0 k).lane k fun _ => Lane.init).get F.LANE_STATUS.STATE k = 0 := by
  induction l with
  | nil => exact fun e h => h.resolve_left List.not_mem_nil
  | cons j l ih =>
    intro e h
    by_cases same : k = j
    · subst same
      exact ih _ (Or.inr (Dev.get_set_here e _ _ hk (by decide) (by decide)))
    · refine ih _ (h.imp (fun mem => (List.mem_cons.mp mem).resolve_left same) fun off => (Dev.get_set_ne e _ _ _ ?_).trans off)
      simp only [Fld.key, Fld.off, F.LANE_STATUS.STATE]
      omega

/-- R45: every lane is in OFF. -/
theorem shed_dark {k : Nat} (hk : k < 96) : d.shed.get F.LANE_STATUS.STATE k = 0 :=
  (get_of_calm (calm_loansBack _) (by decide) hk).trans ((get_of_view (view_pllsOff _) (by decide +kernel) hk).trans
    (dark_each _ hk _ (Or.inl (List.mem_range.mpr hk))))

end

/-! The window opens -/

section
variable (d : Dev)

theorem tickRecord_regs : d.tickRecord.regs = d.regs := rfl

/-- R45: what is shed stands through the record and the anchor the window begins with. -/
theorem saveOpen_get {f : Fld} (hf : f.calm = true) {k : Nat} (h1 : k < f.n1) (h2 : 0 < f.n2) (h3 : 0 < f.n3) :
    d.saveOpen.get f k = (d.opening.raise 5 4 0).shed.get f k := by
  rw [saveOpen_eq, get_of_calm (calm_anchor ..) hf h1 h2 h3]
  exact get_of_regs (tickRecord_regs _) ..

theorem saveOpen_shows {f : Fld} (hf : windowMask.keeps f = true) (hc : f.calm = true) (h1 : 0 < f.n1) (h2 : 0 < f.n2) (h3 : 0 < f.n3) :
    d.saveOpen.get f = d.get f := by
  rw [saveOpen_get d hc h1 h2 h3, get_of_view (view_shed _) hf h1 h2 h3, get_of_calm (calm_raise ..) hc h1 h2 h3]
  exact get_of_regs (opening_regs d) ..

theorem saveOpen_dark {k : Nat} (hk : k < 96) : d.saveOpen.get F.LANE_STATUS.STATE k = 0 :=
  (saveOpen_get d (by decide) hk (by decide) (by decide)).trans (shed_dark _ hk)

theorem saveOpen_rate : d.saveOpen.get F.LE_STATUS.RATE = 0 := by
  rw [saveOpen_eq, get_of_sight (books_anchor ..).1 (by decide +kernel)]
  exact (get_of_regs (tickRecord_regs _) ..).trans (loansBack_rate _)

theorem shed_window : (d.opening.raise 5 4 0).shed.window = (d.pwr.vinOk, true, some (d.tick + usT 2100), d.mram.tickRecs) := by
  rw [window_shed, window_raise, window_opening]

/-- R45: the window is open, and its end is set. -/
theorem saveOpen_window : d.saveOpen.pwr.saveWin = true ∧ d.saveOpen.pwr.vinOk = d.pwr.vinOk ∧ d.saveOpen.due .saveEnd = some (d.tick + usT 2100) := by
  have window := shed_window d
  rw [saveOpen_eq]
  generalize (d.opening.raise 5 4 0).shed = e at window
  have calm := calm_anchor e.tickRecord 2
  exact ⟨(congrArg (fun p => p.saveWin) (pwr_of_calm calm) :).trans (congrArg (fun x => x.2.1) window),
    (congrArg (fun p => p.vinOk) (pwr_of_calm calm) :).trans (congrArg (fun x => x.1) window),
    (calm_due calm _ (by decide)).trans (congrArg (fun x => x.2.2.1) window)⟩

/-- R55: the record of the window's instant stands in the spare slot. -/
theorem saveOpen_record (h : d.mram.tickRecs.length = 2) : ∃ y : MramSlot TickRec,
    d.saveOpen.mram.tickRecs.getD (mramSpare TickRec.bytes d.mram.tickRecs) none = some y ∧ y.good TickRec.bytes = true ∧ y.body.tick = d.saveOpen.stamp := by
  have records : (d.opening.raise 5 4 0).shed.mram.tickRecs = d.mram.tickRecs := congrArg (fun x => x.2.2.2) (shed_window d)
  rw [saveOpen_eq]
  generalize (d.opening.raise 5 4 0).shed = e at records
  obtain ⟨y, stands, good, at_, -⟩ := tickRecord_stands (d := e) (by rw [records, h])
  rw [records] at stands
  have calm := calm_anchor e.tickRecord 2
  have stamp : (e.tickRecord.anchor 2).stamp = e.stamp := (stamp_of_calm calm).trans (stamp_of_regs rfl rfl rfl)
  exact ⟨y, (congrArg (fun m => m.tickRecs.getD (mramSpare TickRec.bytes d.mram.tickRecs) none) (mram_of_calm calm) :).trans stands, good, at_.trans stamp.symm⟩

end

theorem exec_vinBelowVwarn (s : State) : exec .vinBelowVwarn s = execVinBelowVwarn s := rfl

theorem vinBelowVwarn_opens {s : State} (hr : s.dev.pwr.reserveOn = true) (hl : s.dev.live = true) (hw : s.dev.pwr.saveWin = false) :
    Leaves .vinBelowVwarn s fun d => d.pwr.saveWin = true ∧ d.pwr.vinOk = false ∧ d.due .saveEnd = some (s.dev.tick + usT 2100)
      ∧ d.bit F.RSV_VWARN.BELOW = true ∧ d.bit F.RSV_STATUS.VIN_OK = false ∧ d.get F.LE_STATUS.RATE = 0
      ∧ (∀ k < 96, d.get F.LANE_STATUS.STATE k = 0) ∧ (s.dev.mram.tickRecs.length = 2 → ∃ y : MramSlot TickRec,
        d.mram.tickRecs.getD (mramSpare TickRec.bytes s.dev.mram.tickRecs) none = some y ∧ y.good TickRec.bytes = true ∧ y.body.tick = d.stamp) := by
  refine leaves_reserve ((exec_vinBelowVwarn s).trans (by rw [execVinBelowVwarn])) hr ?_
  unfold Dev.vinLow
  extract_lets pwr x
  rw [if_pos ⟨hl, by rw [hw]; rfl⟩]
  have below : x.bit F.RSV_VWARN.BELOW = true :=
    (Dev.bit_setB_apart _ (by decide) _ (by decide) (by decide) (by decide)).trans (Dev.bit_setB_same _ (by decide) _ (by decide) (by decide) (by decide))
  have gone : x.bit F.RSV_STATUS.VIN_OK = false := Dev.bit_setB_same _ (by decide) _ (by decide) (by decide) (by decide)
  have low : x.pwr.vinOk = false := (congrArg Pwr.vinOk ((Dev.set_pwr ..).trans (Dev.set_pwr ..))).trans rfl
  have tick : x.tick = s.dev.tick := (Dev.set_tick ..).trans (Dev.set_tick ..)
  have mram : x.mram = s.dev.mram := (Dev.set_mram ..).trans (Dev.set_mram ..)
  clear_value x
  obtain ⟨win, vin, due⟩ := saveOpen_window x
  rw [tick] at due
  have record := saveOpen_record x
  rw [mram] at record
  exact ⟨win, vin.trans low, due, (Dev.bit_of_get (saveOpen_shows x (by decide +kernel) (by decide) (by decide) (by decide) (by decide))).trans below,
    (Dev.bit_of_get (saveOpen_shows x (by decide +kernel) (by decide) (by decide) (by decide) (by decide))).trans gone, saveOpen_rate x,
    fun k hk => saveOpen_dark x hk, record⟩

/-- Settles O1, event by event: what a supply's change shows is in the Reserve domain, which a reset of the main domain leaves (`holdMain_get`), and what the
save window sheds keeps the window, its end and the records (`window_shed`). -/
theorem suppliesAndSaveWindow : Obligations.SuppliesAndSaveWindow := by
  unfold Obligations.SuppliesAndSaveWindow
  exact ⟨fun _ testEn supplies hr => reserveStart_holds testEn supplies hr, fun _ hr => reserveReset_empties hr, fun _ hr => vinBelow4v4_ends hr,
    fun _ hr hv => vinReturn_shows hr hv, fun _ hr => mrstNLow_holds hr, fun _ hr => vsdoLost_drops hr, fun _ hr hl hw => vinBelowVwarn_opens hr hl hw,
    fun _ _ hl hw hd ha h => saveWindowEnd_saves hl hw hd ha h, fun _ _ hl hd ha => tickRecordWrite_writes hl hd ha⟩

end Sys2Proof.Machine
end
